-- ==== Sys2Proof/Word.lean ====
section
/-! DEFINITION. The byte and word types of the YL6480 model and their plainest arithmetic. -/

namespace Sys2Proof

/-- An octet of a message, a buffer or memory (R5). -/
abbrev Byte := BitVec 8

/-- A 64-bit engine register (R325). -/
abbrev Word64 := BitVec 64

/-- A register field of an engine instruction, g0 to g31 (R334). -/
abbrev Reg := BitVec 5

end Sys2Proof
end

