-- ==== Sys2Proof/Syntax.lean ====
section
/-! DEFINITION. The commands of the YL6480: one constructor for each row of spec/opcode_table.json, and the plain data that the
operands are made of.  A command is a message, a register write, a pin event, or an internal event of the part that the
table lists as one indivisible step. -/

namespace Sys2Proof

/-- A Crook transport (R44): a management Ethernet port, I3C, or the mailbox of the PF of an upstream port. -/
inductive Transport where
  | udp (port : Nat)
  | i3c
  | mbx (port : Nat)
deriving DecidableEq, Repr

/-- A Crook message without its OPCODE field, which the command gives (R47, R48). `flags` is the byte at offset 12,
`reserved` the three bytes at offset 13.  `dest` is where it was sent: the UDP port number, or the I3C target address; `mctp` holds the message type and
the vendor ID of its MCTP header over I3C (R44, R84).  A mailbox has neither. -/
structure CrookMsg where
  verMajor : Nat
  verMinor : Nat
  session : Nat
  sequence : Nat
  length : Nat
  status : Nat
  flags : Nat
  reserved : Nat
  body : List Byte
  tag : List Byte
  dest : Nat := 0
  mctp : Nat × Nat := (0x7E, 0x1D7E)
deriving DecidableEq, Repr

/-- A PCI function of the Tenant Function Block: the PF of a port, or VF i (from 1) of that PF (R361). -/
inductive Func where
  | pf (port : Nat)
  | vf (port : Nat) (i : Nat)
deriving DecidableEq, Repr

/-- What executes engine instructions: one of the 512 engine threads, or a Croft core (R325, R358). -/
inductive ExecUnit where
  | thread (n : Nat)
  | croft (core : Nat)
deriving DecidableEq, Repr

/-- One failure that a self-test found (R104, R461): the test number, the element as R445 encodes it, whether what failed is the
graver of the test's two parts (of a cluster its memory or mover, of ST03 the MRAM, of ST13 the governor and not the sensor numbered by
`address`), the step, the address and the difference seen. -/
structure TestFail where
  test : Nat
  element : Nat
  shared : Bool
  step : Nat
  address : Nat
  diff : Nat
deriving DecidableEq, Repr

/-- A PCIe or CXL partner's request to this device's transmitter on a port lane (R121): a preset, or the coefficients c−1, c0 and c+1. -/
structure EqRequest where
  lane : Nat
  preset : Option Nat
  coeffs : Nat × Nat × Nat
deriving DecidableEq, Repr

/-- A PCIe or CXL partner enters Recovery.Equalization (R121, R124): the port, and what the partner asks of this device's transmitter. -/
structure PartnerEq where
  port : Nat
  requests : List EqRequest
deriving DecidableEq, Repr

/-- A partner's Lane Margining command (R138): its kind and its payload. -/
structure MarginCommand where
  kind : Nat
  payload : Nat
deriving DecidableEq, Repr

/-- What the board gives a boot: STRAP[7:0] (R84), and the lane reference groups whose clock carries spread spectrum (R83). -/
structure Board where
  straps : BitVec 8
  spread : List Nat
deriving DecidableEq, Repr

/-- What a reference group's detector measures (R83, R119): the count of the last window, and whether the clock carries spread spectrum. -/
structure RefMeasure where
  count : Nat
  spread : Bool
deriving DecidableEq, Repr

/-- What training gave a PCIe or CXL link (R121, R143, R145 to R147, R151, R164): `flit` is FLIT mode at 32 GT/s or below, `linkFeature` the Data Link
Feature exchange, `cacheDevice` a Type-1 or Type-2 device on the link, `ide` that the device supports IDE and `doe` that it has a DOE SPDM mailbox, `eq` the partner's
equalisation requests. -/
structure LinkInfo where
  rate : Nat
  width : Nat
  cxl : Bool
  flit256 : Bool
  reversed : Bool
  lds : Nat
  sscPresent : Bool
  flit : Bool := false
  linkFeature : Bool := true
  cacheDevice : Bool := false
  ide : Bool := false
  doe : Bool := false
  eq : List EqRequest := []
deriving DecidableEq, Repr

/-- A function of a port's virtual switch (R148, R149, R361): the upstream switch port, a vPPB, the host memory function, the tenant PF, a VF by its
number from 1, or a function of the device behind the vPPB that the request names. -/
inductive SwitchFunc where
  | upstream
  | vppb (i : Nat)
  | memory
  | pf
  | vf (i : Nat)
  | device
deriving DecidableEq, Repr

/-- A register of a function's configuration space that the manual speaks of (R2 to R4, R146, R148 to R150, R162, R361 to R365, R385, R389), or another by
its offset. -/
inductive CfgReg where
  | vendorId | deviceId | revisionId | classCode | subsystemVendor | subsystemId | vfDeviceId
  | aerStatus | aerMask | aerHeader
  | acsCapability | acsControl
  | slotCapabilities | slotStatus | dataLinkFeature | cxlCapability
  | busNumbers | ariCapability
  | command | bar0 | vfBar0 | expressCapabilities | expressCapabilities2 | expressControl | pmCapabilities | pmControl
  | msixControl | msixTable | msixPba
  | sriovCapabilities | sriovControl | initialVfs | totalVfs | numVfs | firstVfOffset | vfStride | supportedPageSizes
  | atsCapability | atsControl | vsecHeader | verSupported | verSelect
  | other (offset : Nat)
deriving DecidableEq, Repr

/-- A CXL.io TLP kind. -/
inductive TlpKind where
  | memRd
  | memWr
  | atomicFetchAdd
  | atomicSwap
  | atomicCas
  | message
  | cpl
  | cplD
  | cfgRd (f : SwitchFunc) (r : CfgReg)
  | cfgWr (f : SwitchFunc) (r : CfgReg) (value : Nat)
  | barRd (f : SwitchFunc) (offset : Nat)
deriving DecidableEq, Repr

/-- Flaws of a received TLP that R163 and R197 name. -/
inductive TlpFlaw where
  | none
  | malformed
  | headerTooLong
  | pasid
  | poisoned
  | fcProtocol
  | unknownLd
deriving DecidableEq, Repr

/-- A CXL.io TLP as it arrives at a port. -/
structure Tlp where
  kind : TlpKind
  address : Nat
  length : Nat
  tag : Nat
  header : List Byte
  payload : List Byte
  flaw : TlpFlaw
  ld : Nat
deriving DecidableEq, Repr

/-- A host's CXL.mem request (R277): the host physical address, the length in bytes, the CXL tag, the data carried, the
byte enables, and the MetaValue of a write (`keepS`: Shared or Any, `giveUp`: Invalid, neither: it carries none). -/
structure HostReq where
  hpa : Nat
  length : Nat
  tag : Nat
  data : List Byte
  byteEn : Nat
  keepS : Bool
  giveUp : Bool
  poisoned : Bool
  badFields : Bool
deriving DecidableEq, Repr

/-- A Twill message (R170, R171); word 2 and word 3 of the extension are `addr` and `word3`. -/
structure TwillMsg where
  dst : Nat
  src : Nat
  tc : Nat
  cm : Bool
  rs : Bool
  ext : Bool
  opcode : Nat
  dcnt : Nat
  hops : Nat
  tag : Nat
  rseq : Nat
  status : Nat
  fold : Nat
  len : Nat
  addr : Nat
  word3 : Nat
  data : List Byte
  poisoned : Bool
deriving DecidableEq, Repr

/-- The content of a Twill CONFIG control message (R174). -/
structure TwillConfig where
  device : Nat
  version : Nat
  majors : Nat
  caps : Nat
  maxRate : Nat
  width : Nat
  aligned : Nat
  ack : Bool
  lane : Nat
  minors : List Nat
deriving DecidableEq, Repr

/-- A response at a port to a request it forwarded (R20, R159, R163). -/
structure PortResp where
  tag : Nat
  ok : Bool
  poisoned : Bool
  lengthOk : Bool
  data : List Byte
deriving DecidableEq, Repr

/-- A host's back-invalidate answer (R277, R278): the line by target FEID and DPA, and dirty data if any. -/
structure BiAnswer where
  target : Nat
  dpa : Nat
  dirty : Bool
  data : List Byte
deriving DecidableEq, Repr

/-- Where an SPDM or MCTP request came from (R156). -/
inductive MgmtChannel where
  | vdm (port : Nat)
  | i3c
deriving DecidableEq, Repr

/-- An SPDM request body as the management function needs it (R156). -/
structure SpdmReq where
  malformed : Bool
  session : Nat
  slot : Nat
  index : Nat
  algorithms : List Nat
  payload : List Byte
deriving DecidableEq, Repr

/-- An FM API command (R155) with the dictionary writes it stands for: index, subindex, expected version, value. -/
structure FmWrite where
  index : Nat
  sub : Nat
  expected : Nat
  value : List Byte
deriving DecidableEq, Repr

/-- A command of the four FM API command sets (R155): of the Physical Switch set, of the Virtual Switch set, of the MLD Port set and of Dynamic Capacity
Device Management.  Those that change a setting carry their writes beside. -/
inductive FmKind where
  | identifySwitch
  | portState (port : Nat)
  | portControl (port action : Nat)
  | switchInfo (port : Nat)
  | bindVppb
  | unbindVppb
  | aerEvent (port : Nat)
  | tunnel (port ld : Nat) (request : List Byte)
  | dcdInfo (port : Nat)
  | dcRegions (port : Nat)
  | setDcRegions
  | dcExtents (port : Nat)
  | dcAdd
  | dcRelease
  | deviceAdd (port ld base size : Nat)
  | deviceRelease (port ld base size : Nat)
  | ppbConfig (port offset : Nat) (write : Option Nat)
  | ldConfig (port ld offset : Nat) (write : Option Nat)
  | ldMemory (port ld address length : Nat) (data : List Byte)
deriving DecidableEq, Repr

/-- An FM API command with its writes. -/
structure FmCommand where
  kind : FmKind
  writes : List FmWrite
deriving DecidableEq, Repr

/-- One direction of an IDE stream (R157): the stream, and whether it is the transmit direction. -/
structure IdeHalf where
  stream : Nat
  tx : Bool
deriving DecidableEq, Repr

/-- A CXL.cache message (R150): the vPPB of the device that it comes from or goes to, and its octets. -/
structure CacheMsg where
  vppb : Nat
  payload : List Byte
deriving DecidableEq, Repr

/-- A die or supply measurement of one sample (R471, R472). -/
structure RegionSample where
  region : Nat
  quantity : Nat
  value : Nat
deriving DecidableEq, Repr

/-- What an Announce says of a master, in the order in which the default best master clock algorithm compares it (R466): priority1, clockClass,
clockAccuracy, offsetScaledLogVariance, priority2, the grandmaster's identity, the steps to it. -/
structure PtpRank where
  priority1 : Nat
  clockClass : Nat
  accuracy : Nat
  variance : Nat
  priority2 : Nat
  grandmaster : Nat
  steps : Nat
deriving DecidableEq, Repr

/-- An IEEE 1588 message as the servo uses it (R466, R467): the port, the transport (UDP/IPv4, or IEEE 802.3), the domain, the identity of its sender,
the interval to it, the origin time and the receive time, in ns, and what an Announce says. -/
structure PtpMsg where
  port : Nat
  udp : Bool
  domain : Nat
  source : Nat
  twoStep : Bool
  interval : Nat
  origin : Nat
  received : Nat
  sequence : Nat
  rank : PtpRank
deriving DecidableEq, Repr

/-- A change that a configuration write makes to a tenant function (R376, R383, R385, R389). -/
inductive CfgChange where
  | busMaster (on : Bool)
  | msixEnable (on : Bool)
  | functionMask (on : Bool)
  | atsEnable (on : Bool) (stu : Nat)
  | pmeEnable (on : Bool)
  | pmeStatusClear
  | numVfs (n : Nat)
deriving DecidableEq, Repr

/-- A page of an HDM decoder as the host commits it (R226). -/
structure HdmDecoder where
  base : Nat
  size : Nat
  dpa : Nat
  ways : Nat
  granularity : Nat
  position : Nat
deriving DecidableEq, Repr

/-- The fields of an F-format engine instruction (R334). -/
structure FFields where
  rd : Reg
  ra : Reg
  rb : Reg
  rc : Reg
  space : BitVec 2
  flags : BitVec 4
deriving DecidableEq, Repr

/-- Where an error in a cluster's SRAM lies (R359): the slice of a thread, or the data segment of a slot's program for a fold. -/
inductive SramPlace where
  | slice (thread : Nat)
  | segment (slot fold : Nat)
deriving DecidableEq, Repr

/-- The kind of an ECC error (R207, R246, R264, R299, R323, R359, R391, R412). -/
inductive EccKind where
  | corrected
  | uncorrectable
deriving DecidableEq, Repr

/-- What the checkers found while a message left the cell buffer, or while Commons read for it (R207, R412): nothing, a corrected cell, an
uncorrectable data or header cell, or an ECC error in a line of Commons. -/
inductive Finding where
  | clean
  | corrected
  | badData
  | badHeader
  | line (l : Nat) (k : EccKind)
deriving DecidableEq, Repr

/-- The commands and events of spec/opcode_table.json, in the order of the table but for the
instructions of engines and Croft cores, which stand first. -/
inductive Instr where
  /-- ADD (R335): Engine ADD adds two registers modulo 2^64. -/
  | add (x : ExecUnit) (rd ra rb : Reg)
  /-- SUB (R335): Engine SUB subtracts two registers. -/
  | sub (x : ExecUnit) (rd ra rb : Reg)
  /-- AND (R335): Engine AND is a bitwise and. -/
  | and (x : ExecUnit) (rd ra rb : Reg)
  /-- OR (R335): Engine OR is a bitwise or. -/
  | or (x : ExecUnit) (rd ra rb : Reg)
  /-- XOR (R335): Engine XOR is a bitwise exclusive or. -/
  | xor (x : ExecUnit) (rd ra rb : Reg)
  /-- SLL (R335): Engine SLL shifts left. -/
  | sll (x : ExecUnit) (rd ra rb : Reg)
  /-- SRL (R335): Engine SRL shifts right logically. -/
  | srl (x : ExecUnit) (rd ra rb : Reg)
  /-- SRA (R335): Engine SRA shifts right arithmetically. -/
  | sra (x : ExecUnit) (rd ra rb : Reg)
  /-- SLT (R335): Engine SLT sets on signed less-than. -/
  | slt (x : ExecUnit) (rd ra rb : Reg)
  /-- SLTU (R335): Engine SLTU sets on unsigned less-than. -/
  | sltu (x : ExecUnit) (rd ra rb : Reg)
  /-- MUL (R335): Engine MUL gives the low 64 bits of a product. -/
  | mul (x : ExecUnit) (rd ra rb : Reg)
  /-- MULHU (R335): Engine MULHU gives the high 64 bits of an unsigned product. -/
  | mulhu (x : ExecUnit) (rd ra rb : Reg)
  /-- DIVU (R335): Engine DIVU gives the unsigned quotient. -/
  | divu (x : ExecUnit) (rd ra rb : Reg)
  /-- REMU (R335): Engine REMU gives the unsigned remainder. -/
  | remu (x : ExecUnit) (rd ra rb : Reg)
  /-- MIN (R335): Engine MIN gives the signed minimum. -/
  | min (x : ExecUnit) (rd ra rb : Reg)
  /-- MAX (R335): Engine MAX gives the signed maximum. -/
  | max (x : ExecUnit) (rd ra rb : Reg)
  /-- MINU (R335): Engine MINU gives the unsigned minimum. -/
  | minu (x : ExecUnit) (rd ra rb : Reg)
  /-- MAXU (R335): Engine MAXU gives the unsigned maximum. -/
  | maxu (x : ExecUnit) (rd ra rb : Reg)
  /-- CLZ (R335): Engine CLZ counts leading zeros. -/
  | clz (x : ExecUnit) (rd ra rb : Reg)
  /-- POPC (R335): Engine POPC counts set bits. -/
  | popc (x : ExecUnit) (rd ra rb : Reg)
  /-- BSWAP (R335): Engine BSWAP reverses the bytes of a register. -/
  | bswap (x : ExecUnit) (rd ra rb : Reg)
  /-- CRC32C (R335): Engine CRC32C advances a CRC-32C register over 8 bytes. -/
  | crc32c (x : ExecUnit) (rd ra rb : Reg)
  /-- ADDI (R335): Engine ADDI adds a sign-extended immediate. -/
  | addi (x : ExecUnit) (rd ra : Reg) (imm : BitVec 16)
  /-- ANDI (R335): Engine ANDI ands a zero-extended immediate. -/
  | andi (x : ExecUnit) (rd ra : Reg) (imm : BitVec 16)
  /-- ORI (R335): Engine ORI ors a zero-extended immediate. -/
  | ori (x : ExecUnit) (rd ra : Reg) (imm : BitVec 16)
  /-- XORI (R335): Engine XORI xors a zero-extended immediate. -/
  | xori (x : ExecUnit) (rd ra : Reg) (imm : BitVec 16)
  /-- SLLI (R335): Engine SLLI shifts left by an immediate. -/
  | slli (x : ExecUnit) (rd ra : Reg) (imm : BitVec 16)
  /-- SRLI (R335): Engine SRLI shifts right logically by an immediate. -/
  | srli (x : ExecUnit) (rd ra : Reg) (imm : BitVec 16)
  /-- SRAI (R335): Engine SRAI shifts right arithmetically by an immediate. -/
  | srai (x : ExecUnit) (rd ra : Reg) (imm : BitVec 16)
  /-- SLTI (R335): Engine SLTI sets on signed less-than an immediate. -/
  | slti (x : ExecUnit) (rd ra : Reg) (imm : BitVec 16)
  /-- SLTIU (R335): Engine SLTIU sets on unsigned less-than an immediate. -/
  | sltiu (x : ExecUnit) (rd ra : Reg) (imm : BitVec 16)
  /-- LUI (R335): Engine LUI loads a shifted immediate. -/
  | lui (x : ExecUnit) (rd ra : Reg) (imm : BitVec 16)
  /-- SHLORI (R335): Engine SHLORI shifts left 16 and ors an immediate. -/
  | shlori (x : ExecUnit) (rd ra : Reg) (imm : BitVec 16)
  /-- LD8 (R331): Engine LD8 loads one byte from local memory, zero-extended. -/
  | ld8 (x : ExecUnit) (rt ra : Reg) (offset : BitVec 16)
  /-- LD16 (R331): Engine LD16 loads two bytes, zero-extended. -/
  | ld16 (x : ExecUnit) (rt ra : Reg) (offset : BitVec 16)
  /-- LD32 (R331): Engine LD32 loads four bytes, zero-extended. -/
  | ld32 (x : ExecUnit) (rt ra : Reg) (offset : BitVec 16)
  /-- LD64 (R331): Engine LD64 loads eight bytes. -/
  | ld64 (x : ExecUnit) (rt ra : Reg) (offset : BitVec 16)
  /-- LDS8 (R331): Engine LDS8 loads one byte, sign-extended. -/
  | lds8 (x : ExecUnit) (rt ra : Reg) (offset : BitVec 16)
  /-- LDS16 (R331): Engine LDS16 loads two bytes, sign-extended. -/
  | lds16 (x : ExecUnit) (rt ra : Reg) (offset : BitVec 16)
  /-- LDS32 (R331): Engine LDS32 loads four bytes, sign-extended. -/
  | lds32 (x : ExecUnit) (rt ra : Reg) (offset : BitVec 16)
  /-- ST8 (R331): Engine ST8 stores one byte to local memory. -/
  | st8 (x : ExecUnit) (rt ra : Reg) (offset : BitVec 16)
  /-- ST16 (R331): Engine ST16 stores two bytes. -/
  | st16 (x : ExecUnit) (rt ra : Reg) (offset : BitVec 16)
  /-- ST32 (R331): Engine ST32 stores four bytes. -/
  | st32 (x : ExecUnit) (rt ra : Reg) (offset : BitVec 16)
  /-- ST64 (R331): Engine ST64 stores eight bytes. -/
  | st64 (x : ExecUnit) (rt ra : Reg) (offset : BitVec 16)
  /-- LATOM (R333): Engine LATOM performs an indivisible local atomic in cluster SRAM. -/
  | latom (x : ExecUnit) (rd ra rb : Reg) (size8 : Bool) (func : BitVec 6)
  /-- BEQ (R335): Engine BEQ branches if equal. -/
  | beq (x : ExecUnit) (ra rb : Reg) (offset : BitVec 16)
  /-- BNE (R335): Engine BNE branches if not equal. -/
  | bne (x : ExecUnit) (ra rb : Reg) (offset : BitVec 16)
  /-- BLT (R335): Engine BLT branches if signed less. -/
  | blt (x : ExecUnit) (ra rb : Reg) (offset : BitVec 16)
  /-- BGE (R335): Engine BGE branches if signed greater or equal. -/
  | bge (x : ExecUnit) (ra rb : Reg) (offset : BitVec 16)
  /-- BLTU (R335): Engine BLTU branches if unsigned less. -/
  | bltu (x : ExecUnit) (ra rb : Reg) (offset : BitVec 16)
  /-- BGEU (R335): Engine BGEU branches if unsigned greater or equal. -/
  | bgeu (x : ExecUnit) (ra rb : Reg) (offset : BitVec 16)
  /-- JAL (R335): Engine JAL jumps relative and links. -/
  | jal (x : ExecUnit) (rd : Reg) (offset : BitVec 21)
  /-- JALR (R335): Engine JALR jumps through a register and links. -/
  | jalr (x : ExecUnit) (rd ra : Reg) (imm : BitVec 16)
  /-- FRD (R339): Engine FRD issues a fabric read to local memory and returns a handle. -/
  | frd (x : ExecUnit) (f : FFields)
  /-- FWR (R339): Engine FWR issues a fabric write from local memory and returns a handle. -/
  | fwr (x : ExecUnit) (f : FFields)
  /-- FATOM32 (R340): Engine FATOM32 performs a 4-byte fabric atomic and sleeps for the old value. -/
  | fatom32 (x : ExecUnit) (f : FFields)
  /-- FATOM64 (R340): Engine FATOM64 performs an 8-byte fabric atomic and sleeps for the old value. -/
  | fatom64 (x : ExecUnit) (f : FFields)
  /-- MOVE_COPY (R343): MOVE kind 0 hands a fabric-to-fabric copy to the cluster mover. -/
  | moveCopy (x : ExecUnit) (f : FFields)
  /-- MOVE_FILL (R343): MOVE kind 1 fills a range with an 8-byte pattern. -/
  | moveFill (x : ExecUnit) (f : FFields)
  /-- MOVE_ZERO (R343): MOVE kind 2 zeroes a range. -/
  | moveZero (x : ExecUnit) (f : FFields)
  /-- MOVE_LOCAL (R343): MOVE kind 3 copies up to 16 KiB from local memory to the fabric. -/
  | moveLocal (x : ExecUnit) (f : FFields)
  /-- MOVE_CHUNK_COMPLETE (R343): A mover chunk write completes and the next chunk is issued or the operation ends. -/
  | moveChunkComplete (x : ExecUnit) (handle status : Nat)
  /-- FABRIC_OP_COMPLETE (R342): A fabric operation's last message completes and its handle takes its final status. -/
  | fabricOpComplete (x : ExecUnit) (handle : Nat)
  /-- FWAITH (R342): Engine FWAITH sleeps until a handle completes, returns its result and frees it. -/
  | fwaith (x : ExecUnit) (f : FFields)
  /-- FPOLL (R342): Engine FPOLL returns a handle's result or PENDING. -/
  | fpoll (x : ExecUnit) (f : FFields)
  /-- FFENCE (R341): Engine FFENCE sleeps until every earlier fabric operation of the thread has completed. -/
  | ffence (x : ExecUnit) (f : FFields)
  /-- LEAVE (R344): Engine LEAVE asks the governor for mover steps, or with 0 releases them. -/
  | leave (x : ExecUnit) (f : FFields)
  /-- LEAVE_GRANT (R344): The governor's answer gives the thread its mover steps and raises the cluster rate. -/
  | leaveGrant (x : ExecUnit)
  /-- CSRR (R337): Engine CSRR reads a control register. -/
  | csrr (x : ExecUnit) (rd ra : Reg) (imm : BitVec 16)
  /-- CSRW (R337): Engine CSRW writes a control register or raises PRIV. -/
  | csrw (x : ExecUnit) (rd ra : Reg) (imm : BitVec 16)
  /-- WAIT (R346): Engine WAIT sleeps the thread until an enabled wake condition holds. -/
  | wait (x : ExecUnit) (rd ra : Reg) (imm : BitVec 16)
  /-- WAIT_WAKE (R346): A completion, tick boundary or tick count wakes a thread from WAIT. -/
  | waitWake (x : ExecUnit)
  /-- HALT (R329): SYS HALT waits for the thread's operations, frees handles and leave and reports status to TFB. -/
  | halt (x : ExecUnit)
  /-- TRAP (R348): SYS TRAP raises the TRAP exception. -/
  | trap (x : ExecUnit)
  /-- YIELD (R335): SYS YIELD makes the thread not ready for one cycle. -/
  | yield (x : ExecUnit)
  /-- ERET (R358): Privileged ERET returns from a Croft exception handler. -/
  | eret (x : ExecUnit)
  /-- HELLO (R52): Crook HELLO opens a session, picks its number, negotiates the version and derives the session key. -/
  | hello (tr : Transport) (src : Nat) (m : CrookMsg)
  /-- READ (R60): Crook READ returns the committed or staged value, or with the D flag the subentry descriptor. -/
  | read (tr : Transport) (src : Nat) (m : CrookMsg)
  /-- WRITE (R60): Crook WRITE applies a value at once, or with the T flag stages it in the open transaction. -/
  | write (tr : Transport) (src : Nat) (m : CrookMsg)
  /-- BLOCK_READ (R50): Crook BLOCK_READ returns consecutive subentries or part of a DOMAIN value, within the length cap. -/
  | blockRead (tr : Transport) (src : Nat) (m : CrookMsg)
  /-- BLOCK_WRITE (R50): Crook BLOCK_WRITE writes consecutive subentries whole, or one chunk of a DOMAIN value. -/
  | blockWrite (tr : Transport) (src : Nat) (m : CrookMsg)
  /-- BEGIN (R61): Crook BEGIN opens a transaction in the session and numbers it. -/
  | beginTxn (tr : Transport) (src : Nat) (m : CrookMsg)
  /-- COMMIT (R64): Crook COMMIT validates the staged writes and prepares the new state, or with the V flag only validates. -/
  | commit (tr : Transport) (src : Nat) (m : CrookMsg)
  /-- COMMIT_APPLY (R64): At the first tick boundary after validation, preparation and waits, versions and rules are rechecked and every write applies at the commit point. -/
  | commitApply
  /-- COMMIT_TIMEOUT (R65): A commit not ready within CRF_COMMIT_TIMEOUT discards its prepared state and answers TIMEOUT. -/
  | commitTimeout (session : Nat)
  /-- ROLLBACK (R67): Crook ROLLBACK discards the open transaction or cancels a waiting commit, and with the C flag closes the session. -/
  | rollback (tr : Transport) (src : Nat) (m : CrookMsg)
  /-- SUBSCRIBE (R70): Crook SUBSCRIBE registers, updates or cancels interest in one subentry or a whole index. -/
  | subscribe (tr : Transport) (src : Nat) (m : CrookMsg)
  /-- NOTIFY (R70): At a tick boundary a changed subscribed subentry whose minimum interval has passed is sent to the client. -/
  | notify
  /-- CRF_AUTH (R54): The 64th discarded message naming one session within 1 s closes the session and records an F1 fault. -/
  | crfAuth (session : Nat)
  /-- SESSION_IDLE_TIMEOUT (R56): A session that has received no message for CRF_SESSION_IDLE is closed. -/
  | sessionIdleTimeout (session : Nat)
  /-- TXN_IDLE_TIMEOUT (R68): A transaction idle for CRF_TXN_IDLE is rolled back and closed. -/
  | txnIdleTimeout (session : Nat)
  /-- PF_MBX_GO (R46): A write of 1 to GO submits the PF mailbox request buffer to Croft. -/
  | pfMbxGo (port : Nat)
  /-- PF_MBX_RSP_RELEASE (R46): A write of 1 to RSP_READY releases the mailbox response buffer. -/
  | pfMbxRspRelease (port : Nat)
  /-- PF_MBX_NTF_RELEASE (R46): A write of 1 to NTF_READY releases the notification buffer for the next NOTIFY. -/
  | pfMbxNtfRelease (port : Nat)
  /-- CRF_KEY_SLOT (R77): A write sets or empties a key slot; writing the first key closes the unauthenticated session. -/
  | crfKeySlot (session slot : Nat) (key : List Byte)
  /-- CRF_KEY_LOCK (R77): A write locks the permissions and key of the named slots until cold reset. -/
  | crfKeyLock (session mask : Nat)
  /-- CRF_FACTORY_RESET (R76): A write of 0x5AFE records a request to clear the journal at the next cold reset or power cycle. -/
  | crfFactoryReset (session value : Nat)
  /-- CRF_TRANSPORT_ENABLE (R56): A write enables or disables Crook transports and closes sessions whose transport it clears. -/
  | crfTransportEnable (session value : Nat)
  /-- CRF_MRAM_WEAR (R74): When the pass count reaches its warning or limit value a fault is recorded and at the limit persistence is disabled. -/
  | crfMramWear
  /-- GTP_VIOLATION_READ (R514): A write to the violation log read pointer consumes unread records if the value is valid. -/
  | gtpViolationRead (session value : Nat)
  /-- LOM_SAMPLE_READ (R514): A write to the Loom sample ring read pointer consumes unread records if valid. -/
  | lomSampleRead (session value : Nat)
  /-- PDK_QSAMPLE_READ (R514): A write to the queue sample ring read pointer consumes unread blocks if valid. -/
  | pdkQsampleRead (session value : Nat)
  /-- PDK_TALLY_READ (R514): A write to the tally ring read pointer consumes unread blocks if valid. -/
  | pdkTallyRead (session value : Nat)
  /-- BAR_REGISTER_WRITE (R366): A write to a PF or VF BAR register without behaviour of its own stores its fields, ignoring reserved bits and bad sizes. -/
  | barRegisterWrite (f : Func) (offset size value : Nat)
  /-- POWER_ON (R91): VDD_AON rises and the Bothy starts on the always-on rails with every slot gate clamped. -/
  | powerOn
  /-- BROWN_OUT (R505): VDD_AON falls below its brown-out threshold and the device acts as if PWRON_RST_N had been asserted. -/
  | brownOut
  /-- COLD_RESET (R93): An assertion of PWRON_RST_N clamps the slot gates, drops the switched rails in order and drives REFCLK_EN low. -/
  | coldReset
  /-- COLD_BOOT (R99): PWRON_RST_N is released, the straps are sampled and REFCLK_EN rises. -/
  | coldBoot (board : Board) (testEn : Bool)
  /-- REFCLK_VALID (R99): The Bothy measures SYS_REFCLK and the used lane references valid and enables the next rail. -/
  | refclkValid
  /-- VR_PG_RISE (R91): A switched rail reports power-good and the Bothy enables the next rail in sequence. -/
  | vrPgRise (rail : Nat)
  /-- CORE_PLL_LOCK (R99): The core PLLs lock, the DTC starts at 0, ticks begin and the Croft boot ROM runs. -/
  | corePllLock (fails : List TestFail)
  /-- SELFTEST_PHASE_B (R103): When phase A has ended and VR_PG[1] is high, the phase B tests start together. -/
  | selftestPhaseB (fails : List TestFail)
  /-- SELFTEST_PHASE_C (R103): After phase B, configuration replay and the fence policy check run. -/
  | selftestPhaseC
  /-- SYS_READY (R100): At the first tick boundary after the replay commit point SYS_READY rises and committed ports begin training. -/
  | sysReady
  /-- UART_RECOVERY_BLOCK (R105): A 1,024-byte image block arrives over UART and is acknowledged or refused by its CRC. -/
  | uartRecoveryBlock (block : List Byte) (crc : Nat)
  /-- WARM_RESET (R102): A recognised warm reset idles lanes, places Commons in self-refresh, restarts Croft and runs the warm boot. -/
  | warmReset
  /-- HRD_WARM_RESET (R108): A write of 0x7A3C requests a warm reset at the next tick. -/
  | hrdWarmReset (session value : Nat)
  /-- PINFOLD_UART_REPORT (R110): In Bothy-only Pinfold the Bothy sends its 16-byte report on UART_TX once per second. -/
  | pinfoldUartReport
  /-- FW_START (R113): CRF_FW_CTRL 1 erases the inactive firmware slot. -/
  | fwStart (session : Nat)
  /-- CRF_FW_CHUNK (R113): A write stores a 1,024-byte image chunk and advances CRF_FW_OFFSET. -/
  | crfFwChunk (session : Nat) (chunk : List Byte)
  /-- FW_FINISH (R113): CRF_FW_CTRL 2 starts verification of the received image. -/
  | fwFinish (session : Nat)
  /-- FW_VERIFY_DONE (R113): Image verification ends and CRF_FW_STATUS becomes verified or failed. -/
  | fwVerifyDone
  /-- FW_ACTIVATE (R113): CRF_FW_CTRL 3 marks the verified slot active for the next reset reaching Croft. -/
  | fwActivate (session : Nat)
  /-- FW_ABORT (R113): CRF_FW_CTRL 4 aborts the firmware update. -/
  | fwAbort (session : Nat)
  /-- PORT_PERST_N (R87): An upstream PORT_PERST_N sampled low applies a fundamental reset to the port and its functions. -/
  | portPerstN (port : Nat)
  /-- PERST_RELEASE (R87): A downstream PORT_PERST_N is driven high 100 ms after the port is enabled, slot power is good and the reference is stable. -/
  | perstRelease (port : Nat)
  /-- HOT_RESET (R96): A PCIe Hot Reset resets the port, its links and trackers. -/
  | hotReset (port : Nat)
  /-- PWR_BRAKE_N (R476): A recognised brake drops the budget to the floor and the governor withdraws mover steps and pauses scrub. -/
  | pwrBrakeN
  /-- PWR_BRAKE_RELEASE (R476): PWR_BRAKE_N sampled high restores the budget at the next tick boundary. -/
  | pwrBrakeRelease
  /-- SEL_REFCLK_LOSS (R119): Two out-of-range detector windows declare a lane reference lost and its 16 lanes go idle. -/
  | selRefclkLoss (group count1 count2 : Nat)
  /-- SEL_REFCLK_RESTORE (R119): 100 consecutive in-range windows declare the reference restored and the PLLs relock. -/
  | selRefclkRestore (group : Nat) (ref : RefMeasure)
  /-- SEL_PLL_UNLOCK (R120): A quad PLL loses lock, its lanes idle and its port's link goes down. -/
  | selPllUnlock (quad : Nat)
  /-- PLL_RELOCK (R120): The 1 ms relock attempt ends and the port retrains or the quad is fenced. -/
  | pllRelock (quad : Nat) (locked : Bool)
  /-- SEL_REEQ (R124): A write of 1 requests re-equalisation of the quad's port, asking the governor for a grant. -/
  | selReeq (session quad value : Nat)
  /-- PARTNER_EQUALIZATION (R124): A PCIe or CXL partner enters Recovery.Equalization and the device asks for a re-equalisation grant. -/
  | partnerEqualization (partner : PartnerEq)
  /-- REEQ_GRANT (R124): The governor grants the re-equalisation and the run proceeds. -/
  | reeqGrant (port : Nat)
  /-- REEQ_GRANT_TIMEOUT (R124): No grant within 2 ticks ends a partner-started run at the current coefficients, counted in SEL_EQ_DEFERRED. -/
  | reeqGrantTimeout (port : Nat)
  /-- REEQ_END (R124): A re-equalisation run ends and its grant is released. -/
  | reeqEnd (port : Nat)
  /-- ALIGNMENT_MARKER (R128): An alignment marker is received and used for deskew, lane mapping and polarity. -/
  | alignmentMarker (port lane : Nat) (am : Option (BitVec 128)) (skew : Nat)
  /-- SKIP_BLOCK (R129): At a SKIP block the receiver deletes or inserts units to bring the elastic fill nearest 64 UI. -/
  | skipBlock (port fill : Nat)
  /-- SEL_ELASTIC_ERRORS (R130): An elastic buffer overflow or underflow reports a framing loss. -/
  | selElasticErrors (quad : Nat)
  /-- LOS_ASSERT (R131): A receiver asserts LOS after 256 ns below 60 mVppd. -/
  | losAssert (lane : Nat)
  /-- LOS_RELEASE (R131): A receiver releases LOS after 1 µs above 100 mVppd. -/
  | losRelease (lane : Nat)
  /-- SEL_INJECT (R136): A write inverts one bit of each selected lane's generator output. -/
  | selInject (session quad mask : Nat)
  /-- SEL_PRBS_CLEAR (R135): A write clears the PRBS counters of the selected lanes. -/
  | selPrbsClear (session quad mask : Nat)
  /-- MARGIN_RUN_START (R139): SEL_MARGIN_CTRL with START set begins a secondary-sampler margin run on one lane. -/
  | marginRunStart (session quad : Nat) (ctrl : BitVec 32)
  /-- MARGIN_RUN_DONE (R139): A margin run ends after 2^DWELL bits with its error count. -/
  | marginRunDone (quad errors : Nat)
  /-- PARTNER_MARGIN_COMMAND (R140): A partner Lane Margining command is served and aborts any dictionary run on the lane. -/
  | partnerMarginCommand (lane : Nat) (command : MarginCommand)
  /-- LINK_UP (R100): A port's link finishes training and carries traffic with fresh credits and sequence numbers. -/
  | linkUp (port : Nat) (info : LinkInfo)
  /-- LINK_DOWN (R160): A port's link goes down; queued requests are answered, trackers marked stale and queue memory reclaimed. -/
  | linkDown (port : Nat) (fatal : Bool)
  /-- DPC_RELEASE (R162): The bound host or Croft releases DPC and the port retrains. -/
  | dpcRelease (port : Nat)
  /-- TRACKER_TIMEOUT (R159): A port tracker expires and its request completes with poison, Cmp or UR. -/
  | trackerTimeout (port tag : Nat)
  /-- PORT_RESPONSE (R20): A response arrives at a port, releases its tracker and advances the fold's meters, or is discarded as late. -/
  | portResponse (port : Nat) (r : PortResp)
  /-- CXL_IO_TLP (R232): A CXL.io TLP from a host or device is decoded, checked, shaped and forwarded. -/
  | cxlIoTlp (port : Nat) (t : Tlp)
  /-- PME_TURN_OFF (R145): An upstream port answers PME_Turn_Off with PME_TO_Ack once its functions' PME state is settled. -/
  | pmeTurnOff (port : Nat)
  /-- PME_TO_ACK (R145): A downstream partner's PME_TO_Ack ends the wait before slot power-off. -/
  | pmeToAck (port : Nat)
  /-- PME_TO_ACK_TIMEOUT (R145): The 10 ms wait for PME_TO_Ack expires and power-off continues. -/
  | pmeToAckTimeout (port : Nat)
  /-- POWER_CONTROLLER_CONTROL (R162): A directly bound host's write to Power Controller Control becomes an internal commit of slot enable. -/
  | powerControllerControl (port : Nat) (on : Bool)
  /-- ADD_CAPACITY_RESPONSE (R153): The host answers Add Capacity and acceptance is recorded per extent. -/
  | addCapacityResponse (port : Nat) (accepted : List Nat)
  /-- PRT_DC_RESPONSE (R153): No host answer within PRT_DC_RESPONSE_TIMEOUT records a fault while the binding stands. -/
  | prtDcResponse (port extent : Nat)
  /-- RELEASE_DYNAMIC_CAPACITY (R238): A host Release Dynamic Capacity response, requested or unsolicited, schedules an internal unbind. -/
  | releaseDynamicCapacity (port extent : Nat)
  /-- CLEAR_EVENT_RECORDS (R153): Clear Event Records frees Dynamic Capacity event log records. -/
  | clearEventRecords (port : Nat) (handles : List Nat)
  /-- DEVICE_DC_ADD (R154): A downstream DC device adds capacity, which becomes pool memory at the LD's FEID once accepted. -/
  | deviceDcAdd (port ld base size : Nat)
  /-- DEVICE_FORCED_REMOVAL (R154): A DC device returns capacity by forced removal and its extents answer as unrouted until released. -/
  | deviceForcedRemoval (port ld base size : Nat)
  /-- FM_API_COMMAND (R155): An FM API command is carried out as an internal commit at the next tick boundary. -/
  | fmApiCommand (ch : MgmtChannel) (command : FmCommand)
  /-- GET_VERSION (R156): SPDM GET_VERSION is answered by the management function. -/
  | getVersion (ch : MgmtChannel) (r : SpdmReq)
  /-- GET_CAPABILITIES (R156): SPDM GET_CAPABILITIES is answered. -/
  | getCapabilities (ch : MgmtChannel) (r : SpdmReq)
  /-- NEGOTIATE_ALGORITHMS (R156): SPDM NEGOTIATE_ALGORITHMS selects the supported P-384, SHA-384 and AES-256-GCM algorithms. -/
  | negotiateAlgorithms (ch : MgmtChannel) (r : SpdmReq)
  /-- GET_DIGESTS (R156): SPDM GET_DIGESTS returns certificate chain digests. -/
  | getDigests (ch : MgmtChannel) (r : SpdmReq)
  /-- GET_CERTIFICATE (R156): SPDM GET_CERTIFICATE returns the device identity chain. -/
  | getCertificate (ch : MgmtChannel) (r : SpdmReq)
  /-- CHALLENGE (R156): SPDM CHALLENGE is answered with a signed response. -/
  | challenge (ch : MgmtChannel) (r : SpdmReq)
  /-- GET_MEASUREMENTS (R156): SPDM GET_MEASUREMENTS returns the four measurement blocks. -/
  | getMeasurements (ch : MgmtChannel) (r : SpdmReq)
  /-- KEY_EXCHANGE (R156): SPDM KEY_EXCHANGE starts a secure session, at most 4 per upstream port. -/
  | keyExchange (ch : MgmtChannel) (r : SpdmReq)
  /-- FINISH (R156): SPDM FINISH completes session establishment. -/
  | finish (ch : MgmtChannel) (r : SpdmReq)
  /-- HEARTBEAT (R156): SPDM HEARTBEAT keeps a session alive. -/
  | heartbeat (ch : MgmtChannel) (r : SpdmReq)
  /-- KEY_UPDATE (R156): SPDM KEY_UPDATE updates session keys. -/
  | keyUpdate (ch : MgmtChannel) (r : SpdmReq)
  /-- END_SESSION (R156): SPDM END_SESSION closes a session. -/
  | endSession (ch : MgmtChannel) (r : SpdmReq)
  /-- IDE_KM (R157): An IDE key-management message programs link IDE keys or is discarded if out of sequence. -/
  | ideKm (port session : Nat) (go : Bool) (half : IdeHalf) (inSequence : Bool)
  /-- PRT_IDE_FAIL (R158): An IDE integrity failure makes the stream insecure and isolates the port. -/
  | prtIdeFail (port stream : Nat)
  /-- PRT_CONTROLLER (R36): A port controller checker failure isolates the port with F2. -/
  | prtController (port : Nat)
  /-- DATA_FLIT (R179): A DATA flit is accepted, discarded with NAK, or discarded as a duplicate by its SEQ. -/
  | dataFlit (port : Nat) (flit : List Byte)
  /-- CTRL_FLIT (R179): A CTRL flit's control messages are taken and a NEXT_SEQ mismatch triggers a NAK. -/
  | ctrlFlit (port : Nat) (flit : List Byte)
  /-- ACK (R178): An ACK releases replay-buffer flits and with NAK set triggers a replay. -/
  | ack (port : Nat) (nak : Bool) (seq : Nat)
  /-- CREDIT (R177): A cumulative CREDIT return updates the sender's returned count or clamps it. -/
  | credit (port : Nat) (words : List Nat)
  /-- CONFIG (R190): A Twill CONFIG exchange checks device numbers and negotiates version, capabilities, rate and width. -/
  | config (port : Nat) (c : TwillConfig)
  /-- INIT (R175): A Twill INIT advertises credits and the link becomes active after INIT_ACK. -/
  | initMsg (port : Nat) (initAck : Bool) (hdr data : List Nat)
  /-- EQ (R188): A Twill EQ request is applied within 1 µs or rejected and answered. -/
  | eq (port lane kind preset : Nat) (coeffs : List Int) (result : Nat)
  /-- RETRAIN (R191): A Twill RETRAIN request or answer starts a planned retrain, resolving collisions by device number. -/
  | retrain (port width : Nat) (eqFlag answer : Bool) (device : Nat)
  /-- ACK_TIMER (R180): 128 ns after the first unacknowledged accepted flit the receiver sends an ACK. -/
  | ackTimer (port : Nat)
  /-- CREDIT_TIMER (R177): The receiver sends a CREDIT within 128 ns of a change and at least every 1 µs. -/
  | creditTimer (port : Nat)
  /-- TWL_REPLAY_TIMER (R178): No ACK advance for TWL_REPLAY_TIMER replays every held flit. -/
  | twlReplayTimer (port : Nat)
  /-- TWL_LINK_DOWN (R181): A Twill health limit, framing loss or clock failure takes the link down and fails its trackers. -/
  | twlLinkDown (port : Nat)
  /-- TRAINING_TIMEOUT (R188): A Twill training state times out, the port returns to T.OFF and restarts 1 ms later. -/
  | trainingTimeout (port : Nat)
  /-- TRAINING_RESTART (R188): 1 ms after a training failure the Twill port starts training again. -/
  | trainingRestart (port : Nat)
  /-- TWL_RETRAIN (R191): A write sends RETRAIN with the requested width and EQ flag. -/
  | twlRetrain (session port value : Nat)
  /-- REPLAY_BUFFER_EMPTY (R191): During a planned retrain both replay buffers empty and the switch proceeds at the next AM. -/
  | replayBufferEmpty (port : Nat)
  /-- RETRAIN_HOLD_TIMEOUT (R191): A planned retrain hold longer than 10 ms takes the link down. -/
  | retrainHoldTimeout (port : Nat)
  /-- TWL_REENABLE (R181): A write of 1 clears a Twill port's health disable. -/
  | twlReenable (session port value : Nat)
  /-- TWL_TRACKER_TIMEOUT (R184): A tracker whose request left on a Twill port expires. -/
  | twlTrackerTimeout (device tag : Nat)
  /-- MGMT_REQ (R172): A TC0 management request message is delivered or forwarded. -/
  | mgmtReq (port : Nat) (m : TwillMsg)
  /-- MGMT_RSP (R172): A TC0 management response message is delivered or forwarded. -/
  | mgmtRsp (port : Nat) (m : TwillMsg)
  /-- CMP (R173): A CMP response completes its tracker, or with LINK_FAIL triggers re-issue or propagation. -/
  | cmp (port : Nat) (m : TwillMsg)
  /-- IO_CPL (R172): An IO completion without data completes its tracker. -/
  | ioCpl (port : Nat) (m : TwillMsg)
  /-- DATA (R172): A DATA response delivers data and completes its tracker. -/
  | data (port : Nat) (m : TwillMsg)
  /-- IO_CPLD (R172): An IO completion with data completes its tracker. -/
  | ioCpld (port : Nat) (m : TwillMsg)
  /-- MEM_RD (R185): A Twill MEM_RD is checked and delivered locally or forwarded toward DST. -/
  | memRd (port : Nat) (m : TwillMsg)
  /-- MEM_WR (R185): A Twill MEM_WR of full lines is checked and delivered or forwarded. -/
  | memWr (port : Nat) (m : TwillMsg)
  /-- MEM_WR_PARTIAL (R185): A Twill partial line write is checked and delivered or forwarded. -/
  | memWrPartial (port : Nat) (m : TwillMsg)
  /-- ATOMIC (R336): A Twill ATOMIC is performed at its target and the old value returned. -/
  | atomic (port : Nat) (m : TwillMsg)
  /-- IO (R172): A Twill IO message carrying one CXL.io TLP is delivered or forwarded. -/
  | io (port : Nat) (m : TwillMsg)
  /-- BULK_RD (R172): A Twill BULK_RD is delivered or forwarded. -/
  | bulkRd (port : Nat) (m : TwillMsg)
  /-- BULK_WR (R172): A Twill BULK_WR is delivered or forwarded. -/
  | bulkWr (port : Nat) (m : TwillMsg)
  /-- ON_CHIP_RESERVE_WAIT (R201): A message from an on-chip ingress is admitted once its reserve has L free cells. -/
  | onChipReserveWait (gang : Nat)
  /-- MESSAGE_START (R205): A message starts toward its output gang once staging room and egress credits are available. -/
  | messageStart (gang cls : Nat)
  /-- MESSAGE_TRANSMIT (R205): An egress transmits a message once all its cells are staged. -/
  | messageTransmit (gang cls : Nat) (found : Finding)
  /-- LOM_RESEQ_SKIP (R214): A flow's gap timer expires and E jumps to the lowest held number. -/
  | lomReseqSkip (srcDev dstEp cls : Nat)
  /-- FLOW_IDLE (R214): A flow that holds and receives nothing for 1 ms becomes idle. -/
  | flowIdle (srcDev dstEp cls : Nat)
  /-- REFILL (R216): An output's oldest spilled message is read back and linked at the tail of its queue. -/
  | refill (gang : Nat)
  /-- SAMPLE_CAPTURE (R219): Every Nth matching message a sampler writes a 160-byte record to the sample ring. -/
  | sampleCapture (sampler : Nat)
  /-- LOM_SLICE (R221): A buffer slice fails its checker and is fenced. -/
  | lomSlice (slice : Nat)
  /-- FLD_RELEASE_REQUEST (R238): A write requests release of a bound extent from its fold. -/
  | fldReleaseRequest (session extent : Nat)
  /-- RELEASE_CAPACITY_POST (R238): At the first tick boundary after the release request a Release Capacity record is posted. -/
  | releaseCapacityPost
  /-- INTERNAL_COMMIT (R239): An internal commit for a host release, FM API command or slot command applies after session commits in a tick. -/
  | internalCommit
  /-- FLD_EXTENT_ECC (R246): An uncorrectable extent or descriptor entry isolates its fold. -/
  | fldExtentEcc (fold extent : Nat)
  /-- FLD_ROUTE_ECC (R246): An uncorrectable route entry is treated as invalid until restored. -/
  | fldRouteEcc (index sub : Nat)
  /-- FLD_TABLE_ECC (R246): A correctable Fold table error is corrected and counted. -/
  | fldTableEcc (index sub : Nat)
  /-- FLD_DIRTY_WRITE (R246): A failed dirty-bitmap write isolates the fold. -/
  | fldDirtyWrite (fold : Nat)
  /-- TABLE_RESTORE (R246): Croft restores a damaged table entry from its copy within 100 µs. -/
  | tableRestore (index sub : Nat)
  /-- GTP_LOCK_REQUEST (R259): A write locks a Gatepost region entry until cold reset. -/
  | gtpLockRequest (session entry : Nat)
  /-- GTP_TABLE_ECC (R264): A Gatepost entry error is corrected or the entry denies until restored. -/
  | gtpTableEcc (entry : Nat) (err : EccKind)
  /-- MEMRD_SNPDATA (R277): A host MemRd with SnpData is answered with a shared or exclusive copy after snooping. -/
  | memrdSnpdata (port : Nat) (r : HostReq)
  /-- MEMRD_SNPINV (R277): A host MemRd with SnpInv gets ownership after every other copy is invalidated. -/
  | memrdSnpinv (port : Nat) (r : HostReq)
  /-- MEMINV (R277): A host MemInv gets ownership without data after invalidation. -/
  | meminv (port : Nat) (r : HostReq)
  /-- MEMRD_SNPCUR (R277): A host current-value read returns data without cacheable state. -/
  | memrdSnpcur (port : Nat) (r : HostReq)
  /-- MEMWR (R277): A host MemWr is a writeback from the owner or a write-invalidate otherwise. -/
  | memwr (port : Nat) (r : HostReq)
  /-- MEMWRPTL (R277): A host partial write is a writeback or write-invalidate merged by byte enables. -/
  | memwrptl (port : Nat) (r : HostReq)
  /-- MEMCLNEVCT (R277): A host clean eviction clears the port's HVEC bit. -/
  | memclnevct (port : Nat) (r : HostReq)
  /-- BIRSPI (R277): A host answers a back-invalidate with BIRspI and the transaction proceeds. -/
  | birspi (port : Nat) (a : BiAnswer)
  /-- BIRSPS (R301): A host BIRspS answer is taken as given, or as BIRspI for a BISnpInv. -/
  | birsps (port : Nat) (a : BiAnswer)
  /-- BIRSPE (R301): A host BIRspE answer is taken as BIRspI or BIRspS and recorded as a violation. -/
  | birspe (port : Nat) (a : BiAnswer)
  /-- BICONFLICT (R278): A crossing host request and back-invalidate resolve through the BIConflict exchange. -/
  | biconflict (port target dpa : Nat)
  /-- BLW_BISNP_TIMEOUT (R278): A host fails to answer a back-invalidate in time and its port is isolated. -/
  | blwBisnpTimeout (port target dpa : Nat)
  /-- BISNP (R278): A downstream HDM-DB device's BISnp invalidates all copies, writes back dirty data and is answered BIRspI. -/
  | bisnp (port ld dpa : Nat)
  /-- RD_SHARED (R283): A proxy's RD_SHARED is answered by the home with a shared, forwarder or exclusive grant. -/
  | rdShared (port : Nat) (m : TwillMsg)
  /-- RD_OWN (R283): A proxy's RD_OWN is answered with ownership after invalidation or forwarding. -/
  | rdOwn (port : Nat) (m : TwillMsg)
  /-- UPGRADE (R283): A sharer's UPGRADE is granted ownership after other sharers are invalidated. -/
  | upgrade (port : Nat) (m : TwillMsg)
  /-- RD_CUR (R283): A proxy's RD_CUR returns the current value without changing state. -/
  | rdCur (port : Nat) (m : TwillMsg)
  /-- WR_INV (R290): A proxy's write-invalidate of full lines is performed at the home. -/
  | wrInv (port : Nat) (m : TwillMsg)
  /-- WR_INV_PARTIAL (R290): A proxy's partial write-invalidate is merged at the home. -/
  | wrInvPartial (port : Nat) (m : TwillMsg)
  /-- ATOMIC_COH (R290): A coherent atomic is executed at the home after invalidation. -/
  | atomicCoh (port : Nat) (m : TwillMsg)
  /-- EVICT (R283): A proxy's EVICT removes it from the line's sharers. -/
  | evict (port : Nat) (m : TwillMsg)
  /-- DATA_S (R284): A shared data grant reaches the proxy and fills the near cache. -/
  | dataS (port : Nat) (m : TwillMsg)
  /-- DATA_F (R284): A forwarder data grant reaches the proxy. -/
  | dataF (port : Nat) (m : TwillMsg)
  /-- DATA_E (R284): An exclusive data grant reaches the proxy, ending any held TC1 message. -/
  | dataE (port : Nat) (m : TwillMsg)
  /-- DATA_M (R284): A modified data transfer from the previous owner reaches the requester. -/
  | dataM (port : Nat) (m : TwillMsg)
  /-- DATA_CUR (R284): A current-value data answer completes the proxy's read or atomic. -/
  | dataCur (port : Nat) (m : TwillMsg)
  /-- WB_M (R289): An owner's writeback is written to memory or attached to an open transaction. -/
  | wbM (port : Nat) (m : TwillMsg)
  /-- SNP_DATA_I (R283): A snooped proxy returns data and invalidates. -/
  | snpDataI (port : Nat) (m : TwillMsg)
  /-- SNP_DATA_S (R283): A snooped proxy returns data and keeps a shared copy. -/
  | snpDataS (port : Nat) (m : TwillMsg)
  /-- SNP_DATA_KEEP (R283): A snooped owner returns the current data and keeps its state. -/
  | snpDataKeep (port : Nat) (m : TwillMsg)
  /-- BW_CMP (R283): A home's completion reaches the requester. -/
  | bwCmp (port : Nat) (m : TwillMsg)
  /-- GNT_OWN (R283): An ownership grant without data completes an UPGRADE. -/
  | gntOwn (port : Nat) (m : TwillMsg)
  /-- SNP_I (R283): A snooped proxy reports it holds no copy. -/
  | snpI (port : Nat) (m : TwillMsg)
  /-- SNP_S (R282): A snooped proxy reports a shared copy. -/
  | snpS (port : Nat) (m : TwillMsg)
  /-- SNP_I_WB (R289): A snooped proxy reports invalid with writeback in flight. -/
  | snpIWb (port : Nat) (m : TwillMsg)
  /-- FWD_DONE (R283): A forwarder reports it served the requester. -/
  | fwdDone (port : Nat) (m : TwillMsg)
  /-- FWD_MISS_S (R283): A forwarder without data reports it keeps a shared copy and the home serves. -/
  | fwdMissS (port : Nat) (m : TwillMsg)
  /-- FWD_MISS_I (R283): A forwarder without data reports invalid and the home serves. -/
  | fwdMissI (port : Nat) (m : TwillMsg)
  /-- FWD_SHARED (R285): A proxy serves a forwarded shared read from its near cache or reports a miss. -/
  | fwdShared (port : Nat) (m : TwillMsg)
  /-- FWD_OWN (R285): A proxy owner passes the line to the requester or reports invalid. -/
  | fwdOwn (port : Nat) (m : TwillMsg)
  /-- SNP_INV (R285): A proxy invalidates its copy and local hosts and answers the home. -/
  | snpInv (port : Nat) (m : TwillMsg)
  /-- SNP_DATA (R285): A proxy owner returns data and keeps a shared copy. -/
  | snpData (port : Nat) (m : TwillMsg)
  /-- SNP_CUR (R285): A proxy owner returns the current value and keeps its state. -/
  | snpCur (port : Nat) (m : TwillMsg)
  /-- RETRY_SLOT_ALLOCATE (R273): A request waiting in a retry slot allocates when a transaction in its set closes. -/
  | retrySlotAllocate (bank : Nat) (deviceTier : Bool)
  /-- CONFLICT_QUEUE_PROCESS (R288): After a line's transaction closes the next queued request is processed. -/
  | conflictQueueProcess (target dpa : Nat)
  /-- WB_M_REISSUE (R292): A pinned M line's WB_M is issued again once a route to the home returns. -/
  | wbMReissue (target dpa : Nat)
  /-- BLW_LOOKUP_LINE (R276): A write places the named line's filter entry in BLW_LOOKUP_RESULT within 1 µs. -/
  | blwLookupLine (session target dpa : Nat)
  /-- BLW_FLUSH_FOLD (R297): A write starts a fold flush and requests its 4 GU grant. -/
  | blwFlushFold (session fold : Nat)
  /-- BULK_FLUSH_GRANT (R300): The governor grants a bulk flush its 4 GU and the sweep starts. -/
  | bulkFlushGrant
  /-- FLUSH_END (R298): A bulk flush ends, its grant is released and its state reported. -/
  | flushEnd
  /-- BLW_SET_ECC (R299): A filter set error is corrected or the set is rebuilt from its duplicate tags. -/
  | blwSetEcc (bank set : Nat) (err : EccKind) (bothCopies : Bool)
  /-- SET_REBUILD_TIMEOUT (R299): 200 µs after a rebuild started, lines without every answer are poisoned. -/
  | setRebuildTimeout (bank set : Nat)
  /-- BLW_NEAR_ECC (R287): A near-cache line error drops a clean line or writes back a dirty one poisoned. -/
  | blwNearEcc (target dpa : Nat)
  /-- TICK_BOUNDARY (R29): At each multiple of 1,000 ns the tick-bound jobs run. -/
  | tickBoundary
  /-- TICK_JOB_OVERRUN (R31): A tick job exceeds its budget, its sample is marked missed and F1 is recorded. -/
  | tickJobOverrun (job late : Nat)
  /-- LANE_EVALUATE (R311): A Paddock lane head that becomes eligible is released by deficit round robin and linked to Loom. -/
  | laneEvaluate (gang : Nat)
  /-- QSAMPLE_CAPTURE (R314): Every PDK_QSAMPLE_PERIOD ticks the selected queues are captured into a sample block. -/
  | qsampleCapture (overrun : Bool)
  /-- TALLY_BLOCK (R320): At the end of a tally interval Paddock writes a tally block or merges it if the ring is full. -/
  | tallyBlock
  /-- PDK_HIST_CLEAR (R316): A write clears one fold's or every fold's latency histogram. -/
  | pdkHistClear (session value : Nat)
  /-- PDK_BUCKET_ECC (R323): A bucket error is corrected or the bucket is reset to level 0. -/
  | pdkBucketEcc (fold bucket : Nat) (err : EccKind)
  /-- PDK_METER_ECC (R323): A meter error is corrected or the meter restored from the last snapshot. -/
  | pdkMeterEcc (fold meter : Nat) (err : EccKind) (bothCopies : Bool)
  /-- DISPATCH (R327): A fetched descriptor is dispatched to an idle thread of an eligible cluster. -/
  | dispatch
  /-- TIME_LIMIT (R349): A thread still running after its time limit takes the TIME_LIMIT exception. -/
  | timeLimit (x : ExecUnit)
  /-- LOAD_START (R353): DRV_LOAD_CTRL 1 starts loading a program image into a slot. -/
  | loadStart (session : Nat)
  /-- DRV_LOAD_CHUNK (R353): A write stores the next 1,024-byte program image chunk. -/
  | drvLoadChunk (session : Nat) (chunk : List Byte)
  /-- LOAD_FINISH (R353): DRV_LOAD_CTRL 2 starts verification of the loaded image. -/
  | loadFinish (session : Nat)
  /-- LOAD_VERIFY_DONE (R353): Program verification ends and the slot is loaded or stays empty with DRV_LOAD recorded. -/
  | loadVerifyDone
  /-- LOAD_ABORT (R353): DRV_LOAD_CTRL 3 aborts the program load. -/
  | loadAbort (session : Nat)
  /-- LOAD_UNLOAD (R353): DRV_LOAD_CTRL 4 stops the slot's threads with reason 4 and begins unloading. -/
  | loadUnload (session : Nat)
  /-- UNLOAD_COMPLETE (R353): At the first tick boundary after the threads stopped, residency and segments are removed. -/
  | unloadComplete (slot : Nat)
  /-- ZERO_RELEASE (R356): A released extent that has drained is zeroed in fold 0 before it may be bound again. -/
  | zeroRelease (extent : Nat) (ok : Bool)
  /-- DRV_ZERO_RETRY (R356): A write retries zeroing of an extent whose zeroing failed. -/
  | drvZeroRetry (session extent : Nat)
  /-- DRV_HOTPAGE_FOLD (R357): A write starts or stops HOT_PAGES sampling for a fold. -/
  | drvHotpageFold (session fold : Nat)
  /-- HOTPAGE_PUBLISH (R357): Each tally interval HOT_PAGES publishes the 256 most-sampled pages and clears its counts. -/
  | hotpagePublish
  /-- DRV_ENGINE_FENCE (R360): A write of 1 fences the engine until the next reset running ST09. -/
  | drvEngineFence (session engine value : Nat)
  /-- DRV_ENGINE (R359): An engine checker failure fences the engine and stops its threads. -/
  | drvEngine (engine : Nat)
  /-- DRV_CLUSTER (R359): A cluster memory or mover failure isolates the cluster and stops its threads. -/
  | drvCluster (cluster : Nat)
  /-- DRV_SRAM_ECC (R359): A slice or data-segment ECC error is corrected or raises MEMORY for readers. -/
  | drvSramEcc (cluster : Nat) (err : EccKind) (place : SramPlace)
  /-- VF_SQ_TAIL (R372): A submission doorbell posts descriptors or stops the queue on a bad tail. -/
  | vfSqTail (port i q value : Nat)
  /-- VF_CQ_HEAD (R372): A completion head doorbell releases completion entries or stops the queue. -/
  | vfCqHead (port i q value : Nat)
  /-- SQ_ENABLE (R372): Setting ENABLE of a submission queue resets its head and tail if its CQ is enabled. -/
  | sqEnable (port i q : Nat)
  /-- SQ_DISABLE (R373): Clearing ENABLE stops fetching and completes undispatched descriptors with ABORTED. -/
  | sqDisable (port i q : Nat)
  /-- CQ_ENABLE (R372): Setting ENABLE of a completion queue resets its tail and phase. -/
  | cqEnable (port i q value : Nat)
  /-- CQ_DISABLE (R372): Clearing ENABLE of a completion queue takes effect unless an enabled SQ names it. -/
  | cqDisable (port i q value : Nat)
  /-- VF_ERR (R380): A write of 1 clears a queue's error bit so it can be enabled again. -/
  | vfErr (port i value : Nat)
  /-- PF_INT_CAUSE (R366): A write of 1 clears PF interrupt cause bits. -/
  | pfIntCause (port value : Nat)
  /-- PF_VF_EVENT (R367): A write of 1 clears VF event bits. -/
  | pfVfEvent (port offset size value : Nat)
  /-- MSIX_UNMASK (R383): Unmasking a vector with its PBA bit set sends the pending message. -/
  | msixUnmask (f : Func) (vector : Nat)
  /-- DESCRIPTOR_FETCH (R376): TFB fetches a descriptor from host memory when its VF may fetch and a CQ slot is free. -/
  | descriptorFetch
  /-- DESCRIPTOR_FETCHED (R380): A descriptor fetch returns and the descriptor is checked, or a failed fetch stops the SQ with FETCH_ERROR. -/
  | descriptorFetched (v status : Nat) (desc : List Byte)
  /-- NOP (R375): A NOP descriptor completes in TFB in its turn. -/
  | nop (v q : Nat)
  /-- COPY (R355): A COPY descriptor runs the COPY service program. -/
  | copy (x : ExecUnit)
  /-- FILL (R355): A FILL descriptor runs the FILL service program. -/
  | fill (x : ExecUnit)
  /-- ZERO (R355): A ZERO descriptor runs the ZERO service program. -/
  | zero (x : ExecUnit)
  /-- CRC32C_DESCRIPTOR (R375): A CRC32C descriptor runs the CRC32C service program. -/
  | crc32cDescriptor (x : ExecUnit)
  /-- COMPARE (R375): A COMPARE descriptor finds the first differing byte offset. -/
  | compare (x : ExecUnit)
  /-- RUN (R378): A RUN descriptor is dispatched to a resident customer program permitted for the fold. -/
  | run (v q : Nat)
  /-- FENCE (R377): A FENCE descriptor completes after every earlier descriptor of its SQ. -/
  | fence (v q : Nat)
  /-- TFB_CPL_WRITE (R382): A failed completion write stops the CQ and its SQs' dispatch. -/
  | tfbCplWrite (v q : Nat)
  /-- CQ_MOD_TIMER (R383): A CQ moderation timer expires and the vector is signalled or its PBA set. -/
  | cqModTimer (v q : Nat)
  /-- VF_ENABLE (R362): VF Enable with a valid NumVFs enables the VFs. -/
  | vfEnable (port : Nat) (on : Bool)
  /-- MAJOR_SELECT (R365): A write selects the TFB interface major while VF Enable is clear. -/
  | majorSelect (port value : Nat)
  /-- INITIATE_FLR (R387): A function-level reset stops fetch and dispatch and stops the VF's threads. -/
  | initiateFlr (f : Func)
  /-- FLR_COMPLETE (R387): When no tracker remains or 100 µs pass, the VF's registers reset and its event bit is set. -/
  | flrComplete (v : Nat)
  /-- D3HOT_ENTRY (R385): A function placed in D3hot stops fetching and converts due signals to PME. -/
  | d3hotEntry (f : Func)
  /-- D0_RETURN (R385): A function returned to D0 resumes fetching and delivers held messages. -/
  | d0Return (f : Func)
  /-- TRANSLATION_COMPLETION (R389): An ATS Translation Completion fills the translation cache and releases the waiting access. -/
  | translationCompletion (f : Func) (address translated : Nat) (granted : Bool)
  /-- INVALIDATE_REQUEST (R389): An ATS Invalidate Request drops entries and is completed within 1 ms. -/
  | invalidateRequest (f : Func) (address size : Nat)
  /-- TFB_QUEUE_ECC (R391): A queue RAM error is corrected or stops the affected VF's queues. -/
  | tfbQueueEcc (v : Nat) (err : EccKind)
  /-- FREEZE (R393): PF_VFC_CMD FREEZE stops fetching for the VF. -/
  | freeze (port i : Nat)
  /-- FREEZE_DONE (R393): Once every dispatched descriptor has completed the VF is frozen. -/
  | freezeDone (port i : Nat)
  /-- SAVE (R393): PF_VFC_CMD SAVE writes the VF image to host memory. -/
  | save (port i : Nat)
  /-- SAVE_DONE (R393): The image write ends and the VF returns to frozen with its result. -/
  | saveDone (port i status : Nat)
  /-- RESTORE (R393): PF_VFC_CMD RESTORE reads a VF image from host memory. -/
  | restore (port i : Nat)
  /-- RESTORE_DONE (R397): The image is checked and loaded, leaving the VF frozen, or rejected. -/
  | restoreDone (port i status : Nat) (image : List Byte)
  /-- RESUME (R394): PF_VFC_CMD RESUME restarts the VF, dispatching carried descriptors first. -/
  | resume (port i : Nat)
  /-- REBIND_OWNER_CHANGE (R399): After the flush an internal commit moves the fold to the new owner and VFs, advancing its epoch. -/
  | rebindOwnerChange
  /-- REBIND_RELEASE (R399): Once the old epoch drained and events are written an internal commit clears FROZEN. -/
  | rebindRelease
  /-- HARVEST_START (R404): MIG_HV_CTRL 1 starts copying and clearing a range of a fold's dirty bitmap to a host. -/
  | harvestStart (session : Nat)
  /-- HARVEST_STOP (R405): MIG_HV_CTRL 2 stops the harvest after the line in progress. -/
  | harvestStop (session : Nat)
  /-- HARVEST_DONE (R405): A harvest ends, or fails restoring the bits of its failing line. -/
  | harvestDone (status : Nat)
  /-- SCRUB_BURST (R414): With its 2 GU grant a scrub burst reads 1 GiB of lines. -/
  | scrubBurst (findings : List (Nat × EccKind))
  /-- SCRUB_BURST_END (R414): A scrub burst ends and its grant is released. -/
  | scrubBurstEnd
  /-- CMN_SCRUB_BEHIND (R414): A scrub pass that cannot end within its period is counted once per period. -/
  | cmnScrubBehind
  /-- CMN_TEMP (R414): A 1 ms die temperature read adjusts refresh and reports out-of-range dies. -/
  | cmnTemp (channel code : Nat) (outOfRange : Bool)
  /-- CMN_CHANNEL (R421): A channel loses training or shows parity errors and F3 causes a warm reset. -/
  | cmnChannel (channel : Nat)
  /-- EXTERNAL_LINE_CHANGE (R427): An external line's level passes the glitch filter and its CIC source changes state. -/
  | externalLineChange (line : Nat) (level : Bool) (held : Nat)
  /-- CIC_CLAIM (R431): A read of CIC_CLAIM claims the highest-priority eligible source. -/
  | cicClaim (target : Nat)
  /-- CIC_COMPLETE (R432): A write completes a claimed source, which becomes idle or pending again. -/
  | cicComplete (target : Nat) (value : BitVec 32)
  /-- CIC_GLOBAL (R434): A write of DISABLE holds or resumes interrupt delivery. -/
  | cicGlobal (value : BitVec 32)
  /-- TALLY_OVERFLOW (R441): A counter passing 2^48 − 1 reloads, sets its flag and may assert its bank's source. -/
  | tallyOverflow (counter events : Nat)
  /-- CRF_TALLY_OVF_CLEAR (R441): A write clears a counter's overflow flag. -/
  | crfTallyOvfClear (session counter : Nat)
  /-- HRD_FAULT_ACK (R460): A write acknowledges fault records up to a sequence and may release ALERT_N. -/
  | hrdFaultAck (session seq : Nat)
  /-- ISOLATION_RETURN (R448): At the tick boundary after acknowledgement isolated elements return. -/
  | isolationReturn
  /-- HRD_FAULT_INJECT (R462): A write raises one injected event of a source against an element. -/
  | hrdFaultInject (session value : Nat)
  /-- BOTHY_WINDOW_ADVANCE (R453): Without tick boundaries the collector advances promotion sub-windows each microsecond. -/
  | bothyWindowAdvance
  /-- CRF_CORE (R36): A Croft core checker failure fences the core and moves its work. -/
  | crfCore (core : Nat)
  /-- CRF_MGMT_PORT (R36): A management Ethernet port fails and the other carries Crook and PTP. -/
  | crfMgmtPort (port : Nat)
  /-- SYNC (R467): A PTP Sync updates the servo rate and offset. -/
  | sync (m : PtpMsg)
  /-- DELAY_RESP (R466): A PTP Delay_Resp completes an end-to-end delay measurement. -/
  | delayResp (m : PtpMsg)
  /-- ANNOUNCE (R466): A PTP Announce feeds the best master clock algorithm. -/
  | announce (m : PtpMsg)
  /-- PTP_HOLDOVER (R467): Three Sync intervals without a valid Sync enter holdover. -/
  | ptpHoldover
  /-- PTP_UNLOCK (R467): Holdover longer than HRD_PTP_HOLDOVER unlocks the servo. -/
  | ptpUnlock
  /-- TS_PPS_IN (R467): A TS_PPS_IN rising edge sets phase or is rejected outside its window. -/
  | tsPpsIn (error : Int)
  /-- TS_PPS_OUT (R467): At each whole second of disciplined time TS_PPS_OUT rises for 100 ms. -/
  | tsPpsOut
  /-- HRD_REGION (R471): A 10 µs sample finds a region limit exceeded and throttles the region. -/
  | hrdRegion (r : RegionSample)
  /-- REGION_THROTTLE_RELEASE (R471): After 1 ms inside the release level a region throttle ends. -/
  | regionThrottleRelease (region : Nat)
  /-- HRD_THERMAL (R472): The hottest sensor reaches the threshold and the budget starts to fall. -/
  | hrdThermal (sensor : Nat) (temp : Int)
  /-- BUDGET_STEPDOWN (R472): Each 1 ms above the threshold the budget falls by 64 GU, and clocks are gated above threshold + 5 °C. -/
  | budgetStepdown (temp : Int)
  /-- THERMAL_RELEASE (R472): The sensor falls 5 °C below threshold, gating ends and the budget returns. -/
  | thermalRelease (temp : Int)
  /-- HRD_THERMAL_CRITICAL (R472): A sensor reaches 115 °C and F4 enters the Pinfold state. -/
  | hrdThermalCritical (sensor : Nat) (temp : Int)
  /-- HRD_REFCLK_LOSS (R37): Loss of SYS_REFCLK is an F4 fault. -/
  | hrdRefclkLoss
  /-- HRD_SUPPLY (R446): Loss of VR_PG of an enabled switched rail is an F4 fault. -/
  | hrdSupply (rail : Nat)
  /-- PMBUS_POLL (R473): Every 1 ms Hurdle reads voltage, current and power from each configured regulator. -/
  | pmbusPoll (powers : List (Option Nat))
  /-- GOVERNOR_BASE_UPDATE (R475): Every 1 ms the governor recomputes its base from measured power. -/
  | governorBaseUpdate
  /-- FALLOW_REQUEST (R478): HRD_PSTATE_REQUEST 2 makes Croft enter WAIT with the P2 mode bits set. -/
  | fallowRequest (session : Nat)
  /-- FALLOW_GATE (R478): A region of the fallow set is gated once it meets its condition. -/
  | fallowGate (region : Nat)
  /-- FALLOW_WAKE (R478): A fallowed region wakes for a commit, a dispatch need or an eligible CIC source. -/
  | fallowWake (region : Nat)
  /-- WINTERING_REQUEST (R479): HRD_PSTATE_REQUEST 3 enters P3, saving retention and dropping the switched rails. -/
  | winteringRequest (session : Nat)
  /-- WAKE_TIMER (R480): The Bothy counter reaches HRD_WAKE_TIMER and wakes the device. -/
  | wakeTimer
  /-- WAKE_EVENT (R481): A wake source in P3 raises the rails, relocks clocks and reloads the DTC. -/
  | wakeEvent (cause : Nat)
  /-- WAKE_RETRY (R482): A failed wake attempt drops the rails and retries, and the third failure records HRD_WAKE_FAIL. -/
  | wakeRetry
  /-- WAKE_COMPLETE (R481): At the first tick boundary after Commons retrains SYS_READY rises and ticks resume. -/
  | wakeComplete
  /-- HRD_PAD_RELEASE (R481): A write releases held SW pads so lanes leave idle and ports train. -/
  | hrdPadRelease (session value : Nat)
  /-- SLOT_GRANT_REQUEST (R487): An enabled slot channel in WAIT requests its grant once PWRFAIL_N is released. -/
  | slotGrantRequest (n : Nat)
  /-- SLOT_GRANT (R488): The governor grants the slot and the channel enters RAMP. -/
  | slotGrant (n : Nat)
  /-- SLOT_ON (R487): The output reaches the input less 0.2 V and the channel enters ON. -/
  | slotOn (n vout vin : Nat)
  /-- POWER_GOOD_ASSERT (R496): After 1 ms above 11.0 V with the fault timer idle power-good asserts and the grant is released. -/
  | powerGoodAssert (n : Nat)
  /-- POWER_GOOD_RELEASE (R496): Three samples below 10.8 V with the timer idle release power-good. -/
  | powerGoodRelease (n vout : Nat)
  /-- CURRENT_LIMIT (R490): The current reaches the limit, is regulated there and the fault timer starts. -/
  | currentLimit (n current : Nat)
  /-- FAULT_TIMER_EXPIRY (R490): The fault timer reaches HRD_SLOT_FAULT_TIME and the channel trips. -/
  | faultTimerExpiry (n : Nat)
  /-- SHORT_CIRCUIT (R491): The short-circuit comparator pulls the gate within 1 µs and trips the channel. -/
  | shortCircuit (n sense : Nat)
  /-- FET_OVERTEMP (R492): The modelled or measured FET temperature reaches 150 °C and trips the channel. -/
  | fetOvertemp (n : Nat) (modelled thermistor : Int)
  /-- THERMISTOR_OUT_OF_RANGE (R492): An invalid thermistor reading is replaced by ambient and raises the CIC source. -/
  | thermistorOutOfRange (n : Nat) (reading : Int)
  /-- RAMP_TIMEOUT (R489): The output fails to reach 11.0 V in time and the channel trips. -/
  | rampTimeout (n : Nat)
  /-- HRD_SLOT_FET (R494): An output above 1 V for 5 ms with the gate off records a damaged FET. -/
  | hrdSlotFet (n vout held : Nat)
  /-- PWRFAIL_ASSERT (R497): The slot input falls below 10.5 V and SLOTn_PWRFAIL_N is asserted. -/
  | pwrfailAssert (n vin : Nat)
  /-- PWRFAIL_RELEASE (R497): After 1 ms above 10.7 V SLOTn_PWRFAIL_N is released. -/
  | pwrfailRelease (n vin : Nat)
  /-- SLOT_GATE_OFF (R498): At least 100 µs after PERST the gate is commanded off and the channel enters OFF. -/
  | slotGateOff (n : Nat)
  /-- CHECKER_LOCK (R135): The PRBS checker locks after 128 consecutive error-free bits and its counters start counting. -/
  | checkerLock (lane : Nat) (rx : List Bool)
  /-- CHECKER_LOCK_LOSS (R135): The PRBS checker loses lock when 64 or more of 1,024 consecutive bits are wrong, and its counters stop. -/
  | checkerLockLoss (lane bits errors : Nat)
  /-- ASPM_L1_ENTRY (R145): A PCIe or CXL link enters ASPM L1. -/
  | aspmL1Entry (port : Nat)
  /-- L1_EXIT_COMPLETE (R386): A link that the port brought out of L1 reaches L0, and the waiting completion write, MSI-X or PM_PME message is sent. -/
  | l1ExitComplete (port : Nat)
  /-- PERST_DEASSERT (R101): A host releases the PORT_PERST_N of an upstream port, and the port leaves fundamental reset and begins Detect, or does so at SYS_READY. -/
  | perstDeassert (port : Nat)
  /-- HDM_DECODER_COMMIT (R226): The host commits an HDM decoder of the host memory function, which changes decode step 1 from then on. -/
  | hdmDecoderCommit (port n : Nat) (d : HdmDecoder)
  /-- CONFIGURATION_WRITE (R376): A host configuration write sets Bus Master Enable, MSI-X Enable or the function mask, ATS Enable, or PME_En or PME_Status of a tenant function, which changes READY, fetching, signalling or translation. -/
  | configurationWrite (f : Func) (c : CfgChange)
  /-- CXL_CACHE_MESSAGE (R150): A CXL.cache message passes between a host and a directly bound Type-1 or Type-2 device, or is discarded on a port not in direct binding. -/
  | cxlCacheMessage (port : Nat) (message : CacheMsg)
  /-- UPDATE_FC (R205): A PCIe or CXL link partner returns flow-control credits, which lets messages waiting for egress credit start. -/
  | updateFc (port channel hdr data : Nat)
  /-- DEBUG_MASTER_ACCESS (R261): The debug master issues a read or write through JTAG, which Gatepost checks as fold 0 with DEBUG 1. -/
  | debugMasterAccess (write : Bool) (target address length : Nat) (data : List Byte)
  /-- DRV_PROG_KEY_LOCK (R360): A write locks the named DRV_PROG_KEY slots until cold reset. -/
  | drvProgKeyLock (session mask : Nat)
  /-- FOLLOW_UP (R466): A two-step master's Follow_Up message delivers the precise origin time of a Sync to the servo. -/
  | followUp (m : PtpMsg)
  /-- FAULT_TIMER_STOP (R490): After 10 consecutive samples below 95 % of the limit, the slot fault timer stops and returns to 0. -/
  | faultTimerStop (n : Nat)
  /-- ILLEGAL_ENCODING (R335): An engine thread issues an instruction with an unlisted opcode, FUNC, CSR number or SYS code, and takes the ILLEGAL exception. -/
  | illegalEncoding (x : ExecUnit) (w : BitVec 32)
  /-- SUBSYSTEM_RESET_DONE (R449): A Drover or TFB subsystem reset ends after its self-test, and dispatch or queues resume. -/
  | subsystemResetDone (subsystem : Nat) (fails : List TestFail)
  /-- CLUSTER_RETEST_DONE (R448): The ST09 cluster tests of a returning engine cluster end, and the cluster takes dispatch or stays fenced with HRD_SELFTEST recorded. -/
  | clusterRetestDone (cluster : Nat) (pass : Bool)
deriving DecidableEq, Repr

end Sys2Proof
end

