-- ==== Sys2Proof/Decode.lean ====
section
/-! DEFINITION. Words and commands: spec/opcode_table.json gives none of its 425 rows a bit, so no word spells a command of the table; the 32-bit words of
Drover's programs have the formats A, I, M, F and J of R334 and the codes of R335. -/

namespace Sys2Proof

/-- The command that a word spells by the bits of the table. -/
def decodeTableWord (_nbits _w : Nat) : Option Instr := none

/-! ### Instruction words of engines and Croft cores (R334, R335) -/

/-- Bits `hi` to `lo` of an instruction word. -/
def wordBits (w hi lo : Nat) : Nat := w / 2 ^ lo % 2 ^ (hi + 1 - lo)

/-- The register number that starts at bit `lo`. -/
def wordReg (w lo : Nat) : Reg := BitVec.ofNat 5 (wordBits w (lo + 4) lo)

/-- Format F: rd, ra, rb, rc, SPACE, FLAGS. -/
def wordF (w : Nat) : FFields :=
  { rd := wordReg w 21, ra := wordReg w 16, rb := wordReg w 11, rc := wordReg w 6
    space := BitVec.ofNat 2 (wordBits w 5 4), flags := BitVec.ofNat 4 (wordBits w 3 0) }

/-- The register instructions: format A with OP 0, by FUNC. -/
def registerWord (x : ExecUnit) (w : Nat) : Option Instr :=
  let rd := wordReg w 21
  let ra := wordReg w 16
  let rb := wordReg w 11
  let one := fun (i : Instr) => if rb = 0 then some i else none
  if wordBits w 10 6 ≠ 0 then none else
  match wordBits w 5 0 with
  | 0x00 => some (.add x rd ra rb)
  | 0x01 => some (.sub x rd ra rb)
  | 0x02 => some (.and x rd ra rb)
  | 0x03 => some (.or x rd ra rb)
  | 0x04 => some (.xor x rd ra rb)
  | 0x05 => some (.sll x rd ra rb)
  | 0x06 => some (.srl x rd ra rb)
  | 0x07 => some (.sra x rd ra rb)
  | 0x08 => some (.slt x rd ra rb)
  | 0x09 => some (.sltu x rd ra rb)
  | 0x0A => some (.mul x rd ra rb)
  | 0x0B => some (.mulhu x rd ra rb)
  | 0x0C => some (.divu x rd ra rb)
  | 0x0D => some (.remu x rd ra rb)
  | 0x0E => some (.min x rd ra rb)
  | 0x0F => some (.max x rd ra rb)
  | 0x10 => some (.minu x rd ra rb)
  | 0x11 => some (.maxu x rd ra rb)
  | 0x12 => one (.clz x rd ra rb)
  | 0x13 => one (.popc x rd ra rb)
  | 0x14 => one (.bswap x rd ra rb)
  | 0x15 => some (.crc32c x rd ra rb)
  | _ => none

/-- The instructions with an immediate, a local address or a branch offset: formats I, M and J, OP 0x01 to 0x1B and 0x20 to 0x27, and LATOM. -/
def immediateWord (x : ExecUnit) (w : Nat) : Option Instr :=
  let rd := wordReg w 21
  let ra := wordReg w 16
  let imm := BitVec.ofNat 16 (wordBits w 15 0)
  let shift := fun (i : Instr) => if wordBits w 15 6 = 0 then some i else none
  match wordBits w 31 26 with
  | 0x01 => some (.addi x rd ra imm)
  | 0x02 => some (.andi x rd ra imm)
  | 0x03 => some (.ori x rd ra imm)
  | 0x04 => some (.xori x rd ra imm)
  | 0x05 => shift (.slli x rd ra imm)
  | 0x06 => shift (.srli x rd ra imm)
  | 0x07 => shift (.srai x rd ra imm)
  | 0x08 => some (.slti x rd ra imm)
  | 0x09 => some (.sltiu x rd ra imm)
  | 0x0A => some (.lui x rd ra imm)
  | 0x0B => some (.shlori x rd ra imm)
  | 0x10 => some (.ld8 x rd ra imm)
  | 0x11 => some (.ld16 x rd ra imm)
  | 0x12 => some (.ld32 x rd ra imm)
  | 0x13 => some (.ld64 x rd ra imm)
  | 0x14 => some (.lds8 x rd ra imm)
  | 0x15 => some (.lds16 x rd ra imm)
  | 0x16 => some (.lds32 x rd ra imm)
  | 0x18 => some (.st8 x rd ra imm)
  | 0x19 => some (.st16 x rd ra imm)
  | 0x1A => some (.st32 x rd ra imm)
  | 0x1B => some (.st64 x rd ra imm)
  | 0x1D =>
    let func := wordBits w 5 0
    if wordBits w 10 7 = 0 ∧ 1 ≤ func ∧ func ≤ 10 then some (.latom x rd ra (wordReg w 11) (wordBits w 6 6 == 1) (BitVec.ofNat 6 func)) else none
  | 0x20 => some (.beq x rd ra imm)
  | 0x21 => some (.bne x rd ra imm)
  | 0x22 => some (.blt x rd ra imm)
  | 0x23 => some (.bge x rd ra imm)
  | 0x24 => some (.bltu x rd ra imm)
  | 0x25 => some (.bgeu x rd ra imm)
  | 0x26 => some (.jal x rd (BitVec.ofNat 21 (wordBits w 20 0)))
  | 0x27 => some (.jalr x rd ra imm)
  | _ => none

/-- The fabric and system instructions: format F, and format I with OP 0x3C to 0x3F.  The flags of an atomic are its code; a code other than CAS names
g0 as rc (R340); kinds 1 to 3 of MOVE have no source space (R343). -/
def systemWord (x : ExecUnit) (w : Nat) : Option Instr :=
  let rd := wordReg w 21
  let ra := wordReg w 16
  let imm := BitVec.ofNat 16 (wordBits w 15 0)
  let f := wordF w
  let flags := wordBits w 3 0
  let moves := fun (i : Instr) => if flags < 8 ∧ flags % 4 ≠ 3 then some i else none
  let atomic := fun (i : Instr) => if 1 ≤ flags ∧ flags ≤ 10 ∧ (flags = 6 ∨ wordBits w 10 6 = 0) then some i else none
  match wordBits w 31 26 with
  | 0x30 => moves (.frd x f)
  | 0x31 => moves (.fwr x f)
  | 0x32 => atomic (.fatom32 x f)
  | 0x33 => atomic (.fatom64 x f)
  | 0x34 =>
    if 4 ≤ flags ∧ flags % 4 ≠ 0 then none else
    match flags / 4 with
    | 0 => some (.moveCopy x f)
    | 1 => some (.moveFill x f)
    | 2 => some (.moveZero x f)
    | _ => some (.moveLocal x f)
  | 0x35 => some (.fwaith x f)
  | 0x36 => some (.fpoll x f)
  | 0x37 => some (.ffence x f)
  | 0x38 => some (.leave x f)
  | 0x3C => if wordBits w 15 12 = 0 then some (.csrr x rd ra imm) else none
  | 0x3D => some (.csrw x rd ra imm)
  | 0x3E => some (.wait x rd ra imm)
  | 0x3F => match wordBits w 15 0 with
    | 0x0000 => some (.halt x)
    | 0x0001 => some (.trap x)
    | 0x0002 => some (.yield x)
    | 0x0100 => some (.eret x)
    | _ => none
  | _ => none

/-- The instruction that a word at a unit's PC spells; none where an OP, FUNC, SYS code or field value is not listed (R335).  The numbers of control
registers are not judged here: which exist depends on the unit (R337). -/
def engineWord (x : ExecUnit) (w : Nat) : Option Instr :=
  if wordBits w 31 26 = 0 then registerWord x w
  else if wordBits w 31 26 < 0x30 then immediateWord x w
  else systemWord x w

end Sys2Proof
end

