-- ==== Sys2Proof/Config.lean ====
section
/-! DEFINITION. What one part fixes (identity) and the free values: constants without a body, of which nothing can be proved, for every value
that the manual leaves open.  A function of `Nat` is applied to the counter `fresh` of the state or to the operands named. -/

namespace Sys2Proof

/-- FREE VALUE. The serial number of the part, CRF_SERIAL (R77: "Per part"). -/
opaque Config.serial : List Byte

/-- FREE VALUE. The version of the running image, CRF_FW_VERSION (R77: "Per image"), as a function of the image. -/
opaque Config.imageVersion : List Byte → Nat

/-- FREE VALUE. The 32-byte device nonce of a HELLO reply (R52), one for each reply. -/
opaque Config.nonce : Nat → List Byte

/-- FREE VALUE. Whether the signature of a firmware image verifies against the Sveturi image key, whose hash is fused in the part
(R105). -/
opaque Config.imageSigned : List Byte → Bool

/-- FREE VALUE. The fused minimum image version (R105). -/
opaque Config.minImageVersion : Nat

/-- FREE VALUE. The fused VDD_CORE target in mV, before it is held within 650 to 850 (R473). -/
opaque Config.avsTarget : Nat

/-- FREE VALUE. How far below the slew limit the servo's rate stays while it slews toward the grandmaster's phase (R467). -/
opaque Config.servoTrim : Nat → Nat

/-- FREE VALUE. The octets that a journal record takes in MRAM, of the number of its writes and the octets of their values (R71, R73: the
record's encoding is not given). -/
opaque Config.journalBytes : Nat → Nat → Nat

/-- The octets of the management response that answers the `n`th open value: the manual defines no management request (R172).  Free. -/
opaque Config.mgmtReply : Nat → List Byte

/-- FREE VALUE. The address of the Croft firmware's exception handler (R358). -/
opaque Config.croftHandler : Nat

/-- FREE VALUE. The TIME_LIMIT in µs of a Sveturi service program, by its number: their images are not given (R349, R355). -/
opaque Config.serviceTimeLimit : Nat → Nat

/-- FREE VALUE. Whether an instruction word names an instruction or a control register that a version after an ABI major added, of the major and the
word: which were added is not given (R351). -/
opaque Config.addedAfter : Nat → Nat → Bool

/-- FREE VALUE. Whether the signature of a program image verifies against a public key; the empty key stands for the Sveturi image
key (R350, R353). -/
opaque Config.programSigned : List Byte → List Byte → Bool

/-- FREE VALUE. How many lines a harvest has copied when it stops or fails, held below what its rate allows (R404, R405). -/
opaque Config.harvestPace : Nat → Nat

/-- FREE VALUE. The octets of an SPDM response body, of its code and the number of the open value: certificates, signatures, nonces and
measurements are fused or computed per part (R156). -/
opaque Config.spdmBody : Nat → Nat → List Byte

/-- FREE VALUE. How long a self-test took in µs, of the boot count and the test, held within its maximum (R103, R109). -/
opaque Config.testTime : Nat → Nat → Nat

/-- FREE VALUE. The Croft core that serves a Crook session (R36: the sessions on a failed core are closed; which they are is not given). -/
opaque Config.sessionCore : Nat → Nat

/-- FREE VALUE. The static capacity in octets that the device on a port reports for an LD, of the port and the LD: no command names it (R228). -/
opaque Config.ldStatic : Nat → Nat → Nat

/-- FREE VALUE. The signal-to-noise ratio of a lane in 0.1 dB, of the lane and the tick: it is measured (R132, R141). -/
opaque Config.snr : Nat → Nat → Nat

/-- FREE VALUE. The count of a detector window of a reference group, of the group and the tick: it is measured (R119, R141). -/
opaque Config.refCount : Nat → Nat → Nat

/-- FREE VALUE. What this device asks of its partner's transmitter in an equalisation phase, preset or coefficients by lane, of the phase, the lane and
the tick: its receivers decide (R121). -/
opaque Config.eqAsk : Nat → Nat → Nat → Nat × Nat × Nat

/-- FREE VALUE. By how many nanoseconds a queue sample overran its budget, of the number of the open value: the capture's own event does not
say (R314, R458). -/
opaque Config.overrunNs : Nat → Nat

/-- FREE VALUE. How many banks the Tally reader collected within the budget of a tick whose job overran, of the number of the open value; the step takes it
modulo 64 (R442). -/
opaque Config.tallyBanks : Nat → Nat

/-- FREE VALUE. How often the data link layer of a PCIe or CXL port replayed in a tick, of the port and the number of the open value: R440 counts the
replays, and no rule says when one happens. -/
opaque Config.dllReplays : Nat → Nat → Nat

/-- FREE VALUE. A bit of the SSPRQ generator's output, of its position: IEEE 802.3 defines the sequence (R134). -/
opaque Config.ssprq : Nat → Bool

/-- FREE VALUE. Whether the checker finds a bit of received SSPRQ wrong, of the bits and its position (R135). -/
opaque Config.ssprqWrong : List Bool → Nat → Bool

/-- FREE VALUE. The full swing and low frequency values, FS and LF, that a PCIe or CXL transmitter advertises (R121). -/
opaque Config.txSpace : Nat × Nat

/-- FREE VALUE. The coefficients c−1, c0 and c+1 (magnitudes) of a transmitter preset of the PCI Express specification, of the rate code and the preset
(R121). -/
opaque Config.pciePreset : Nat → Nat → Nat × Nat × Nat

/-- FREE VALUE. Where a receiver's equaliser stands, of the lane and the tick at which it last adapted: CTLE peaking in dB, the 24 FFE taps, the DFE
tap (R123). -/
opaque Config.rxEqualiser : Nat → Nat → Nat × List Int × Int

/-- FREE VALUE. The sample count, rates and largest offsets that Lane Margining reports, by the payload of the report command, and the errors of a
margin step, of the number of the open value (R138). -/
opaque Config.marginReport : Nat → Nat

/-- FREE VALUE. The LTSSM state code of a port in training, of the port and the tick: how far the link partner has come (R516). -/
opaque Config.ltssm : Nat → Nat → Nat

/-- FREE VALUE. A configuration register of which the manual says nothing, of the number of the function and the offset (R149). -/
opaque Config.cfgOther : Nat → Nat → Nat

/-- FREE VALUE. An IDE key that Croft generates, by the number of the open value: keys never leave the port controller (R157). -/
opaque Config.ideKey : Nat → Nat

/-- FREE VALUE. The hash of the boot ROM (R156). -/
opaque Config.bootRomHash : List Byte

/-- FREE VALUE. The fused configuration of the part (R156). -/
opaque Config.fuses : List Byte

/-- FREE VALUE. The set of a line in the near cache, of its target and line; taken modulo the number of sets (R286). -/
opaque Config.nearSet : Nat → Nat → Nat

/-- FREE VALUE. The set of a line in the second-level filter, of its target and line; taken modulo the number of sets (R271). -/
opaque Config.secondSet : Nat → Nat → Nat

/-- FREE VALUE. Whether an access refills a check line of Commons, of the block of 8 lines and the number of the open value (R409, R440). -/
opaque Config.checkMiss : Nat → Nat → Bool

end Sys2Proof
end

