-- ==== Sys2Proof/Machine/Util.lean ====
section
/-! DEFINITION. Octet strings, bit fields and sparse tables: the helpers that every chapter of the model uses. -/

namespace Sys2Proof.Machine

/-- The `n` low octets of `v`, least significant first (R5). -/
def leBytes : Nat → Nat → List Byte
  | 0, _ => []
  | n + 1, v => BitVec.ofNat 8 v :: leBytes n (v / 256)

/-- The number that a little-endian octet string spells (R5). -/
def leNat : List Byte → Nat
  | [] => 0
  | b :: r => b.toNat + 256 * leNat r

/-- The `n` low octets of `v`, most significant first: fields of an external standard (R5). -/
def beBytes (n v : Nat) : List Byte := (leBytes n v).reverse

/-- The number that a big-endian octet string spells. -/
def beNat (l : List Byte) : Nat := leNat l.reverse

/-- Bits [hi:lo] of a number (R6 writes bit ranges so). -/
def bits (v hi lo : Nat) : Nat := (v / 2 ^ lo) % 2 ^ (hi + 1 - lo)

/-- Bit `n` of a number. -/
def bit (v n : Nat) : Bool := v / 2 ^ n % 2 == 1

/-- `v` with bit `n` set or cleared. -/
def putBit (v n : Nat) (b : Bool) : Nat :=
  if bit v n = b then v else if b then v + 2 ^ n else v - 2 ^ n

/-- `v` with bits [hi:lo] replaced by the low bits of `x`. -/
def putBits (v hi lo x : Nat) : Nat :=
  v - bits v hi lo * 2 ^ lo + x % 2 ^ (hi + 1 - lo) * 2 ^ lo

/-- A Boolean as the number 0 or 1 (R9). -/
def b2n (b : Bool) : Nat := if b then 1 else 0

/-- The value of a two's-complement number of `n` bits (R9). -/
def sint (n v : Nat) : Int := if v % 2 ^ n < 2 ^ (n - 1) then (v % 2 ^ n : Nat) else (v % 2 ^ n : Nat) - (2 ^ n : Nat)

/-- The two's-complement form of an integer in `n` bits (R9). -/
def ofInt (n : Nat) (i : Int) : Nat := (i % (2 ^ n : Nat)).toNat

/-- Division rounded up. -/
def ceilDiv (a b : Nat) : Nat := (a + b - 1) / b

/-- `n` octets of zero. -/
def zeros (n : Nat) : List Byte := List.replicate n 0

/-- `l` cut or padded with zero octets to the length `n`. -/
def fit (n : Nat) (l : List Byte) : List Byte := l.take n ++ zeros (n - l.length)

/-- `len` octets of `l` from `off`. -/
def slice (l : List Byte) (off len : Nat) : List Byte := (l.drop off).take len

/-- The little-endian field of `len` octets at `off` (R5). -/
def field (l : List Byte) (off len : Nat) : Nat := leNat (slice l off len)

/-- `l` with the octets from `off` on replaced by `d`; the length of `l` stays. -/
def patch (l : List Byte) (off : Nat) (d : List Byte) : List Byte :=
  (l.take off ++ d ++ l.drop (off + d.length)).take l.length

/-- Bit `n` of an octet string, bit 0 being the least significant of the first octet (R108, R265, R270). -/
def strBit (l : List Byte) (n : Nat) : Bool := bit ((l.getD (n / 8) 0).toNat) (n % 8)

/-- `l` with bit `n` set or cleared. -/
def putStrBit (l : List Byte) (n : Nat) (b : Bool) : List Byte :=
  l.set (n / 8) (BitVec.ofNat 8 (putBit ((l.getD (n / 8) 0).toNat) (n % 8) b))

/-- The numbers of the set bits of an octet string. -/
def strBits (l : List Byte) : List Nat := (List.range (8 * l.length)).filter (strBit l)

/-- The numbers below `n` of the set bits of a number. -/
def setBits (n v : Nat) : List Nat := (List.range n).filter (bit v)

/-- The number of set bits below `n`. -/
def popCount (n v : Nat) : Nat := (setBits n v).length

/-! ### Sparse tables: strictly rising keys, and no entry that equals what an unlisted key reads as -/

/-- The value of a key: the listed one, else the default. -/
def Sparse.get {α : Type} (d : Nat → α) : List (Nat × α) → Nat → α
  | [], k => d k
  | e :: r, k => if e.1 = k then e.2 else Sparse.get d r k

/-- The table with `k` listed with the value `v`, the keys rising. -/
def Sparse.insert {α : Type} (k : Nat) (v : α) : List (Nat × α) → List (Nat × α)
  | [] => [(k, v)]
  | e :: r => if e.1 < k then e :: Sparse.insert k v r else if e.1 = k then (k, v) :: r else (k, v) :: e :: r

/-- The table without the key `k`. -/
def Sparse.erase {α : Type} (k : Nat) (m : List (Nat × α)) : List (Nat × α) := m.filter (fun e => !(e.1 == k))

/-- The table in which `k` reads `v`. -/
def Sparse.set {α : Type} [DecidableEq α] (d : Nat → α) (m : List (Nat × α)) (k : Nat) (v : α) : List (Nat × α) :=
  if v = d k then Sparse.erase k m else Sparse.insert k v m

/-- The canonical form: the keys rise strictly and no listed value is the default of its key. -/
def Sparse.wf {α : Type} [DecidableEq α] (d : Nat → α) : List (Nat × α) → Bool
  | [] => true
  | [e] => !decide (e.2 = d e.1)
  | e :: f :: r => !decide (e.2 = d e.1) && decide (e.1 < f.1) && Sparse.wf d (f :: r)

/-- The first element of a list that satisfies `p`, with its position. -/
def findAt {α : Type} (p : α → Bool) : List α → Nat → Option (Nat × α)
  | [], _ => none
  | x :: r, i => if p x then some (i, x) else findAt p r (i + 1)

/-- The first of `0 … n-1`, taken in rotating order from `start`, that satisfies `p` (R27). -/
def rotFind (p : Nat → Bool) (n start : Nat) : Option Nat :=
  ((List.range n).map (fun i => (start + i) % n)).find? p

/-- `x` saturated at `n` bits. -/
def sat (n x : Nat) : Nat := min x (2 ^ n - 1)

/-- Repeat an operation at most `n` times while it answers a new state. -/
def iter {α : Type} (f : α → Option α) : Nat → α → α
  | 0, a => a
  | n + 1, a => match f a with
    | none => a
    | some b => iter f n b

/-- `x` put in its place in a list that rises by `key`; after those of equal key. -/
def insertBy {α : Type} (key : α → Nat) (x : α) : List α → List α
  | [] => [x]
  | y :: r => if key x < key y then x :: y :: r else y :: insertBy key x r

/-- A list in rising order of `key`, the order of equals kept. -/
def sortBy {α : Type} (key : α → Nat) (l : List α) : List α := l.foldl (fun acc x => insertBy key x acc) []

/-! ### Check codes -/

/-- One octet step of a reflected CRC of `n` bits. -/
def crcByte (poly : Nat) : Nat → Nat → Nat
  | 0, c => c
  | k + 1, c => crcByte poly k (if c % 2 = 1 then (c / 2).xor poly else c / 2)

/-- CRC-32C of an octet string (R73, R105, R457): reflected polynomial 0x82F63B78, initial value and final inversion
0xFFFFFFFF. -/
def crc32c (l : List Byte) : Nat :=
  (l.foldl (fun c b => crcByte 0x82F63B78 8 (c.xor b.toNat)) 0xFFFFFFFF).xor 0xFFFFFFFF

end Sys2Proof.Machine
end

