-- ==== Sys2Proof/Machine/Catalog.lean ====
section
/-! DEFINITION. The object dictionary's catalogue: one row for each object of the chapters' object tables (R38, R39), with its
type (R9), access (R10), range and default (R11, R43), persistence (R71) and Pinfold flag (R42).  Written from those tables. -/

namespace Sys2Proof.Machine

/-- A dictionary type (R9), in the order of the TYPE codes of R43. -/
inductive ObjType where
  | bool | u8 | u16 | u32 | u64 | i32 | bits32 | enum8 | time64 | addr64 | domain
deriving DecidableEq, Repr

/-- An access right (R10), in the order of the ACCESS codes of R43. -/
inductive Access where
  | const | ro | rw | wo | rwt | rwl
deriving DecidableEq, Repr

/-- A catalogue row: `count` indices from `base` in steps of `stride`, subindices `sub0 … sub0 + nsub - 1`; the value size in
octets, the least and greatest accepted values, the mask of defined bits, the defaults by subindex (the last repeats), and
whether the subentry is persistent and accessible in the Pinfold state. -/
structure ObjRow where
  base : Nat
  stride : Nat
  count : Nat
  sub0 : Nat
  nsub : Nat
  name : String
  ty : ObjType
  acc : Access
  size : Nat
  min : Int
  max : Int
  mask : Nat
  dflt : List Nat
  persistent : Bool
  pinfold : Bool
deriving DecidableEq, Repr

/-- The row covers the index. -/
def ObjRow.hasIndex (r : ObjRow) (idx : Nat) : Bool :=
  r.base ≤ idx && (idx - r.base) % r.stride == 0 && (idx - r.base) / r.stride < r.count

/-- The row covers the subentry. -/
def ObjRow.has (r : ObjRow) (idx sub : Nat) : Bool :=
  r.hasIndex idx && r.sub0 ≤ sub && sub < r.sub0 + r.nsub

/-- Objects of identity. -/
def catId : List ObjRow := [
  ⟨0x0, 1, 1, 1, 1, "CRF_VENDOR_ID", .u16, .const, 2, 0, 65535, 0xFFFF, [7550], false, true⟩,
  ⟨0x0, 1, 1, 2, 1, "CRF_SCHEMA_VERSION", .u16, .const, 2, 0, 65535, 0xFFFF, [768], false, true⟩,
  ⟨0x0, 1, 1, 3, 1, "CRF_DEVICE_ID", .u16, .const, 2, 0, 65535, 0xFFFF, [25728], false, true⟩,
  ⟨0x0, 1, 1, 4, 1, "CRF_STEPPING", .u8, .const, 1, 0, 255, 0xFF, [16], false, true⟩,
  ⟨0x0, 1, 1, 5, 1, "CRF_SERIAL", .domain, .const, 16, 0, 16, 0x0, [0], false, true⟩,
  ⟨0x0, 1, 1, 6, 1, "CRF_CROOK_VERSION", .u16, .const, 2, 0, 65535, 0xFFFF, [769], false, true⟩,
  ⟨0x0, 1, 1, 7, 1, "CRF_FW_VERSION", .u32, .ro, 4, 0, 4294967295, 0xFFFFFFFF, [0], false, true⟩,
  ⟨0x0, 1, 1, 8, 1, "CRF_SUPPORTED_MAJORS", .bits32, .const, 4, 0, 14, 0xE, [14], false, true⟩,
  ⟨0x0, 1, 1, 9, 1, "CRF_SUBSYS_VENDOR_ID", .u16, .rwt, 2, 0, 65535, 0xFFFF, [7550], true, true⟩,
  ⟨0x0, 1, 1, 10, 1, "CRF_SUBSYS_ID", .u16, .rwt, 2, 0, 65535, 0xFFFF, [0], true, true⟩]

/-- Objects of Croft. -/
def catCrf1 : List ObjRow := [
  ⟨0x1000, 1, 1, 1, 8, "CRF_SESSION_STATE", .bits32, .ro, 4, 0, 4294967043, 0xFFFFFF03, [0], false, true⟩,
  ⟨0x1001, 1, 1, 1, 8, "CRF_KEY_SLOT", .domain, .wo, 48, 0, 48, 0x0, [0], false, true⟩,
  ⟨0x1002, 1, 1, 1, 8, "CRF_KEY_PERM", .bits32, .rwl, 4, 0, 127, 0x7F, [0], true, true⟩,
  ⟨0x1003, 1, 1, 1, 1, "CRF_KEY_LOCK", .bits32, .wo, 4, 0, 255, 0xFF, [0], false, true⟩,
  ⟨0x1010, 1, 1, 1, 1, "CRF_COMMIT_TIMEOUT", .time64, .rw, 8, 1000000, 10000000000, 0xFFFFFFFFFFFFFFFF, [10000000], true, false⟩,
  ⟨0x1010, 1, 1, 2, 1, "CRF_TXN_IDLE", .time64, .rw, 8, 1000000000, 3600000000000, 0xFFFFFFFFFFFFFFFF, [10000000000], true, false⟩,
  ⟨0x1010, 1, 1, 3, 1, "CRF_SESSION_IDLE", .time64, .rw, 8, 10000000000, 3600000000000, 0xFFFFFFFFFFFFFFFF, [60000000000], true, false⟩,
  ⟨0x1020, 1, 1, 1, 1, "CRF_PERSIST_ENABLE", .bool, .rw, 1, 0, 1, 0xFF, [1], true, false⟩,
  ⟨0x1020, 1, 1, 2, 1, "CRF_FACTORY_RESET", .u16, .wo, 2, 0x5AFE, 0x5AFE, 0xFFFF, [0], false, false⟩,
  ⟨0x1020, 1, 1, 3, 1, "CRF_JOURNAL_FILL", .u32, .ro, 4, 0, 4294967295, 0xFFFFFFFF, [0], false, false⟩,
  ⟨0x1020, 1, 1, 4, 1, "CRF_MRAM_PASSES", .u64, .ro, 8, 0, 18446744073709551615, 0xFFFFFFFFFFFFFFFF, [0], false, false⟩,
  ⟨0x1020, 1, 1, 5, 1, "CRF_MRAM_PASS_LIMIT", .u64, .const, 8, 0, 18446744073709551615, 0xFFFFFFFFFFFFFFFF, [1000000000], false, false⟩,
  ⟨0x1020, 1, 1, 6, 1, "CRF_PERSIST_DEFERRED", .u64, .ro, 8, 0, 18446744073709551615, 0xFFFFFFFFFFFFFFFF, [0], false, false⟩,
  ⟨0x1030, 1, 1, 1, 1, "CRF_AUTH_FAILS", .u64, .ro, 8, 0, 18446744073709551615, 0xFFFFFFFFFFFFFFFF, [0], false, false⟩,
  ⟨0x1030, 1, 1, 2, 1, "CRF_LENGTH_ERRORS", .u64, .ro, 8, 0, 18446744073709551615, 0xFFFFFFFFFFFFFFFF, [0], false, false⟩,
  ⟨0x1030, 1, 1, 3, 1, "CRF_COMMITS", .u64, .ro, 8, 0, 18446744073709551615, 0xFFFFFFFFFFFFFFFF, [0], false, false⟩,
  ⟨0x1030, 1, 1, 4, 1, "CRF_CONFLICTS", .u64, .ro, 8, 0, 18446744073709551615, 0xFFFFFFFFFFFFFFFF, [0], false, false⟩,
  ⟨0x1030, 1, 1, 5, 1, "CRF_COMMIT_TIMEOUTS", .u64, .ro, 8, 0, 18446744073709551615, 0xFFFFFFFFFFFFFFFF, [0], false, false⟩,
  ⟨0x1040, 1, 1, 1, 1, "CRF_UDP_PORT", .u16, .rw, 2, 1024, 65535, 0xFFFF, [7410], true, false⟩,
  ⟨0x1040, 1, 1, 2, 1, "CRF_TRANSPORT_ENABLE", .bits32, .rw, 4, 0, 7, 0x7, [7], true, false⟩,
  ⟨0x1050, 1, 1, 1, 1, "CRF_FW_CTRL", .enum8, .wo, 1, 1, 4, 0xFF, [0], false, true⟩,
  ⟨0x1050, 1, 1, 2, 1, "CRF_FW_OFFSET", .u32, .rw, 4, 0, 4193280, 0xFFFFFFFF, [0], false, true⟩,
  ⟨0x1050, 1, 1, 3, 1, "CRF_FW_CHUNK", .domain, .wo, 1024, 0, 1024, 0x0, [0], false, true⟩,
  ⟨0x1050, 1, 1, 4, 1, "CRF_FW_STATUS", .enum8, .ro, 1, 0, 5, 0xFF, [0], false, true⟩]

/-- Objects of Croft. -/
def catCrf2 : List ObjRow := [
  ⟨0x1050, 1, 1, 5, 1, "CRF_FW_STAGED_VERSION", .u32, .ro, 4, 0, 4294967295, 0xFFFFFFFF, [0], false, true⟩]

/-- Objects of Croft. -/
def catCrf : List ObjRow := catCrf1 ++ catCrf2

/-- Objects of Selvedge. -/
def catSel1 : List ObjRow := [
  ⟨0x2000, 4, 64, 1, 1, "SEL_QUAD_RATE", .enum8, .ro, 1, 0, 9, 0xFF, [0], false, false⟩,
  ⟨0x2000, 4, 64, 2, 1, "SEL_QUAD_STATE", .bits32, .ro, 4, 0, 65527, 0xFFF7, [0], false, false⟩,
  ⟨0x2000, 4, 64, 3, 1, "SEL_TX_INVERT", .bits32, .rwt, 4, 0, 15, 0xF, [0], true, false⟩,
  ⟨0x2000, 4, 64, 4, 1, "SEL_PLL_UNLOCKS", .u32, .ro, 4, 0, 4294967295, 0xFFFFFFFF, [0], false, false⟩,
  ⟨0x2001, 4, 64, 1, 1, "SEL_TWILL_PRESET", .enum8, .rwt, 1, 0, 7, 0xFF, [3], true, false⟩,
  ⟨0x2001, 4, 64, 2, 1, "SEL_RX_ADAPT", .enum8, .rwt, 1, 0, 1, 0xFF, [0], true, false⟩,
  ⟨0x2001, 4, 64, 3, 4, "SEL_TX_COEFF", .u32, .ro, 4, 0, 4294967295, 0xFFFFFFFF, [0], false, false⟩,
  ⟨0x2001, 4, 64, 7, 4, "SEL_SNR", .u16, .ro, 2, 0, 65535, 0xFFFF, [0], false, false⟩,
  ⟨0x2001, 4, 64, 11, 1, "SEL_REEQ", .u8, .wo, 1, 0, 255, 0xFF, [0], false, false⟩,
  ⟨0x2001, 4, 64, 12, 1, "SEL_EQ_DEFERRED", .u32, .ro, 4, 0, 4294967295, 0xFFFFFFFF, [0], false, false⟩,
  ⟨0x2002, 4, 64, 1, 1, "SEL_TEST_MODE", .enum8, .rwt, 1, 0, 5, 0xFF, [0], false, false⟩,
  ⟨0x2002, 4, 64, 2, 1, "SEL_TEST_RATE", .enum8, .rwt, 1, 1, 9, 0xFF, [5], false, false⟩,
  ⟨0x2002, 4, 64, 3, 1, "SEL_PRBS_PATTERN", .enum8, .rwt, 1, 0, 11, 0xFF, [6], false, false⟩,
  ⟨0x2002, 4, 64, 4, 1, "SEL_USER_PATTERN", .u64, .rwt, 8, 0, 18446744073709551615, 0xFFFFFFFFFFFFFFFF, [0], false, false⟩,
  ⟨0x2002, 4, 64, 5, 1, "SEL_INJECT_PERIOD", .u8, .rwt, 1, 0, 40, 0xFF, [0], false, false⟩,
  ⟨0x2002, 4, 64, 6, 1, "SEL_INJECT", .bits32, .wo, 4, 0, 15, 0xF, [0], false, false⟩,
  ⟨0x2002, 4, 64, 7, 1, "SEL_PRBS_LOCK", .bits32, .ro, 4, 0, 15, 0xF, [0], false, false⟩,
  ⟨0x2002, 4, 64, 8, 4, "SEL_PRBS_ERRORS", .u64, .ro, 8, 0, 18446744073709551615, 0xFFFFFFFFFFFFFFFF, [0], false, false⟩,
  ⟨0x2002, 4, 64, 12, 4, "SEL_PRBS_BITS", .u64, .ro, 8, 0, 18446744073709551615, 0xFFFFFFFFFFFFFFFF, [0], false, false⟩,
  ⟨0x2002, 4, 64, 16, 1, "SEL_PRBS_CLEAR", .bits32, .wo, 4, 0, 15, 0xF, [0], false, false⟩,
  ⟨0x2003, 4, 64, 1, 1, "SEL_MARGIN_CTRL", .u32, .wo, 4, 0, 4294967295, 0xBFFFF03F, [0], false, false⟩,
  ⟨0x2003, 4, 64, 2, 4, "SEL_MARGIN_RESULT", .u64, .ro, 8, 0, 18446744073709551615, 0xFFFFFFFFFFFFFFFF, [0], false, false⟩,
  ⟨0x2003, 4, 64, 6, 1, "SEL_ELASTIC_ERRORS", .u32, .ro, 4, 0, 4294967295, 0xFFFFFFFF, [0], false, false⟩,
  ⟨0x2003, 4, 64, 7, 1, "SEL_AM_LOSSES", .u32, .ro, 4, 0, 4294967295, 0xFFFFFFFF, [0], false, false⟩]

/-- Objects of Selvedge. -/
def catSel2 : List ObjRow := [
  ⟨0x2003, 4, 64, 8, 1, "SEL_LOS_EVENTS", .u32, .ro, 4, 0, 4294967295, 0xFFFFFFFF, [0], false, false⟩,
  ⟨0x2100, 1, 16, 1, 1, "SEL_REFCLK_SSC", .bool, .rwt, 1, 0, 1, 0xFF, [0], true, false⟩,
  ⟨0x2100, 1, 16, 2, 1, "SEL_REFCLK_COUNT", .u16, .ro, 2, 0, 65535, 0xFFFF, [0], false, false⟩,
  ⟨0x2100, 1, 16, 3, 1, "SEL_REFCLK_LOSSES", .u32, .ro, 4, 0, 4294967295, 0xFFFFFFFF, [0], false, false⟩]

/-- Objects of Selvedge. -/
def catSel : List ObjRow := catSel1 ++ catSel2

/-- Objects of ports. -/
def catPrt : List ObjRow := [
  ⟨0x2400, 4, 64, 1, 1, "PRT_ROLE", .enum8, .rwt, 1, 0, 3, 0xFF, [0], true, false⟩,
  ⟨0x2400, 4, 64, 2, 1, "PRT_WIDTH", .enum8, .rwt, 1, 0, 2, 0xFF, [0], true, false⟩,
  ⟨0x2400, 4, 64, 3, 1, "PRT_MAX_RATE", .enum8, .rwt, 1, 1, 7, 0xFF, [7], true, false⟩,
  ⟨0x2400, 4, 64, 4, 1, "PRT_LINK_STATE", .bits32, .ro, 4, 0, 16777087, 0xFFFF7F, [0], false, false⟩,
  ⟨0x2400, 4, 64, 5, 1, "PRT_CXL_ENABLE", .bits32, .rwt, 4, 0, 15, 0xF, [3], true, false⟩,
  ⟨0x2400, 4, 64, 6, 1, "PRT_SLOT", .u8, .rwt, 1, 0, 255, 0xFF, [255], true, false⟩,
  ⟨0x2400, 4, 64, 7, 1, "PRT_DPC_ENABLE", .bool, .rwt, 1, 0, 1, 0xFF, [1], true, false⟩,
  ⟨0x2400, 4, 64, 8, 1, "PRT_IDE_MODE", .enum8, .rwt, 1, 0, 2, 0xFF, [1], true, false⟩,
  ⟨0x2401, 4, 64, 1, 1, "PRT_TRACKER_TIMEOUT", .time64, .rwt, 8, 10000, 64000000, 0xFFFFFFFFFFFFFFFF, [100000], true, false⟩,
  ⟨0x2401, 4, 64, 2, 1, "PRT_DC_RESPONSE_TIMEOUT", .time64, .rw, 8, 10000000, 60000000000, 0xFFFFFFFFFFFFFFFF, [1000000000], true, false⟩,
  ⟨0x2401, 4, 64, 3, 1, "PRT_DC_REGIONS", .u8, .rwt, 1, 1, 8, 0xFF, [1], true, false⟩,
  ⟨0x2402, 4, 64, 1, 16, "PRT_LD_FEID", .u8, .rwt, 1, 0, 255, 0xFF, [0], true, false⟩,
  ⟨0x2402, 4, 64, 17, 6, "PRT_VPPB_BIND", .u8, .rwt, 1, 0, 255, 0xFF, [255], true, false⟩,
  ⟨0x2403, 4, 64, 1, 1, "PRT_LINKDOWNS", .u32, .ro, 4, 0, 4294967295, 0xFFFFFFFF, [0], false, false⟩,
  ⟨0x2403, 4, 64, 2, 1, "PRT_NP_ERRORED", .u64, .ro, 8, 0, 18446744073709551615, 0xFFFFFFFFFFFFFFFF, [0], false, false⟩,
  ⟨0x2403, 4, 64, 3, 1, "PRT_POSTED_DROPPED", .u64, .ro, 8, 0, 18446744073709551615, 0xFFFFFFFFFFFFFFFF, [0], false, false⟩,
  ⟨0x2403, 4, 64, 4, 1, "PRT_TRACKER_TIMEOUTS", .u64, .ro, 8, 0, 18446744073709551615, 0xFFFFFFFFFFFFFFFF, [0], false, false⟩,
  ⟨0x2403, 4, 64, 5, 1, "PRT_LATE_RESPONSES", .u64, .ro, 8, 0, 18446744073709551615, 0xFFFFFFFFFFFFFFFF, [0], false, false⟩,
  ⟨0x2403, 4, 64, 6, 1, "PRT_VIOLATIONS", .u64, .ro, 8, 0, 18446744073709551615, 0xFFFFFFFFFFFFFFFF, [0], false, false⟩,
  ⟨0x2403, 4, 64, 7, 1, "PRT_IDE_STATE", .enum8, .ro, 1, 0, 3, 0xFF, [0], false, false⟩]

/-- Objects of Twill. -/
def catTwl1 : List ObjRow := [
  ⟨0x2800, 4, 64, 1, 1, "TWL_MAX_RATE", .enum8, .rwt, 1, 8, 9, 0xFF, [9], true, false⟩,
  ⟨0x2800, 4, 64, 2, 1, "TWL_MIN_WIDTH", .enum8, .rwt, 1, 0, 4, 0xFF, [0], true, false⟩,
  ⟨0x2800, 4, 64, 3, 1, "TWL_STATE", .bits32, .ro, 4, 0, 16777215, 0xFFFFFF, [0], false, false⟩,
  ⟨0x2800, 4, 64, 4, 1, "TWL_PARTNER_VERSION", .u16, .ro, 2, 0, 65535, 0xFFFF, [0], false, false⟩,
  ⟨0x2800, 4, 64, 5, 1, "TWL_CAPS_COMMON", .bits32, .ro, 4, 0, 31, 0x1F, [0], false, false⟩,
  ⟨0x2800, 4, 64, 6, 1, "TWL_RETRAIN", .u8, .wo, 1, 0, 255, 0x1F, [0], false, false⟩,
  ⟨0x2800, 4, 64, 7, 1, "TWL_REENABLE", .u8, .wo, 1, 1, 1, 0xFF, [0], false, false⟩,
  ⟨0x2801, 4, 64, 1, 1, "TWL_REPLAY_LIMIT", .u16, .rwt, 2, 1, 4095, 0xFFFF, [64], true, false⟩,
  ⟨0x2801, 4, 64, 2, 1, "TWL_FEC_LIMIT", .u16, .rwt, 2, 1, 4095, 0xFFFF, [8], true, false⟩,
  ⟨0x2801, 4, 64, 3, 1, "TWL_HEALTH_WINDOW", .time64, .rwt, 8, 100000, 100000000, 0xFFFFFFFFFFFFFFFF, [1000000], true, false⟩,
  ⟨0x2801, 4, 64, 4, 1, "TWL_TRACKER_TIMEOUT", .time64, .rwt, 8, 10000, 64000000, 0xFFFFFFFFFFFFFFFF, [1000000], true, false⟩,
  ⟨0x2801, 4, 64, 5, 1, "TWL_REPLAY_TIMER", .time64, .rwt, 8, 1000, 100000, 0xFFFFFFFFFFFFFFFF, [2000], true, false⟩,
  ⟨0x2802, 4, 64, 1, 8, "TWL_RX_HDR_CREDITS", .u16, .rwt, 2, 4, 4095, 0xFFFF, [16, 256, 512, 512, 256, 128, 64, 64], true, false⟩,
  ⟨0x2802, 4, 64, 9, 1, "TWL_RX_DATA_CREDITS", .u16, .rwt, 2, 16, 65535, 0xFFFF, [64], true, false⟩,
  ⟨0x2802, 4, 64, 10, 2, "TWL_RX_DATA_CREDITS", .u16, .rwt, 2, 0, 65535, 0xFFFF, [0, 0], true, false⟩,
  ⟨0x2802, 4, 64, 12, 5, "TWL_RX_DATA_CREDITS", .u16, .rwt, 2, 128, 65535, 0xFFFF, [2048, 1024, 512, 2048, 2048], true, false⟩,
  ⟨0x2803, 4, 64, 1, 1, "TWL_REPLAYS", .u64, .ro, 8, 0, 18446744073709551615, 0xFFFFFFFFFFFFFFFF, [0], false, false⟩,
  ⟨0x2803, 4, 64, 2, 1, "TWL_FEC_CORRECTED", .u64, .ro, 8, 0, 18446744073709551615, 0xFFFFFFFFFFFFFFFF, [0], false, false⟩,
  ⟨0x2803, 4, 64, 3, 1, "TWL_FEC_UNCORRECTABLE", .u64, .ro, 8, 0, 18446744073709551615, 0xFFFFFFFFFFFFFFFF, [0], false, false⟩,
  ⟨0x2803, 4, 64, 4, 1, "TWL_CRC_ERRORS", .u64, .ro, 8, 0, 18446744073709551615, 0xFFFFFFFFFFFFFFFF, [0], false, false⟩,
  ⟨0x2803, 4, 64, 5, 1, "TWL_LINKDOWNS", .u32, .ro, 4, 0, 4294967295, 0xFFFFFFFF, [0], false, false⟩,
  ⟨0x2803, 4, 64, 6, 1, "TWL_TRAIN_FAILS", .u32, .ro, 4, 0, 4294967295, 0xFFFFFFFF, [0], false, false⟩,
  ⟨0x2803, 4, 64, 7, 1, "TWL_CREDIT_CLAMPS", .u64, .ro, 8, 0, 18446744073709551615, 0xFFFFFFFFFFFFFFFF, [0], false, false⟩,
  ⟨0x2803, 4, 64, 8, 1, "TWL_FAILED_TRACKERS", .u64, .ro, 8, 0, 18446744073709551615, 0xFFFFFFFFFFFFFFFF, [0], false, false⟩,
  ⟨0x2803, 4, 64, 9, 1, "TWL_REISSUED", .u64, .ro, 8, 0, 18446744073709551615, 0xFFFFFFFFFFFFFFFF, [0], false, false⟩,
  ⟨0x2803, 4, 64, 10, 1, "TWL_LATE_RESPONSES", .u64, .ro, 8, 0, 18446744073709551615, 0xFFFFFFFFFFFFFFFF, [0], false, false⟩]

/-- Objects of Twill. -/
def catTwl2 : List ObjRow := [
  ⟨0x2803, 4, 64, 11, 1, "TWL_VIOLATIONS", .u64, .ro, 8, 0, 18446744073709551615, 0xFFFFFFFFFFFFFFFF, [0], false, false⟩,
  ⟨0x2A00, 1, 1, 1, 1, "TWL_DEVICE_NUMBER", .u8, .rwt, 1, 0, 255, 0xFF, [0], true, false⟩,
  ⟨0x2A00, 1, 1, 2, 1, "TWL_VERSION", .u16, .const, 2, 0, 65535, 0xFFFF, [768], false, false⟩,
  ⟨0x2A00, 1, 1, 3, 1, "TWL_SUPPORTED_MAJORS", .bits32, .const, 4, 0, 14, 0xE, [14], false, false⟩,
  ⟨0x2A00, 1, 1, 4, 1, "TWL_CAPS", .bits32, .const, 4, 0, 31, 0x1F, [31], false, false⟩,
  ⟨0x2A00, 1, 1, 5, 1, "TWL_HOP_LIMIT", .u8, .rwt, 1, 1, 255, 0xFF, [16], true, false⟩,
  ⟨0x2A00, 1, 1, 6, 1, "TWL_HASH_SEED", .u32, .rwt, 4, 0, 4294967295, 0xFFFFFFFF, [0], true, false⟩]

/-- Objects of Twill. -/
def catTwl : List ObjRow := catTwl1 ++ catTwl2

/-- Objects of Loom. -/
def catLom1 : List ObjRow := [
  ⟨0x3000, 1, 1, 1, 1, "LOM_BUFFER_CELLS", .u32, .ro, 4, 0, 4294967295, 0xFFFFFFFF, [524288], false, false⟩,
  ⟨0x3000, 1, 1, 2, 1, "LOM_SHARED_CELLS", .u32, .ro, 4, 0, 4294967295, 0xFFFFFFFF, [522240], false, false⟩,
  ⟨0x3000, 1, 1, 3, 1, "LOM_SHARED_USED", .u32, .ro, 4, 0, 4294967295, 0xFFFFFFFF, [0], false, false⟩,
  ⟨0x3000, 1, 1, 4, 1, "LOM_SLICES_FENCED", .bits32, .ro, 4, 0, 255, 0xFF, [0], false, false⟩,
  ⟨0x3000, 1, 1, 5, 1, "LOM_MARKABLE", .bits32, .rwt, 4, 0, 255, 0xFF, [192], true, false⟩,
  ⟨0x3000, 1, 1, 6, 1, "LOM_RS_CLASSES", .bits32, .rwt, 4, 0, 222, 0xDE, [210], true, false⟩,
  ⟨0x3000, 1, 1, 7, 1, "LOM_RESEQ_SKIP", .time64, .rwt, 8, 1000, 1000000, 0xFFFFFFFFFFFFFFFF, [20000], true, false⟩,
  ⟨0x3000, 1, 1, 8, 1, "LOM_RESEQ_WINDOW", .u16, .const, 2, 0, 65535, 0xFFFF, [1024], false, false⟩,
  ⟨0x3000, 1, 1, 9, 1, "LOM_RESEQ_HOLD_LIMIT", .u32, .rwt, 4, 4096, 262144, 0xFFFFFFFF, [65536], true, false⟩,
  ⟨0x3001, 1, 1, 1, 7, "LOM_ALPHA", .i32, .rwt, 4, (-4), 3, 0xFFFFFFFF, [2, 2, 2, 1, 0, 4294967295, 4294967295], true, false⟩,
  ⟨0x3002, 1, 1, 1, 7, "LOM_MARK_THRESHOLD", .u32, .rwt, 4, 64, 524288, 0xFFFFFFFF, [4096], true, false⟩,
  ⟨0x3003, 1, 1, 1, 1, "LOM_OVF_ENABLE", .bool, .rwt, 1, 0, 1, 0xFF, [0], true, false⟩,
  ⟨0x3003, 1, 1, 2, 1, "LOM_OVF_PER_OUTPUT", .u64, .rwt, 8, 65536, 17179869184, 0xFFFFFFFFFFFFFFFF, [1073741824], true, false⟩,
  ⟨0x3003, 1, 1, 3, 1, "LOM_OVF_BYTES", .u64, .ro, 8, 0, 18446744073709551615, 0xFFFFFFFFFFFFFFFF, [0], false, false⟩,
  ⟨0x3003, 1, 1, 4, 1, "LOM_OVF_SPILLED", .u64, .ro, 8, 0, 18446744073709551615, 0xFFFFFFFFFFFFFFFF, [0], false, false⟩,
  ⟨0x3003, 1, 1, 5, 1, "LOM_OVF_REFUSED", .u64, .ro, 8, 0, 18446744073709551615, 0xFFFFFFFFFFFFFFFF, [0], false, false⟩,
  ⟨0x3003, 1, 1, 6, 1, "LOM_OVF_DISCARDED", .u64, .ro, 8, 0, 18446744073709551615, 0xFFFFFFFFFFFFFFFF, [0], false, false⟩,
  ⟨0x3004, 1, 1, 1, 1, "LOM_TRUNCATED", .u64, .ro, 8, 0, 18446744073709551615, 0xFFFFFFFFFFFFFFFF, [0], false, false⟩,
  ⟨0x3004, 1, 1, 2, 1, "LOM_CELL_ECC_CORRECTED", .u64, .ro, 8, 0, 18446744073709551615, 0xFFFFFFFFFFFFFFFF, [0], false, false⟩,
  ⟨0x3004, 1, 1, 3, 1, "LOM_CELL_ECC_UNCORRECTABLE", .u64, .ro, 8, 0, 18446744073709551615, 0xFFFFFFFFFFFFFFFF, [0], false, false⟩,
  ⟨0x3004, 1, 1, 4, 1, "LOM_RESEQ_SKIPS", .u64, .ro, 8, 0, 18446744073709551615, 0xFFFFFFFFFFFFFFFF, [0], false, false⟩,
  ⟨0x3004, 1, 1, 5, 1, "LOM_RESEQ_LATE", .u64, .ro, 8, 0, 18446744073709551615, 0xFFFFFFFFFFFFFFFF, [0], false, false⟩,
  ⟨0x3004, 1, 1, 6, 1, "LOM_RESEQ_BEYOND", .u64, .ro, 8, 0, 18446744073709551615, 0xFFFFFFFFFFFFFFFF, [0], false, false⟩,
  ⟨0x3004, 1, 1, 7, 1, "LOM_RESEQ_HELD", .u32, .ro, 4, 0, 4294967295, 0xFFFFFFFF, [0], false, false⟩]

/-- Objects of Loom. -/
def catLom2 : List ObjRow := [
  ⟨0x3004, 1, 1, 8, 1, "LOM_MARKS_SET", .u64, .ro, 8, 0, 18446744073709551615, 0xFFFFFFFFFFFFFFFF, [0], false, false⟩,
  ⟨0x3004, 1, 1, 9, 8, "LOM_MARKS_RX", .u64, .ro, 8, 0, 18446744073709551615, 0xFFFFFFFFFFFFFFFF, [0], false, false⟩,
  ⟨0x3008, 1, 1, 1, 1, "LOM_SAMPLE_WRITE", .u32, .ro, 4, 0, 4294967295, 0xFFFFFFFF, [0], false, false⟩,
  ⟨0x3008, 1, 1, 2, 1, "LOM_SAMPLE_READ", .u32, .rw, 4, 0, 4294967295, 0xFFFFFFFF, [0], false, false⟩,
  ⟨0x3008, 1, 1, 3, 1, "LOM_SAMPLE_DROPPED", .u64, .ro, 8, 0, 18446744073709551615, 0xFFFFFFFFFFFFFFFF, [0], false, false⟩,
  ⟨0x3010, 1, 8, 1, 1, "LOM_SAMPLER_CTRL", .bits32, .rwt, 4, 0, 4160815103, 0xF800FFFF, [0], false, false⟩,
  ⟨0x3010, 1, 8, 2, 1, "LOM_SAMPLER_N", .u16, .rwt, 2, 1, 65535, 0xFFFF, [1], false, false⟩,
  ⟨0x3010, 1, 8, 3, 1, "LOM_SAMPLER_TAKEN", .u64, .ro, 8, 0, 18446744073709551615, 0xFFFFFFFFFFFFFFFF, [0], false, false⟩,
  ⟨0x3100, 1, 80, 1, 1, "LOM_INGRESS_RESERVE", .u32, .rwt, 4, 160, 16384, 0xFFFFFFFF, [512], true, false⟩,
  ⟨0x3100, 1, 80, 2, 1, "LOM_FWD_MODE", .bits32, .rwt, 4, 0, 255, 0xFF, [31], true, false⟩,
  ⟨0x3100, 1, 80, 3, 1, "LOM_RESERVE_USED", .u32, .ro, 4, 0, 4294967295, 0xFFFFFFFF, [0], false, false⟩,
  ⟨0x3100, 1, 80, 4, 8, "LOM_QUEUE_CELLS", .u32, .ro, 4, 0, 4294967295, 0xFFFFFFFF, [0], false, false⟩]

/-- Objects of Loom. -/
def catLom : List ObjRow := catLom1 ++ catLom2

/-- Objects of Fold. -/
def catFld : List ObjRow := [
  ⟨0x4000, 1, 1024, 1, 1, "FLD_OWNER_PORT", .u8, .rwt, 1, 0, 255, 0xFF, [255], true, false⟩,
  ⟨0x4000, 1, 1024, 2, 1, "FLD_WINDOW_BASE", .addr64, .rwt, 8, 0, 18446744073709551615, 0xFFFFFFFFFFFFFFFF, [0], true, false⟩,
  ⟨0x4000, 1, 1024, 3, 1, "FLD_WINDOW_SIZE", .u64, .rwt, 8, 0, 8796093022208, 0xFFFFFFFFFFFFFFFF, [0], true, false⟩,
  ⟨0x4000, 1, 1024, 4, 1, "FLD_FLAGS", .bits32, .rwt, 4, 0, 15, 0xF, [0], true, false⟩,
  ⟨0x4000, 1, 1024, 5, 1, "FLD_DIRTY_OFFSET", .u64, .rwt, 8, 0, 18446744073709551615, 0xFFFFFFFFFFFFFFFF, [0], true, false⟩,
  ⟨0x4000, 1, 1024, 6, 1, "FLD_EPOCH", .u8, .ro, 1, 0, 3, 0xFF, [0], false, false⟩,
  ⟨0x4000, 1, 1024, 7, 4, "FLD_EPOCH_INFLIGHT", .u32, .ro, 4, 0, 4294967295, 0xFFFFFFFF, [0], false, false⟩,
  ⟨0x4000, 1, 1024, 11, 1, "FLD_EXTENTS_BOUND", .u32, .ro, 4, 0, 4294967295, 0xFFFFFFFF, [0], false, false⟩,
  ⟨0x4000, 1, 1024, 12, 1, "FLD_BOUND_BYTES", .u64, .ro, 8, 0, 18446744073709551615, 0xFFFFFFFFFFFFFFFF, [0], false, false⟩,
  ⟨0x4000, 1, 1024, 13, 1, "FLD_HELD", .u32, .ro, 4, 0, 4294967295, 0xFFFFFFFF, [0], false, false⟩,
  ⟨0x4000, 1, 1024, 14, 1, "FLD_DECODE_MISSES", .u64, .ro, 8, 0, 18446744073709551615, 0xFFFFFFFFFFFFFFFF, [0], false, false⟩,
  ⟨0x4400, 1, 1024, 1, 128, "FLD_EXTENT_ENTRY", .domain, .rwt, 16, 0, 16, 0x0, [0], true, false⟩,
  ⟨0x4800, 1, 1024, 1, 64, "FLD_ROUTE", .u64, .rwt, 8, 0, 0xFFFFFFFFF, 0xFFFFFFFFF, [0], true, false⟩,
  ⟨0x4C00, 1, 1, 1, 1, "FLD_RELEASE_REQUEST", .u32, .wo, 4, 0, 131071, 0xFFFFFFFF, [0], false, false⟩,
  ⟨0x4C00, 1, 1, 2, 1, "FLD_RELEASES_PENDING", .u32, .ro, 4, 0, 4294967295, 0xFFFFFFFF, [0], false, false⟩,
  ⟨0x4C00, 1, 1, 3, 1, "FLD_EXTENTS_DRAINING", .u32, .ro, 4, 0, 4294967295, 0xFFFFFFFF, [0], false, false⟩,
  ⟨0x4C00, 1, 1, 4, 1, "FLD_DECODE_MISSES_ALL", .u64, .ro, 8, 0, 18446744073709551615, 0xFFFFFFFFFFFFFFFF, [0], false, false⟩,
  ⟨0x4C00, 1, 1, 5, 1, "FLD_EPOCH_WAITS", .u64, .ro, 8, 0, 18446744073709551615, 0xFFFFFFFFFFFFFFFF, [0], false, false⟩,
  ⟨0x4C00, 1, 1, 6, 1, "FLD_HELD_ERRORED", .u64, .ro, 8, 0, 18446744073709551615, 0xFFFFFFFFFFFFFFFF, [0], false, false⟩,
  ⟨0x4C00, 1, 1, 7, 1, "FLD_TABLE_ECC_CORRECTED", .u64, .ro, 8, 0, 18446744073709551615, 0xFFFFFFFFFFFFFFFF, [0], false, false⟩,
  ⟨0x4C00, 1, 1, 8, 1, "FLD_DC_REGION_SIZE", .u64, .const, 8, 0, 18446744073709551615, 0xFFFFFFFFFFFFFFFF, [8796093022208], false, false⟩,
  ⟨0x4C01, 1, 1, 1, 64, "FLD_PORT_FOLD", .u16, .rwt, 2, 0, 1023, 0xFFFF, [0], true, false⟩,
  ⟨0x4C10, 1, 4, 1, 64, "FLD_DEVICE_ROUTE", .u64, .rwt, 8, 0, 0xFFFFFFFFF, 0xFFFFFFFFF, [0], true, false⟩]

/-- Objects of Gatepost. -/
def catGtp : List ObjRow := [
  ⟨0x5000, 1, 32, 1, 128, "GTP_REGION_ENTRY", .domain, .rwl, 32, 0, 32, 0x0, [0], true, false⟩,
  ⟨0x5100, 1, 1, 1, 1, "GTP_LOCK_REQUEST", .u16, .wo, 2, 0, 4095, 0xFFFF, [0], false, false⟩,
  ⟨0x5100, 1, 1, 2, 1, "GTP_LOCKED", .domain, .ro, 512, 0, 512, 0x0, [0], false, false⟩,
  ⟨0x5100, 1, 1, 3, 1, "GTP_VIOLATIONS", .u64, .ro, 8, 0, 18446744073709551615, 0xFFFFFFFFFFFFFFFF, [0], false, false⟩,
  ⟨0x5100, 1, 1, 4, 1, "GTP_VIOLATION_WRITE", .u32, .ro, 4, 0, 4294967295, 0xFFFFFFFF, [0], false, false⟩,
  ⟨0x5100, 1, 1, 5, 1, "GTP_VIOLATION_READ", .u32, .rw, 4, 0, 1023, 0xFFFFFFFF, [0], false, false⟩,
  ⟨0x5100, 1, 1, 6, 1, "GTP_VIOLATIONS_LOST", .u64, .ro, 8, 0, 18446744073709551615, 0xFFFFFFFFFFFFFFFF, [0], false, false⟩,
  ⟨0x5100, 1, 1, 7, 1, "GTP_TABLE_ECC_CORRECTED", .u64, .ro, 8, 0, 18446744073709551615, 0xFFFFFFFFFFFFFFFF, [0], false, false⟩,
  ⟨0x5110, 1, 8, 1, 128, "GTP_VIOLATION_LOG", .domain, .ro, 64, 0, 64, 0x0, [0], false, false⟩]

/-- Objects of Bellwether. -/
def catBlw1 : List ObjRow := [
  ⟨0x5400, 1, 1, 1, 1, "BLW_DEVICE_TIER", .bool, .rwt, 1, 0, 1, 0xFF, [0], true, false⟩,
  ⟨0x5400, 1, 1, 2, 1, "BLW_PEERS", .domain, .rwt, 32, 0, 32, 0x0, [0], true, false⟩,
  ⟨0x5400, 1, 1, 3, 1, "BLW_FORWARDING", .bool, .rwt, 1, 0, 1, 0xFF, [1], true, false⟩,
  ⟨0x5400, 1, 1, 4, 1, "BLW_NEAR_ENABLE", .bool, .rwt, 1, 0, 1, 0xFF, [1], true, false⟩,
  ⟨0x5400, 1, 1, 5, 1, "BLW_PORT_QUOTA", .u32, .rwt, 4, 1024, 65536, 0xFFFFFFFF, [32768], true, false⟩,
  ⟨0x5400, 1, 1, 6, 1, "BLW_BISNP_TIMEOUT", .time64, .rwt, 8, 10000, 200000, 0xFFFFFFFFFFFFFFFF, [100000], true, false⟩,
  ⟨0x5401, 1, 1, 1, 1, "BLW_FILTER_ENTRIES", .u32, .const, 4, 0, 4294967295, 0xFFFFFFFF, [4194304], false, false⟩,
  ⟨0x5401, 1, 1, 2, 1, "BLW_L2_ENTRIES", .u32, .ro, 4, 0, 4294967295, 0xFFFFFFFF, [0], false, false⟩,
  ⟨0x5401, 1, 1, 3, 1, "BLW_NEAR_LINES", .u32, .ro, 4, 0, 4294967295, 0xFFFFFFFF, [0], false, false⟩,
  ⟨0x5401, 1, 1, 4, 1, "BLW_TXN_SLOTS", .u16, .const, 2, 0, 65535, 0xFFFF, [16384], false, false⟩,
  ⟨0x5402, 1, 1, 1, 1, "BLW_LOOKUP_LINE", .domain, .wo, 10, 0, 10, 0x0, [0], false, false⟩,
  ⟨0x5402, 1, 1, 2, 1, "BLW_LOOKUP_RESULT", .domain, .ro, 32, 0, 32, 0x0, [0], false, false⟩,
  ⟨0x5402, 1, 1, 3, 1, "BLW_FLUSH_FOLD", .u16, .wo, 2, 1, 1023, 0xFFFF, [0], false, false⟩,
  ⟨0x5402, 1, 1, 4, 1, "BLW_FLUSH_STATE", .bits32, .ro, 4, 0, 3221226495, 0xC00003FF, [0], false, false⟩,
  ⟨0x5403, 1, 1, 1, 1, "BLW_LOOKUPS", .u64, .ro, 8, 0, 18446744073709551615, 0xFFFFFFFFFFFFFFFF, [0], false, false⟩,
  ⟨0x5403, 1, 1, 2, 1, "BLW_RECALLS", .u64, .ro, 8, 0, 18446744073709551615, 0xFFFFFFFFFFFFFFFF, [0], false, false⟩,
  ⟨0x5403, 1, 1, 3, 1, "BLW_BISNP_SENT", .u64, .ro, 8, 0, 18446744073709551615, 0xFFFFFFFFFFFFFFFF, [0], false, false⟩,
  ⟨0x5403, 1, 1, 4, 1, "BLW_SNOOPS_SENT", .u64, .ro, 8, 0, 18446744073709551615, 0xFFFFFFFFFFFFFFFF, [0], false, false⟩,
  ⟨0x5403, 1, 1, 5, 1, "BLW_FWD_SERVED", .u64, .ro, 8, 0, 18446744073709551615, 0xFFFFFFFFFFFFFFFF, [0], false, false⟩,
  ⟨0x5403, 1, 1, 6, 1, "BLW_NEAR_HITS", .u64, .ro, 8, 0, 18446744073709551615, 0xFFFFFFFFFFFFFFFF, [0], false, false⟩,
  ⟨0x5403, 1, 1, 7, 1, "BLW_RETRY_WAITS", .u64, .ro, 8, 0, 18446744073709551615, 0xFFFFFFFFFFFFFFFF, [0], false, false⟩,
  ⟨0x5403, 1, 1, 8, 1, "BLW_QUOTA_UNCACHED", .u64, .ro, 8, 0, 18446744073709551615, 0xFFFFFFFFFFFFFFFF, [0], false, false⟩,
  ⟨0x5403, 1, 1, 9, 1, "BLW_CROSSINGS", .u64, .ro, 8, 0, 18446744073709551615, 0xFFFFFFFFFFFFFFFF, [0], false, false⟩,
  ⟨0x5403, 1, 1, 10, 1, "BLW_POISONED_LINES", .u64, .ro, 8, 0, 18446744073709551615, 0xFFFFFFFFFFFFFFFF, [0], false, false⟩]

/-- Objects of Bellwether. -/
def catBlw2 : List ObjRow := [
  ⟨0x5403, 1, 1, 11, 1, "BLW_WB_DISCARDED", .u64, .ro, 8, 0, 18446744073709551615, 0xFFFFFFFFFFFFFFFF, [0], false, false⟩,
  ⟨0x5404, 1, 1, 1, 64, "BLW_PORT_LINES", .u32, .ro, 4, 0, 4294967295, 0xFFFFFFFF, [0], false, false⟩]

/-- Objects of Bellwether. -/
def catBlw : List ObjRow := catBlw1 ++ catBlw2

/-- Objects of Paddock. -/
def catPdk1 : List ObjRow := [
  ⟨0x6000, 1, 1024, 1, 1, "PDK_READ_RATE", .u32, .rwt, 4, 0, 512000, 0xFFFFFFFF, [0], true, false⟩,
  ⟨0x6000, 1, 1024, 2, 1, "PDK_READ_BURST", .u32, .rwt, 4, 4096, 67108864, 0xFFFFFFFF, [1048576], true, false⟩,
  ⟨0x6000, 1, 1024, 3, 1, "PDK_READ_OVERHEAD", .u8, .rwt, 1, 0, 255, 0xFF, [0], true, false⟩,
  ⟨0x6000, 1, 1024, 4, 1, "PDK_WRITE_RATE", .u32, .rwt, 4, 0, 512000, 0xFFFFFFFF, [0], true, false⟩,
  ⟨0x6000, 1, 1024, 5, 1, "PDK_WRITE_BURST", .u32, .rwt, 4, 4096, 67108864, 0xFFFFFFFF, [1048576], true, false⟩,
  ⟨0x6000, 1, 1024, 6, 1, "PDK_WRITE_OVERHEAD", .u8, .rwt, 1, 0, 255, 0xFF, [0], true, false⟩,
  ⟨0x6000, 1, 1024, 7, 1, "PDK_REQ_RATE", .u32, .rwt, 4, 0, 64000000, 0xFFFFFFFF, [0], true, false⟩,
  ⟨0x6000, 1, 1024, 8, 1, "PDK_REQ_BURST", .u32, .rwt, 4, 1, 16777216, 0xFFFFFFFF, [65536], true, false⟩,
  ⟨0x6000, 1, 1024, 9, 1, "PDK_ENGINE_RATE", .u32, .rwt, 4, 0, 512000, 0xFFFFFFFF, [0], true, false⟩,
  ⟨0x6000, 1, 1024, 10, 1, "PDK_ENGINE_BURST", .u32, .rwt, 4, 4096, 67108864, 0xFFFFFFFF, [1048576], true, false⟩,
  ⟨0x6000, 1, 1024, 11, 1, "PDK_ENGINE_OVERHEAD", .u8, .rwt, 1, 0, 255, 0xFF, [0], true, false⟩,
  ⟨0x6000, 1, 1024, 12, 1, "PDK_WEIGHT", .u8, .rwt, 1, 1, 255, 0xFF, [16], true, false⟩,
  ⟨0x6000, 1, 1024, 13, 1, "PDK_METER_READ_BYTES", .u64, .ro, 8, 0, 18446744073709551615, 0xFFFFFFFFFFFFFFFF, [0], false, false⟩,
  ⟨0x6000, 1, 1024, 14, 1, "PDK_METER_WRITE_BYTES", .u64, .ro, 8, 0, 18446744073709551615, 0xFFFFFFFFFFFFFFFF, [0], false, false⟩,
  ⟨0x6000, 1, 1024, 15, 1, "PDK_METER_REQUESTS", .u64, .ro, 8, 0, 18446744073709551615, 0xFFFFFFFFFFFFFFFF, [0], false, false⟩,
  ⟨0x6000, 1, 1024, 16, 1, "PDK_METER_ENGINE_NS", .u64, .ro, 8, 0, 18446744073709551615, 0xFFFFFFFFFFFFFFFF, [0], false, false⟩,
  ⟨0x6000, 1, 1024, 17, 1, "PDK_METER_CAPACITY", .u64, .ro, 8, 0, 18446744073709551615, 0xFFFFFFFFFFFFFFFF, [0], false, false⟩,
  ⟨0x6000, 1, 1024, 18, 1, "PDK_METER_SHAPING_NS", .u64, .ro, 8, 0, 18446744073709551615, 0xFFFFFFFFFFFFFFFF, [0], false, false⟩,
  ⟨0x6000, 1, 1024, 19, 1, "PDK_METER_VIOLATIONS", .u64, .ro, 8, 0, 18446744073709551615, 0xFFFFFFFFFFFFFFFF, [0], false, false⟩,
  ⟨0x6000, 1, 1024, 20, 16, "PDK_HIST_BIN", .u64, .ro, 8, 0, 18446744073709551615, 0xFFFFFFFFFFFFFFFF, [0], false, false⟩,
  ⟨0x6000, 1, 1024, 36, 1, "PDK_HELD", .u32, .ro, 4, 0, 4294967295, 0xFFFFFFFF, [0], false, false⟩,
  ⟨0x6400, 1, 1, 1, 1, "PDK_TALLY_INTERVAL", .time64, .rwt, 8, 10000000, 60000000000, 0xFFFFFFFFFFFFFFFF, [1000000000], true, false⟩,
  ⟨0x6400, 1, 1, 2, 1, "PDK_TALLY_WRITE", .u32, .ro, 4, 0, 4294967295, 0xFFFFFFFF, [0], false, false⟩,
  ⟨0x6400, 1, 1, 3, 1, "PDK_TALLY_READ", .u32, .rw, 4, 0, 4294967295, 0xFFFFFFFF, [0], false, false⟩]

/-- Objects of Paddock. -/
def catPdk2 : List ObjRow := [
  ⟨0x6400, 1, 1, 4, 1, "PDK_TALLY_SLOTS", .u32, .ro, 4, 0, 4294967295, 0xFFFFFFFF, [0], false, false⟩,
  ⟨0x6400, 1, 1, 5, 1, "PDK_TALLY_SEQUENCE", .u64, .ro, 8, 0, 18446744073709551615, 0xFFFFFFFFFFFFFFFF, [0], false, false⟩,
  ⟨0x6400, 1, 1, 6, 1, "PDK_TALLY_MERGED", .u64, .ro, 8, 0, 18446744073709551615, 0xFFFFFFFFFFFFFFFF, [0], false, false⟩,
  ⟨0x6401, 1, 1, 1, 1, "PDK_QSAMPLE_PERIOD", .u32, .rwt, 4, 1, 65536, 0xFFFFFFFF, [1000], true, false⟩,
  ⟨0x6401, 1, 1, 2, 1, "PDK_QSAMPLE_GANGS", .domain, .rwt, 10, 0, 10, 0x0, [0], true, false⟩,
  ⟨0x6401, 1, 1, 3, 1, "PDK_QSAMPLE_CLASSES", .bits32, .rwt, 4, 0, 255, 0xFF, [255], true, false⟩,
  ⟨0x6401, 1, 1, 4, 1, "PDK_QSAMPLE_WRITE", .u32, .ro, 4, 0, 4294967295, 0xFFFFFFFF, [0], false, false⟩,
  ⟨0x6401, 1, 1, 5, 1, "PDK_QSAMPLE_READ", .u32, .rw, 4, 0, 4294967295, 0xFFFFFFFF, [0], false, false⟩,
  ⟨0x6401, 1, 1, 6, 1, "PDK_QSAMPLE_DROPPED", .u64, .ro, 8, 0, 18446744073709551615, 0xFFFFFFFFFFFFFFFF, [0], false, false⟩,
  ⟨0x6401, 1, 1, 7, 1, "PDK_QSAMPLE_MISSED", .u64, .ro, 8, 0, 18446744073709551615, 0xFFFFFFFFFFFFFFFF, [0], false, false⟩,
  ⟨0x6402, 1, 1, 1, 15, "PDK_HIST_EDGE", .u32, .rwt, 4, 0, 4294967295, 0xFFFFFFFF, [250, 500, 750, 1000, 1250, 1500, 2000, 2500, 3000, 4000, 5000, 7500, 10000, 20000, 100000], true, false⟩,
  ⟨0x6402, 1, 1, 16, 1, "PDK_HIST_CLEAR", .u16, .wo, 2, 0, 65535, 0xFFFF, [0], false, false⟩,
  ⟨0x6403, 1, 1, 1, 1, "PDK_LINK_DEPTH", .u32, .rwt, 4, 16, 4096, 0xFFFFFFFF, [256], true, false⟩,
  ⟨0x6405, 1, 1, 1, 1, "PDK_TICK_OVERRUNS", .u64, .ro, 8, 0, 18446744073709551615, 0xFFFFFFFFFFFFFFFF, [0], false, false⟩,
  ⟨0x6410, 1, 64, 1, 1, "PDK_PORT_READ_RATE", .u32, .rwt, 4, 0, 512000, 0xFFFFFFFF, [0], true, false⟩,
  ⟨0x6410, 1, 64, 2, 1, "PDK_PORT_READ_BURST", .u32, .rwt, 4, 4096, 67108864, 0xFFFFFFFF, [1048576], true, false⟩,
  ⟨0x6410, 1, 64, 3, 1, "PDK_PORT_WRITE_RATE", .u32, .rwt, 4, 0, 512000, 0xFFFFFFFF, [0], true, false⟩,
  ⟨0x6410, 1, 64, 4, 1, "PDK_PORT_WRITE_BURST", .u32, .rwt, 4, 4096, 67108864, 0xFFFFFFFF, [1048576], true, false⟩]

/-- Objects of Paddock. -/
def catPdk : List ObjRow := catPdk1 ++ catPdk2

/-- Objects of Drover. -/
def catDrv1 : List ObjRow := [
  ⟨0x7000, 1, 1, 1, 1, "DRV_ABI_VERSION", .u16, .const, 2, 0, 65535, 0xFFFF, [768], false, false⟩,
  ⟨0x7000, 1, 1, 2, 1, "DRV_ABI_MAJORS", .bits32, .const, 4, 0, 14, 0xE, [14], false, false⟩,
  ⟨0x7000, 1, 1, 3, 1, "DRV_DISPATCH_MASK", .bits32, .rwt, 4, 0, 65535, 0xFFFF, [65535], true, false⟩,
  ⟨0x7000, 1, 1, 4, 1, "DRV_THREAD_TIMEOUT", .time64, .rwt, 8, 1000000, 60000000000, 0xFFFFFFFFFFFFFFFF, [100000000], true, false⟩,
  ⟨0x7000, 1, 1, 5, 1, "DRV_ZERO_ON_RELEASE", .bool, .rwt, 1, 0, 1, 0xFF, [0], true, false⟩,
  ⟨0x7000, 1, 1, 6, 1, "DRV_ZERO_RETRY", .u32, .wo, 4, 0, 131071, 0xFFFFFFFF, [0], false, false⟩,
  ⟨0x7001, 1, 1, 1, 1, "DRV_HOTPAGE_FOLD", .u16, .rw, 2, 0, 1023, 0xFFFF, [0], false, false⟩,
  ⟨0x7001, 1, 1, 2, 1, "DRV_HOTPAGE_N", .u16, .rwt, 2, 1, 65535, 0xFFFF, [64], true, false⟩,
  ⟨0x7001, 1, 1, 3, 1, "DRV_HOTPAGE_TABLE", .domain, .ro, 4096, 0, 4096, 0x0, [0], false, false⟩,
  ⟨0x7010, 1, 64, 1, 1, "DRV_PROG_STATE", .enum8, .ro, 1, 0, 3, 0xFF, [0], false, false⟩,
  ⟨0x7010, 1, 64, 2, 1, "DRV_PROG_ID", .u32, .ro, 4, 0, 4294967295, 0xFFFFFFFF, [0], false, false⟩,
  ⟨0x7010, 1, 64, 3, 1, "DRV_PROG_VERSION", .u32, .ro, 4, 0, 4294967295, 0xFFFFFFFF, [0], false, false⟩,
  ⟨0x7010, 1, 64, 4, 1, "DRV_PROG_ABI", .u16, .ro, 2, 0, 65535, 0xFFFF, [0], false, false⟩,
  ⟨0x7010, 1, 64, 5, 1, "DRV_PROG_HASH", .domain, .ro, 48, 0, 48, 0x0, [0], false, false⟩,
  ⟨0x7010, 1, 64, 6, 1, "DRV_PROG_CLUSTERS", .bits32, .rwt, 4, 0, 65535, 0xFFFF, [0], false, false⟩,
  ⟨0x7010, 1, 64, 7, 1, "DRV_PROG_FOLDS", .domain, .rwt, 128, 0, 128, 0x0, [0], false, false⟩,
  ⟨0x7100, 1, 1, 1, 1, "DRV_LOAD_CTRL", .enum8, .wo, 1, 1, 4, 0xFF, [0], false, false⟩,
  ⟨0x7100, 1, 1, 2, 1, "DRV_LOAD_SLOT", .u8, .rw, 1, 0, 63, 0xFF, [0], false, false⟩,
  ⟨0x7100, 1, 1, 3, 1, "DRV_LOAD_OFFSET", .u32, .ro, 4, 0, 4294967295, 0xFFFFFFFF, [0], false, false⟩,
  ⟨0x7100, 1, 1, 4, 1, "DRV_LOAD_CHUNK", .domain, .wo, 1024, 0, 1024, 0x0, [0], false, false⟩,
  ⟨0x7100, 1, 1, 5, 1, "DRV_LOAD_STATUS", .enum8, .ro, 1, 0, 5, 0xFF, [0], false, false⟩,
  ⟨0x7110, 1, 1, 1, 4, "DRV_PROG_KEY", .domain, .rwl, 97, 0, 97, 0x0, [0], true, false⟩,
  ⟨0x7110, 1, 1, 5, 1, "DRV_PROG_KEY_LOCK", .bits32, .wo, 4, 0, 15, 0xF, [0], false, false⟩,
  ⟨0x7200, 1, 16, 1, 1, "DRV_CLUSTER_STATE", .bits32, .ro, 4, 0, 4278255367, 0xFF00FF07, [0], false, false⟩]

/-- Objects of Drover. -/
def catDrv2 : List ObjRow := [
  ⟨0x7200, 1, 16, 2, 1, "DRV_MOVER_RATE", .u8, .ro, 1, 0, 255, 0xFF, [4], false, false⟩,
  ⟨0x7200, 1, 16, 3, 1, "DRV_MOVER_STEPS", .u8, .ro, 1, 0, 255, 0xFF, [0], false, false⟩,
  ⟨0x7200, 1, 16, 4, 1, "DRV_MOVER_BYTES", .u64, .ro, 8, 0, 18446744073709551615, 0xFFFFFFFFFFFFFFFF, [0], false, false⟩,
  ⟨0x7200, 1, 16, 5, 1, "DRV_DISPATCHED", .u64, .ro, 8, 0, 18446744073709551615, 0xFFFFFFFFFFFFFFFF, [0], false, false⟩,
  ⟨0x7200, 1, 16, 6, 1, "DRV_EXCEPTIONS", .u64, .ro, 8, 0, 18446744073709551615, 0xFFFFFFFFFFFFFFFF, [0], false, false⟩,
  ⟨0x7200, 1, 16, 7, 1, "DRV_SRAM_FREE", .u32, .ro, 4, 0, 4294967295, 0xFFFFFFFF, [2097152], false, false⟩,
  ⟨0x7300, 1, 128, 1, 1, "DRV_ENGINE_STATE", .bits32, .ro, 4, 0, 241, 0xF1, [0], false, false⟩,
  ⟨0x7300, 1, 128, 2, 1, "DRV_ENGINE_BUSY_NS", .u64, .ro, 8, 0, 18446744073709551615, 0xFFFFFFFFFFFFFFFF, [0], false, false⟩,
  ⟨0x7300, 1, 128, 3, 1, "DRV_ENGINE_FENCE", .u8, .wo, 1, 0, 255, 0xFF, [0], false, false⟩]

/-- Objects of Drover. -/
def catDrv : List ObjRow := catDrv1 ++ catDrv2

/-- Objects of the Tenant Function Block. -/
def catTfb : List ObjRow := [
  ⟨0x7400, 1, 64, 1, 1, "TFB_PF_VF_BASE", .u16, .rwt, 2, 0, 1023, 0xFFFF, [0], true, false⟩,
  ⟨0x7400, 1, 64, 2, 1, "TFB_PF_TOTAL_VFS", .u16, .rwt, 2, 0, 256, 0xFFFF, [0], true, false⟩,
  ⟨0x7400, 1, 64, 3, 1, "TFB_PF_STATE", .bits32, .ro, 4, 0, 4294967055, 0xFFFFFF0F, [0], false, false⟩,
  ⟨0x7400, 1, 64, 4, 1, "TFB_PF_VERSION", .u16, .ro, 2, 0, 65535, 0xFFFF, [0], false, false⟩,
  ⟨0x7440, 1, 1, 1, 1, "TFB_VERSION", .u16, .const, 2, 0, 65535, 0xFFFF, [768], false, false⟩,
  ⟨0x7440, 1, 1, 2, 1, "TFB_MAJORS", .bits32, .const, 4, 0, 14, 0xE, [14], false, false⟩,
  ⟨0x7440, 1, 1, 3, 1, "TFB_VF_MAX_INFLIGHT", .u8, .rwt, 1, 1, 64, 0xFF, [32], true, false⟩,
  ⟨0x7440, 1, 1, 4, 1, "TFB_DESCRIPTORS", .u64, .ro, 8, 0, 18446744073709551615, 0xFFFFFFFFFFFFFFFF, [0], false, false⟩,
  ⟨0x7440, 1, 1, 5, 1, "TFB_FLRS", .u64, .ro, 8, 0, 18446744073709551615, 0xFFFFFFFFFFFFFFFF, [0], false, false⟩,
  ⟨0x7440, 1, 1, 6, 1, "TFB_FLR_DETACHED", .u64, .ro, 8, 0, 18446744073709551615, 0xFFFFFFFFFFFFFFFF, [0], false, false⟩,
  ⟨0x7440, 1, 1, 7, 1, "TFB_CPL_WRITE_ERRORS", .u64, .ro, 8, 0, 18446744073709551615, 0xFFFFFFFFFFFFFFFF, [0], false, false⟩,
  ⟨0x7440, 1, 1, 8, 1, "TFB_QUEUE_ERRORS", .u64, .ro, 8, 0, 18446744073709551615, 0xFFFFFFFFFFFFFFFF, [0], false, false⟩,
  ⟨0x7440, 1, 1, 9, 1, "TFB_BAR_ERRORS", .u64, .ro, 8, 0, 18446744073709551615, 0xFFFFFFFFFFFFFFFF, [0], false, false⟩,
  ⟨0x7480, 1, 8, 1, 128, "TFB_VF_FOLD", .u16, .rwt, 2, 0, 1023, 0xFFFF, [0], true, false⟩,
  ⟨0x7490, 1, 8, 1, 128, "TFB_VF_STATE", .bits32, .ro, 4, 0, 4294905855, 0xFFFF0FFF, [0], false, false⟩]

/-- Objects of migration. -/
def catMig : List ObjRow := [
  ⟨0x7800, 1, 1, 1, 1, "MIG_RB_FOLD", .u16, .rwt, 2, 1, 1023, 0xFFFF, [0], false, false⟩,
  ⟨0x7800, 1, 1, 2, 1, "MIG_RB_PORT", .u8, .rwt, 1, 0, 255, 0xFF, [255], false, false⟩,
  ⟨0x7800, 1, 1, 3, 1, "MIG_RB_BASE", .addr64, .rwt, 8, 0, 18446744073709551615, 0xFFFFFFFFFFFFFFFF, [0], false, false⟩,
  ⟨0x7800, 1, 1, 4, 1, "MIG_RB_VFS", .domain, .rwt, 1024, 0, 1024, 0x0, [0], false, false⟩,
  ⟨0x7800, 1, 1, 5, 1, "MIG_RB_STATE", .bits32, .ro, 4, 0, 4026532863, 0xF00003FF, [0], false, false⟩,
  ⟨0x7800, 1, 1, 6, 1, "MIG_RB_FAIL", .enum8, .ro, 1, 0, 3, 0xFF, [0], false, false⟩,
  ⟨0x7800, 1, 1, 7, 1, "MIG_RB_FREEZE_NS", .time64, .ro, 8, 0, 18446744073709551615, 0xFFFFFFFFFFFFFFFF, [0], false, false⟩,
  ⟨0x7800, 1, 1, 8, 1, "MIG_REBINDS", .u64, .ro, 8, 0, 18446744073709551615, 0xFFFFFFFFFFFFFFFF, [0], false, false⟩,
  ⟨0x7810, 1, 1, 1, 1, "MIG_HV_FOLD", .u16, .rw, 2, 1, 1023, 0xFFFF, [0], false, false⟩,
  ⟨0x7810, 1, 1, 2, 1, "MIG_HV_PORT", .u8, .rw, 1, 0, 255, 0xFF, [255], false, false⟩,
  ⟨0x7810, 1, 1, 3, 1, "MIG_HV_ADDR", .addr64, .rw, 8, 0, 18446744073709551615, 0xFFFFFFFFFFFFFFFF, [0], false, false⟩,
  ⟨0x7810, 1, 1, 4, 1, "MIG_HV_OFFSET", .u64, .rw, 8, 0, 18446744073709551615, 0xFFFFFFFFFFFFFFFF, [0], false, false⟩,
  ⟨0x7810, 1, 1, 5, 1, "MIG_HV_LENGTH", .u64, .rw, 8, 64, 268435456, 0xFFFFFFFFFFFFFFFF, [0], false, false⟩,
  ⟨0x7810, 1, 1, 6, 1, "MIG_HV_CTRL", .u8, .wo, 1, 0, 255, 0xFF, [0], false, false⟩,
  ⟨0x7810, 1, 1, 7, 1, "MIG_HV_STATE", .bits32, .ro, 4, 0, 3221225727, 0xC00000FF, [0], false, false⟩,
  ⟨0x7810, 1, 1, 8, 1, "MIG_HV_PAGES", .u64, .ro, 8, 0, 18446744073709551615, 0xFFFFFFFFFFFFFFFF, [0], false, false⟩,
  ⟨0x7810, 1, 1, 9, 1, "MIG_HV_BYTES", .u64, .ro, 8, 0, 18446744073709551615, 0xFFFFFFFFFFFFFFFF, [0], false, false⟩]

/-- Objects of Commons. -/
def catCmn : List ObjRow := [
  ⟨0x8000, 1, 1, 1, 1, "CMN_RAW_BYTES", .u64, .const, 8, 0, 18446744073709551615, 0xFFFFFFFFFFFFFFFF, [274877906944], false, false⟩,
  ⟨0x8000, 1, 1, 2, 1, "CMN_USABLE_BYTES", .u64, .const, 8, 0, 18446744073709551615, 0xFFFFFFFFFFFFFFFF, [240518168576], false, false⟩,
  ⟨0x8000, 1, 1, 3, 1, "CMN_STATE", .bits32, .ro, 4, 0, 31, 0x1F, [0], false, false⟩,
  ⟨0x8000, 1, 1, 4, 1, "CMN_ECC_CORRECTED", .u64, .ro, 8, 0, 18446744073709551615, 0xFFFFFFFFFFFFFFFF, [0], false, false⟩,
  ⟨0x8000, 1, 1, 5, 1, "CMN_ECC_UNCORRECTABLE", .u64, .ro, 8, 0, 18446744073709551615, 0xFFFFFFFFFFFFFFFF, [0], false, false⟩,
  ⟨0x8000, 1, 1, 6, 1, "CMN_POISON_READS", .u64, .ro, 8, 0, 18446744073709551615, 0xFFFFFFFFFFFFFFFF, [0], false, false⟩,
  ⟨0x8000, 1, 1, 7, 1, "CMN_POISON_WRITES", .u64, .ro, 8, 0, 18446744073709551615, 0xFFFFFFFFFFFFFFFF, [0], false, false⟩,
  ⟨0x8000, 1, 1, 8, 1, "CMN_RETIRED", .u32, .ro, 4, 0, 4294967295, 0xFFFFFFFF, [0], false, false⟩,
  ⟨0x8000, 1, 1, 9, 1, "CMN_RETIRE_LIMIT", .u32, .const, 4, 0, 4294967295, 0xFFFFFFFF, [16384], false, false⟩,
  ⟨0x8000, 1, 1, 10, 1, "CMN_RANGE_ERRORS", .u64, .ro, 8, 0, 18446744073709551615, 0xFFFFFFFFFFFFFFFF, [0], false, false⟩,
  ⟨0x8001, 1, 1, 1, 1, "CMN_SCRUB_ENABLE", .bool, .rwt, 1, 0, 1, 0xFF, [1], true, false⟩,
  ⟨0x8001, 1, 1, 2, 1, "CMN_SCRUB_PERIOD", .time64, .rwt, 8, 3600000000000, 2592000000000000, 0xFFFFFFFFFFFFFFFF, [86400000000000], true, false⟩,
  ⟨0x8001, 1, 1, 3, 1, "CMN_SCRUB_POSITION", .u64, .ro, 8, 0, 18446744073709551615, 0xFFFFFFFFFFFFFFFF, [0], false, false⟩,
  ⟨0x8001, 1, 1, 4, 1, "CMN_SCRUB_PASSES", .u64, .ro, 8, 0, 18446744073709551615, 0xFFFFFFFFFFFFFFFF, [0], false, false⟩,
  ⟨0x8001, 1, 1, 5, 1, "CMN_SCRUB_BEHIND", .u64, .ro, 8, 0, 18446744073709551615, 0xFFFFFFFFFFFFFFFF, [0], false, false⟩,
  ⟨0x8002, 1, 1, 1, 5, "CMN_BW_WEIGHT", .u8, .rwt, 1, 1, 64, 0xFF, [8, 4, 2, 1, 1], true, false⟩,
  ⟨0x8010, 1, 1, 1, 1, "CMN_CARVE_SIZE", .u64, .rwt, 8, 0, 2147483648, 0xFFFFFFFFFFFFFFFF, [0], true, false⟩,
  ⟨0x8010, 1, 1, 2, 1, "CMN_CARVE_SIZE", .u64, .rwt, 8, 0, 17179869184, 0xFFFFFFFFFFFFFFFF, [0], true, false⟩,
  ⟨0x8010, 1, 1, 3, 1, "CMN_CARVE_SIZE", .u64, .rwt, 8, 0, 17179869184, 0xFFFFFFFFFFFFFFFF, [0], true, false⟩,
  ⟨0x8010, 1, 1, 4, 1, "CMN_CARVE_SIZE", .u64, .rwt, 8, 0, 8589934592, 0xFFFFFFFFFFFFFFFF, [536870912], true, false⟩,
  ⟨0x8010, 1, 1, 5, 1, "CMN_CARVE_SIZE", .u64, .rwt, 8, 33554432, 2147483648, 0xFFFFFFFFFFFFFFFF, [268435456], true, false⟩,
  ⟨0x8010, 1, 1, 6, 1, "CMN_CARVE_SIZE", .u64, .rwt, 8, 67108864, 1073741824, 0xFFFFFFFFFFFFFFFF, [268435456], true, false⟩,
  ⟨0x8011, 1, 1, 1, 8, "CMN_CARVE_BASE", .u64, .ro, 8, 0, 18446744073709551615, 0xFFFFFFFFFFFFFFFF, [0], false, false⟩,
  ⟨0x8012, 1, 1, 1, 8, "CMN_CARVE_ACTIVE", .u64, .ro, 8, 0, 18446744073709551615, 0xFFFFFFFFFFFFFFFF, [0], false, false⟩,
  ⟨0x8020, 1, 32, 1, 1, "CMN_CH_STATE", .bits32, .ro, 4, 0, 243, 0xF3, [0], false, false⟩,
  ⟨0x8020, 1, 32, 2, 1, "CMN_CH_CORRECTED", .u64, .ro, 8, 0, 18446744073709551615, 0xFFFFFFFFFFFFFFFF, [0], false, false⟩,
  ⟨0x8020, 1, 32, 3, 1, "CMN_CH_UNCORRECTABLE", .u64, .ro, 8, 0, 18446744073709551615, 0xFFFFFFFFFFFFFFFF, [0], false, false⟩]

/-- Objects of the CIC and Tally. -/
def catCic : List ObjRow := [
  ⟨0x9000, 1, 16, 1, 128, "CRF_CIC_SRC_CFG", .bits32, .rwt, 4, 0, 3774873599, 0xE0FFFFFF, [0], true, false⟩,
  ⟨0x9010, 1, 1, 1, 7, "CRF_CIC_FILTER", .u8, .rwt, 1, 1, 255, 0xFF, [4], true, false⟩,
  ⟨0x9011, 1, 1, 1, 1, "CRF_CIC_SPURIOUS", .u64, .ro, 8, 0, 18446744073709551615, 0xFFFFFFFFFFFFFFFF, [0], false, false⟩,
  ⟨0x9011, 1, 1, 2, 1, "CRF_CIC_NOCAUSE", .u64, .ro, 8, 0, 18446744073709551615, 0xFFFFFFFFFFFFFFFF, [0], false, false⟩,
  ⟨0x9011, 1, 1, 3, 1, "CRF_CIC_EDGES_MERGED", .u64, .ro, 8, 0, 18446744073709551615, 0xFFFFFFFFFFFFFFFF, [0], false, false⟩,
  ⟨0x9011, 1, 1, 4, 1, "CRF_CIC_BAD_COMPLETE", .u64, .ro, 8, 0, 18446744073709551615, 0xFFFFFFFFFFFFFFFF, [0], false, false⟩,
  ⟨0x9011, 1, 1, 5, 1, "CRF_CIC_CLAIMS", .u64, .ro, 8, 0, 18446744073709551615, 0xFFFFFFFFFFFFFFFF, [0], false, false⟩,
  ⟨0x9100, 1, 8, 1, 128, "CRF_TALLY_SEL", .bits32, .rwt, 4, 0, 4026531839, 0xEFFFFFFF, [0], true, false⟩,
  ⟨0x9110, 1, 8, 1, 128, "CRF_TALLY_RELOAD", .u64, .rwt, 8, 0, 281474976710655, 0xFFFFFFFFFFFFFFFF, [0], true, false⟩,
  ⟨0x9120, 1, 8, 1, 128, "CRF_TALLY_COUNT", .u64, .ro, 8, 0, 18446744073709551615, 0xFFFFFFFFFFFFFFFF, [0], false, false⟩,
  ⟨0x9130, 1, 1, 1, 64, "CRF_TALLY_OVF", .bits32, .ro, 4, 0, 65535, 0xFFFF, [0], false, false⟩,
  ⟨0x9131, 1, 1, 1, 1, "CRF_TALLY_OVF_CLEAR", .u16, .wo, 2, 0, 1023, 0xFFFF, [0], false, false⟩,
  ⟨0x9131, 1, 1, 2, 1, "CRF_TALLY_OVERFLOWS", .u64, .ro, 8, 0, 18446744073709551615, 0xFFFFFFFFFFFFFFFF, [0], false, false⟩,
  ⟨0x9131, 1, 1, 3, 1, "CRF_TALLY_MISSED", .u64, .ro, 8, 0, 18446744073709551615, 0xFFFFFFFFFFFFFFFF, [0], false, false⟩]

/-- Objects of faults. -/
def catFlt1 : List ObjRow := [
  ⟨0xA000, 1, 1, 1, 1, "HRD_FAULT_LAST_SEQ", .u32, .ro, 4, 0, 4294967295, 0xFFFFFFFF, [0], false, true⟩,
  ⟨0xA000, 1, 1, 2, 1, "HRD_FAULT_LAST_SLOT", .u16, .ro, 2, 0, 65535, 0xFFFF, [0], false, true⟩,
  ⟨0xA000, 1, 1, 3, 1, "HRD_FAULT_ACK", .u32, .wo, 4, 0, 4294967295, 0xFFFFFFFF, [0], false, true⟩,
  ⟨0xA000, 1, 1, 4, 1, "HRD_FAULT_ACKED", .u32, .ro, 4, 0, 4294967295, 0xFFFFFFFF, [0], false, true⟩,
  ⟨0xA000, 1, 1, 5, 1, "HRD_FAULT_LOST", .u64, .ro, 8, 0, 18446744073709551615, 0xFFFFFFFFFFFFFFFF, [0], false, true⟩,
  ⟨0xA000, 1, 1, 6, 1, "HRD_FAULT_COALESCED", .u64, .ro, 8, 0, 18446744073709551615, 0xFFFFFFFFFFFFFFFF, [0], false, true⟩,
  ⟨0xA000, 1, 1, 7, 1, "HRD_FAULT_F4_LATCH", .bool, .ro, 1, 0, 1, 0xFF, [0], false, true⟩,
  ⟨0xA000, 1, 1, 8, 1, "HRD_FAULT_INJECT", .u32, .wo, 4, 0, 4294967295, 0xFFFFFFFF, [0], false, true⟩,
  ⟨0xA001, 1, 1, 1, 5, "HRD_FAULT_OPEN", .u32, .ro, 4, 0, 4294967295, 0xFFFFFFFF, [0], false, true⟩,
  ⟨0xA101, 1, 1, 1, 4, "HRD_FAULT_SRC_CFG", .u32, .rwt, 4, 0, 4294967295, 0x80FFFFFF, [2162843656, 2162843656, 2162843656, 2162843656], true, true⟩,
  ⟨0xA102, 1, 1, 1, 10, "HRD_FAULT_SRC_CFG", .u32, .rwt, 4, 0, 4294967295, 0x80FFFFFF, [15360008, 2147739712, 2162843656, 2147739712, 2147739712, 2162843656, 2147739712, 2147739712, 2147739712, 2147739712], true, true⟩,
  ⟨0xA103, 1, 1, 1, 12, "HRD_FAULT_SRC_CFG", .u32, .rwt, 4, 0, 4294967295, 0x80FFFFFF, [2162843656, 15360008, 2147739712, 2162843656, 2147739712, 2162843656, 2147739712, 2147739712, 2162843656, 2162843656, 2162843656, 2162843656], true, true⟩,
  ⟨0xA104, 1, 1, 1, 5, "HRD_FAULT_SRC_CFG", .u32, .rwt, 4, 0, 4294967295, 0x80FFFFFF, [15360008, 2147739712, 2147739712, 2147739712, 2147739712], true, true⟩,
  ⟨0xA105, 1, 1, 1, 7, "HRD_FAULT_SRC_CFG", .u32, .rwt, 4, 0, 4294967295, 0x80FFFFFF, [256064, 2147739712, 15360008, 2162843656, 15360008, 256064, 2147739712], true, true⟩,
  ⟨0xA106, 1, 1, 1, 9, "HRD_FAULT_SRC_CFG", .u32, .rwt, 4, 0, 4294967295, 0x80FFFFFF, [2147739712, 15360008, 2162843656, 2162843656, 15360008, 2147739712, 2147739712, 2147739712, 2147739712], true, true⟩,
  ⟨0xA107, 1, 1, 1, 5, "HRD_FAULT_SRC_CFG", .u32, .rwt, 4, 0, 4294967295, 0x80FFFFFF, [2162843656, 2147739712, 2147739712, 2147739712, 2147739712], true, true⟩,
  ⟨0xA108, 1, 1, 1, 7, "HRD_FAULT_SRC_CFG", .u32, .rwt, 4, 0, 4294967295, 0x80FFFFFF, [2162843656, 15360008, 2147739712, 256064, 256064, 2162843656, 256064], true, true⟩,
  ⟨0xA109, 1, 1, 1, 5, "HRD_FAULT_SRC_CFG", .u32, .rwt, 4, 0, 4294967295, 0x80FFFFFF, [256064, 256064, 256064, 2147739712, 2162843656], true, true⟩,
  ⟨0xA10A, 1, 1, 1, 5, "HRD_FAULT_SRC_CFG", .u32, .rwt, 4, 0, 4294967295, 0x80FFFFFF, [2147739712, 2162843656, 2162843656, 2147739712, 15360008], true, true⟩,
  ⟨0xA10B, 1, 1, 1, 6, "HRD_FAULT_SRC_CFG", .u32, .rwt, 4, 0, 4294967295, 0x80FFFFFF, [2162843656, 2162843656, 2162843656, 2162843656, 2162843656, 2162843656], true, true⟩,
  ⟨0xA10C, 1, 1, 1, 11, "HRD_FAULT_SRC_CFG", .u32, .rwt, 4, 0, 4294967295, 0x80FFFFFF, [2162843656, 2162843656, 2162843656, 2162843656, 2162843656, 15360008, 15360008, 15360008, 15360008, 15360008, 15360008], true, true⟩,
  ⟨0xA201, 1, 1, 1, 4, "HRD_FAULT_SRC_EVENTS", .u64, .ro, 8, 0, 18446744073709551615, 0xFFFFFFFFFFFFFFFF, [0], false, true⟩,
  ⟨0xA202, 1, 1, 1, 10, "HRD_FAULT_SRC_EVENTS", .u64, .ro, 8, 0, 18446744073709551615, 0xFFFFFFFFFFFFFFFF, [0], false, true⟩,
  ⟨0xA203, 1, 1, 1, 12, "HRD_FAULT_SRC_EVENTS", .u64, .ro, 8, 0, 18446744073709551615, 0xFFFFFFFFFFFFFFFF, [0], false, true⟩]

/-- Objects of faults. -/
def catFlt2 : List ObjRow := [
  ⟨0xA204, 1, 1, 1, 5, "HRD_FAULT_SRC_EVENTS", .u64, .ro, 8, 0, 18446744073709551615, 0xFFFFFFFFFFFFFFFF, [0], false, true⟩,
  ⟨0xA205, 1, 1, 1, 7, "HRD_FAULT_SRC_EVENTS", .u64, .ro, 8, 0, 18446744073709551615, 0xFFFFFFFFFFFFFFFF, [0], false, true⟩,
  ⟨0xA206, 1, 1, 1, 9, "HRD_FAULT_SRC_EVENTS", .u64, .ro, 8, 0, 18446744073709551615, 0xFFFFFFFFFFFFFFFF, [0], false, true⟩,
  ⟨0xA207, 1, 1, 1, 5, "HRD_FAULT_SRC_EVENTS", .u64, .ro, 8, 0, 18446744073709551615, 0xFFFFFFFFFFFFFFFF, [0], false, true⟩,
  ⟨0xA208, 1, 1, 1, 7, "HRD_FAULT_SRC_EVENTS", .u64, .ro, 8, 0, 18446744073709551615, 0xFFFFFFFFFFFFFFFF, [0], false, true⟩,
  ⟨0xA209, 1, 1, 1, 5, "HRD_FAULT_SRC_EVENTS", .u64, .ro, 8, 0, 18446744073709551615, 0xFFFFFFFFFFFFFFFF, [0], false, true⟩,
  ⟨0xA20A, 1, 1, 1, 5, "HRD_FAULT_SRC_EVENTS", .u64, .ro, 8, 0, 18446744073709551615, 0xFFFFFFFFFFFFFFFF, [0], false, true⟩,
  ⟨0xA20B, 1, 1, 1, 6, "HRD_FAULT_SRC_EVENTS", .u64, .ro, 8, 0, 18446744073709551615, 0xFFFFFFFFFFFFFFFF, [0], false, true⟩,
  ⟨0xA20C, 1, 1, 1, 11, "HRD_FAULT_SRC_EVENTS", .u64, .ro, 8, 0, 18446744073709551615, 0xFFFFFFFFFFFFFFFF, [0], false, true⟩,
  ⟨0xA300, 1, 32, 1, 128, "HRD_FAULT_RECORD", .domain, .ro, 64, 0, 64, 0x0, [0], false, true⟩]

/-- Objects of faults. -/
def catFlt : List ObjRow := catFlt1 ++ catFlt2

/-- Objects of boot, clocks and power. -/
def catHrd1 : List ObjRow := [
  ⟨0xB001, 1, 1, 1, 1, "HRD_STRAP_VALUE", .u16, .ro, 2, 0, 65535, 0x1FF, [0], false, false⟩,
  ⟨0xB002, 1, 1, 1, 1, "HRD_BOOT_CAUSE", .enum8, .ro, 1, 0, 5, 0xFF, [0], false, true⟩,
  ⟨0xB002, 1, 1, 2, 1, "HRD_BOOT_STATE", .enum8, .ro, 1, 0, 4, 0xFF, [0], false, true⟩,
  ⟨0xB002, 1, 1, 3, 1, "HRD_PINFOLD_CAUSE", .u16, .ro, 2, 0, 65535, 0xFFFF, [0], false, true⟩,
  ⟨0xB002, 1, 1, 4, 1, "HRD_SELFTEST_RAN", .bits32, .ro, 4, 0, 32766, 0x7FFE, [0], false, true⟩,
  ⟨0xB002, 1, 1, 5, 1, "HRD_SELFTEST_PASS", .bits32, .ro, 4, 0, 32766, 0x7FFE, [0], false, true⟩,
  ⟨0xB002, 1, 1, 6, 1, "HRD_FENCED_QUADS", .u64, .ro, 8, 0, 18446744073709551615, 0xFFFFFFFFFFFFFFFF, [0], false, true⟩,
  ⟨0xB002, 1, 1, 7, 1, "HRD_FENCED_CLUSTERS", .bits32, .ro, 4, 0, 65535, 0xFFFF, [0], false, true⟩,
  ⟨0xB002, 1, 1, 8, 1, "HRD_FENCED_ENGINES", .domain, .ro, 16, 0, 16, 0x0, [0], false, true⟩,
  ⟨0xB002, 1, 1, 9, 1, "HRD_READY_TIME", .time64, .ro, 8, 0, 18446744073709551615, 0xFFFFFFFFFFFFFFFF, [0], false, true⟩,
  ⟨0xB003, 1, 1, 1, 1, "HRD_ENGINE_FENCE", .bool, .rw, 1, 0, 1, 0xFF, [1], true, false⟩,
  ⟨0xB004, 1, 1, 1, 1, "HRD_WARM_RESET", .u16, .wo, 2, 0x7A3C, 0x7A3C, 0xFFFF, [0], false, false⟩,
  ⟨0xB005, 1, 1, 1, 64, "HRD_SELFTEST_LOG", .domain, .ro, 2048, 0, 2048, 0x0, [0], false, true⟩,
  ⟨0xB010, 1, 1, 1, 1, "HRD_DTC", .time64, .ro, 8, 0, 18446744073709551615, 0xFFFFFFFFFFFFFFFF, [0], false, false⟩,
  ⟨0xB010, 1, 1, 2, 1, "HRD_TIME_SOURCE", .enum8, .rwt, 1, 0, 2, 0xFF, [0], true, false⟩,
  ⟨0xB010, 1, 1, 3, 1, "HRD_TIME_MODE", .enum8, .rwt, 1, 0, 1, 0xFF, [0], true, false⟩,
  ⟨0xB010, 1, 1, 4, 1, "HRD_DTC_SLEW_MAX", .u16, .rwt, 2, 1, 500, 0xFFFF, [100], true, false⟩,
  ⟨0xB010, 1, 1, 5, 1, "HRD_TIME_OFFSET", .u64, .ro, 8, 0, 18446744073709551615, 0xFFFFFFFFFFFFFFFF, [0], false, false⟩,
  ⟨0xB010, 1, 1, 6, 1, "HRD_TIME_STATUS", .bits32, .ro, 4, 0, 63, 0x3F, [0], false, false⟩,
  ⟨0xB010, 1, 1, 7, 1, "HRD_TIME_ERROR", .i32, .ro, 4, (-2147483648), 2147483647, 0xFFFFFFFF, [0], false, false⟩,
  ⟨0xB010, 1, 1, 8, 1, "HRD_RATE_ADJ", .i32, .ro, 4, (-2147483648), 2147483647, 0xFFFFFFFF, [0], false, false⟩,
  ⟨0xB010, 1, 1, 9, 1, "HRD_PTP_DOMAIN", .u8, .rwt, 1, 0, 127, 0xFF, [0], true, false⟩,
  ⟨0xB010, 1, 1, 10, 1, "HRD_PTP_PORTS", .bits32, .rwt, 4, 0, 3, 0x3, [3], true, false⟩,
  ⟨0xB010, 1, 1, 11, 1, "HRD_PTP_TRANSPORT", .enum8, .rwt, 1, 0, 1, 0xFF, [0], true, false⟩]

/-- Objects of boot, clocks and power. -/
def catHrd2 : List ObjRow := [
  ⟨0xB010, 1, 1, 12, 1, "HRD_PTP_HOLDOVER", .time64, .rwt, 8, 1000000000, 3600000000000, 0xFFFFFFFFFFFFFFFF, [10000000000], true, false⟩,
  ⟨0xB010, 1, 1, 13, 1, "HRD_PPS_OUT_ENABLE", .bool, .rwt, 1, 0, 1, 0xFF, [0], true, false⟩,
  ⟨0xB010, 1, 1, 14, 1, "HRD_PPS_WINDOW", .time64, .rwt, 8, 100, 100000000, 0xFFFFFFFFFFFFFFFF, [10000], true, false⟩,
  ⟨0xB010, 1, 1, 15, 1, "HRD_PPS_REJECTED", .u64, .ro, 8, 0, 18446744073709551615, 0xFFFFFFFFFFFFFFFF, [0], false, false⟩,
  ⟨0xB020, 1, 1, 1, 1, "HRD_PSTATE", .enum8, .ro, 1, 0, 3, 0xFF, [0], false, false⟩,
  ⟨0xB020, 1, 1, 2, 1, "HRD_PSTATE_REQUEST", .enum8, .wo, 1, 2, 3, 0xFF, [0], false, false⟩,
  ⟨0xB020, 1, 1, 3, 1, "HRD_FALLOW_SET", .bits32, .rwt, 4, 0, 524287, 0x7FFFF, [0], true, false⟩,
  ⟨0xB020, 1, 1, 4, 1, "HRD_FALLOWED", .bits32, .ro, 4, 0, 524287, 0x7FFFF, [0], false, false⟩,
  ⟨0xB020, 1, 1, 5, 1, "HRD_WAKE_ENABLE", .bits32, .rwt, 4, 0, 63, 0x3F, [27], true, false⟩,
  ⟨0xB020, 1, 1, 6, 1, "HRD_WAKE_TIMER", .time64, .rwt, 8, 0, 18446744073709551615, 0xFFFFFFFFFFFFFFFF, [0], true, false⟩,
  ⟨0xB020, 1, 1, 7, 1, "HRD_WAKE_CAUSE", .enum8, .ro, 1, 0, 7, 0xFF, [0], false, false⟩,
  ⟨0xB020, 1, 1, 8, 1, "HRD_PAD_AUTO", .bool, .rwt, 1, 0, 1, 0xFF, [1], true, false⟩,
  ⟨0xB020, 1, 1, 9, 1, "HRD_PAD_RELEASE", .u8, .wo, 1, 0, 255, 0xFF, [0], false, false⟩,
  ⟨0xB020, 1, 1, 10, 1, "HRD_PADS_HELD", .bool, .ro, 1, 0, 1, 0xFF, [0], false, false⟩,
  ⟨0xB020, 1, 1, 11, 1, "HRD_P3_REFCLK_OFF", .bool, .rwt, 1, 0, 1, 0xFF, [0], true, false⟩,
  ⟨0xB020, 1, 1, 12, 1, "HRD_WAKE_RETRIES", .u32, .ro, 4, 0, 4294967295, 0xFFFFFFFF, [0], false, false⟩,
  ⟨0xB020, 1, 1, 13, 1, "HRD_SLEEP_NS", .u64, .ro, 8, 0, 18446744073709551615, 0xFFFFFFFFFFFFFFFF, [0], false, false⟩,
  ⟨0xB030, 1, 1, 1, 1, "HRD_GOV_BUDGET", .u16, .rwt, 2, 320, 1280, 0xFFFF, [1280], true, false⟩,
  ⟨0xB030, 1, 1, 2, 1, "HRD_GOV_FLOOR", .u16, .rwt, 2, 0, 1280, 0xFFFF, [640], true, false⟩,
  ⟨0xB030, 1, 1, 3, 1, "HRD_GOV_BASE_DEFAULT", .u16, .rwt, 2, 0, 1280, 0xFFFF, [1000], true, false⟩,
  ⟨0xB030, 1, 1, 4, 1, "HRD_GOV_UNMETERED", .u16, .rwt, 2, 0, 1280, 0xFFFF, [120], true, false⟩,
  ⟨0xB030, 1, 1, 5, 1, "HRD_GOV_BASE", .u16, .ro, 2, 0, 65535, 0xFFFF, [0], false, false⟩,
  ⟨0xB030, 1, 1, 6, 1, "HRD_GOV_HELD", .u16, .ro, 2, 0, 65535, 0xFFFF, [0], false, false⟩,
  ⟨0xB030, 1, 1, 7, 1, "HRD_GOV_BRAKE", .bool, .ro, 1, 0, 1, 0xFF, [0], false, false⟩]

/-- Objects of boot, clocks and power. -/
def catHrd3 : List ObjRow := [
  ⟨0xB030, 1, 1, 8, 1, "HRD_GOV_WAITING", .u16, .ro, 2, 0, 65535, 0xFFFF, [0], false, false⟩,
  ⟨0xB030, 1, 1, 9, 1, "HRD_GOV_GRANTS", .u64, .ro, 8, 0, 18446744073709551615, 0xFFFFFFFFFFFFFFFF, [0], false, false⟩,
  ⟨0xB040, 1, 1, 1, 1, "HRD_THERMAL_THROTTLE", .u8, .rwt, 1, 85, 105, 0xFF, [100], true, false⟩,
  ⟨0xB040, 1, 1, 2, 1, "HRD_THERMAL_CRITICAL", .u8, .const, 1, 0, 255, 0xFF, [115], false, false⟩,
  ⟨0xB040, 1, 1, 3, 1, "HRD_THROTTLE_STATE", .bits32, .ro, 4, 0, 65527, 0xFFF7, [0], false, false⟩,
  ⟨0xB040, 1, 1, 4, 32, "HRD_TEMP", .i32, .ro, 4, (-2147483648), 2147483647, 0xFFFFFFFF, [0], false, false⟩,
  ⟨0xB050, 1, 1, 1, 3, "HRD_PMBUS_ADDR", .u8, .rwt, 1, 0, 127, 0xFF, [0], true, false⟩,
  ⟨0xB050, 1, 1, 4, 1, "HRD_AVS_TARGET", .u16, .ro, 2, 0, 65535, 0xFFFF, [750], false, false⟩,
  ⟨0xB050, 1, 1, 5, 1, "HRD_PMBUS_ALERTS", .u64, .ro, 8, 0, 18446744073709551615, 0xFFFFFFFFFFFFFFFF, [0], false, false⟩]

/-- Objects of boot, clocks and power. -/
def catHrd : List ObjRow := catHrd1 ++ catHrd2 ++ catHrd3

/-- Objects of slot power. -/
def catSlt : List ObjRow := [
  ⟨0xB400, 1, 16, 1, 1, "HRD_SLOT_ENABLE", .bool, .rwt, 1, 0, 1, 0xFF, [0], true, false⟩,
  ⟨0xB400, 1, 16, 2, 1, "HRD_SLOT_ILIMIT", .u16, .rwt, 2, 500, 8000, 0xFFFF, [6500], true, false⟩,
  ⟨0xB400, 1, 16, 3, 1, "HRD_SLOT_FAULT_TIME", .time64, .rwt, 8, 100000, 25000000, 0xFFFFFFFFFFFFFFFF, [5000000], true, false⟩,
  ⟨0xB400, 1, 16, 4, 1, "HRD_SLOT_DVDT", .u16, .rwt, 2, 500, 10000, 0xFFFF, [1000], true, false⟩,
  ⟨0xB400, 1, 16, 5, 1, "HRD_SLOT_FET_RTH", .u16, .rwt, 2, 10, 10000, 0xFFFF, [200], true, false⟩,
  ⟨0xB400, 1, 16, 6, 1, "HRD_SLOT_FET_CTH", .u32, .rwt, 4, 100, 10000000, 0xFFFFFFFF, [20000], true, false⟩,
  ⟨0xB400, 1, 16, 7, 1, "HRD_SLOT_AMBIENT", .i32, .rwt, 4, (-400), 1250, 0xFFFFFFFF, [700], true, false⟩,
  ⟨0xB400, 1, 16, 8, 1, "HRD_SLOT_THERM_ENABLE", .bool, .rwt, 1, 0, 1, 0xFF, [0], true, false⟩,
  ⟨0xB400, 1, 16, 9, 1, "HRD_SLOT_FET_BLANK", .time64, .rwt, 8, 10000000, 2000000000, 0xFFFFFFFFFFFFFFFF, [200000000], true, false⟩,
  ⟨0xB400, 1, 16, 10, 1, "HRD_SLOT_STATE", .bits32, .ro, 4, 0, 4095, 0xFFF, [0], false, false⟩,
  ⟨0xB400, 1, 16, 11, 1, "HRD_SLOT_VIN", .u16, .ro, 2, 0, 65535, 0xFFFF, [0], false, false⟩,
  ⟨0xB400, 1, 16, 12, 1, "HRD_SLOT_VOUT", .u16, .ro, 2, 0, 65535, 0xFFFF, [0], false, false⟩,
  ⟨0xB400, 1, 16, 13, 1, "HRD_SLOT_CURRENT", .u16, .ro, 2, 0, 65535, 0xFFFF, [0], false, false⟩,
  ⟨0xB400, 1, 16, 14, 1, "HRD_SLOT_FET_TEMP", .i32, .ro, 4, (-2147483648), 2147483647, 0xFFFFFFFF, [0], false, false⟩,
  ⟨0xB400, 1, 16, 15, 1, "HRD_SLOT_THERM_TEMP", .i32, .ro, 4, (-2147483648), 2147483647, 0xFFFFFFFF, [0], false, false⟩,
  ⟨0xB400, 1, 16, 16, 1, "HRD_SLOT_TRIPS", .u32, .ro, 4, 0, 4294967295, 0xFFFFFFFF, [0], false, false⟩,
  ⟨0xB480, 1, 1, 1, 1, "HRD_SLOT_GRANT", .u8, .rwt, 1, 1, 8, 0xFF, [2], true, false⟩]

/-- The rows of the range that an index lies in (R39). -/
def catRange (idx : Nat) : List ObjRow :=
  if idx < 0x1000 then catId
  else if idx < 0x2000 then catCrf
  else if idx < 0x2400 then catSel
  else if idx < 0x2800 then catPrt
  else if idx < 0x3000 then catTwl
  else if idx < 0x4000 then catLom
  else if idx < 0x5000 then catFld
  else if idx < 0x5400 then catGtp
  else if idx < 0x6000 then catBlw
  else if idx < 0x7000 then catPdk
  else if idx < 0x7400 then catDrv
  else if idx < 0x7800 then catTfb
  else if idx < 0x8000 then catMig
  else if idx < 0x9000 then catCmn
  else if idx < 0xA000 then catCic
  else if idx < 0xB000 then catFlt
  else if idx < 0xB400 then catHrd
  else if idx < 0xF000 then catSlt
  else []

end Sys2Proof.Machine
end

