-- ==== Sys2Proof/Machine/Keys.lean ====
section
/-! DEFINITION. The dictionary keys: for each object of the chapters' tables, under the manual's own name, the key of its
subentry (index × 256 + subindex, R38).  A first argument counts the indices of an object from 0, a second (or the only one,
where an object has one index) counts its subentries from 0. -/

namespace Sys2Proof.Machine

/-- The key of a subentry (R38). -/
def key (idx sub : Nat) : Nat := idx * 256 + sub

/-- The index of a key. -/
def keyIdx (k : Nat) : Nat := k / 256

/-- The subindex of a key. -/
def keySub (k : Nat) : Nat := k % 256

/-- CRF_VENDOR_ID (CONST). -/
def K.CRF_VENDOR_ID : Nat := key 0x0 1

/-- CRF_SCHEMA_VERSION (CONST). -/
def K.CRF_SCHEMA_VERSION : Nat := key 0x0 2

/-- CRF_DEVICE_ID (CONST). -/
def K.CRF_DEVICE_ID : Nat := key 0x0 3

/-- CRF_STEPPING (CONST). -/
def K.CRF_STEPPING : Nat := key 0x0 4

/-- CRF_SERIAL (CONST). -/
def K.CRF_SERIAL : Nat := key 0x0 5

/-- CRF_CROOK_VERSION (CONST). -/
def K.CRF_CROOK_VERSION : Nat := key 0x0 6

/-- CRF_FW_VERSION (RO). -/
def K.CRF_FW_VERSION : Nat := key 0x0 7

/-- CRF_SUPPORTED_MAJORS (CONST). -/
def K.CRF_SUPPORTED_MAJORS : Nat := key 0x0 8

/-- CRF_SUBSYS_VENDOR_ID (RWT). -/
def K.CRF_SUBSYS_VENDOR_ID : Nat := key 0x0 9

/-- CRF_SUBSYS_ID (RWT). -/
def K.CRF_SUBSYS_ID : Nat := key 0x0 10

/-- CRF_SESSION_STATE (RO). -/
def K.CRF_SESSION_STATE (j : Nat) : Nat := key 0x1000 (1 + j)

/-- CRF_KEY_SLOT (WO). -/
def K.CRF_KEY_SLOT (j : Nat) : Nat := key 0x1001 (1 + j)

/-- CRF_KEY_PERM (RWL). -/
def K.CRF_KEY_PERM (j : Nat) : Nat := key 0x1002 (1 + j)

/-- CRF_KEY_LOCK (WO). -/
def K.CRF_KEY_LOCK : Nat := key 0x1003 1

/-- CRF_COMMIT_TIMEOUT (RW). -/
def K.CRF_COMMIT_TIMEOUT : Nat := key 0x1010 1

/-- CRF_TXN_IDLE (RW). -/
def K.CRF_TXN_IDLE : Nat := key 0x1010 2

/-- CRF_SESSION_IDLE (RW). -/
def K.CRF_SESSION_IDLE : Nat := key 0x1010 3

/-- CRF_PERSIST_ENABLE (RW). -/
def K.CRF_PERSIST_ENABLE : Nat := key 0x1020 1

/-- CRF_FACTORY_RESET (WO). -/
def K.CRF_FACTORY_RESET : Nat := key 0x1020 2

/-- CRF_JOURNAL_FILL (RO). -/
def K.CRF_JOURNAL_FILL : Nat := key 0x1020 3

/-- CRF_MRAM_PASSES (RO). -/
def K.CRF_MRAM_PASSES : Nat := key 0x1020 4

/-- CRF_MRAM_PASS_LIMIT (CONST). -/
def K.CRF_MRAM_PASS_LIMIT : Nat := key 0x1020 5

/-- CRF_PERSIST_DEFERRED (RO). -/
def K.CRF_PERSIST_DEFERRED : Nat := key 0x1020 6

/-- CRF_AUTH_FAILS (RO). -/
def K.CRF_AUTH_FAILS : Nat := key 0x1030 1

/-- CRF_LENGTH_ERRORS (RO). -/
def K.CRF_LENGTH_ERRORS : Nat := key 0x1030 2

/-- CRF_COMMITS (RO). -/
def K.CRF_COMMITS : Nat := key 0x1030 3

/-- CRF_CONFLICTS (RO). -/
def K.CRF_CONFLICTS : Nat := key 0x1030 4

/-- CRF_COMMIT_TIMEOUTS (RO). -/
def K.CRF_COMMIT_TIMEOUTS : Nat := key 0x1030 5

/-- CRF_UDP_PORT (RW). -/
def K.CRF_UDP_PORT : Nat := key 0x1040 1

/-- CRF_TRANSPORT_ENABLE (RW). -/
def K.CRF_TRANSPORT_ENABLE : Nat := key 0x1040 2

/-- CRF_FW_CTRL (WO). -/
def K.CRF_FW_CTRL : Nat := key 0x1050 1

/-- CRF_FW_OFFSET (RW). -/
def K.CRF_FW_OFFSET : Nat := key 0x1050 2

/-- CRF_FW_CHUNK (WO). -/
def K.CRF_FW_CHUNK : Nat := key 0x1050 3

/-- CRF_FW_STATUS (RO). -/
def K.CRF_FW_STATUS : Nat := key 0x1050 4

/-- CRF_FW_STAGED_VERSION (RO). -/
def K.CRF_FW_STAGED_VERSION : Nat := key 0x1050 5

/-- SEL_QUAD_RATE (RO). -/
def K.SEL_QUAD_RATE (i : Nat) : Nat := key (0x2000 + 4 * i) 1

/-- SEL_QUAD_STATE (RO). -/
def K.SEL_QUAD_STATE (i : Nat) : Nat := key (0x2000 + 4 * i) 2

/-- SEL_TX_INVERT (RWT). -/
def K.SEL_TX_INVERT (i : Nat) : Nat := key (0x2000 + 4 * i) 3

/-- SEL_PLL_UNLOCKS (RO). -/
def K.SEL_PLL_UNLOCKS (i : Nat) : Nat := key (0x2000 + 4 * i) 4

/-- SEL_TWILL_PRESET (RWT). -/
def K.SEL_TWILL_PRESET (i : Nat) : Nat := key (0x2001 + 4 * i) 1

/-- SEL_RX_ADAPT (RWT). -/
def K.SEL_RX_ADAPT (i : Nat) : Nat := key (0x2001 + 4 * i) 2

/-- SEL_TX_COEFF (RO). -/
def K.SEL_TX_COEFF (i : Nat) (j : Nat) : Nat := key (0x2001 + 4 * i) (3 + j)

/-- SEL_SNR (RO). -/
def K.SEL_SNR (i : Nat) (j : Nat) : Nat := key (0x2001 + 4 * i) (7 + j)

/-- SEL_REEQ (WO). -/
def K.SEL_REEQ (i : Nat) : Nat := key (0x2001 + 4 * i) 11

/-- SEL_EQ_DEFERRED (RO). -/
def K.SEL_EQ_DEFERRED (i : Nat) : Nat := key (0x2001 + 4 * i) 12

/-- SEL_TEST_MODE (RWT). -/
def K.SEL_TEST_MODE (i : Nat) : Nat := key (0x2002 + 4 * i) 1

/-- SEL_TEST_RATE (RWT). -/
def K.SEL_TEST_RATE (i : Nat) : Nat := key (0x2002 + 4 * i) 2

/-- SEL_PRBS_PATTERN (RWT). -/
def K.SEL_PRBS_PATTERN (i : Nat) : Nat := key (0x2002 + 4 * i) 3

/-- SEL_USER_PATTERN (RWT). -/
def K.SEL_USER_PATTERN (i : Nat) : Nat := key (0x2002 + 4 * i) 4

/-- SEL_INJECT_PERIOD (RWT). -/
def K.SEL_INJECT_PERIOD (i : Nat) : Nat := key (0x2002 + 4 * i) 5

/-- SEL_INJECT (WO). -/
def K.SEL_INJECT (i : Nat) : Nat := key (0x2002 + 4 * i) 6

/-- SEL_PRBS_LOCK (RO). -/
def K.SEL_PRBS_LOCK (i : Nat) : Nat := key (0x2002 + 4 * i) 7

/-- SEL_PRBS_ERRORS (RO). -/
def K.SEL_PRBS_ERRORS (i : Nat) (j : Nat) : Nat := key (0x2002 + 4 * i) (8 + j)

/-- SEL_PRBS_BITS (RO). -/
def K.SEL_PRBS_BITS (i : Nat) (j : Nat) : Nat := key (0x2002 + 4 * i) (12 + j)

/-- SEL_PRBS_CLEAR (WO). -/
def K.SEL_PRBS_CLEAR (i : Nat) : Nat := key (0x2002 + 4 * i) 16

/-- SEL_MARGIN_CTRL (WO). -/
def K.SEL_MARGIN_CTRL (i : Nat) : Nat := key (0x2003 + 4 * i) 1

/-- SEL_MARGIN_RESULT (RO). -/
def K.SEL_MARGIN_RESULT (i : Nat) (j : Nat) : Nat := key (0x2003 + 4 * i) (2 + j)

/-- SEL_ELASTIC_ERRORS (RO). -/
def K.SEL_ELASTIC_ERRORS (i : Nat) : Nat := key (0x2003 + 4 * i) 6

/-- SEL_AM_LOSSES (RO). -/
def K.SEL_AM_LOSSES (i : Nat) : Nat := key (0x2003 + 4 * i) 7

/-- SEL_LOS_EVENTS (RO). -/
def K.SEL_LOS_EVENTS (i : Nat) : Nat := key (0x2003 + 4 * i) 8

/-- SEL_REFCLK_SSC (RWT). -/
def K.SEL_REFCLK_SSC (i : Nat) : Nat := key (0x2100 + i) 1

/-- SEL_REFCLK_COUNT (RO). -/
def K.SEL_REFCLK_COUNT (i : Nat) : Nat := key (0x2100 + i) 2

/-- SEL_REFCLK_LOSSES (RO). -/
def K.SEL_REFCLK_LOSSES (i : Nat) : Nat := key (0x2100 + i) 3

/-- PRT_ROLE (RWT). -/
def K.PRT_ROLE (i : Nat) : Nat := key (0x2400 + 4 * i) 1

/-- PRT_WIDTH (RWT). -/
def K.PRT_WIDTH (i : Nat) : Nat := key (0x2400 + 4 * i) 2

/-- PRT_MAX_RATE (RWT). -/
def K.PRT_MAX_RATE (i : Nat) : Nat := key (0x2400 + 4 * i) 3

/-- PRT_LINK_STATE (RO). -/
def K.PRT_LINK_STATE (i : Nat) : Nat := key (0x2400 + 4 * i) 4

/-- PRT_CXL_ENABLE (RWT). -/
def K.PRT_CXL_ENABLE (i : Nat) : Nat := key (0x2400 + 4 * i) 5

/-- PRT_SLOT (RWT). -/
def K.PRT_SLOT (i : Nat) : Nat := key (0x2400 + 4 * i) 6

/-- PRT_DPC_ENABLE (RWT). -/
def K.PRT_DPC_ENABLE (i : Nat) : Nat := key (0x2400 + 4 * i) 7

/-- PRT_IDE_MODE (RWT). -/
def K.PRT_IDE_MODE (i : Nat) : Nat := key (0x2400 + 4 * i) 8

/-- PRT_TRACKER_TIMEOUT (RWT). -/
def K.PRT_TRACKER_TIMEOUT (i : Nat) : Nat := key (0x2401 + 4 * i) 1

/-- PRT_DC_RESPONSE_TIMEOUT (RW). -/
def K.PRT_DC_RESPONSE_TIMEOUT (i : Nat) : Nat := key (0x2401 + 4 * i) 2

/-- PRT_DC_REGIONS (RWT). -/
def K.PRT_DC_REGIONS (i : Nat) : Nat := key (0x2401 + 4 * i) 3

/-- PRT_LD_FEID (RWT). -/
def K.PRT_LD_FEID (i : Nat) (j : Nat) : Nat := key (0x2402 + 4 * i) (1 + j)

/-- PRT_VPPB_BIND (RWT). -/
def K.PRT_VPPB_BIND (i : Nat) (j : Nat) : Nat := key (0x2402 + 4 * i) (17 + j)

/-- PRT_LINKDOWNS (RO). -/
def K.PRT_LINKDOWNS (i : Nat) : Nat := key (0x2403 + 4 * i) 1

/-- PRT_NP_ERRORED (RO). -/
def K.PRT_NP_ERRORED (i : Nat) : Nat := key (0x2403 + 4 * i) 2

/-- PRT_POSTED_DROPPED (RO). -/
def K.PRT_POSTED_DROPPED (i : Nat) : Nat := key (0x2403 + 4 * i) 3

/-- PRT_TRACKER_TIMEOUTS (RO). -/
def K.PRT_TRACKER_TIMEOUTS (i : Nat) : Nat := key (0x2403 + 4 * i) 4

/-- PRT_LATE_RESPONSES (RO). -/
def K.PRT_LATE_RESPONSES (i : Nat) : Nat := key (0x2403 + 4 * i) 5

/-- PRT_VIOLATIONS (RO). -/
def K.PRT_VIOLATIONS (i : Nat) : Nat := key (0x2403 + 4 * i) 6

/-- PRT_IDE_STATE (RO). -/
def K.PRT_IDE_STATE (i : Nat) : Nat := key (0x2403 + 4 * i) 7

/-- TWL_MAX_RATE (RWT). -/
def K.TWL_MAX_RATE (i : Nat) : Nat := key (0x2800 + 4 * i) 1

/-- TWL_MIN_WIDTH (RWT). -/
def K.TWL_MIN_WIDTH (i : Nat) : Nat := key (0x2800 + 4 * i) 2

/-- TWL_STATE (RO). -/
def K.TWL_STATE (i : Nat) : Nat := key (0x2800 + 4 * i) 3

/-- TWL_PARTNER_VERSION (RO). -/
def K.TWL_PARTNER_VERSION (i : Nat) : Nat := key (0x2800 + 4 * i) 4

/-- TWL_CAPS_COMMON (RO). -/
def K.TWL_CAPS_COMMON (i : Nat) : Nat := key (0x2800 + 4 * i) 5

/-- TWL_RETRAIN (WO). -/
def K.TWL_RETRAIN (i : Nat) : Nat := key (0x2800 + 4 * i) 6

/-- TWL_REENABLE (WO). -/
def K.TWL_REENABLE (i : Nat) : Nat := key (0x2800 + 4 * i) 7

/-- TWL_REPLAY_LIMIT (RWT). -/
def K.TWL_REPLAY_LIMIT (i : Nat) : Nat := key (0x2801 + 4 * i) 1

/-- TWL_FEC_LIMIT (RWT). -/
def K.TWL_FEC_LIMIT (i : Nat) : Nat := key (0x2801 + 4 * i) 2

/-- TWL_HEALTH_WINDOW (RWT). -/
def K.TWL_HEALTH_WINDOW (i : Nat) : Nat := key (0x2801 + 4 * i) 3

/-- TWL_TRACKER_TIMEOUT (RWT). -/
def K.TWL_TRACKER_TIMEOUT (i : Nat) : Nat := key (0x2801 + 4 * i) 4

/-- TWL_REPLAY_TIMER (RWT). -/
def K.TWL_REPLAY_TIMER (i : Nat) : Nat := key (0x2801 + 4 * i) 5

/-- TWL_RX_HDR_CREDITS (RWT). -/
def K.TWL_RX_HDR_CREDITS (i : Nat) (j : Nat) : Nat := key (0x2802 + 4 * i) (1 + j)

/-- TWL_RX_DATA_CREDITS (RWT). -/
def K.TWL_RX_DATA_CREDITS (i : Nat) (j : Nat) : Nat := key (0x2802 + 4 * i) (9 + j)

/-- TWL_REPLAYS (RO). -/
def K.TWL_REPLAYS (i : Nat) : Nat := key (0x2803 + 4 * i) 1

/-- TWL_FEC_CORRECTED (RO). -/
def K.TWL_FEC_CORRECTED (i : Nat) : Nat := key (0x2803 + 4 * i) 2

/-- TWL_FEC_UNCORRECTABLE (RO). -/
def K.TWL_FEC_UNCORRECTABLE (i : Nat) : Nat := key (0x2803 + 4 * i) 3

/-- TWL_CRC_ERRORS (RO). -/
def K.TWL_CRC_ERRORS (i : Nat) : Nat := key (0x2803 + 4 * i) 4

/-- TWL_LINKDOWNS (RO). -/
def K.TWL_LINKDOWNS (i : Nat) : Nat := key (0x2803 + 4 * i) 5

/-- TWL_TRAIN_FAILS (RO). -/
def K.TWL_TRAIN_FAILS (i : Nat) : Nat := key (0x2803 + 4 * i) 6

/-- TWL_CREDIT_CLAMPS (RO). -/
def K.TWL_CREDIT_CLAMPS (i : Nat) : Nat := key (0x2803 + 4 * i) 7

/-- TWL_FAILED_TRACKERS (RO). -/
def K.TWL_FAILED_TRACKERS (i : Nat) : Nat := key (0x2803 + 4 * i) 8

/-- TWL_REISSUED (RO). -/
def K.TWL_REISSUED (i : Nat) : Nat := key (0x2803 + 4 * i) 9

/-- TWL_LATE_RESPONSES (RO). -/
def K.TWL_LATE_RESPONSES (i : Nat) : Nat := key (0x2803 + 4 * i) 10

/-- TWL_VIOLATIONS (RO). -/
def K.TWL_VIOLATIONS (i : Nat) : Nat := key (0x2803 + 4 * i) 11

/-- TWL_DEVICE_NUMBER (RWT). -/
def K.TWL_DEVICE_NUMBER : Nat := key 0x2A00 1

/-- TWL_VERSION (CONST). -/
def K.TWL_VERSION : Nat := key 0x2A00 2

/-- TWL_SUPPORTED_MAJORS (CONST). -/
def K.TWL_SUPPORTED_MAJORS : Nat := key 0x2A00 3

/-- TWL_CAPS (CONST). -/
def K.TWL_CAPS : Nat := key 0x2A00 4

/-- TWL_HOP_LIMIT (RWT). -/
def K.TWL_HOP_LIMIT : Nat := key 0x2A00 5

/-- TWL_HASH_SEED (RWT). -/
def K.TWL_HASH_SEED : Nat := key 0x2A00 6

/-- LOM_BUFFER_CELLS (RO). -/
def K.LOM_BUFFER_CELLS : Nat := key 0x3000 1

/-- LOM_SHARED_CELLS (RO). -/
def K.LOM_SHARED_CELLS : Nat := key 0x3000 2

/-- LOM_SHARED_USED (RO). -/
def K.LOM_SHARED_USED : Nat := key 0x3000 3

/-- LOM_SLICES_FENCED (RO). -/
def K.LOM_SLICES_FENCED : Nat := key 0x3000 4

/-- LOM_MARKABLE (RWT). -/
def K.LOM_MARKABLE : Nat := key 0x3000 5

/-- LOM_RS_CLASSES (RWT). -/
def K.LOM_RS_CLASSES : Nat := key 0x3000 6

/-- LOM_RESEQ_SKIP (RWT). -/
def K.LOM_RESEQ_SKIP : Nat := key 0x3000 7

/-- LOM_RESEQ_WINDOW (CONST). -/
def K.LOM_RESEQ_WINDOW : Nat := key 0x3000 8

/-- LOM_RESEQ_HOLD_LIMIT (RWT). -/
def K.LOM_RESEQ_HOLD_LIMIT : Nat := key 0x3000 9

/-- LOM_ALPHA (RWT). -/
def K.LOM_ALPHA (j : Nat) : Nat := key 0x3001 (1 + j)

/-- LOM_MARK_THRESHOLD (RWT). -/
def K.LOM_MARK_THRESHOLD (j : Nat) : Nat := key 0x3002 (1 + j)

/-- LOM_OVF_ENABLE (RWT). -/
def K.LOM_OVF_ENABLE : Nat := key 0x3003 1

/-- LOM_OVF_PER_OUTPUT (RWT). -/
def K.LOM_OVF_PER_OUTPUT : Nat := key 0x3003 2

/-- LOM_OVF_BYTES (RO). -/
def K.LOM_OVF_BYTES : Nat := key 0x3003 3

/-- LOM_OVF_SPILLED (RO). -/
def K.LOM_OVF_SPILLED : Nat := key 0x3003 4

/-- LOM_OVF_REFUSED (RO). -/
def K.LOM_OVF_REFUSED : Nat := key 0x3003 5

/-- LOM_OVF_DISCARDED (RO). -/
def K.LOM_OVF_DISCARDED : Nat := key 0x3003 6

/-- LOM_TRUNCATED (RO). -/
def K.LOM_TRUNCATED : Nat := key 0x3004 1

/-- LOM_CELL_ECC_CORRECTED (RO). -/
def K.LOM_CELL_ECC_CORRECTED : Nat := key 0x3004 2

/-- LOM_CELL_ECC_UNCORRECTABLE (RO). -/
def K.LOM_CELL_ECC_UNCORRECTABLE : Nat := key 0x3004 3

/-- LOM_RESEQ_SKIPS (RO). -/
def K.LOM_RESEQ_SKIPS : Nat := key 0x3004 4

/-- LOM_RESEQ_LATE (RO). -/
def K.LOM_RESEQ_LATE : Nat := key 0x3004 5

/-- LOM_RESEQ_BEYOND (RO). -/
def K.LOM_RESEQ_BEYOND : Nat := key 0x3004 6

/-- LOM_RESEQ_HELD (RO). -/
def K.LOM_RESEQ_HELD : Nat := key 0x3004 7

/-- LOM_MARKS_SET (RO). -/
def K.LOM_MARKS_SET : Nat := key 0x3004 8

/-- LOM_MARKS_RX (RO). -/
def K.LOM_MARKS_RX (j : Nat) : Nat := key 0x3004 (9 + j)

/-- LOM_SAMPLE_WRITE (RO). -/
def K.LOM_SAMPLE_WRITE : Nat := key 0x3008 1

/-- LOM_SAMPLE_READ (RW). -/
def K.LOM_SAMPLE_READ : Nat := key 0x3008 2

/-- LOM_SAMPLE_DROPPED (RO). -/
def K.LOM_SAMPLE_DROPPED : Nat := key 0x3008 3

/-- LOM_SAMPLER_CTRL (RWT). -/
def K.LOM_SAMPLER_CTRL (i : Nat) : Nat := key (0x3010 + i) 1

/-- LOM_SAMPLER_N (RWT). -/
def K.LOM_SAMPLER_N (i : Nat) : Nat := key (0x3010 + i) 2

/-- LOM_SAMPLER_TAKEN (RO). -/
def K.LOM_SAMPLER_TAKEN (i : Nat) : Nat := key (0x3010 + i) 3

/-- LOM_INGRESS_RESERVE (RWT). -/
def K.LOM_INGRESS_RESERVE (i : Nat) : Nat := key (0x3100 + i) 1

/-- LOM_FWD_MODE (RWT). -/
def K.LOM_FWD_MODE (i : Nat) : Nat := key (0x3100 + i) 2

/-- LOM_RESERVE_USED (RO). -/
def K.LOM_RESERVE_USED (i : Nat) : Nat := key (0x3100 + i) 3

/-- LOM_QUEUE_CELLS (RO). -/
def K.LOM_QUEUE_CELLS (i : Nat) (j : Nat) : Nat := key (0x3100 + i) (4 + j)

/-- FLD_OWNER_PORT (RWT). -/
def K.FLD_OWNER_PORT (i : Nat) : Nat := key (0x4000 + i) 1

/-- FLD_WINDOW_BASE (RWT). -/
def K.FLD_WINDOW_BASE (i : Nat) : Nat := key (0x4000 + i) 2

/-- FLD_WINDOW_SIZE (RWT). -/
def K.FLD_WINDOW_SIZE (i : Nat) : Nat := key (0x4000 + i) 3

/-- FLD_FLAGS (RWT). -/
def K.FLD_FLAGS (i : Nat) : Nat := key (0x4000 + i) 4

/-- FLD_DIRTY_OFFSET (RWT). -/
def K.FLD_DIRTY_OFFSET (i : Nat) : Nat := key (0x4000 + i) 5

/-- FLD_EPOCH (RO). -/
def K.FLD_EPOCH (i : Nat) : Nat := key (0x4000 + i) 6

/-- FLD_EPOCH_INFLIGHT (RO). -/
def K.FLD_EPOCH_INFLIGHT (i : Nat) (j : Nat) : Nat := key (0x4000 + i) (7 + j)

/-- FLD_EXTENTS_BOUND (RO). -/
def K.FLD_EXTENTS_BOUND (i : Nat) : Nat := key (0x4000 + i) 11

/-- FLD_BOUND_BYTES (RO). -/
def K.FLD_BOUND_BYTES (i : Nat) : Nat := key (0x4000 + i) 12

/-- FLD_HELD (RO). -/
def K.FLD_HELD (i : Nat) : Nat := key (0x4000 + i) 13

/-- FLD_DECODE_MISSES (RO). -/
def K.FLD_DECODE_MISSES (i : Nat) : Nat := key (0x4000 + i) 14

/-- FLD_EXTENT_ENTRY (RWT). -/
def K.FLD_EXTENT_ENTRY (e : Nat) : Nat := key (0x4400 + e / 128) (e % 128 + 1)

/-- FLD_ROUTE (RWT). -/
def K.FLD_ROUTE (e : Nat) : Nat := key (0x4800 + e / 64) (e % 64 + 1)

/-- FLD_RELEASE_REQUEST (WO). -/
def K.FLD_RELEASE_REQUEST : Nat := key 0x4C00 1

/-- FLD_RELEASES_PENDING (RO). -/
def K.FLD_RELEASES_PENDING : Nat := key 0x4C00 2

/-- FLD_EXTENTS_DRAINING (RO). -/
def K.FLD_EXTENTS_DRAINING : Nat := key 0x4C00 3

/-- FLD_DECODE_MISSES_ALL (RO). -/
def K.FLD_DECODE_MISSES_ALL : Nat := key 0x4C00 4

/-- FLD_EPOCH_WAITS (RO). -/
def K.FLD_EPOCH_WAITS : Nat := key 0x4C00 5

/-- FLD_HELD_ERRORED (RO). -/
def K.FLD_HELD_ERRORED : Nat := key 0x4C00 6

/-- FLD_TABLE_ECC_CORRECTED (RO). -/
def K.FLD_TABLE_ECC_CORRECTED : Nat := key 0x4C00 7

/-- FLD_DC_REGION_SIZE (CONST). -/
def K.FLD_DC_REGION_SIZE : Nat := key 0x4C00 8

/-- FLD_PORT_FOLD (RWT). -/
def K.FLD_PORT_FOLD (j : Nat) : Nat := key 0x4C01 (1 + j)

/-- FLD_DEVICE_ROUTE (RWT). -/
def K.FLD_DEVICE_ROUTE (e : Nat) : Nat := key (0x4C10 + e / 64) (e % 64 + 1)

/-- GTP_REGION_ENTRY (RWL). -/
def K.GTP_REGION_ENTRY (e : Nat) : Nat := key (0x5000 + e / 128) (e % 128 + 1)

/-- GTP_LOCK_REQUEST (WO). -/
def K.GTP_LOCK_REQUEST : Nat := key 0x5100 1

/-- GTP_LOCKED (RO). -/
def K.GTP_LOCKED : Nat := key 0x5100 2

/-- GTP_VIOLATIONS (RO). -/
def K.GTP_VIOLATIONS : Nat := key 0x5100 3

/-- GTP_VIOLATION_WRITE (RO). -/
def K.GTP_VIOLATION_WRITE : Nat := key 0x5100 4

/-- GTP_VIOLATION_READ (RW). -/
def K.GTP_VIOLATION_READ : Nat := key 0x5100 5

/-- GTP_VIOLATIONS_LOST (RO). -/
def K.GTP_VIOLATIONS_LOST : Nat := key 0x5100 6

/-- GTP_TABLE_ECC_CORRECTED (RO). -/
def K.GTP_TABLE_ECC_CORRECTED : Nat := key 0x5100 7

/-- GTP_VIOLATION_LOG (RO). -/
def K.GTP_VIOLATION_LOG (e : Nat) : Nat := key (0x5110 + e / 128) (e % 128 + 1)

/-- BLW_DEVICE_TIER (RWT). -/
def K.BLW_DEVICE_TIER : Nat := key 0x5400 1

/-- BLW_PEERS (RWT). -/
def K.BLW_PEERS : Nat := key 0x5400 2

/-- BLW_FORWARDING (RWT). -/
def K.BLW_FORWARDING : Nat := key 0x5400 3

/-- BLW_NEAR_ENABLE (RWT). -/
def K.BLW_NEAR_ENABLE : Nat := key 0x5400 4

/-- BLW_PORT_QUOTA (RWT). -/
def K.BLW_PORT_QUOTA : Nat := key 0x5400 5

/-- BLW_BISNP_TIMEOUT (RWT). -/
def K.BLW_BISNP_TIMEOUT : Nat := key 0x5400 6

/-- BLW_FILTER_ENTRIES (CONST). -/
def K.BLW_FILTER_ENTRIES : Nat := key 0x5401 1

/-- BLW_L2_ENTRIES (RO). -/
def K.BLW_L2_ENTRIES : Nat := key 0x5401 2

/-- BLW_NEAR_LINES (RO). -/
def K.BLW_NEAR_LINES : Nat := key 0x5401 3

/-- BLW_TXN_SLOTS (CONST). -/
def K.BLW_TXN_SLOTS : Nat := key 0x5401 4

/-- BLW_LOOKUP_LINE (WO). -/
def K.BLW_LOOKUP_LINE : Nat := key 0x5402 1

/-- BLW_LOOKUP_RESULT (RO). -/
def K.BLW_LOOKUP_RESULT : Nat := key 0x5402 2

/-- BLW_FLUSH_FOLD (WO). -/
def K.BLW_FLUSH_FOLD : Nat := key 0x5402 3

/-- BLW_FLUSH_STATE (RO). -/
def K.BLW_FLUSH_STATE : Nat := key 0x5402 4

/-- BLW_LOOKUPS (RO). -/
def K.BLW_LOOKUPS : Nat := key 0x5403 1

/-- BLW_RECALLS (RO). -/
def K.BLW_RECALLS : Nat := key 0x5403 2

/-- BLW_BISNP_SENT (RO). -/
def K.BLW_BISNP_SENT : Nat := key 0x5403 3

/-- BLW_SNOOPS_SENT (RO). -/
def K.BLW_SNOOPS_SENT : Nat := key 0x5403 4

/-- BLW_FWD_SERVED (RO). -/
def K.BLW_FWD_SERVED : Nat := key 0x5403 5

/-- BLW_NEAR_HITS (RO). -/
def K.BLW_NEAR_HITS : Nat := key 0x5403 6

/-- BLW_RETRY_WAITS (RO). -/
def K.BLW_RETRY_WAITS : Nat := key 0x5403 7

/-- BLW_QUOTA_UNCACHED (RO). -/
def K.BLW_QUOTA_UNCACHED : Nat := key 0x5403 8

/-- BLW_CROSSINGS (RO). -/
def K.BLW_CROSSINGS : Nat := key 0x5403 9

/-- BLW_POISONED_LINES (RO). -/
def K.BLW_POISONED_LINES : Nat := key 0x5403 10

/-- BLW_WB_DISCARDED (RO). -/
def K.BLW_WB_DISCARDED : Nat := key 0x5403 11

/-- BLW_PORT_LINES (RO). -/
def K.BLW_PORT_LINES (j : Nat) : Nat := key 0x5404 (1 + j)

/-- PDK_READ_RATE (RWT). -/
def K.PDK_READ_RATE (i : Nat) : Nat := key (0x6000 + i) 1

/-- PDK_READ_BURST (RWT). -/
def K.PDK_READ_BURST (i : Nat) : Nat := key (0x6000 + i) 2

/-- PDK_READ_OVERHEAD (RWT). -/
def K.PDK_READ_OVERHEAD (i : Nat) : Nat := key (0x6000 + i) 3

/-- PDK_WRITE_RATE (RWT). -/
def K.PDK_WRITE_RATE (i : Nat) : Nat := key (0x6000 + i) 4

/-- PDK_WRITE_BURST (RWT). -/
def K.PDK_WRITE_BURST (i : Nat) : Nat := key (0x6000 + i) 5

/-- PDK_WRITE_OVERHEAD (RWT). -/
def K.PDK_WRITE_OVERHEAD (i : Nat) : Nat := key (0x6000 + i) 6

/-- PDK_REQ_RATE (RWT). -/
def K.PDK_REQ_RATE (i : Nat) : Nat := key (0x6000 + i) 7

/-- PDK_REQ_BURST (RWT). -/
def K.PDK_REQ_BURST (i : Nat) : Nat := key (0x6000 + i) 8

/-- PDK_ENGINE_RATE (RWT). -/
def K.PDK_ENGINE_RATE (i : Nat) : Nat := key (0x6000 + i) 9

/-- PDK_ENGINE_BURST (RWT). -/
def K.PDK_ENGINE_BURST (i : Nat) : Nat := key (0x6000 + i) 10

/-- PDK_ENGINE_OVERHEAD (RWT). -/
def K.PDK_ENGINE_OVERHEAD (i : Nat) : Nat := key (0x6000 + i) 11

/-- PDK_WEIGHT (RWT). -/
def K.PDK_WEIGHT (i : Nat) : Nat := key (0x6000 + i) 12

/-- PDK_METER_READ_BYTES (RO). -/
def K.PDK_METER_READ_BYTES (i : Nat) : Nat := key (0x6000 + i) 13

/-- PDK_METER_WRITE_BYTES (RO). -/
def K.PDK_METER_WRITE_BYTES (i : Nat) : Nat := key (0x6000 + i) 14

/-- PDK_METER_REQUESTS (RO). -/
def K.PDK_METER_REQUESTS (i : Nat) : Nat := key (0x6000 + i) 15

/-- PDK_METER_ENGINE_NS (RO). -/
def K.PDK_METER_ENGINE_NS (i : Nat) : Nat := key (0x6000 + i) 16

/-- PDK_METER_CAPACITY (RO). -/
def K.PDK_METER_CAPACITY (i : Nat) : Nat := key (0x6000 + i) 17

/-- PDK_METER_SHAPING_NS (RO). -/
def K.PDK_METER_SHAPING_NS (i : Nat) : Nat := key (0x6000 + i) 18

/-- PDK_METER_VIOLATIONS (RO). -/
def K.PDK_METER_VIOLATIONS (i : Nat) : Nat := key (0x6000 + i) 19

/-- PDK_HIST_BIN (RO). -/
def K.PDK_HIST_BIN (i : Nat) (j : Nat) : Nat := key (0x6000 + i) (20 + j)

/-- PDK_HELD (RO). -/
def K.PDK_HELD (i : Nat) : Nat := key (0x6000 + i) 36

/-- PDK_TALLY_INTERVAL (RWT). -/
def K.PDK_TALLY_INTERVAL : Nat := key 0x6400 1

/-- PDK_TALLY_WRITE (RO). -/
def K.PDK_TALLY_WRITE : Nat := key 0x6400 2

/-- PDK_TALLY_READ (RW). -/
def K.PDK_TALLY_READ : Nat := key 0x6400 3

/-- PDK_TALLY_SLOTS (RO). -/
def K.PDK_TALLY_SLOTS : Nat := key 0x6400 4

/-- PDK_TALLY_SEQUENCE (RO). -/
def K.PDK_TALLY_SEQUENCE : Nat := key 0x6400 5

/-- PDK_TALLY_MERGED (RO). -/
def K.PDK_TALLY_MERGED : Nat := key 0x6400 6

/-- PDK_QSAMPLE_PERIOD (RWT). -/
def K.PDK_QSAMPLE_PERIOD : Nat := key 0x6401 1

/-- PDK_QSAMPLE_GANGS (RWT). -/
def K.PDK_QSAMPLE_GANGS : Nat := key 0x6401 2

/-- PDK_QSAMPLE_CLASSES (RWT). -/
def K.PDK_QSAMPLE_CLASSES : Nat := key 0x6401 3

/-- PDK_QSAMPLE_WRITE (RO). -/
def K.PDK_QSAMPLE_WRITE : Nat := key 0x6401 4

/-- PDK_QSAMPLE_READ (RW). -/
def K.PDK_QSAMPLE_READ : Nat := key 0x6401 5

/-- PDK_QSAMPLE_DROPPED (RO). -/
def K.PDK_QSAMPLE_DROPPED : Nat := key 0x6401 6

/-- PDK_QSAMPLE_MISSED (RO). -/
def K.PDK_QSAMPLE_MISSED : Nat := key 0x6401 7

/-- PDK_HIST_EDGE (RWT). -/
def K.PDK_HIST_EDGE (j : Nat) : Nat := key 0x6402 (1 + j)

/-- PDK_HIST_CLEAR (WO). -/
def K.PDK_HIST_CLEAR : Nat := key 0x6402 16

/-- PDK_LINK_DEPTH (RWT). -/
def K.PDK_LINK_DEPTH : Nat := key 0x6403 1

/-- PDK_TICK_OVERRUNS (RO). -/
def K.PDK_TICK_OVERRUNS : Nat := key 0x6405 1

/-- PDK_PORT_READ_RATE (RWT). -/
def K.PDK_PORT_READ_RATE (i : Nat) : Nat := key (0x6410 + i) 1

/-- PDK_PORT_READ_BURST (RWT). -/
def K.PDK_PORT_READ_BURST (i : Nat) : Nat := key (0x6410 + i) 2

/-- PDK_PORT_WRITE_RATE (RWT). -/
def K.PDK_PORT_WRITE_RATE (i : Nat) : Nat := key (0x6410 + i) 3

/-- PDK_PORT_WRITE_BURST (RWT). -/
def K.PDK_PORT_WRITE_BURST (i : Nat) : Nat := key (0x6410 + i) 4

/-- DRV_ABI_VERSION (CONST). -/
def K.DRV_ABI_VERSION : Nat := key 0x7000 1

/-- DRV_ABI_MAJORS (CONST). -/
def K.DRV_ABI_MAJORS : Nat := key 0x7000 2

/-- DRV_DISPATCH_MASK (RWT). -/
def K.DRV_DISPATCH_MASK : Nat := key 0x7000 3

/-- DRV_THREAD_TIMEOUT (RWT). -/
def K.DRV_THREAD_TIMEOUT : Nat := key 0x7000 4

/-- DRV_ZERO_ON_RELEASE (RWT). -/
def K.DRV_ZERO_ON_RELEASE : Nat := key 0x7000 5

/-- DRV_ZERO_RETRY (WO). -/
def K.DRV_ZERO_RETRY : Nat := key 0x7000 6

/-- DRV_HOTPAGE_FOLD (RW). -/
def K.DRV_HOTPAGE_FOLD : Nat := key 0x7001 1

/-- DRV_HOTPAGE_N (RWT). -/
def K.DRV_HOTPAGE_N : Nat := key 0x7001 2

/-- DRV_HOTPAGE_TABLE (RO). -/
def K.DRV_HOTPAGE_TABLE : Nat := key 0x7001 3

/-- DRV_PROG_STATE (RO). -/
def K.DRV_PROG_STATE (i : Nat) : Nat := key (0x7010 + i) 1

/-- DRV_PROG_ID (RO). -/
def K.DRV_PROG_ID (i : Nat) : Nat := key (0x7010 + i) 2

/-- DRV_PROG_VERSION (RO). -/
def K.DRV_PROG_VERSION (i : Nat) : Nat := key (0x7010 + i) 3

/-- DRV_PROG_ABI (RO). -/
def K.DRV_PROG_ABI (i : Nat) : Nat := key (0x7010 + i) 4

/-- DRV_PROG_HASH (RO). -/
def K.DRV_PROG_HASH (i : Nat) : Nat := key (0x7010 + i) 5

/-- DRV_PROG_CLUSTERS (RWT). -/
def K.DRV_PROG_CLUSTERS (i : Nat) : Nat := key (0x7010 + i) 6

/-- DRV_PROG_FOLDS (RWT). -/
def K.DRV_PROG_FOLDS (i : Nat) : Nat := key (0x7010 + i) 7

/-- DRV_LOAD_CTRL (WO). -/
def K.DRV_LOAD_CTRL : Nat := key 0x7100 1

/-- DRV_LOAD_SLOT (RW). -/
def K.DRV_LOAD_SLOT : Nat := key 0x7100 2

/-- DRV_LOAD_OFFSET (RO). -/
def K.DRV_LOAD_OFFSET : Nat := key 0x7100 3

/-- DRV_LOAD_CHUNK (WO). -/
def K.DRV_LOAD_CHUNK : Nat := key 0x7100 4

/-- DRV_LOAD_STATUS (RO). -/
def K.DRV_LOAD_STATUS : Nat := key 0x7100 5

/-- DRV_PROG_KEY (RWL). -/
def K.DRV_PROG_KEY (j : Nat) : Nat := key 0x7110 (1 + j)

/-- DRV_PROG_KEY_LOCK (WO). -/
def K.DRV_PROG_KEY_LOCK : Nat := key 0x7110 5

/-- DRV_CLUSTER_STATE (RO). -/
def K.DRV_CLUSTER_STATE (i : Nat) : Nat := key (0x7200 + i) 1

/-- DRV_MOVER_RATE (RO). -/
def K.DRV_MOVER_RATE (i : Nat) : Nat := key (0x7200 + i) 2

/-- DRV_MOVER_STEPS (RO). -/
def K.DRV_MOVER_STEPS (i : Nat) : Nat := key (0x7200 + i) 3

/-- DRV_MOVER_BYTES (RO). -/
def K.DRV_MOVER_BYTES (i : Nat) : Nat := key (0x7200 + i) 4

/-- DRV_DISPATCHED (RO). -/
def K.DRV_DISPATCHED (i : Nat) : Nat := key (0x7200 + i) 5

/-- DRV_EXCEPTIONS (RO). -/
def K.DRV_EXCEPTIONS (i : Nat) : Nat := key (0x7200 + i) 6

/-- DRV_SRAM_FREE (RO). -/
def K.DRV_SRAM_FREE (i : Nat) : Nat := key (0x7200 + i) 7

/-- DRV_ENGINE_STATE (RO). -/
def K.DRV_ENGINE_STATE (i : Nat) : Nat := key (0x7300 + i) 1

/-- DRV_ENGINE_BUSY_NS (RO). -/
def K.DRV_ENGINE_BUSY_NS (i : Nat) : Nat := key (0x7300 + i) 2

/-- DRV_ENGINE_FENCE (WO). -/
def K.DRV_ENGINE_FENCE (i : Nat) : Nat := key (0x7300 + i) 3

/-- TFB_PF_VF_BASE (RWT). -/
def K.TFB_PF_VF_BASE (i : Nat) : Nat := key (0x7400 + i) 1

/-- TFB_PF_TOTAL_VFS (RWT). -/
def K.TFB_PF_TOTAL_VFS (i : Nat) : Nat := key (0x7400 + i) 2

/-- TFB_PF_STATE (RO). -/
def K.TFB_PF_STATE (i : Nat) : Nat := key (0x7400 + i) 3

/-- TFB_PF_VERSION (RO). -/
def K.TFB_PF_VERSION (i : Nat) : Nat := key (0x7400 + i) 4

/-- TFB_VERSION (CONST). -/
def K.TFB_VERSION : Nat := key 0x7440 1

/-- TFB_MAJORS (CONST). -/
def K.TFB_MAJORS : Nat := key 0x7440 2

/-- TFB_VF_MAX_INFLIGHT (RWT). -/
def K.TFB_VF_MAX_INFLIGHT : Nat := key 0x7440 3

/-- TFB_DESCRIPTORS (RO). -/
def K.TFB_DESCRIPTORS : Nat := key 0x7440 4

/-- TFB_FLRS (RO). -/
def K.TFB_FLRS : Nat := key 0x7440 5

/-- TFB_FLR_DETACHED (RO). -/
def K.TFB_FLR_DETACHED : Nat := key 0x7440 6

/-- TFB_CPL_WRITE_ERRORS (RO). -/
def K.TFB_CPL_WRITE_ERRORS : Nat := key 0x7440 7

/-- TFB_QUEUE_ERRORS (RO). -/
def K.TFB_QUEUE_ERRORS : Nat := key 0x7440 8

/-- TFB_BAR_ERRORS (RO). -/
def K.TFB_BAR_ERRORS : Nat := key 0x7440 9

/-- TFB_VF_FOLD (RWT). -/
def K.TFB_VF_FOLD (e : Nat) : Nat := key (0x7480 + e / 128) (e % 128 + 1)

/-- TFB_VF_STATE (RO). -/
def K.TFB_VF_STATE (e : Nat) : Nat := key (0x7490 + e / 128) (e % 128 + 1)

/-- MIG_RB_FOLD (RWT). -/
def K.MIG_RB_FOLD : Nat := key 0x7800 1

/-- MIG_RB_PORT (RWT). -/
def K.MIG_RB_PORT : Nat := key 0x7800 2

/-- MIG_RB_BASE (RWT). -/
def K.MIG_RB_BASE : Nat := key 0x7800 3

/-- MIG_RB_VFS (RWT). -/
def K.MIG_RB_VFS : Nat := key 0x7800 4

/-- MIG_RB_STATE (RO). -/
def K.MIG_RB_STATE : Nat := key 0x7800 5

/-- MIG_RB_FAIL (RO). -/
def K.MIG_RB_FAIL : Nat := key 0x7800 6

/-- MIG_RB_FREEZE_NS (RO). -/
def K.MIG_RB_FREEZE_NS : Nat := key 0x7800 7

/-- MIG_REBINDS (RO). -/
def K.MIG_REBINDS : Nat := key 0x7800 8

/-- MIG_HV_FOLD (RW). -/
def K.MIG_HV_FOLD : Nat := key 0x7810 1

/-- MIG_HV_PORT (RW). -/
def K.MIG_HV_PORT : Nat := key 0x7810 2

/-- MIG_HV_ADDR (RW). -/
def K.MIG_HV_ADDR : Nat := key 0x7810 3

/-- MIG_HV_OFFSET (RW). -/
def K.MIG_HV_OFFSET : Nat := key 0x7810 4

/-- MIG_HV_LENGTH (RW). -/
def K.MIG_HV_LENGTH : Nat := key 0x7810 5

/-- MIG_HV_CTRL (WO). -/
def K.MIG_HV_CTRL : Nat := key 0x7810 6

/-- MIG_HV_STATE (RO). -/
def K.MIG_HV_STATE : Nat := key 0x7810 7

/-- MIG_HV_PAGES (RO). -/
def K.MIG_HV_PAGES : Nat := key 0x7810 8

/-- MIG_HV_BYTES (RO). -/
def K.MIG_HV_BYTES : Nat := key 0x7810 9

/-- CMN_RAW_BYTES (CONST). -/
def K.CMN_RAW_BYTES : Nat := key 0x8000 1

/-- CMN_USABLE_BYTES (CONST). -/
def K.CMN_USABLE_BYTES : Nat := key 0x8000 2

/-- CMN_STATE (RO). -/
def K.CMN_STATE : Nat := key 0x8000 3

/-- CMN_ECC_CORRECTED (RO). -/
def K.CMN_ECC_CORRECTED : Nat := key 0x8000 4

/-- CMN_ECC_UNCORRECTABLE (RO). -/
def K.CMN_ECC_UNCORRECTABLE : Nat := key 0x8000 5

/-- CMN_POISON_READS (RO). -/
def K.CMN_POISON_READS : Nat := key 0x8000 6

/-- CMN_POISON_WRITES (RO). -/
def K.CMN_POISON_WRITES : Nat := key 0x8000 7

/-- CMN_RETIRED (RO). -/
def K.CMN_RETIRED : Nat := key 0x8000 8

/-- CMN_RETIRE_LIMIT (CONST). -/
def K.CMN_RETIRE_LIMIT : Nat := key 0x8000 9

/-- CMN_RANGE_ERRORS (RO). -/
def K.CMN_RANGE_ERRORS : Nat := key 0x8000 10

/-- CMN_SCRUB_ENABLE (RWT). -/
def K.CMN_SCRUB_ENABLE : Nat := key 0x8001 1

/-- CMN_SCRUB_PERIOD (RWT). -/
def K.CMN_SCRUB_PERIOD : Nat := key 0x8001 2

/-- CMN_SCRUB_POSITION (RO). -/
def K.CMN_SCRUB_POSITION : Nat := key 0x8001 3

/-- CMN_SCRUB_PASSES (RO). -/
def K.CMN_SCRUB_PASSES : Nat := key 0x8001 4

/-- CMN_SCRUB_BEHIND (RO). -/
def K.CMN_SCRUB_BEHIND : Nat := key 0x8001 5

/-- CMN_BW_WEIGHT (RWT). -/
def K.CMN_BW_WEIGHT (j : Nat) : Nat := key 0x8002 (1 + j)

/-- CMN_CARVE_SIZE (RWT). -/
def K.CMN_CARVE_SIZE (j : Nat) : Nat := key 0x8010 (1 + j)

/-- CMN_CARVE_BASE (RO). -/
def K.CMN_CARVE_BASE (j : Nat) : Nat := key 0x8011 (1 + j)

/-- CMN_CARVE_ACTIVE (RO). -/
def K.CMN_CARVE_ACTIVE (j : Nat) : Nat := key 0x8012 (1 + j)

/-- CMN_CH_STATE (RO). -/
def K.CMN_CH_STATE (i : Nat) : Nat := key (0x8020 + i) 1

/-- CMN_CH_CORRECTED (RO). -/
def K.CMN_CH_CORRECTED (i : Nat) : Nat := key (0x8020 + i) 2

/-- CMN_CH_UNCORRECTABLE (RO). -/
def K.CMN_CH_UNCORRECTABLE (i : Nat) : Nat := key (0x8020 + i) 3

/-- CRF_CIC_SRC_CFG (RWT). -/
def K.CRF_CIC_SRC_CFG (e : Nat) : Nat := key (0x9000 + e / 128) (e % 128 + 1)

/-- CRF_CIC_FILTER (RWT). -/
def K.CRF_CIC_FILTER (j : Nat) : Nat := key 0x9010 (1 + j)

/-- CRF_CIC_SPURIOUS (RO). -/
def K.CRF_CIC_SPURIOUS : Nat := key 0x9011 1

/-- CRF_CIC_NOCAUSE (RO). -/
def K.CRF_CIC_NOCAUSE : Nat := key 0x9011 2

/-- CRF_CIC_EDGES_MERGED (RO). -/
def K.CRF_CIC_EDGES_MERGED : Nat := key 0x9011 3

/-- CRF_CIC_BAD_COMPLETE (RO). -/
def K.CRF_CIC_BAD_COMPLETE : Nat := key 0x9011 4

/-- CRF_CIC_CLAIMS (RO). -/
def K.CRF_CIC_CLAIMS : Nat := key 0x9011 5

/-- CRF_TALLY_SEL (RWT). -/
def K.CRF_TALLY_SEL (e : Nat) : Nat := key (0x9100 + e / 128) (e % 128 + 1)

/-- CRF_TALLY_RELOAD (RWT). -/
def K.CRF_TALLY_RELOAD (e : Nat) : Nat := key (0x9110 + e / 128) (e % 128 + 1)

/-- CRF_TALLY_COUNT (RO). -/
def K.CRF_TALLY_COUNT (e : Nat) : Nat := key (0x9120 + e / 128) (e % 128 + 1)

/-- CRF_TALLY_OVF (RO). -/
def K.CRF_TALLY_OVF (j : Nat) : Nat := key 0x9130 (1 + j)

/-- CRF_TALLY_OVF_CLEAR (WO). -/
def K.CRF_TALLY_OVF_CLEAR : Nat := key 0x9131 1

/-- CRF_TALLY_OVERFLOWS (RO). -/
def K.CRF_TALLY_OVERFLOWS : Nat := key 0x9131 2

/-- CRF_TALLY_MISSED (RO). -/
def K.CRF_TALLY_MISSED : Nat := key 0x9131 3

/-- HRD_FAULT_LAST_SEQ (RO). -/
def K.HRD_FAULT_LAST_SEQ : Nat := key 0xA000 1

/-- HRD_FAULT_LAST_SLOT (RO). -/
def K.HRD_FAULT_LAST_SLOT : Nat := key 0xA000 2

/-- HRD_FAULT_ACK (WO). -/
def K.HRD_FAULT_ACK : Nat := key 0xA000 3

/-- HRD_FAULT_ACKED (RO). -/
def K.HRD_FAULT_ACKED : Nat := key 0xA000 4

/-- HRD_FAULT_LOST (RO). -/
def K.HRD_FAULT_LOST : Nat := key 0xA000 5

/-- HRD_FAULT_COALESCED (RO). -/
def K.HRD_FAULT_COALESCED : Nat := key 0xA000 6

/-- HRD_FAULT_F4_LATCH (RO). -/
def K.HRD_FAULT_F4_LATCH : Nat := key 0xA000 7

/-- HRD_FAULT_INJECT (WO). -/
def K.HRD_FAULT_INJECT : Nat := key 0xA000 8

/-- HRD_FAULT_OPEN (RO). -/
def K.HRD_FAULT_OPEN (j : Nat) : Nat := key 0xA001 (1 + j)

/-- HRD_FAULT_SRC_CFG (RWT). -/
def K.HRD_FAULT_SRC_CFG (src : Nat) : Nat := key (0xA100 + src / 4096) (src % 256)

/-- HRD_FAULT_SRC_EVENTS (RO). -/
def K.HRD_FAULT_SRC_EVENTS (src : Nat) : Nat := key (0xA200 + src / 4096) (src % 256)

/-- HRD_FAULT_RECORD (RO). -/
def K.HRD_FAULT_RECORD (e : Nat) : Nat := key (0xA300 + e / 128) (e % 128 + 1)

/-- HRD_STRAP_VALUE (RO). -/
def K.HRD_STRAP_VALUE : Nat := key 0xB001 1

/-- HRD_BOOT_CAUSE (RO). -/
def K.HRD_BOOT_CAUSE : Nat := key 0xB002 1

/-- HRD_BOOT_STATE (RO). -/
def K.HRD_BOOT_STATE : Nat := key 0xB002 2

/-- HRD_PINFOLD_CAUSE (RO). -/
def K.HRD_PINFOLD_CAUSE : Nat := key 0xB002 3

/-- HRD_SELFTEST_RAN (RO). -/
def K.HRD_SELFTEST_RAN : Nat := key 0xB002 4

/-- HRD_SELFTEST_PASS (RO). -/
def K.HRD_SELFTEST_PASS : Nat := key 0xB002 5

/-- HRD_FENCED_QUADS (RO). -/
def K.HRD_FENCED_QUADS : Nat := key 0xB002 6

/-- HRD_FENCED_CLUSTERS (RO). -/
def K.HRD_FENCED_CLUSTERS : Nat := key 0xB002 7

/-- HRD_FENCED_ENGINES (RO). -/
def K.HRD_FENCED_ENGINES : Nat := key 0xB002 8

/-- HRD_READY_TIME (RO). -/
def K.HRD_READY_TIME : Nat := key 0xB002 9

/-- HRD_ENGINE_FENCE (RW). -/
def K.HRD_ENGINE_FENCE : Nat := key 0xB003 1

/-- HRD_WARM_RESET (WO). -/
def K.HRD_WARM_RESET : Nat := key 0xB004 1

/-- HRD_SELFTEST_LOG (RO). -/
def K.HRD_SELFTEST_LOG (j : Nat) : Nat := key 0xB005 (1 + j)

/-- HRD_DTC (RO). -/
def K.HRD_DTC : Nat := key 0xB010 1

/-- HRD_TIME_SOURCE (RWT). -/
def K.HRD_TIME_SOURCE : Nat := key 0xB010 2

/-- HRD_TIME_MODE (RWT). -/
def K.HRD_TIME_MODE : Nat := key 0xB010 3

/-- HRD_DTC_SLEW_MAX (RWT). -/
def K.HRD_DTC_SLEW_MAX : Nat := key 0xB010 4

/-- HRD_TIME_OFFSET (RO). -/
def K.HRD_TIME_OFFSET : Nat := key 0xB010 5

/-- HRD_TIME_STATUS (RO). -/
def K.HRD_TIME_STATUS : Nat := key 0xB010 6

/-- HRD_TIME_ERROR (RO). -/
def K.HRD_TIME_ERROR : Nat := key 0xB010 7

/-- HRD_RATE_ADJ (RO). -/
def K.HRD_RATE_ADJ : Nat := key 0xB010 8

/-- HRD_PTP_DOMAIN (RWT). -/
def K.HRD_PTP_DOMAIN : Nat := key 0xB010 9

/-- HRD_PTP_PORTS (RWT). -/
def K.HRD_PTP_PORTS : Nat := key 0xB010 10

/-- HRD_PTP_TRANSPORT (RWT). -/
def K.HRD_PTP_TRANSPORT : Nat := key 0xB010 11

/-- HRD_PTP_HOLDOVER (RWT). -/
def K.HRD_PTP_HOLDOVER : Nat := key 0xB010 12

/-- HRD_PPS_OUT_ENABLE (RWT). -/
def K.HRD_PPS_OUT_ENABLE : Nat := key 0xB010 13

/-- HRD_PPS_WINDOW (RWT). -/
def K.HRD_PPS_WINDOW : Nat := key 0xB010 14

/-- HRD_PPS_REJECTED (RO). -/
def K.HRD_PPS_REJECTED : Nat := key 0xB010 15

/-- HRD_PSTATE (RO). -/
def K.HRD_PSTATE : Nat := key 0xB020 1

/-- HRD_PSTATE_REQUEST (WO). -/
def K.HRD_PSTATE_REQUEST : Nat := key 0xB020 2

/-- HRD_FALLOW_SET (RWT). -/
def K.HRD_FALLOW_SET : Nat := key 0xB020 3

/-- HRD_FALLOWED (RO). -/
def K.HRD_FALLOWED : Nat := key 0xB020 4

/-- HRD_WAKE_ENABLE (RWT). -/
def K.HRD_WAKE_ENABLE : Nat := key 0xB020 5

/-- HRD_WAKE_TIMER (RWT). -/
def K.HRD_WAKE_TIMER : Nat := key 0xB020 6

/-- HRD_WAKE_CAUSE (RO). -/
def K.HRD_WAKE_CAUSE : Nat := key 0xB020 7

/-- HRD_PAD_AUTO (RWT). -/
def K.HRD_PAD_AUTO : Nat := key 0xB020 8

/-- HRD_PAD_RELEASE (WO). -/
def K.HRD_PAD_RELEASE : Nat := key 0xB020 9

/-- HRD_PADS_HELD (RO). -/
def K.HRD_PADS_HELD : Nat := key 0xB020 10

/-- HRD_P3_REFCLK_OFF (RWT). -/
def K.HRD_P3_REFCLK_OFF : Nat := key 0xB020 11

/-- HRD_WAKE_RETRIES (RO). -/
def K.HRD_WAKE_RETRIES : Nat := key 0xB020 12

/-- HRD_SLEEP_NS (RO). -/
def K.HRD_SLEEP_NS : Nat := key 0xB020 13

/-- HRD_GOV_BUDGET (RWT). -/
def K.HRD_GOV_BUDGET : Nat := key 0xB030 1

/-- HRD_GOV_FLOOR (RWT). -/
def K.HRD_GOV_FLOOR : Nat := key 0xB030 2

/-- HRD_GOV_BASE_DEFAULT (RWT). -/
def K.HRD_GOV_BASE_DEFAULT : Nat := key 0xB030 3

/-- HRD_GOV_UNMETERED (RWT). -/
def K.HRD_GOV_UNMETERED : Nat := key 0xB030 4

/-- HRD_GOV_BASE (RO). -/
def K.HRD_GOV_BASE : Nat := key 0xB030 5

/-- HRD_GOV_HELD (RO). -/
def K.HRD_GOV_HELD : Nat := key 0xB030 6

/-- HRD_GOV_BRAKE (RO). -/
def K.HRD_GOV_BRAKE : Nat := key 0xB030 7

/-- HRD_GOV_WAITING (RO). -/
def K.HRD_GOV_WAITING : Nat := key 0xB030 8

/-- HRD_GOV_GRANTS (RO). -/
def K.HRD_GOV_GRANTS : Nat := key 0xB030 9

/-- HRD_THERMAL_THROTTLE (RWT). -/
def K.HRD_THERMAL_THROTTLE : Nat := key 0xB040 1

/-- HRD_THERMAL_CRITICAL (CONST). -/
def K.HRD_THERMAL_CRITICAL : Nat := key 0xB040 2

/-- HRD_THROTTLE_STATE (RO). -/
def K.HRD_THROTTLE_STATE : Nat := key 0xB040 3

/-- HRD_TEMP (RO). -/
def K.HRD_TEMP (j : Nat) : Nat := key 0xB040 (4 + j)

/-- HRD_PMBUS_ADDR (RWT). -/
def K.HRD_PMBUS_ADDR (j : Nat) : Nat := key 0xB050 (1 + j)

/-- HRD_AVS_TARGET (RO). -/
def K.HRD_AVS_TARGET : Nat := key 0xB050 4

/-- HRD_PMBUS_ALERTS (RO). -/
def K.HRD_PMBUS_ALERTS : Nat := key 0xB050 5

/-- HRD_SLOT_ENABLE (RWT). -/
def K.HRD_SLOT_ENABLE (i : Nat) : Nat := key (0xB400 + i) 1

/-- HRD_SLOT_ILIMIT (RWT). -/
def K.HRD_SLOT_ILIMIT (i : Nat) : Nat := key (0xB400 + i) 2

/-- HRD_SLOT_FAULT_TIME (RWT). -/
def K.HRD_SLOT_FAULT_TIME (i : Nat) : Nat := key (0xB400 + i) 3

/-- HRD_SLOT_DVDT (RWT). -/
def K.HRD_SLOT_DVDT (i : Nat) : Nat := key (0xB400 + i) 4

/-- HRD_SLOT_FET_RTH (RWT). -/
def K.HRD_SLOT_FET_RTH (i : Nat) : Nat := key (0xB400 + i) 5

/-- HRD_SLOT_FET_CTH (RWT). -/
def K.HRD_SLOT_FET_CTH (i : Nat) : Nat := key (0xB400 + i) 6

/-- HRD_SLOT_AMBIENT (RWT). -/
def K.HRD_SLOT_AMBIENT (i : Nat) : Nat := key (0xB400 + i) 7

/-- HRD_SLOT_THERM_ENABLE (RWT). -/
def K.HRD_SLOT_THERM_ENABLE (i : Nat) : Nat := key (0xB400 + i) 8

/-- HRD_SLOT_FET_BLANK (RWT). -/
def K.HRD_SLOT_FET_BLANK (i : Nat) : Nat := key (0xB400 + i) 9

/-- HRD_SLOT_STATE (RO). -/
def K.HRD_SLOT_STATE (i : Nat) : Nat := key (0xB400 + i) 10

/-- HRD_SLOT_VIN (RO). -/
def K.HRD_SLOT_VIN (i : Nat) : Nat := key (0xB400 + i) 11

/-- HRD_SLOT_VOUT (RO). -/
def K.HRD_SLOT_VOUT (i : Nat) : Nat := key (0xB400 + i) 12

/-- HRD_SLOT_CURRENT (RO). -/
def K.HRD_SLOT_CURRENT (i : Nat) : Nat := key (0xB400 + i) 13

/-- HRD_SLOT_FET_TEMP (RO). -/
def K.HRD_SLOT_FET_TEMP (i : Nat) : Nat := key (0xB400 + i) 14

/-- HRD_SLOT_THERM_TEMP (RO). -/
def K.HRD_SLOT_THERM_TEMP (i : Nat) : Nat := key (0xB400 + i) 15

/-- HRD_SLOT_TRIPS (RO). -/
def K.HRD_SLOT_TRIPS (i : Nat) : Nat := key (0xB400 + i) 16

/-- HRD_SLOT_GRANT (RWT). -/
def K.HRD_SLOT_GRANT : Nat := key 0xB480 1

end Sys2Proof.Machine
end

