-- ==== Sys2Proof/Machine/StateCore.lean ====
section
/-! DEFINITION. The state of Croft and Hurdle's core: the dictionary's values, Crook sessions and transactions, MRAM and flash, boot,
the fault collector, the interrupt controller and Tally. Plain data only. -/

namespace Sys2Proof.Machine

/-- Where the device last sent a subscribed subentry, or found it at SUBSCRIBE (R70). -/
structure SubSent where
  sub : Nat
  version : Nat
  value : List Byte
  tick : Option Nat
deriving DecidableEq, Repr

/-- A subscription of a session (R70): its number, index, subindex (0xFF all) and minimum interval in ticks. -/
structure Subscription where
  num : Nat
  idx : Nat
  sub : Nat
  interval : Nat
  sent : List SubSent
deriving DecidableEq, Repr

/-- A staged write (R62): subentry key, value as on the wire, and the version it must still have at the commit. -/
structure Staged where
  key : Nat
  value : List Byte
  expect : Nat
deriving DecidableEq, Repr

/-- A DOMAIN value arriving in chunks (R50): its key, the octets so far, the expected version and whether it is staged. -/
structure Partial where
  key : Nat
  data : List Byte
  staged : Bool
deriving DecidableEq, Repr

/-- The open transaction of a session (R61). -/
structure Txn where
  number : Nat
  staged : List Staged
  lastMsg : Nat
deriving DecidableEq, Repr

/-- A COMMIT that waits in R64 steps 1 to 3, or for its boundary: its sequence number, its arrival time, its request's octets,
the earliest tick at which it may apply, and whether it has been counted as an epoch wait (R235) and as deferred (R71). -/
structure WaitCommit where
  sequence : Nat
  arrived : Nat
  request : List Byte
  epochCounted : Bool
  journalCounted : Bool
  rollback : Option Nat
deriving DecidableEq, Repr

/-- A Crook session (R51 to R56); `port` is the UDP port number on which it was opened (R77). -/
structure Session where
  opened : Bool := false
  slot : Nat := 0
  major : Nat := 0
  minor : Nat := 0
  transport : Transport := .i3c
  source : Nat := 0
  key : List Byte := []
  lastSeq : Nat := 0
  lastReq : List Byte := []
  lastReply : List Byte := []
  ntfCount : Nat := 0
  subs : List Subscription := []
  txn : Option Txn := none
  waiting : Option WaitCommit := none
  part : Option Partial := none
  lastMsg : Nat := 0
  badTimes : List Nat := []
  port : Nat := 0
deriving DecidableEq, Repr

/-- A request that the PF mailbox of a port holds, its three buffers (R46), and the replies that wait for the response buffer. -/
structure Mailbox where
  ctrl : Nat := 0
  reqLen : Nat := 0
  rspLen : Nat := 0
  ntfLen : Nat := 0
  req : List Byte := []
  rsp : List Byte := []
  ntf : List Byte := []
  queue : List (List Byte) := []
deriving DecidableEq, Repr

/-- The dictionary (R38 to R41): the numeric values and the DOMAIN values that differ from their defaults, the versions that are
not 0, and the lock registers of the Bothy that are not objects of their own (key and program-key locks). -/
structure Dict where
  nums : List (Nat × Nat) := []
  octs : List (Nat × List Byte) := []
  vers : List (Nat × Nat) := []
  keyLock : Nat := 0
  progKeyLock : Nat := 0
deriving DecidableEq, Repr

/-- A journal record (R71, R73): the writes it holds, whether it is marked applied, whether its CRC is good, its size. -/
structure JournalRec where
  writes : List (Nat × List Byte)
  applied : Bool
  crcOk : Bool
  bytes : Nat
deriving DecidableEq, Repr

/-- A fault record (R457), without its CRC, which is computed when it is read. -/
structure FaultRec where
  dtc : Nat := 0
  seq : Nat := 0
  source : Nat := 0
  cls : Nat := 0
  flags : Nat := 0
  element : Nat := 0
  base : Nat := 0
  count : Nat := 0
  boot : Nat := 0
  related : Nat := 0
  d0 : Nat := 0
  d1 : Nat := 0
  d2 : Nat := 0
deriving DecidableEq, Repr

/-- What MRAM and the QSPI flash keep through every reset (R72, R97, R105): key slots, the factory-reset request, the journal, the
fault ring (slots listed once used), the self-test history, the boot count, the two image slots, the key permissions last written, and the write
position of the journal ring (R73). -/
structure Mram where
  keySlots : List (Nat × List Byte) := []
  factoryReset : Bool := false
  schema : Nat := 0x0300
  snapshot : List (Nat × List Byte) := []
  journal : List JournalRec := []
  ring : List (Nat × FaultRec) := []
  lastSeq : Nat := 0
  lastSlot : Nat := 0
  acked : Nat := 0
  passes : Nat := 0
  history : List (List Byte) := []
  bootCount : Nat := 0
  retired : List (Nat × Bool) := []
  flashA : List Byte := []
  flashB : List Byte := []
  activeB : Bool := false
  keyPerms : List (Nat × Nat) := []
  journalPos : Nat := 0
deriving DecidableEq, Repr

/-- Croft's protocol state: the sessions, the transaction counter (R61), the level and time of the journal limit (R71), the PF mailboxes (R46), the firmware image being received (R113), the wear warning already given (R74), the
messages held in P3 (R480), and the management ports that are down (R36). -/
structure Croft where
  sessions : List Session := List.replicate 8 {}
  txnCount : Nat := 0
  journalLevel : Nat := 1048576
  journalTime : Nat := 0
  mailboxes : List (Nat × Mailbox) := []
  fwImage : List Byte := []
  wearReported : Nat := 0
  held : List (Transport × Nat × Nat × CrookMsg) := []
  mgmtDown : List Nat := []
deriving DecidableEq, Repr

/-- How far power-up and boot have come (R91, R99, R103, R110). -/
inductive BootStep where
  | reset | strapped | clocked | pllSupply | coreSupply | phaseA | phaseB | replayed | ready | pinfold | bothyPinfold | uartRecovery
deriving DecidableEq, Repr

/-- Power-up and boot: the step reached, whether the boot is warm, the rails and pads of the Bothy, the straps' findings, and the status
outputs (asserted is true, whatever the pad's polarity); whether a Croft restarted in the Pinfold state has its journal yet to replay (R114); and what
STRAP[4:2] and STRAP[6] chose: the I3C static address, and 1000BASE-X in place of SGMII on both management ports (R84 to R94, R99). -/
structure Boot where
  step : BootStep := .reset
  warm : Bool := false
  refclkEn : Bool := false
  vrEn : Nat := 0
  vrPg : Nat := 0
  sysReady : Bool := false
  pinfoldOut : Bool := false
  faultOut : Bool := false
  alertOut : Bool := false
  strapIllegal : Bool := false
  pinfoldDue : Option Nat := none
  imageOk : Bool := false
  image : List Byte := []
  croftServes : Bool := false
  uartImage : List Byte := []
  tests : List TestFail := []
  fencedCores : Nat := 0
  slotsDisabled : Nat := 0
  sensorsOut : Nat := 0
  mramBad : Bool := false
  warmRequest : Bool := false
  boundary : Nat := 0
  upTick : Nat := 0
  lanesIdle : Bool := true
  perstLow : List Nat := []
  perstHigh : List Nat := []
  perstIn : List Nat := []
  failedTest : Nat := 0
  replayDue : Bool := false
  /-- After a warm reset in the Pinfold state, the warm set of tests is due (R97, R114). -/
  testsDue : Bool := false
  i3cAddress : Nat := 0x50
  mgmtFibre : Bool := false
deriving DecidableEq, Repr

/-- Events that the record limit holds back (R456). -/
structure HeldFault where
  source : Nat
  element : Nat
  count : Nat
deriving DecidableEq, Repr

/-- A reaction that the collector has started and the subsystems carry out within the same step (R447 to R450). -/
inductive Reaction where
  | isolate (element : Nat)
  | subsystemReset (subsystem : Nat)
  | warmReset
  | pinfold
deriving DecidableEq, Repr

/-- The fault collector (R445 to R460): the F4 latch; for each source with a count, the counts of its 16 sub-windows, newest first
(R453); the ticks its windows have counted and the steps owed after an overrun (R30); the record limit and the events held back (R456);
the reactions under way; the isolated elements, those about to return and the clusters under retest (R448); the subsystems under reset
(R449). -/
structure Collector where
  latch : Bool := false
  windows : List (Nat × List Nat) := []
  ticks : Nat := 0
  owed : Nat := 0
  ackTick : Nat := 0
  limitLevel : Nat := 256 * 10 ^ 9
  limitTime : Nat := 0
  held : List HeldFault := []
  reactions : List Reaction := []
  isolated : List Nat := []
  returning : List Nat := []
  retest : List Nat := []
  resets : List Nat := []
deriving DecidableEq, Repr

/-- The state of a CIC source (R428). -/
inductive CicState where
  | idle | pending | active | activePending
deriving DecidableEq, Repr

/-- A CIC source that is not idle with its level low: its state, its level, and the target that claimed it (R428, R431). -/
structure CicSource where
  state : CicState := .idle
  level : Bool := false
  owner : Nat := 0
deriving DecidableEq, Repr

/-- The interrupt controller (R423 to R437). -/
structure Cic where
  sources : List (Nat × CicSource) := []
  disable : Bool := false
  thresholds : List (Nat × Nat) := []
  pointers : List (Nat × Nat) := []
  fenced : List Nat := []
deriving DecidableEq, Repr

/-- Tally (R438 to R442): the live counts of the counters, and the reader's rotating pointer over the 64 banks (R27); the collected counts and the flags are
objects. -/
structure Tally where
  live : List (Nat × Nat) := []
  pointer : Nat := 0
deriving DecidableEq, Repr

end Sys2Proof.Machine
end

