-- ==== Sys2Proof/Machine/StateHrd.lean ====
section
/-! DEFINITION. The state of Hurdle's clocks, power states and governor, and what the device sends. -/

namespace Sys2Proof.Machine

/-- The IEEE 1588 servo (R466, R467): the Sync that waits for its Follow_Up, the last completed pair of origin and receive times,
the mean path delay, the run of good Syncs, the interval and time of the last valid Sync, when holdover began, the masters that announced themselves
(port, identity, rank), whether the servo was locked at every tick so far of the tally block, TS_PPS_OUT and when it rose, and the DTC at the last edge of
TS_PPS_IN that was taken. -/
structure Servo where
  waiting : Option PtpMsg := none
  lastOrigin : Option Nat := none
  lastReceived : Nat := 0
  delay : Int := 0
  good : Nat := 0
  interval : Nat := 1000000000
  lastSync : Nat := 0
  holdoverAt : Nat := 0
  announced : List (Nat × Nat × PtpRank) := []
  lockedAll : Bool := true
  ppsHigh : Bool := false
  ppsAt : Nat := 0
  ppsLast : Option Nat := none
deriving DecidableEq, Repr

/-- The device time counter and the clocks (R464, R465, R483): nanoseconds, the 32-bit fraction, whether it runs, the Bothy counter,
the tick jobs that overrun at the next boundary (R31), and whether the cold boot aligned the DTC (R467). -/
structure Clock where
  dtc : Nat := 0
  frac : Nat := 0
  running : Bool := false
  bothy : Nat := 0
  overruns : List Nat := []
  aligned : Bool := false
  servo : Servo := {}
deriving DecidableEq, Repr

/-- A waiting grant request (R475): requester index, GU asked, the tick at which it arrived, whether a boundary has collected it, and of a mover the
thread that asked (R344). -/
structure GovRequest where
  requester : Nat
  amount : Nat
  since : Nat
  collected : Bool
  unit_ : Nat := 0
deriving DecidableEq, Repr

/-- An answer of the governor that its requester has not yet taken: the requester, the GU given, and of a mover the thread that asked. -/
structure GovAnswer where
  requester : Nat
  given : Nat
  unit_ : Nat := 0
deriving DecidableEq, Repr

/-- The governor and the thermal control (R471 to R476): grants by requester, requests in order of arrival, the rotating pointer, the
answers given but not yet taken, GU of the budget withheld by the thermal step-down, the brake, the last PMBus power reading in mW (none where a read failed), and the throttled regions with the
quantity that throttles each. -/
structure Governor where
  grants : List (Nat × Nat) := []
  waiting : List GovRequest := []
  pointer : Nat := 0
  answers : List GovAnswer := []
  stepDown : Nat := 0
  thermal : Bool := false
  brake : Bool := false
  brakeLifted : Bool := false
  pout : Option Nat := none
  throttled : List (Nat × Nat) := []
  scrubHold : Bool := false
deriving DecidableEq, Repr

/-- Where the device stands between P0 and P3 (R477 to R483). -/
inductive SleepStep where
  | awake | asleep | waking
deriving DecidableEq, Repr

/-- Power states: Hurdle's mode bits (0, or 2 or 3 for P2 and P3: R346, R478, R479), the Fallow entry that Croft's WAIT made, the sleep step, the attempt of a wake, the boundary at which the unmetered interval began, and a warm reset
that follows the wake. -/
structure Power where
  mode : Nat := 0
  fallowAsked : Bool := false
  sleep : SleepStep := .awake
  attempt : Nat := 0
  sleepFrom : Nat := 0
  /-- The last fault record (R457) at the entry to P3: later records are those of P3. -/
  sleepSeq : Nat := 0
  warmAfter : Bool := false
deriving DecidableEq, Repr

/-- What the device sends on its interfaces, oldest first. -/
inductive Output where
  /-- A Crook message: transport, destination, octets (R44). -/
  | crook (tr : Transport) (dst : Nat) (msg : List Byte)
  /-- The status with which a write to an action object was answered (R69). -/
  | answer (session status : Nat)
  /-- Octets on UART_TX (R105, R110). -/
  | uart (octets : List Byte)
  /-- A CXL.mem data response toward a host: port, tag, data, poison, and the state granted (0 Invalid, 1 shared, 2 exclusive). -/
  | hostData (port tag : Nat) (data : List Byte) (poison : Bool) (grant : Nat)
  /-- A CXL.mem Cmp toward a host, with the state granted. -/
  | hostCmp (port tag grant : Nat)
  /-- A back-invalidate toward a host (R278): 0 BISnpInv, 1 BISnpData, 2 BISnpCur. -/
  | biSnp (port kind target dpa : Nat)
  /-- A back-invalidate answer toward a downstream device (R278): 0 BIRspI. -/
  | biRsp (port kind ld dpa : Nat)
  /-- A request forwarded to a downstream port: tracker tag, LD, address, whether it writes, data. -/
  | portRequest (port tag ld address : Nat) (write poisoned : Bool) (be : Nat) (data : List Byte)
  /-- A CXL.io completion: port, tag, status (0 SC, 1 UR, 4 CA), data. -/
  | ioCompletion (port tag status : Nat) (data : List Byte)
  /-- A CXL.io TLP forwarded to a port. -/
  | ioTlp (port : Nat) (t : Tlp)
  /-- An MSI-X message of a function (R383). -/
  | msix (f : Func) (vector address data : Nat)
  /-- A PM_PME message of a function (R385). -/
  | pmPme (f : Func)
  /-- A PME_Turn_Off message to a downstream port (R498), or the PME_TO_Ack of a function's port (R386). -/
  | pmeTurnOff (port : Nat)
  | pmeToAck (port : Nat)
  /-- The event interrupt of a port's Dynamic Capacity log (R153). -/
  | eventInterrupt (port : Nat)
  /-- A Twill message (R170), sent from a port. -/
  | twill (port : Nat) (m : TwillMsg)
  /-- A Twill flit on a port (R168, R169). -/
  | flit (port : Nat) (octets : List Byte)
  /-- What the lanes of a Twill port send from lane 0 on, as PAM4 levels: a flit, a SKIP block or an alignment marker (R116, R125 to R129). -/
  | lanes (port : Nat) (levels : List (List Int))
  /-- A test transmission of a lane: the levels that its generator sends from a bit position on, injected errors among them (R134 to R137), or the
  received bits that a far-end loopback retransmits with the coefficients of its transmitter. -/
  | laneTest (lane from_ : Nat) (levels : List Int)
  | laneLoop (lane coeffs : Nat) (rx : List Bool)
  /-- What the device sends in a phase of an equalisation (R121): in phase 0 the presets of the lanes, in phase 1 FS and LF, in its own phase what it
  asks of the partner's transmitter, lane by lane. -/
  | eqPhase (port phase : Nat) (values : List (Nat × Nat × Nat))
  /-- The answer to a partner's equalisation request on a port lane: accepted or rejected (R121). -/
  | eqAnswer (port lane : Nat) (accepted : Bool)
  /-- The answer to a Lane Margining command: its type and payload (R138). -/
  | marginReply (lane kind payload : Nat)
  /-- An error message of AER toward the host of a port: the bit of its status register (R148). -/
  | aerMsg (port bit : Nat)
  /-- An extent that a host did not accept, reported to the fabric manager (R153). -/
  | fmReport (port extent : Nat)
  /-- Initiate Dynamic Capacity Add or Release to the device on a port, and the acceptance of capacity that it added (R154): LD, base and size. -/
  | dcInitiate (port ld : Nat) (add : Bool) (base size : Nat)
  | dcAccept (port ld base size : Nat)
  /-- Croft, the IDE key-management requester of a downstream port, sends its first message: through the DOE mailbox or over MCTP, for CXL.cachemem in the
  mode of PRT_IDE_MODE (R157). -/
  | ideRequest (port : Nat) (doe : Bool) (mode : Nat)
  /-- An FM API message to an LD of a device, tunnelled (R155). -/
  | fmTunnel (port ld : Nat) (request : List Byte)
  /-- A Twill control message on a port: opcode and operands (R174). -/
  | twillCtrl (port opcode : Nat) (operands : List Nat)
  /-- An SPDM or IDE_KM response (R156, R157). -/
  | spdm (ch : MgmtChannel) (code : Nat) (payload : List Byte)
  | ideKm (port code : Nat)
  /-- An FM API response (R155): 0 success, 1 Busy, 2 Invalid Input; and the numbers that it reports. -/
  | fmApi (ch : MgmtChannel) (code : Nat) (content : List Nat)
  /-- The answer to a Dynamic Capacity mailbox command (R153): 0 success, 1 Invalid Input. -/
  | dcReply (port code : Nat)
  /-- A posted write to a host's memory (R381), with its requester's routing ID (R361). -/
  | hostWrite (port rid address : Nat) (data : List Byte)
  /-- A read of a host's memory (R376, R389), with its requester's routing ID (R361). -/
  | hostRead (port rid address length : Nat)
  /-- An address translation request, an invalidation completion, or another ATS message of a function (R389). -/
  | ats (f : Func) (kind address : Nat)
  /-- A PTP Delay_Req of a management port (R466). -/
  | delayReq (port : Nat)
  /-- TS_PPS_OUT rises (R467). -/
  | ppsOut
  /-- Flow-control credits returned to a partner (R205). -/
  | credits (port channel hdr data : Nat)
  /-- A slot channel's outputs (R489, R496, R497): 0 gate, 1 PG, 2 PWRFAIL_N. -/
  | slotPin (n pin : Nat) (level : Bool)
  /-- A downstream PORT_PERST_N is driven to a level (R87). -/
  | perstPin (port : Nat) (level : Bool)
  /-- What a read of CIC_CLAIM returned to a target (R431). -/
  | cicValue (target value : Nat)
  /-- Read data returned to the debug master (R261). -/
  | debugData (data : List Byte) (denied : Bool)
deriving DecidableEq, Repr

end Sys2Proof.Machine
end

