-- ==== Sys2Proof/Machine/StatePort.lean ====
section
/-! DEFINITION. The state of Selvedge: what the quads and lanes hold beside their objects. -/

namespace Sys2Proof.Machine

/-- A quad (R120, R123, R136, R139): the times of its losses of lock within 60 s, a relock attempt under way, the margin run under way and the
one that waits for the end of an equalisation; the tick at which its receivers were last trained; when its generators started, and the bits that
one-shot injections invert in the present tick, by lane and position. -/
structure SelQuad where
  unlocks : List Nat := []
  relocking : Bool := false
  run : Option Nat := none
  runWaits : Option Nat := none
  trained : Nat := 0
  testAt : Nat := 0
  flips : List (Nat × Nat) := []
deriving DecidableEq, Repr

/-- The framing of a Twill transmitter (R125 to R127): the flit-times sent since the last SKIP block, the flits that the present flit-time has taken,
the SKIP blocks since the last alignment marker, the markers sent since framing started, and the scrambler of each lane. -/
structure TxFraming where
  times : Nat := 0
  flits : Nat := 0
  skips : Nat := 0
  markers : Nat := 0
  scramblers : List Nat := []
deriving DecidableEq, Repr

/-- A re-equalisation (R121, R124): its port, whether this device started it, the tick of its request, whether it runs, and the partner's requests. -/
structure Reeq where
  port : Nat
  own : Bool
  since : Nat
  running : Bool
  requests : List EqRequest := []
deriving DecidableEq, Repr

/-- The alignment of a Twill port (R128, R130): for each lane that gave a good marker its LANE field, its AM_COUNT and the run of bad or missing
markers; and whether the lanes are aligned, and reversed. -/
structure LaneAlignment where
  lanes : List (Nat × Nat) := []
  counts : List (Nat × Nat) := []
  bad : List (Nat × Nat) := []
  aligned : Bool := false
  reversed : Bool := false
deriving DecidableEq, Repr

/-- Selvedge: lost reference groups, when each group lost or regained its reference (R87, R119), groups found to carry spread spectrum (R83),
quads, re-equalisations, lanes that a partner margins, the alignment and the transmit framing of Twill ports, and the fill of their elastic buffers
in UI, 64 where none is listed (R129). -/
structure Sel where
  lost : List Nat := []
  refAt : List (Nat × Nat) := []
  spread : List Nat := []
  quads : List (Nat × SelQuad) := []
  reeqs : List Reeq := []
  partner : List Nat := []
  align : List (Nat × LaneAlignment) := []
  tx : List (Nat × TxFraming) := []
  fill : List (Nat × Nat) := []
deriving DecidableEq, Repr

end Sys2Proof.Machine
end

