-- ==== Sys2Proof/Machine/StateFab.lean ====
section
/-! DEFINITION. The state of the data path: trackers, messages in Loom, ports, Twill links, folds, Paddock and Commons. -/

namespace Sys2Proof.Machine

/-- The attributes of a request that Gatepost checks (R250); none equals no value of an entry. -/
structure Initiator where
  port : Option Nat := none
  fold : Nat := 0
  engine : Option Nat := none
  vf : Option Nat := none
  debug : Bool := false
  device : Nat := 0
deriving DecidableEq, Repr

/-- Where a request came from, and where its answer goes. -/
inductive Origin where
  /-- A host's CXL.mem request, by port and CXL tag. -/
  | host (port tag : Nat)
  /-- A CXL.io request, by port and TLP tag. -/
  | io (port tag : Nat)
  /-- A request that arrived over Twill: the port, the source FEID and the TAG. -/
  | twill (port src tag : Nat)
  /-- A message of an engine operation: the thread or core, and the handle. -/
  | engine (x : ExecUnit) (handle : Nat)
  /-- A memory access of Bellwether for a line. -/
  | blw (target line : Nat)
  /-- The debug master (R261): of the octets read, those from `skip` on, `take` of them, are its own. -/
  | debug (skip take : Nat)
  /-- A read of host memory by a tenant function: a descriptor by its number, or an image (R159, R376, R393). -/
  | func (f : Func) (desc : Option Nat)
  /-- A Translation Request of a tenant function for a page (R159, R389). -/
  | ats (f : Func) (page : Nat)
  /-- The device itself: writes that Bellwether and the subsystems make without waiting. -/
  | own
  /-- A run of lines of a write, by the tracker of the write (R290). -/
  | run (tag : Nat)
deriving DecidableEq, Repr

/-- What a request does at its target. -/
inductive ReqOp where
  | read | write | partialWrite | atomic | io
  /-- Coherent requests: a shared copy, ownership with or without data, the current value, a write-invalidate (full or partial), a
  coherent atomic, a clean eviction, a writeback. -/
  | rdShared | rdOwn | memInv | rdCur | wrInv | wrInvPartial | atomicCoh | evict | writeback
deriving DecidableEq, Repr

/-- A tracker (R20, R159, R183): its TAG, the origin, the operation and its operands, the fold and its epoch (none where no epoch counts
it), the ports by which the request came and left, when it was decoded and issued, whether its link went down, whether it is a re-issue, and whether
its fold was frozen when it was decoded (R237). -/
structure Tracker where
  tag : Nat
  origin : Origin
  op : ReqOp
  fold : Nat := 0
  epoch : Option Nat := none
  target : Nat := 0
  addr : Nat := 0
  len : Nat := 0
  data : List Byte := []
  be : Nat := 2 ^ 64 - 1
  ingress : Nat := 79
  egress : Nat := 80
  decodedAt : Nat := 0
  sentAt : Option Nat := none
  posted : Bool := false
  charged : Bool := false
  /-- It has passed Gatepost and Paddock at this device, and a poisoned write's message says so (R178, R248, R304). -/
  passed : Bool := false
  poison : Bool := false
  /-- Of a read of several lines: those whose bytes `data` holds already, from a copy that a host or this device has (R284, R290). -/
  got : List Nat := []
  stale : Bool := false
  reissued : Bool := false
  frozen : Bool := false
  grant : Nat := 0
  keepS : Bool := false
  /-- A host's write carries a MetaValue that gives up or keeps a shared copy: a writeback (R279). -/
  metaGiven : Bool := false
  /-- Word 3 of the message's extension (R171, R282), and its class and opcode on Twill: 256 TC + OPCODE. -/
  extension : Nat := 0
  wire : Nat := 0x401
  /-- Gatepost: who asks, the permissions needed, the KIND of a record (R250, R255, R262). -/
  who : Initiator := {}
  need : Nat := 0
  kind : Nat := 1
  /-- The request asks Bellwether: a host's CXL.mem request, or one to a shared-mode line (R268). -/
  coherent : Bool := false
  shared : Bool := false
  /-- The window offset, for the dirty log (R241). -/
  page : Option Nat := none
  tlp : Option Tlp := none
  /-- The class and data units of the Twill response that completes it, and how Loom charged that (R201). -/
  owed : Option (Nat × Nat) := none
  owedCharge : Option Bool := none
deriving DecidableEq, Repr

/-- Where a message waits: at its on-chip source (R201), held by a freeze (R237), in a Paddock lane (R311), in Bellwether (R273, R288), in the
resequencer (R213), in its output queue, staged at its egress (R205), in the overflow store (R216), or before the staging cells that are kept for
Bellwether's memory writes (R291). -/
inductive Place where
  | source | held | lane (l : Nat) | blw | reseq | queue | staged | store | writePath
deriving DecidableEq, Repr

/-- What a message's cells are charged to (R201). -/
inductive Charge where
  | none | shared | reserve
deriving DecidableEq, Repr

/-- A message in the device (R197): its number, place, header and data, gangs, class, tracker, admission time, charge, the TLP it carries,
when it entered its lane, whether it was spilled, whether it is a response, the grant it carries, the engine thread and handle that it
answers, and whether the partner has its credits back already; where the message takes the place of one that came over Twill, the class and data units
whose credits it owes (R201); how often its ingress link had been down when it entered (R182); the slice of its header cell and all its slices
(R221); the place of its header cell in the ingress stream (R196); whether its output cuts through, and whether all its cells are written (R206);
its first cell in its output's overflow chain (R216), how many of its cells have crossed to its egress (R208), and of a response the tracker that it
completed (R207). -/
structure LMsg where
  id : Nat
  place : Place
  m : TwillMsg
  ingress : Nat
  egress : Nat
  track : Option Nat := none
  at_ : Nat := 0
  charge : Charge := .none
  tlp : Option Tlp := none
  laneAt : Nat := 0
  spilled : Bool := false
  response : Bool := false
  grant : Nat := 0
  dest : Option (ExecUnit × Nat) := none
  credited : Bool := false
  owed : Option (Nat × Nat) := none
  gen : Option Nat := none
  slice : Nat := 0
  slices : Nat := 0
  cell0 : Nat := 0
  cut : Bool := false
  written : Bool := true
  chainAt : Nat := 0
  sent : Nat := 0
  answers : Option Tracker := none
deriving DecidableEq, Repr

/-- A flow of the resequencer (R213, R214): the expected number, when its gap timer started, and when it was last active. -/
structure Flow where
  expected : Nat
  gapAt : Option Nat
  usedAt : Nat
deriving DecidableEq, Repr

/-- An output's chain in the overflow store (R216): its chunks, how many were emptied before them, and the cell after the last. -/
structure Chain where
  chunks : List Nat := []
  base : Nat := 0
  back : Nat := 0
deriving DecidableEq, Repr

/-- Loom: all messages in the device, oldest first in each place; RSEQ counters by 8 DST + class; flows by
2048 SRC device + 8 DST endpoint + class; the grant pointers of the inputs and the accept pointers of the gangs (R208); the samplers' counts; the reserves
in force (R204); the captured records that wait to be written, with their message (R219); the cells that entered by each gang (R196), the rotation over the slices (R221), the
retired cells of each slice (R36), and the chains of the overflow store. -/
structure Loom where
  msgs : List LMsg := []
  nextId : Nat := 0
  rseq : List (Nat × Nat) := []
  flows : List (Nat × Flow) := []
  grantPtr : List (Nat × Nat) := []
  acceptPtr : List (Nat × Nat) := []
  sampled : List (Nat × Nat) := []
  allotted : List (Nat × Nat) := []
  refillPtr : Nat := 0
  captures : List (Nat × Nat × List Byte) := []
  entered : List (Nat × Nat) := []
  slicePtr : Nat := 0
  retired : List (Nat × Nat) := []
  chains : List (Nat × Chain) := []
deriving DecidableEq, Repr

/-- A record of a Dynamic Capacity event log (R153): its handle, kind (0 add, 1 release, 2 forced removal), extent, DPA, length, tag, More, and
whether the host has answered it, accepted it, and been reported late. -/
structure DcRecord where
  handle : Nat
  kind : Nat
  extent : Nat
  dpa : Nat
  length : Nat
  tag : Nat
  more : Bool
  answered : Bool := false
  accepted : Bool := false
  late : Bool := false
  at_ : Nat := 0
  cleared : Bool := false
deriving DecidableEq, Repr

/-- An SPDM session of a channel (R156): its number, whether FINISH completed it, its key update count. -/
structure SpdmSession where
  num : Nat
  established : Bool
  updates : Nat
deriving DecidableEq, Repr

/-- The management function's SPDM connection on a channel (R156): how far the negotiation has come, and the open sessions. -/
structure Spdm where
  version : Bool := false
  capabilities : Bool := false
  algorithms : Bool := false
  sessions : List SpdmSession := []
deriving DecidableEq, Repr

/-- The AER registers of a function (R148): its status and mask, and the TLP headers logged. -/
structure Aer where
  status : Nat := 0
  mask : Nat := 0
  log : List (List Byte) := []
deriving DecidableEq, Repr

/-- A port's state beside its objects (R151 to R163): LDs reported, capacity added by DC devices (ld, base, size, present), the
Dynamic Capacity event log, the General Media records (a DPA each), HDM decoders, SPDM, IDE streams and their states, when PME_Turn_Off was sent,
Hot Reset and link-down bookkeeping, the partner's flow-control credits by channel (header, data), the TLPs logged for AER, whether a committed role
has yet to take effect, what training gave the link (FLIT mode, Data Link Feature, a device that takes CXL.cache, SRIS), the subsystem IDs in force (R4),
the AER status and mask, the ACS controls of the vPPBs, how often the link went down, the AER registers of functions that are no port, the bus numbers of
the bridges of its switch (primary, secondary and subordinate, 8 bits each; R361), and the IDE keys that Croft generated, by direction of a stream. -/
structure Port where
  lds : Nat := 0
  cxl : Bool := false
  capacity : List (Nat × Nat × Nat × Bool) := []
  log : List DcRecord := []
  nextHandle : Nat := 1
  media : List Nat := []
  hdm : List (Nat × HdmDecoder) := []
  spdm : Spdm := {}
  ide : List (Nat × Nat) := []
  pmeSince : Option Nat := none
  downAt : Nat := 0
  sweeping : Bool := false
  credits : List (Nat × Nat × Nat) := []
  aer : List (List Byte) := []
  dpcByHost : Bool := false
  trainTick : Option Nat := none
  pmeHandled : Bool := false
  newRole : Bool := false
  flit : Bool := false
  linkFeature : Bool := false
  cacheDevice : Bool := false
  sris : Bool := false
  subVendor : Nat := 0x1D7E
  subId : Nat := 0
  aerStatus : Nat := 0
  aerMask : Nat := 0
  acs : Nat := 0
  gen : Nat := 0
  funcAer : List (Nat × Aer) := []
  buses : List (Nat × Nat) := []
  ideKeys : List (Nat × Nat) := []
deriving DecidableEq, Repr

/-- A planned retrain of a Twill port (R191, R192): the width and EQ, whether this device asked, whether it was answered, since when it holds, whether it
equalises, and whether this device's lanes are done. -/
structure Retrain where
  width : Nat
  eq : Bool
  own : Bool
  answered : Bool
  since : Nat
  equalising : Bool
  selfDone : Bool := false
deriving DecidableEq, Repr

/-- A Twill link (R174 to R192): the partner's CONFIG, the exchange's flags, the partner's advertised credits, the counts consumed and returned
(header, data), what this receiver has given out and what of it the partner uses, the replay buffer and sequence numbers, the acknowledgement and
credit timers, the health window, the link-downs within 60 s, the partial message of each VC, training times, a planned
retrain, the lanes on which CONFIG came, and for each VC the messages that its unfinished message became (R206). -/
structure TwillLink where
  config : Option TwillConfig := none
  configAck : Bool := false
  initSent : Bool := false
  initAck : Bool := false
  eqDone : Nat := 0
  txAdvH : List Nat := []
  txAdvD : List Nat := []
  consumedH : List Nat := List.replicate 8 0
  consumedD : List Nat := List.replicate 8 0
  returnedH : List Nat := List.replicate 8 0
  returnedD : List Nat := List.replicate 8 0
  rxAdvH : List Nat := []
  rxAdvD : List Nat := []
  rxUsedH : List Nat := List.replicate 8 0
  rxUsedD : List Nat := List.replicate 8 0
  rxBackH : List Nat := List.replicate 8 0
  rxBackD : List Nat := List.replicate 8 0
  seq : Nat := 0
  replay : List (Nat × List Byte) := []
  ackedAt : Nat := 0
  expected : Nat := 0
  nak : Bool := false
  unacked : Nat := 0
  unackedAt : Nat := 0
  creditAt : Option Nat := none
  creditSent : Nat := 0
  windowAt : Nat := 0
  replays : Nat := 0
  badFlits : Nat := 0
  downs : List Nat := []
  streams : List (Nat × List Byte) := []
  stateAt : Nat := 0
  restartAt : Option Nat := none
  retrain : Option Retrain := none
  cfgLanes : Nat := 0
  early : List (Nat × List Nat) := []
deriving DecidableEq, Repr

/-- What becomes an internal commit at a later boundary: an FM API command (R155), the release of an extent of a fold that its host answered, asked
for or not (R238), or a directly bound host's command to a slot (R498). -/
inductive InternalJob where
  | fm (ch : MgmtChannel) (kind : FmKind) (writes : List FmWrite)
  | release (extent fold port : Nat) (asked : Bool)
  | slot (n : Nat) (on : Bool)
deriving DecidableEq, Repr

/-- An internal commit that waits (R64, R239): since which tick, the version that its entry must still have, and whether it has been counted as an
epoch wait and as deferred. -/
structure InternalWait where
  job : InternalJob
  tick : Nat
  version : Nat := 0
  epochCounted : Bool := false
  journalCounted : Bool := false
deriving DecidableEq, Repr

/-- Release requests and draining extents of Fold (R236, R238): extents whose release waits for its boundary or its host; extents draining with
their fold and epoch; released extents that a service program zeroes once they have drained, with target, base and size (R356); entries that are damaged until restored; folds isolated. -/
structure FoldState where
  asked : List (Nat × Nat) := []
  posted : List Nat := []
  draining : List (Nat × Nat × Nat) := []
  zeroing : List (Nat × Nat × Nat × Nat) := []
  damaged : List Nat := []
  gtpDamaged : List Nat := []
  gtpTick : List (Nat × Nat) := []
  gtpCopies : List (Nat × List Byte) := []
  internal : List InternalWait := []
  flushed : List Nat := []
deriving DecidableEq, Repr

/-- The live meters of a fold (R317): bytes read and written, requests, engine ns, capacity in units of 256 MiB × 1 µs, shaping ns, violations;
and the 0 to 3 flags of R321. -/
structure Meter where
  readBytes : Nat := 0
  writeBytes : Nat := 0
  requests : Nat := 0
  engineNs : Nat := 0
  capacity : Nat := 0
  shapingNs : Nat := 0
  violations : Nat := 0
deriving DecidableEq, Repr

/-- What a boundary that ends a tally block sees of a fold (R32, R321): in use, its owner and extents, owner changed, frozen, a meter restored. -/
structure TallySeen where
  fold : Nat
  inUse : Bool
  owner : Nat
  extents : Nat
  changed : Bool
  frozen : Bool
  restored : Bool
deriving DecidableEq, Repr

/-- Paddock (R306 to R322): buckets that are shaped, by bucket number (level, stamp); live meters and the meters at the start of the tally block;
deficits by 1024 gang + fold; the rotating pointers by gang; what the current tally block has seen; the tick stamp in force;
what the boundary of a tick saw of the folds and of the queues, for the block and the sample that end there (R32). -/
structure Paddock where
  buckets : List (Nat × Int × Nat) := []
  meters : List (Nat × Meter) := []
  blockStart : List (Nat × Meter) := []
  deficits : List (Nat × Nat) := []
  foldPtr : List (Nat × Nat) := []
  lanePtr : List (Nat × Nat) := []
  snapAt : Nat := 0
  startAt : Nat := 0
  merged : Nat := 0
  missed : Nat := 0
  unmetered : Nat := 0
  firstBlock : Bool := true
  used : List Nat := []
  ownerChanged : List Nat := []
  frozen : List Nat := []
  restored : List Nat := []
  captures : Nat := 0
  nextSample : Nat := 0
  stamp : Nat := 0
  seenAt : Nat := 0
  tallyEnds : Bool := false
  sampled : Bool := false
  seen : List TallySeen := []
  /-- The meters at the last snapshot (R318), as R323 restores them. -/
  snaps : List (Nat × Meter) := []
  /-- The pointer of the rotating order over output gangs (R310). -/
  gangPtr : Nat := 0
  queues : List (Nat × Nat) := []
deriving DecidableEq, Repr

/-- Commons (R408 to R418): its octets (an unlisted address reads 0, as ST11 leaves it), the poisoned lines, the times of the corrected errors of
lines, a scrub burst under way with its end, and the channels whose dies are out of their temperature range. -/
structure Commons where
  cells : List Host.Cell := []
  poison : List (Nat × Bool) := []
  corrected : List (Nat × List Nat) := []
  burstEnd : Option Nat := none
  passStart : Nat := 0
  behindTold : Bool := false
  hot : List Nat := []
  parity : List (Nat × Nat) := []
deriving DecidableEq, Repr

/-- Work that one chapter hands to another within the same step: the answer to a memory access, snoop or writeback of Bellwether (line, TAG, status,
data), the new TAG of a re-issue, a coherence message that could not be sent, or was lost with its link, a message for this device's Bellwether or
trackers that left the resequencer, a translation that did not come, and an answer to an engine operation. -/
inductive Resume where
  | memory (target line tag status : Nat) (data : List Byte)
  | retagged (target line old new : Nat)
  | lost (x : LMsg)
  | fetched (f : Func) (desc : Option Nat) (status : Nat)
  | untranslated (f : Func) (page : Nat)
  | arrived (x : LMsg)
  | engine (x : ExecUnit) (handle status : Nat) (data : List Byte)
  | ran (tag status addr : Nat) (data : List Byte)
  | upgradeFailed (tag : Nat)
  | reissued (tag : Nat)
deriving DecidableEq, Repr

/-- The data path. -/
structure Fabric where
  trackers : List Tracker := []
  nextTag : Nat := 0
  loom : Loom := {}
  ports : List (Nat × Port) := []
  links : List (Nat × TwillLink) := []
  fold : FoldState := {}
  pdk : Paddock := {}
  /-- Requests of a port that waits for a free tracker (R20): its RwD writes and the others wait in order. -/
  waitHost : List (Nat × HostReq × ReqOp) := []
  /-- CXL.io requests that wait for a free tracker, with their ports. -/
  waitIo : List (Nat × Tlp) := []
  /-- Messages that arrived over Twill and wait for a free tracker, with their ports, and how often the link had been down. -/
  waitTwill : List (Nat × TwillMsg × Nat) := []
  transit : List Tracker := []
  /-- Upstream ports whose link went down or that were reset, and whose functions have yet to be reset (R96, R387). -/
  portResets : List Nat := []
  resumed : List Resume := []
deriving DecidableEq, Repr

end Sys2Proof.Machine
end

