-- ==== Sys2Proof/Machine/StateBlw.lean ====
section
/-! DEFINITION. The state of Bellwether: filter entries, transactions, flushes and rebuilds (R266 to R303). -/

namespace Sys2Proof.Machine

/-- A filter entry (R271, R276, R280, R281): the line (DPA ÷ 64) of a target FEID, its way, the host tier (ports that hold it, and whether one owns
it), the device tier (0 I, 1 S, 2 F, 3 E, 4 M), the forwarder, sharers (precise, or coarse), the last grant,
the near cache and the way there (15 while its victim is on its way home). -/
structure Line where
  target : Nat
  line : Nat
  way : Nat := 0
  l2 : Bool := false
  fold : Nat := 0
  hvec : List Nat := []
  owned : Bool := false
  dstate : Nat := 0
  forwarder : Nat := 0
  sharers : List Nat := []
  coarse : Bool := false
  groups : Nat := 0
  lastGrant : Option Nat := none
  lastTag : Nat := 0
  near : Option (List Byte) := none
  nway : Nat := 15
  dirty : Bool := false
  poisoned : Bool := false
  held : Bool := false
deriving DecidableEq, Repr

/-- What Bellwether works on for a line: a host's or an agent's request by tracker tag, a device-tier request or forward that arrived at a port,
a downstream device's BISnp, the recall of a victim, a line of a fold flush, the rebuild of a set, a line of a port sweep, and a line of a home that is
lost. -/
inductive BlwReq where
  | request (tag : Nat)
  | device (port : Nat) (m : TwillMsg)
  | forward (port : Nat) (m : TwillMsg)
  | bisnp (port ld : Nat)
  | recall
  | flush (port : Nat)
  | rebuild
  | sweep (port : Nat)
  | lose
deriving DecidableEq, Repr

/-- An open transaction of a line (R275, R288): its request, the back-invalidates open to hosts (port, 0 BISnpInv 1 BISnpData 2 BISnpCur, time), the
snoops and forwards open to devices (device, opcode, TAG), the data and poison collected, what the forwarder answered (0 nothing, 1 FWD_DONE,
2 FWD_MISS_S, 3 FWD_MISS_I, 4 SNP_I, 5 SNP_S or SNP_DATA_S), whether it waits for memory, writebacks attached to it (R289), the
requests of its conflict queue, and whether every answer is in and the request itself is on its way to memory or to the home. -/
structure BlwTxn where
  target : Nat
  line : Nat
  req : BlwReq
  hosts : List (Nat × Nat × Nat) := []
  devs : List (Nat × Nat × Nat) := []
  data : Option (List Byte) := none
  poison : Bool := false
  answer : Nat := 0
  memory : Bool := false
  failed : Bool := false
  attached : List (Nat × TwillMsg) := []
  queue : List BlwReq := []
  openedAt : Nat := 0
  waiting : Bool := false
  served : Bool := false
  /-- The data that was returned has been written, or is on its way to memory (R283). -/
  kept : Bool := false
deriving DecidableEq, Repr

/-- A bulk flush (R297, R299, R300): its kind (0 port sweep, 1 fold flush, 2 set rebuild), its port, fold, or bank and set, and whether it has its grant. -/
structure BulkFlush where
  kind : Nat
  port : Nat
  fold : Nat
  running : Bool
  since : Nat
deriving DecidableEq, Repr

/-- Bellwether: entries, transactions, retry slots by 2 bank + tier, bank pointers, victim pointers of sets, bulk flushes, folds whose grants
are made Invalid until their owner changes, TC1 messages held for a grant (R285), lines of WB_M in flight with their TAG, agent
accesses with the lines still open, and TAGs of reads that were answered (R293). -/
structure Blw where
  lines : List Line := []
  txns : List BlwTxn := []
  retry : List (Nat × BlwReq × Nat × Nat) := []
  bankPtr : List (Nat × Nat) := []
  victim : List (Nat × Nat) := []
  nearPtr : List (Nat × Nat) := []
  flushes : List BulkFlush := []
  noGrant : List Nat := []
  holding : List (Nat × TwillMsg) := []
  wbOut : List (Nat × Nat × Nat) := []
  open_ : List (Nat × Nat) := []
  answered : List Nat := []
deriving DecidableEq, Repr

end Sys2Proof.Machine
end

