-- ==== Sys2Proof/Machine/StateDrv.lean ====
section
/-! DEFINITION. The state of Drover's threads, of the Tenant Function Block, of migration and of the slot channels. -/

namespace Sys2Proof.Machine

/-- What a thread sleeps for (R335, R340, R344, R346, R329). -/
inductive Sleep where
  | awake
  | handle (rd : Nat) (h : Nat)
  | fence (rd : Nat)
  | atom (rd : Nat)
  | leave (rd : Nat)
  | wait (rd mask from_ ticks : Nat)
  | halting (status result : Nat)
deriving DecidableEq, Repr

/-- A fabric operation of a thread (R338 to R343): its handle (64 names the thread's FATOM), kind (0 read, 1 write, 2 atomic, 3 MOVE), space, remote
address and FEID, class, length, local address, the data of a write, whether ORD holds it back, the messages not yet
answered, the failed ones (address, status), the data read (address, octets), the result once complete; of a MOVE the kind, the source and its
space and FEID, the octets done, whether the chunk's write is out, the chunk's read data; the atomic's code and compare value; whether its thread was stopped; the payload and
read request sizes, in octets, that its host's link had when it started. -/
structure FabOp where
  handle : Nat
  kind : Nat
  space : Nat
  remote : Nat
  feid : Nat := 0
  cls : Nat := 4
  len : Nat := 0
  local_ : Nat := 0
  data : List Byte := []
  held : Bool := false
  open_ : List Nat := []
  fails : List (Nat × Nat) := []
  got : List (Nat × List Byte) := []
  result : Option Nat := none
  mkind : Nat := 0
  srcSpace : Nat := 0
  src : Nat := 0
  srcFeid : Nat := 0
  done : Nat := 0
  writing : Bool := false
  code : Nat := 0
  cmp : Nat := 0
  stopped : Bool := false
  mps : Nat := 128
  mrrs : Nat := 512
deriving DecidableEq, Repr

/-- The descriptor of a VF's queue that a thread works on: pool VF, submission queue, its number in TFB, CID, IRQ_NOW. -/
structure Work where
  vf : Nat
  sq : Nat
  id : Nat
  cid : Nat
  irqNow : Bool
deriving DecidableEq, Repr

/-- A hardware thread, or a Croft core (R325, R328, R337): whether it is in use, its registers, pc, context, program (a slot, or 64 + the number of a
service program), cycles issued, class of mover messages, MOVESRC, what it sleeps for, its fabric operations oldest first, the status of its last FATOM,
whether an operation completed since the last WAIT, whether any ended other than OK, its leave steps, its start, since when it is awake, the exit status and result of a thread that
drains, the exception registers, and the descriptor it works on with the step of its service program. -/
structure Thread where
  busy : Bool := false
  regs : List (BitVec 64) := List.replicate 32 0
  pc : Nat := 0
  fold : Nat := 0
  vf : Nat := 0xFFFF
  prog : Nat := 0
  cycles : Nat := 0
  moveClass : Nat := 0
  moveSrc : Nat := 0
  sleep : Sleep := .awake
  ops : List FabOp := []
  lastAtom : Nat := 0
  completed : Bool := false
  anyBad : Bool := false
  leave : Nat := 0
  startAt : Nat := 0
  awakeFrom : Option Nat := none
  draining : Option (Nat × Nat) := none
  excCause : Nat := 0
  excPc : Nat := 0
  work : Option Work := none
  desc : List Byte := []
  step : Nat := 0
  acc : Nat := 0
deriving DecidableEq, Repr

/-- A program image being loaded (R353): its slot, the octets so far, whether it is verified now. -/
structure Load where
  slot : Nat
  image : List Byte
  verifying : Bool
deriving DecidableEq, Repr

/-- Drover: the threads (0 to 511) and Croft cores (512 to 515) that are not idle at their defaults; scratch octets by 16384 thread + address; the octets
of data segments by ((cluster × 128 + slot) × 1024 + fold) × 2^20 + offset, the fold that last used a slice, the images of slots, a load under way, busy ns
by fold not yet given to Paddock, dispatch pointers, hot-page counts by target × 2^52 + page, the tally interval in which they began, slots that unload and since which tick, slices and data segments (the number of their
first octet) that hold an uncorrectable error, extents whose zeroing failed, and the exit statuses and results that TFB has yet to take. -/
structure Drv where
  threads : List (Nat × Thread) := []
  scratch : List Host.Cell := []
  segs : List Host.Cell := []
  sliceFold : List (Nat × Nat) := []
  images : List (Nat × List Byte) := []
  load : Option Load := none
  ns : List (Nat × Nat) := []
  clusterPtr : Nat := 0
  enginePtr : List (Nat × Nat) := []
  hot : List (Nat × Nat) := []
  hotAt : Nat := 0
  unloading : List (Nat × Nat) := []
  badSlices : List Nat := []
  badSegs : List Nat := []
  zeroFailed : List Nat := []
  ended : List (Work × Nat × Nat) := []
deriving DecidableEq, Repr

/-- Configuration state that a PF and a VF share (R361, R383, R385): Bus Master Enable, MSI-X Enable and Function Mask, ATS Enable, PME_En, PME_Status,
D3hot, the MSI-X table (empty at its reset value), the PBA, the Smallest Translation Unit, and the codes of the largest payload and read request
(128 octets times a power of 2; the reset values are PRESUMED from the base specification, R339). -/
structure FuncCfg where
  busMaster : Bool := false
  msixEnable : Bool := false
  fmask : Bool := false
  ats : Bool := false
  pmeEn : Bool := false
  pmeStatus : Bool := false
  d3 : Bool := false
  table : List Byte := []
  pba : Nat := 0
  stu : Nat := 0
  mps : Nat := 0
  mrrs : Nat := 2
deriving DecidableEq, Repr

/-- A submission queue (R371, R372, R377): ENABLE, BASE, SIZE register, HEAD, tail, SQ_ERR, stopped until it is enabled again, the DETAIL of the next
FENCE, and its completions still owed. -/
structure SubQ where
  enable : Bool := false
  base : Nat := 0
  size : Nat := 0
  head : Nat := 0
  tail : Nat := 0
  err : Bool := false
  stopped : Bool := false
  bad : Bool := false
  owed : Nat := 0
deriving DecidableEq, Repr

/-- A completion queue (R371, R383): ENABLE, IRQ_ENABLE, vector, BASE, SIZE, MOD, TAIL, head, PHASE, CQ_ERR, stopped, U, the boundaries that the timer still
counts, reserved slots. -/
structure CplQ where
  enable : Bool := false
  irq : Bool := false
  vector : Nat := 0
  base : Nat := 0
  size : Nat := 0
  mod : Nat := 0
  tail : Nat := 0
  head : Nat := 0
  phase : Bool := false
  err : Bool := false
  stopped : Bool := false
  u : Nat := 0
  timer : Option Nat := none
  reserved : Nat := 0
deriving DecidableEq, Repr

/-- A descriptor that TFB fetches or holds (R376): its number, submission queue, octets, whether it has arrived, whether it completes with ABORTED when
it arrives (R373, R391), and whether a RESUME carried it (R394). -/
structure Desc where
  id : Nat
  sq : Nat
  bytes : List Byte := []
  here : Bool := false
  aborted : Bool := false
  carried : Bool := false
deriving DecidableEq, Repr

/-- A pool VF (R363 to R397): its STATE (0 where it is not enabled), queues, error registers, configuration, control-array registers, descriptors
fetched and not dispatched, descriptors dispatched by number and queue, the rotating pointers of fetching and dispatch, the reset's start, writes that
wait for the end of a reset. -/
structure Vf where
  state : Nat := 0
  sqs : List SubQ := List.replicate 4 {}
  cqs : List CplQ := List.replicate 4 {}
  cause : Nat := 0
  errVector : Nat := 0
  cfg : FuncCfg := {}
  result : Nat := 0
  imageLen : Nat := 0
  imageAddr : Nat := 0
  descs : List Desc := []
  running : List (Nat × Nat) := []
  sqPtr : Nat := 0
  dispPtr : Nat := 0
  resetAt : Nat := 0
  later : List CfgChange := []
  laterD3 : Option Bool := none
deriving DecidableEq, Repr

/-- The PF of an upstream port (R361 to R367): VF Enable, NumVFs, TFB_VER_SELECT, the interrupt registers, PF_VF_EVENT, its configuration, and
the addresses in BAR0 and VF BAR0. -/
structure Pf where
  vfEnable : Bool := false
  numVfs : Nat := 0
  majorSelect : Nat := 0
  intCause : Nat := 0
  intEnable : Nat := 0
  vfEvent : Nat := 0
  cfg : FuncCfg := {}
  bar0 : Nat := 0
  vfBar0 : Nat := 0
deriving DecidableEq, Repr

/-- A host access that waits for its translation (R389): the function, what it is (0 the fetch of descriptor `a`, 1 a completion entry `data` of queue `a`
at `addr`, 2 message `a` of unit `x`, 4 the MSI-X message `b` of vector `a`), its address. -/
structure AtsWait where
  f : Func
  kind : Nat
  addr : Nat
  a : Nat := 0
  b : Nat := 0
  x : Option ExecUnit := none
  data : List Byte := []
deriving DecidableEq, Repr

/-- The Tenant Function Block: VFs and PFs off their defaults, pointers of fetching and dispatch, the next descriptor number, the translation cache
(function, page, translated page), oldest first, the accesses that wait for it, what waits for an upstream link to leave L1 (port, function), and the
invalidations not yet answered with their address and the translated pages still in use. -/
structure Tfb where
  vfs : List (Nat × Vf) := []
  pfs : List (Nat × Pf) := []
  fetchPtr : Nat := 0
  dispatchPtr : Nat := 0
  nextDesc : Nat := 0
  atc : List (Func × Nat × Nat) := []
  waits : List AtsWait := []
  asleep : List (Nat × Func × Output) := []
  inval : List (Func × Nat × List Nat) := []
deriving DecidableEq, Repr

/-- A harvest under way (R404): its fold, port, host address, offset in the bitmap and length, and when it started. -/
structure Harvest where
  fold : Nat
  port : Nat
  addr : Nat
  offset : Nat
  len : Nat
  since : Nat
deriving DecidableEq, Repr

/-- Migration (R398 to R406): when the freeze of a rebind began, when its present phase began, whether an internal commit of the rebind is being
applied, and the harvest. -/
structure Mig where
  freezeAt : Nat := 0
  phaseAt : Nat := 0
  internal : Bool := false
  /-- Whether the phase's commit has been counted as deferred (R71). -/
  deferred : Bool := false
  harvest : Option Harvest := none
deriving DecidableEq, Repr

/-- A slot channel beside its objects (R487 to R498): whether its grant was asked for, when its ramp began, when its fault timer started and last
stopped, when its gate was commanded off, when PORT_PERST_N fell in STOPPING. -/
structure SlotCh where
  asked : Bool := false
  rampAt : Nat := 0
  timerAt : Nat := 0
  timerEnd : Nat := 0
  offAt : Nat := 0
  stopAt : Option Nat := none
  /-- When the channel entered STOPPING. -/
  stopSince : Option Nat := none
deriving DecidableEq, Repr

/-- The slot channels off their defaults, and for each downstream port whose PORT_PERST_N waits to be released the time from which its 100 ms run (R87). -/
structure Slots where
  chans : List (Nat × SlotCh) := []
  perst : List (Nat × Nat) := []
deriving DecidableEq, Repr

end Sys2Proof.Machine
end

