-- ==== Sys2Proof/Machine/State.lean ====
section
/-! DEFINITION. The state of the YL6480: everything the manual gives the part, one group of fields for each subsystem, the queue of
waiting commands, and what the part has sent.  Plain data. -/

namespace Sys2Proof.Machine

/-- Why a step can stop with a fault.  No command of the table does: every one of them has an effect in the manual. -/
inductive Fault where
  /-- Raised by no command; it stands for a state the part cannot reach.  Safe. -/
  | unreachable
deriving DecidableEq, Repr

/-- Why a step can refuse a command. -/
inductive Refusal where
  /-- Raised by an arm of exec whose command has no meaning yet.  Safe: the run stops. -/
  | notModelled (mnemonic : String)
deriving DecidableEq, Repr

/-- The state of the device. -/
structure State where
  dict : Dict := {}
  mram : Mram := {}
  crf : Croft := {}
  boot : Boot := {}
  flt : Collector := {}
  cic : Cic := {}
  tally : Tally := {}
  clk : Clock := {}
  gov : Governor := {}
  pwr : Power := {}
  sel : Sel := {}
  fab : Fabric := {}
  blw : Blw := {}
  cmn : Commons := {}
  drv : Drv := {}
  tfb : Tfb := {}
  mig : Mig := {}
  slots : Slots := {}
  pending : List Instr := []
  out : List Output := []
  fresh : Nat := 0
deriving DecidableEq, Repr

/-- The device right after power-on with PWRON_RST_N low (R91, R97): every register at its default, the DTC stopped at 0, the slot gates
clamped, nothing in memory, no command waiting. -/
def State.reset : State := {}

end Sys2Proof.Machine
end

