-- ==== Sys2Proof/Machine/Ops.lean ====
section
/-! DEFINITION. The named operations over the dictionary, the device's outputs, Tally, the CIC and the fault collector. -/

namespace Sys2Proof.Machine

/-! ### The dictionary -/

/-- The catalogue row of a key (R38, R39). -/
def catFind (k : Nat) : Option ObjRow := (catRange (keyIdx k)).find? (fun r => r.has (keyIdx k) (keySub k))

/-- The number of subentries of an index, 0 where the index is not defined (R11, R38). -/
def catCount (idx : Nat) : Nat :=
  ((catRange idx).filter (fun r => r.hasIndex idx)).foldl (fun n r => max n (r.sub0 + r.nsub - 1)) 0

/-- The access right of a subentry: that of its row, but CONST for the entries of fold 0 (R225, R324) and of CIC source 0 (R444). -/
def accessOf (r : ObjRow) (k : Nat) : Access :=
  if keyIdx k = 0x4000 ∧ keySub k ≤ 5 then .const
  else if keyIdx k = 0x6000 ∧ keySub k ≤ 12 then .const
  else if k = K.CRF_CIC_SRC_CFG 0 then .const
  else r.acc

/-- Whether a CIC source ID is allocated (R423, R424). -/
def cicAllocated (s : Nat) : Bool :=
  (1 ≤ s && s ≤ 8) || (0x10 ≤ s && s ≤ 0x16) || (0x20 ≤ s && s ≤ 0x3A) || (0x40 ≤ s && s ≤ 0xFF)
  || (0x100 ≤ s && s ≤ 0x107) || (0x110 ≤ s && s ≤ 0x119) || (0x120 ≤ s && s ≤ 0x128) || (0x130 ≤ s && s ≤ 0x136)
  || (0x140 ≤ s && s ≤ 0x147) || (0x180 ≤ s && s ≤ 0x1BF) || (0x200 ≤ s && s ≤ 0x28F) || (0x300 ≤ s && s ≤ 0x73F)

/-- The default priority of an allocated CIC source (R423). -/
def cicPriority (s : Nat) : Nat :=
  if s = 1 then 4 else if s = 2 then 8 else if s = 3 then 12 else if s = 4 then 14 else if s = 5 then 15
  else if s = 6 then 10 else if s = 7 then 12 else if s = 8 then 8
  else if s < 0x20 then 9 else if s < 0x30 then 12 else if s < 0x40 then 6 else if s < 0xC0 then 7
  else if s < 0x100 then 5 else if s < 0x200 then 6 else if s < 0x300 then 5 else if s < 0x700 then 6 else 3

/-- The reset value of CRF_CIC_SRC_CFG of a source (R426, R427).  DESIGN CHOICE (log 143): of a reserved source the whole word is 0, as the dash of
R423's table has it, where R426's column gives TARGETS 0x0000F. -/
def cicDefault (s : Nat) : Nat :=
  if cicAllocated s then
    2 ^ 31 + b2n (s == 0x14) * 2 ^ 30 + b2n ((0x10 ≤ s && s ≤ 0x13) || s == 0x15 || s == 0x16) * 2 ^ 29
      + cicPriority s * 2 ^ 20 + 0xF
  else 0

/-- The default of a numeric subentry (R11). -/
def dfltNum (k : Nat) : Nat :=
  if 0x9000 ≤ keyIdx k ∧ keyIdx k < 0x9010 then cicDefault ((keyIdx k - 0x9000) * 128 + keySub k - 1)
  else match catFind k with
    | some r => r.dflt.getD (min (keySub k - r.sub0) (r.dflt.length - 1)) 0
    | none => 0

/-- The default of Gatepost entry 4,095 (R253). -/
def gtpDefault : List Byte :=
  [0x1F, 0x12, 2] ++ zeros 21 ++ [0xFF, 0xFF, 0xFF, 0xFF, 0xFF, 0, 0, 0]

/-- The default of a DOMAIN subentry: octets of zero of its length, nothing for those whose default is empty (R11, R253). -/
def dfltOct (k : Nat) : List Byte :=
  if k = K.GTP_REGION_ENTRY 4095 then gtpDefault
  else if k = K.MIG_RB_VFS then []
  else if keyIdx k = 0x7110 ∨ keyIdx k = 0x1001 ∨ keyIdx k = 0xB005 then []
  else match catFind k with
    | some r => zeros r.size
    | none => []

/-- The stored value of a numeric subentry. -/
def State.rd (s : State) (k : Nat) : Nat := Sparse.get dfltNum s.dict.nums k

/-- The stored value of a DOMAIN subentry. -/
def State.rdo (s : State) (k : Nat) : List Byte := Sparse.get dfltOct s.dict.octs k

/-- Store a numeric value. -/
def State.wr (s : State) (k v : Nat) : State :=
  { s with dict := { s.dict with nums := Sparse.set dfltNum s.dict.nums k v } }

/-- Store a DOMAIN value. -/
def State.wro (s : State) (k : Nat) (v : List Byte) : State :=
  { s with dict := { s.dict with octs := Sparse.set dfltOct s.dict.octs k v } }

/-- The width in bits of a numeric subentry (R9). -/
def widthOf (k : Nat) : Nat := match catFind k with
  | some r => 8 * r.size
  | none => 64

/-- Advance a counter by `n`, modulo its width. -/
def State.add (s : State) (k n : Nat) : State := s.wr k ((s.rd k + n) % 2 ^ widthOf k)

/-- Advance a counter by 1. -/
def State.bump (s : State) (k : Nat) : State := s.add k 1

/-- Decrease a count that does not go below 0. -/
def State.sub (s : State) (k n : Nat) : State := s.wr k (s.rd k - n)

/-- Set or clear one bit of a value. -/
def State.wrBit (s : State) (k n : Nat) (b : Bool) : State := s.wr k (putBit (s.rd k) n b)

/-- Replace bits [hi:lo] of a value. -/
def State.wrBits (s : State) (k hi lo v : Nat) : State := s.wr k (putBits (s.rd k) hi lo v)

/-- The version of a subentry (R40): 0 for CONST and RO, which are never listed. -/
def State.version (s : State) (k : Nat) : Nat := Sparse.get (fun _ => 0) s.dict.vers k

/-- Advance a version, which wraps from 0xFFFFFFFE to 0 (R40). -/
def State.bumpVersion (s : State) (k : Nat) : State :=
  { s with dict := { s.dict with vers := Sparse.set (fun _ => 0) s.dict.vers k ((s.version k + 1) % 0xFFFFFFFF) } }

/-- Send something. -/
def State.emit (s : State) (o : Output) : State := { s with out := s.out ++ [o] }

/-- Take the next number for a free value. -/
def State.tick (s : State) : State := { s with fresh := s.fresh + 1 }

/-- The tick number (R29). -/
def State.now (s : State) : Nat := s.clk.dtc / 1000

/-- The device is in the Pinfold state, or in its Bothy-only form (R110). -/
def State.inPinfold (s : State) : Bool := decide (s.boot.step = .pinfold ∨ s.boot.step = .bothyPinfold)

/-- The journal's replay is under way or due: in phase C of a boot (R75), or after a restart of Croft in the Pinfold state (R114). -/
def State.replaying (s : State) : Bool := s.boot.step == .phaseB || (s.boot.step == .pinfold && s.boot.replayDue)

/-- SYS_READY has risen and the device is awake. -/
def State.isReady (s : State) : Bool := decide (s.boot.step = .ready ∧ s.pwr.sleep = .awake)

/-- The time that a record carries: the DTC, or the Bothy counter while the DTC stands still (R480, R483). -/
def State.recordTime (s : State) : Nat := if s.clk.running then s.clk.dtc else s.clk.bothy

/-- A step of an absent precondition: an event that does not occur in this state leaves it unchanged. -/
def when (c : Bool) (f : State → State) (s : State) : State := if c then f s else s

/-- Apply an operation for each element of a list, in order. -/
def forEach {α : Type} (l : List α) (f : State → α → State) (s : State) : State := l.foldl f s

/-! ### Tally (R438 to R442) -/

/-- The subsystem number of the owner of a Tally bank (R438, R445). -/
def bankOwner (b : Nat) : Nat :=
  if b < 8 then 1 else if b < 24 then 2 else if b < 32 then 3 else if b < 36 then 4 else if b < 40 then 5
  else if b < 44 then 6 else if b < 46 then 7 else if b < 54 then 8 else if b < 56 then 9 else if b < 60 then 10
  else if b < 62 then 11 else 12

/-- The counters whose selection is listed in the dictionary. -/
def State.tallySelected (s : State) : List (Nat × Nat) :=
  (s.dict.nums.filter (fun e => 0x9100 ≤ keyIdx e.1 && keyIdx e.1 < 0x9108)).map
    (fun e => ((keyIdx e.1 - 0x9100) * 128 + keySub e.1 - 1, e.2))

/-- A counter of selection `sel` counts the event of the code and the numbered element (R439). -/
def tallyMatches (k sel code inst : Nat) : Bool :=
  bit sel 31 && bits sel 15 0 == code && (bit sel 30 || bits sel 27 16 == inst) && bankOwner (k / 16) == code / 4096

/-! ### The CIC (R423 to R437) -/

/-- The state of a source. -/
def State.cicGet (s : State) (i : Nat) : CicSource := Sparse.get (fun _ => {}) s.cic.sources i

/-- Set the state of a source. -/
def State.cicPut (s : State) (i : Nat) (c : CicSource) : State :=
  { s with cic := { s.cic with sources := Sparse.set (fun _ => {}) s.cic.sources i c } }

/-- The source is configured as an edge source: only the external lines can be (R426). -/
def State.cicEdge (s : State) (i : Nat) : Bool := bit (s.rd (K.CRF_CIC_SRC_CFG i)) 30

/-- The level of a source changes: the transitions of R428.  Reserved IDs are never pending (R423). -/
def State.cicLevel (s : State) (i : Nat) (b : Bool) : State :=
  if !cicAllocated i then s else
  let c := s.cicGet i
  if s.cicEdge i then
    if b && !c.level then
      match c.state with
      | .idle => s.cicPut i { c with level := b, state := .pending }
      | .active => s.cicPut i { c with level := b, state := .activePending }
      | .pending | .activePending => (s.cicPut i { c with level := b }).bump K.CRF_CIC_EDGES_MERGED
    else s.cicPut i { c with level := b }
  else
    match c.state with
    | .idle => s.cicPut i { c with level := b, state := if b then .pending else .idle }
    | .pending => s.cicPut i { c with level := b, state := if b then .pending else .idle }
    | .active | .activePending => s.cicPut i { c with level := b }

/-- An event asserts the level of an internal source, which its block holds until Croft's handler clears the cause (R423). -/
def State.cicRaise (s : State) (i : Nat) : State := s.cicLevel i true

/-- The level of a Tally bank's source (R441). -/
def State.cicTally (s : State) (b : Nat) : State :=
  s.cicLevel (0x700 + b)
    ((setBits 16 (s.rd (K.CRF_TALLY_OVF b))).any (fun j => bit (s.rd (K.CRF_TALLY_SEL (16 * b + j))) 29))

/-- The live count of a Tally counter. -/
def State.tallyLive (s : State) (k : Nat) : Nat := Sparse.get (fun _ => 0) s.tally.live k

/-- Set the live count of a Tally counter. -/
def State.tallyPut (s : State) (k v : Nat) : State :=
  { s with tally := { s.tally with live := Sparse.set (fun _ => 0) s.tally.live k v } }

/-- Counter `k` adds `n` events: each time that it passes 2^48 - 1 it goes on from its reload value, and its overflow flag is set, or the overflow counted
where the flag is set already (R441). -/
def State.tallyAdd (s : State) (k n : Nat) : State :=
  let v := s.tallyLive k + n
  if v < 2 ^ 48 then s.tallyPut k v else
  let span := max 1 (2 ^ 48 - s.rd (K.CRF_TALLY_RELOAD k))
  let times := (v - 2 ^ 48) / span + 1
  let s1 := s.tallyPut k (v - times * span)
  let b := k / 16
  if bit (s.rd (K.CRF_TALLY_OVF b)) (k % 16) then s1.add K.CRF_TALLY_OVERFLOWS times
  else when (times != 1) (·.add K.CRF_TALLY_OVERFLOWS (times - 1)) ((s1.wrBit (K.CRF_TALLY_OVF b) (k % 16) true).cicTally b)

/-- Every counter that selects the event adds `n` (R438, R440). -/
def State.countN (s : State) (code inst n : Nat) : State :=
  forEach (s.tallySelected.filter (fun e => tallyMatches e.1 e.2 code inst)) (fun s e => s.tallyAdd e.1 n) s

/-- Every counter that selects the event adds 1. -/
def State.count (s : State) (code inst : Nat) : State := s.countN code inst 1

/-! ### The fault collector (R445 to R460) -/

/-- An element code (R445). -/
def elem (kind num : Nat) : Nat := kind * 4096 + num

/-- The element of the whole device. -/
def elemDevice : Nat := 0

/-- The element of a subsystem. -/
def elemSub (n : Nat) : Nat := elem 1 n

/-- The element of a port. -/
def elemPort (p : Nat) : Nat := elem 2 p

/-- The base classes of a fault source, of its lesser and its graver case, and the element kinds it names (R446). -/
structure FaultSource where
  code : Nat
  lesser : Nat
  graver : Nat
  kinds : List Nat
deriving DecidableEq, Repr

/-- The fault sources (R446). -/
def faultSources : List FaultSource := [
  ⟨0x1001, 1, 1, [5]⟩,
  ⟨0x1002, 1, 1, [3]⟩,
  ⟨0x1003, 1, 1, [3]⟩,
  ⟨0x1004, 1, 1, [2]⟩,
  ⟨0x2001, 2, 2, [2]⟩,
  ⟨0x2002, 0, 0, [2]⟩,
  ⟨0x2003, 1, 1, [2]⟩,
  ⟨0x2004, 0, 0, [2]⟩,
  ⟨0x2005, 0, 0, [2]⟩,
  ⟨0x2006, 1, 1, [2]⟩,
  ⟨0x2007, 0, 0, [2]⟩,
  ⟨0x2008, 0, 0, [2]⟩,
  ⟨0x2009, 0, 2, [2]⟩,
  ⟨0x200A, 0, 0, [2]⟩,
  ⟨0x3001, 1, 1, [2]⟩,
  ⟨0x3002, 2, 2, [2]⟩,
  ⟨0x3003, 0, 0, [2]⟩,
  ⟨0x3004, 1, 1, [2]⟩,
  ⟨0x3005, 0, 0, [2]⟩,
  ⟨0x3006, 1, 1, [2]⟩,
  ⟨0x3007, 0, 0, [2]⟩,
  ⟨0x3008, 0, 0, [2]⟩,
  ⟨0x3009, 1, 1, [2]⟩,
  ⟨0x300A, 1, 1, [2]⟩,
  ⟨0x300B, 1, 1, [2]⟩,
  ⟨0x300C, 1, 1, [2]⟩,
  ⟨0x4001, 2, 2, [11]⟩,
  ⟨0x4002, 0, 1, [11]⟩,
  ⟨0x4003, 0, 0, [2, 1]⟩,
  ⟨0x4004, 0, 0, [1]⟩,
  ⟨0x4005, 0, 0, [2, 1]⟩,
  ⟨0x5001, 0, 0, [6, 1]⟩,
  ⟨0x5002, 0, 0, [1]⟩,
  ⟨0x5003, 2, 2, [6]⟩,
  ⟨0x5004, 1, 1, [1]⟩,
  ⟨0x5005, 2, 2, [6]⟩,
  ⟨0x5006, 0, 0, [6]⟩,
  ⟨0x5007, 0, 1, [1]⟩,
  ⟨0x6001, 0, 1, [1]⟩,
  ⟨0x6002, 3, 3, [1]⟩,
  ⟨0x6003, 1, 1, [15]⟩,
  ⟨0x6004, 1, 1, [1]⟩,
  ⟨0x6005, 2, 2, [2]⟩,
  ⟨0x6006, 0, 1, [1]⟩,
  ⟨0x6007, 0, 0, [15]⟩] ++ [
  ⟨0x6008, 0, 1, [2, 15]⟩,
  ⟨0x6009, 0, 0, [15]⟩,
  ⟨0x7001, 1, 1, [1]⟩,
  ⟨0x7002, 0, 0, [1]⟩,
  ⟨0x7003, 0, 0, [1]⟩,
  ⟨0x7004, 0, 1, [6]⟩,
  ⟨0x7005, 0, 1, [6]⟩,
  ⟨0x8001, 1, 1, [7]⟩,
  ⟨0x8002, 2, 2, [8]⟩,
  ⟨0x8003, 0, 1, [8]⟩,
  ⟨0x8004, 0, 0, [7]⟩,
  ⟨0x8005, 0, 0, [1]⟩,
  ⟨0x8006, 1, 1, [1]⟩,
  ⟨0x8007, 0, 0, [7]⟩,
  ⟨0x9001, 0, 0, [14]⟩,
  ⟨0x9002, 0, 0, [14]⟩,
  ⟨0x9003, 0, 0, [14]⟩,
  ⟨0x9004, 0, 1, [14]⟩,
  ⟨0x9005, 1, 1, [14]⟩,
  ⟨0xA001, 0, 1, [12]⟩,
  ⟨0xA002, 1, 1, [1]⟩,
  ⟨0xA003, 1, 1, [12]⟩,
  ⟨0xA004, 0, 0, [1]⟩,
  ⟨0xA005, 3, 3, [12]⟩,
  ⟨0xB001, 1, 1, [1]⟩,
  ⟨0xB002, 1, 1, [1]⟩,
  ⟨0xB003, 1, 1, [1]⟩,
  ⟨0xB004, 1, 1, [10]⟩,
  ⟨0xB005, 1, 1, [13]⟩,
  ⟨0xB006, 1, 1, [1]⟩,
  ⟨0xC001, 1, 2, [0, 1, 2, 3, 4, 7, 8, 9, 10, 12]⟩,
  ⟨0xC002, 1, 1, [0]⟩,
  ⟨0xC003, 1, 1, [1]⟩,
  ⟨0xC004, 1, 1, [1]⟩,
  ⟨0xC005, 1, 1, [0]⟩,
  ⟨0xC006, 4, 4, [0]⟩,
  ⟨0xC007, 4, 4, [0]⟩,
  ⟨0xC008, 4, 4, [0]⟩,
  ⟨0xC009, 4, 4, [0]⟩,
  ⟨0xC00A, 2, 2, [9]⟩,
  ⟨0xC00B, 2, 2, [9]⟩]

/-- Fault source SEL_REFCLK_LOSS (R446). -/
abbrev F.SEL_REFCLK_LOSS : Nat := 0x1001

/-- Fault source SEL_PLL_UNLOCK (R446). -/
abbrev F.SEL_PLL_UNLOCK : Nat := 0x1002

/-- Fault source SEL_QUAD_FENCE (R446). -/
abbrev F.SEL_QUAD_FENCE : Nat := 0x1003

/-- Fault source SEL_SSC_CONFLICT (R446). -/
abbrev F.SEL_SSC_CONFLICT : Nat := 0x1004

/-- Fault source PRT_CONTROLLER (R446). -/
abbrev F.PRT_CONTROLLER : Nat := 0x2001

/-- Fault source PRT_MALFORMED (R446). -/
abbrev F.PRT_MALFORMED : Nat := 0x2002

/-- Fault source PRT_FC_PROTOCOL (R446). -/
abbrev F.PRT_FC_PROTOCOL : Nat := 0x2003

/-- Fault source PRT_POISON_RX (R446). -/
abbrev F.PRT_POISON_RX : Nat := 0x2004

/-- Fault source PRT_PASID (R446). -/
abbrev F.PRT_PASID : Nat := 0x2005

/-- Fault source PRT_CXL_PROTOCOL (R446). -/
abbrev F.PRT_CXL_PROTOCOL : Nat := 0x2006

/-- Fault source PRT_LD_RANGE (R446). -/
abbrev F.PRT_LD_RANGE : Nat := 0x2007

/-- Fault source PRT_DC_RESPONSE (R446). -/
abbrev F.PRT_DC_RESPONSE : Nat := 0x2008

/-- Fault source PRT_IDE_FAIL (R446). -/
abbrev F.PRT_IDE_FAIL : Nat := 0x2009

/-- Fault source PRT_SPDM (R446). -/
abbrev F.PRT_SPDM : Nat := 0x200A

/-- Fault source TWL_LINK_DOWN (R446). -/
abbrev F.TWL_LINK_DOWN : Nat := 0x3001

/-- Fault source TWL_LINK_DISABLED (R446). -/
abbrev F.TWL_LINK_DISABLED : Nat := 0x3002

/-- Fault source TWL_CREDIT_CLAMP (R446). -/
abbrev F.TWL_CREDIT_CLAMP : Nat := 0x3003

/-- Fault source TWL_CREDIT_OVERRUN (R446). -/
abbrev F.TWL_CREDIT_OVERRUN : Nat := 0x3004

/-- Fault source TWL_UNKNOWN_MSG (R446). -/
abbrev F.TWL_UNKNOWN_MSG : Nat := 0x3005

/-- Fault source TWL_FRAMING (R446). -/
abbrev F.TWL_FRAMING : Nat := 0x3006

/-- Fault source TWL_CTRL (R446). -/
abbrev F.TWL_CTRL : Nat := 0x3007

/-- Fault source TWL_ACK_RANGE (R446). -/
abbrev F.TWL_ACK_RANGE : Nat := 0x3008

/-- Fault source TWL_HOP_EXPIRED (R446). -/
abbrev F.TWL_HOP_EXPIRED : Nat := 0x3009

/-- Fault source TWL_DEVNUM (R446). -/
abbrev F.TWL_DEVNUM : Nat := 0x300A

/-- Fault source TWL_INIT_REJECT (R446). -/
abbrev F.TWL_INIT_REJECT : Nat := 0x300B

/-- Fault source TWL_VERSION (R446). -/
abbrev F.TWL_VERSION : Nat := 0x300C

/-- Fault source LOM_SLICE (R446). -/
abbrev F.LOM_SLICE : Nat := 0x4001

/-- Fault source LOM_CELL_ECC (R446). -/
abbrev F.LOM_CELL_ECC : Nat := 0x4002

/-- Fault source LOM_TRUNCATED (R446). -/
abbrev F.LOM_TRUNCATED : Nat := 0x4003

/-- Fault source LOM_RESEQ_SKIP (R446). -/
abbrev F.LOM_RESEQ_SKIP : Nat := 0x4004

/-- Fault source LOM_OVF_REFUSED (R446). -/
abbrev F.LOM_OVF_REFUSED : Nat := 0x4005

/-- Fault source FLD_DECODE_MISS (R446). -/
abbrev F.FLD_DECODE_MISS : Nat := 0x5001

/-- Fault source FLD_TABLE_ECC (R446). -/
abbrev F.FLD_TABLE_ECC : Nat := 0x5002

/-- Fault source FLD_EXTENT_ECC (R446). -/
abbrev F.FLD_EXTENT_ECC : Nat := 0x5003

/-- Fault source FLD_ROUTE_ECC (R446). -/
abbrev F.FLD_ROUTE_ECC : Nat := 0x5004

/-- Fault source FLD_DIRTY_WRITE (R446). -/
abbrev F.FLD_DIRTY_WRITE : Nat := 0x5005

/-- Fault source GTP_VIOLATION (R446). -/
abbrev F.GTP_VIOLATION : Nat := 0x5006

/-- Fault source GTP_TABLE_ECC (R446). -/
abbrev F.GTP_TABLE_ECC : Nat := 0x5007

/-- Fault source BLW_SET_ECC (R446). -/
abbrev F.BLW_SET_ECC : Nat := 0x6001

/-- Fault source BLW_SET_LOST (R446). -/
abbrev F.BLW_SET_LOST : Nat := 0x6002

/-- Fault source BLW_PEER_LOST (R446). -/
abbrev F.BLW_PEER_LOST : Nat := 0x6003

/-- Fault source BLW_POISON (R446). -/
abbrev F.BLW_POISON : Nat := 0x6004

/-- Fault source BLW_BISNP_TIMEOUT (R446). -/
abbrev F.BLW_BISNP_TIMEOUT : Nat := 0x6005

/-- Fault source BLW_NEAR_ECC (R446). -/
abbrev F.BLW_NEAR_ECC : Nat := 0x6006

/-- Fault source BLW_PEER_UNKNOWN (R446). -/
abbrev F.BLW_PEER_UNKNOWN : Nat := 0x6007

/-- Fault source BLW_PROTOCOL (R446). -/
abbrev F.BLW_PROTOCOL : Nat := 0x6008

/-- Fault source BLW_WB_DISCARDED (R446). -/
abbrev F.BLW_WB_DISCARDED : Nat := 0x6009

/-- Fault source PDK_TICK_OVERRUN (R446). -/
abbrev F.PDK_TICK_OVERRUN : Nat := 0x7001

/-- Fault source PDK_QSAMPLE_DROPPED (R446). -/
abbrev F.PDK_QSAMPLE_DROPPED : Nat := 0x7002

/-- Fault source PDK_TALLY_FULL (R446). -/
abbrev F.PDK_TALLY_FULL : Nat := 0x7003

/-- Fault source PDK_BUCKET_ECC (R446). -/
abbrev F.PDK_BUCKET_ECC : Nat := 0x7004

/-- Fault source PDK_METER_ECC (R446). -/
abbrev F.PDK_METER_ECC : Nat := 0x7005

/-- Fault source DRV_ENGINE (R446). -/
abbrev F.DRV_ENGINE : Nat := 0x8001

/-- Fault source DRV_CLUSTER (R446). -/
abbrev F.DRV_CLUSTER : Nat := 0x8002

/-- Fault source DRV_SRAM_ECC (R446). -/
abbrev F.DRV_SRAM_ECC : Nat := 0x8003

/-- Fault source DRV_EXCEPTION (R446). -/
abbrev F.DRV_EXCEPTION : Nat := 0x8004

/-- Fault source DRV_LOAD (R446). -/
abbrev F.DRV_LOAD : Nat := 0x8005

/-- Fault source DRV_ZERO_FAIL (R446). -/
abbrev F.DRV_ZERO_FAIL : Nat := 0x8006

/-- Fault source DRV_OP_FAIL (R446). -/
abbrev F.DRV_OP_FAIL : Nat := 0x8007

/-- Fault source TFB_DOORBELL (R446). -/
abbrev F.TFB_DOORBELL : Nat := 0x9001

/-- Fault source TFB_FETCH (R446). -/
abbrev F.TFB_FETCH : Nat := 0x9002

/-- Fault source TFB_CPL_WRITE (R446). -/
abbrev F.TFB_CPL_WRITE : Nat := 0x9003

/-- Fault source TFB_QUEUE_ECC (R446). -/
abbrev F.TFB_QUEUE_ECC : Nat := 0x9004

/-- Fault source TFB_FLR_DETACHED (R446). -/
abbrev F.TFB_FLR_DETACHED : Nat := 0x9005

/-- Fault source CMN_ECC (R446). -/
abbrev F.CMN_ECC : Nat := 0xA001

/-- Fault source CMN_RETIRE_FULL (R446). -/
abbrev F.CMN_RETIRE_FULL : Nat := 0xA002

/-- Fault source CMN_TEMP (R446). -/
abbrev F.CMN_TEMP : Nat := 0xA003

/-- Fault source CMN_SCRUB_BEHIND (R446). -/
abbrev F.CMN_SCRUB_BEHIND : Nat := 0xA004

/-- Fault source CMN_CHANNEL (R446). -/
abbrev F.CMN_CHANNEL : Nat := 0xA005

/-- Fault source CRF_AUTH (R446). -/
abbrev F.CRF_AUTH : Nat := 0xB001

/-- Fault source CRF_MRAM_WEAR (R446). -/
abbrev F.CRF_MRAM_WEAR : Nat := 0xB002

/-- Fault source CRF_PERSIST_RESTORE (R446). -/
abbrev F.CRF_PERSIST_RESTORE : Nat := 0xB003

/-- Fault source CRF_CORE (R446). -/
abbrev F.CRF_CORE : Nat := 0xB004

/-- Fault source CRF_MGMT_PORT (R446). -/
abbrev F.CRF_MGMT_PORT : Nat := 0xB005

/-- Fault source CRF_TICK_OVERRUN (R446). -/
abbrev F.CRF_TICK_OVERRUN : Nat := 0xB006

/-- Fault source HRD_SELFTEST (R446). -/
abbrev F.HRD_SELFTEST : Nat := 0xC001

/-- Fault source HRD_STRAP (R446). -/
abbrev F.HRD_STRAP : Nat := 0xC002

/-- Fault source HRD_TICK_OVERRUN (R446). -/
abbrev F.HRD_TICK_OVERRUN : Nat := 0xC003

/-- Fault source HRD_REGION (R446). -/
abbrev F.HRD_REGION : Nat := 0xC004

/-- Fault source HRD_THERMAL (R446). -/
abbrev F.HRD_THERMAL : Nat := 0xC005

/-- Fault source HRD_THERMAL_CRITICAL (R446). -/
abbrev F.HRD_THERMAL_CRITICAL : Nat := 0xC006

/-- Fault source HRD_WAKE_FAIL (R446). -/
abbrev F.HRD_WAKE_FAIL : Nat := 0xC007

/-- Fault source HRD_REFCLK_LOSS (R446). -/
abbrev F.HRD_REFCLK_LOSS : Nat := 0xC008

/-- Fault source HRD_SUPPLY (R446). -/
abbrev F.HRD_SUPPLY : Nat := 0xC009

/-- Fault source HRD_SLOT_TRIP (R446). -/
abbrev F.HRD_SLOT_TRIP : Nat := 0xC00A

/-- Fault source HRD_SLOT_FET (R446). -/
abbrev F.HRD_SLOT_FET : Nat := 0xC00B

/-- The row of a source code. -/
def faultSource (src : Nat) : Option FaultSource := faultSources.find? (fun f => f.code == src)

/-- A fault record is open: final class F1 to F4 and not acknowledged (R447, R460). -/
def State.recOpen (s : State) (r : FaultRec) : Bool := 1 ≤ r.cls && s.mram.acked < r.seq

/-- The open records of a class (HRD_FAULT_OPEN). -/
def State.openOf (s : State) (cls : Nat) : Nat :=
  (s.mram.ring.filter (fun e => e.2.cls == cls && s.recOpen e.2)).length

/-- The open record of a class and element with the highest SEQUENCE, 0 where there is none (R455). -/
def State.openRelated (s : State) (cls el : Nat) : Nat :=
  s.mram.ring.foldl (fun n e => if e.2.cls == cls && e.2.element == el && s.recOpen e.2 then max n e.2.seq else n) 0

/-- The ring slot that a new record takes, and whether an open record is lost (R459). -/
def State.recSlot (s : State) : Nat × Bool :=
  match (List.range 4096).find? (fun i => !(s.mram.ring.any (fun e => e.1 == i))) with
  | some i => (i, false)
  | none =>
    let oldest := fun (l : List (Nat × FaultRec)) =>
      l.foldl (fun (b : Option (Nat × FaultRec)) e => match b with
        | none => some e
        | some x => if e.2.seq < x.2.seq then some e else some x) none
    match oldest (s.mram.ring.filter (fun e => !s.recOpen e.2)) with
    | some e => (e.1, false)
    | none => match oldest s.mram.ring with
      | some e => (e.1, true)
      | none => (0, false)

/-- The level of the record limit at this time (R456): 2,048 records a second with a burst of 256, in units of 10^-9 records. -/
def State.limitNow (s : State) : Nat :=
  min (256 * 10 ^ 9) (s.flt.limitLevel + 2048 * (s.clk.dtc - s.flt.limitTime))

/-- Events of a source and element that the limit holds back. -/
def State.heldCount (s : State) (src el : Nat) : Nat :=
  (s.flt.held.filter (fun h => h.source == src && h.element == el)).foldl (fun n h => n + h.count) 0

/-- Write a record to the ring and assert the CIC source of its class (R456, R459); ALERT_N falls on an F2 or F3 record (R88). -/
def State.writeRecord (s : State) (r : FaultRec) : State :=
  let h := s.heldCount r.source r.element
  let seq := (s.mram.lastSeq + 1) % 2 ^ 32
  let sl := s.recSlot
  let rec1 := { r with seq := seq, count := r.count + h, flags := if h = 0 then r.flags else putBit r.flags 3 true }
  let s1 := { s with
    mram := { s.mram with ring := Sparse.insert sl.1 rec1 s.mram.ring, lastSeq := seq, lastSlot := sl.1 }
    flt := { s.flt with held := s.flt.held.filter (fun h => !(h.source == r.source && h.element == r.element)) }
    boot := if r.cls = 2 ∨ r.cls = 3 then { s.boot with alertOut := true } else s.boot }
  ((when sl.2 (·.bump K.HRD_FAULT_LOST) s1).cicRaise (1 + r.cls)).count 0xC002 r.cls

/-- Two events share one record (R456): same source, element, tick, final class and FLAGS bits 0, 1 and 4. -/
def sameRecord (r q : FaultRec) : Bool :=
  r.source == q.source && r.element == q.element && r.dtc / 1000 == q.dtc / 1000 && r.boot == q.boot && r.cls == q.cls
  && bit r.flags 0 == bit q.flags 0 && bit r.flags 1 == bit q.flags 1 && bit r.flags 4 == bit q.flags 4

/-- Record an evaluated event (R456): join the record of the same tick, or write one, or hold it back under the limit. -/
def State.record (s : State) (r : FaultRec) : State :=
  if 2 ≤ r.cls then s.writeRecord r else
  match s.mram.ring.find? (fun e => sameRecord e.2 r) with
  | some e => { s with mram := { s.mram with ring := Sparse.insert e.1 { e.2 with count := e.2.count + 1 } s.mram.ring } }
  | none =>
    if 10 ^ 9 ≤ s.limitNow then
      { s with flt := { s.flt with limitLevel := s.limitNow - 10 ^ 9, limitTime := s.clk.dtc } }.writeRecord r
    else
      { s with flt := { s.flt with held := { source := r.source, element := r.element, count := 1 } :: s.flt.held } }.bump
        K.HRD_FAULT_COALESCED

/-- The 16 sub-window counts of a source, newest first (R453). -/
def State.window (s : State) (src : Nat) : List Nat := Sparse.get (fun _ => List.replicate 16 0) s.flt.windows src

/-- Set the sub-window counts of a source. -/
def State.putWindow (s : State) (src : Nat) (w : List Nat) : State :=
  { s with flt := { s.flt with windows := Sparse.set (fun _ => List.replicate 16 0) s.flt.windows src w } }

/-- The promotion of an event (R453): the class after it, whether it was promoted, and the source's new counts. -/
def State.promote (s : State) (src base : Nat) : Nat × Bool × List Nat :=
  let cfg := s.rd (K.HRD_FAULT_SRC_CFG src)
  let w := s.window src
  if !bit cfg 31 then (base, false, w) else
  let counts := w.set 0 (w.headD 0 + 1)
  if counts.foldl (· + ·) 0 = bits cfg 7 0 then (min 4 (base + 1), true, List.replicate 16 0)
  else (base, false, counts)

/-- The reaction to an event of a final class (R447 to R451). -/
def State.react (s : State) (src el cls : Nat) : State :=
  let s1 := if cls = 4 then { s with flt := { s.flt with latch := true } } else s
  let add := fun (r : Reaction) => { s1 with flt := { s1.flt with reactions := s1.flt.reactions ++ [r] } }
  if cls = 4 then add .pinfold
  else if s.inPinfold then s1
  else if cls = 3 then (if src / 4096 = 8 ∨ src / 4096 = 9 then add (.subsystemReset (src / 4096)) else add .warmReset)
  else if cls = 2 then add (.isolate el)
  else s1

/-- FAULT_EVALUATION (R447): the collector evaluates one event of a source, element and base class.  `inj` marks an injected event
(R462). -/
def State.raiseAt (s : State) (src el base d0 d1 d2 : Nat) (inj : Bool) : State :=
  let s0 := s.bump (K.HRD_FAULT_SRC_EVENTS src)
  let p := s0.promote src base
  let s1 := s0.putWindow src p.2.2
  let rel := if 1 ≤ p.1 ∧ p.1 ≤ 3 then s1.openRelated p.1 el else 0
  let esc := decide (rel ≠ 0)
  let cls := if esc then p.1 + 1 else p.1
  let booting := decide (s.boot.step ≠ .ready ∧ s.inPinfold = false)
  let flags := b2n p.2.1 + 2 * b2n esc + 4 * b2n booting + 16 * b2n inj + 32 * b2n s.boot.mramBad
  let r : FaultRec :=
    { dtc := s.recordTime, source := src, cls := cls, flags := flags, element := el, base := base, count := 1
      boot := s.mram.bootCount, related := rel, d0 := d0, d1 := d1, d2 := d2 }
  (s1.record r).react src el cls

/-- An event of a source in its lesser case. -/
def State.raise (s : State) (src el : Nat) : State :=
  s.raiseAt src el (((faultSource src).map (·.lesser)).getD 0) 0 0 0 false

/-- An event of a source in its graver case. -/
def State.raiseGrave (s : State) (src el : Nat) : State :=
  s.raiseAt src el (((faultSource src).map (·.graver)).getD 0) 0 0 0 false

/-- An event of a source in its lesser case with DETAIL words (R458). -/
def State.raiseD (s : State) (src el d0 d1 d2 : Nat) : State :=
  s.raiseAt src el (((faultSource src).map (·.lesser)).getD 0) d0 d1 d2 false

/-- An event of a source in its graver case with DETAIL words (R458). -/
def State.raiseGraveD (s : State) (src el d0 d1 d2 : Nat) : State :=
  s.raiseAt src el (((faultSource src).map (·.graver)).getD 0) d0 d1 d2 false

end Sys2Proof.Machine
end

