-- ==== Sys2Proof/Machine/Cic.lean ====
section
/-! DEFINITION. The interrupt controller and the Tally collection: delivery, claim, completion and the CIC registers (R425 to R442). -/

namespace Sys2Proof.Machine

/-- The priority threshold of a target (R437). -/
def State.cicThreshold (s : State) (t : Nat) : Nat := Sparse.get (fun _ => 0) s.cic.thresholds t

/-- Source `i` is eligible for target `t` (R430); a fenced target's TARGETS bit counts as clear (R435). -/
def State.cicEligible (s : State) (t i : Nat) : Bool :=
  let cfg := s.rd (K.CRF_CIC_SRC_CFG i)
  let c := s.cicGet i
  (c.state == .pending) && bit cfg 31 && bit cfg t && (s.cicThreshold t ≤ bits cfg 23 20) && !s.cic.disable
    && !(s.cic.fenced.contains t)

/-- The eligible sources of a target. -/
def State.cicRequests (s : State) (t : Nat) : List Nat := (s.cic.sources.map (·.1)).filter (s.cicEligible t)

/-- The rotating pointer of a target over source IDs (R431). -/
def State.cicPointer (s : State) (t : Nat) : Nat := Sparse.get (fun _ => 0) s.cic.pointers t

/-- The source that a read of CIC_TOP names: the highest priority, then the first at or after the target's pointer (R431). -/
def State.cicTop (s : State) (t : Nat) : Option Nat :=
  let l := s.cicRequests t
  let pri := fun i => bits (s.rd (K.CRF_CIC_SRC_CFG i)) 23 20
  let top := l.foldl (fun m i => max m (pri i)) 0
  let c := l.filter (fun i => pri i == top)
  let dist := fun i => (i + 2048 - s.cicPointer t) % 2048
  c.foldl (fun b i => match b with
    | none => some i
    | some j => if dist i < dist j then some i else some j) none

/-- The word that CIC_CLAIM and CIC_TOP return for a source (R437). -/
def State.cicWord (s : State) (i : Nat) : Nat := bits (s.rd (K.CRF_CIC_SRC_CFG i)) 23 20 * 4096 + i

/-- A read of CIC_CLAIM by a target: the word read and the state after it (R431, R434). -/
def State.cicClaim (s : State) (t : Nat) : Nat × State :=
  match s.cicTop t with
  | none => (0, if s.cic.disable then s else s.bump K.CRF_CIC_SPURIOUS)
  | some i =>
    let s1 := s.cicPut i { s.cicGet i with state := .active, owner := t }
    let s2 := { s1 with cic := { s1.cic with pointers := Sparse.set (fun _ => 0) s1.cic.pointers t ((i + 1) % 2048) } }
    (s.cicWord i, s2.bump K.CRF_CIC_CLAIMS)

/-- Sources whose level the manual ties to a condition of their own: the governor's queue, the external lines, waiting Crook messages, the Tally banks. -/
def cicHeldLevel (i : Nat) : Bool := i == 6 || (0x10 ≤ i && i ≤ 0x16) || (0x30 ≤ i && i ≤ 0x3A) || (0x700 ≤ i && i ≤ 0x73F)

/-- The completion of an active source (R428): sampled again when level, pending again when it was active-and-pending.  `clear` is the
handler's clearing of the cause, for the sources without a level of their own. -/
def State.cicFinish (s : State) (i : Nat) (clear : Bool) : State :=
  let c := s.cicGet i
  let lvl := if clear && !cicHeldLevel i then false else c.level
  if s.cicEdge i then s.cicPut i { c with state := if c.state = .activePending then .pending else .idle, owner := 0 }
  else s.cicPut i { state := if lvl then .pending else .idle, level := lvl, owner := 0 }

/-- A write of CIC_COMPLETE by a target (R429, R432). -/
def State.cicComplete (s : State) (t v : Nat) : State :=
  let i := v % 2048
  let c := s.cicGet i
  if (c.state = .active ∨ c.state = .activePending) ∧ c.owner = t then
    let s1 := s.cicFinish i (!bit v 31)
    if bit v 31 then s1.bump K.CRF_CIC_NOCAUSE else s1
  else s.bump K.CRF_CIC_BAD_COMPLETE

/-- A target leaves service: what it claimed is completed as without NOCAUSE, and its TARGETS bit counts as clear (R435). -/
def State.cicFence (s : State) (t : Nat) : State :=
  let l := (s.cic.sources.filter (fun e => (e.2.state == .active || e.2.state == .activePending) && e.2.owner == t)).map (·.1)
  let s1 := forEach l (fun s i => s.cicFinish i true) s
  { s1 with cic := { s1.cic with fenced := if s1.cic.fenced.contains t then s1.cic.fenced else t :: s1.cic.fenced } }

/-- A target returns to service. -/
def State.cicUnfence (s : State) (t : Nat) : State :=
  { s with cic := { s.cic with fenced := s.cic.fenced.filter (· != t) } }

/-- A change of an external line that has held its level for `held` cycles of its filter (R427). -/
def State.externalLine (s : State) (line : Nat) (level : Bool) (held : Nat) : State :=
  if 7 ≤ line ∨ held < s.rd (K.CRF_CIC_FILTER line) then s else
  let i := 0x10 + line
  let asserted := xor level (bit (s.rd (K.CRF_CIC_SRC_CFG i)) 29)
  let was := (s.cicGet i).level
  let s1 := s.cicLevel i asserted
  if line = 0 ∧ asserted ∧ !was then s1.bump K.HRD_PMBUS_ALERTS else s1

/-- A bitmap word of the CIC's register file: bit s for source s. -/
def State.cicBits (s : State) (w : Nat) (p : CicSource → Bool) : Nat :=
  ((List.range 32).filter (fun j => p (s.cicGet (32 * w + j)))).foldl (fun n j => n + 2 ^ j) 0

/-- A read of a CIC register at an offset by target `t` (R437); `none` where no register is, or another target's page. -/
def State.cicRead (s : State) (t off : Nat) : Option (Nat × State) :=
  let page := (off - 0x4000) / 0x100
  if off % 4 ≠ 0 then none
  else if off < 0x2000 then some (s.rd (K.CRF_CIC_SRC_CFG (off / 4)), s)
  else if off < 0x2100 then some (s.cicBits ((off - 0x2000) / 4) (fun c => c.state == .pending || c.state == .activePending), s)
  else if off < 0x2200 then some (s.cicBits ((off - 0x2100) / 4) (fun c => c.state == .active || c.state == .activePending), s)
  else if off < 0x2300 then some (s.cicBits ((off - 0x2200) / 4) (·.level), s)
  else if off = 0x3000 then some (b2n s.cic.disable, s)
  else if 0x3040 ≤ off ∧ off < 0x305C then some (s.rd (K.CRF_CIC_FILTER ((off - 0x3040) / 4)), s)
  else if 0x4000 ≤ off ∧ page < 20 ∧ (t < 4 ∨ page = t) then
    match (off - 0x4000) % 0x100 with
    | 0x0 => some (s.cicThreshold page, s)
    | 0x4 => some (s.cicClaim page)
    | 0x8 => some (0, s)
    | 0xC => some (((s.cicTop page).map s.cicWord).getD 0, s)
    | _ => none
  else none

/-- The level of an external line whose ACTIVE_LOW was that of the word `was`: a line that has not moved is asserted at the other level once the bit
changes (R426). -/
def State.cicPolarity (s : State) (i was : Nat) : State :=
  if bit was 29 = bit (s.rd (K.CRF_CIC_SRC_CFG i)) 29 then s else s.cicLevel i (!(s.cicGet i).level)

/-- A write of a source's configuration register: the read-only bits keep their values (R426); reserved IDs take nothing. -/
def State.cicConfigure (s : State) (i v : Nat) : State :=
  let line := if 0x10 ≤ i ∧ i ≤ 0x16 then 0x60000000 else 0
  let rw := 0x80FFFFFF + line
  let was := s.rd (K.CRF_CIC_SRC_CFG i)
  if !cicAllocated i then s
  else when (line != 0) (·.cicPolarity i was) (s.wr (K.CRF_CIC_SRC_CFG i) ((v % 2 ^ 32).land rw + was.land (0xFFFFFFFF - rw)))

/-- A write of a CIC register at an offset by target `t` (R437): Croft cores write all but the read-only registers; an engine-cluster
target its own page only. -/
def State.cicWrite (s : State) (t off v : Nat) : Option State :=
  let page := (off - 0x4000) / 0x100
  if off % 4 ≠ 0 then none
  else if t < 4 ∧ off < 0x2000 then some (s.cicConfigure (off / 4) v)
  else if t < 4 ∧ 0x3040 ≤ off ∧ off < 0x305C then some (s.wr (K.CRF_CIC_FILTER ((off - 0x3040) / 4)) (v % 256))
  else if t < 4 ∧ off = 0x3000 then some { s with cic := { s.cic with disable := bit v 0 } }
  else if 0x4000 ≤ off ∧ page < 20 ∧ (t < 4 ∨ page = t) then
    match (off - 0x4000) % 0x100 with
    | 0x0 => some { s with cic := { s.cic with thresholds := Sparse.set (fun _ => 0) s.cic.thresholds page (v % 16) } }
    | 0x8 => some (s.cicComplete page v)
    | _ => none
  else none

/-- A write of a counter number to CRF_TALLY_OVF_CLEAR clears its flag (R441). -/
def State.tallyOvfClear (s : State) (k : Nat) : State :=
  if k < 1024 then (s.wrBit (K.CRF_TALLY_OVF (k / 16)) (k % 16) false).cicTally (k / 16) else s

/-- TALLY_COLLECT (R442): the latched counts of the banks, in rotating order, reach the dictionary: all of them, or, in a tick whose Tally job overruns, those
collected within the budget, and the tick is counted as missed. -/
def State.tallyCollect (s : State) (overrun : Bool) : State :=
  let shown := (s.dict.nums.filter (fun e => 0x9120 ≤ keyIdx e.1 && keyIdx e.1 < 0x9128)).map
    (fun e => (keyIdx e.1 - 0x9120) * 128 + keySub e.1 - 1)
  let n := if overrun then Config.tallyBanks s.fresh % 64 else 64
  let reached := fun (k : Nat) => decide ((k / 16 + 64 - s.tally.pointer) % 64 < n)
  let s1 := forEach ((shown ++ s.tally.live.map (·.1)).filter reached) (fun s k => s.wr (K.CRF_TALLY_COUNT k) (s.tallyLive k)) s
  let s2 : State := { s1 with tally := { s1.tally with pointer := (s.tally.pointer + n) % 64 } }
  if overrun then (s2.bump K.CRF_TALLY_MISSED).tick else s2

end Sys2Proof.Machine
end

