-- ==== Sys2Proof/Machine/Hurdle.lean ====
section
/-! DEFINITION. Hurdle's governor, thermal and supply limits, device time and the IEEE 1588 servo (R464 to R476). -/

namespace Sys2Proof.Machine

/-! ### The governor (R474 to R476) -/

/-- The GU that a requester holds. -/
def State.granted (s : State) (r : Nat) : Nat := Sparse.get (fun _ => 0) s.gov.grants r

/-- The GU held in all (R475). -/
def State.held (s : State) : Nat := s.gov.grants.foldl (fun n e => n + e.2) 0

/-- The objects and the CIC level that follow the governor's state (R475, R484). -/
def State.govSync (s : State) : State :=
  (((s.wr K.HRD_GOV_HELD s.held).wr K.HRD_GOV_WAITING s.gov.waiting.length).wr K.HRD_GOV_BRAKE (b2n s.gov.brake)).cicLevel 6
    (!s.gov.waiting.isEmpty)

/-- The objects of a mover follow its steps: 4 GB/s without a grant, and 4 GB/s more for each step (R344). -/
def State.moverSync (s : State) (c : Nat) : State :=
  (s.wr (K.DRV_MOVER_STEPS c) (s.granted c)).wr (K.DRV_MOVER_RATE c) (4 + 4 * s.granted c)

/-- Set the GU that a requester holds. -/
def State.setGrant (s : State) (r n : Nat) : State :=
  let s1 := { s with gov := { s.gov with grants := Sparse.set (fun _ => 0) s.gov.grants r n } }
  (if r < 16 then s1.moverSync r else s1).govSync

/-- The governor withdraws steps of a cluster's mover (R344): the threads of the lowest numbers keep theirs (DESIGN CHOICE: the spec does not say whose
steps go), then the answers on their way. -/
def State.withdrawSteps (s : State) (c n : Nat) : State :=
  let left := s.granted c - n
  let cut := fun (w : Nat × List (Nat × Thread)) (e : Nat × Thread) =>
    if e.1 / 32 ≠ c then (w.1, w.2 ++ [e]) else (w.1 - min w.1 e.2.leave, w.2 ++ [(e.1, { e.2 with leave := min w.1 e.2.leave })])
  let r := s.drv.threads.foldl cut (left, [])
  let a := s.gov.answers.foldl (fun (w : Nat × List GovAnswer) a =>
    if a.requester ≠ c then (w.1, w.2 ++ [a]) else (w.1 - min w.1 a.given, w.2 ++ [{ a with given := min w.1 a.given }])) (r.1, [])
  State.setGrant { s with
    drv := { s.drv with threads := r.2 }
    gov := { s.gov with answers := a.2 } } c left

/-- A requester asks for a grant (R474); it is collected at the next boundary. -/
def State.govRequest (s : State) (r amount : Nat) (unit_ : Nat := 0) : State :=
  let q : GovRequest := { requester := r, amount := amount, since := s.now, collected := false, unit_ := unit_ }
  let s1 : State := { s with gov := { s.gov with waiting := s.gov.waiting ++ [q] } }
  (s1.count 0xC001 0).govSync

/-- A requester's requests and answers are dropped and its grant released. -/
def State.govRelease (s : State) (r : Nat) : State :=
  State.setGrant { s with gov := { s.gov with
      waiting := s.gov.waiting.filter (fun q => q.requester != r)
      answers := s.gov.answers.filter (fun a => a.requester != r) } } r 0

/-- The budget in force (R472, R475, R476). -/
def State.budget (s : State) : Nat :=
  if s.gov.brake then s.rd K.HRD_GOV_FLOOR
  else max (min (s.rd K.HRD_GOV_FLOOR) (s.rd K.HRD_GOV_BUDGET)) (s.rd K.HRD_GOV_BUDGET - s.gov.stepDown)

/-- One request of the rebalancing walk of R475: the state, GU available, whether a request blocks, and the requests that stay. -/
def govAnswer (w : State × Int × Bool × List GovRequest) (q : GovRequest) :
    State × Int × Bool × List GovRequest :=
  let (s, avail, blocked, stay) := w
  let answer := fun (give : Nat) =>
    let s1 : State := s.setGrant q.requester (s.granted q.requester + give)
    let s2 : State := { s1 with gov := { s1.gov with
      answers := s1.gov.answers ++ [{ requester := q.requester, given := give, unit_ := q.unit_ }]
      pointer := if give = 0 then s1.gov.pointer else (q.requester + 1) % 98 } }
    if give = 0 then s2 else s2.bump K.HRD_GOV_GRANTS
  if q.requester < 16 then
    let give := if blocked then 0 else min (min q.amount avail.toNat) (7 - s.granted q.requester)
    (answer give, avail - give, blocked, stay)
  else if blocked ∨ (q.requester = 80 ∧ !s.cmn.hot.isEmpty) then (s, avail, blocked, stay ++ [q])
  else if (q.amount : Int) ≤ avail then (answer q.amount, avail - q.amount, blocked, stay)
  else if 16 < s.now - q.since then (s, avail, true, stay ++ [q])
  else (s, avail, blocked, stay ++ [q])

/-- GOVERNOR_REBALANCE (R475): answer the collected requests in rotating order, then collect those that arrived since. -/
def State.rebalance (s : State) : State :=
  let due := s.gov.waiting.filter (·.collected)
  let new := s.gov.waiting.filter (fun q => !q.collected)
  let rot := fun (q : GovRequest) => (q.requester + 98 - s.gov.pointer) % 98
  let ordered := sortBy rot due
  let avail : Int := (s.budget : Int) - s.rd K.HRD_GOV_BASE - s.held
  let r := ordered.foldl govAnswer (s, avail, false, [])
  let s1 : State := r.1
  let again := new.map (fun q => { q with collected := true })
  State.govSync { s1 with gov := { s1.gov with waiting := r.2.2.2 ++ again } }

/-- The 1 ms update of the base (R475). -/
def State.baseUpdate (s : State) : State :=
  match s.gov.pout with
  | none => s.wr K.HRD_GOV_BASE (s.rd K.HRD_GOV_BASE_DEFAULT)
  | some p => s.wr K.HRD_GOV_BASE (ceilDiv p 250 + s.rd K.HRD_GOV_UNMETERED - s.held)

/-- A PMBus poll (R473): the output powers of the three regulators in mW, absent where a read failed.  The reading counts only if an address
is set and every regulator with an address answered. -/
def State.pmbusPoll (s : State) (powers : List (Option Nat)) : State :=
  let named := (List.range 3).filter (fun j => s.rd (K.HRD_PMBUS_ADDR j) != 0)
  let got := named.map (fun j => powers.getD j none)
  let p := if named.isEmpty ∨ got.any (·.isNone) then none else some (got.foldl (fun n o => n + o.getD 0) 0)
  { s with gov := { s.gov with pout := p } }

/-- The GU that the brake allows to be held: floor minus base (R476). -/
def State.brakeRoom (s : State) : Nat := s.rd K.HRD_GOV_FLOOR - s.rd K.HRD_GOV_BASE

/-- A recognised PWR_BRAKE_N (R476): mover steps are withdrawn from the highest cluster down, then the scrub burst pauses. -/
def State.brakeOn (s : State) : State :=
  let s0 := { s with gov := { s.gov with brake := true, brakeLifted := false } }
  let s1 := forEach ((List.range 16).reverse) (fun s c =>
    if s.held ≤ s.brakeRoom then s else s.withdrawSteps c (min (s.granted c) (s.held - s.brakeRoom))) s0
  let s2 := if s1.held ≤ s1.brakeRoom ∨ s1.granted 80 = 0 then s1
    else
      let s3 : State := s1.setGrant 80 0
      { s3 with gov := { s3.gov with scrubHold := true } }
  s2.govSync

/-- PWR_BRAKE_N sampled high: the budget returns at the next tick boundary (R476). -/
def State.brakeOff (s : State) : State :=
  if s.gov.brake then { s with gov := { s.gov with brakeLifted := true } } else s

/-- What Hurdle does for the governor at a boundary before it rebalances: the end of a brake or of a thermal reduction. -/
def State.govBoundary (s : State) : State :=
  let s1 := if s.gov.brakeLifted then
      { s with gov := { s.gov with brake := false, brakeLifted := false, scrubHold := false } }.wrBit K.HRD_THROTTLE_STATE 2 false
    else s
  let s2 := if s1.gov.thermal then s1 else
    { s1 with gov := { s1.gov with stepDown := 0 } }.wrBit K.HRD_THROTTLE_STATE 0 false
  s2.govSync

/-! ### Limits between regions, and temperature (R471, R472) -/

/-- A region's measured difference is outside its limit: 100 mV, 25 °C (in 0.1 °C), or a clock ratio of 8 (R471). -/
def regionOver (r : RegionSample) : Bool :=
  match r.quantity with
  | 0 => 100 < r.value
  | 1 => 250 < r.value
  | 2 => 8 < r.value
  | _ => false

/-- A region sample outside its limit throttles the region and records HRD_REGION (R471). -/
def State.regionSample (s : State) (r : RegionSample) : State :=
  if !regionOver r ∨ r.region = 0 ∨ 12 < r.region ∨ s.gov.throttled.contains (r.region, r.quantity) then s else
  ({ s with gov := { s.gov with throttled := (r.region, r.quantity) :: s.gov.throttled } }.wrBit K.HRD_THROTTLE_STATE
    (3 + r.region) true).raise F.HRD_REGION (elemSub r.region)

/-- The value of a throttled region has been inside its release level for 1 ms (R471). -/
def State.regionRelease (s : State) (region : Nat) : State :=
  if region = 0 ∨ 12 < region then s else
  { s with gov := { s.gov with throttled := s.gov.throttled.filter (fun e => e.1 != region) } }.wrBit K.HRD_THROTTLE_STATE
    (3 + region) false

/-- The throttle threshold in 0.1 °C. -/
def State.throttleAt (s : State) : Int := 10 * s.rd K.HRD_THERMAL_THROTTLE

/-- A die sensor's reading in 0.1 °C (R472): at the threshold the reduction starts, 5 °C above it clocks are gated. -/
def State.thermal (s : State) (sensor : Nat) (temp : Int) : State :=
  if 32 ≤ sensor ∨ bit s.boot.sensorsOut sensor then s else
  let s1 := s.wr (K.HRD_TEMP sensor) (ofInt 32 temp)
  let s2 := if s.throttleAt ≤ temp ∧ !s.gov.thermal then
      ({ s1 with gov := { s1.gov with thermal := true } }.wrBit K.HRD_THROTTLE_STATE 0 true |>.cicRaise 7).raise F.HRD_THERMAL elemDevice
    else s1
  if s.throttleAt + 50 ≤ temp then s2.wrBit K.HRD_THROTTLE_STATE 1 true else s2

/-- One step of the budget reduction, each 1 ms until the sensor is 5 °C below the threshold (R472). -/
def State.stepdown (s : State) (temp : Int) : State :=
  if s.gov.thermal ∧ s.throttleAt - 50 < temp then
    { s with gov := { s.gov with
        stepDown := min (s.gov.stepDown + 64) (s.rd K.HRD_GOV_BUDGET - s.rd K.HRD_GOV_FLOOR) } }
  else s

/-- The highest sensor has fallen 5 °C below the threshold (R472). -/
def State.thermalRelease (s : State) (temp : Int) : State :=
  if s.gov.thermal ∧ temp ≤ s.throttleAt - 50 then
    { s with gov := { s.gov with thermal := false } }.wrBit K.HRD_THROTTLE_STATE 1 false
  else s

/-- A sensor at 115 °C (R472). -/
def State.thermalCritical (s : State) (sensor : Nat) (temp : Int) : State :=
  if 1150 ≤ temp ∧ sensor < 32 ∧ !bit s.boot.sensorsOut sensor then
    (s.wr (K.HRD_TEMP sensor) (ofInt 32 temp)).raise F.HRD_THERMAL_CRITICAL elemDevice
  else s

/-! ### Device time (R465 to R467) -/

/-- The rate correction in parts per 10^12. -/
def State.rateAdj (s : State) : Int := sint 32 (s.rd K.HRD_RATE_ADJ)

/-- The nanoseconds and the fraction after one DTC clock cycle (R465): 1 ns plus the rate correction. -/
def State.dtcAfter (s : State) : Nat × Nat :=
  let f := ((s.clk.frac : Int) + 2 ^ 32 + s.rateAdj * 2 ^ 32 / 10 ^ 12).toNat
  ((s.clk.dtc + f / 2 ^ 32) % 2 ^ 64, f % 2 ^ 32)

/-- HRD_TIME_OFFSET as an integer. -/
def State.timeOffset (s : State) : Int := sint 64 (s.rd K.HRD_TIME_OFFSET)

/-- The servo is locked (HRD_TIME_STATUS bit 0). -/
def State.locked (s : State) : Bool := bit (s.rd K.HRD_TIME_STATUS) 0

/-- The correction limit in parts per 10^12 (R465). -/
def State.slewMax (s : State) : Int := 1000000 * s.rd K.HRD_DTC_SLEW_MAX

/-- A value held within plus and minus a limit. -/
def clampInt (m v : Int) : Int := max (-m) (min m v)

/-- Mode 1 acts: the last cold boot aligned the DTC (R467). -/
def State.alignMode (s : State) : Bool := s.clk.aligned && s.rd K.HRD_TIME_MODE == 1

/-- Source 2 has its phase from TS_PPS_IN (R467): until the first edge PTP gives it. -/
def State.ppsPhase (s : State) : Bool := s.rd K.HRD_TIME_SOURCE == 2 && bit (s.rd K.HRD_TIME_STATUS) 3

/-- The rate correction at which the DTC runs at the reference's frequency, `true_` ns of which took `own` ns of the DTC (R467). -/
def State.rateOver (s : State) (true_ own : Int) : Int := if own ≤ 0 then s.rateAdj else s.rateAdj + (true_ - own) * 10 ^ 12 / own

/-- The rate correction in force for an offset (R467): the rate, or once the DTC is aligned a slew toward the grandmaster's phase, within
HRD_DTC_SLEW_MAX; how much of the limit the slew takes is free. -/
def State.slewFor (s : State) (off rate : Int) : Int :=
  let trim : Int := Config.servoTrim s.fresh % (s.slewMax.toNat + 1)
  clampInt s.slewMax (if s.alignMode && s.boot.sysReady then
      (if 0 < off then s.slewMax - trim else if off < 0 then trim - s.slewMax else rate)
    else rate)

/-- A completed pair of a Sync's origin and receive times (R467): the offset, the error against the offset held (against zero once the DTC
is aligned), the rate, the lock.  Under source 2 the rate and the sub-second phase stay those of TS_PPS_IN, and the whole seconds follow PTP. -/
def State.servoUpdate (s : State) (port interval origin received : Nat) : State :=
  let v := s.clk.servo
  let ptp : Int := (origin : Int) + v.delay - received
  let off := if s.ppsPhase then s.timeOffset + (ptp - s.timeOffset + 500000000) / 10 ^ 9 * 10 ^ 9 else ptp
  let err := if s.alignMode then ptp else if v.lastOrigin.isNone then ptp else ptp - s.timeOffset
  let rate := match s.ppsPhase, v.lastOrigin with
    | true, _ | _, none => s.rateAdj
    | false, some o => s.rateOver ((origin : Int) - o) ((received : Int) - v.lastReceived)
  let slew := s.slewFor off rate
  let good := if -1000 ≤ err ∧ err ≤ 1000 then v.good + 1 else 0
  let locked := if s.locked then decide (-10000 ≤ err ∧ err ≤ 10000) else decide (16 ≤ good)
  let st := putBits (putBit (putBit (s.rd K.HRD_TIME_STATUS) 0 locked) 1 false) 5 4 port
  let s1 := { s with clk := { s.clk with servo := { v with
    waiting := none, lastOrigin := some origin, lastReceived := received, good := good, interval := interval
    lastSync := s.clk.dtc, lockedAll := v.lockedAll && locked } } }
  ((((s1.wr K.HRD_TIME_OFFSET (ofInt 64 off)).wr K.HRD_TIME_ERROR (ofInt 32 (clampInt 2147483647 err))).wr
    K.HRD_RATE_ADJ (ofInt 32 slew)).wr K.HRD_TIME_STATUS st).tick

/-- The PTP messages of a port count only from an enabled port, over the configured transport, in the configured domain, with discipline selected, and not
in P3 (R466, R467, R480). -/
def State.ptpHeard (s : State) (m : PtpMsg) : Bool :=
  m.port < 2 && m.udp == (s.rd K.HRD_PTP_TRANSPORT == 0) && bit (s.rd K.HRD_PTP_PORTS) m.port && m.domain == s.rd K.HRD_PTP_DOMAIN && s.rd K.HRD_TIME_SOURCE != 0
    && s.clk.running && s.pwr.sleep == .awake && !s.crf.mgmtDown.contains m.port

/-- The values of a master in the order of their comparison. -/
def rankValues (r : PtpRank) : List Nat := [r.priority1, r.clockClass, r.accuracy, r.variance, r.priority2, r.grandmaster, r.steps]

/-- A list of values comes before another: the first that differs decides. -/
def valuesBefore : List Nat → List Nat → Bool
  | a :: l, b :: m => decide (a < b) || (a == b && valuesBefore l m)
  | _, _ => false

/-- The best master announced on either port, by its port and identity: the default best master clock algorithm, then the lower port (R466). -/
def State.bestMaster (s : State) : Option (Nat × Nat) :=
  (s.clk.servo.announced.foldl (fun (b : Option (Nat × Nat × PtpRank)) e => match b with
    | none => some e
    | some x => if valuesBefore (rankValues e.2.2 ++ [e.1, e.2.1]) (rankValues x.2.2 ++ [x.1, x.2.1]) then some e else some x) none).map
      (fun e => (e.1, e.2.1))

/-- A Sync (R466, R467): a two-step Sync waits for its Follow_Up. -/
def State.ptpSync (s : State) (m : PtpMsg) : State :=
  if !s.ptpHeard m ∨ s.bestMaster ≠ some (m.port, m.source) then s else
  let s1 := s.emit (.delayReq m.port)
  if m.twoStep then { s1 with clk := { s1.clk with servo := { s1.clk.servo with waiting := some m } } }
  else s1.servoUpdate m.port m.interval m.origin m.received

/-- A Follow_Up gives the origin time of the Sync with its sequence number (R466). -/
def State.ptpFollowUp (s : State) (m : PtpMsg) : State :=
  if !s.ptpHeard m then s else
  match s.clk.servo.waiting with
  | some w => if w.port = m.port ∧ w.source = m.source ∧ w.sequence = m.sequence then s.servoUpdate w.port w.interval m.origin w.received else s
  | none => s

/-- A Delay_Resp gives the mean path delay with the last Sync (R466). -/
def State.ptpDelay (s : State) (m : PtpMsg) : State :=
  if !s.ptpHeard m ∨ s.bestMaster ≠ some (m.port, m.source) then s else
  match s.clk.servo.lastOrigin with
  | none => s
  | some o =>
    let d := (((s.clk.servo.lastReceived : Int) - o) + ((m.received : Int) - m.origin)) / 2
    { s with clk := { s.clk with servo := { s.clk.servo with delay := d } } }

/-- An Announce names a master heard on a port (R466). -/
def State.ptpAnnounce (s : State) (m : PtpMsg) : State :=
  if !s.ptpHeard m then s else
  { s with clk := { s.clk with servo := { s.clk.servo with
      announced := s.clk.servo.announced.filter (fun e => !(e.1 == m.port && e.2.1 == m.source)) ++ [(m.port, m.source, m.rank)] } } }

/-- Three Sync intervals without a valid Sync: holdover (R467). -/
def State.ptpHoldover (s : State) : State :=
  if s.locked ∧ s.clk.servo.lastSync + 3 * s.clk.servo.interval ≤ s.clk.dtc ∧ !bit (s.rd K.HRD_TIME_STATUS) 1 then
    { s with clk := { s.clk with servo := { s.clk.servo with holdoverAt := s.clk.dtc } } }.wrBit K.HRD_TIME_STATUS 1 true
  else s

/-- The end of holdover (R467): the servo is unlocked. -/
def State.ptpUnlock (s : State) : State :=
  if bit (s.rd K.HRD_TIME_STATUS) 1 ∧ s.clk.servo.holdoverAt + s.rd K.HRD_PTP_HOLDOVER ≤ s.clk.dtc then
    { s with clk := { s.clk with servo := { s.clk.servo with good := 0, lastOrigin := none, lockedAll := false } } }.wr K.HRD_TIME_STATUS
      (putBits (putBit (putBit (s.rd K.HRD_TIME_STATUS) 0 false) 1 false) 5 4 3)
  else s

/-- A rising edge of TS_PPS_IN, `error` ns after the expected second (R467, source 2): it gives the sub-second phase, and with the edge before it the rate.
The pads are ignored while held (R94). -/
def State.ppsIn (s : State) (error : Int) : State :=
  if s.rd K.HRD_TIME_SOURCE ≠ 2 ∨ !s.clk.running ∨ s.rd K.HRD_PADS_HELD = 1 then s
  else if (error.natAbs : Nat) ≤ s.rd K.HRD_PPS_WINDOW then
    let off := s.timeOffset - error
    let rate := match s.clk.servo.ppsLast with
      | some a =>
        let own : Int := (s.clk.dtc : Int) - a
        s.rateOver ((own + 500000000) / 10 ^ 9 * 10 ^ 9) own
      | none => s.rateAdj
    let slew := s.slewFor off rate
    let s1 : State := { s with clk := { s.clk with servo := { s.clk.servo with ppsLast := some s.clk.dtc } } }
    ((((s1.wr K.HRD_TIME_OFFSET (ofInt 64 off)).wr K.HRD_TIME_ERROR (ofInt 32 (clampInt 2147483647 error))).wr K.HRD_RATE_ADJ (ofInt 32 slew)).wrBit
      K.HRD_TIME_STATUS 3 true).tick
  else (s.bump K.HRD_PPS_REJECTED).wrBit K.HRD_TIME_STATUS 3 false

/-- TS_PPS_OUT rises where DTC + HRD_TIME_OFFSET is a multiple of a second, to ±4 ns (R467). -/
def State.ppsOut (s : State) : State :=
  let t := ((s.clk.dtc : Int) + s.timeOffset) % 10 ^ 9
  if s.rd K.HRD_PPS_OUT_ENABLE = 1 ∧ s.clk.running ∧ s.rd K.HRD_PADS_HELD = 0 ∧ (t ≤ 4 ∨ 10 ^ 9 - 4 ≤ t) then
    { s with clk := { s.clk with servo := { s.clk.servo with ppsHigh := true, ppsAt := s.clk.dtc } } }.emit .ppsOut
  else s

/-- The align step of a cold boot (R467, mode 1): the DTC takes the grandmaster's time. -/
def State.alignStep (s : State) : State :=
  if s.rd K.HRD_TIME_MODE = 1 ∧ s.locked ∧ !s.boot.warm then
    let t := ((s.clk.dtc : Int) + s.timeOffset).toNat
    ({ s with clk := { s.clk with dtc := t, aligned := true, servo := { s.clk.servo with lastOrigin := none, ppsLast := none } } }.wr K.HRD_TIME_OFFSET 0).wrBit
      K.HRD_TIME_STATUS 2 true
  else s

/-! ### Promotion windows (R453) -/

/-- One tick of every promotion window: at a sub-window boundary of a source its oldest sub-window is dropped. -/
def State.windowTick (s : State) : State :=
  let n := s.flt.ticks + 1
  forEach (s.flt.windows.map (·.1)) (fun s src =>
    if n % (max 1 (ceilDiv (bits (s.rd (K.HRD_FAULT_SRC_CFG src)) 23 8 * 1000) 16)) = 0 then
      s.putWindow src ((0 :: s.window src).take 16) else s)
    { s with flt := { s.flt with ticks := n } }

/-- FAULT_WINDOW_ADVANCE (R30, R453): an overrun owes its step to the next tick. -/
def State.faultWindowAdvance (s : State) (overrun : Bool) : State :=
  if overrun then { s with flt := { s.flt with owed := s.flt.owed + 1 } }
  else iter (fun p => if p.1 = 0 then none else some (p.1 - 1, p.2.windowTick)) (s.flt.owed + 1)
    (s.flt.owed + 1, { s with flt := { s.flt with owed := 0 } }) |>.2

/-- WAIT of a Croft core enters the power state of Hurdle's mode bits (R346): with those of P2 its regions may be gated from now on (R478). P3 is entered
whole at its request, which writes the bits and has every core WAIT (R479). -/
def State.enterMode (s : State) : State := if s.pwr.mode = 2 then { s with pwr := { s.pwr with fallowAsked := true } } else s

end Sys2Proof.Machine
end

