-- ==== Sys2Proof/Machine/Sha.lean ====
section
/-! DEFINITION. SHA-384 (FIPS 180-4) and HMAC-SHA-384 (FIPS 198-1), which R47 and R52 name for the tags of Crook messages and for
the session key.  PRESUMED: the constants and rounds are those of the standards, not of this manual (notes/assumptions). -/

namespace Sys2Proof.Machine

/-- The round constants of SHA-384. -/
def shaK1 : List Nat := [
  0x428A2F98D728AE22, 0x7137449123EF65CD, 0xB5C0FBCFEC4D3B2F, 0xE9B5DBA58189DBBC,
  0x3956C25BF348B538, 0x59F111F1B605D019, 0x923F82A4AF194F9B, 0xAB1C5ED5DA6D8118,
  0xD807AA98A3030242, 0x12835B0145706FBE, 0x243185BE4EE4B28C, 0x550C7DC3D5FFB4E2,
  0x72BE5D74F27B896F, 0x80DEB1FE3B1696B1, 0x9BDC06A725C71235, 0xC19BF174CF692694,
  0xE49B69C19EF14AD2, 0xEFBE4786384F25E3, 0x0FC19DC68B8CD5B5, 0x240CA1CC77AC9C65,
  0x2DE92C6F592B0275, 0x4A7484AA6EA6E483, 0x5CB0A9DCBD41FBD4, 0x76F988DA831153B5,
  0x983E5152EE66DFAB, 0xA831C66D2DB43210, 0xB00327C898FB213F, 0xBF597FC7BEEF0EE4,
  0xC6E00BF33DA88FC2, 0xD5A79147930AA725, 0x06CA6351E003826F, 0x142929670A0E6E70,
  0x27B70A8546D22FFC, 0x2E1B21385C26C926, 0x4D2C6DFC5AC42AED, 0x53380D139D95B3DF,
  0x650A73548BAF63DE, 0x766A0ABB3C77B2A8, 0x81C2C92E47EDAEE6, 0x92722C851482353B]

/-- The round constants of SHA-384. -/
def shaK2 : List Nat := [
  0xA2BFE8A14CF10364, 0xA81A664BBC423001, 0xC24B8B70D0F89791, 0xC76C51A30654BE30,
  0xD192E819D6EF5218, 0xD69906245565A910, 0xF40E35855771202A, 0x106AA07032BBD1B8,
  0x19A4C116B8D2D0C8, 0x1E376C085141AB53, 0x2748774CDF8EEB99, 0x34B0BCB5E19B48A8,
  0x391C0CB3C5C95A63, 0x4ED8AA4AE3418ACB, 0x5B9CCA4F7763E373, 0x682E6FF3D6B2B8A3,
  0x748F82EE5DEFB2FC, 0x78A5636F43172F60, 0x84C87814A1F0AB72, 0x8CC702081A6439EC,
  0x90BEFFFA23631E28, 0xA4506CEBDE82BDE9, 0xBEF9A3F7B2C67915, 0xC67178F2E372532B,
  0xCA273ECEEA26619C, 0xD186B8C721C0C207, 0xEADA7DD6CDE0EB1E, 0xF57D4F7FEE6ED178,
  0x06F067AA72176FBA, 0x0A637DC5A2C898A6, 0x113F9804BEF90DAE, 0x1B710B35131C471B,
  0x28DB77F523047D84, 0x32CAAB7B40C72493, 0x3C9EBE0A15C9BEBC, 0x431D67C49C100D4C,
  0x4CC5D4BECB3E42B6, 0x597F299CFC657E2A, 0x5FCB6FAB3AD6FAEC, 0x6C44198C4A475817]

/-- The initial hash value of SHA-384. -/
def shaIv : List Nat := [
  0xCBBB9D5DC1059ED8, 0x629A292A367CD507, 0x9159015A3070DD17, 0x152FECD8F70E5939,
  0x67332667FFC00B31, 0x8EB44A8768581511, 0xDB0C2E0D64F98FA7, 0x47B5481DBEFA4FA4]

/-- Rotation of a 64-bit word to the right. -/
def rotr (x n : Nat) : Nat := x / 2 ^ n + x % 2 ^ n * 2 ^ (64 - n)

/-- The Boolean complement of a 64-bit word. -/
def not64 (x : Nat) : Nat := 2 ^ 64 - 1 - x

/-- The next `n` words of the message schedule; `w` holds the last 16, newest first. -/
def shaSchedule : Nat → List Nat → List Nat
  | 0, _ => []
  | n + 1, w =>
    let s1 := w.getD 1 0
    let s0 := w.getD 14 0
    let t := ((((rotr s1 19).xor (rotr s1 61)).xor (s1 / 64)) + w.getD 6 0
      + (((rotr s0 1).xor (rotr s0 8)).xor (s0 / 128)) + w.getD 15 0) % 2 ^ 64
    t :: shaSchedule n (t :: w)

/-- The working variables a to h. -/
structure Sha where
  a : Nat
  b : Nat
  c : Nat
  d : Nat
  e : Nat
  f : Nat
  g : Nat
  h : Nat
deriving DecidableEq, Repr

/-- One round with the constant and schedule word `k` and `w`. -/
def shaRound (v : Sha) (k w : Nat) : Sha :=
  let t1 := v.h + (((rotr v.e 14).xor (rotr v.e 18)).xor (rotr v.e 41))
    + ((v.e.land v.f).xor ((not64 v.e).land v.g)) + k + w
  let t2 := (((rotr v.a 28).xor (rotr v.a 34)).xor (rotr v.a 39))
    + (((v.a.land v.b).xor (v.a.land v.c)).xor (v.b.land v.c))
  { a := (t1 + t2) % 2 ^ 64, b := v.a, c := v.b, d := v.c, e := (v.d + t1) % 2 ^ 64, f := v.e, g := v.f, h := v.g }

/-- All rounds over the paired constants and words. -/
def shaRounds (v : Sha) : List Nat → List Nat → Sha
  | k :: ks, w :: ws => shaRounds (shaRound v k w) ks ws
  | _, _ => v

/-- The 64-bit big-endian words of an octet string, `n` of them. -/
def words64 : Nat → List Byte → List Nat
  | 0, _ => []
  | n + 1, l => beNat (l.take 8) :: words64 n (l.drop 8)

/-- The compression of one 128-octet block into a hash value. -/
def shaBlock (v : Sha) (block : List Byte) : Sha :=
  let w := words64 16 block
  let r := shaRounds v (shaK1 ++ shaK2) (w ++ shaSchedule 64 w.reverse)
  { a := (v.a + r.a) % 2 ^ 64, b := (v.b + r.b) % 2 ^ 64, c := (v.c + r.c) % 2 ^ 64, d := (v.d + r.d) % 2 ^ 64,
    e := (v.e + r.e) % 2 ^ 64, f := (v.f + r.f) % 2 ^ 64, g := (v.g + r.g) % 2 ^ 64, h := (v.h + r.h) % 2 ^ 64 }

/-- `n` blocks of an octet string. -/
def shaBlocks : Nat → Sha → List Byte → Sha
  | 0, v, _ => v
  | n + 1, v, l => shaBlocks n (shaBlock v (l.take 128)) (l.drop 128)

/-- The padded message: the bit 1, zeros and the 128-bit length in bits. -/
def shaPad (l : List Byte) : List Byte :=
  l ++ 0x80 :: (zeros ((239 - l.length % 128) % 128) ++ beBytes 16 (8 * l.length))

/-- SHA-384. -/
def sha384 (l : List Byte) : List Byte :=
  let p := shaPad l
  let g := fun n => shaIv.getD n 0
  let v := shaBlocks (p.length / 128) { a := g 0, b := g 1, c := g 2, d := g 3, e := g 4, f := g 5, g := g 6, h := g 7 } p
  beBytes 8 v.a ++ beBytes 8 v.b ++ beBytes 8 v.c ++ beBytes 8 v.d ++ beBytes 8 v.e ++ beBytes 8 v.f

/-- HMAC-SHA-384 of a message under a key of at most 128 octets (R47, R52). -/
def hmac384 (k m : List Byte) : List Byte :=
  let kk := fit 128 k
  sha384 (kk.map (fun b => b ^^^ 0x5C) ++ sha384 (kk.map (fun b => b ^^^ 0x36) ++ m))

end Sys2Proof.Machine
end

