-- ==== Sys2Proof/Machine/Crook.lean ====
section
/-! DEFINITION. The Crook protocol and the dictionary's access rules: messages, sessions, immediate writes, transactions, events and the
journal (R38 to R76, R513, R515).  What a write does beyond its own value, and which rules a commit must keep, come from the chapters
through `Hooks`. -/

namespace Sys2Proof.Machine

/-! ### Status codes (R69) -/

namespace Status

def ok : Nat := 0x00
def range : Nat := 0x01
def access : Nat := 0x02
def noObject : Nat := 0x03
def locked : Nat := 0x04
def conflict : Nat := 0x05
def timeout : Nat := 0x06
def noTxn : Nat := 0x07
def txnOpen : Nat := 0x08
def full : Nat := 0x09
def busy : Nat := 0x0A
def version : Nat := 0x0B
def sequence : Nat := 0x0C
def length : Nat := 0x0D
def unsupported : Nat := 0x0E
def pinfold : Nat := 0x0F
def rolledBack : Nat := 0x10
def permission : Nat := 0x11
def notReady : Nat := 0x12

end Status

/-- A rule that a commit must keep (R64 step 1): whether it holds, and which staged subentries take part in it. -/
structure CommitRule where
  holds : Bool
  part : Nat → Bool

/-- What the chapters give the protocol: the effect of an immediate write (its status and the state after it; the value itself is stored by
the caller where the effect answers OK), the values of the objects that are computed when they are read, the rules of a commit (over the
state before and the state with the values written), its wait for epochs, and its effects at the commit point. -/
structure Hooks where
  write : Nat → Nat → List Byte → State → Nat × State
  numOf : State → Nat → Option Nat
  octOf : State → Nat → Option (List Byte)
  rules : State → State → List Nat → List CommitRule
  epochWait : State → List Staged → Bool
  applied : State → List Nat → State → State
  mailbox : Nat → Nat → State → State

/-! ### Values and descriptors -/

/-- The value of a numeric subentry as a reader sees it; WO subentries read 0 (R10). -/
def readNum (H : Hooks) (s : State) (k : Nat) : Nat := (H.numOf s k).getD (s.rd k)

/-- The value of a subentry as on the wire (R9, R11): subindex 0 is the count, WO reads zeros. -/
def wireValue (H : Hooks) (s : State) (k : Nat) : List Byte :=
  if keySub k = 0 then [BitVec.ofNat 8 (catCount (keyIdx k))]
  else match catFind k with
    | none => []
    | some r =>
      if r.acc = .wo then zeros r.size
      else if r.ty = .domain then (H.octOf s k).getD (s.rdo k)
      else leBytes r.size (readNum H s k)

/-- The TYPE code (R43). -/
def typeCode : ObjType → Nat
  | .bool => 1 | .u8 => 2 | .u16 => 3 | .u32 => 4 | .u64 => 5 | .i32 => 6 | .bits32 => 7 | .enum8 => 8 | .time64 => 9 | .addr64 => 10
  | .domain => 11

/-- The ACCESS code (R43). -/
def accessCode : Access → Nat
  | .const => 0 | .ro => 1 | .rw => 2 | .wo => 3 | .rwt => 4 | .rwl => 5

/-- An RWL subentry, or a key slot, is locked (R41, R77, R259, R360). -/
def State.lockedKey (s : State) (k : Nat) : Bool :=
  if keyIdx k = 0x1001 ∨ keyIdx k = 0x1002 then bit s.dict.keyLock (keySub k - 1)
  else if keyIdx k = 0x7110 then bit s.dict.progKeyLock (keySub k - 1)
  else if 0x5000 ≤ keyIdx k ∧ keyIdx k < 0x5020 then
    strBit (s.rdo K.GTP_LOCKED) ((keyIdx k - 0x5000) * 128 + keySub k - 1)
  else false

/-- The Pinfold flag of a subentry (R42); subindex 0 follows its object. -/
def pinfoldFlag (k : Nat) : Bool :=
  if keySub k = 0 then (catRange (keyIdx k)).any (fun r => r.hasIndex (keyIdx k) && r.pinfold)
  else ((catFind k).map (·.pinfold)).getD false

/-- The 32-byte descriptor of a subentry (R43). -/
def descriptor (s : State) (k : Nat) : List Byte :=
  match catFind k with
  | none =>
    [2, 0, BitVec.ofNat 8 (4 * b2n (pinfoldFlag k)), 0] ++ leBytes 2 1 ++ zeros 2 ++ leBytes 8 0 ++ leBytes 8 255 ++ leBytes 8 (catCount (keyIdx k))
  | some r =>
    let flags := b2n (r.persistent && accessOf r k != .const) + 2 * b2n (s.lockedKey k) + 4 * b2n r.pinfold
    let mx := if r.ty = .bits32 then r.mask else ofInt 64 r.max
    let df := if r.ty = .domain then 0 else if r.ty = .i32 then ofInt 64 (sint 32 (dfltNum k)) else dfltNum k
    [BitVec.ofNat 8 (typeCode r.ty), BitVec.ofNat 8 (accessCode (accessOf r k)), BitVec.ofNat 8 flags, 0]
      ++ leBytes 2 r.size ++ zeros 2 ++ leBytes 8 (ofInt 64 r.min) ++ leBytes 8 mx ++ leBytes 8 df

/-- A subentry is defined: subindex 0 of a defined index, or a row's subentry (R38, R39). -/
def defined (k : Nat) : Bool := if keySub k = 0 then catCount (keyIdx k) != 0 else (catFind k).isSome

/-! ### Messages (R45, R47) -/

/-- The octets of a message without its tag. -/
def msgBytes (op : Nat) (m : CrookMsg) : List Byte :=
  leBytes 1 m.verMajor ++ leBytes 1 m.verMinor ++ leBytes 1 m.session ++ leBytes 1 op ++ leBytes 4 m.sequence ++ leBytes 2 m.length
    ++ leBytes 2 m.status ++ leBytes 1 m.flags ++ leBytes 3 m.reserved ++ m.body

/-- The message's lengths are in order (R45): its LENGTH is the body's, at most 1,408, and the tag is whole. -/
def lengthOk (m : CrookMsg) : Bool := m.length == m.body.length && m.body.length ≤ 1408 && m.tag.length == 48

/-- The session in slot `n`, 1 to 8. -/
def State.session (s : State) (n : Nat) : Session := s.crf.sessions.getD (n - 1) {}

/-- Set a session. -/
def State.putSession (s : State) (n : Nat) (x : Session) : State :=
  { s with crf := { s.crf with sessions := s.crf.sessions.set (n - 1) x } }

/-- The key of a slot, 1 to 8; empty where none is set (R53). -/
def State.keySlot (s : State) (n : Nat) : List Byte := Sparse.get (fun _ => []) s.mram.keySlots n

/-- The tag of a session's messages: zeros in an unauthenticated session (R52, R53). -/
def sessionTag (x : Session) (b : List Byte) : List Byte := if x.slot = 0xFF then zeros 48 else hmac384 x.key b

/-- A message came the way on which the session was opened (R54): its transport and source, and on UDP the device's port number (R77). -/
def Session.heardOn (x : Session) (tr : Transport) (src : Nat) (m : CrookMsg) : Bool :=
  x.transport == tr && x.source == src && (match tr with
    | .udp _ => x.port == m.dest
    | _ => true)

/-- The mailbox of a port. -/
def State.mailbox (s : State) (p : Nat) : Mailbox := Sparse.get (fun _ => {}) s.crf.mailboxes p

/-- Set the mailbox of a port. -/
def State.putMailbox (s : State) (p : Nat) (x : Mailbox) : State :=
  { s with crf := { s.crf with mailboxes := Sparse.set (fun _ => {}) s.crf.mailboxes p x } }

/-- Send a reply over a transport (R44, R46): a mailbox takes it in its response buffer and frees its request buffer.  DESIGN CHOICE (log 110): the reply
of a ROLLBACK that follows the ROLLED_BACK of its COMMIT waits until the response buffer is released. -/
def crookSend (H : Hooks) (s : State) (tr : Transport) (dst : Nat) (b : List Byte) : State :=
  match tr with
  | .mbx p =>
    let x := s.mailbox p
    if bit x.ctrl 2 then s.putMailbox p { x with ctrl := putBit x.ctrl 1 false, queue := x.queue ++ [b] } else
    H.mailbox p 0 ((s.putMailbox p { x with rsp := b, rspLen := b.length, ctrl := putBit (putBit x.ctrl 1 false) 2 true }).emit (.crook tr dst b))
  | _ => s.emit (.crook tr dst b)

/-- The message is dropped without a reply: a mailbox's request buffer is freed. -/
def crookDrop (s : State) (tr : Transport) : State :=
  match tr with
  | .mbx p => s.putMailbox p { s.mailbox p with ctrl := putBit (s.mailbox p).ctrl 1 false }
  | _ => s

/-- The reply to a request (R47). -/
def replyMsg (x : Session) (n op seq status : Nat) (body : List Byte) : List Byte :=
  let b := msgBytes (op % 128 + 128)
    { verMajor := x.major, verMinor := x.minor, session := n, sequence := seq, length := body.length, status := status, flags := 0,
      reserved := 0, body := body, tag := [] }
  b ++ sessionTag x b

/-! ### Sessions (R51 to R57) -/

/-- The permission word of the slot that opened a session (R51). -/
def State.perm (s : State) (n : Nat) : Nat :=
  let x := s.session n
  if x.slot = 0xFF then 0 else s.rd (K.CRF_KEY_PERM (x.slot - 1))

/-- The permission bit of a transport (R51). -/
def transportBit : Transport → Nat
  | .udp _ => 4
  | .i3c => 5
  | .mbx _ => 6

/-- The transport number of CRF_TRANSPORT_ENABLE and of the Tally event CRF_CROOK_RX (R44, R440). -/
def transportNum (t : Transport) : Nat := transportBit t - 4

/-- Close a session (R56): its transaction is rolled back and its subscriptions end. -/
def State.closeSession (s : State) (n : Nat) : State := s.putSession n {}

/-- The sessions that are open. -/
def State.openSessions (s : State) : List Nat := (List.range 9).filter (fun n => n != 0 && (s.session n).opened)

/-- Close the sessions that satisfy a condition. -/
def State.closeWhere (s : State) (p : Session → Bool) : State :=
  forEach (s.openSessions.filter (fun n => p (s.session n))) State.closeSession s

/-- A message that is discarded under R54.  The 64th that names one open session within 1 s closes it and records CRF_AUTH. -/
def State.badMessage (s : State) (n : Nat) : State :=
  let s1 := s.bump K.CRF_AUTH_FAILS
  if !(1 ≤ n && n ≤ 8 && (s.session n).opened) then s1 else
  let x := s1.session n
  let times := s.clk.dtc :: x.badTimes.filter (fun t => s.clk.dtc < t + 10 ^ 9)
  if 64 ≤ times.length then ((s1.putSession n { x with badTimes := [] }).closeSession n).raiseD F.CRF_AUTH (elemSub 11) n times.length 0
  else s1.putSession n { x with badTimes := times }

/-- The device's minor of a major (R57). -/
def deviceMinor (major : Nat) : Nat := if major = 1 then 4 else if major = 2 then 2 else if major = 3 then 1 else 0

/-- The negotiated version, of the client's supported-majors word, highest major and minor (R57). -/
def negotiate (majors cMajor cMinor : Nat) : Option (Nat × Nat) :=
  match [3, 2, 1].find? (fun m => bit majors m) with
  | none => none
  | some m => some (m, min (if m = cMajor then cMinor else 0) (deviceMinor m))

/-- All eight key slots are empty (R53). -/
def State.noKeys (s : State) : Bool := (List.range 8).all (fun i => (s.keySlot (i + 1)).isEmpty)

/-- The octets "crook-session" (R52). -/
def sessionLabel : List Byte := [0x63, 0x72, 0x6F, 0x6F, 0x6B, 0x2D, 0x73, 0x65, 0x73, 0x73, 0x69, 0x6F, 0x6E]

/-- A reply to a HELLO, tagged with the slot key (R52); its SESSION is the session opened.  DESIGN CHOICE (log 110): a reply that opens none carries
SESSION 0 and version 3.1. -/
def helloReply (H : Hooks) (s : State) (tr : Transport) (src : Nat) (m : CrookMsg) (slotKey : List Byte) (unauth : Bool)
    (status n major minor : Nat) (body : List Byte) : State :=
  let b := msgBytes 0x81
    { verMajor := major, verMinor := minor, session := n, sequence := m.sequence, length := body.length, status := status, flags := 0,
      reserved := 0, body := body, tag := [] }
  crookSend H s tr src (b ++ if unauth then zeros 48 else hmac384 slotKey b)

/-- HELLO (R52, R53, R56, R57). -/
def crookHello (H : Hooks) (s : State) (tr : Transport) (src : Nat) (m : CrookMsg) : State :=
  let slot := field m.body 0 1
  let unauth := slot == 0xFF
  let key := if unauth then [] else s.keySlot slot
  let tagOk := if unauth then
      s.noKeys && transportBit tr != 4 && m.tag == zeros 48
    else 1 ≤ slot && slot ≤ 8 && !key.isEmpty && m.tag == hmac384 key (msgBytes 1 m)
  if !tagOk then crookDrop (s.badMessage 0) tr else
  let s := s.countN 0xB001 (transportNum tr) 1
  let fail := fun st => helloReply H s tr src m key unauth st 0 3 1 []
  if m.body.length ≠ 40 then fail Status.length
  else if m.reserved ≠ 0 ∨ m.flags ≠ 0 ∨ m.session ≠ 0 ∨ field m.body 2 2 ≠ 0 then fail Status.unsupported
  else if !unauth && !bit (s.rd (K.CRF_KEY_PERM (slot - 1))) (transportBit tr) then fail Status.permission
  else match negotiate (field m.body 4 4) m.verMajor m.verMinor with
    | none => fail Status.version
    | some (major, minor) =>
      let want := field m.body 1 1
      let free := fun n => 1 ≤ n && n ≤ 8 && !(s.session n).opened
      match if free want then some want else [1, 2, 3, 4, 5, 6, 7, 8].find? free with
      | none => fail Status.busy
      | some n =>
        let nonce := fit 32 (Config.nonce s.fresh)
        let skey := hmac384 key (sessionLabel ++ slice m.body 8 32 ++ nonce ++ [BitVec.ofNat 8 n])
        let x : Session := { opened := true, slot := slot, major := major, minor := minor, transport := tr, source := src, key := skey,
                             lastMsg := s.clk.dtc, port := m.dest }
        let body := [BitVec.ofNat 8 n] ++ zeros 3 ++ nonce ++ leBytes 8 s.clk.dtc
        helloReply H ((s.putSession n x).tick) tr src m key unauth Status.ok n major minor body

/-! ### Access (R41, R42, R51, R515) -/

/-- The request may come during boot only to these objects (R515): keys, firmware update, HRD_FAULT_ACK and HRD_FAULT_INJECT. -/
def bootWritable (k : Nat) : Bool :=
  (0x1001 ≤ keyIdx k && keyIdx k ≤ 0x1003) || keyIdx k == 0x1050 || k == K.HRD_FAULT_ACK || k == K.HRD_FAULT_INJECT

/-- Before the replay commit point of a boot (R515). -/
def State.booting (s : State) : Bool :=
  decide (s.boot.step = .phaseA ∨ s.boot.step = .phaseB)

/-- Whether and why a session may not read a subentry. -/
def readGate (s : State) (n k : Nat) : Nat :=
  if !defined k then Status.noObject
  else if (s.session n).slot = 0xFF then (if keyIdx k < 0x1000 then Status.ok else Status.permission)
  else if !bit (s.perm n) 0 then Status.permission
  else if (s.inPinfold || s.boot.step == .uartRecovery) && !pinfoldFlag k then Status.pinfold
  else if s.booting && !pinfoldFlag k then Status.notReady
  else Status.ok

/-- The permission bit that a write to a subentry needs (R51, R113, R360).  DESIGN CHOICE (log 144): CRF_KEY_LOCK asks for bit 2, as the keys do. -/
def writeBit (k : Nat) : Nat :=
  if (0x1001 ≤ keyIdx k ∧ keyIdx k ≤ 0x1003) ∨ keyIdx k = 0x7110 then 2 else if keyIdx k = 0x1050 then 3 else 1

/-- Whether and why a session may not write a subentry, in the order of log 110 where several reasons hold (DESIGN CHOICE); `staged` for a write with the T flag (R41, R42, R51, R53, R62, R515). -/
def writeGate (s : State) (n k : Nat) (staged : Bool) : Nat :=
  if !defined k then Status.noObject
  else if (s.session n).slot = 0xFF ∧ !(keyIdx k = 0x1001 ∨ keyIdx k = 0x1002) then Status.permission
  else if (s.session n).slot ≠ 0xFF ∧ !bit (s.perm n) (writeBit k) then Status.permission
  else if (s.inPinfold || s.boot.step == .uartRecovery) && !pinfoldFlag k then Status.pinfold
  else if s.booting && !bootWritable k then Status.notReady
  else match catFind k with
    | none => Status.access
    | some r =>
      match accessOf r k with
      | .const | .ro => Status.access
      | .rwt => if staged then Status.ok else Status.access
      | .rw => Status.ok
      | .wo | .rwl => if s.lockedKey k then Status.locked else Status.ok

/-- The ranges that an object's table states with a hole, or for a field or a subentry of its own (R62): injection period, slot, local FEIDs,
ports or 0xFF, window size, sampler kind, carve-out sizes (R416), window and count of a fault source. -/
def inRange (k v : Nat) : Bool :=
  let idx := keyIdx k
  let sub := keySub k
  let portOrNone := v < 64 || v == 0xFF
  if 0x2000 ≤ idx ∧ idx < 0x2100 then idx % 4 != 2 || sub != 5 || v == 0 || 10 ≤ v
  else if 0x2400 ≤ idx ∧ idx < 0x2500 then
    if idx % 4 = 0 then sub != 6 || v < 16 || v == 0xFF
    else if idx % 4 = 2 then (if sub ≤ 16 then v == 0 || 3 ≤ v else portOrNone) else true
  else if 0x3010 ≤ idx ∧ idx < 0x3018 then sub != 1 || bits v 29 27 < 5
  else if 0x4000 ≤ idx ∧ idx < 0x4400 then
    if sub = 1 then portOrNone else if sub = 3 then v == 0 || 2 ^ 28 ≤ v else true
  else if k = K.MIG_RB_PORT ∨ k = K.MIG_HV_PORT then portOrNone
  else if idx = 0x8010 then
    if sub = 1 then v == 0 || 2 ^ 25 ≤ v else if sub = 2 then v == 0 || 2 ^ 28 ≤ v else true
  else if 0xA100 ≤ idx ∧ idx < 0xA200 then 1 ≤ bits v 23 8 && 1 ≤ bits v 7 0
  else true

/-- The value as a number fits its subentry (R6, R9, R62): Booleans, reserved bits, least and greatest value. -/
def numFits (r : ObjRow) (k v : Nat) : Bool :=
  let i : Int := if r.ty = .i32 then sint 32 v else v
  decide (r.min ≤ i) && (r.ty == .bits32 || decide (i ≤ r.max)) && v.land r.mask == v && inRange k v

/-- Reserved fields and encodings of the DOMAIN entries, which R62 checks when a value is written or staged (R227, R251). -/
def octFits (k : Nat) (v : List Byte) : Bool :=
  if 0x4400 ≤ keyIdx k ∧ keyIdx k < 0x4800 then
    field v 0 2 < 1024 && field v 2 1 ≤ 6 && field v 3 1 == 0 && field v 6 2 == 0 && field v 12 4 < 2 ^ 24
  else if 0x5000 ≤ keyIdx k ∧ keyIdx k < 0x5020 then
    field v 0 1 < 32 && field v 1 1 < 64 && field v 2 1 ≤ 2 && field v 3 1 < 2 && field v 6 1 < 64 && field v 7 1 < 128
      && field v 8 2 < 1024 && field v 10 2 < 1024 && field v 13 3 == 0 && field v 16 8 < 2 ^ 40 && field v 24 8 < 2 ^ 40
  else true

/-- The status of the checks of a value alone (R60, R62): its length, then its encodings and range. -/
def valueCheck (k : Nat) (v : List Byte) : Nat :=
  match catFind k with
  | none => Status.noObject
  | some r =>
    if r.ty = .domain then
      if (if k = K.MIG_RB_VFS then v.length ≤ 1024 else v.length = r.size) then (if octFits k v then Status.ok else Status.range)
      else Status.length
    else if v.length ≠ r.size then Status.length
    else if numFits r k (leNat v) then Status.ok else Status.range

/-- Key permissions are kept in MRAM too (R72); the object itself follows its default and the journal (R75). -/
def State.keepPerm (s : State) (k v : Nat) : State :=
  if keyIdx k = 0x1002 then { s with mram := { s.mram with keyPerms := Sparse.insert (keySub k) v s.mram.keyPerms } } else s

/-- Store a value as on the wire. -/
def storeWire (s : State) (k : Nat) (v : List Byte) : State :=
  match catFind k with
  | none => s
  | some r => if r.acc = .wo then s else if r.ty = .domain then s.wro k v else (s.wr k (leNat v)).keepPerm k (leNat v)

/-! ### The journal (R71 to R74) -/

/-- The writes of a list whose subentries are persistent. -/
def persistentOf (l : List (Nat × List Byte)) : List (Nat × List Byte) :=
  l.filter (fun e => ((catFind e.1).map (·.persistent)).getD false)

/-- The octets of a journal record. -/
def recBytes (l : List (Nat × List Byte)) : Nat := Config.journalBytes l.length (l.foldl (fun n e => n + e.2.length) 0)

/-- The level of the journal limit now: 4 MiB/s with a burst of 1 MiB, in octets (R71). -/
def State.journalNow (s : State) : Nat :=
  min 1048576 (s.crf.journalLevel + (s.clk.dtc - s.crf.journalTime) * 4194304 / 10 ^ 9)

/-- The persistent values that differ from their defaults, as on the wire (R73). -/
def State.persistentValues (s : State) : List (Nat × List Byte) :=
  persistentOf (s.dict.nums.map (fun e => (e.1, leBytes (widthOf e.1 / 8) e.2)) ++ s.dict.octs)

/-- The octets of a snapshot (R73): for each index away from its defaults 8 octets and the values of its persistent subentries. -/
def snapshotBytes (l : List (Nat × List Byte)) : Nat :=
  ((l.map (fun e => keyIdx e.1)).eraseDups).foldl (fun n i =>
    n + 8 + ((catRange i).filter (fun r => r.hasIndex i && r.persistent)).foldl (fun n r => n + r.size * r.nsub) 0) 0

/-- The octets used in the journal ring, CRF_JOURNAL_FILL. -/
def State.journalFill (s : State) : Nat :=
  snapshotBytes s.mram.snapshot + s.mram.journal.foldl (fun n r => n + r.bytes) 0

/-- The size of the journal ring: 7.5 MiB (R72). -/
def journalSize : Nat := 7864320

/-- JOURNAL_RECORD and JOURNAL_SNAPSHOT (R71, R73): the record is written, marked applied, after a fresh snapshot of the values `before` it
where the ring lacks space; each completed turn advances the pass count. -/
def State.journalWrite (s before : State) (l : List (Nat × List Byte)) : State :=
  let p := persistentOf l
  if p.isEmpty ∨ before.rd K.CRF_PERSIST_ENABLE ≠ 1 ∨ s.boot.mramBad then s else
  let n := recBytes p
  let r : JournalRec := { writes := p, applied := true, crcOk := true, bytes := n }
  let fits := decide (s.journalFill + n ≤ journalSize)
  let snap := before.persistentValues
  let written := if fits then n else snapshotBytes snap + n
  let pos := s.mram.journalPos + written
  { s with
    mram := { s.mram with
      journal := if fits then s.mram.journal ++ [r] else [r]
      snapshot := if fits then s.mram.snapshot else snap
      passes := s.mram.passes + pos / journalSize
      journalPos := pos % journalSize }
    crf := { s.crf with
      journalLevel := s.journalNow - n
      journalTime := s.clk.dtc } }

/-! ### Immediate writes (R50, R60) -/

/-- The status of every check of an immediate write before the chapter's own: access, value, expected version (R49, R60). -/
def writeChecks (s : State) (n k expect : Nat) (v : List Byte) : Nat :=
  let g := writeGate s n k false
  if g ≠ Status.ok then g
  else
    let c := valueCheck k v
    if c ≠ Status.ok then c
    else if expect ≠ 0xFFFFFFFF ∧ expect ≠ s.version k then Status.conflict
    else Status.ok

/-- The effect of a write that passed those checks: the chapter's effect, the value, the version. -/
def writeEffect (H : Hooks) (s : State) (n k : Nat) (v : List Byte) : Nat × State :=
  match H.write n k v s with
  | (st, s1) => if st = Status.ok then (Status.ok, (storeWire s1 k v).bumpVersion k) else (st, s)

/-- An immediate write of one subentry (R60). -/
def writeNow (H : Hooks) (s : State) (n k expect : Nat) (v : List Byte) : Nat × State :=
  let c := writeChecks s n k expect v
  if c ≠ Status.ok then (c, s) else
  match writeEffect H s n k v with
  | (st, s1) => if st = Status.ok then (st, s1.journalWrite s [(k, v)]) else (st, s)

/-- A write to an action object that a command states by itself: the session that makes it must be open; the status is answered. -/
def actionWrite (H : Hooks) (n k : Nat) (v : List Byte) (s : State) : State :=
  if !(1 ≤ n && n ≤ 8 && (s.session n).opened) then s else
  match writeNow H s n k 0xFFFFFFFF v with
  | (st, s1) => s1.emit (.answer n st)

/-! ### Request handlers: each answers a status, a body and a state -/

/-- A READ record (R48). -/
def readRecord (s : State) (k : Nat) (v : List Byte) : List Byte :=
  leBytes 2 (keyIdx k) ++ leBytes 1 (keySub k)
    ++ [BitVec.ofNat 8 (if keySub k = 0 then 2 else ((catFind k).map (fun r => typeCode r.ty)).getD 0)]
    ++ leBytes 4 (s.version k) ++ leBytes 2 v.length ++ zeros 2 ++ v

/-- The WRITE reply body (R48). -/
def writeBody (k v : Nat) : List Byte := leBytes 2 (keyIdx k) ++ leBytes 1 (keySub k) ++ [0] ++ leBytes 4 v

/-- READ (R60, R513). -/
def doRead (H : Hooks) (s : State) (n : Nat) (m : CrookMsg) : Nat × List Byte × State :=
  if m.body.length ≠ 4 then (Status.length, [], s)
  else if field m.body 3 1 ≠ 0 then (Status.unsupported, [], s)
  else
    let k := key (field m.body 0 2) (field m.body 2 1)
    let g := readGate s n k
    if g ≠ Status.ok then (g, [], s)
    else
      let staged := if bit m.flags 0 then ((s.session n).txn.map (fun t => t.staged.find? (fun w => w.key == k))).getD none else none
      let v := if bit m.flags 1 then descriptor s k else match staged with
        | some w => w.value
        | none => wireValue H s k
      if 1396 < v.length then (Status.length, [], s) else (Status.ok, readRecord s k v, s)

/-- Stage one write (R62, R63): the status and the transaction with it.  The persistent part of a transaction is at most 1 MiB. -/
def stage (s : State) (n : Nat) (t : Txn) (k expect : Nat) (v : List Byte) : Nat × Txn :=
  let g := writeGate s n k true
  if g ≠ Status.ok then (g, t) else
  let c := valueCheck k v
  if c ≠ Status.ok then (c, t) else
  let w : Staged := { key := k, value := v, expect := if expect = 0xFFFFFFFF then s.version k else expect }
  if t.staged.any (fun x => x.key == k) then
    (Status.ok, { t with staged := t.staged.map (fun x => if x.key = k then w else x) })
  else if 4096 ≤ t.staged.length then (Status.full, t)
  else
    let p := persistentOf ((t.staged ++ [w]).map (fun x => (x.key, x.value)))
    if !(persistentOf [(k, v)]).isEmpty ∧ 1048576 < recBytes p then (Status.full, t)
    else (Status.ok, { t with staged := t.staged ++ [w] })

/-- The ordinal of a staged subentry, from 1. -/
def ordinalOf (t : Txn) (k : Nat) : Nat := ((findAt (fun x => x.key == k) t.staged 1).map (·.1)).getD 0

/-- Set the transaction of a session. -/
def State.putTxn (s : State) (n : Nat) (t : Option Txn) : State := s.putSession n { s.session n with txn := t }

/-- WRITE (R60, R62).  DESIGN CHOICE (log 145): NO_TXN and what is wrong with the body come before NO_OBJECT and PERMISSION (R69). -/
def doWrite (H : Hooks) (s : State) (n : Nat) (m : CrookMsg) : Nat × List Byte × State :=
  let len := field m.body 8 2
  if m.body.length < 12 ∨ m.body.length ≠ 12 + len then (Status.length, [], s)
  else if field m.body 3 1 ≠ 0 ∨ field m.body 10 2 ≠ 0 then (Status.unsupported, [], s)
  else
    let k := key (field m.body 0 2) (field m.body 2 1)
    let expect := field m.body 4 4
    let v := m.body.drop 12
    if bit m.flags 0 then
      match (s.session n).txn with
      | none => (Status.noTxn, [], s)
      | some t =>
        match stage s n t k expect v with
        | (st, t1) =>
          if st = Status.ok then (st, writeBody k (ordinalOf t1 k), s.putTxn n (some t1))
          else (st, writeBody k 0xFFFFFFFF, s)
    else
      match writeNow H s n k expect v with
      | (st, s1) => if st = Status.ok then (st, writeBody k (s1.version k), s1) else (st, writeBody k 0xFFFFFFFF, s)

/-- As many whole records as fit within `room` octets (R50). -/
def fitRecords (H : Hooks) (s : State) (room : Nat) : List Nat → List Byte
  | [] => []
  | k :: r =>
    let b := readRecord s k (wireValue H s k)
    if b.length ≤ room then b ++ fitRecords H s (room - b.length) r else []

/-- The subentries of a block request. -/
def blockKeys (idx first count : Nat) : List Nat := (List.range count).map (fun i => key idx (first + i))

/-- BLOCK_READ (R50). -/
def doBlockRead (H : Hooks) (s : State) (n : Nat) (m : CrookMsg) : Nat × List Byte × State :=
  if m.body.length ≠ 10 then (Status.length, [], s) else
  let idx := field m.body 0 2
  let first := field m.body 2 1
  let count := field m.body 3 1
  let off := field m.body 4 4
  let room := min (field m.body 8 2) 1408
  let k := key idx first
  if !defined k then (Status.noObject, [], s) else
  let dom := ((catFind k).map (fun r => r.ty == .domain)).getD false
  if (if dom then count ≠ 1 else count = 0 ∨ off ≠ 0) then (Status.range, [], s)
  else if catCount idx < first + count - 1 then (Status.noObject, [], s)
  else
    match ((blockKeys idx first count).map (readGate s n)).find? (fun g => g != Status.ok) with
    | some g => (g, [], s)
    | none =>
      if dom then
        let v := wireValue H s k
        if v.length < off then (Status.range, [], s)
        else if room < 12 ∨ (room = 12 ∧ off < v.length) then (Status.length, [], s)
        else (Status.ok, readRecord s k (slice v off (room - 12)), s)
      else
        let b := fitRecords H s room (blockKeys idx first count)
        if b.isEmpty then (Status.length, [], s) else (Status.ok, b, s)

/-- The values of a block write of numeric subentries, or none where the data does not divide among them. -/
def splitValues : List Nat → List Byte → Option (List (Nat × List Byte))
  | [], [] => some []
  | [], _ :: _ => none
  | k :: r, d =>
    let n := ((catFind k).map (·.size)).getD 0
    if d.length < n then none else (splitValues r (d.drop n)).map (fun l => (k, d.take n) :: l)

/-- Check and apply writes in order, each as R60 states over the state `s0` before the request; the first that fails stops the walk with its key and
status (R50). -/
def writeAll (H : Hooks) (s0 : State) (n : Nat) : List (Nat × List Byte) → State → State × Option (Nat × Nat)
  | [], s => (s, none)
  | (k, v) :: r, s =>
    let c := writeChecks s0 n k 0xFFFFFFFF v
    if c ≠ Status.ok then (s, some (k, c)) else
    match writeEffect H s n k v with
    | (st, s1) => if st = Status.ok then writeAll H s0 n r s1 else (s, some (k, st))

/-- Stage writes in order, or answer the first that fails (R50). -/
def stageAll (s : State) (n : Nat) (expect : Nat) : List (Nat × List Byte) → Txn → Txn × Option (Nat × Nat)
  | [], t => (t, none)
  | (k, v) :: r, t => match stage s n t k expect v with
    | (st, t1) => if st = Status.ok then stageAll s n expect r t1 else (t, some (k, st))

/-- The chunk of a DOMAIN value (R50): in ascending order without gaps; an offset of 0 begins the value again. -/
def takeChunk (x : Session) (k off : Nat) (staged : Bool) (d : List Byte) : Option Partial :=
  if off = 0 then some { key := k, data := d, staged := staged }
  else match x.part with
    | some p => if p.key = k ∧ p.staged = staged ∧ p.data.length = off then some { p with data := p.data ++ d } else none
    | none => none

/-- BLOCK_WRITE (R50).  The request carries no expected version: none is checked (R48, R49). -/
def doBlockWrite (H : Hooks) (s : State) (n : Nat) (m : CrookMsg) : Nat × List Byte × State :=
  if m.body.length < 12 then (Status.length, [], s)
  else if field m.body 8 1 / 2 ≠ 0 ∨ field m.body 9 3 ≠ 0 then (Status.unsupported, [], s) else
  let idx := field m.body 0 2
  let first := field m.body 2 1
  let count := field m.body 3 1
  let off := field m.body 4 4
  let last := bit (field m.body 8 1) 0
  let d := m.body.drop 12
  let k := key idx first
  let staged := bit m.flags 0
  if !defined k then (Status.noObject, [], s) else
  let dom := ((catFind k).map (fun r => r.ty == .domain)).getD false
  if (if dom then count ≠ 1 else count = 0 ∨ off ≠ 0) then (Status.range, [], s)
  else if catCount idx < first + count - 1 then (Status.noObject, [], s)
  else if staged ∧ (s.session n).txn.isNone then (Status.noTxn, [], s)
  else
    let t := (s.session n).txn.getD { number := 0, staged := [], lastMsg := 0 }
    if dom then
      if writeGate s n k staged ≠ Status.ok then (writeGate s n k staged, writeBody k 0xFFFFFFFF, s) else
      match takeChunk (s.session n) k off staged d with
      | none => (Status.range, writeBody k 0xFFFFFFFF, s.putSession n { s.session n with part := none })
      | some p =>
        if !last then (Status.ok, writeBody k 0xFFFFFFFF, s.putSession n { s.session n with part := some p }) else
        let s0 := s.putSession n { s.session n with part := none }
        if staged then
          match stage s0 n t k 0xFFFFFFFF p.data with
          | (st, t1) => if st = Status.ok then (st, writeBody k (ordinalOf t1 k), s0.putTxn n (some t1)) else (st, writeBody k 0xFFFFFFFF, s0)
        else
          match writeNow H s0 n k 0xFFFFFFFF p.data with
          | (st, s1) => if st = Status.ok then (st, writeBody k (s1.version k), s1) else (st, writeBody k 0xFFFFFFFF, s0)
    else
      match splitValues (blockKeys idx first count) d with
      | none => (Status.length, [], s)
      | some l =>
        let lastKey := key idx (first + count - 1)
        if staged then
          match stageAll s n 0xFFFFFFFF l t with
          | (t1, none) => (Status.ok, writeBody lastKey (ordinalOf t1 lastKey), s.putTxn n (some t1))
          | (_, some (bad, st)) => (st, writeBody bad 0xFFFFFFFF, s)
        else
          match writeAll H s n l s with
          | (s1, none) => (Status.ok, writeBody lastKey (s1.version lastKey), s1.journalWrite s l)
          | (_, some (bad, st)) => (st, writeBody bad 0xFFFFFFFF, s)

/-- BEGIN (R61, R515). -/
def doBegin (s : State) (n : Nat) (m : CrookMsg) : Nat × List Byte × State :=
  if !m.body.isEmpty then (Status.length, [], s)
  else if (s.session n).slot = 0xFF then (Status.permission, [], s)
  else if s.booting then (Status.notReady, [], s)
  else if (s.session n).txn.isSome then (Status.txnOpen, [], s)
  else
    let num := s.crf.txnCount + 1
    let s1 : State := { s with crf := { s.crf with txnCount := num } }
    (Status.ok, leBytes 4 num, s1.putTxn n (some { number := num, staged := [], lastMsg := s.clk.dtc }))

/-- The COMMIT reply body (R48). -/
def commitBody (tick count ordinal k : Nat) : List Byte :=
  leBytes 8 tick ++ leBytes 2 count ++ leBytes 2 ordinal ++ leBytes 2 (keyIdx k) ++ leBytes 1 (keySub k) ++ [0]

/-- Write the staged values: the state with them, or the first staged write that its chapter refuses. -/
def applyStaged (H : Hooks) (n : Nat) : List Staged → State → Except Nat State
  | [], s => .ok s
  | w :: r, s =>
    if s.lockedKey w.key then (if w.expect = s.version w.key then .error w.key else applyStaged H n r s) else
    let isRwt := ((catFind w.key).map (fun x => x.acc == .rwt)).getD false
    match if isRwt then (Status.ok, s) else H.write n w.key w.value s with
    | (st, s1) => if st = Status.ok then applyStaged H n r ((storeWire s1 w.key w.value).bumpVersion w.key) else .error w.key

/-- Validate a transaction (R64 step 1): the key of the first staged write of a broken rule, or the state with the values written. -/
def validate (H : Hooks) (s : State) (n : Nat) (t : Txn) : Except Nat State :=
  match applyStaged H n t.staged s with
  | .error k => .error k
  | .ok s1 =>
    let keys := t.staged.map (·.key)
    match (H.rules s s1 keys).find? (fun r => !r.holds) with
    | none => .ok s1
    | some r => .error ((keys.find? r.part).getD (keys.headD 0))

/-- The first staged write that the Pinfold state bars (R42). -/
def pinfoldBar (s : State) (t : Txn) : Option Nat :=
  if s.inPinfold then (t.staged.find? (fun w => !pinfoldFlag w.key)).map (·.key) else none

/-- COMMIT (R64, R66): validated now; without the V flag it then waits for its boundary.  DESIGN CHOICE (log 144): the write permission of a staged
subentry is that of its staging; COMMIT asks for none again. -/
def doCommit (H : Hooks) (s : State) (n : Nat) (m : CrookMsg) (req : List Byte) : Option (Nat × List Byte) × State :=
  if !m.body.isEmpty then (some (Status.length, commitBody 0 0 0 0), s) else
  match (s.session n).txn with
  | none => (some (Status.noTxn, commitBody 0 0 0 0), s)
  | some t =>
    match pinfoldBar s t with
    | some k => (some (Status.pinfold, commitBody 0 0 (ordinalOf t k) k), s)
    | none =>
    match validate H s n t with
    | .error k => (some (Status.range, commitBody 0 0 (ordinalOf t k) k), s)
    | .ok _ =>
      if bit m.flags 2 then (some (Status.ok, commitBody 0 0 0 0), s)
      else
        let w : WaitCommit := { sequence := m.sequence, arrived := s.clk.dtc, request := req, epochCounted := false,
                                journalCounted := false, rollback := none }
        (none, s.putSession n { s.session n with waiting := some w })

/-- SUBSCRIBE (R70).  DESIGN CHOICE (log 110): it counts as a read, for an unauthenticated session too (R53). -/
def doSubscribe (H : Hooks) (s : State) (n : Nat) (m : CrookMsg) : Nat × List Byte × State :=
  if m.body.length ≠ 12 then (Status.length, [], s)
  else if field m.body 3 1 ≠ 0 ∨ field m.body 9 3 ≠ 0 then (Status.unsupported, [], s) else
  let idx := field m.body 0 2
  let sub := field m.body 2 1
  let iv := field m.body 4 4
  let x := s.session n
  let old := x.subs.find? (fun q => q.idx == idx && q.sub == sub)
  if field m.body 8 1 ≠ 0 then
    match old with
    | none => (Status.range, [], s)
    | some q => (Status.ok, leBytes 1 q.num, s.putSession n { x with subs := x.subs.filter (fun y => y.num != q.num) })
  else if iv = 0 ∨ 1000000 < iv then (Status.range, [], s)
  else
    let g := readGate s n (key idx (if sub = 0xFF then 0 else sub))
    if g ≠ Status.ok then (g, [], s) else
    match old with
    | some q =>
      (Status.ok, leBytes 1 q.num,
        s.putSession n { x with subs := x.subs.map (fun y => if y.num = q.num then { y with interval := iv } else y) })
    | none =>
      match (List.range 33).find? (fun i => i != 0 && !(x.subs.any (fun y => y.num == i))) with
      | none => (Status.full, [], s)
      | some num =>
        let subsOf := if sub = 0xFF then (List.range (catCount idx)).map (· + 1) else [sub]
        let sent := subsOf.map (fun j =>
          { sub := j, version := s.version (key idx j), value := wireValue H s (key idx j), tick := none : SubSent })
        (Status.ok, leBytes 1 num,
          s.putSession n { x with subs := x.subs ++ [{ num := num, idx := idx, sub := sub, interval := iv, sent := sent }] })

/-! ### The request path (R54, R55, R58, R69) -/

/-- The flags that an opcode uses; any other returns UNSUPPORTED (R58, R69).  DESIGN CHOICE (log 110): majors 1 and 2 have the opcodes and flags of
major 3, since the manual names none that they lack. -/
def opFlags (op : Nat) : Nat :=
  match op with
  | 0x02 => 3
  | 0x03 => 1
  | 0x05 => 1
  | 0x07 => 4
  | 0x08 => 8
  | _ => 0

/-- Answer a request of session `n` and keep the reply for a repeat (R55). -/
def answer (H : Hooks) (s : State) (n op seq status : Nat) (body req : List Byte) : State :=
  let x := s.session n
  let b := replyMsg x n op seq status body
  crookSend H (s.putSession n { x with lastSeq := seq, lastReq := req, lastReply := b }) x.transport x.source b

/-- Answer without using up the sequence number (R55). -/
def answerOnly (H : Hooks) (s : State) (n op seq status : Nat) (body : List Byte) : State :=
  let x := s.session n
  crookSend H s x.transport x.source (replyMsg x n op seq status body)

/-- End the waiting COMMIT of a session with a status: its transaction closes and its reply is sent and kept (R55, R64, R65, R67). -/
def endCommit (H : Hooks) (s : State) (n status : Nat) (body : List Byte) : State :=
  match (s.session n).waiting with
  | none => s
  | some w => answer H (s.putSession n { s.session n with waiting := none, txn := none }) n 0x07 w.sequence status body w.request

/-- ROLLBACK (R56, R67). -/
def doRollback (H : Hooks) (s : State) (n : Nat) (m : CrookMsg) (req : List Byte) : State :=
  let close := fun (s : State) => if bit m.flags 3 then s.closeSession n else s
  if !m.body.isEmpty then answer H s n 0x08 m.sequence Status.length [] req
  else match (s.session n).txn with
    | none => close (answer H s n 0x08 m.sequence Status.noTxn [] req)
    | some t =>
      close (answer H (s.putSession n { s.session n with txn := none, part := none }) n 0x08 m.sequence Status.ok
        (leBytes 2 t.staged.length) req)

/-- Execute a new request of an open session; one that closes its own session (R53, R56) is still answered. -/
def execute (H : Hooks) (s : State) (n op : Nat) (m : CrookMsg) (req : List Byte) : State :=
  let x := s.session n
  let fin := fun (r : Nat × List Byte × State) =>
    if (r.2.2.session n).opened then answer H r.2.2 n op m.sequence r.1 r.2.1 req
    else crookSend H r.2.2 x.transport x.source (replyMsg x n op m.sequence r.1 r.2.1)
  let refuse := fun (st : Nat) => fin (st, if op = 7 then commitBody 0 0 0 0 else [], s)
  if op < 2 ∨ 9 < op ∨ m.reserved ≠ 0 ∨ m.flags.land (opFlags op) ≠ m.flags then refuse Status.unsupported
  else if (s.session n).slot ≠ 0xFF ∧ !bit (s.perm n) (transportBit (s.session n).transport) then refuse Status.permission
  else match op with
    | 0x02 => fin (doRead H s n m)
    | 0x03 => fin (doWrite H s n m)
    | 0x04 => fin (doBlockRead H s n m)
    | 0x05 => fin (doBlockWrite H s n m)
    | 0x06 => fin (doBegin s n m)
    | 0x07 => match doCommit H s n m req with
      | (some (st, b), s1) => fin (st, b, s1)
      | (none, s1) => crookDrop s1 (s1.session n).transport
    | 0x08 => doRollback H s n m req
    | _ => fin (doSubscribe H s n m)

/-- ROLLBACK while a COMMIT of the session waits (R55, R67): the commit is cancelled and both are answered.  DESIGN CHOICE (log 110): one that is itself
refused leaves the commit waiting and uses up no sequence number. -/
def rollbackWaiting (H : Hooks) (s : State) (n : Nat) (m : CrookMsg) (req : List Byte) : State :=
  let x := s.session n
  if m.reserved ≠ 0 ∨ m.flags.land 8 ≠ m.flags then answerOnly H s n 0x08 m.sequence Status.unsupported []
  else if x.slot ≠ 0xFF ∧ !bit (s.perm n) (transportBit x.transport) then answerOnly H s n 0x08 m.sequence Status.permission []
  else if !m.body.isEmpty then answerOnly H s n 0x08 m.sequence Status.length []
  else
    let s2 := endCommit H s n Status.rolledBack (commitBody 0 0 0 0)
    let s3 := answer H s2 n 0x08 m.sequence Status.ok (leBytes 2 ((x.txn.map (fun t => t.staged.length)).getD 0)) req
    if bit m.flags 3 then s3.closeSession n else s3

/-- A message of an open session that passed R54 (R55).  DESIGN CHOICE (log 110): its version fields and its STATUS are not looked at.
DESIGN CHOICE (log 145): any such message refreshes the idle time of the session's transaction (R68). -/
def sessionRequest (H : Hooks) (s : State) (n op : Nat) (m : CrookMsg) (req : List Byte) : State :=
  let x := s.session n
  let s1 := s.putSession n { x with lastMsg := s.clk.dtc, txn := x.txn.map (fun t => { t with lastMsg := s.clk.dtc }) }
  match x.waiting with
  | some w =>
    if m.sequence = w.sequence ∧ req = w.request then crookDrop s1 x.transport
    else if op = 0x08 ∧ m.sequence = w.sequence + 1 then rollbackWaiting H s1 n m req
    else answerOnly H s1 n op m.sequence Status.sequence (if op = 7 then commitBody 0 0 0 0 else [])
  | none =>
    if x.lastSeq ≠ 0 ∧ m.sequence = x.lastSeq ∧ req = x.lastReq then crookSend H s1 x.transport x.source x.lastReply
    else if m.sequence = x.lastSeq + 1 then execute H s1 n op m req
    else answerOnly H s1 n op m.sequence Status.sequence (if op = 7 then commitBody 0 0 0 0 else [])

/-- Croft serves Crook on a transport now (R44, R100, R110, R112, R515). -/
def State.serves (s : State) (tr : Transport) : Bool :=
  s.boot.croftServes && s.boot.step != .bothyPinfold && bit (s.rd K.CRF_TRANSPORT_ENABLE) (transportNum tr)
    && (match tr with
      | .udp p => p < 2 && !(s.crf.mgmtDown.contains p)
      | .i3c => true
      | .mbx p => p < 64 && s.boot.step == .ready && bit (s.rd (K.PRT_LINK_STATE p)) 0)

/-- The message was sent to where the device listens (R44, R77, R84): on UDP at CRF_UDP_PORT, and, but for a HELLO, at the port numbers under which
open sessions were opened; over I3C to the strapped address, as a vendor-defined PCI message of the vendor. -/
def addressed (s : State) (tr : Transport) (op : Nat) (m : CrookMsg) : Bool :=
  match tr with
  | .udp _ => m.dest == s.rd K.CRF_UDP_PORT || (op != 1 && s.crf.sessions.any (fun x => x.opened && x.transport == tr && x.port == m.dest))
  | .i3c => m.dest == s.boot.i3cAddress && m.mctp == (0x7E, 0x1D7E)
  | .mbx _ => true

/-- The CIC source of a message that waits for Croft (R424): of its session where that is open, else of its transport. -/
def State.crookSource (s : State) (tr : Transport) (op : Nat) (m : CrookMsg) : Nat :=
  if op ≠ 1 ∧ 1 ≤ m.session ∧ m.session ≤ 8 ∧ (s.session m.session).opened then 0x2F + m.session else 0x38 + transportNum tr

/-- A Crook message arrives (R44, R45, R54).  In P3 one message per transport is held until Croft runs (R480). -/
def crookReceive (H : Hooks) (tr : Transport) (src op : Nat) (m : CrookMsg) (s : State) : State :=
  if !s.serves tr || !addressed s tr op m then s
  else if s.pwr.sleep ≠ .awake then
    if transportNum tr < 2 ∧ bit (s.rd K.HRD_WAKE_ENABLE) (transportNum tr)
        ∧ !(s.crf.held.any (fun h => transportNum h.1 == transportNum tr)) then
      State.cicRaise { s with crf := { s.crf with held := s.crf.held ++ [(tr, src, op, m)] } } (s.crookSource tr op m)
    else s
  else if !lengthOk m then
    match tr with
    | .mbx p =>
      let s1 := s.bump K.CRF_LENGTH_ERRORS
      s1.putMailbox p { s1.mailbox p with ctrl := putBit (putBit (s1.mailbox p).ctrl 1 false) 3 true }
    | _ => s.bump K.CRF_LENGTH_ERRORS
  else if op = 1 then crookHello H s tr src m
  else
    let n := m.session
    let x := s.session n
    if 1 ≤ n ∧ n ≤ 8 ∧ x.opened ∧ x.heardOn tr src m ∧ m.tag = sessionTag x (msgBytes op m) then
      sessionRequest H (s.count 0xB001 (transportNum tr)) n op m (msgBytes op m)
    else crookDrop (s.badMessage n) tr

/-! ### Commits at the boundary (R28, R64, R65) -/

/-- The journal has no room under its limit for a transaction now (R71). -/
def journalBlocked (s : State) (t : Txn) : Bool :=
  let p := persistentOf (t.staged.map (fun w => (w.key, w.value)))
  !p.isEmpty && s.rd K.CRF_PERSIST_ENABLE == 1 && decide (s.journalNow < recBytes p)

/-- Apply the waiting COMMIT of a session at a tick boundary, if a boundary has passed since it arrived and its wait conditions hold. -/
def commitOne (H : Hooks) (s : State) (n : Nat) : State :=
  let x := s.session n
  match x.waiting, x.txn with
  | some w, some t =>
    if s.now ≤ w.arrived / 1000 then s
    else if let some k := pinfoldBar s t then endCommit H s n Status.pinfold (commitBody 0 0 (ordinalOf t k) k)
    else if H.epochWait s t.staged then
      if w.epochCounted then s
      else (s.putSession n { x with waiting := some { w with epochCounted := true } }).bump K.FLD_EPOCH_WAITS
    else if journalBlocked s t then
      if w.journalCounted then s
      else (s.putSession n { x with waiting := some { w with journalCounted := true } }).bump K.CRF_PERSIST_DEFERRED
    else
      match t.staged.find? (fun y => s.version y.key != y.expect) with
      | some y => endCommit H (s.bump K.CRF_CONFLICTS) n Status.conflict (commitBody 0 0 (ordinalOf t y.key) y.key)
      | none =>
        match validate H s n t with
        | .error k => endCommit H s n Status.range (commitBody 0 0 (ordinalOf t k) k)
        | .ok s1 =>
          let keys := t.staged.map (·.key)
          let s2 := ((H.applied s keys (s1.journalWrite s (t.staged.map (fun y => (y.key, y.value))))).bump K.CRF_COMMITS).count 0xB002 0
          let s3 := when w.epochCounted (fun s => s.cicRaise 0x116) s2
          let body := commitBody s.now t.staged.length 0 0
          if (s3.session n).opened then endCommit H s3 n Status.ok body
          else crookSend H s3 x.transport x.source (replyMsg x n 0x07 w.sequence Status.ok body)
  | _, _ => s

/-- COMMIT_APPLY: the sessions in ascending order (R28). -/
def commitApplyAll (H : Hooks) (s : State) : State := forEach [1, 2, 3, 4, 5, 6, 7, 8] (commitOne H) s

/-- A commit that waited past CRF_COMMIT_TIMEOUT (R65). -/
def commitTimeout (H : Hooks) (n : Nat) (s : State) : State :=
  match (s.session n).waiting with
  | some w =>
    if w.arrived + s.rd K.CRF_COMMIT_TIMEOUT ≤ s.clk.dtc then
      endCommit H (s.bump K.CRF_COMMIT_TIMEOUTS) n Status.timeout (commitBody 0 0 0 0)
    else s
  | none => s

/-- An idle session (R56). -/
def sessionIdle (n : Nat) (s : State) : State :=
  let x := s.session n
  if 1 ≤ n ∧ n ≤ 8 ∧ x.opened ∧ x.lastMsg + s.rd K.CRF_SESSION_IDLE ≤ s.clk.dtc then s.closeSession n else s

/-- An idle transaction, unless its COMMIT waits (R68).  DESIGN CHOICE (log 110): a DOMAIN value that has not had its LAST chunk outlives it. -/
def txnIdle (n : Nat) (s : State) : State :=
  let x := s.session n
  match x.txn, x.waiting with
  | some t, none => if t.lastMsg + s.rd K.CRF_TXN_IDLE ≤ s.clk.dtc then s.putSession n { x with txn := none } else s
  | _, _ => s

/-! ### Events (R70, R513) -/

/-- A subentry has changed since it was last sent: a writable one by version, an RO one by value (R70). -/
def hasChanged (H : Hooks) (s : State) (k : Nat) (q : SubSent) : Bool :=
  match catFind k with
  | none => false
  | some r => if r.acc = .ro ∨ r.acc = .const then wireValue H s k != q.value else s.version k != q.version

/-- The NOTIFY of a subentry (R48, R513). -/
def notifyMsg (H : Hooks) (s : State) (n : Nat) (num k : Nat) : List Byte :=
  let x := s.session n
  let v := wireValue H s k
  let body := leBytes 1 num ++ leBytes 1 (keySub k) ++ leBytes 2 (keyIdx k) ++ leBytes 4 (s.version k) ++ leBytes 8 s.now
    ++ leBytes 2 v.length ++ zeros 2 ++ (if 1388 < v.length then [] else v)
  let b := msgBytes 0x0A { verMajor := x.major, verMinor := x.minor, session := n, sequence := x.ntfCount + 1, length := body.length,
                           status := 0, flags := 0, reserved := 0, body := body, tag := [] }
  b ++ sessionTag x b

/-- Send one NOTIFY, if the mailbox is free for it. -/
def notifySend (H : Hooks) (s : State) (n num k : Nat) : Option State :=
  let x := s.session n
  let b := notifyMsg H s n num k
  let s1 := s.putSession n { x with ntfCount := x.ntfCount + 1 }
  match x.transport with
  | .mbx p =>
    if bit (s.mailbox p).ctrl 7 then none
    else some (H.mailbox p 1 ((s1.putMailbox p { s.mailbox p with ntf := b, ntfLen := b.length, ctrl := putBit (s.mailbox p).ctrl 7 true }).emit
      (.crook x.transport x.source b)))
  | _ => some (s1.emit (.crook x.transport x.source b))

/-- Look at one subscribed subentry of a session at this boundary. -/
def notifyOne (H : Hooks) (n num idx interval : Nat) (s : State) (q : SubSent) : State :=
  let k := key idx q.sub
  let due := match q.tick with
    | none => true
    | some t => t + interval ≤ s.now
  if !(hasChanged H s k q && due) then s else
  match notifySend H s n num k with
  | none => s
  | some s1 =>
    let x := s1.session n
    let q1 : SubSent := { q with version := s.version k, value := wireValue H s k, tick := some s.now }
    s1.putSession n { x with subs := x.subs.map (fun y =>
      if y.num = num then { y with sent := y.sent.map (fun z => if z.sub = q.sub then q1 else z) } else y) }

/-- NOTIFY: every subscription of every open session, in order (R70).  DESIGN CHOICE (log 145): in the Pinfold state too, of subentries without the
Pinfold flag (R42). -/
def notifyAll (H : Hooks) (s : State) : State :=
  forEach s.openSessions (fun s n =>
    forEach (s.session n).subs (fun s y => forEach y.sent (notifyOne H n y.num y.idx y.interval) s) s) s

end Sys2Proof.Machine
end

