-- ==== Sys2Proof/Machine/Commons.lean ====
section
/-! DEFINITION. Commons: octets, poison, retirement, carve-outs and the patrol scrubber (R408 to R422). -/

namespace Sys2Proof.Machine

/-- The size of the DPA space: 224 GiB (R408). -/
def cmnSize : Nat := 224 * 2 ^ 30

/-- The channel of a DPA (R408). -/
def cmnChannelOf (a : Nat) : Nat := ((bits a 13 9).xor (bits a 18 14)).xor (bits a 23 19)

/-- What an address of Commons that nothing has written reads as: ST11 zeroes all of it (R415). -/
def memDefault : Nat → Byte := fun _ => 0

/-- The octet at a DPA. -/
def State.memGet (s : State) (a : Nat) : Byte := Sparse.get memDefault s.cmn.cells a

/-- Store an octet at a DPA. -/
def State.memSet (s : State) (a : Nat) (b : Byte) : State :=
  { s with cmn := { s.cmn with cells := Sparse.set memDefault s.cmn.cells a b } }

/-- `n` octets from a DPA. -/
def State.memRead (s : State) (a n : Nat) : List Byte := (List.range n).map (fun i => s.memGet (a + i))

/-- Store octets from a DPA on. -/
def State.memWrite (s : State) (a : Nat) : List Byte → State
  | [] => s
  | b :: r => (s.memSet a b).memWrite (a + 1) r

/-- The canonical form of the memory. -/
def State.memWf (s : State) : Bool := Sparse.wf memDefault s.cmn.cells

/-- A line (DPA ÷ 64) carries poison (R412). -/
def State.linePoisoned (s : State) (l : Nat) : Bool := Sparse.get (fun _ => false) s.cmn.poison l

/-- Mark or clear the poison of a line. -/
def State.putPoison (s : State) (l : Nat) (b : Bool) : State :=
  { s with cmn := { s.cmn with poison := Sparse.set (fun _ => false) s.cmn.poison l b } }

/-- The lines that a range touches. -/
def linesOf (a n : Nat) : List Nat := if n = 0 then [] else (List.range ((a + n - 1) / 64 - a / 64 + 1)).map (· + a / 64)

/-! ### Atomics (R336) -/

/-- The new value of an atomic of `n` octets. -/
def atomicNew (code n old operand cmp : Nat) : Nat :=
  let w := 8 * n
  let o := operand % 2 ^ w
  match code with
  | 1 => (old + o) % 2 ^ w
  | 2 => old.land o
  | 3 => old.lor o
  | 4 => old.xor o
  | 5 => o
  | 6 => if old = cmp % 2 ^ w then o else old
  | 7 => if sint w old ≤ sint w o then old else o
  | 8 => if sint w old ≤ sint w o then o else old
  | 9 => min old o
  | _ => max old o

/-- The operation and size of an atomic's word 3 are listed, and its address is aligned to its size (R336). -/
def atomicOk (ext a : Nat) : Bool :=
  1 ≤ bits ext 7 0 && bits ext 7 0 ≤ 10 && (bits ext 15 8 == 2 || bits ext 15 8 == 3) && a % 2 ^ bits ext 15 8 == 0

/-! ### Accesses (R408, R410) -/

/-- An access beyond the DPA space: counted (R408). -/
def State.cmnRangeError (s : State) : State := (s.bump K.CMN_RANGE_ERRORS).cicRaise 0x147

/-- A range lies in the DPA space. -/
def cmnFits (a n : Nat) : Bool := a + n ≤ cmnSize

/-- The check lines of the lines accessed (R409): one for each block of 8.  FREE VALUE: the manual does not say which check lines a controller's cache
holds, so whether each access refills one is open. -/
def State.checkLines (s : State) (ls : List Nat) : State :=
  forEach ((ls.map (· / 8)).eraseDups) (fun s b => (when (Config.checkMiss b s.fresh) (·.count 0xA003 (cmnChannelOf (512 * b))) s).tick) s

/-- Read a range of Commons (R412): the data, whether a line of it was poisoned, the counts. -/
def State.cmnRead (s : State) (a n : Nat) : List Byte × Bool × State :=
  let ls := linesOf a n
  let bad := ls.filter s.linePoisoned
  (s.memRead a n, !bad.isEmpty,
    forEach bad (fun s _ => s.bump K.CMN_POISON_READS) (forEach ls (fun s l => s.count 0xA001 (cmnChannelOf (64 * l))) (s.checkLines ls)))

/-- The line lies between the pool and the lowest carve-out: it is unused and reads as zeros (R416). -/
def State.unusedLine (s : State) (l : Nat) : Bool :=
  decide (s.rd (K.CMN_CARVE_ACTIVE 7) ≤ 64 * l) && decide (64 * l < s.rd (K.CMN_CARVE_BASE 0))

/-- Store the octets of a write in one line whose enables (relative to the access) are given; a full-line write clears the poison, a partial
write to a poisoned line is dropped and counted (R412).  Answers whether bytes were lost. -/
def State.cmnWriteLine (s : State) (l a : Nat) (data : List Byte) (en : Nat → Bool) : Bool × State :=
  let idx := (List.range data.length).filter (fun i => (a + i) / 64 == l && en i)
  if idx.isEmpty then (false, s) else
  let s1 := s.count 0xA002 (cmnChannelOf (64 * l))
  if s.unusedLine l then (false, s1)
  else if idx.length = 64 then
    (false, forEach idx (fun s i => s.memSet (a + i) (data.getD i 0)) (s1.putPoison l false))
  else if s.linePoisoned l then (true, s1.bump K.CMN_POISON_WRITES)
  else (false, forEach idx (fun s i => s.memSet (a + i) (data.getD i 0)) s1)

/-- Write a range of Commons under byte enables (R412): the first line whose bytes were lost, and the state. -/
def State.cmnWrite (s : State) (a : Nat) (data : List Byte) (en : Nat → Bool) : Option Nat × State :=
  (linesOf a data.length).foldl (fun r l =>
    let w := r.2.cmnWriteLine l a data en
    (if w.1 && r.1.isNone then some (64 * l) else r.1, w.2)) (none, s.checkLines (linesOf a data.length))

/-- Every byte of a write is enabled. -/
def allBytes : Nat → Bool := fun _ => true

/-- A line is poisoned in memory (R295). -/
def State.poisonLine (s : State) (a : Nat) : State :=
  ((s.putPoison (a / 64) true).bump K.BLW_POISONED_LINES).raiseD F.BLW_POISON (elemSub 6) a 0 0 |>.cicRaise 0x123

/-- Retire a line (R413). -/
def State.retire (s : State) (l : Nat) : State :=
  if s.mram.retired.any (fun e => e.1 == l) then s
  else if 16384 ≤ s.mram.retired.length then (s.raise F.CMN_RETIRE_FULL (elemSub 10)).cicRaise 0x142
  else { s with mram := { s.mram with retired := s.mram.retired ++ [(l, true)] } }

/-- A read finds an ECC error in a line (R412, R413). -/
def State.cmnEcc (s : State) (l : Nat) (e : EccKind) : State :=
  let c := cmnChannelOf (64 * l)
  if s.linePoisoned l then s else
  match e with
  | .corrected =>
    let times := s.clk.dtc :: (Sparse.get (fun _ => []) s.cmn.corrected l).filter (fun t => s.clk.dtc < t + 24 * 3600 * 10 ^ 9)
    let s1 : State := { s with cmn := { s.cmn with corrected := Sparse.insert l times s.cmn.corrected } }
    let s2 := ((((s1.bump K.CMN_ECC_CORRECTED).bump (K.CMN_CH_CORRECTED c)).raiseD F.CMN_ECC (elem 12 c) (64 * l) 0 0).cicRaise 0x140)
    if 3 ≤ times.length then s2.retire l else s2
  | .uncorrectable =>
    ((((s.bump K.CMN_ECC_UNCORRECTABLE).bump (K.CMN_CH_UNCORRECTABLE c)).raiseGraveD F.CMN_ECC (elem 12 c) (64 * l) 0 0).cicRaise
      0x141 |>.putPoison l true).retire l

/-! ### Carve-outs (R416 to R418) -/

/-- The size of carve-out `k`, 1 to 7, in a layout of the six sizes. -/
def carveSize (sizes : List Nat) (k : Nat) : Nat := if k = 7 then 256 * 2 ^ 20 else sizes.getD (k - 1) 0

/-- The base of carve-out `k`, 1 to 7: 7 lies on top, each below the one before. -/
def carveBase (sizes : List Nat) (k : Nat) : Nat := cmnSize - ((List.range 8).filter (fun j => k ≤ j)).foldl (fun n j => n + carveSize sizes j) 0

/-- The size of the pool of a layout: a multiple of 256 MiB. -/
def poolSize (sizes : List Nat) : Nat := carveBase sizes 1 / (256 * 2 ^ 20) * (256 * 2 ^ 20)

/-- The pending sizes. -/
def State.carvePending (s : State) : List Nat := (List.range 6).map (fun j => s.rd (K.CMN_CARVE_SIZE j))

/-- The active size of carve-out `k`, 1 to 8. -/
def State.carve (s : State) (k : Nat) : Nat := s.rd (K.CMN_CARVE_ACTIVE (k - 1))

/-- The active base of carve-out `k`. -/
def State.carveAt (s : State) (k : Nat) : Nat := s.rd (K.CMN_CARVE_BASE (k - 1))

/-- The size of carve-out `k` that validation uses: the smaller of active and pending (R418). -/
def State.carveMin (s : State) (k : Nat) : Nat := min (s.carve k) (carveSize s.carvePending k)

/-- The pool that validation uses (R418). -/
def State.poolMin (s : State) : Nat := min (s.carve 8) (poolSize s.carvePending)

/-- Whether a pending layout differs from the active one (CMN_STATE bit 4). -/
def State.layoutSync (s : State) : State :=
  s.wrBit K.CMN_STATE 4 ((List.range 6).any (fun j => s.rd (K.CMN_CARVE_SIZE j) != s.rd (K.CMN_CARVE_ACTIVE j)))

/-- The pending layout becomes active (R418), with the sizes that follow from it (R271, R286, R322). -/
def State.layoutApply (s : State) : State :=
  let z := s.carvePending
  let s1 := forEach [1, 2, 3, 4, 5, 6, 7] (fun s k =>
    (s.wr (K.CMN_CARVE_ACTIVE (k - 1)) (carveSize z k)).wr (K.CMN_CARVE_BASE (k - 1)) (carveBase z k)) s
  let s2 := (s1.wr (K.CMN_CARVE_ACTIVE 7) (poolSize z)).wr (K.CMN_CARVE_BASE 7) 0
  (((s2.wr K.BLW_L2_ENTRIES (carveSize z 1 / 32)).wr K.BLW_NEAR_LINES (carveSize z 2 / 1024 * 15)).wr K.PDK_TALLY_SLOTS
    (carveSize z 5 / 131072)).wrBit K.CMN_STATE 4 false

/-- The size of a carve-out is in order (R416): a multiple of 32 MiB within its range, and a power of two where the range asks for one. -/
def carveOk (k v : Nat) : Bool :=
  let m := 2 ^ 20
  let pow2 := v == 0 || (List.range 40).any (fun e => v == 2 ^ e)
  v % (32 * m) == 0 && (match k with
    | 1 => pow2 && decide (v ≤ 2048 * m)
    | 2 => pow2 && (v == 0 || decide (256 * m ≤ v)) && decide (v ≤ 16384 * m)
    | 3 => decide (v ≤ 16384 * m)
    | 4 => decide (v ≤ 8192 * m)
    | 5 => decide (32 * m ≤ v ∧ v ≤ 2048 * m)
    | _ => decide (64 * m ≤ v ∧ v ≤ 1024 * m))

/-- A layout leaves a pool of at least 256 MiB (R416). -/
def layoutOk (z : List Nat) : Bool := decide (z.foldl (· + ·) 0 + 512 * 2 ^ 20 ≤ cmnSize) && decide (256 * 2 ^ 20 ≤ poolSize z)

/-! ### Rings in the tally and sample carve-out (R417, R514) -/

/-- The slots of the queue sample ring. -/
def State.qsampleSlots (s : State) : Nat := s.carve 5 / 4 / 8192

/-- The slots of the Loom sample ring. -/
def State.sampleSlots (s : State) : Nat := s.carve 5 / 640

/-- A ring of `n` slots has no room: it holds n − 1 unread entries (R514). -/
def ringFull (n w r : Nat) : Bool := n ≤ 1 || (w + 1) % n == r

/-! ### Scrub, temperature, channels (R414, R421) -/

/-- A 1 GiB burst. -/
def scrubStep : Nat := 2 ^ 30

/-- Ask for the grant of the next burst when it is due: 224 bursts spread over the period (R414); none while a die is out of range (R472). -/
def State.scrubTick (s : State) : State :=
  let due := s.cmn.passStart + s.rd K.CMN_SCRUB_POSITION / scrubStep * (s.rd K.CMN_SCRUB_PERIOD / 224)
  if s.isReady ∧ s.rd K.CMN_SCRUB_ENABLE = 1 ∧ s.cmn.burstEnd.isNone ∧ s.granted 80 = 0 ∧ !s.gov.scrubHold ∧ s.cmn.hot.isEmpty
      ∧ !(s.gov.waiting.any (fun q => q.requester == 80)) ∧ due ≤ s.clk.dtc then s.govRequest 80 2
  else s

/-- SCRUB_BURST: with its grant the scrubber reads 1 GiB and treats each finding as a reader does (R412, R414).  DESIGN CHOICE: what a burst finds
is found as it begins. -/
def State.scrubBurst (s : State) (findings : List (Nat × EccKind)) : State :=
  if s.granted 80 < 2 ∨ s.cmn.burstEnd.isSome ∨ s.rd K.CMN_SCRUB_ENABLE = 0 then s else
  let p := s.rd K.CMN_SCRUB_POSITION
  let s1 := (forEach (findings.filter (fun f => p ≤ f.1 && f.1 < p + scrubStep)) (fun s f => s.cmnEcc (f.1 / 64) f.2) s).wrBit
    K.CMN_STATE 3 true
  { s1 with cmn := { s1.cmn with burstEnd := some (s1.clk.dtc + 70000000) } }

/-- The scrubber has read `n` octets more; at the end of the DPA space a pass is complete (R414). -/
def State.scrubAdvance (s : State) (n : Nat) : State :=
  let p := s.rd K.CMN_SCRUB_POSITION + n
  if p < cmnSize then s.wr K.CMN_SCRUB_POSITION p else
  let s1 := ((s.wr K.CMN_SCRUB_POSITION 0).bump K.CMN_SCRUB_PASSES).cicRaise 0x145
  { s1 with cmn := { s1.cmn with passStart := max s1.clk.dtc (s1.cmn.passStart + s1.rd K.CMN_SCRUB_PERIOD), behindTold := false } }

/-- The burst stops after `n` octets, and its grant is released. -/
def State.scrubStop (s : State) (n : Nat) : State :=
  let s1 : State := { s with cmn := { s.cmn with burstEnd := none } }
  ((s1.scrubAdvance n).govRelease 80).wrBit K.CMN_STATE 3 false

/-- SCRUB_BURST_END: the burst ends. -/
def State.scrubEnd (s : State) : State := if s.cmn.burstEnd.isNone then s else s.scrubStop scrubStep

/-- The burst is broken off, by self-refresh or by the brake: the lines read so far, at up to 16 GB/s, and the next burst goes on from there (R414, R415,
R476). -/
def State.scrubBreak (s : State) : State :=
  match s.cmn.burstEnd with
  | none => s
  | some e => s.scrubStop (min (scrubStep - 64) (16 * (s.clk.dtc + 70000000 - e)) / 64 * 64)

/-- The brake has taken the grant of a running burst (R476). -/
def State.scrubBraked (s : State) : State := if s.granted 80 = 0 then s.scrubBreak else s

/-- The pass cannot end within its period (R414): counted once per period. -/
def State.scrubBehind (s : State) : State :=
  let left := (cmnSize - s.rd K.CMN_SCRUB_POSITION) / 16
  if s.cmn.behindTold ∨ s.rd K.CMN_SCRUB_ENABLE = 0 ∨ s.clk.dtc + left ≤ s.cmn.passStart + s.rd K.CMN_SCRUB_PERIOD then s else
  let s1 : State := { s with cmn := { s.cmn with behindTold := true } }
  ((s1.bump K.CMN_SCRUB_BEHIND).raise F.CMN_SCRUB_BEHIND (elemSub 10)).cicRaise 0x144

/-- A die's temperature report (R414, R472): the refresh rate code; while a die is out of range the Commons region is throttled. -/
def State.cmnTemp (s : State) (c code : Nat) (out : Bool) : State :=
  if 32 ≤ c then s else
  let s1 := s.wrBits (K.CMN_CH_STATE c) 7 4 code
  let hot := (if out then [c] else []) ++ s.cmn.hot.filter (· != c)
  let others := s.gov.throttled.filter (· != (10, 1))
  let s2 : State := { s1 with
    cmn := { s1.cmn with hot := hot }
    gov := { s1.gov with throttled := (if hot.isEmpty then [] else [(10, 1)]) ++ others } }
  let s3 := s2.wrBit K.HRD_THROTTLE_STATE 13 (!hot.isEmpty || others.any (fun e => e.1 == 10))
  if out then (s3.raise F.CMN_TEMP (elem 12 c)).cicRaise 0x143 else s3

/-- A channel loses training or shows more than 16 parity errors in 1 ms: F3 (R421). -/
def State.cmnChannel (s : State) (c : Nat) : State :=
  if 32 ≤ c then s else ((s.wrBit (K.CMN_CH_STATE c) 0 false).cicRaise 0x146).raise F.CMN_CHANNEL (elem 12 c)

/-- All of Commons enters or leaves self-refresh (R415): a burst in progress stops. -/
def State.selfRefresh (s : State) (on : Bool) : State :=
  forEach (List.range 32) (fun s c => s.wrBit (K.CMN_CH_STATE c) 1 on) ((when on State.scrubBreak s).wrBit K.CMN_STATE 2 on)

/-- ST11 of a cold boot: trained in full, zeroed, no poison (R415). -/
def State.cmnZero (s : State) : State :=
  let s1 : State := { s with cmn := {} }
  forEach (List.range 32) (fun s c => s.wr (K.CMN_CH_STATE c) 1) (s1.wrBits K.CMN_STATE 1 0 3)

end Sys2Proof.Machine
end

