-- ==== Sys2Proof/Machine/Gatepost.lean ====
section
/-! DEFINITION. Gatepost: initiators, region entries, the check of a request page by page, denials, violation records and locks (R248 to
R265). -/

namespace Sys2Proof.Machine

/-- Permission bits in the positions of an entry's FLAGS (R251). -/
abbrev permRead : Nat := 2
abbrev permWrite : Nat := 4
abbrev permAtomic : Nat := 8
abbrev permShare : Nat := 16

/-- This device's number (R16). -/
def State.device (s : State) : Nat := s.rd K.TWL_DEVICE_NUMBER

/-- A valid entry applies to a request of an initiator for a page of a target (R254).  A damaged entry matches everything (R264). -/
def gtpMatches (e : List Byte) (i : Initiator) (target page : Nat) : Bool :=
  let m := field e 1 1
  let sel := fun (n : Nat) (b : Bool) => !bit m n || b
  bit (field e 0 1) 0
    && (match field e 2 1 with
        | 0 => field e 4 2 == target
        | 1 => field e 5 1 == target / 256
        | _ => true)
    && decide (field e 16 5 ≤ page) && decide (page ≤ field e 24 8)
    && sel 0 (i.port == some (field e 6 1)) && sel 1 (i.fold == bits (field e 8 2) 9 0) && sel 2 (i.engine == some (field e 7 1))
    && sel 3 (i.vf == some (bits (field e 10 2) 9 0)) && sel 4 (i.debug == bit (field e 3 1) 0) && sel 5 (i.device == field e 12 1)

/-- The entry that matches everything and grants nothing, as which a damaged entry acts (R264). -/
def gtpDamaged : List Byte := [1, 0, 2] ++ zeros 21 ++ List.replicate 8 0xFF

/-- The entries that can match: the written ones, the default one and the damaged ones, in ascending order. -/
def State.gtpEntries (s : State) : List (Nat × List Byte) :=
  let nums := (s.dict.octs.filter (fun e => 0x5000 ≤ keyIdx e.1 && keyIdx e.1 < 0x5020)).map
    (fun e => (keyIdx e.1 - 0x5000) * 128 + keySub e.1 - 1)
  (sortBy id (4095 :: (s.fab.fold.gtpDamaged ++ nums)).eraseDups).map (fun n =>
    (n, if s.fab.fold.gtpDamaged.contains n then gtpDamaged else s.rdo (K.GTP_REGION_ENTRY n)))

/-- The deciding entry of a page (R254): its number and permissions. -/
def State.gtpDecide (s : State) (i : Initiator) (target page : Nat) : Option (Nat × Nat) :=
  (s.gtpEntries.find? (fun e => gtpMatches e.2 i target page)).map (fun e => (e.1, (field e.2 0 1).land 0x1E))

/-- A page is allowed: its deciding entry grants everything needed. -/
def gtpAllows (need : Nat) (d : Option (Nat × Nat)) : Bool :=
  match d with
  | some (_, g) => g.land need == need
  | none => false

/-- The first denied page of a request, with its deciding entry; none where the request passes (R254, R257). -/
def State.gtpDenied (s : State) (i : Initiator) (target addr len need : Nat) : Option (Nat × Option (Nat × Nat)) :=
  let first := addr / 4096
  let last := (addr + (len - 1)) / 4096
  ((List.range (last + 1 - first)).map (fun k => (first + k, s.gtpDecide i target (first + k)))).find?
    (fun d => !gtpAllows need d.2)

/-- Write a violation record to the ring (R262, R263), raise the counts, and note the denial of the fold in this tick. -/
def State.gtpViolation (s : State) (i : Initiator) (target addr len kind need : Nat) (atTarget : Bool) (d : Nat × Option (Nat × Nat)) :
    State :=
  let seq := s.rd K.GTP_VIOLATIONS + 1
  let entry := (d.2.map (·.1)).getD 0xFFFF
  let locked := (d.2.map (fun e => strBit (s.rdo K.GTP_LOCKED) e.1)).getD false
  let firstOk := decide (d.1 ≠ addr / 4096)
  let rec1 := leBytes 8 s.clk.dtc ++ leBytes 8 addr ++ leBytes 8 (if firstOk then d.1 * 4096 else addr) ++ leBytes 4 len
    ++ leBytes 1 kind ++ leBytes 1 (b2n atTarget) ++ leBytes 2 target ++ leBytes 2 entry ++ leBytes 2 i.fold
    ++ leBytes 1 (i.port.getD 0xFF) ++ leBytes 1 (i.engine.getD 0xFF) ++ leBytes 2 (i.vf.getD 0xFFFF) ++ leBytes 1 i.device
    ++ leBytes 1 (b2n i.debug + 2 * b2n locked + 4 * b2n firstOk) ++ leBytes 1 need ++ leBytes 1 ((d.2.map (·.2)).getD 0)
    ++ leBytes 4 seq ++ zeros 16
  let w := s.rd K.GTP_VIOLATION_WRITE
  let full := ringFull 1024 w (s.rd K.GTP_VIOLATION_READ)
  let s1 := (((s.wr K.GTP_VIOLATIONS seq).wro (K.GTP_VIOLATION_LOG w) rec1).wr K.GTP_VIOLATION_WRITE ((w + 1) % 1024)).cicRaise 0x117
  let s2 := when full (fun s => (s.wr K.GTP_VIOLATION_READ ((s.rd K.GTP_VIOLATION_READ + 1) % 1024)).bump K.GTP_VIOLATIONS_LOST) s1
  let s3 : State := { s2 with fab := { s2.fab with fold := { s2.fab.fold with gtpTick := s2.fab.fold.gtpTick ++ [(i.fold, seq)] } } }
  s3.count 0x5003 i.fold

/-- The GTP_VIOLATION faults of the tick that ends: one for each fold that had denials (R263, R458). -/
def State.gtpFaults (s : State) : State :=
  let l := s.fab.fold.gtpTick
  let s1 : State := { s with fab := { s.fab with fold := { s.fab.fold with gtpTick := [] } } }
  forEach (sortBy id ((l.map (·.1)).eraseDups)) (fun s f =>
    let mine := l.filter (fun e => e.1 == f)
    s.raiseD F.GTP_VIOLATION (elem 6 f) mine.length ((mine.head?.map (·.2)).getD 0) 0) s1

/-- A write that sets VALID must not leave LIMIT_PAGE below BASE_PAGE (R252); reserved fields are checked with the value. -/
def gtpEntryOk (v : List Byte) : Bool := !bit (field v 0 1) 0 || decide (field v 16 8 ≤ field v 24 8)

/-- GTP_LOCK_REQUEST (R259). -/
def State.gtpLock (s : State) (e : Nat) : Nat × State :=
  if 4096 ≤ e then (1, s)
  else if strBit (s.rdo K.GTP_LOCKED) e then (0, s)
  else (0, (s.wro K.GTP_LOCKED (putStrBit (s.rdo K.GTP_LOCKED) e true)).bumpVersion (K.GTP_REGION_ENTRY e))

/-- A region entry's ECC error (R264). -/
def State.gtpEcc (s : State) (e : Nat) (k : EccKind) : State :=
  if 4096 ≤ e then s else
  match k with
  | .corrected => ((s.bump K.GTP_TABLE_ECC_CORRECTED).raiseD F.GTP_TABLE_ECC (elemSub 5) e 0 0).cicRaise 0x118
  | .uncorrectable =>
    let s1 : State := { s with fab := { s.fab with fold := { s.fab.fold with gtpDamaged := e :: s.fab.fold.gtpDamaged } } }
    (s1.raiseGraveD F.GTP_TABLE_ECC (elemSub 5) e 0 0).cicRaise 0x118

/-- A ring reader's pointer write (R514): valid if it lies from the read to the write pointer. -/
def State.ringRead (s : State) (kr kw slots v : Nat) : Nat × State :=
  let r := s.rd kr
  if v < slots ∧ (v + slots - r) % slots ≤ (s.rd kw + slots - r) % slots then (0, s.wr kr v) else (1, s)

end Sys2Proof.Machine
end

