-- ==== Sys2Proof/Machine/Fabric.lean ====
section
/-! DEFINITION. What the data path shares: ports and gangs, trackers, epochs, meters, responses, Loom's pools, admission and queues, routes
(R17, R143, R159, R183 to R186, R195 to R202, R211 to R219, R234, R242 to R244, R316, R317). -/

namespace Sys2Proof.Machine

/-! ### Ports, quads and gangs -/

/-- A port's committed role: 0 disabled, 1 upstream, 2 downstream, 3 Twill (R142). -/
def State.role (s : State) (p : Nat) : Nat := s.rd (K.PRT_ROLE p)

/-- The quads of a port (R143). -/
def State.portQuads (s : State) (p : Nat) : List Nat :=
  if s.rd (K.PRT_ROLE p) = 0 then [p] else (List.range (2 ^ s.rd (K.PRT_WIDTH p))).map (· + p)

/-- The port that owns a quad: the port of its number, or the one that absorbs it (R143). -/
def State.portOfQuad (s : State) (q : Nat) : Nat :=
  ((List.range (q + 1)).find? (fun p => s.role p != 0 && (s.portQuads p).contains q)).getD q

/-- The state of a port. -/
def State.port (s : State) (p : Nat) : Port := Sparse.get (fun _ => {}) s.fab.ports p

/-- Set the state of a port. -/
def State.putPort (s : State) (p : Nat) (x : Port) : State :=
  { s with fab := { s.fab with ports := Sparse.set (fun _ => {}) s.fab.ports p x } }

/-- The Twill link of a port. -/
def State.link (s : State) (p : Nat) : TwillLink := Sparse.get (fun _ => {}) s.fab.links p

/-- Set the Twill link of a port. -/
def State.putLink (s : State) (p : Nat) (x : TwillLink) : State :=
  { s with fab := { s.fab with links := Sparse.set (fun _ => {}) s.fab.links p x } }

/-- The port's link carries traffic. -/
def State.linkUp (s : State) (p : Nat) : Bool :=
  if s.role p = 3 then bit (s.rd (K.TWL_STATE p)) 0 else bit (s.rd (K.PRT_LINK_STATE p)) 0

/-- The ports with a lane in an element: a port, a quad, a lane, a reference group (R448). -/
def State.elemPorts (s : State) (el : Nat) : List Nat :=
  let n := el % 4096
  match el / 4096 with
  | 2 => [n]
  | 3 => [s.portOfQuad n]
  | 4 => [s.portOfQuad (n / 4)]
  | 5 => ([4 * n, 4 * n + 1, 4 * n + 2, 4 * n + 3].map s.portOfQuad).eraseDups
  | _ => []

/-- The port is isolated by an F2 fault that stands (R448). -/
def State.isolatedPort (s : State) (p : Nat) : Bool := s.flt.isolated.any (fun el => (s.elemPorts el).contains p)

/-- The crossbar ports of a gang (R195, R196). -/
def State.gangWidth (s : State) (g : Nat) : Nat := if g = 64 then 8 else if g = 72 then 6 else if 64 ≤ g then 1 else (s.portQuads g).length

/-! ### Trackers and epochs (R159, R183, R234) -/

/-- A tracker that may still answer: by TAG. -/
def State.tracker (s : State) (tag : Nat) : Option Tracker := s.fab.trackers.find? (fun t => t.tag == tag)

/-- Replace a tracker. -/
def State.putTracker (s : State) (t : Tracker) : State :=
  { s with fab := { s.fab with trackers := s.fab.trackers.map (fun x => if x.tag = t.tag then t else x) } }

/-- The next TAG that no tracker uses. -/
def State.freeTag (s : State) : Nat :=
  ((List.range (s.fab.trackers.length + 1)).map (fun i => (s.fab.nextTag + i) % 65536)).find?
    (fun n => !(s.fab.trackers.any (fun t => t.tag == n))) |>.getD 0

/-- The tracker serves host traffic, of which there are 38,400; the others number 27,136 (R18). -/
def Tracker.isHost (t : Tracker) : Bool :=
  match t.origin with
  | .host _ _ => true
  | .io _ _ => true
  | _ => false

/-- No tracker of the kind is free (R18, R20). -/
def State.noTracker (s : State) (host : Bool) : Bool :=
  if host then 38400 ≤ (s.fab.trackers.filter Tracker.isHost).length
  else 27136 ≤ (s.fab.trackers.filter (fun t => !t.isHost)).length + s.fab.transit.length

/-- Take a tracker: its TAG is the next free one, and its fold's epoch counts it (R234). -/
def State.newTracker (s : State) (t : Tracker) : Nat × State :=
  let tag := s.freeTag
  let ep := s.rd (K.FLD_EPOCH t.fold)
  let t1 : Tracker := { t with
    tag := tag, decodedAt := s.clk.dtc, epoch := t.epoch.map (fun _ => ep), frozen := t.epoch.isSome && bit (s.rd (K.FLD_FLAGS t.fold)) 2 }
  let s1 : State := { s with fab := { s.fab with trackers := s.fab.trackers ++ [t1], nextTag := (tag + 1) % 65536 } }
  (tag, when t.epoch.isSome (·.bump (K.FLD_EPOCH_INFLIGHT t.fold ep)) s1)

/-- The live meters of a fold. -/
def State.meter (s : State) (f : Nat) : Meter := Sparse.get (fun _ => {}) s.fab.pdk.meters f

/-- Set the live meters of a fold. -/
def State.putMeter (s : State) (f : Nat) (m : Meter) : State :=
  { s with fab := { s.fab with pdk := { s.fab.pdk with meters := Sparse.set (fun _ => {}) s.fab.pdk.meters f m } } }

/-- Add a request's latency to its fold's histogram (R316). -/
def State.histogram (s : State) (t : Tracker) : State :=
  let lat := s.clk.dtc - t.decodedAt
  let k := ((List.range 15).filter (fun j => s.rd (K.PDK_HIST_EDGE j) ≤ lat)).length
  s.bump (K.PDK_HIST_BIN t.fold k)

/-- Extents of a fold and epoch stop draining when the epoch has drained (R236). -/
def State.drainSync (s : State) : State :=
  let left := s.fab.fold.draining.filter (fun d => s.rd (K.FLD_EPOCH_INFLIGHT d.2.1 d.2.2) != 0 || s.fab.fold.zeroing.any (fun z => z.1 == d.1))
  let s1 : State := { s with fab := { s.fab with fold := { s.fab.fold with draining := left } } }
  s1.wr K.FLD_EXTENTS_DRAINING left.length

/-- Release a tracker: its epoch no longer counts it, and its histogram entry is made (R234, R316). -/
def State.releaseTracker (s : State) (t : Tracker) : State :=
  let s1 : State := { s with fab := { s.fab with trackers := s.fab.trackers.filter (fun x => x.tag != t.tag) } }
  let s2 := match t.epoch with
    | some e => (s1.sub (K.FLD_EPOCH_INFLIGHT t.fold e) 1).drainSync
    | none => s1
  if t.charged && !t.posted then s2.histogram t else s2

/-! ### Loom: pools and admission (R197 to R204) -/

/-- The cells of a message (R197). -/
def LMsg.cells (x : LMsg) : Nat := 1 + ceilDiv x.m.data.length 64

/-- The traffic class of a message. -/
def LMsg.cls (x : LMsg) : Nat := x.m.tc % 8

/-- The message's cells lie in the cell buffer. -/
def LMsg.buffered (x : LMsg) : Bool :=
  match x.place with
  | .staged | .store | .source | .writePath => false
  | _ => true

/-- The ingresses that hold a reserve, with it (R198 to R200): the committed one, or that of the last training where the link is up. -/
def State.reserveCommitted (s : State) (g : Nat) : Nat :=
  if 64 ≤ g then s.rd (K.LOM_INGRESS_RESERVE g)
  else match s.role g with
    | 0 => 0
    | 3 => (List.range 8).foldl (fun n c => n + s.rd (K.TWL_RX_HDR_CREDITS g c) + s.rd (K.TWL_RX_DATA_CREDITS g c)) 0
    | _ => s.rd (K.LOM_INGRESS_RESERVE g)

/-- The reserve in force of a gang (R204): a port's is that of its last training. -/
def State.reserve (s : State) (g : Nat) : Nat :=
  if g < 64 ∧ s.role g ≠ 0 then Sparse.get (fun _ => s.reserveCommitted g) s.fab.loom.allotted g else s.reserveCommitted g

/-- The gangs of the active ingresses. -/
def ingressGangs : List Nat := List.range 64 ++ [64, 72, 78, 79]

/-- B: the cells of the buffer without its fenced slices (R198, R221). -/
def State.bufferCells (s : State) : Nat := 524288 - 65536 * popCount 8 (s.rd K.LOM_SLICES_FENCED)

/-- S: the shared pool, in force (R198). -/
def State.sharedCells (s : State) : Nat := s.bufferCells - ingressGangs.foldl (fun n g => n + s.reserve g) 0

/-- S as validation computes it: with the larger of the reserve in force and the committed one (R198, R204). -/
def State.sharedWorst (s : State) : Int :=
  (s.bufferCells : Int) - (ingressGangs.foldl (fun n g => n + max (s.reserve g) (s.reserveCommitted g)) 0 : Nat)

/-- LOM_SHARED_CELLS and LOM_BUFFER_CELLS follow the configuration. -/
def State.loomSync (s : State) : State := (s.wr K.LOM_SHARED_CELLS s.sharedCells).wr K.LOM_BUFFER_CELLS s.bufferCells

/-- The cells of the messages that satisfy a condition. -/
def State.cellsWhere (s : State) (p : LMsg → Bool) : Nat :=
  (s.fab.loom.msgs.filter p).foldl (fun n x => n + x.cells) 0

/-- Shared cells in use. -/
def State.sharedUsed (s : State) : Nat := s.cellsWhere (fun x => x.buffered && x.charge == .shared)

/-- The retired cells of the slices in service (R36). -/
def State.retiredCells (s : State) : Nat :=
  s.fab.loom.retired.foldl (fun n e => if bit (s.rd K.LOM_SLICES_FENCED) e.1 then n else n + e.2) 0

/-- F: the free shared cells (R202). -/
def State.freeCells (s : State) : Nat := s.sharedCells - s.sharedUsed - s.retiredCells

/-- Shared cells that a queue holds, wherever its messages wait. -/
def State.queueShared (s : State) (g c : Nat) : Nat :=
  s.cellsWhere (fun x => x.buffered && x.charge == .shared && x.egress == g && x.cls == c)

/-- Reserve cells of an ingress in use. -/
def State.reserveUsed (s : State) (g : Nat) : Nat := s.cellsWhere (fun x => x.buffered && x.charge == .reserve && x.ingress == g)

/-- The cells of a queue in the buffer (LOM_QUEUE_CELLS). -/
def State.queueCells (s : State) (g c : Nat) : Nat := s.cellsWhere (fun x => x.place == .queue && x.egress == g && x.cls == c)

/-- The threshold of a class for `f` free shared cells: 2^k × F, rounded down (R202). -/
def State.threshold (s : State) (c f : Nat) : Nat :=
  let k := sint 32 (s.rd (K.LOM_ALPHA (c - 1)))
  if 0 ≤ k then f * 2 ^ k.toNat else f / 2 ^ (-k).toNat

/-- What a message of L cells is charged to at admission (R201). -/
def State.chargeFor (s : State) (x : LMsg) : Charge :=
  let f := s.freeCells
  if x.cls = 0 then .reserve
  else if s.queueShared x.egress x.cls + x.cells ≤ s.threshold x.cls f ∧ x.cells ≤ f then .shared
  else .reserve

/-- The channel by which a message entered at a port, or leaves at one (R199). -/
def channelOf (s : State) (x : LMsg) (leaving : Bool) : Nat :=
  let up := if leaving then s.role x.egress == 1 else s.role x.ingress == 1
  match x.tlp with
  | some t => match t.kind with
    | .memWr | .message => 0
    | .cpl | .cplD => 2
    | _ => 1
  | none => match x.cls with
    | 5 => 2
    | 4 => if 0 < x.m.dcnt then 4 else 3
    | 3 => 7
    | 2 => if up && !leaving then 5 else 6
    | _ => 8

/-- The header and data credits that a message takes on a PCIe or CXL link: data credits of 16 octets in CXL.io only (R199, R205). -/
def creditCost (s : State) (x : LMsg) : Nat × Nat := if channelOf s x true ≤ 2 then (1, ceilDiv x.m.data.length 16) else (1, 0)

/-- Append a message to those in the device. -/
def State.addMsg (s : State) (x : LMsg) : State := { s with fab := { s.fab with loom := { s.fab.loom with msgs := s.fab.loom.msgs ++ [x] } } }

/-- Take a message out of the list. -/
def State.unlist (s : State) (id : Nat) : State :=
  { s with fab := { s.fab with loom := { s.fab.loom with msgs := s.fab.loom.msgs.filter (fun x => x.id != id) } } }

/-- How often the link of a port has been down. -/
def State.linkGen (s : State) (g : Nat) : Nat := if 64 ≤ g then 0 else (s.port g).gen

/-- Return the credits of a message to the partner of its ingress (R177, R201), unless its link has been down since (R161, R182). -/
def State.creditBack (s : State) (x : LMsg) : State :=
  if 64 ≤ x.ingress ∨ x.credited ∨ !s.linkUp x.ingress ∨ x.gen.any (· != s.linkGen x.ingress) then s
  else if s.role x.ingress = 3 then
    let l := s.link x.ingress
    let o := x.owed.getD (x.cls, x.m.dcnt)
    let c := o.1
    s.putLink x.ingress { l with
      rxBackH := l.rxBackH.set c ((l.rxBackH.getD c 0 + 1) % 4096), rxBackD := l.rxBackD.set c ((l.rxBackD.getD c 0 + o.2) % 65536)
      creditAt := some (l.creditAt.getD s.clk.dtc) }
  else if x.response && x.track.isNone && x.tlp.isNone && s.role x.ingress == 1 then s
  else
    let k := channelOf s x false
    let c := if k ≤ 2 then (1, ceilDiv x.m.data.length 16) else (1, 0)
    s.emit (.credits x.ingress k c.1 c.2)

/-- A message's reserve cells leave the buffer: their credits return now (R201). -/
def State.cellsOut (s : State) (x : LMsg) : State := if x.buffered ∧ x.charge = .reserve then s.creditBack x else s

/-- A message in the list. -/
def State.msg (s : State) (id : Nat) : Option LMsg := s.fab.loom.msgs.find? (fun x => x.id == id)

/-- Remove a message. -/
def State.dropMsg (s : State) (id : Nat) : State :=
  match s.msg id with
  | none => s
  | some x => (s.unlist id).cellsOut x

/-- Move a message to a place, behind those already there. -/
def State.moveMsg (s : State) (x : LMsg) : State :=
  let s1 := match s.msg x.id with
    | none => s
    | some y => if x.buffered then s else s.cellsOut y
  (s1.unlist x.id).addMsg x

/-- The slices of the buffer in service. -/
def State.slicesUp (s : State) : List Nat := (List.range 8).filter (fun n => !bit (s.rd K.LOM_SLICES_FENCED) n)

/-- Cells of the buffer for a message, in rotation over the slices in service (R221): the slice of the header cell, and all of them. -/
def State.allocCells (s : State) (x : LMsg) : LMsg × State :=
  match s.slicesUp with
  | [] => (x, s)
  | a :: l =>
    let up := a :: l
    let at_ := fun (i : Nat) => up.getD ((s.fab.loom.slicePtr + i) % up.length) a
    ({ x with slice := at_ 0, slices := (List.range (min x.cells 8)).foldl (fun m i => putBit m (at_ i) true) 0 },
      { s with fab := { s.fab with loom := { s.fab.loom with slicePtr := (s.fab.loom.slicePtr + x.cells) % 840 } } })

/-- The messages at a place of a gang and class, oldest first. -/
def State.queueOf (s : State) (pl : Place) (g c : Nat) : List LMsg :=
  s.fab.loom.msgs.filter (fun x => x.place == pl && x.egress == g && x.cls == c)

/-- The Twill form of a message: a CXL.io TLP travels as data with its header (R172, R197). -/
def twillForm (x : LMsg) : TwillMsg :=
  match x.tlp with
  | some t =>
    let d := t.header ++ t.payload
    { x.m with data := d, dcnt := max 1 (ceilDiv d.length 64), len := d.length }
  | none => x.m

/-! ### Samplers (R219, R220) -/

/-- A sampler's control word matches a message at a point. -/
def samplerMatches (ctl point : Nat) (x : LMsg) : Bool :=
  bit ctl 31 && b2n (bit ctl 30) == point
    && (match bits ctl 29 27 with
        | 0 => true
        | 1 => bits ctl 15 0 == x.ingress
        | 2 => bits ctl 15 0 == x.egress
        | 3 => bits ctl 15 0 == x.cls
        | 4 => bits ctl 15 0 == x.m.fold
        | _ => false)

/-- The header octets of a message (R170, R171); without an extension 16, with one 32. -/
def headerBytes (m : TwillMsg) : List Byte :=
  let w0 := m.dst % 65536 * 2 ^ 48 + m.src % 65536 * 2 ^ 32 + m.tc % 8 * 2 ^ 29 + b2n m.cm * 2 ^ 28 + b2n m.rs * 2 ^ 27 + b2n m.ext * 2 ^ 26
    + m.opcode % 256 * 2 ^ 16 + m.dcnt % 256 * 2 ^ 8 + m.hops % 256
  let w1 := m.tag % 65536 * 2 ^ 48 + m.rseq % 65536 * 2 ^ 32 + m.status % 256 * 2 ^ 24 + m.fold % 1024 * 2 ^ 14 + m.len % 2 ^ 14
  leBytes 8 w0 ++ leBytes 8 w1 ++ (if m.ext then leBytes 8 m.addr ++ leBytes 8 m.word3 else [])

/-- A sample record (R220). -/
def sampleRecord (s : State) (sampler point : Nat) (x : LMsg) : List Byte :=
  let body := match x.tlp with
    | some t => fit 16 (headerBytes x.m) ++ fit 48 t.header
    | none => fit 64 (headerBytes x.m)
  leBytes 8 s.clk.dtc ++ leBytes 1 sampler ++ leBytes 1 point ++ leBytes 1 x.ingress ++ leBytes 1 x.egress ++ leBytes 2 x.m.fold
    ++ leBytes 2 x.cells ++ leBytes 1 x.cls
    ++ leBytes 1 (b2n (2 < x.cells) + 2 * b2n x.m.poisoned + 4 * b2n x.m.cm + 8 * b2n x.spilled) ++ zeros 14
    ++ body ++ fit 64 (x.m.data.take 64)

/-- A sampler takes the Nth matching message: its record waits to be written (R219), and HOT_PAGES counts its target page (R357). -/
def State.capture (s : State) (n point : Nat) (x : LMsg) : State :=
  let s1 := { s with fab := { s.fab with loom := { s.fab.loom with captures := s.fab.loom.captures ++ [(n, x.id, sampleRecord s n point x)] } } }
  if n = 7 ∧ s.rd K.DRV_HOTPAGE_FOLD ≠ 0 then
    let k := x.m.dst * 2 ^ 52 + x.m.addr / 4096
    { s1 with drv := { s1.drv with hot := Sparse.set (fun _ => 0) s1.drv.hot k (Sparse.get (fun _ => 0) s1.drv.hot k + 1) } }
  else s1

/-- SAMPLE_CAPTURE: the oldest taken record, if it is this sampler's, is written to the ring, or dropped; those of one message are taken in ascending
number, once its first data cell is there (R219). -/
def State.captureWrite (s : State) (n : Nat) : State :=
  match s.fab.loom.captures with
  | [] => s
  | e :: rest =>
    if e.1 ≠ n ∨ s.fab.loom.msgs.any (fun x => x.id == e.2.1 && !x.written) then s else
    let s0 : State := { s with fab := { s.fab with loom := { s.fab.loom with captures := rest } } }
    let w := s.rd K.LOM_SAMPLE_WRITE
    let a := s.carveAt 5 + s.carve 5 / 2 + s.carve 5 / 4 + 160 * w
    let i : Initiator := { device := s.device }
    if ringFull s.sampleSlots w (s.rd K.LOM_SAMPLE_READ) then (s0.bump K.LOM_SAMPLE_DROPPED).cicRaise 0x107
    else match s.gtpDenied i (s.device * 256 + 1) a 160 permWrite with
      | some d => ((s0.gtpViolation i (s.device * 256 + 1) a 160 2 permWrite false d).bump K.LOM_SAMPLE_DROPPED).cicRaise 0x107
      | none =>
        ((((s0.cmnWrite a e.2.2 allBytes).2.wr K.LOM_SAMPLE_WRITE ((w + 1) % s.sampleSlots)).bump (K.LOM_SAMPLER_TAKEN n)).cicRaise 0x106)

/-- The samplers see a message at a point, in ascending number (R219). -/
def State.sample (s : State) (point : Nat) (x : LMsg) : State :=
  forEach (List.range 8) (fun s n =>
    if samplerMatches (s.rd (K.LOM_SAMPLER_CTRL n)) point x then
      let c := Sparse.get (fun _ => 0) s.fab.loom.sampled n + 1
      let put := fun (s : State) (v : Nat) =>
        { s with fab := { s.fab with loom := { s.fab.loom with sampled := Sparse.set (fun _ => 0) s.fab.loom.sampled n v } } }
      if s.rd (K.LOM_SAMPLER_N n) ≤ c then (put s 0).capture n point x else put s c
    else s) s

/-! ### Routes (R186, R242 to R244) -/

/-- The local endpoint of this device that a FEID names leads to a gang (R244): none where it is not assigned. -/
def State.localGang (s : State) (ep : Nat) : Option Nat :=
  if ep = 0 then some 79 else if ep = 1 then some 64 else if ep = 2 then some 78
  else (List.range 64).find? (fun p =>
    (s.role p == 1 && s.rd (K.PRT_LD_FEID p 0) == ep)
      || (s.role p == 2 && (List.range 16).any (fun i => s.rd (K.PRT_LD_FEID p i) == ep)))

/-- The source device sets RS on a message (R212). -/
def State.setsRs (s : State) (m : TwillMsg) : Bool :=
  bit (s.rd K.LOM_RS_CLASSES) (m.tc % 8) && (m.dst / 256 != s.device || m.tc % 8 == 7)

/-- The hops of a route word that are usable for a message: valid, active Twill links; a message with RS, or on which this device will set it, needs
capability bit 1, a Bellwether message bit 3 (R186, R190, R242, R270). -/
def State.usableHops (s : State) (w : Nat) (m0 : TwillMsg) : List Nat :=
  let bw := 0x40 ≤ m0.opcode || m0.tc == 1
  let m := { m0 with rs := m0.rs || (m0.src / 256 == s.device && s.setsRs m0) }
  ((List.range 4).filter (fun k => bit w (32 + k))).map (fun k => bits w (8 * k + 7) (8 * k)) |>.filter (fun p =>
    p < 64 && s.role p == 3 && s.linkUp p && (!m.rs || bit (s.rd (K.TWL_CAPS_COMMON p)) 1)
      && (!bw || bit (s.rd (K.TWL_CAPS_COMMON p)) 3))

/-- A route entry is damaged until Croft restores it: it has no VALID bits (R246). -/
def State.routeWord (s : State) (k : Nat) : Nat := if s.fab.fold.damaged.contains k then 0 else s.rd k

/-- The next hop toward another device (R186, R243). -/
def State.hopFor (s : State) (m : TwillMsg) : Option Nat :=
  let w := s.routeWord (K.FLD_ROUTE m.dst)
  let word := if bits w 35 32 ≠ 0 then w else s.routeWord (K.FLD_DEVICE_ROUTE (m.dst / 256))
  let hops := s.usableHops word m
  match hops with
  | [] => none
  | h :: _ =>
    if m.tc = 0 ∨ m.tc = 5 then some h else
    let key := if m.ext then m.addr / 4096 else m.src * 65536 + m.tag
    hops[crc32c (leBytes 4 (s.rd K.TWL_HASH_SEED) ++ leBytes 8 key) % hops.length]?

/-- The gang toward which a message goes (R185, R244). -/
def State.gangFor (s : State) (m : TwillMsg) : Option Nat :=
  if m.dst / 256 = s.device then s.localGang (m.dst % 256) else s.hopFor m

/-- The LD-ID of a target on a downstream port. -/
def State.ldOf (s : State) (p ep : Nat) : Nat := ((List.range 16).find? (fun i => s.rd (K.PRT_LD_FEID p i) == ep)).getD 0

/-- The target is a host: the upstream port whose :01 holds the endpoint. -/
def State.hostPort (s : State) (feid : Nat) : Option Nat :=
  if feid / 256 = s.device ∧ 3 ≤ feid % 256 then (List.range 64).find? (fun p => s.role p == 1 && s.rd (K.PRT_LD_FEID p 0) == feid % 256)
  else none

/-! ### Linking to a queue (R209, R211, R212, R215) -/

/-- The source device sets RS and RSEQ (R212). -/
def State.stampRs (s : State) (m : TwillMsg) : TwillMsg × State :=
  let c := m.tc % 8
  if m.rs || !s.setsRs m then (m, s) else
  let k := 8 * (m.dst % 65536) + c
  let n := Sparse.get (fun _ => 0) s.fab.loom.rseq k
  ({ m with rs := true, rseq := n },
    { s with fab := { s.fab with loom := { s.fab.loom with rseq := Sparse.set (fun _ => 0) s.fab.loom.rseq k ((n + 1) % 65536) } } })

/-- Bytes of the overflow store that a gang holds, or all gangs (R215). -/
def State.storeBytes (s : State) (p : LMsg → Bool) : Nat :=
  64 * (s.fab.loom.msgs.filter (fun x => x.place == .store && p x)).foldl (fun n x => n + x.cells) 0

/-- A message of Bellwether (R269, R282). -/
def isBellwether (m : TwillMsg) : Bool := m.tc == 1 || (0x40 ≤ m.opcode && 2 ≤ m.tc && m.tc ≤ 4)

/-- The key of a resequencer flow (R213): source device, destination endpoint and class. -/
def flowKey (src ep cls : Nat) : Nat := (src % 256) * 2048 + (ep % 256) * 8 + cls % 8

/-- The flow of a message. -/
def LMsg.flow (x : LMsg) : Nat := flowKey (x.m.src / 256) (x.m.dst % 256) x.m.tc

/-- The flow, where it is active. -/
def State.flowAt (s : State) (k : Nat) : Option Flow := (s.fab.loom.flows.find? (fun e => e.1 == k)).map (·.2)

/-- Set a flow. -/
def State.putFlow (s : State) (k : Nat) (f : Flow) : State :=
  { s with fab := { s.fab with loom := { s.fab.loom with flows := Sparse.insert k f s.fab.loom.flows } } }

/-- The messages that the resequencer holds for a flow. -/
def State.heldOf (s : State) (k : Nat) : List LMsg := s.fab.loom.msgs.filter (fun x => x.place == .reseq && x.flow == k)

/-- A message leaves the resequencer: a response or a message of Bellwether is handled at once, any other is linked to its queue (R209, R269). -/
def State.fromReseq (s : State) (x : LMsg) : State :=
  if isBellwether x.m ∨ x.response then
    let s1 := s.unlist x.id
    { s1 with fab := { s1.fab with resumed := s1.fab.resumed ++ [.arrived x] } }
  else s.moveMsg { x with place := .queue }

/-- Deliver the held messages of a flow whose number has come (R213). -/
def State.reseqRun (s : State) (k : Nat) : State :=
  let step := fun (s : State) => match s.flowAt k with
    | none => none
    | some f => match (s.heldOf k).find? (fun x => x.m.rseq == f.expected) with
      | none => none
      | some x => some ((s.putFlow k { f with expected := (f.expected + 1) % 65536 }).fromReseq x)
  let s1 := iter step (s.heldOf k).length s
  match s1.flowAt k with
  | none => s1
  | some f => s1.putFlow k { f with gapAt := if (s1.heldOf k).isEmpty then none else some s1.clk.dtc }

/-- The held numbers of a flow in the order in which they are due. -/
def State.heldInOrder (s : State) (k e : Nat) : List LMsg := sortBy (fun (x : LMsg) => (x.m.rseq + 65536 - e) % 65536) (s.heldOf k)

/-- Skip to the lowest held number of a flow (R214). -/
def State.reseqSkip (s : State) (k : Nat) : State :=
  match s.flowAt k with
  | none => s
  | some f => match s.heldInOrder k f.expected with
    | [] => s
    | x :: _ =>
      let d := (x.m.rseq + 65536 - f.expected) % 65536
      let s1 := ((s.putFlow k { f with expected := x.m.rseq }).add K.LOM_RESEQ_SKIPS d).raiseD F.LOM_RESEQ_SKIP (elemSub 4) k d 0
      (s1.cicRaise 0x103).reseqRun k

/-- Cells that the resequencer holds. -/
def State.reseqCells (s : State) : Nat := s.cellsWhere (fun x => x.place == .reseq)

/-- While the cells held reach LOM_RESEQ_HOLD_LIMIT, the flow whose timer started earliest is skipped (R214). -/
def State.holdLimit (s : State) : State :=
  iter (fun s =>
    if s.reseqCells < s.rd K.LOM_RESEQ_HOLD_LIMIT then none else
    let due := (s.fab.loom.flows.filter (fun e => e.2.gapAt.isSome && !(s.heldOf e.1).isEmpty)).foldl (fun (b : Option (Nat × Nat)) e =>
      match b with
      | none => some (e.1, e.2.gapAt.getD 0)
      | some c => if e.2.gapAt.getD 0 < c.2 then some (e.1, e.2.gapAt.getD 0) else some c) none
    due.map (fun c => s.reseqSkip c.1)) s.fab.loom.msgs.length s

/-- A message with RS set passes the resequencer (R213, R214). -/
def State.reseq (s : State) (x : LMsg) : State :=
  let k := x.flow
  let now := s.clk.dtc
  match s.flowAt k with
  | none => (s.putFlow k { expected := (x.m.rseq + 1) % 65536, gapAt := none, usedAt := now }).fromReseq x
  | some f =>
    let d := (x.m.rseq + 65536 - f.expected) % 65536
    let s0 := s.putFlow k { f with usedAt := now }
    if (s.heldOf k).any (fun y => y.m.rseq == x.m.rseq) then (s0.bump K.LOM_RESEQ_LATE).fromReseq x
    else if d = 0 then ((s0.putFlow k { f with expected := (f.expected + 1) % 65536, usedAt := now }).fromReseq x).reseqRun k
    else if d ≤ 1023 then
      ((s0.putFlow k { f with gapAt := some (f.gapAt.getD now), usedAt := now }).moveMsg { x with place := .reseq } |>.count 0x4003 x.cls).holdLimit
    else if d ≤ 32767 then
      let s1 := forEach (s.heldInOrder k f.expected) (fun s y => s.fromReseq y) (s0.bump K.LOM_RESEQ_BEYOND)
      (s1.putFlow k { expected := (x.m.rseq + 1) % 65536, gapAt := none, usedAt := now }).fromReseq x
    else (s0.bump K.LOM_RESEQ_LATE).fromReseq x

/-- Link a message to its output queue: at its destination device, one with RS set passes the resequencer first (R209, R213). -/
def State.enqueue (s : State) (x : LMsg) : State :=
  if x.m.rs ∧ x.m.dst / 256 = s.device then s.reseq x else s.moveMsg { x with place := .queue }

/-! ### The overflow store (R215, R216) -/

/-- The chain of an output in the overflow store. -/
def State.chain (s : State) (g : Nat) : Chain := Sparse.get (fun _ => {}) s.fab.loom.chains g

/-- Set the chain of an output. -/
def State.putChain (s : State) (g : Nat) (c : Chain) : State :=
  { s with fab := { s.fab with loom := { s.fab.loom with chains := Sparse.set (fun _ => {}) s.fab.loom.chains g c } } }

/-- The lowest free chunks of the store, as many as asked for, if it has them (R216). -/
def State.freeChunks (s : State) (n : Nat) : Option (List Nat) :=
  let used := s.fab.loom.chains.flatMap (fun e => e.2.chunks)
  let l := ((List.range (min (used.length + n) (s.carve 3 / 65536))).filter (fun k => !used.contains k)).take n
  if l.length = n then some l else none

/-- The address of a cell of a chain. -/
def State.chainAddr (s : State) (c : Chain) (i : Nat) : Nat := s.carveAt 3 + 65536 * c.chunks.getD (i / 1024 - c.base) 0 + 64 * (i % 1024)

/-- The parts of a run of cells in a chain that lie in one chunk each: address and cells.  A message lies in at most two chunks. -/
def State.chainParts (s : State) (c : Chain) (i n : Nat) : List (Nat × Nat) :=
  let m := min n (1024 - i % 1024)
  [(s.chainAddr c i, m), (s.chainAddr c (i + m), n - m)].filter (fun e => e.2 != 0)

/-- The cells of a message as the store keeps them (R197). -/
def cellBytes (x : LMsg) : List Byte := fit 64 (headerBytes x.m) ++ fit (64 * (x.cells - 1)) x.m.data

/-- An access of Loom to the store is denied by Gatepost: the record (R216, R257). -/
def State.storeDenied (s : State) (parts : List (Nat × Nat)) (need kind : Nat) : Option State :=
  let i : Initiator := { device := s.device }
  parts.findSome? (fun e => (s.gtpDenied i (s.device * 256 + 1) e.1 (64 * e.2) need).map
    (fun d => s.gtpViolation i (s.device * 256 + 1) e.1 (64 * e.2) kind need false d))

/-- The data of a message that lies in the store is written there (R216). -/
def State.storeData (s : State) (x : LMsg) : State :=
  let b := cellBytes x
  ((s.chainParts (s.chain x.egress) x.chainAt x.cells).foldl (fun (r : Nat × State) e =>
    (r.1 + 64 * e.2, (r.2.cmnWrite e.1 (slice b r.1 (64 * e.2)) allBytes).2)) (0, s)).2

/-- A message enters the store: its cells are written at the end of its output's chain, which takes new chunks as it needs them (R216). -/
def State.spill (s : State) (x : LMsg) (c : Chain) (parts : List (Nat × Nat)) : State :=
  let b := cellBytes x
  let w := parts.foldl (fun (r : Nat × State) e => (r.1 + 64 * e.2, (r.2.cmnWrite e.1 (slice b r.1 (64 * e.2)) allBytes).2)) (0, s)
  (w.2.moveMsg { x with place := .store, spilled := true, chainAt := c.back }).putChain x.egress { c with back := c.back + x.cells }

/-- Link a message, or spill it (R209, R215). -/
def State.linkQueue (s : State) (x : LMsg) : State :=
  if x.cls ≠ 7 ∨ x.charge ≠ .reserve ∨ s.rd K.LOM_OVF_ENABLE = 0 ∨ x.spilled then s.enqueue x else
  let c := s.chain x.egress
  let refused := fun (s : State) =>
    (((s.enqueue x).bump K.LOM_OVF_REFUSED).raise F.LOM_OVF_REFUSED (if x.egress < 64 then elemPort x.egress else elemSub 4)).cicRaise 0x104
  match s.freeChunks (ceilDiv (c.back + x.cells) 1024 - c.base - c.chunks.length) with
  | none => refused s
  | some l =>
    if s.rd K.LOM_OVF_PER_OUTPUT ≤ s.storeBytes (fun y => y.egress == x.egress) then
      refused s
    else
      let c1 := { c with chunks := c.chunks ++ l }
      let parts := s.chainParts c1 c1.back x.cells
      match s.storeDenied parts permWrite 2 with
      | some s1 => s1.enqueue x
      | none =>
        let s1 := ((s.spill x c1 parts).bump K.LOM_OVF_SPILLED).count 0x4004 x.egress
        when (s.carve 3 < 2 * s1.storeBytes (fun _ => true)) (·.cicRaise 0x105) s1

/-- The cells that enter by a gang, in its stream (R196): counted modulo 24, which every gang width divides. -/
def State.streamCells (s : State) (x : LMsg) : LMsg × State :=
  let n := Sparse.get (fun _ => 0) s.fab.loom.entered x.ingress
  ({ x with cell0 := n }, { s with fab := { s.fab with loom := { s.fab.loom with
    entered := Sparse.set (fun _ => 0) s.fab.loom.entered x.ingress ((n + x.cells) % 24) } } })

/-- The cells of an upstream port's reserve that back one half of its RwD channel (R199, R279). -/
def State.rwdHalf (s : State) (p : Nat) : Nat := 4 + (s.reserve p - 160) * 96 / 352 / 2

/-- A host's write finds its half of the RwD channel full: writebacks have one, every other write the other (R279). -/
def State.halfFull (s : State) (x : LMsg) : Bool :=
  s.role x.ingress == 1 && x.cls == 4 && 0 < x.m.dcnt && x.tlp.isNone
    && (let back := fun (y : LMsg) => (y.track.bind s.tracker).any (·.metaGiven)
        s.rwdHalf x.ingress < s.cellsWhere (fun y => y.buffered && y.charge == .reserve && y.ingress == x.ingress && y.cls == 4 && decide (0 < y.m.dcnt)
          && y.tlp.isNone && !y.response && back y == back x) + x.cells)

/-- A message that is charged to its ingress's reserve must wait: an ingress on the chip without room, a port whose reserve shrank, until its use
falls below it (R204), a write whose half of the RwD channel is full (R279). -/
def State.reserveFull (s : State) (x : LMsg) : Bool :=
  if x.ingress < 64 then decide (s.reserve x.ingress ≤ s.reserveUsed x.ingress) || s.halfFull x
  else decide (s.reserve x.ingress < s.reserveUsed x.ingress + x.cells)

/-- A message enters Loom (R201): it is charged as a whole, the samplers see it; the credits of a shared charge return at once.  Where it
finds no room it waits at its source.  The forwarding mode is that of now (R206). -/
def State.admitMsg (s : State) (x : LMsg) : LMsg × State :=
  let ch := if x.charge = .none then s.chargeFor x else x.charge
  let wait := decide (ch = .reserve) && s.reserveFull x
  let x1 : LMsg := { x with
    id := s.fab.loom.nextId, charge := if wait then .none else ch, at_ := s.clk.dtc, place := if wait then .source else .queue
    gen := some (x.gen.getD (s.linkGen x.ingress)), cut := bit (s.rd (K.LOM_FWD_MODE x.egress)) x.cls }
  let r := State.streamCells { s with fab := { s.fab with loom := { s.fab.loom with nextId := s.fab.loom.nextId + 1 } } } x1
  if wait then (r.1, r.2.addMsg r.1) else
  let a := r.2.allocCells r.1
  (a.1, when (ch == .shared) (·.creditBack a.1) ((a.2.addMsg a.1).sample 0 a.1))

/-- A message without a request's checks is admitted and linked: responses, forwards, transit and exempt requests (R304). -/
def State.sendMsg (s : State) (x : LMsg) : State :=
  let r := s.admitMsg x
  if r.1.place = .source then r.2 else r.2.linkQueue r.1

/-! ### Answers -/

/-- A message with the base fields of R170 set. -/
def mkMsg (src dst tc opcode tag : Nat) : TwillMsg :=
  { dst := dst, src := src, tc := tc, cm := false, rs := false, ext := false, opcode := opcode, dcnt := 0, hops := 0, tag := tag, rseq := 0,
    status := 0, fold := 0, len := 0, addr := 0, word3 := 0, data := [], poisoned := false }

/-- The endpoint to which the answers of an origin go (R170). -/
def originFeid (s : State) : Origin → Nat
  | .twill _ src _ => src
  | .host p _ | .io p _ => s.device * 256 + s.rd (K.PRT_LD_FEID p 0)
  | _ => s.device * 256

/-- The gang through which an answer to an origin leaves. -/
def originGang (s : State) (m : TwillMsg) : Origin → Option Nat
  | .host p _ => some p
  | .io p _ => some p
  | .twill _ _ _ => s.gangFor m
  | .engine _ _ => some 72
  | _ => none

/-- The header of a completion (PRESUMED from the base specification): type, length, completer, status and byte count, requester, tag. -/
def cplHeader (status tag n : Nat) : List Byte :=
  [BitVec.ofNat 8 (if n = 0 then 0x0A else 0x4A), 0, BitVec.ofNat 8 (ceilDiv n 4 % 1024 / 256), BitVec.ofNat 8 (ceilDiv n 4)]
    ++ [0, 0, BitVec.ofNat 8 (status * 32 + n % 4096 / 256), BitVec.ofNat 8 n] ++ [0, 0, BitVec.ofNat 8 tag, 0]

/-- A completion as a TLP (R197). -/
def cplTlp (status tag : Nat) (data : List Byte) : Tlp :=
  { kind := if data.isEmpty then .cpl else .cplD, address := 0, length := data.length, tag := tag, header := cplHeader status tag data.length,
    payload := data, flaw := .none, ld := 0 }

/-- The request is answered with data. -/
def Tracker.wantsData (t : Tracker) : Bool :=
  match t.op with
  | .read | .atomic | .rdShared | .rdOwn | .rdCur | .atomicCoh => true
  | _ => false

/-- The request writes. -/
def Tracker.writes (t : Tracker) : Bool :=
  match t.op with
  | .write | .partialWrite | .atomic | .wrInv | .wrInvPartial | .atomicCoh | .writeback => true
  | _ => false

/-- A write's octet at an offset from its address is enabled: the enables of a partial write are those of its line (R171). -/
def Tracker.enables (t : Tracker) (i : Nat) : Bool :=
  match t.op with
  | .partialWrite | .wrInvPartial | .writeback => bit t.be ((t.addr + i) % 64)
  | _ => true

/-- Answer an origin (R20 step 7): a message toward it through Loom, with the data, the status of R173 and poison.  Bellwether and the debug master
are answered directly. -/
def State.answerOrigin (s : State) (t : Tracker) (status : Nat) (data : List Byte) (poison : Bool) : State :=
  let credit := fun (s : State) => match t.owed with
    | some o => s.creditBack { id := 0, place := .queue, m := mkMsg 0 0 0 0 0, ingress := t.egress, egress := 79, owed := some o,
                               credited := t.owedCharge == some true }
    | none => s
  match t.origin with
  | .blw target line =>
    let s := credit s
    { s with fab := { s.fab with resumed := s.fab.resumed ++ [.memory target line t.tag (if poison then 6 else status) data] } }
  | .debug skip n => (credit s).emit (.debugData (if status = 0 then (data.drop skip).take n else []) (status == 3))
  | .func f d => let s := credit s; if status = 0 then s else { s with fab := { s.fab with resumed := s.fab.resumed ++ [.fetched f d status] } }
  | .ats f page => let s := credit s; if status = 0 then s else { s with fab := { s.fab with resumed := s.fab.resumed ++ [.untranslated f page] } }
  | .own => credit s
  | .run tag =>
    let s := credit s
    { s with fab := { s.fab with resumed := s.fab.resumed ++ [.ran tag (if poison then 6 else status) t.addr data] } }
  | _ =>
    let twill := match t.origin with
      | .twill _ _ _ => true
      | _ => false
    let engine := match t.origin with
      | .engine _ _ => true
      | _ => false
    if t.posted && !engine then credit s else
    let tag := match t.origin with
      | .twill _ _ tag => tag
      | .host _ tag => tag
      | .io _ tag => tag
      | .engine _ h => h
      | _ => t.tag
    let isIo := decide (t.op = .io)
    let hasData := !data.isEmpty
    let code := if status = 0 && poison then 6 else status
    let tc := if isIo && !twill then 5 else if hasData then 3 else 2
    let opcode := if isIo then 2 else if twill && decide (0x40 ≤ t.wire % 256) then (if hasData then 0x44 else 0x40) else 1
    let dst := originFeid s t.origin
    let m := { mkMsg (if twill then s.device * 256 + t.target % 256 else t.target) (if opcode = 0x44 ∨ opcode = 0x40 then dst / 256 * 256 else dst) tc opcode tag with
      status := code, data := data, dcnt := ceilDiv data.length 64, poisoned := poison, hops := s.rd K.TWL_HOP_LIMIT, len := if isIo then data.length else 0 }
    let fromTwill := t.egress < 64 && s.role t.egress == 3
    match originGang s m t.origin with
    | none => credit s
    | some g =>
      if g < 64 ∧ !s.linkUp g then credit s else
      let s1 := if s.role g = 3 ∧ g < 64 then s.stampRs m else (m, s)
      s1.2.sendMsg { id := 0, place := .queue, m := s1.1, ingress := if t.egress < 80 then t.egress else 79, egress := g,
                     tlp := if isIo && !twill then some (cplTlp (if status = 0 then 0 else 1) tag data) else none
                     response := true, answers := some t, grant := t.grant, credited := fromTwill && (t.owed.isNone || t.owedCharge == some true), owed := t.owed
                     charge := match t.owedCharge with
                       | some true => .shared
                       | some false => .reserve
                       | none => .none
                     dest := match t.origin with
                       | .engine u h => some (u, h)
                       | _ => none }

/-- A General Media event record of a dropped write, at the owner of the fold (R17, R160, R412). -/
def State.mediaEvent (s : State) (f dpa : Nat) : State :=
  let p := s.rd (K.FLD_OWNER_PORT f)
  if 64 ≤ p then s else s.putPort p { s.port p with media := (s.port p).media ++ [dpa] }

/-- The bytes of a write or atomic that completes, and whether it is one (R317): in CXL.io the payload of a write or AtomicOp. -/
def Tracker.wrote (t : Tracker) : Option Nat :=
  match t.op with
  | .atomic | .atomicCoh => some (2 ^ bits t.extension 15 8)
  | .io => if 8 ≤ t.kind then some ((t.tlp.map (·.payload.length)).getD t.data.length) else none
  | _ => if t.writes then some t.data.length else none

/-- Bytes from an address on, laid over those that a read of several lines holds. -/
def Tracker.lay (t : Tracker) (a : Nat) (d : List Byte) : List Byte :=
  (List.range t.len).map (fun i => if a ≤ t.addr + i ∧ t.addr + i < a + d.length then d.getD (t.addr + i - a) 0 else t.data.getD i 0)

/-- The data of a read of several lines: what memory answered, with the lines that were read from a copy (R284, R290). -/
def Tracker.gathered (t : Tracker) (d : List Byte) : List Byte :=
  if t.got.isEmpty then d
  else (List.range t.len).map (fun i => if t.got.contains ((t.addr + i) / 64) then t.data.getD i 0 else d.getD i 0)

/-- Complete a request with an OK status (R317): the meters advance. -/
def State.completeOk (s : State) (t : Tracker) (data0 : List Byte) (poison0 : Bool) : State :=
  let data := t.gathered data0
  let poison := poison0 || (t.poison && !t.got.isEmpty)
  let s1 := s.releaseTracker t
  let m := s1.meter t.fold
  let s2 := if t.fold = 0 ∨ !t.charged ∨ poison then s1
    else match t.wrote with
      | some n => s1.putMeter t.fold { m with writeBytes := m.writeBytes + n }
      | none => if data.isEmpty then s1 else s1.putMeter t.fold { m with readBytes := m.readBytes + data.length }
  s2.answerOrigin t 0 data poison

/-- Complete a request that fails (R17, R159, R160, R183, R231, R257, R412): a CXL.mem read receives poison, a CXL.mem write Cmp, CXL.io a completion
with the status, an engine and a Twill requester the status.  An UPGRADE that fails is followed by RD_OWN (R284). -/
def State.completeError (s : State) (t : Tracker) (status : Nat) : State :=
  if t.wire = 0x442 then { s with fab := { s.fab with resumed := s.fab.resumed ++ [.upgradeFailed t.tag] } } else
  let s1 := s.releaseTracker t
  match t.origin with
  | .host _ _ => if t.wantsData then s1.answerOrigin t 6 (zeros t.len) true else s1.answerOrigin t 0 [] false
  | .engine _ _ => s1.answerOrigin t status [] false
  | _ => if t.posted then s1 else s1.answerOrigin t status [] false

/-- A dropped CXL.mem write still receives Cmp (R17, R160). -/
def State.completeCmp (s : State) (t : Tracker) : State := (s.releaseTracker t).answerOrigin t 0 [] false

/-- The request is a host's CXL.mem write, whose loss is reported as a General Media event (R17, R160). -/
def Tracker.isHostWrite (t : Tracker) : Bool :=
  match t.origin with
  | .host _ _ => t.writes
  | _ => false

end Sys2Proof.Machine
end

