-- ==== Sys2Proof/Machine/Lanes.lean ====
section
/-! DEFINITION. Bits and symbols on a lane: PAM4 levels, the Twill scrambler, SKIP blocks and alignment markers, the test patterns and
their checker, and the coefficient space of a PCIe transmitter (R116, R121, R125 to R129, R134 to R137). -/

namespace Sys2Proof.Machine

/-! ### Symbols (R116) -/

/-- The level of a PAM4 symbol in Gray coding, of its earlier bit [0] and its later bit [1] (R116). -/
def pam4 (b0 b1 : Bool) : Int :=
  match b1, b0 with
  | false, false => -3
  | false, true => -1
  | true, true => 1
  | true, false => 3

/-- The levels of a bit sequence as PAM4, two bits to a symbol. -/
def pam4Levels : List Bool → List Int
  | b0 :: b1 :: r => pam4 b0 b1 :: pam4Levels r
  | _ => []

/-- The `n` low bits of a number, bit [0] first. -/
def lsbFirst (n v : Nat) : List Bool := (List.range n).map (bit v)

/-- The bits of octets in the order of the wire, bit [0] of each first: the order within a flit byte is the model's reading of R116 and R127. -/
def wireBits (l : List Byte) : List Bool := l.flatMap (fun b => lsbFirst 8 b.toNat)

/-! ### The scrambler (R126) -/

/-- The next bit of the scrambler x^31 + x^28 + 1 and its next state; bit [n] of the 31-bit state is the bit sent n + 1 bits before.  Which bit of the
state is the oldest the rule leaves open. -/
def scramblerStep (x : Nat) : Bool × Nat :=
  let b := Bool.xor (bit x 30) (bit x 27)
  (b, (2 * x + b2n b) % 2 ^ 31)

/-- Bits scrambled from a state, and the state after them. -/
def scramble : List Bool → Nat → List Bool × Nat
  | [], x => ([], x)
  | b :: r, x =>
    let k := scramblerStep x
    let z := scramble r k.2
    (Bool.xor b k.1 :: z.1, z.2)

/-- The state of port lane `n` for the first flit bit after an alignment marker (R126). -/
def scramblerSeed (n : Nat) : Nat := 0x7FFFFF00 + n

/-! ### SKIP blocks and alignment markers (R127 to R129) -/

/-- One unit of a SKIP block: 0x0FF0A55A, 16 UI (R129). -/
def skipUnit : Nat := 0x0FF0A55A

/-- The 64 UI of a SKIP block (R129). -/
def skipBits : List Bool := (List.replicate 4 (lsbFirst 32 skipUnit)).flatten

/-- One bit of the CRC-16 of an alignment marker. -/
def crc16Bit (c : Nat) (b : Bool) : Nat :=
  let x := Bool.xor (bit c 15) b
  let d := c * 2 % 65536
  if x then d.xor 0x1021 else d

/-- The CRC-16 of an alignment marker over its bits [127:16] (R127).  DESIGN CHOICE: bit [127] first; the rule gives the polynomial and the initial
value and not the order of the bits. -/
def amCrc (am : Nat) : Nat := (List.range 112).foldl (fun c i => crc16Bit c (bit am (127 - i))) 0xFFFF

/-- The AM_SYNC field. -/
def amSync : Nat := 0xC39A5E617B24

/-- The marker that a lane sends: LANE, the RATE bits, AM_COUNT and the CRC (R127). -/
def amWord (lane rate count : Nat) : Nat :=
  let a := amSync * 2 ^ 80 + lane % 16 * 2 ^ 76 + rate % 4 * 2 ^ 74 + count % 2 ^ 24 * 2 ^ 48
  a + amCrc a

/-- The pattern whose bits are the odd-numbered ones (R128). -/
def oddBits : Nat := 0xAAAAAAAAAAAAAAAAAAAAAAAAAAAAAAAA

/-- A received marker read in either polarity: inverted or not, and the marker as sent; none if it is no marker, fails its CRC, or does not carry the
RATE of the link (R127, R128).  DESIGN CHOICE: a marker of another rate counts as missing. -/
def readAm (rate am : Nat) : Option (Bool × Nat) :=
  let good := fun (x : Nat) => bits x 127 80 == amSync && bits x 15 0 == amCrc x && bits x 75 74 == rate
  if good am then some (false, am) else if good (am.xor oddBits) then some (true, am.xor oddBits) else none

/-- Byte j of a flit goes on lane j mod w (R125). -/
def laneBytes (w n : Nat) (f : List Byte) : List Byte := ((List.range (f.length / w)).map (fun i => f.getD (i * w + n) 0))

/-! ### Test patterns (R134 to R136) -/

/-- Rate codes 6 to 9 signal with PAM4 (R115). -/
def ratePam4 (code : Nat) : Bool := 6 ≤ code && code ≤ 9

/-- The bits back from which each bit of a pattern is the sum (R134): the PRBS polynomials of ITU-T O.150 and IEEE 802.3 (PRESUMED), the repeat of the
user pattern and of the square wave.  SSPRQ has no such rule. -/
def patternTaps (pat : Nat) (pam : Bool) : List Nat :=
  match pat with
  | 0 => [7, 6]
  | 1 => [9, 5]
  | 2 => [11, 9]
  | 3 | 7 => [13, 12, 2, 1]
  | 4 => [15, 14]
  | 5 => [23, 18]
  | 6 | 8 => [31, 28]
  | 10 => [64]
  | 11 => [if pam then 32 else 16]
  | _ => []

/-- The bits that fix a pattern: as many as its longest tap. -/
def patternOrder (pat : Nat) (pam : Bool) : Nat := (patternTaps pat pam).foldl max 0

/-- The bits with which a generator starts: ones for a PRBS (PRESUMED), the user pattern bit [0] first, 8 UI at the top level and 8 at the bottom. -/
def patternStart (pat user : Nat) (pam : Bool) : List Bool :=
  match pat with
  | 10 => lsbFirst 64 user
  | 11 =>
    if pam then (List.replicate 8 [false, true]).flatten ++ List.replicate 16 false
    else List.replicate 8 true ++ List.replicate 8 false
  | _ => List.replicate (patternOrder pat pam) true

/-- The next bit of a pattern from the bits before it, newest first. -/
def patternNext (taps : List Nat) (before : List Bool) : Bool :=
  taps.foldl (fun b d => Bool.xor b (before.getD (d - 1) false)) false

/-- `n` bits of a pattern that follow the bits given newest first, in the order sent. -/
def patternRun (taps : List Nat) : Nat → List Bool → List Bool
  | 0, _ => []
  | n + 1, before =>
    let b := patternNext taps before
    b :: patternRun taps n (b :: before)

/-- Bits [from, from + n) of a generator's output before any error is injected (R134); SSPRQ is a free value. -/
def patternBits (pat user : Nat) (pam : Bool) (from_ n : Nat) : List Bool :=
  if pat = 9 then (List.range n).map (fun i => Config.ssprq (from_ + i)) else
  let start := patternStart pat user pam
  ((start ++ patternRun (patternTaps pat pam) (from_ + n - start.length) start.reverse).drop from_).take n

/-- The bits that are wrong among those that follow the first, which synchronise the checker (R135).  Patterns 10 and 11 are compared with the bits
that their own repeat gives; of SSPRQ the comparison is a free value. -/
def patternErrors (pat : Nat) (pam : Bool) (rx : List Bool) : List Bool :=
  if pat = 9 then (List.range rx.length).map (fun i => Config.ssprqWrong rx i) else
  let k := patternOrder pat pam
  let due := patternRun (patternTaps pat pam) (rx.length - k) (rx.take k).reverse
  (due.zip (rx.drop k)).map (fun e => Bool.xor e.1 e.2)

/-- The received bits let the checker lock (R135): it has synchronised itself from the first of them, and the last 128 are error-free; the bits of
pattern 10 or 11 are those of the pattern at some phase. -/
def patternLocks (pat user : Nat) (pam : Bool) (rx : List Bool) : Bool :=
  let wrong := patternErrors pat pam rx
  let k := patternOrder pat pam
  let cycle := patternStart pat user pam
  128 ≤ wrong.length && (wrong.drop (wrong.length - 128)).all (fun b => !b)
    && (pat < 10 || (List.range k).any (fun i => rx.take k == ((cycle ++ cycle).drop i).take k))
    && (10 ≤ pat || pat == 9 || rx.any id)

/-! ### PCIe coefficients (R121) -/

/-- A coefficient request of a PCIe or CXL partner lies in the space that this transmitter advertises, of full swing FS and low frequency LF: the
rules of the base specification (PRESUMED): |c−1| ≤ FS/4, the magnitudes sum to FS, and the low-frequency level is at least LF. -/
def pcieFits (fs lf pre c0 post : Nat) : Bool := decide (pre ≤ fs / 4) && decide (pre + c0 + post = fs) && decide (lf + pre + post ≤ c0)

end Sys2Proof.Machine
end

