-- ==== Sys2Proof/Machine/Links.lean ====
section
/-! DEFINITION. Links of ports: training, link-up, link-down, DPC, and what becomes of requests whose link failed (R142 to R163, R181 to R184,
R199, R296, R516). -/

namespace Sys2Proof.Machine

/-! ### Link state -/

/-- Set the LTSSM code of a port (R516). -/
def State.setLtssm (s : State) (p code : Nat) : State := s.wrBits (K.PRT_LINK_STATE p) 23 16 code

/-- The lanes of a port are not held in electrical idle: SYS_READY has risen, and no pad is held (R101, R481, R516). -/
def State.lanesFree (s : State) : Bool := s.boot.sysReady && !s.boot.lanesIdle && s.rd K.HRD_PADS_HELD == 0

/-- The port is kept from training: fenced, isolated, in fundamental reset, swept, its reference lost, or its quad under test (R106, R101, R119,
R133, R296, R448). -/
def State.trainingBarred (s : State) (p : Nat) : Bool :=
  !s.lanesFree || s.isolatedPort p || (s.port p).sweeping || s.boot.perstIn.contains p
    || (s.portQuads p).any (fun q => bit (s.rd K.HRD_FENCED_QUADS) q || s.rd (K.SEL_TEST_MODE q) != 0 || !bit (s.rd (K.SEL_QUAD_STATE q)) 0)
    || s.sel.lost.contains (p / 4)

/-- A Twill port's training state: 0 T.OFF to 6 ACTIVE (R188, R194). -/
def State.twillState (s : State) (p : Nat) : Nat := bits (s.rd (K.TWL_STATE p)) 7 4

/-- Enter a training state (R188). -/
def State.setTwillState (s : State) (p n : Nat) : State :=
  let s1 := (s.wrBits (K.TWL_STATE p) 7 4 n).wrBit (K.TWL_STATE p) 0 (n == 6)
  s1.putLink p { s1.link p with stateAt := s1.clk.dtc }

/-- The Twill transmit presets T0 to T7 (R122): magnitudes of c−2 and c−1, c0, magnitude of c+1. -/
def twillPresets : List (Nat × Nat × Nat × Nat) :=
  [(0, 0, 63, 0), (0, 0, 55, 8), (0, 4, 51, 8), (0, 8, 47, 8), (2, 8, 49, 4), (4, 12, 43, 4), (4, 12, 35, 12), (0, 8, 39, 16)]

/-- The word of SEL_TX_COEFF (R141). -/
def coeffWord (c : Nat × Nat × Nat × Nat) : Nat := c.1 * 2 ^ 24 + c.2.1 * 2 ^ 16 + c.2.2.1 * 2 ^ 8 + c.2.2.2

/-- The state of a quad. -/
def State.selQuad (s : State) (q : Nat) : SelQuad := Sparse.get (fun _ => {}) s.sel.quads q

/-- Set the state of a quad. -/
def State.putSelQuad (s : State) (q : Nat) (x : SelQuad) : State :=
  { s with sel := { s.sel with quads := Sparse.set (fun _ => {}) s.sel.quads q x } }

/-- The lane of a margin word. -/
def marginLane (c : Nat) : Nat := bits c 29 28

/-- The status and error count of a lane's margin result (R139).  DESIGN CHOICE: an aborted run, for which R140 gives the status alone, reads no
errors. -/
def State.putMargin (s : State) (q lane status errors : Nat) : State :=
  s.wr (K.SEL_MARGIN_RESULT q lane) (status * 2 ^ 62 + sat 48 errors)

/-- Abort the margin run of a quad (R140). -/
def State.marginAbort (s : State) (q : Nat) : State :=
  match (s.selQuad q).run with
  | some c => (s.putSelQuad q { s.selQuad q with run := none }).putMargin q (marginLane c) 3 0
  | none => s

/-- Abort the margin runs of a port's quads (R140). -/
def State.abortMargins (s : State) (p : Nat) : State := forEach (s.portQuads p) State.marginAbort s

/-- The rate of the quads of a port (R115, R141).  A rate change, and a link-down with it, aborts their margin runs (R140). -/
def State.setQuadRate (s : State) (p code : Nat) : State :=
  forEach (s.portQuads p) (fun s q => s.wr (K.SEL_QUAD_RATE q) code) (s.abortMargins p)

/-- The `n` lowest lanes of a port have CDR lock, the others have not (R132, R141). -/
def State.setCdr (s : State) (p n : Nat) : State :=
  forEach (s.portQuads p) (fun s q => s.wrBits (K.SEL_QUAD_STATE q) 7 4 (2 ^ min 4 (n - 4 * (q - p)) - 1)) s

/-- The receivers of a port's quads have trained (R123). -/
def State.rxTrained (s : State) (p : Nat) : State :=
  forEach (s.portQuads p) (fun s q => s.putSelQuad q { s.selQuad q with trained := s.now }) s

/-- Where the equaliser of a lane's receiver stands (R123): CTLE peaking of 0 to 20 dB, 24 FFE taps and one DFE tap.  It adapts until now, or holds what
training gave it. -/
def State.rxEqualiser (s : State) (lane : Nat) : Nat × List Int × Int :=
  let q := lane / 4
  let e := Config.rxEqualiser lane (if s.rd (K.SEL_RX_ADAPT q) = 0 then s.now else (s.selQuad q).trained)
  (e.1 % 21, (List.range 24).map (fun i => e.2.1.getD i 0), e.2.2)

/-- A lane is up (R132): its quad runs, and it has CDR lock or is under test. -/
def State.laneUp (s : State) (lane : Nat) : Bool :=
  let q := lane / 4
  s.rd (K.SEL_QUAD_RATE q) != 0 && (bit (s.rd (K.SEL_QUAD_STATE q)) (4 + lane % 4) || s.rd (K.SEL_TEST_MODE q) != 0)

/-- The margin runs that wait for an equalisation are dropped with its link (R140). -/
def State.dropWaiting (s : State) (p : Nat) : State :=
  forEach (s.portQuads p) (fun s q => match (s.selQuad q).runWaits with
    | some c => (s.putSelQuad q { s.selQuad q with runWaits := none }).putMargin q (marginLane c) 3 0
    | none => s) s

/-- A re-equalisation ends with its link, and its grant is released (R117, R124). -/
def State.reeqDrop (s : State) (p : Nat) : State :=
  if s.sel.reeqs.any (fun r => r.port == p) then
    State.govRelease { s with sel := { s.sel with reeqs := s.sel.reeqs.filter (fun r => r.port != p) } } (16 + p)
  else s

/-- The lanes of a port go to electrical idle (R117): no rate, no CDR lock, no equalisation, no margin run, of its own or of a partner's, no framing. -/
def State.lanesOff (s : State) (p : Nat) : State :=
  let s1 := (((s.setQuadRate p 0).setCdr p 0).reeqDrop p).dropWaiting p
  { s1 with sel := { s1.sel with
    tx := Sparse.erase p s1.sel.tx
    fill := Sparse.erase p s1.sel.fill
    partner := s1.sel.partner.filter (fun l => !(s.portQuads p).contains (l / 4)) } }

/-! ### Twill transmit framing (R125 to R129) -/

/-- The framing of a Twill port's transmitters. -/
def State.framing (s : State) (p : Nat) : TxFraming := Sparse.get (fun _ => {}) s.sel.tx p

/-- Set the framing of a Twill port's transmitters. -/
def State.putFraming (s : State) (p : Nat) (x : TxFraming) : State :=
  { s with sel := { s.sel with tx := Sparse.set (fun _ => {}) s.sel.tx p x } }

/-- Flits are striped from T.INIT on; before, every lane carries flits of its own (R188). -/
def State.striped (s : State) (p : Nat) : Bool := 5 ≤ s.twillState p || bit (s.rd (K.TWL_STATE p)) 0

/-- The lanes on which a Twill port sends: all of them until T.INIT, then those of the chosen width (R188, R189). -/
def State.txLanes (s : State) (p : Nat) : Nat :=
  if s.striped p then 2 ^ bits (s.rd (K.TWL_STATE p)) 15 12 else 4 * (s.portQuads p).length

/-- The lanes send bits, from lane 0 on, as PAM4; SEL_TX_INVERT inverts a lane (R116, R141, R145). -/
def State.sendLanes (s : State) (p : Nat) (l : List (List Bool)) : State :=
  s.emit (.lanes p ((List.range l.length).map (fun n =>
    let v := pam4Levels (l.getD n [])
    if bit (s.rd (K.SEL_TX_INVERT (p + n / 4))) (n % 4) then v.map (fun x => -x) else v)))

/-- All lanes send an alignment marker, and their scramblers start afresh (R125 to R127).  DESIGN CHOICE: AM_COUNT counts the markers before the one that
carries it, so the first carries 0; R127 does not say whether it counts itself. -/
def State.sendMarker (s : State) (p : Nat) : State :=
  let x := s.framing p
  let n := s.txLanes p
  (s.putFraming p { x with skips := 0, markers := (x.markers + 1) % 2 ^ 24, scramblers := (List.range n).map scramblerSeed }).sendLanes p
    ((List.range n).map (fun j => lsbFirst 128 (amWord j (s.rd (K.SEL_QUAD_RATE p) - 8) x.markers)))

/-- After 64 flit-times the lanes send a SKIP block; every 64th is preceded by a marker (R125). -/
def State.skipDue (s : State) (p : Nat) : State :=
  let x := s.framing p
  if x.times < 64 then s else
  let s1 := s.putFraming p { x with times := 0, skips := x.skips + 1 }
  (when (63 ≤ x.skips) (·.sendMarker p) s1).sendLanes p (List.replicate (s.txLanes p) skipBits)

/-- The marker at which a Twill port switches its rate, its striping or its equalisation (R188, R191), with the SKIP block that follows a marker; the
count of flit-times starts anew.  DESIGN CHOICE: the switch does not wait for the flit-times left to the next marker of the cadence: of the idle flits that
would fill them the model sends none. -/
def State.switchMarker (s : State) (p : Nat) : State :=
  ((s.putFraming p { s.framing p with times := 0, flits := 0 }).sendMarker p).sendLanes p (List.replicate (s.txLanes p) skipBits)

/-- The lanes send scrambled bits, one stream for each (R126). -/
def State.sendScrambled (s : State) (p : Nat) (l : List (List Bool)) : State :=
  let x := s.framing p
  let z := (List.range l.length).map (fun n => scramble (l.getD n []) (x.scramblers.getD n (scramblerSeed n)))
  (s.putFraming p { x with scramblers := z.map (·.2) }).sendLanes p (z.map (·.1))

/-- A Twill port sends a flit: striped byte by byte over its lanes, W of them in a flit-time, or before T.INIT whole on every lane (R125, R188). -/
def State.sendFlit (s : State) (p : Nat) (f : List Byte) : State :=
  let w := s.txLanes p
  let s1 := s.emit (.flit p f)
  let s2 := s1.sendScrambled p ((List.range w).map (fun n => wireBits (if s.striped p then laneBytes w n f else f)))
  let x := s2.framing p
  let n := x.flits + 1
  (s2.putFraming p (if s.striped p && decide (n < w) then { x with flits := n } else { x with flits := 0, times := x.times + 1 })).skipDue p

/-- Every lane of a Twill port sends a flit of its own in one flit-time (R188). -/
def State.sendOwn (s : State) (p : Nat) (fs : List (List Byte)) : State :=
  let s1 := (forEach fs (fun s f => s.emit (.flit p f)) s).sendScrambled p (fs.map wireBits)
  (s1.putFraming p { s1.framing p with times := (s1.framing p).times + 1 }).skipDue p

/-- A Twill transmitter starts training with its preset (R122). -/
def State.presetTx (s : State) (p : Nat) : State :=
  forEach (s.portQuads p) (fun s q => forEach [0, 1, 2, 3] (fun s j =>
    s.wr (K.SEL_TX_COEFF q j) (coeffWord (twillPresets.getD (s.rd (K.SEL_TWILL_PRESET q)) (0, 0, 63, 0)))) s) s

/-- The alignment of a Twill port. -/
def State.alignment (s : State) (p : Nat) : LaneAlignment := Sparse.get (fun _ => {}) s.sel.align p

/-- Set the alignment of a Twill port. -/
def State.putAlignment (s : State) (p : Nat) (a : LaneAlignment) : State :=
  { s with sel := { s.sel with align := Sparse.set (fun _ => {}) s.sel.align p a } }

/-- Start the training of a port's link: Detect on PCIe and CXL, T.ALIGN on Twill (R100, R188).  On a group that carries spread spectrum a Twill port
stays in training (R83). -/
def State.startTraining (s : State) (p : Nat) : State :=
  if s.role p = 0 then s
  else if s.role p = 3 then
    if s.trainingBarred p ∨ bit (s.rd (K.TWL_STATE p)) 1 then s else
    let x := s.link p
    let s1 := (s.putLink p { x with config := none, configAck := false, initSent := false, initAck := false, eqDone := 0, restartAt := none,
                                    retrain := none, cfgLanes := 0 }).putAlignment p {} |>.setTwillState p 1 |>.presetTx p |>.setQuadRate p 8
    when (s.sel.spread.contains (p / 4)) (·.raise F.SEL_SSC_CONFLICT (elemPort p)) ((s1.putFraming p {}).sendMarker p)
  else if s.trainingBarred p ∨ bit (s.rd (K.PRT_LINK_STATE p)) 2 then s
  else s.setLtssm p 0x00

/-- Fence a quad (R106, R120). -/
def State.setQuadFence (s : State) (q : Nat) : State :=
  let p := s.portOfQuad q
  let s1 := (s.wrBit K.HRD_FENCED_QUADS q true).wrBit (K.SEL_QUAD_STATE q) 2 true
  if s.role p = 3 then s1.wrBit (K.TWL_STATE p) 2 true else (s1.wrBit (K.PRT_LINK_STATE p) 1 true).setLtssm p 0xFF

/-! ### Credits that a port advertises (R199) -/

/-- The share of a channel in the excess cells, by channel number in the order of R199. -/
def creditShare (ch : Nat) : Nat := [64, 32, 64, 64, 96, 32, 32, 96, 64].getD ch 0

/-- The credits of a channel, header and data, for a reserve of `r` cells (R199). -/
def creditsFor (ch r : Nat) : Nat × Nat :=
  let x := (r - 160) * creditShare ch / 352
  match ch with
  | 0 => (2 + x / 16, 256 + 60 * (x / 16) + 4 * (x % 16))
  | 1 => (8 + 3 * (x / 4) + x % 4, 16 + 4 * (x / 4))
  | 2 => (2 + x / 16, 256 + 60 * (x / 16) + 4 * (x % 16))
  | 3 => (4 + x, 0)
  | 4 => (4 + x / 2, 0)
  | 5 => (4 + x, 0)
  | 6 => (4 + x, 0)
  | 7 => (4 + x / 2, 0)
  | _ => (4 + x, 0)

/-- The channels of a role: an upstream port's and a downstream port's (R199). -/
def roleChannels (role : Nat) : List Nat := if role = 1 then [0, 1, 2, 3, 4, 5] else [0, 1, 2, 6, 7, 8]

/-! ### Re-issue and failure over Twill (R183) -/

/-- The request may be re-issued once (R183, R282). -/
def Tracker.idempotent (t : Tracker) : Bool :=
  [0x401, 0x402, 0x601, 0x602, 0x701, 0x702, 0x440, 0x441, 0x443, 0x444, 0x447, 0x348, 0x103, 0x104, 0x105].contains t.wire

/-- The message of a request (R170 to R172), as it leaves for its target. -/
def reqMsg (s : State) (t : Tracker) : TwillMsg :=
  let src := match t.origin with
    | .twill _ src _ => src
    | .host p _ => s.device * 256 + s.rd (K.PRT_LD_FEID p 0)
    | .blw target _ => if target / 256 = s.device then target else s.device * 256
    | _ => s.device * 256
  let tag := match t.origin with
    | .twill _ _ tag => tag
    | _ => t.tag
  let data := if [0x440, 0x441, 0x442, 0x443, 0x447].contains t.wire then [] else if t.op = .partialWrite then fit 64 (zeros (t.addr % 64) ++ t.data) else if t.writes ∨ t.op = .io then t.data else []
  let io := decide (t.op = .io)
  { mkMsg src t.target (t.wire / 256) (t.wire % 256) tag with
    ext := !io, dcnt := ceilDiv data.length 64, fold := t.fold, addr := t.addr, word3 := if io then 0 else t.extension, data := data,
    len := if io then t.len else 0, hops := s.rd K.TWL_HOP_LIMIT
    poisoned := t.poison, status := if t.poison then 6 else 0 }

/-- A request's target has no route, or does not exist (R17, R154, R408). -/
def State.unrouted (s : State) (t : Tracker) : State :=
  let s1 := when (t.target == s.device * 256 + 1 && !cmnFits t.addr (max 1 t.len)) State.cmnRangeError s
  let s2 := match t.who.port with
    | some p => when (t.isHostWrite || t.posted) (·.bump (K.PRT_POSTED_DROPPED p)) s1
    | none => s1
  (when t.isHostWrite (·.mediaEvent t.fold t.addr) s2).completeError t 2

/-- A request was already sent, or waits, on a Twill link that failed (R183): a local source re-issues it once if it is idempotent and a route
remains, or completes it with LINK_FAIL; a coherence request of Bellwether's is handed back to it.  Gatepost checks the re-issue as a new request (R248),
but not what it never checks (R249); one that had not yet passed Paddock goes through it as it would have (R304). -/
def State.failSource (s : State) (t : Tracker) (status : Nat) : State :=
  let tw := when (decide (t.egress < 64)) (·.bump (K.TWL_REISSUED t.egress)) 
  if status = 4 ∧ t.idempotent ∧ !t.reissued then
    let waits := t.need != 0 && !t.passed
    match (if waits ∨ t.need = 0 then none else s.gtpDenied t.who t.target t.addr (max 1 t.len) t.need) with
    | some d =>
      let s1 := s.gtpViolation t.who t.target t.addr t.len t.kind t.need false d
      (when (t.fold != 0) (fun s => s.putMeter t.fold { s.meter t.fold with violations := (s.meter t.fold).violations + 1 }) s1).completeError t 3
    | none =>
      let tag := s.freeTag
      let t1 : Tracker := { t with tag := tag, reissued := true, sentAt := none }
      let m := reqMsg s t1
      match s.gangFor m with
      | none =>
        match t.origin with
        | .blw _ _ => s.completeError t 2
        | _ => s.unrouted t
      | some g =>
        let s1 : State := { s with fab := { s.fab with
          trackers := s.fab.trackers.filter (fun x => x.tag != t.tag) ++ [{ t1 with egress := g }], nextTag := (tag + 1) % 65536 } }
        let s2 : State := match t.origin with
          | .blw target line => { s1 with fab := { s1.fab with resumed := s1.fab.resumed ++ [.retagged target line t.tag tag] } }
          | _ => s1
        let a := (tw s2).admitMsg { id := 0, place := .queue, m := m, ingress := t.ingress, egress := g, track := some tag }
        let s3 : State := { a.2 with fab := { a.2.fab with resumed := a.2.fab.resumed ++ [.reissued tag] } }
        if a.1.place = .source then s3 else if waits then s3.moveMsg { a.1 with place := .held } else
          let r := s3.stampRs a.1.m
          r.2.linkQueue { a.1 with m := r.1 }
  else
    let s1 := when t.isHostWrite (fun s => (s.mediaEvent t.fold t.addr).bump (K.PRT_POSTED_DROPPED (t.who.port.getD 0))) s
    s1.completeError t status

/-- A transit tracker fails (R183): LINK_FAIL goes back on the link by which the request arrived, if that link knows it. -/
def State.failTransit (s : State) (t : Tracker) (failed : Nat) : State :=
  let s1 : State := { s with fab := { s.fab with transit := s.fab.transit.filter (fun x => x != t) } }
  match t.origin with
  | .twill p src tag =>
    if s.linkUp p ∧ bit (s.rd (K.TWL_CAPS_COMMON p)) 4 then
      let m := { mkMsg (s.device * 256) src 2 1 tag with status := 4, hops := s.rd K.TWL_HOP_LIMIT }
      let r := if bit (s.rd (K.TWL_CAPS_COMMON p)) 1 then s1.stampRs m else (m, s1)
      r.2.sendMsg { id := 0, place := .queue, m := r.1, ingress := 79, egress := p, response := true }
    else s1.bump (K.TWL_FAILED_TRACKERS failed)
  | _ => s1

/-! ### Link-down (R160, R161, R182, R217) -/

/-- The request is a CXL.mem write from a host, a CXL.io master or an engine of this device. -/
def Tracker.localWrite (t : Tracker) : Bool :=
  t.writes && t.op != .io && t.op != .atomic && (match t.origin with
    | .host _ _ | .io _ _ | .engine _ _ => true
    | _ => false)

/-- A stream of the port is insecure: it accepts no traffic until new keys are programmed (R158). -/
def State.insecure (s : State) (p : Nat) : Bool := (s.port p).ide.any (fun e => e.2 == 3)

/-- A message for a port whose link is down: the answers of R160.  DESIGN CHOICE: a requester on another device is told LINK_FAIL, and R183 rules there
(log 111). -/
def State.answerDown (s : State) (p : Nat) (x : LMsg) : State :=
  let s1 := s.dropMsg x.id
  if x.response then s1
  else if x.cls = 1 ∨ x.cls = 2 ∨ x.cls = 3 then
    { s1 with fab := { s1.fab with resumed := s1.fab.resumed ++ [.lost x] } }
  else match x.track.bind s.tracker with
    | none => if (x.tlp.map (fun t => t.kind == .memWr || t.kind == .message)).getD false then s1.bump (K.PRT_POSTED_DROPPED p) else s1
    | some t =>
      if t.posted then
        (match t.origin with
         | .engine _ _ => (s1.bump (K.PRT_POSTED_DROPPED p)).completeError t 4
         | _ => (s1.bump (K.PRT_POSTED_DROPPED p)).releaseTracker t)
      else if t.localWrite then (s1.bump (K.PRT_POSTED_DROPPED p)).mediaEvent t.fold t.addr |>.completeCmp t
      else if t.writes ∧ t.op ≠ .io ∧ t.op ≠ .atomic then (s1.bump (K.PRT_POSTED_DROPPED p)).completeError t 4
      else (s1.bump (K.PRT_NP_ERRORED p)).completeError t (match t.origin with
        | .engine _ _ => if t.op = .io then 1 else 6
        | _ => 4)

/-- A port takes no new message: its link is down, or a stream of it is insecure, which R158 treats alike; no CXL.mem request leaves on a downstream port
that has CXL.mem disabled (R164).  DESIGN CHOICE: that request is answered as for a link that is down. -/
def State.barred (s : State) (x : LMsg) : Bool :=
  decide (x.egress < 64) && s.role x.egress != 3
    && (!s.linkUp x.egress || s.insecure x.egress
      || (s.role x.egress == 2 && x.tlp.isNone && !x.response && 2 ≤ x.cls && !bit (s.rd (K.PRT_CXL_ENABLE x.egress)) 1))

/-- A message that passed its checks goes toward its queue: its source device numbers it (R212); a port whose link is down answers as in R160. -/
def State.linkNew (s : State) (x : LMsg) : State :=
  if s.barred x then s.answerDown x.egress x
  else if x.m.src / 256 ≠ s.device then s.linkQueue x
  else
    let r := s.stampRs x.m
    r.2.linkQueue { x with m := r.1 }

/-- Messages of a gang that have not left the device. -/
def State.msgsFor (s : State) (g : Nat) : List LMsg := s.fab.loom.msgs.filter (fun x => x.egress == g)

/-- What every link-down does to the gang's queues: spilled messages are counted as discarded, deficits end (R217, R313). -/
def State.reclaim (s : State) (g : Nat) : State :=
  let n := (s.fab.loom.msgs.filter (fun x => x.egress == g && x.place == .store)).length
  let s1 := (s.add K.LOM_OVF_DISCARDED n).putChain g {}
  { s1 with fab := { s1.fab with pdk := { s1.fab.pdk with deficits := s1.fab.pdk.deficits.filter (fun e => e.1 / 1024 != g) } } }

/-- A request for a bulk flush of Bellwether (R300): its 4 GU are asked for at once. -/
def State.askFlush (s : State) (f : BulkFlush) : State :=
  let s1 : State := { s with blw := { s.blw with flushes := s.blw.flushes ++ [f] } }
  s1.govRequest 81 4

/-- The link of a PCIe or CXL port goes down (R160, R161, R296). -/
def State.portDown (s : State) (p : Nat) : State :=
  if !s.linkUp p then s else
  let s1 := (((s.wrBit (K.PRT_LINK_STATE p) 0 false).setLtssm p 0x00).bump (K.PRT_LINKDOWNS p)).cicRaise (0x40 + p) |>.lanesOff p
  let s2 := s1.putPort p { s1.port p with
    gen := (s1.port p).gen + 1
    downAt := s1.clk.dtc, credits := [], sweeping := s1.role p == 1, capacity := (s1.port p).capacity.map (fun c => (c.1, c.2.1, c.2.2.1, false)) }
  let s3 := s2.reclaim p
  let s4 := forEach (s3.msgsFor p) (fun s x => s.answerDown p x) s3
  let s5 : State := { s4 with fab := { s4.fab with trackers := s4.fab.trackers.map (fun t =>
    if t.egress = p ∧ t.sentAt.isSome then { t with stale := true } else t) } }
  when (s5.role p == 1) (fun s =>
    State.askFlush { s with fab := { s.fab with portResets := s.fab.portResets ++ [p] } }
      { kind := 0, port := p, fold := 0, running := false, since := s.clk.dtc }) s5

/-- A message queued for a Twill link that failed (R182, R183). -/
def State.failMsg (s : State) (p : Nat) (x : LMsg) : State :=
  let s1 := s.dropMsg x.id
  if x.response then s1.bump (K.TWL_FAILED_TRACKERS p)
  else if x.cls = 1 ∨ (x.cls = 3 ∧ x.m.opcode = 0x48) then
    match x.track.bind s.tracker with
    | some t => s1.failSource t 4
    | none => { s1 with fab := { s1.fab with resumed := s1.fab.resumed ++ [.lost x] } }
  else if x.cls = 2 ∨ x.cls = 3 then s1.bump (K.TWL_FAILED_TRACKERS p)
  else match x.track.bind s.tracker with
    | some t => s1.failSource t 4
    | none =>
      match s.fab.transit.find? (fun t => t.egress == p && (match t.origin with | .twill _ src tag => src == x.m.src && tag == x.m.tag | _ => false)) with
      | some t => s1.failTransit t p
      | none => s1

/-- Give back the egress credits that a staged message has consumed (R207). -/
def State.refund (s : State) (x : LMsg) : State :=
  if (x.place != .staged && x.sent == 0) || decide (64 ≤ x.egress) || !s.linkUp x.egress then s
  else if s.role x.egress = 3 then
    let l := s.link x.egress
    let c := x.cls
    s.putLink x.egress { l with
      consumedH := l.consumedH.set c ((l.consumedH.getD c 0 + 4095) % 4096)
      consumedD := l.consumedD.set c ((l.consumedD.getD c 0 + 65536 - (twillForm x).dcnt) % 65536) }
  else
    let p := s.port x.egress
    let ch := channelOf s x true
    let c := Sparse.get (fun _ => (0, 0)) p.credits ch
    s.putPort x.egress { p with credits := Sparse.set (fun _ => (0, 0)) p.credits ch (c.1 + (creditCost s x).1, c.2 + (creditCost s x).2) }

/-- The overflow store lets go of its oldest message of an output: chunks that are emptied return to the free list (R216). -/
def State.unchain (s : State) (x : LMsg) : State :=
  let c := s.chain x.egress
  if (s.queueOf .store x.egress 7).length ≤ 1 then s.putChain x.egress {} else
  let b := (x.chainAt + x.cells) / 1024
  s.putChain x.egress { c with chunks := c.chunks.drop (b - c.base), base := b }

/-- Messages of which the ingress stopped before writing every cell are discarded, and nothing of them is transmitted (R207); the store lets go of one
that is its output's oldest, and of a later one with those before it. -/
def State.truncate (s : State) (p : Nat) : State :=
  forEach (s.fab.loom.msgs.filter (fun x => !x.written && x.ingress == p)) (fun s x =>
    let oldest := x.place == .store && (s.queueOf .store x.egress 7).head?.map (·.id) == some x.id
    let s1 := (when oldest (·.unchain x) (s.refund x)).unlist x.id
    match x.track.bind s1.tracker with
    | some t => s1.releaseTracker t
    | none => { s1 with fab := { s1.fab with transit := s1.fab.transit.filter (fun t =>
        !(match t.origin with | .twill q src tag => q == p && src == x.m.src && tag == x.m.tag | _ => false)) } }) s

/-- The link of a Twill port goes down (R182): its trackers fail at once, nothing of it is resurrected. -/
def State.twillDown (s : State) (p : Nat) : State :=
  if !s.linkUp p then (s.setTwillState p 0).lanesOff p else
  let s1 := (((s.setTwillState p 0).wrBit (K.TWL_STATE p) 3 false).cicRaise (0x80 + p)).lanesOff p
  let x := s1.link p
  let cut := x.streams.filter (fun e => !e.2.isEmpty)
  let s2 := forEach cut (fun s _ => ((s.bump K.LOM_TRUNCATED).raise F.LOM_TRUNCATED (elemPort p)).cicRaise 0x102)
    (((s1.truncate p).putLink p { downs := x.downs, windowAt := x.windowAt }).putPort p { s1.port p with gen := (s1.port p).gen + 1 })
  let s3 := s2.reclaim p
  let s4 := forEach (s3.msgsFor p) (fun s x => s.failMsg p x) s3
  let sent := s4.fab.trackers.filter (fun t => t.egress == p && t.sentAt.isSome)
  let s5 := forEach sent (fun s t => if (s.tracker t.tag) = some t then s.failSource t 4 else s) s4
  forEach (s5.fab.transit.filter (fun t => t.egress == p)) (fun s t => s.failTransit t p) s5

/-- A Twill link-down that R181 counts: TWL_LINK_DOWN, training again at once, and the port's disabling at the third within 60 s. -/
def State.healthDown (s : State) (p : Nat) : State :=
  if !s.linkUp p then s else
  let s1 := ((s.twillDown p).bump (K.TWL_LINKDOWNS p)).raiseD F.TWL_LINK_DOWN (elemPort p) (s.rd (K.TWL_STATE p)) 0 0
  let x := s1.link p
  let downs := s1.clk.dtc :: x.downs.filter (fun t => s1.clk.dtc < t + 60 * 10 ^ 9)
  let s2 := s1.putLink p { x with downs := downs }
  if 3 ≤ downs.length then
    (((s2.putLink p { x with downs := [] }).wrBit (K.TWL_STATE p) 1 true).raise F.TWL_LINK_DISABLED (elemPort p)).cicRaise (0x80 + p)
  else s2.startTraining p

/-- A framing loss of a Twill link (R130, R131, R181). -/
def State.framingLoss (s : State) (p : Nat) : State := if s.role p = 3 then s.healthDown p else s

/-- A link goes down, or a training or a test ends, for a reason inside the device: a clock, a fence, a reset.  The lanes go to electrical idle (R117,
R119, R120). -/
def State.dropLink (s : State) (p : Nat) : State :=
  if s.linkUp p ∧ s.role p = 3 then s.healthDown p
  else if s.role p = 3 then s.twillDown p
  else if s.role p = 0 then (s.lanesOff p).wr (K.SEL_PRBS_LOCK p) 0
  else if s.linkUp p then s.portDown p
  else s.lanesOff p

/-- Trigger DPC (R162): the link is held down. -/
def State.triggerDpc (s : State) (p : Nat) : State :=
  if s.role p = 2 ∧ s.rd (K.PRT_DPC_ENABLE p) = 1 then (s.wrBit (K.PRT_LINK_STATE p) 2 true).setLtssm p 0x17 else s

/-- The port is directly bound: the upstream port and vPPB that name it (R150). -/
def State.boundTo (s : State) (p : Nat) : Option (Nat × Nat) :=
  ((List.range 64).flatMap (fun u => (List.range 6).map (fun i => (u, i)))).find?
    (fun e => s.role e.1 == 1 && s.rd (K.PRT_VPPB_BIND e.1 e.2) == p)

/-- A violation of a link partner (R163): counted, and recorded under its source. -/
def State.portViolation (s : State) (p src : Nat) (head : List Byte) : State :=
  (s.bump (K.PRT_VIOLATIONS p)).raiseD src (elemPort p) (s.rd (K.PRT_LINK_STATE p)) (field head 0 8) (field head 8 8)

/-- An error that the base specification defines is reported through AER (R148, R163): the status bit and the TLP header of the port's function, and
unless it is masked a message to the host of the virtual switch that holds it.  The bits are PRESUMED from the base specification: 5 surprise down, 12 poisoned TLP,
13 flow-control protocol error, 14 completion timeout, 16 unexpected completion, 18 malformed TLP, 20 unsupported request, 21 ACS violation. -/
def State.aerLog (s : State) (p b : Nat) (header : List Byte) : State :=
  let x := s.port p
  let s1 := s.putPort p { x with aerStatus := putBit x.aerStatus b true, aer := if header.isEmpty then x.aer else x.aer ++ [header] }
  match (if bit x.aerMask b then none else if s.role p = 1 then some p else (s.boundTo p).map (·.1)) with
  | some h => (s1.emit (.aerMsg h b)).cicRaise (0x40 + h)
  | none => s1

/-- LINK_DOWN: a surprise link-down, an error that a downstream port reports through AER (R148, R160, R162). -/
def State.linkDownEvent (s : State) (p : Nat) : State :=
  if 64 ≤ p ∨ s.role p = 3 ∨ !s.linkUp p then s else
  when (s.role p == 2) (·.aerLog p 5 []) ((s.portDown p).triggerDpc p)

/-- DPC is released (R162): by the bound host, or by Croft once the queue memory is reclaimed (10 µs); the port retrains. -/
def State.dpcRelease (s : State) (p : Nat) : State :=
  if 64 ≤ p ∨ !bit (s.rd (K.PRT_LINK_STATE p)) 2 ∨ ((s.boundTo p).isNone ∧ s.clk.dtc < (s.port p).downAt + 10000) then s
  else ((s.wrBit (K.PRT_LINK_STATE p) 2 false).setLtssm p 0x00).startTraining p

/-- Send the advertised credits of a port that came up (R199). -/
def State.advertise (s : State) (p : Nat) : State :=
  forEach (roleChannels (s.role p)) (fun s ch =>
    let c := creditsFor ch (s.rd (K.LOM_INGRESS_RESERVE p))
    s.emit (.credits p ch c.1 c.2)) s

/-- The base-2 logarithm of a width. -/
def log2w (w : Nat) : Nat := if w = 16 then 4 else if w = 8 then 3 else if w = 4 then 2 else if w = 2 then 1 else 0

/-- A PCIe or CXL partner asks the transmitter of a port lane for a preset or for coefficients (R121): every preset of the specification is offered, and
coefficients of the advertised space are accepted. -/
def State.eqRequest (s : State) (p rate : Nat) (r : EqRequest) : State :=
  let ok := decide (r.lane < 4 * (s.portQuads p).length) && (match r.preset with
    | some n => decide (n ≤ 10)
    | none => pcieFits Config.txSpace.1 Config.txSpace.2 r.coeffs.1 r.coeffs.2.1 r.coeffs.2.2)
  let c := match r.preset with
    | some n => Config.pciePreset rate n
    | none => r.coeffs
  (when ok (·.wr (K.SEL_TX_COEFF (p + r.lane / 4) (r.lane % 4)) (coeffWord (0, c.1 % 256, c.2.1 % 256, c.2.2 % 256))) s).emit (.eqAnswer p r.lane ok)

/-- Equalisation on a PCIe or CXL port at 8 GT/s and above (R121): a downstream port names presets in phase 0, both ends send FS and LF in phase 1, an
upstream port asks for its partner's settings in phase 2 and a downstream port in phase 3, and the partner's own requests are answered.  Which end acts in
which phase is that of the base specification (PRESUMED); what this device asks is a free value. -/
def State.equalise (s : State) (p rate : Nat) (l : List EqRequest) : State :=
  if rate < 3 then s else
  let up := s.role p == 1
  let ask := fun (phase : Nat) => (List.range (4 * (s.portQuads p).length)).map (fun j => Config.eqAsk phase (4 * p + j) s.now)
  let s1 := when (!up) (·.emit (.eqPhase p 0 (ask 0))) s
  let s2 := s1.emit (.eqPhase p 1 [(Config.txSpace.1, Config.txSpace.2, 0)])
  let own := fun (s : State) => s.emit (.eqPhase p (if up then 2 else 3) (ask (if up then 2 else 3)))
  let theirs := fun (s : State) => forEach l (fun s r => s.eqRequest p rate r) s
  if up then theirs (own s2) else own (theirs s2)

/-- The PCIe and CXL ports of a group that carries spread spectrum use SRIS (R83, R118). -/
def State.sris (s : State) (p : Nat) : Bool :=
  (s.role p == 1 || s.role p == 2) && (s.rd (K.SEL_REFCLK_SSC (p / 4)) == 1 || s.sel.spread.contains (p / 4))

/-- A group is found to carry spread spectrum: its Twill ports stay in training, with the fault that training raises there (R83). -/
def State.spreadFound (s : State) (g : Nat) : State :=
  if s.sel.spread.contains g then s else
  let s1 : State := { s with sel := { s.sel with spread := g :: s.sel.spread } }
  forEach ([4 * g, 4 * g + 1, 4 * g + 2, 4 * g + 3].filter (fun p => s.role p == 3)) (fun s p => (s.twillDown p).startTraining p) s1

/-- The rates at which a CXL link runs (R147): in 68B Flit mode 8 to 32 GT/s, in 256B Flit mode 32 to 128 GT/s, and 128 GT/s only where it is enabled. -/
def cxlRate (flit256 : Bool) (rate enable : Nat) : Bool :=
  if flit256 then 5 ≤ rate && (rate != 7 || bit enable 3) else 3 ≤ rate && rate ≤ 5

/-- A link that lost a lane retrains narrower (R36): its traffic was paused, and goes on. -/
def State.retrainNarrow (s : State) (p : Nat) (i : LinkInfo) : State :=
  let w := s.rd (K.PRT_LINK_STATE p)
  if 2 ^ bits w 15 12 ≤ i.width ∨ s.rd (K.PRT_MAX_RATE p) < i.rate then s else
  (((s.wrBits (K.PRT_LINK_STATE p) 15 12 (log2w i.width)).wrBits (K.PRT_LINK_STATE p) 11 8 i.rate).setQuadRate p i.rate).setCdr p i.width
    |>.cicRaise (0x40 + p)

/-- Croft, the key-management requester of a downstream port, generates a key for each direction of the port's streams and sends its first message
(R157); for CXL.cachemem it asks for the mode of PRT_IDE_MODE. -/
def State.ideStart (s : State) (p : Nat) (doe : Bool) : State :=
  let streams := if s.rd (K.PRT_IDE_MODE p) = 0 then [0, 1] else [0, 1, 2, 3]
  let s1 := s.putPort p { s.port p with ideKeys := streams.map (fun i => (i, Config.ideKey (s.fresh + i))) }
  State.emit { s1 with fresh := s1.fresh + 4 } (.ideRequest p doe (s.rd (K.PRT_IDE_MODE p)))

/-- LINK_UP (R4, R100, R121, R146, R147, R151, R161): a trained PCIe or CXL link carries traffic; its credits start afresh.  DESIGN CHOICE: a link that
reports CXL at a rate that R147 excludes runs plain PCIe. -/
def State.linkUpEvent (s : State) (p : Nat) (i : LinkInfo) : State :=
  if s.linkUp p ∧ (s.role p = 1 ∨ s.role p = 2) then s.retrainNarrow p i else
  if 64 ≤ p ∨ ¬(s.role p = 1 ∨ s.role p = 2) ∨ s.linkUp p ∨ s.trainingBarred p ∨ bit (s.rd (K.PRT_LINK_STATE p)) 2
      ∨ bit (s.rd (K.PRT_LINK_STATE p)) 1 ∨ s.rd (K.PRT_MAX_RATE p) < i.rate ∨ 4 * (s.portQuads p).length < i.width then s else
  let cxl := i.cxl && bit (s.rd (K.PRT_CXL_ENABLE p)) 0 && cxlRate i.flit256 i.rate (s.rd (K.PRT_CXL_ENABLE p))
  let w := 1 + 16 * b2n cxl + 32 * b2n (cxl && i.flit256) + 64 * b2n i.reversed
    + 256 * i.rate + 4096 * log2w i.width + 65536 * 0x13
  let s1 := (s.wr (K.PRT_LINK_STATE p) (w % 2 ^ 24)).putPort p { s.port p with
    lds := i.lds, cxl := cxl, credits := [], flit := i.flit || 6 ≤ i.rate || (cxl && i.flit256), linkFeature := i.linkFeature
    cacheDevice := i.cacheDevice, sris := s.sris p, subVendor := s.rd K.CRF_SUBSYS_VENDOR_ID, subId := s.rd K.CRF_SUBSYS_ID }
  let s2 : State := { s1 with
    fab := { s1.fab with loom := { s1.fab.loom with allotted := Sparse.insert p (s1.reserveCommitted p) s1.fab.loom.allotted } } }
  let s3 := when (s2.role p == 2 && decide (16 < i.lds)) (fun s => (s.bump (K.PRT_VIOLATIONS p)).raiseD F.PRT_LD_RANGE (elemPort p)
    (s.rd (K.PRT_LINK_STATE p)) 0 0) s2
  let s4 := (((s3.advertise p).loomSync.setQuadRate p i.rate).setCdr p i.width).rxTrained p |>.cicRaise (0x40 + p)
  let s5 := when (i.ide && s4.role p == 2) (·.ideStart p i.doe) s4
  when i.sscPresent (·.spreadFound (p / 4)) (s5.equalise p i.rate i.eq)

/-- UPDATE_FC: the partner returns credits of a channel (R205). -/
def State.updateFc (s : State) (p ch hdr data : Nat) : State :=
  if 64 ≤ p ∨ s.role p = 3 ∨ !s.linkUp p then s else
  let x := s.port p
  let c := Sparse.get (fun _ => (0, 0)) x.credits ch
  s.putPort p { x with credits := Sparse.set (fun _ => (0, 0)) x.credits ch (c.1 + hdr, c.2 + data) }

/-- An error of a function of an upstream port's switch that is no port, by its number (R148); those of a VF are the PF's (R361). -/
def State.aerFunc (s : State) (p n b : Nat) (header : List Byte) : State :=
  let x := s.port p
  let a := Sparse.get (fun _ => {}) x.funcAer n
  let a1 : Aer := { a with status := putBit a.status b true, log := if header.isEmpty then a.log else a.log ++ [header] }
  let s1 := s.putPort p { x with funcAer := Sparse.set (fun _ => {}) x.funcAer n a1 }
  if bit a.mask b then s1 else (s1.emit (.aerMsg p b)).cicRaise (0x40 + p)

/-- A response that no live tracker of the port awaits (R159, R161, R163): discarded and counted; a TLP's header is logged. -/
def State.lateResponse (s : State) (p : Nat) (header : List Byte) : State :=
  let s1 := (s.bump (K.PRT_LATE_RESPONSES p)).bump (K.PRT_VIOLATIONS p)
  if header.isEmpty then s1 else s1.aerLog p 16 header

/-- An uncorrectable fatal error at a downstream port takes its link down by DPC, where that is enabled (R162). -/
def State.fatalError (s : State) (p : Nat) : State :=
  if s.role p = 2 ∧ s.rd (K.PRT_DPC_ENABLE p) = 1 then (s.portDown p).triggerDpc p else s

/-- PRT_CONTROLLER (R36): a port controller's checker fails; the collector isolates the port. -/
def State.controllerFault (s : State) (p : Nat) : State := if 64 ≤ p then s else s.raise F.PRT_CONTROLLER (elemPort p)

/-- A port's tracker expires (R159): stale or not, it completes; that of a tenant function is reported through the PF's AER (R361). -/
def State.trackerTimeout (s : State) (p tag : Nat) : State :=
  match s.tracker tag with
  | none => s
  | some t =>
    match t.sentAt with
    | none => s
    | some at_ =>
      if t.egress ≠ p ∨ (s.role p = 3 ∧ !t.stale) ∨ s.clk.dtc < at_ + s.rd (K.PRT_TRACKER_TIMEOUT p) then s else
      let s1 := s.bump (K.PRT_TRACKER_TIMEOUTS p)
      let s2 := when (t.writes && t.op != .atomic && t.op != .io) (·.bump (K.PRT_POSTED_DROPPED p)) s1
      let s3 := match t.origin with
        | .func _ _ | .ats _ _ => s2.aerFunc p 10 14 []
        | _ => s2
      s3.completeError t 7

/-- A tracker whose request left on a Twill port expires (R184): by source device and TAG. -/
def State.twillTrackerTimeout (s : State) (device tag : Nat) : State :=
  let hold := fun (p : Nat) => ((s.link p).retrain.map (fun r => if r.since = 0 then 0 else s.clk.dtc - r.since)).getD 0
  let due := fun (t : Tracker) => t.egress < 64 && s.role t.egress == 3 && !t.stale
    && (match t.sentAt with
        | some a => decide (a + s.rd (K.TWL_TRACKER_TIMEOUT t.egress) + hold t.egress ≤ s.clk.dtc)
        | none => false)
  if device = s.device then
    match s.tracker tag with
    | some t =>
      if due t then (when t.isHostWrite (·.bump (K.PRT_POSTED_DROPPED (t.who.port.getD 0))) s).completeError t 7 else s
    | none => s
  else
    match s.fab.transit.find? (fun t => (match t.origin with | .twill _ src g => src / 256 == device && g == tag | _ => false) && due t) with
    | some t =>
      let s1 : State := { s with fab := { s.fab with transit := s.fab.transit.filter (fun x => x != t) } }
      s1.bump (K.TWL_FAILED_TRACKERS t.egress)
    | none => s

end Sys2Proof.Machine
end

