-- ==== Sys2Proof/Machine/Selvedge.lean ====
section
/-! DEFINITION. Selvedge: reference groups, PLLs, re-equalisation, Twill lane framing, detectors, test modes and margining (R115 to R141). -/

namespace Sys2Proof.Machine

/-! ### Reference groups and PLLs (R119, R120) -/

/-- A detector count is in range (R119). -/
def refInRange (c : Nat) : Bool := 1016 ≤ c && c ≤ 1028

/-- Two out-of-range windows: the reference is lost (R119). -/
def State.refLoss (s : State) (g c1 c2 : Nat) : State :=
  if 16 ≤ g ∨ refInRange c1 ∨ refInRange c2 ∨ s.sel.lost.contains g then s else
  let s1 := (s.wr (K.SEL_REFCLK_COUNT g) (c2 % 65536)).bump (K.SEL_REFCLK_LOSSES g)
  let s2 : State := { s1 with sel := { s1.sel with lost := g :: s1.sel.lost, refAt := Sparse.insert g s1.clk.dtc s1.sel.refAt } }
  let quads := [4 * g, 4 * g + 1, 4 * g + 2, 4 * g + 3]
  let s3 := forEach quads (fun s q =>
    ((s.wrBits (K.SEL_QUAD_STATE q) 1 0 0).wrBits (K.SEL_QUAD_STATE q) 7 4 0).cicRaise (0xC0 + q)) s2
  let ports := (quads.map s.portOfQuad).eraseDups
  (forEach ports (fun s p => s.dropLink p) s3).raise F.SEL_REFCLK_LOSS (elem 5 g)

/-- SEL_REFCLK_COUNT of a group (R119, R141): what the window that lost or restored its reference counted, and after that window a free value, in range
while the reference is valid; 0 until then. -/
def State.refCount (s : State) (g : Nat) : Nat :=
  if s.clk.dtc < Sparse.get (fun _ => 0) s.sel.refAt g + 10240 then s.rd (K.SEL_REFCLK_COUNT g)
  else if s.sel.lost.contains g then Config.refCount g s.now % 65536
  else if bit (s.rd (K.SEL_QUAD_STATE (4 * g))) 1 then 1016 + Config.refCount g s.now % 13
  else 0

/-- A quad's generators start afresh in its test mode, at the committed rate; off, its lanes are idle (R117, R133 to R137). -/
def State.testStart (s : State) (q : Nat) : State :=
  if s.role (s.portOfQuad q) ≠ 0 then s else
  ((s.putSelQuad q { s.selQuad q with testAt := s.clk.dtc, flips := [] }).wrBits (K.SEL_QUAD_STATE q) 7 4 0).wr (K.SEL_QUAD_RATE q)
    (if s.rd (K.SEL_TEST_MODE q) = 0 ∨ !bit (s.rd (K.SEL_QUAD_STATE q)) 0 ∨ bit (s.rd K.HRD_FENCED_QUADS) q then 0 else s.rd (K.SEL_TEST_RATE q))

/-- A quad's test objects change (R133, R135, R140, R141). -/
def State.testApplied (s : State) (q : Nat) : State := ((s.marginAbort q).wr (K.SEL_PRBS_LOCK q) 0).testStart q

/-- 100 windows in range: the reference is restored, the PLLs relock and the ports train again (R119); whether it carries spread spectrum shows with
it (R83). -/
def State.refRestore (s : State) (g c : Nat) (spread : Bool) : State :=
  if 16 ≤ g ∨ !refInRange c ∨ !s.sel.lost.contains g then s else
  let s0 : State := { s with sel := { s.sel with spread := s.sel.spread.filter (· != g) } }
  let s1 := (when spread (·.spreadFound g) s0).wr (K.SEL_REFCLK_COUNT g) c
  let s2 : State := { s1 with sel := { s1.sel with
    lost := s1.sel.lost.filter (· != g), refAt := Sparse.insert g s1.clk.dtc s1.sel.refAt } }
  let quads := [4 * g, 4 * g + 1, 4 * g + 2, 4 * g + 3]
  let s3 := forEach quads (fun s q => if bit (s.rd K.HRD_FENCED_QUADS) q then s.wrBit (K.SEL_QUAD_STATE q) 1 true
    else s.wrBits (K.SEL_QUAD_STATE q) 1 0 3) s2
  forEach ((quads.map s.portOfQuad).eraseDups) (fun s p => (s.startTraining p).testStart p) s3

/-- SEL_QUAD_FENCE (R120): the quad is fenced, and its port never trains (R106). -/
def State.fenceQuad (s : State) (q : Nat) : State :=
  ((s.setQuadFence q).dropLink (s.portOfQuad q)).raise F.SEL_QUAD_FENCE (elem 3 q)

/-- A quad PLL loses lock (R120); a loss caused by a lost reference counts against the group only. -/
def State.pllUnlock (s : State) (q : Nat) : State :=
  if 64 ≤ q ∨ s.sel.lost.contains (q / 4) ∨ !bit (s.rd (K.SEL_QUAD_STATE q)) 0 then s else
  let x := s.selQuad q
  let times := s.clk.dtc :: x.unlocks.filter (fun t => s.clk.dtc < t + 60 * 10 ^ 9)
  let s1 := (s.bump (K.SEL_PLL_UNLOCKS q)).wrBits (K.SEL_QUAD_STATE q) 7 4 0 |>.wrBit (K.SEL_QUAD_STATE q) 0 false
  let s2 := (s1.putSelQuad q { x with unlocks := times, relocking := true }).cicRaise (0xC0 + q)
  let s3 := (s2.dropLink (s.portOfQuad q)).raise F.SEL_PLL_UNLOCK (elem 3 q)
  if 3 ≤ times.length then s3.fenceQuad q else s3

/-- The 1 ms relock attempt ends (R120). -/
def State.pllRelock (s : State) (q : Nat) (locked : Bool) : State :=
  let x := s.selQuad q
  if 64 ≤ q ∨ !x.relocking then s else
  let s1 := s.putSelQuad q { x with relocking := false }
  if bit (s.rd K.HRD_FENCED_QUADS) q then s1
  else if locked then ((s1.wrBit (K.SEL_QUAD_STATE q) 0 true).startTraining (s.portOfQuad q)).testStart q
  else s1.fenceQuad q

/-! ### Margin runs (R139, R140) -/

/-- Begin a margin run. -/
def State.marginBegin (s : State) (q c : Nat) : State :=
  (s.putSelQuad q { s.selQuad q with run := some c, runWaits := none }).putMargin q (marginLane c) 1 0

/-- The fields of a margin word are in range (R139). -/
def marginFits (c : Nat) : Bool :=
  let t := sint 7 (bits c 25 19)
  let v := sint 7 (bits c 18 12)
  bits c 27 26 != 3 && decide (-32 ≤ t ∧ t ≤ 32) && decide (-48 ≤ v ∧ v ≤ 48) && 20 ≤ bits c 5 0 && bits c 5 0 ≤ 40

/-- A re-equalisation of the port runs. -/
def State.reequalising (s : State) (p : Nat) : Bool := s.sel.reeqs.any (fun r => r.port == p && r.running)

/-- The port equalises (R140): it re-equalises, or its Twill link is in T.EQ. -/
def State.equalising (s : State) (p : Nat) : Bool := s.reequalising p || (s.role p == 3 && s.twillState p == 4)

/-- Margin runs that waited for the end of an equalisation begin (R140). -/
def State.startWaiting (s : State) (p : Nat) : State :=
  forEach (s.portQuads p) (fun s q => match (s.selQuad q).runWaits with
    | some c => s.marginBegin q c
    | none => s) s

/-- A write of SEL_MARGIN_CTRL (R139, R140).  DESIGN CHOICE: a word with START clear starts nothing, and is answered RANGE if it is neither 0 nor in range;
a run asked for on a lane that is neither on an active link nor under test, of which the
rules say nothing, starts as on any other. -/
def State.marginCtrl (s : State) (q c : Nat) : Nat × State :=
  if !bit c 31 then (if c = 0 ∨ marginFits c then (0, s) else (1, s))
  else if !marginFits c then (1, s)
  else
    let x := s.selQuad q
    if x.run.isSome ∨ x.runWaits.isSome ∨ s.sel.partner.contains (4 * q + marginLane c) then (1, s)
    else if s.equalising (s.portOfQuad q) then (0, s.putSelQuad q { x with runWaits := some c })
    else (0, s.marginBegin q c)

/-- A margin run ends (R139). -/
def State.marginDone (s : State) (q errors : Nat) : State :=
  match (s.selQuad q).run with
  | some c => ((s.putSelQuad q { s.selQuad q with run := none }).putMargin q (marginLane c) 2 errors).cicRaise (0xC0 + q)
  | none => s

/-- The payload with which a Lane Margining command is answered (R138): by its type 1 reports, 2 set limit, normal settings or clear, 3 and 4 timing and
voltage steps.  The commands and codes are those of the PCI Express specification (PRESUMED); 32 timing steps, 48 voltage steps, independent left and
right timing and up and down voltage, error counts.  DESIGN CHOICE: the capability report 0x0F says neither an independent error sampler nor the reporting
of sampling rates, of which R138 says nothing. -/
def marginPayload (kind payload n : Nat) : Nat :=
  if kind = 1 then
    (match payload with
     | 0x88 => 0x0F
     | 0x89 => 48
     | 0x8A => 32
     | 0x8B => 50
     | p => Config.marginReport p % 256)
  else if kind = 3 ∨ kind = 4 then 0x80 + Config.marginReport (256 + n) % 64
  else payload

/-- A partner's Lane Margining command on a PCIe or CXL link that is up (R138, R140): it ends a dictionary run on the lane and is answered; the partner margins the lane from a timing or
voltage step until it goes back to normal settings. -/
def State.partnerMargin (s : State) (lane kind payload : Nat) : State :=
  let q := lane / 4
  let r := s.role (s.portOfQuad q)
  if 256 ≤ lane ∨ ¬(1 ≤ kind ∧ kind ≤ 4) ∨ ¬(r = 1 ∨ r = 2) ∨ !s.linkUp (s.portOfQuad q) then s else
  let s1 := match (s.selQuad q).run with
    | some c => if marginLane c = lane % 4 then s.marginAbort q else s
    | none => s
  let others := s1.sel.partner.filter (· != lane)
  let now := if 3 ≤ kind then lane :: others else if kind = 2 ∧ payload = 0x0F then others else s1.sel.partner
  let s2 : State := { s1 with sel := { s1.sel with partner := now } }
  (s2.emit (.marginReply lane kind (marginPayload kind payload s2.fresh))).tick

/-! ### Re-equalisation (R124) -/

/-- Ask the governor for 2 GU per quad of the port; the partner's requests of this run wait with it. -/
def State.reeqAsk (s : State) (p : Nat) (own : Bool) (l : List EqRequest) : State :=
  if s.sel.reeqs.any (fun r => r.port == p) ∨ !s.linkUp p then s else
  let s1 : State := { s with sel := { s.sel with
    reeqs := s.sel.reeqs ++ [{ port := p, own := own, since := s.now, running := false, requests := l }] } }
  s1.govRequest (16 + p) (2 * (s.portQuads p).length)

/-- The grant is given: the run proceeds, and aborts the margin runs of its quads (R140). -/
def State.reeqGrant (s : State) (p : Nat) : State :=
  if !(s.sel.reeqs.any (fun r => r.port == p && !r.running)) ∨ !(s.gov.answers.any (fun a => a.requester == 16 + p && a.given != 0)) then s else
  let s1 : State := { s with
    gov := { s.gov with answers := s.gov.answers.filter (fun a => a.requester != 16 + p) }
    sel := { s.sel with reeqs := s.sel.reeqs.map (fun r => if r.port = p then { r with running := true } else r) } }
  let asked := (s.sel.reeqs.filter (fun r => r.port == p)).flatMap (·.requests)
  when (s1.role p != 3) (fun s => s.equalise p (bits (s.rd (K.PRT_LINK_STATE p)) 11 8) asked) (s1.abortMargins p)

/-- The grant was not given within 2 ticks: a partner's run is deferred, the device's own waits on.  DESIGN CHOICE: the run of a port of several quads
counts in SEL_EQ_DEFERRED of its first quad; R124 does not say in which. -/
def State.reeqTimeout (s : State) (p : Nat) : State :=
  match s.sel.reeqs.find? (fun r => r.port == p && !r.running) with
  | none => s
  | some r =>
    if r.own ∨ s.now < r.since + 2 then s else
    let s1 : State := { s with sel := { s.sel with reeqs := s.sel.reeqs.filter (fun r => r.port != p) } }
    (s1.govRelease (16 + p)).bump (K.SEL_EQ_DEFERRED p)

/-- The run ends: the receivers have trained, the grant is released, and margin runs that waited begin (R123, R124, R140). -/
def State.reeqEnd (s : State) (p : Nat) : State :=
  if !s.reequalising p then s else
  let s1 := (s.reeqDrop p).rxTrained p
  when (!s1.equalising p) (·.startWaiting p) s1

/-! ### Twill lane framing (R125 to R130) -/

/-- The lanes of an alignment are in straight or in reversed order over a port of `w` lanes, as far as their markers have come (R128). -/
def laneOrder (l : List (Nat × Nat)) (w : Nat) : Option Bool :=
  if l.all (fun e => e.2 == e.1) then some false
  else if l.all (fun e => e.2 + e.1 + 1 == w) then some true
  else none

/-- An alignment marker, or none where one was expected, on a lane of a Twill port (R128, R130). -/
def State.alignmentMarker (s : State) (p lane : Nat) (am : Option Nat) (skew : Nat) : State :=
  let w := 4 * (s.portQuads p).length
  if s.role p ≠ 3 ∨ w ≤ lane then s else
  let a := s.alignment p
  let q := p + lane / 4
  match am.bind (readAm (s.rd (K.SEL_QUAD_RATE p) - 8)) with
  | some (inv, x) =>
    let lanes := Sparse.insert lane (bits x 79 76) a.lanes
    let ok := if skew ≤ 1024 then laneOrder lanes w else none
    let a1 : LaneAlignment := {
      lanes := lanes, counts := Sparse.insert lane (bits x 71 48) a.counts
      bad := Sparse.set (fun _ => 0) a.bad lane 0, aligned := ok.isSome, reversed := ok.getD a.reversed }
    ((s.putAlignment p a1).wrBit (K.SEL_QUAD_STATE q) (12 + lane % 4) inv).wrBit (K.SEL_QUAD_STATE q) (4 + lane % 4) true
  | none =>
    let n := Sparse.get (fun _ => 0) a.bad lane + 1
    let s1 := (s.putAlignment p { a with bad := Sparse.set (fun _ => 0) a.bad lane (if 3 ≤ n then 0 else n) }).bump (K.SEL_AM_LOSSES q)
    if 3 ≤ n then s1.framingLoss p else s1

/-- The units that a SKIP block deletes (positive) or inserts (negative), 0 to 4 either way, to bring the fill nearest 64 UI; on a tie the
smaller (R129). -/
def skipAdjust (fill : Nat) : Int :=
  ([0, 1, -1, 2, -2, 3, -3, 4, -4] : List Int).foldl (fun b k =>
    if ((fill : Int) - 16 * k - 64).natAbs < ((fill : Int) - 16 * b - 64).natAbs then k else b) 0

/-- A SKIP block on a Twill port (R129): the fill that it finds is adjusted, on all lanes alike, and the units are counted for each quad. -/
def State.skipBlock (s : State) (p fill : Nat) : State :=
  if s.role p ≠ 3 then s else
  let k := skipAdjust fill
  let s1 : State := { s with sel := { s.sel with fill := Sparse.set (fun _ => 64) s.sel.fill p ((fill : Int) - 16 * k).toNat } }
  forEach (s.portQuads p) (fun s q => s.countN 0x1003 q k.natAbs) s1

/-- An elastic buffer overflows or underflows (R130). -/
def State.elasticError (s : State) (q : Nat) : State :=
  if 64 ≤ q then s else (s.bump (K.SEL_ELASTIC_ERRORS q)).framingLoss (s.portOfQuad q)

/-! ### Detectors, test modes, checkers (R131 to R137) -/

/-- LOS on a lane (R131): on a lane of a Twill link that is up, one of its negotiated width, it is a framing loss. -/
def State.losAssert (s : State) (lane : Nat) : State :=
  let q := lane / 4
  if 256 ≤ lane ∨ bit (s.rd (K.SEL_QUAD_STATE q)) (8 + lane % 4) then s else
  let s1 := ((s.wrBit (K.SEL_QUAD_STATE q) (8 + lane % 4) true).bump (K.SEL_LOS_EVENTS q)).count 0x1002 lane
  let p := s.portOfQuad q
  if s.role p = 3 ∧ s.linkUp p ∧ lane - 4 * p < s.txLanes p then s1.framingLoss p else s1

/-- LOS is released (R131). -/
def State.losRelease (s : State) (lane : Nat) : State :=
  if 256 ≤ lane then s else s.wrBit (K.SEL_QUAD_STATE (lane / 4)) (8 + lane % 4) false

/-- Add to a lane's error counter, which saturates, and to Tally (R135). -/
def State.prbsErrors (s : State) (lane n : Nat) : State :=
  (s.wr (K.SEL_PRBS_ERRORS (lane / 4) (lane % 4)) (sat 64 (s.rd (K.SEL_PRBS_ERRORS (lane / 4) (lane % 4)) + n))).countN 0x1001 lane n

/-- SEL_PRBS_CLEAR (R135). -/
def State.prbsClear (s : State) (q mask : Nat) : State :=
  forEach (setBits 4 mask) (fun s j => (s.wr (K.SEL_PRBS_ERRORS q j) 0).wr (K.SEL_PRBS_BITS q j) 0) s

/-- A quad runs its test mode: not while its lanes are powered down or idle, by a fence, a lost reference, a lost lock or a held pad (R117, R119, R120). -/
def State.testRuns (s : State) (q : Nat) : Bool := s.rd (K.SEL_TEST_MODE q) != 0 && s.rd (K.SEL_QUAD_RATE q) != 0 && s.rd K.HRD_PADS_HELD == 0

/-- The checker of a quad is on: every test mode but off and transmit only (R137). -/
def State.checkerOn (s : State) (q : Nat) : Bool := s.testRuns q && 1 ≤ s.rd (K.SEL_TEST_MODE q) && s.rd (K.SEL_TEST_MODE q) ≤ 4

/-- Bits per tick at a rate code (R115). -/
def rateBits (code : Nat) : Nat :=
  match code with
  | 1 => 2500 | 2 => 5000 | 3 => 8000 | 4 => 16000 | 5 => 32000 | 6 => 64000 | 7 => 128000 | 8 => 64000 | 9 => 128000
  | _ => 0

/-- A pattern and a rate are of the same signalling (R134). -/
def patternFits (pat code : Nat) : Bool := if pat ≤ 6 then !ratePam4 code else if pat ≤ 9 then ratePam4 code else true

/-- The pattern of a quad's generators. -/
def State.testPattern (s : State) (q : Nat) : Nat := s.rd (K.SEL_PRBS_PATTERN q)

/-- The bits that a quad's generators have put out by a time (R134). -/
def State.generated (s : State) (q t : Nat) : Nat := rateBits (s.rd (K.SEL_TEST_RATE q)) * (t - (s.selQuad q).testAt) / 1000

/-- Periodic injection inverts the bit at a position of the generator (R136): one of each 2^k.  Which of them the rule leaves open. -/
def State.periodic (s : State) (q pos : Nat) : Bool :=
  let k := s.rd (K.SEL_INJECT_PERIOD q)
  k != 0 && (pos + 1) % 2 ^ k == 0

/-- The positions from `a` to below `b` that periodic injection inverts. -/
def State.periodicIn (s : State) (q a b : Nat) : List Nat :=
  let k := s.rd (K.SEL_INJECT_PERIOD q)
  if k = 0 then [] else (List.range (b / 2 ^ k - a / 2 ^ k)).map (fun i => (a / 2 ^ k + i + 1) * 2 ^ k - 1)

/-- The first position from `pos` on that no injection inverts yet: a one-shot error moves there (R136).  On PAM4 a symbol takes one error. -/
def State.freeBit (s : State) (q j : Nat) : Nat → Nat → Nat
  | 0, pos => pos
  | n + 1, pos =>
    let u := if ratePam4 (s.rd (K.SEL_TEST_RATE q)) then 2 else 1
    let taken := (s.selQuad q).flips.any (fun e => e.1 == j && e.2 / u == pos / u) || s.periodic q pos || (u == 2 && s.periodic q (pos / 2 * 2 + 1))
    if taken then s.freeBit q j n (pos / u * u + u) else pos

/-- The generator reaches the checker inside the part: the near-end loopbacks (R137). -/
def State.nearLoop (s : State) (q : Nat) : Bool := s.testRuns q && (s.rd (K.SEL_TEST_MODE q) == 2 || s.rd (K.SEL_TEST_MODE q) == 3)

/-- The bits [a, b) that the generator of a quad's lane puts out, injected errors among them (R134, R136). -/
def State.testBits (s : State) (q j a b : Nat) : List Bool :=
  let l := patternBits (s.testPattern q) (s.rd (K.SEL_USER_PATTERN q)) (ratePam4 (s.rd (K.SEL_TEST_RATE q))) a (b - a)
  let wrong := (((s.selQuad q).flips.filter (fun e => e.1 == j)).map (·.2)) ++ s.periodicIn q a b
  (List.range l.length).map (fun i => Bool.xor (l.getD i false) (wrong.contains (a + i)))

/-- The levels of bits at a rate: PAM4 symbols, or the two levels of NRZ (R115, R116). -/
def levelsAt (code : Nat) (l : List Bool) : List Int := if ratePam4 code then pam4Levels l else l.map (fun b => if b then 3 else -3)

/-- One-shot injection (R136): the next free bit of the generator is inverted, and in a near-end loopback the locked checker of the lane counts it. -/
def State.injectErrors (s : State) (q mask : Nat) : State :=
  if !s.testRuns q ∨ s.rd (K.SEL_TEST_MODE q) = 4 then s else
  forEach (setBits 4 mask) (fun s j =>
    let x := s.selQuad q
    let pos := s.freeBit q j (x.flips.length + 2) (s.generated q s.clk.dtc)
    when (s.nearLoop q && bit (s.rd (K.SEL_PRBS_LOCK q)) j) (·.prbsErrors (4 * q + j) 1) (s.putSelQuad q { x with flips := x.flips ++ [(j, pos)] })) s

/-- The checker of a lane has heard bits (R132, R135, R137): the lane's receiver is locked to them, and the checker locks where they let it.  In a near-end
loopback they are as many bits of the generator's own; a far-end loopback sends them back with the preset of the lane's transmitter. -/
def State.checkerLock (s : State) (lane : Nat) (rx : List Bool) : State :=
  let q := lane / 4
  if 256 ≤ lane ∨ !s.checkerOn q then s else
  let b := s.generated q s.clk.dtc
  let heard := if s.nearLoop q then s.testBits q (lane % 4) (b - rx.length) b else rx
  let s1 := when (s.rd (K.SEL_TEST_MODE q) == 4)
    (·.emit (.laneLoop lane (coeffWord (twillPresets.getD (s.rd (K.SEL_TWILL_PRESET q)) (0, 0, 63, 0))) rx)) s
  let s2 := when (s.rd (K.SEL_TEST_MODE q) != 2) (·.wrBit (K.SEL_QUAD_STATE q) (4 + lane % 4) true) s1
  when (patternLocks (s.testPattern q) (s.rd (K.SEL_USER_PATTERN q)) (ratePam4 (s.rd (K.SEL_TEST_RATE q))) heard)
    (·.wrBit (K.SEL_PRBS_LOCK q) (lane % 4) true) s2

/-- The checker has found `errors` of its last `n` bits wrong: it counts them, and loses lock at 64 of 1,024 (R135).  The bits themselves are counted
with their tick.  In a near-end loopback they are the injected errors among the generator's last bits, which were counted as they were injected. -/
def State.checkerLoss (s : State) (lane n errors : Nat) : State :=
  let q := lane / 4
  if 256 ≤ lane ∨ !bit (s.rd (K.SEL_PRBS_LOCK q)) (lane % 4) then s else
  let b := s.generated q s.clk.dtc
  let injected := ((s.selQuad q).flips.filter (fun e => e.1 == lane % 4 && decide (b - n ≤ e.2) && decide (e.2 < b))).length
    + (s.periodicIn q (b - n) b).length
  let wrong := if s.nearLoop q then injected else errors
  let s1 := if s.nearLoop q then s else s.prbsErrors lane errors
  if 64 ≤ wrong ∧ n ≤ 1024 then s1.wrBit (K.SEL_PRBS_LOCK q) (lane % 4) false else s1

/-- Whether a key's index lies in a range and its subindex is one of `subs` (any, where none is listed). -/
def inIdx (lo hi : Nat) (subs : List Nat) (k : Nat) : Bool :=
  lo ≤ keyIdx k && keyIdx k < hi && (subs.isEmpty || subs.contains (keySub k))

/-- SEL_TEST_MODE, SEL_TEST_RATE and SEL_PRBS_PATTERN, and their quad. -/
def isTestKey (subs : List Nat) (k : Nat) : Bool := inIdx 0x2000 0x2100 subs k && keyIdx k % 4 == 2
def quadOfKey (k : Nat) : Nat := (keyIdx k - 0x2000) / 4

/-- The quads in a test mode. -/
def State.testQuads (s : State) : List Nat := (s.dict.nums.filter (fun e => isTestKey [1] e.1 && e.2 != 0)).map (fun e => quadOfKey e.1)

/-- At a tick the generators of a quad have put out the bits of the tick, with the injected errors among them: to the transmitter in the modes PRBS and
transmit only, to the checker in the near-end loopbacks (R134 to R137). -/
def State.generatorTick (s : State) (q : Nat) : State :=
  let a := s.generated q (s.clk.dtc - 1000)
  let b := s.generated q s.clk.dtc
  let p := s.periodicIn q a b
  let sends := s.rd (K.SEL_TEST_MODE q) == 1 || s.rd (K.SEL_TEST_MODE q) == 5
  let s1 := when (sends && decide (a < b)) (forEach [0, 1, 2, 3] (fun s j =>
    let v := levelsAt (s.rd (K.SEL_TEST_RATE q)) (s.testBits q j a b)
    s.emit (.laneTest (4 * q + j) a (if bit (s.rd (K.SEL_TX_INVERT q)) j then v.map (fun x => -x) else v)))) s
  let s2 := when (s.nearLoop q && !p.isEmpty) (forEach (setBits 4 (s.rd (K.SEL_PRBS_LOCK q))) (fun s j => s.prbsErrors (4 * q + j) p.length)) s1
  s2.putSelQuad q { s2.selQuad q with flips := (s2.selQuad q).flips.filter (fun e => b < e.2 + 1024) }

/-- At a tick each locked checker has counted the bits of the tick (R135). -/
def State.prbsTick (s : State) : State :=
  forEach (s.testQuads.filter s.testRuns) (fun s q =>
    let n := rateBits (s.rd (K.SEL_TEST_RATE q))
    forEach (setBits 4 (s.rd (K.SEL_PRBS_LOCK q))) (fun s j =>
      s.wr (K.SEL_PRBS_BITS q j) (sat 64 (s.rd (K.SEL_PRBS_BITS q j) + n))) (s.generatorTick q)) s

end Sys2Proof.Machine
end

