-- ==== Sys2Proof/Machine/Fold.lean ====
section
/-! DEFINITION. Fold: decode, misses, epochs, freezing, dirty logging, binding, release, and the Dynamic Capacity events that tell hosts of it
(R151 to R155, R224 to R246). -/

namespace Sys2Proof.Machine

/-- 256 MiB. -/
abbrev unit256 : Nat := 2 ^ 28

/-- An extent entry (R227). -/
structure Extent where
  num : Nat
  fold : Nat
  size : Nat
  target : Nat
  offset : Nat
  base : Nat
deriving DecidableEq, Repr

/-- Read an extent entry (R227): offset, base and size in octets. -/
def extentOf (n : Nat) (v : List Byte) : Extent :=
  { num := n, fold := field v 0 2, size := 2 ^ (28 + field v 2 1), target := field v 4 2, offset := field v 8 4 * unit256,
    base := field v 12 4 * unit256 }

/-- The number of the extent of a key. -/
def extentNum (k : Nat) : Nat := (keyIdx k - 0x4400) * 128 + keySub k - 1

/-- The key is an extent entry. -/
def isExtentKey (k : Nat) : Bool := 0x4400 ≤ keyIdx k && keyIdx k < 0x4800

/-- An extent of the device. -/
def State.extent (s : State) (e : Nat) : Extent := extentOf e (s.rdo (K.FLD_EXTENT_ENTRY e))

/-- The bound extents, in ascending number. -/
def State.extents (s : State) : List Extent :=
  (s.dict.octs.filter (fun e => isExtentKey e.1 && field e.2 0 2 != 0)).map (fun e => extentOf (extentNum e.1) e.2)

/-- The extents bound to a fold. -/
def State.extentsOf (s : State) (f : Nat) : List Extent := s.extents.filter (fun e => e.fold == f)

/-- A fold in use (R224). -/
def State.foldInUse (s : State) (f : Nat) : Bool := s.rd (K.FLD_OWNER_PORT f) != 0xFF && s.rd (K.FLD_WINDOW_SIZE f) != 0

/-- A flag of FLD_FLAGS: 0 SHARED, 1 DIRTY_LOG, 2 FROZEN, 3 SELF_READ (R247). -/
def State.foldFlag (s : State) (f n : Nat) : Bool := bit (s.rd (K.FLD_FLAGS f)) n

/-- A fold isolated by an F2 fault (R246, R448). -/
def State.foldIsolated (s : State) (f : Nat) : Bool := s.flt.isolated.contains (elem 6 f)

/-- The folds with an owner, in ascending number. -/
def State.ownedFolds (s : State) : List Nat :=
  (s.dict.nums.filter (fun e => 0x4001 ≤ keyIdx e.1 && keyIdx e.1 < 0x4400 && keySub e.1 == 1)).map (fun e => keyIdx e.1 - 0x4000)

/-! ### Decode (R226, R230, R231) -/

/-- An HDM decoder's device physical address of a host address (R226, R230 step 1). -/
def hdmDecode (d : HdmDecoder) (a : Nat) : Option Nat :=
  if a < d.base ∨ d.base + d.size ≤ a then none else
  let off := a - d.base
  let g := max 1 d.granularity
  let w := max 1 d.ways
  if off / g % w ≠ d.position then none else some (d.dpa + off / (g * w) * g + off % g)

/-- The device physical address that the committed decoders of a port give. -/
def State.hdm (s : State) (p a : Nat) : Option Nat := (s.port p).hdm.findSome? (fun d => hdmDecode d.2 a)

/-- The fold of a port whose window holds a device physical address (R230 step 2). -/
def State.foldAt (s : State) (p d : Nat) : Option Nat :=
  s.ownedFolds.find? (fun f => s.rd (K.FLD_OWNER_PORT f) == p && s.rd (K.FLD_WINDOW_SIZE f) != 0
    && decide (s.rd (K.FLD_WINDOW_BASE f) ≤ d) && decide (d < s.rd (K.FLD_WINDOW_BASE f) + s.rd (K.FLD_WINDOW_SIZE f)))

/-- The extent of a fold that holds a whole range of window offsets (R230 steps 3 and 4, R231): target and DPA. -/
def State.extentAt (s : State) (f o len : Nat) : Option (Nat × Nat) :=
  if s.foldIsolated f then none else
  (s.extentsOf f).find? (fun e => decide (e.offset ≤ o) && decide (o + max 1 len ≤ e.offset + e.size)
    && !s.fab.fold.damaged.contains (K.FLD_EXTENT_ENTRY e.num)) |>.map
    (fun e => (e.target, e.base + (o - e.offset)))

/-- A decode miss (R231): the counts, the fault and its CIC source. -/
def State.decodeMiss (s : State) (f : Option Nat) : State :=
  let s1 := (s.bump K.FLD_DECODE_MISSES_ALL).cicRaise 0x110
  match f with
  | some n => ((s1.bump (K.FLD_DECODE_MISSES n)).count 0x5002 n).raise F.FLD_DECODE_MISS (elem 6 n)
  | none => s1.raise F.FLD_DECODE_MISS (elemSub 5)

/-- Capacity of an LD that its device took back, or a target that this device does not hold, answers as unrouted (R154, R408). -/
def State.capacityGone (s : State) (target a len : Nat) : Bool :=
  if target / 256 ≠ s.device then false
  else if target % 256 = 1 then !cmnFits a len
  else match s.localGang (target % 256) with
    | some p => p < 64 && s.role p == 2 && ((s.port p).capacity.any (fun c => c.1 == s.ldOf p (target % 256) && !c.2.2.2
        && decide (c.2.1 ≤ a) && decide (a < c.2.1 + c.2.2.1)))
    | none => true

/-! ### Dirty logging (R241) -/

/-- Mark the pages that a write touches. -/
def State.markDirty (s : State) (f o len : Nat) : State :=
  if !s.foldFlag f 1 ∨ len = 0 then s else
  forEach ((List.range ((o + len - 1) / 4096 - o / 4096 + 1)).map (· + o / 4096)) (fun s p =>
    let a := s.carveAt 4 + s.rd (K.FLD_DIRTY_OFFSET f) + p / 8
    s.memSet a (BitVec.ofNat 8 (putBit (s.memGet a).toNat (p % 8) true))) s

/-- The size of a fold's bitmap. -/
def State.bitmapSize (s : State) (f : Nat) : Nat := s.rd (K.FLD_WINDOW_SIZE f) / 32768

/-- Zero a fold's bitmap: its listed octets go (R241). -/
def State.zeroBitmap (s : State) (f : Nat) : State :=
  let a := s.carveAt 4 + s.rd (K.FLD_DIRTY_OFFSET f)
  { s with cmn := { s.cmn with cells := s.cmn.cells.filter (fun c => c.1 < a || a + s.bitmapSize f ≤ c.1) } }

/-! ### Event logs toward hosts (R152, R153, R238) -/

/-- Post a record of an extent to the log of a port (R153, R226, R238). -/
def State.postDc (s : State) (p kind f : Nat) (e : Extent) (base : Nat) (more : Bool) : State :=
  if 64 ≤ p then s else
  let x := s.port p
  let r : DcRecord := { handle := x.nextHandle, kind := kind, extent := e.num, dpa := base + e.offset, length := e.size, tag := f,
                        more := more, answered := kind != 0, at_ := s.clk.dtc }
  let s1 := s.putPort p { x with log := x.log ++ [r], nextHandle := (x.nextHandle + 1) % 65536 }
  if more then s1 else s1.emit (.eventInterrupt p)

/-- Post the records of a commit, each with its kind, More set on all but the last (R153, R238). -/
def State.postAll (s : State) (p : Nat) (l : List (Nat × Nat × Extent × Nat)) : State :=
  match l with
  | [] => s
  | [(k, f, e, b)] => s.postDc p k f e b false
  | (k, f, e, b) :: r => (s.postDc p k f e b true).postAll p r

/-- The free records of a port's log (R153): a cleared one whose offer still waits for its answer takes no room. -/
def State.logFree (s : State) (p : Nat) : Nat := 8192 - ((s.port p).log.filter (fun r => !r.cleared)).length

/-- A host answers Add Capacity with the extents it accepts (R153); the others are reported to the fabric manager. -/
def State.addResponse (s : State) (p : Nat) (accepted : List Nat) : State :=
  if 64 ≤ p ∨ s.role p ≠ 1 then s else
  let x := s.port p
  let offered := x.log.filter (fun r => r.kind == 0 && !r.answered)
  let bad := (accepted.filter (fun e => !(offered.any (fun r => r.extent == e)))).length + (accepted.length - accepted.eraseDups.length)
  let s1 := s.putPort p { x with log := (x.log.filter (fun r => !r.cleared)).map (fun r =>
    if r.kind = 0 ∧ !r.answered then { r with answered := true, accepted := accepted.contains r.extent } else r) }
  let s2 := forEach (List.range bad) (fun s _ => s.portViolation p F.PRT_DC_RESPONSE [])
    (forEach (offered.filter (fun r => !accepted.contains r.extent)) (fun s r => s.emit (.fmReport p r.extent)) s1)
  (s2.emit (.dcReply p (if bad = 0 then 0 else 1))).cicRaise (0x40 + p)

/-- No answer within PRT_DC_RESPONSE_TIMEOUT (R153): recorded once; the binding stands. -/
def State.dcLate (s : State) (p e : Nat) : State :=
  let x := s.port p
  let due := fun (r : DcRecord) => r.kind == 0 && !r.answered && !r.late && r.extent == e
    && decide (max r.at_ s.boot.upTick + s.rd (K.PRT_DC_RESPONSE_TIMEOUT p) ≤ s.clk.dtc)
  if 64 ≤ p ∨ !x.log.any due then s else
  (s.putPort p { x with log := x.log.map (fun r => if due r then { r with late := true } else r) }).raise F.PRT_DC_RESPONSE (elemPort p)

/-- Clear Event Records (R153): the records are free, and an offer that awaits its answer goes on waiting. -/
def State.clearEvents (s : State) (p : Nat) (handles : List Nat) : State :=
  if 64 ≤ p then s else
  let x := s.port p
  s.putPort p { x with log := (x.log.filter (fun r => !handles.contains r.handle || (r.kind == 0 && !r.answered))).map (fun r =>
    if handles.contains r.handle then { r with cleared := true } else r) }

/-- Capacity that was lost comes back once no extent is bound to it any more and the device has added it anew (R154). -/
def State.capacitySync (s : State) (p : Nat) : State :=
  let x := s.port p
  if x.capacity.all (fun c => c.2.2.2) then s else
  let meets := fun (a n b m : Nat) => decide (a < b + m) && decide (b < a + n)
  let bound := fun (ld a n : Nat) => s.extents.any (fun e =>
    e.target == s.device * 256 + s.rd (K.PRT_LD_FEID p ld) && meets a n e.base e.size)
  s.putPort p { x with capacity := x.capacity.filter (fun c => c.2.2.2 || bound c.1 c.2.1 c.2.2.1
    || !(x.capacity.any (fun d => d.2.2.2 && d.1 == c.1 && meets c.2.1 c.2.2.1 d.2.1 d.2.2.1))) }

/-- A DC device adds capacity, and it is accepted (R154). -/
def State.deviceAdd (s : State) (p ld base size : Nat) : State :=
  if 64 ≤ p ∨ s.role p ≠ 2 ∨ !s.linkUp p ∨ 16 ≤ ld then s else
  let x := s.port p
  let c := (ld, base, size, true)
  ((s.putPort p { x with capacity := x.capacity.filter (· != c) ++ [c] }).capacitySync p).emit (.dcAccept p ld base size)

/-- A DC device takes capacity back by force (R154): extents on it stay bound and answer as unrouted. -/
def State.deviceRemove (s : State) (p ld base size : Nat) : State :=
  if 64 ≤ p ∨ s.role p ≠ 2 then s else
  let x := s.port p
  s.putPort p { x with capacity := x.capacity.filter (fun c => !(c.1 == ld && c.2.1 == base)) ++ [(ld, base, size, false)] } |>.capacitySync p

/-! ### Release (R238, R239) -/

/-- FLD_RELEASES_PENDING follows the requests under way. -/
def State.releaseSync (s : State) : State :=
  s.wr K.FLD_RELEASES_PENDING (s.fab.fold.asked.length + s.fab.fold.posted.length
    + (s.fab.fold.internal.filter (fun w => match w.job with
      | .release _ _ _ asked => asked
      | _ => false)).length)

/-- The host has answered with the extent, whose release waits for its boundary. -/
def State.releaseAnswered (s : State) (e : Nat) : Bool :=
  s.fab.fold.internal.any (fun w => match w.job with
    | .release x _ _ _ => x == e
    | _ => false)

/-- A release of the extent is pending: asked for, or posted to the host. -/
def State.releasePending (s : State) (e : Nat) : Bool :=
  s.fab.fold.asked.any (fun a => a.1 == e) || s.fab.fold.posted.contains e || s.releaseAnswered e

/-- FLD_RELEASE_REQUEST (R238). -/
def State.releaseRequest (s : State) (e : Nat) : Nat × State :=
  if 131072 ≤ e ∨ (s.extent e).fold = 0 ∨ s.releasePending e then (1, s) else
  let s1 : State := { s with fab := { s.fab with fold := { s.fab.fold with asked := s.fab.fold.asked ++ [(e, s.now)] } } }
  (0, s1.releaseSync)

/-- RELEASE_CAPACITY_POST: the first boundary after the request has come (R238).  A full log holds the record back. -/
def State.releasePost (s : State) : State :=
  let due := s.fab.fold.asked.filter (fun a => decide (a.2 < s.now))
  forEach due (fun s a =>
    let e := s.extent a.1
    let p := s.rd (K.FLD_OWNER_PORT e.fold)
    if s.logFree p = 0 then s else
    let s1 : State := { s with fab := { s.fab with fold := { s.fab.fold with
      asked := s.fab.fold.asked.filter (· != a), posted := s.fab.fold.posted ++ [a.1] } } }
    (s1.postDc p 1 e.fold e (s.rd (K.FLD_WINDOW_BASE e.fold)) false).releaseSync) s

/-- A host's Release Dynamic Capacity names an extent (R153, R163, R238): requested or not, it is unbound at a boundary; one that is not bound to
the port, or named twice, is answered with Invalid Input. -/
def State.hostRelease (s : State) (p e : Nat) : State :=
  if 64 ≤ p ∨ s.role p ≠ 1 then s else
  let x := s.extent e
  if x.fold = 0 ∨ s.rd (K.FLD_OWNER_PORT x.fold) ≠ p ∨ s.releaseAnswered e then
    (s.portViolation p F.PRT_DC_RESPONSE []).emit (.dcReply p 1)
  else
    let asked := s.fab.fold.posted.contains e || s.fab.fold.asked.any (fun a => a.1 == e)
    let s1 : State := { s with fab := { s.fab with fold := { s.fab.fold with
      asked := s.fab.fold.asked.filter (fun a => a.1 != e), posted := s.fab.fold.posted.filter (· != e)
      internal := s.fab.fold.internal ++ [{ job := .release e x.fold p asked, tick := s.now, version := s.version (K.FLD_EXTENT_ENTRY e) }] } } }
    (s1.cicRaise 0x115).releaseSync

/-! ### Epochs and freezing (R234 to R237) -/

/-- The folds whose decode a change of the dictionary alters (R235). -/
def decodeChanges (old new : State) (keys : List Nat) : List Nat :=
  (keys.flatMap (fun k =>
    if isExtentKey k then
      let a := field (old.rdo k) 0 2
      let b := field (new.rdo k) 0 2
      if a = b then [] else [a, b].filter (· != 0)
    else if 0x4000 ≤ keyIdx k ∧ keyIdx k < 0x4400 ∧ 1 ≤ keySub k ∧ keySub k ≤ 3 ∧ old.rd k ≠ new.rd k then [keyIdx k - 0x4000]
    else [])).eraseDups

/-- Epoch (e − 1) mod 4 of a fold is drained (R235). -/
def State.epochFree (s : State) (f : Nat) : Bool := s.rd (K.FLD_EPOCH_INFLIGHT f ((s.rd (K.FLD_EPOCH f) + 3) % 4)) == 0

/-- Requests of a fold that a freeze holds, in order; FLD_HELD counts them (R237). -/
def State.heldMsgs (s : State) (f : Nat) : List LMsg :=
  s.fab.loom.msgs.filter (fun x => x.place == .held && ((x.track.bind s.tracker).map (·.fold)).getD 0 == f)

/-- A fold's epoch advances at a commit point (R235); a frozen fold's held requests of the old epoch are completed (R237), and those that wait for room
before they are held. -/
def State.advanceEpoch (s : State) (f : Nat) : State :=
  let e := s.rd (K.FLD_EPOCH f)
  let s1 := s.wr (K.FLD_EPOCH f) ((e + 1) % 4)
  let waiting := s1.fab.loom.msgs.filter (fun x => x.place == .source && match x.track.bind s1.tracker with
    | some t => t.fold == f && t.frozen
    | none => false)
  forEach (s1.heldMsgs f ++ waiting) (fun s x => match x.track.bind s.tracker with
    | some t => if t.epoch = some e then ((s.dropMsg x.id).bump K.FLD_HELD_ERRORED).completeError t 4 else s
    | none => s) s1

/-- FLD_EXTENTS_BOUND and FLD_BOUND_BYTES of a fold, from its entries. -/
def State.boundBytes (s : State) (f : Nat) : Nat := (s.extentsOf f).foldl (fun n e => n + e.size) 0

/-- What a commit that changes extents, owners and windows does at its commit point (R235, R236, R238, R240): epochs advance, released extents
drain, pending release requests of what is bound, released or moved end, and the hosts' event records are posted.  `told` says for which of the
written subentries a record is posted: none for a host's own release, none for the replay (R153, R238). -/
def State.extentsApplied (s old : State) (keys : List Nat) (told : Nat → Bool) : State :=
  let changed := (keys.filter isExtentKey).filter (fun k => field (old.rdo k) 0 2 != field (s.rdo k) 0 2)
  let released := changed.filter (fun k => field (old.rdo k) 0 2 != 0)
  let bound := changed.filter (fun k => field (s.rdo k) 0 2 != 0)
  let moved := (keys.filter (fun k => 0x4000 < keyIdx k && keyIdx k < 0x4400 && keySub k == 1 && old.rd k != s.rd k)).map
    (fun k => keyIdx k - 0x4000)
  let s1 := forEach (decodeChanges old s keys) (fun s f => s.advanceEpoch f) s
  let nums := changed.map extentNum
  let gone := nums ++ moved.flatMap (fun f => (s.extentsOf f).map (·.num))
  let s2 : State := { s1 with fab := { s1.fab with fold := { s1.fab.fold with
    draining := s1.fab.fold.draining ++ released.map (fun k =>
      let f := field (old.rdo k) 0 2
      (extentNum k, f, old.rd (K.FLD_EPOCH f)))
    zeroing := if s1.rd K.DRV_ZERO_ON_RELEASE = 1 then s1.fab.fold.zeroing ++ released.map (fun k =>
        let e := extentOf (extentNum k) (old.rdo k)
        (e.num, e.target, e.base, e.size))
      else s1.fab.fold.zeroing
    asked := s1.fab.fold.asked.filter (fun a => !gone.contains a.1)
    posted := s1.fab.fold.posted.filter (fun e => !gone.contains e) } } }
  let s3 := s2.drainSync.releaseSync
  let recs := fun (st : State) (ks : List Nat) (p : Nat) =>
    ((ks.filter told).map (fun k => extentOf (extentNum k) (st.rdo k))).filter (fun e => st.rd (K.FLD_OWNER_PORT e.fold) == p) |>.map
      (fun e => (e.fold, e, st.rd (K.FLD_WINDOW_BASE e.fold)))
  let all := fun (st : State) (p : Nat) =>
    (moved.filter (fun f => told (K.FLD_OWNER_PORT f) && st.rd (K.FLD_OWNER_PORT f) == p)).flatMap
      (fun f => ((s.extentsOf f).filter (fun e => !nums.contains e.num)).map (fun e => (f, e, st.rd (K.FLD_WINDOW_BASE f))))
  if changed.isEmpty && moved.isEmpty then s3 else
  forEach (List.range 64) (fun st p =>
    st.capacitySync p |>.postAll p ((recs old released p ++ all old p).map (fun r => (2, r)) ++ (recs s bound p ++ all s p).map (fun r => (0, r)))) s3

/-! ### Table errors (R246) -/

/-- A correctable error of a table entry. -/
def State.tableEcc (s : State) (idx sub : Nat) : State :=
  ((s.bump K.FLD_TABLE_ECC_CORRECTED).raiseD F.FLD_TABLE_ECC (elemSub 5) (idx * 256 + sub) 0 0).cicRaise 0x111

/-- An uncorrectable extent or descriptor entry: the fold is isolated by the F2 reaction. -/
def State.extentEcc (s : State) (f e : Nat) : State :=
  if 1024 ≤ f then s else
  let s1 : State := { s with fab := { s.fab with fold := { s.fab.fold with damaged := K.FLD_EXTENT_ENTRY e :: s.fab.fold.damaged } } }
  (s1.raiseD F.FLD_EXTENT_ECC (elem 6 f) e 0 0).cicRaise 0x112

/-- An uncorrectable route entry counts as without VALID bits until it is restored. -/
def State.routeEcc (s : State) (idx sub : Nat) : State :=
  let s1 : State := { s with fab := { s.fab with fold := { s.fab.fold with damaged := key idx sub :: s.fab.fold.damaged } } }
  (s1.raiseD F.FLD_ROUTE_ECC (elemSub 5) (idx * 256 + sub) 0 0).cicRaise 0x113

/-- A failed bitmap write: the fold is isolated. -/
def State.dirtyFail (s : State) (f : Nat) : State :=
  if 1024 ≤ f then s else (s.raise F.FLD_DIRTY_WRITE (elem 6 f)).cicRaise 0x114

/-- Croft restores a damaged entry from its copy (R246, R264). -/
def State.restoreEntry (s : State) (idx sub : Nat) : State :=
  let k := key idx sub
  { s with fab := { s.fab with fold := { s.fab.fold with
      damaged := s.fab.fold.damaged.filter (· != k)
      gtpDamaged := s.fab.fold.gtpDamaged.filter (fun e => K.GTP_REGION_ENTRY e != k) } } }

end Sys2Proof.Machine
end

