-- ==== Sys2Proof/Machine/Bellwether.lean ====
section
/-! DEFINITION. Bellwether: the host tier, the device tier, the near cache, transactions and their crossings, flushes, rebuilds and failures
(R266 to R303). -/

namespace Sys2Proof.Machine

/-! ### Entries -/

/-- The bank and set of a line (R271). -/
def lineBank (target line : Nat) : Nat := (line % 16).xor (target % 16)

/-- The set of a line within its bank (R271). -/
def lineSet (target line : Nat) : Nat := (line / 16 % 16384).xor (target % 16384)

/-- The entry of a line. -/
def State.lineEntry (s : State) (t l : Nat) : Option Line := s.blw.lines.find? (fun e => e.target == t && e.line == l)

/-- No device holds the line. -/
def Line.noDevice (e : Line) : Line := { e with dstate := 0, sharers := [], coarse := false, groups := 0 }

/-- The entry of a line, or the absence of one (R273); without the device tier, its host tier alone (R267). -/
def State.lineOr (s : State) (t l : Nat) : Line :=
  let e := (s.lineEntry t l).getD { target := t, line := l }
  if s.rd K.BLW_DEVICE_TIER = 1 then e else e.noDevice

/-- The line is homed at this device (R266). -/
def State.homed (s : State) (t : Nat) : Bool := t / 256 == s.device

/-- An entry holds something. -/
def Line.live (e : Line) : Bool := !e.hvec.isEmpty || e.dstate != 0 || e.near.isSome || e.held

/-- Store an entry; one that holds nothing is not kept. -/
def State.putLine (s : State) (e : Line) : State :=
  let rest := s.blw.lines.filter (fun x => !(x.target == e.target && x.line == e.line))
  { s with blw := { s.blw with lines := if e.live then rest ++ [e] else rest } }

/-- Change an entry. -/
def State.onLine (s : State) (t l : Nat) (f : Line → Line) : State := s.putLine (f (s.lineOr t l))

/-- The open transaction of a line; forwards at a proxy have one of their own (R275, R288). -/
def BlwTxn.isForward (x : BlwTxn) : Bool :=
  match x.req with
  | .forward _ _ => true
  | _ => false

/-- The serialised transaction of a line (R288). -/
def State.txnOf (s : State) (t l : Nat) : Option BlwTxn :=
  s.blw.txns.find? (fun x => x.target == t && x.line == l && !x.isForward)

/-- Two records of transactions are of the same line and kind. -/
def sameTxn (x y : BlwTxn) : Bool := x.target == y.target && x.line == y.line && x.isForward == y.isForward

/-- Store a transaction. -/
def State.putTxn_ (s : State) (x : BlwTxn) : State :=
  { s with blw := { s.blw with txns := s.blw.txns.filter (fun y => !sameTxn x y) ++ [x] } }

/-- Close a transaction; while its conflict queue holds requests the record stays for them (R288). -/
def State.closeTxn (s : State) (x : BlwTxn) : State :=
  let rest := s.blw.txns.filter (fun y => !sameTxn x y)
  let q := ((s.blw.txns.find? (sameTxn x)).map (·.queue)).getD x.queue
  if q.isEmpty then { s with blw := { s.blw with txns := rest } }
  else { s with blw := { s.blw with txns := rest ++ [{ x with waiting := true, hosts := [], devs := [], queue := q }] } }

/-- An entry with an open transaction, a forward among them, is pinned, and so is a line whose WB_M failed twice (R273, R292). -/
def State.pinned (s : State) (e : Line) : Bool := e.held || s.blw.txns.any (fun x => x.target == e.target && x.line == e.line)

/-- Every recall slot is full (R272, R275). -/
def State.recallsFull (s : State) : Bool := 256 ≤ (s.blw.txns.filter (fun x => x.req == .recall)).length

/-- Lines that a port holds (R274). -/
def State.portLines (s : State) (p : Nat) : Nat := (s.blw.lines.filter (fun e => e.hvec.contains p)).length

/-- A device of BLW_PEERS that is not isolated takes part in the device tier, while there is one (R267, R270, R448). -/
def State.isPeer (s : State) (d : Nat) : Bool :=
  s.rd K.BLW_DEVICE_TIER == 1 && strBit (s.rdo K.BLW_PEERS) d && !s.flt.isolated.contains (elem 15 d)

/-- The device tier applies to a shared-mode line (R267). -/
def State.deviceTier (s : State) (shared : Bool) : Bool := shared && s.rd K.BLW_DEVICE_TIER == 1

/-- The devices that the home records as holding copies, without one (R281). -/
def State.holders (s : State) (e : Line) (without : Nat) : List Nat :=
  if e.dstate = 0 then []
  else if e.coarse then (List.range 256).filter (fun d => d != without && d != s.device && s.isPeer d && bit e.groups (d / 8))
  else e.sharers.filter (· != without)

/-- Add a sharer (R281): a fifth makes the vector coarse. -/
def Line.addSharer (e : Line) (d : Nat) : Line :=
  if e.coarse then { e with groups := putBit e.groups (d / 8) true }
  else if e.sharers.contains d then e
  else if e.sharers.length < 4 then { e with sharers := e.sharers ++ [d] }
  else { e with coarse := true, groups := (e.sharers ++ [d]).foldl (fun g x => putBit g (x / 8) true) 0, sharers := [] }

/-- One device owns the line. -/
def Line.ownedBy (e : Line) (d st : Nat) : Line := { e with dstate := st, sharers := [d], coarse := false, groups := 0 }

/-- The device holds a copy, as far as the home knows. -/
def Line.hasSharer (e : Line) (d : Nat) : Bool := e.dstate != 0 && (if e.coarse then bit e.groups (d / 8) else e.sharers.contains d)

/-- The owner in E or M. -/
def Line.owner (e : Line) : Option Nat := if 3 ≤ e.dstate then e.sharers.head? else none

/-- A device holds no copy any more (R281, R283): a precise pointer is cleared, a coarse bit stays; an owner leaves I, a forwarder S. -/
def Line.dropSharer (e : Line) (d : Nat) : Line :=
  if e.owner = some d then e.noDevice
  else
    let e1 : Line := { e with sharers := e.sharers.filter (· != d), dstate := if e.dstate = 2 ∧ e.forwarder = d then 1 else e.dstate }
    if e1.coarse || !e1.sharers.isEmpty then e1 else e1.noDevice

/-! ### Messages of the device tier (R282) -/

/-- A message to another device's Bellwether; without a route it is not sent. -/
def State.toDevice (s : State) (dev tc opcode tag : Nat) (f : TwillMsg → TwillMsg) : State :=
  let m := f { mkMsg (s.device * 256) (dev * 256) tc opcode tag with hops := s.rd K.TWL_HOP_LIMIT }
  match s.hopFor m with
  | none => s
  | some g =>
    let r := s.stampRs m
    r.2.sendMsg { id := 0, place := .queue, m := r.1, ingress := 64, egress := g }

/-- The extension of a TC1 message (R282): requester TAG and device, GRANTED and GRANT_TAG. -/
def tc1Word (e : Line) (dev reqTag reqDev : Nat) : Nat :=
  reqTag % 65536 + reqDev % 256 * 65536 + (if e.lastGrant = some dev then 2 ^ 24 + e.lastTag * 2 ^ 32 else 0)

/-- Send a snoop or forward to a device under a tracker of its own (R282, R275); without a route the peer counts as lost. -/
def State.snoop (s : State) (e : Line) (dev opcode reqTag reqDev : Nat) : Nat × Bool × State :=
  let t : Tracker := { tag := 0, origin := .blw e.target e.line, op := .read, target := dev * 256, addr := e.line * 64, len := 64,
                       wire := 0x100 + opcode, extension := tc1Word e dev reqTag reqDev }
  let r := s.newTracker t
  let t1 := (r.2.tracker r.1).getD t
  let m := reqMsg r.2 t1
  match r.2.hopFor m with
  | none => (r.1, false, r.2.releaseTracker t1)
  | some g =>
    let s1 := r.2.putTracker { t1 with egress := g }
    let st := s1.stampRs m
    (r.1, true, ((st.2.bump K.BLW_SNOOPS_SENT).count 0x6002 dev).sendMsg
      { id := 0, place := .queue, m := st.1, ingress := 64, egress := g, track := some r.1 })

/-! ### Back-invalidates (R277, R278) -/

/-- Send a BISnp to a host: 0 BISnpInv, 1 BISnpData, 2 BISnpCur. -/
def State.biSnp (s : State) (p kind t l : Nat) : State :=
  ((s.bump K.BLW_BISNP_SENT).count 0x6001 p).emit (.biSnp p kind t (l * 64))

/-- Send BISnps to those of the hosts whose link is up, and list them with the time.  A port that waits for its sweep answers by it (R296). -/
def State.biSnps (s : State) (ports : List Nat) (kind t l : Nat) : List (Nat × Nat × Nat) × State :=
  ((ports.filter (fun p => s.linkUp p || (s.port p).sweeping)).map (fun p => (p, kind, s.clk.dtc)),
    forEach (ports.filter s.linkUp) (fun s p => s.biSnp p kind t l) s)

/-! ### The near cache (R286, R287) -/

/-- The near cache is on and has room to exist. -/
def State.nearOn (s : State) : Bool := s.rd K.BLW_NEAR_ENABLE == 1 && s.rd K.BLW_NEAR_LINES != 0

/-- The set of a line in the near cache: 15 lines for every KiB (R286). -/
def State.nearSet (s : State) (t l : Nat) : Nat := Config.nearSet t l % max 1 (s.rd K.BLW_NEAR_LINES / 15)

/-- Write a dirty remote line back to its home (WB_M, R287): its TAG is noted as in flight. -/
def State.writeback (s : State) (e : Line) (keep : Bool) (poison : Bool) : State :=
  let data := fit 64 (e.near.getD [])
  let t : Tracker := { tag := 0, origin := .blw e.target e.line, op := .writeback, target := e.target, addr := e.line * 64, len := 64, data := data,
                       wire := 0x348, extension := b2n keep, poison := poison }
  let r := s.newTracker t
  let t1 := (r.2.tracker r.1).getD t
  let m := reqMsg r.2 t1
  match r.2.hopFor m with
  | none => (r.2.releaseTracker t1).putLine { e with held := true }
  | some g =>
    let s1 := (r.2.putTracker { t1 with egress := g }).putLine { e with held := false }
    let s2 : State := { s1 with blw := { s1.blw with wbOut := s1.blw.wbOut ++ [(e.target, e.line, r.1)] } }
    let st := s2.stampRs m
    st.2.sendMsg { id := 0, place := .queue, m := st.1, ingress := 64, egress := g, track := some r.1 }

/-- Tell the home that this device gives the line up (EVICT, R287).  Gatepost checks it as a request in TC4 (R249).  DEDUCED: R255 names no permission for
it; as a host's clean eviction (R277) it needs READ, and its record has KIND 1. -/
def State.sendEvict (s : State) (e : Line) (keep : Bool) : State :=
  let t : Tracker := { tag := 0, origin := .own, op := .evict, target := e.target, addr := e.line * 64, len := 64, wire := 0x447,
                       extension := b2n keep, who := { device := s.device }, need := permRead, passed := true }
  match s.gtpDenied t.who t.target t.addr 64 t.need with
  | some d => s.gtpViolation t.who t.target t.addr 64 1 t.need false d
  | none =>
  let r := s.newTracker t
  let t1 := (r.2.tracker r.1).getD t
  let m := reqMsg r.2 t1
  match r.2.hopFor m with
  | none => r.2.releaseTracker t1
  | some g =>
    let st := (r.2.putTracker { t1 with egress := g }).stampRs m
    st.2.sendMsg { id := 0, place := .queue, m := st.1, ingress := 64, egress := g, track := some r.1 }

/-- The transaction that takes a line back from the hosts (R272), and then gives it up; one without host copies goes on at once (`sweepTxns`). -/
def State.recallLine (s : State) (e : Line) : State :=
  let b := s.biSnps e.hvec 0 e.target e.line
  (b.2.putLine e).putTxn_ { target := e.target, line := e.line, req := .recall, hosts := b.1, openedAt := s.clk.dtc }

/-- A near-cache line that a local host owns and has been written here. -/
def Line.nearOwned (e : Line) : Bool := e.dirty && e.owned && !e.hvec.isEmpty

/-- Evict a line from the near cache (R287).  DESIGN CHOICE: a dirty line that a local host owns is first taken back from that host. -/
def State.nearEvict (s : State) (e : Line) : State :=
  if e.nearOwned then s.recallLine { e with nway := 15 }
  else if e.dirty then s.writeback { e with nway := 15 } (!e.hvec.isEmpty) e.poisoned
  else
    let e1 : Line := { e with near := none }
    if e.dstate = 2 then (s.putLine { e1 with dstate := if e.hvec.isEmpty then 0 else 1 }).sendEvict e (!e.hvec.isEmpty)
    else if e.hvec.isEmpty then (s.putLine { e1 with dstate := 0 }).sendEvict e false
    else s.putLine e1

/-- A data grant fills the near cache (R286): the victim is the next way at the set's rotating pointer whose line has no open transaction.
DESIGN CHOICE: dirty data is kept with the line's entry where the near cache is off or has no way for it; it goes home when the line does. -/
def State.nearFill (s : State) (t l : Nat) (data : List Byte) (dirty : Bool) : State :=
  let fill := fun (s : State) (w : Nat) => s.onLine t l (fun e => { e with near := some data, dirty := dirty, nway := w })
  let mine := s.blw.lines.filter (fun e => e.near.isSome && decide (e.nway < 15) && s.nearSet e.target e.line == s.nearSet t l)
  if s.homed t then s
  else if !s.nearOn then (if dirty then fill s 15 else s)
  else match mine.find? (fun e => e.target == t && e.line == l) with
    | some e => fill s e.nway
    | none =>
      match (List.range 15).find? (fun w => !(mine.any (fun e => e.nway == w))) with
      | some w => fill s w
      | none =>
        let k := s.nearSet t l
        let free := fun (e : Line) => !s.pinned e && !(e.nearOwned && s.recallsFull)
        match rotFind (fun w => mine.any (fun e => e.nway == w && free e)) 15 (Sparse.get (fun _ => 0) s.blw.nearPtr k) with
        | none => if dirty then fill s 15 else s
        | some w =>
          let s0 : State := { s with blw := { s.blw with nearPtr := Sparse.set (fun _ => 0) s.blw.nearPtr k ((w + 1) % 15) } }
          fill (forEach (mine.filter (fun e => e.nway == w)) (fun s e => s.nearEvict e) s0) w

/-! ### Memory of lines homed here -/

/-- A poisoning is counted and recorded (R295). -/
def State.poisonNote (s : State) (l : Nat) : State :=
  ((s.bump K.BLW_POISONED_LINES).raiseD F.BLW_POISON (elemSub 6) (l * 64) 0 0).cicRaise 0x123

/-- A message of Bellwether's enters its reserved write path (R291): it takes no cells of the buffer, and waits behind no other message. -/
def State.writePathAdd (s : State) (x : LMsg) : State :=
  State.addMsg { s with fab := { s.fab with loom := { s.fab.loom with nextId := s.fab.loom.nextId + 1 } } }
    { x with id := s.fab.loom.nextId, place := .writePath, at_ := s.clk.dtc, gen := some (s.linkGen x.ingress) }

/-- A new message of Bellwether's own (R160): to a port whose link is down it is answered at once, as a host's would be; a write's loss is reported to the
owners of its folds. -/
def State.sendNew (s : State) (x : LMsg) (dpa : Nat) : State :=
  let y := { x with id := s.fab.loom.nextId }
  if !s.barred y then (if y.m.data.isEmpty then s.sendMsg x else s.writePathAdd x)
  else
    let hit := s.extents.filter (fun e => e.target == y.m.dst && decide (e.base ≤ dpa) && decide (dpa < e.base + e.size))
    (when (!y.m.data.isEmpty) (fun s => forEach hit (fun s e => s.mediaEvent e.fold dpa) s) s).answerDown y.egress y

/-- Write a line, or the enabled bytes of it, to its home memory by the reserved path (R291): Commons at once, an LD by a write of the device's own. -/
def State.homeWrite (s : State) (t l : Nat) (data : List Byte) (poison : Bool) (be : Nat := 2 ^ 64 - 1) : State :=
  if t % 256 = 1 then
    let s1 := (s.cmnWrite (l * 64) data (fun i => bit be i)).2
    if poison then s1.poisonLine (l * 64) else s1
  else match s.localGang (t % 256) with
    | none => s
    | some g =>
      let tr : Tracker := { tag := 0, origin := .own, op := if be = 2 ^ 64 - 1 then .write else .partialWrite, target := t, addr := l * 64, len := 64,
                            data := data, be := be, wire := if be = 2 ^ 64 - 1 then 0x402 else 0x403, extension := if be = 2 ^ 64 - 1 then 0 else be,
                            egress := g, poison := poison }
      let r := s.newTracker tr
      let m := reqMsg r.2 ((r.2.tracker r.1).getD tr)
      when poison (·.poisonNote l)
        (r.2.sendNew { id := 0, place := .queue, m := m, ingress := 64, egress := g, track := some r.1 } (l * 64))

/-- Read a line of Commons at once; a line of an LD is asked for, and answers later. -/
def State.homeRead (s : State) (t l : Nat) : Option (List Byte × Bool) × State :=
  if t % 256 = 1 then
    let r := s.cmnRead (l * 64) 64
    (some (r.1, r.2.1), r.2.2)
  else match s.localGang (t % 256) with
    | none => (some (zeros 64, true), s)
    | some g =>
      let tr : Tracker := { tag := 0, origin := .blw t l, op := .read, target := t, addr := l * 64, len := 64, wire := 0x401, extension := 64,
                            egress := g }
      let r := s.newTracker tr
      (none, r.2.sendNew { id := 0, place := .queue, m := reqMsg r.2 ((r.2.tracker r.1).getD tr), ingress := 64, egress := g, track := some r.1 } (l * 64))

/-- An address of a target lies in a bound extent of a fold with SHARED (R266). -/
def State.sharedAt (s : State) (t a : Nat) : Bool :=
  s.extents.any (fun x => x.target == t && decide (x.base ≤ a) && decide (a < x.base + x.size) && s.foldFlag x.fold 0)

/-- A line is in shared mode: it lies in such an extent here (R266), or in one of another device, which holds a copy of this home's line. -/
def State.lineShared (s : State) (e : Line) : Bool := s.sharedAt e.target (e.line * 64) || (s.homed e.target && e.dstate != 0)

/-- Poison a memory line homed here (R295). -/
def State.poisonHome (s : State) (t l : Nat) : State :=
  if t % 256 = 1 then s.poisonLine (l * 64) else s.homeWrite t l (zeros 64) true

/-- Write a line's data to its memory: here by the reserved path, or at another device by a write of this device's own. -/
def State.lineWrite (s : State) (t l : Nat) (data : List Byte) (poison : Bool) : State :=
  if s.homed t then s.homeWrite t l data poison
  else
    let tr : Tracker := { tag := 0, origin := .own, op := .write, target := t, addr := l * 64, len := 64, data := data, wire := 0x402, poison := poison }
    let r := s.newTracker tr
    let t1 := (r.2.tracker r.1).getD tr
    let m := reqMsg r.2 t1
    match r.2.hopFor m with
    | none => r.2.releaseTracker t1
    | some g =>
      let st := (r.2.putTracker { t1 with egress := g }).stampRs m
      st.2.sendMsg { id := 0, place := .queue, m := st.1, ingress := 64, egress := g, track := some r.1 }

/-- The latest data of a line is lost (R296, R299): its memory is poisoned; a line that this device holds for another stays as a poisoned dirty line. -/
def State.spoil (s : State) (t l : Nat) : State :=
  if s.homed t then s.poisonHome t l
  else if (s.lineOr t l).dstate = 0 then (s.lineWrite t l (zeros 64) true).poisonNote l
  else ((s.nearFill t l (zeros 64) true).onLine t l (fun e => { e with poisoned := true, dstate := 4 })).poisonNote l

/-! ### Allocation and recall (R272 to R275) -/

/-- The transaction slots for host requests and MC-REQ are all in use (R275). -/
def State.slotsFull (s : State) : Bool := 12032 ≤ (s.blw.txns.filter (fun x => !x.isForward && x.req != .recall)).length

/-- The on-chip entries of a line's set. -/
def State.setLines (s : State) (t l : Nat) : List Line :=
  s.blw.lines.filter (fun e => !e.l2 && e.way < 16 && lineBank e.target e.line == lineBank t l && lineSet e.target e.line == lineSet t l)

/-- The lines of the second-level set of a line, and whether it has room for another: 16 ways (R271). -/
def State.secondRoom (s : State) (t l : Nat) : Bool :=
  let sets := s.rd K.BLW_L2_ENTRIES / 16
  sets != 0 && decide ((s.blw.lines.filter (fun e => e.l2 && Config.secondSet e.target e.line % sets == Config.secondSet t l % sets)).length < 16)

/-- The recall of a victim's copies (R272): its host copies with BISnpInv; then, without a second level, in the device tier. -/
def State.startRecall (s : State) (e : Line) : State := (s.recallLine { e with way := 16 }).bump K.BLW_RECALLS

/-- Put an entry on the chip: none where every way is pinned, or no recall slot is free. -/
def State.takeWay (s : State) (e : Line) : Option State :=
  let mine := s.setLines e.target e.line
  let k := 16384 * lineBank e.target e.line + lineSet e.target e.line
  match (List.range 16).find? (fun w => !(mine.any (fun e => e.way == w))) with
  | some w => some (s.putLine { e with way := w, l2 := false })
  | none =>
    if s.recallsFull then none else
    let ptr := Sparse.get (fun _ => 0) s.blw.victim k
    match rotFind (fun w => mine.any (fun e => e.way == w && !s.pinned e)) 16 ptr with
    | none => none
    | some w => match mine.find? (fun e => e.way == w) with
      | none => none
      | some v =>
        let s1 : State := { s with blw := { s.blw with victim := Sparse.set (fun _ => 0) s.blw.victim k ((w + 1) % 16) } }
        some ((s1.startRecall v).putLine { e with way := w, l2 := false })

/-- The entry of a request: the one that is there, a new one, or one of the second level, which a host's request brings onto the chip (R272). -/
def State.allocate (s : State) (t l : Nat) (host : Bool) : Option State :=
  match s.lineEntry t l with
  | some e => if e.l2 && host then s.takeWay e else some s
  | none => s.takeWay { target := t, line := l, held := true }

/-- The mark of a fresh allocation is taken off once the request has been worked on. -/
def State.settleLine (s : State) (t l : Nat) : State :=
  match s.lineEntry t l with
  | some e => if e.dstate = 4 ∧ e.dirty ∧ !s.homed t then s else s.putLine { e with held := false }
  | none => s

/-! ### Completing requests of hosts and agents -/

/-- The message of a request that waits in Bellwether. -/
def State.blwMsg (s : State) (tag : Nat) : Option LMsg :=
  s.fab.loom.msgs.find? (fun x => x.place == .blw && x.track == some tag)

/-- Answer a waiting request at once with data. -/
def State.blwAnswer (s : State) (tag : Nat) (data : List Byte) (poison : Bool) : State :=
  match s.tracker tag with
  | none => s
  | some t =>
    let s1 := match s.blwMsg tag with
      | some x => s.dropMsg x.id
      | none => s
    s1.completeOk t data poison

/-- Let a waiting request go to its target through Loom. -/
def State.blwForward (s : State) (tag : Nat) : State :=
  match s.blwMsg tag with
  | some x => s.linkNew x
  | none => s

/-- Record what a grant to a host leaves (R277): 0 Invalid, 1 shared, 2 exclusive. -/
def State.grantHost (s : State) (tag g p t l fold : Nat) : State :=
  let s1 := match s.tracker tag with
    | some x => s.putTracker { x with grant := g }
    | none => s
  if g = 0 then s1 else
  s1.onLine t l (fun e => { e with hvec := if g = 2 then [p] else if e.hvec.contains p then e.hvec else e.hvec ++ [p], owned := g == 2, fold := fold })

/-- The port of a host request. -/
def Tracker.hostPort (t : Tracker) : Option Nat :=
  match t.origin with
  | .host p _ => some p
  | _ => none

/-- A request would add a line to a port that is at its quota (R274). -/
def State.overQuota (s : State) (p : Nat) (e : Line) : Bool := !e.hvec.contains p && decide (s.rd K.BLW_PORT_QUOTA ≤ s.portLines p)

/-- The state of a grant to a port (R274, R277, R297): the one asked for, or Invalid at its quota, which is counted, or after a flush of the fold. -/
def State.granting (s : State) (p fold : Nat) (e : Line) (g : Nat) : Nat × State :=
  if s.overQuota p e then (0, s.bump K.BLW_QUOTA_UNCACHED)
  else (if s.blw.noGrant.contains fold && s.rd (K.FLD_OWNER_PORT fold) == p then 0 else g, s)

/-- A request for a proxy's home leaves (R284): the tracker takes its Twill form, and the message goes by the route. -/
def State.toHome (s : State) (tag opcode ext : Nat) : State :=
  match s.tracker tag with
  | none => s
  | some t =>
    let t1 : Tracker := { t with wire := 0x400 + opcode, extension := ext }
    let s1 := match s.blwMsg tag with
      | some x => s.dropMsg x.id
      | none => s
    let m := reqMsg s1 t1
    match s1.hopFor m with
    | none => s1.unrouted t1
    | some g =>
      let st := (s1.putTracker { t1 with egress := g }).stampRs m
      st.2.sendMsg { id := 0, place := .queue, m := st.1, ingress := t.ingress, egress := g, track := some tag }

/-- The bytes of a write in one line, laid over what the line held. -/
def mergeLine (t : Tracker) (l : Nat) (old : List Byte) : List Byte :=
  (List.range 64).map (fun i =>
    let a := l * 64 + i
    if t.addr ≤ a ∧ a < t.addr + t.data.length ∧ t.enables (a - t.addr) then t.data.getD (a - t.addr) 0
    else old.getD i 0)

/-- A write covers a line whole. -/
def Tracker.coversLine (t : Tracker) (l : Nat) : Bool :=
  decide (t.addr ≤ l * 64) && decide (l * 64 + 64 ≤ t.addr + t.data.length) && (List.range 64).all (fun i => t.enables (l * 64 + i - t.addr))

/-- An agent's or writer's access has one line less open; with its last line it goes on to memory, or completes (R290). -/
def State.lineDone (s : State) (tag : Nat) (atHome : Bool) : State :=
  let n := Sparse.get (fun _ => 1) s.blw.open_ tag
  if 1 < n then { s with blw := { s.blw with open_ := Sparse.insert tag (n - 1) s.blw.open_ } }
  else
    let s1 : State := { s with blw := { s.blw with open_ := Sparse.erase tag s.blw.open_ } }
    if atHome then s1.blwForward tag else s1.blwAnswer tag [] false

/-! ### Finishing a transaction -/

/-- The data that snoops returned is written to memory, once (R277, R283). -/
def State.keepData (s : State) (x : BlwTxn) : State :=
  if x.kept then s else
  match x.data with
  | some d => s.lineWrite x.target x.line d x.poison
  | none => s

/-- The reads of the current value (R277, R290). -/
def Tracker.current (t : Tracker) : Bool := t.op == .rdCur || t.op == .read

/-- A line of a read of several lines was read from a copy (R284, R290): its bytes wait in the tracker for the others. -/
def State.gatherLine (s : State) (t : Tracker) (l : Nat) (d : List Byte) (poison : Bool) : State :=
  s.putTracker { t with data := t.lay (l * 64) d, got := l :: t.got, poison := t.poison || poison }

/-- The access lies in one line. -/
def Tracker.oneLine (t : Tracker) : Bool := decide (t.addr % 64 + max 1 (max t.len t.data.length) ≤ 64)

/-- A host's or agent's request at the home, when every answer is in (R277, R290).  A read of the current value changes no state and no memory. -/
def State.finishHome (s : State) (x : BlwTxn) (t : Tracker) : State :=
  let s0 := if t.current then s else s.keepData x
  let e := s0.lineOr x.target x.line
  let p := t.hostPort.getD 64
  let reply := fun (s : State) => match x.data with
    | some d => s.blwAnswer t.tag d x.poison
    | none => s.blwForward t.tag
  match t.op with
  | .rdShared =>
    let e1 : Line := if e.dstate < 3 then e else if x.answer = 5 then { e with dstate := 1 } else e.noDevice
    let s1 := s0.putLine e1
    let others := e1.hvec.any (· != p) || e1.dstate != 0
    let g := s1.granting p t.fold e1 (if others then 1 else 2)
    reply (g.2.grantHost t.tag g.1 p x.target x.line t.fold)
  | .rdOwn | .memInv =>
    let s1 := s0.onLine x.target x.line (fun e => { e.noDevice with hvec := e.hvec.filter (· == p) })
    let g := s1.granting p t.fold e 2
    let s2 := g.2.grantHost t.tag g.1 p x.target x.line t.fold
    if t.op = .memInv then s2.blwAnswer t.tag [] false else reply s2
  | .rdCur | .read =>
    if t.oneLine then
      match x.data with
      | some d => s0.blwAnswer t.tag (slice d (t.addr % 64) t.len) x.poison
      | none => s0.blwForward t.tag
    else match x.data with
      | some d => (s0.gatherLine t x.line d x.poison).lineDone t.tag true
      | none => s0.lineDone t.tag true
  | .writeback =>
    (s0.onLine x.target x.line (fun e => { e with hvec := if t.keepS then e.hvec else e.hvec.filter (· != p), owned := false })).blwForward t.tag
  | .evict =>
    (s0.onLine x.target x.line (fun e => { e with hvec := e.hvec.filter (· != p), owned := e.owned && e.hvec.any (· != p) })).blwAnswer t.tag [] false
  | _ => (s0.onLine x.target x.line (fun e => { e.noDevice with hvec := [], owned := false })).lineDone t.tag true

/-- A write of this device's hosts or agents is merged into a line that the proxy owns (R284): state M; without a near cache it goes home at once. -/
def State.nearMerge (s : State) (t l : Nat) (d : List Byte) (whole : Bool) : State :=
  let s1 := (s.nearFill t l d true).onLine t l (fun e => { e with dstate := 4, poisoned := e.poisoned && !whole })
  if s1.nearOn then s1 else s1.writeback (s1.lineOr t l) false (s1.lineOr t l).poisoned

/-- The runs of at most 128 contiguous lines in an ascending list: the first line and the number of lines of each (R290). -/
def runsOf (ls : List Nat) : List (Nat × Nat) :=
  (ls.foldl (fun (acc : List (Nat × Nat)) l => match acc with
    | (a, n) :: r => if a + n = l ∧ n < 128 then (a, n + 1) :: r else (l, 1) :: acc
    | [] => [(l, 1)]) []).reverse

/-- An access whose lines this device holds in part sends one WR_INV or RD_CUR for each run of the others, and completes with the last of them
(R284, R290). -/
def State.sendRuns (s : State) (t : Tracker) (runs : List (Nat × Nat)) : State :=
  let s1 := match s.blwMsg t.tag with
    | some x => s.dropMsg x.id
    | none => s
  let s2 : State := { s1 with blw := { s1.blw with open_ := Sparse.insert t.tag runs.length s1.blw.open_ } }
  forEach runs (fun s r =>
    let a := if t.writes then max t.addr (r.1 * 64) else r.1 * 64
    let e := if t.writes then min (t.addr + t.data.length) ((r.1 + r.2) * 64) else (r.1 + r.2) * 64
    let tr : Tracker := { t with tag := 0, origin := .run t.tag, op := if t.writes then .wrInv else .read, addr := a, len := e - a
                                 data := if t.writes then slice t.data (a - t.addr) (e - a) else [], got := [], poison := t.poison && t.writes
                                 wire := if t.writes then 0x444 else 0x443, extension := e - a, sentAt := none, charged := false }
    let n := s.newTracker tr
    let t1 := (n.2.tracker n.1).getD tr
    let m := reqMsg n.2 t1
    match n.2.hopFor m with
    | none => n.2.completeError t1 2
    | some g =>
      let st := (n.2.putTracker { t1 with egress := g }).stampRs m
      st.2.sendMsg { id := 0, place := .queue, m := st.1, ingress := t.ingress, egress := g, track := some n.1 }) s2

/-- A line or run of an access at a proxy is done: with the last one a read answers what it gathered, and a write completes. -/
def State.partDone (s : State) (tag : Nat) : State :=
  let n := Sparse.get (fun _ => 1) s.blw.open_ tag
  if 1 < n then s.lineDone tag false
  else
    let s1 : State := { s with blw := { s.blw with open_ := Sparse.erase tag s.blw.open_ } }
    match s.tracker tag with
    | some t => s1.blwAnswer tag (if t.writes then [] else t.data) false
    | none => s1

/-- A run of an access has ended (R284, R290). -/
def State.runDone (s : State) (tag status a : Nat) (data : List Byte) : State :=
  match s.tracker tag with
  | none => s
  | some t =>
    if status ≠ 0 ∧ (t.writes ∨ status ≠ 6) then
      ({ s with blw := { s.blw with open_ := Sparse.erase tag s.blw.open_ } } : State).completeError t status
    else if t.writes then s.partDone tag
    else
      (s.putTracker { t with data := t.lay a data, got := linesOf a data.length ++ t.got, poison := t.poison || status == 6 }).partDone tag

/-- What an atomic of a tracker leaves in a line. -/
def atomicLine (t : Tracker) (d : List Byte) : List Byte :=
  let n := 2 ^ bits t.extension 15 8
  let o := t.addr % 64
  patch d o (leBytes n (atomicNew (bits t.extension 7 0) n (field d o n) (field t.data 0 8) (field t.data 8 8)))

/-- A current read at a proxy (R284): a line that is held here is read from its copy, and the others from the home; no state changes. -/
def State.proxyRead (s : State) (x : BlwTxn) (t : Tracker) (e : Line) : State :=
  let copy := if e.dstate = 0 then none else (match x.data with
    | some d => some d
    | none => e.near)
  let s1 := when copy.isSome (fun s => (s.bump K.BLW_NEAR_HITS).count 0x6003 0) s
  let even := decide (t.addr % 64 = 0 ∧ t.len % 64 = 0)
  if t.oneLine then
    match copy with
    | some d => s1.blwAnswer t.tag (slice d (t.addr % 64) t.len) e.poisoned
    | none => if even then s1.toHome t.tag 0x43 t.len else s1.sendRuns t [(x.line, 1)]
  else
    let s2 := match copy with
      | some d => s1.gatherLine t x.line d e.poisoned
      | none => s1
    let lines := linesOf t.addr t.len
    let rest : List Nat := lines.filter (fun l => !((s2.tracker t.tag).any (fun y => y.got.contains l)))
    if decide (1 < Sparse.get (fun _ => 1) s2.blw.open_ t.tag) || rest.isEmpty then s2.partDone t.tag
    else
      let s3 : State := { s2 with blw := { s2.blw with open_ := Sparse.erase t.tag s2.blw.open_ } }
      if even ∧ rest.length = lines.length then s3.toHome t.tag 0x43 t.len else s3.sendRuns ((s3.tracker t.tag).getD t) (runsOf rest)

/-- A host's or agent's request at a proxy, when the local back-invalidates are answered (R284).  DESIGN CHOICE: a read for ownership of a line in S
whose data is not here asks with RD_OWN, as GNT_OWN brings no data; and a write of part of a line in E whose data is not here first fetches it with RD_OWN,
which the home answers from memory (R283). -/
def State.finishProxy (s : State) (x : BlwTxn) (t : Tracker) : State :=
  let s0 := match (if t.current then none else x.data) with
    | some d => (s.nearFill x.target x.line d true).onLine x.target x.line (fun e => { e with dstate := if 3 ≤ e.dstate then 4 else e.dstate })
    | none => s
  let e := s0.lineOr x.target x.line
  let p := t.hostPort.getD 64
  let hit := fun (s : State) => (s.bump K.BLW_NEAR_HITS).count 0x6003 0
  match t.op with
  | .rdShared =>
    match e.near with
    | some d => if e.dstate = 0 then s0.toHome t.tag 0x40 0 else
      let g := s0.granting p t.fold e 1
      (hit (g.2.grantHost t.tag g.1 p x.target x.line t.fold)).blwAnswer t.tag d e.poisoned
    | none => s0.toHome t.tag 0x40 0
  | .rdOwn | .memInv =>
    if 3 ≤ e.dstate ∧ (e.near.isSome ∨ t.op = .memInv) then
      let g := s0.granting p t.fold e 2
      let s1 := (g.2.onLine x.target x.line (fun e => { e with hvec := e.hvec.filter (· == p) })).grantHost t.tag g.1 p x.target x.line t.fold
      if t.op = .memInv then s1.blwAnswer t.tag [] false else (hit s1).blwAnswer t.tag (e.near.getD []) e.poisoned
    else if 1 ≤ e.dstate ∧ e.dstate ≤ 2 ∧ (e.near.isSome ∨ t.op = .memInv) then s0.toHome t.tag 0x42 0
    else s0.toHome t.tag 0x41 0
  | .rdCur | .read => s0.proxyRead x t e
  | .writeback =>
    let s1 := s0.onLine x.target x.line (fun e => { e with hvec := if t.keepS then [p] else e.hvec.filter (· != p), owned := false })
    if e.near.isNone ∧ !t.coversLine x.line then s1.toHome t.tag 0x41 0
    else
      let s2 := ((s1.nearFill x.target x.line (mergeLine t x.line (e.near.getD (zeros 64))) true).onLine x.target x.line (fun e =>
        { e with dstate := 4, poisoned := e.poisoned && !t.coversLine x.line })).blwAnswer t.tag [] false
      if s2.nearOn then s2 else s2.writeback (s2.lineOr x.target x.line) t.keepS (s2.lineOr x.target x.line).poisoned
  | .evict =>
    let s1 := s0.onLine x.target x.line (fun e => { e with hvec := e.hvec.filter (· != p), owned := e.owned && e.hvec.any (· != p) })
    s1.blwAnswer t.tag [] false
  | .atomic | .atomicCoh =>
    let s1 := s0.onLine x.target x.line (fun e => { e with hvec := [], owned := false })
    if e.dstate < 3 ∨ !atomicOk t.extension t.addr then
      (s1.onLine x.target x.line (fun e => { e with dstate := 0, near := none, dirty := false })).toHome t.tag 0x46 t.extension
    else match e.near with
    | some d =>
      if e.poisoned then (match s1.blwMsg t.tag with
        | some y => s1.dropMsg y.id
        | none => s1).completeError t 6
      else
        (s1.nearMerge x.target x.line (atomicLine t d) false).blwAnswer t.tag (fit 64 (slice d (t.addr % 64) (2 ^ bits t.extension 15 8))) false
    | none => s1.toHome t.tag 0x41 0
  | _ =>
    let n : Nat := Sparse.get (fun _ => 1) s0.blw.open_ t.tag
    let held := fun (l : Nat) (e : Line) => decide (3 ≤ e.dstate) && (e.near.isSome || t.coversLine l)
    let s1 := s0.onLine x.target x.line (fun e => { e with hvec := [], owned := false })
    if t.oneLine ∧ 3 ≤ e.dstate ∧ !held x.line e then s1.toHome t.tag 0x41 0 else
    let s2 := if held x.line e then s1.nearMerge x.target x.line (mergeLine t x.line (e.near.getD (zeros 64))) (t.coversLine x.line)
      else s1.onLine x.target x.line (fun e => { e with dstate := 0, near := none, dirty := false })
    let rest : List Nat := (linesOf t.addr t.data.length).filter (fun l => !held l (s2.lineOr t.target l))
    if decide (1 < n) || rest.isEmpty then s2.lineDone t.tag false
    else
      let s3 : State := { s2 with blw := { s2.blw with open_ := Sparse.erase t.tag s2.blw.open_ } }
      if t.op = .partialWrite ∨ t.op = .wrInvPartial then s3.toHome t.tag 0x45 t.be
      else if rest.length = (linesOf t.addr t.data.length).length ∧ rest.length ≤ 128 then s3.toHome t.tag 0x44 t.len
      else s3.sendRuns t (runsOf rest)

/-- A completion of a home toward a device (R283): BW_CMP, with a status. -/
def State.bwCmpTo (s : State) (m : TwillMsg) (status : Nat) : State :=
  s.toDevice (m.src / 256) 2 0x40 m.tag (fun m => { m with status := status })

/-- A grant with data to a device: opcode 0x40 DATA_S, 0x41 DATA_F, 0x42 DATA_E, 0x43 DATA_M, 0x44 DATA_CUR. -/
def State.dataTo (s : State) (dev tag opcode : Nat) (data : List Byte) (poison : Bool) : State :=
  s.toDevice dev 3 opcode tag (fun m => { m with data := data, dcnt := ceilDiv data.length 64, status := if poison then 6 else 0, poisoned := poison })

/-- The home answers a device-tier request with data at hand, and notes the grant (R283): a shared grant is DATA_F, and DATA_S without BLW_FORWARDING where no
other device was asked. -/
def State.grantDevice (s : State) (x : BlwTxn) (m : TwillMsg) (data : List Byte) (poison : Bool) : State :=
  let r := m.src / 256
  let fwd := s.rd K.BLW_FORWARDING == 1 || x.answer != 0
  let e := s.lineOr x.target x.line
  let note := fun (e : Line) => { e with lastGrant := some r, lastTag := m.tag }
  match m.opcode with
  | 0x40 =>
    if e.dstate = 0 ∧ e.hvec.isEmpty then (s.putLine (note (e.ownedBy r 3))).dataTo r m.tag 0x42 data poison
    else
      let e1 := ({ e with dstate := if fwd then 2 else 1, forwarder := r } : Line).addSharer r
      (s.putLine (note e1)).dataTo r m.tag (if fwd then 0x41 else 0x40) data poison
  | 0x43 => s.dataTo r m.tag 0x44 data poison
  | _ => (s.putLine (note ({ e.ownedBy r 3 with hvec := [], owned := false }))).dataTo r m.tag 0x42 data poison

/-- EVICT at the home (R281, R283). -/
def State.homeEvict (s : State) (m : TwillMsg) : State :=
  let dev := m.src / 256
  let e := s.lineOr m.dst (m.addr / 64)
  let s1 := if !e.hasSharer dev then s
    else if bit m.word3 0 then s.putLine (if e.dstate = 2 ∧ e.forwarder = dev then { e with dstate := 1 } else e)
    else s.putLine (e.dropSharer dev)
  s1.bwCmpTo m 0

/-- A device-tier request at its home, when every snoop is answered (R283, R289, R293). -/
def State.finishDevice (s : State) (x : BlwTxn) (m : TwillMsg) : State × Bool :=
  let r := m.src / 256
  let s0 := s.keepData x
  let e := s0.lineOr x.target x.line
  let fromMemory := fun (s : State) => match x.data with
    | some d => (s.grantDevice x m d x.poison, true)
    | none => match s.homeRead x.target x.line with
      | (some d, s1) => (s1.grantDevice x m d.1 (d.2 || x.poison), true)
      | (none, s1) => (s1.putTxn_ { x with memory := true }, false)
  let note := fun (e : Line) => { e with lastGrant := some r, lastTag := m.tag }
  if e.owner = some r ∧ x.answer = 0 ∧ m.opcode ≤ 0x42 then
    if e.dstate = 3 then fromMemory (s0.putLine { e.noDevice with hvec := [], owned := false })
    else (((s0.poisonHome x.target x.line).putLine (note { e.ownedBy r 3 with hvec := [], owned := false })).dataTo r m.tag 0x42 (zeros 64) true, true)
  else match m.opcode with
  | 0x40 =>
    if x.answer = 1 then
      (s0.putLine (note (({ e with dstate := 2, forwarder := r } : Line).addSharer r)), true)
    else if x.answer = 3 then
      fromMemory (s0.putLine { e with sharers := e.sharers.filter (· != e.forwarder) })
    else if x.answer = 4 ∧ 3 ≤ e.dstate then fromMemory (s0.putLine ({ e.noDevice with dstate := 1 }))
    else if x.answer = 5 then fromMemory (s0.putLine { e with dstate := 1 })
    else fromMemory s0
  | 0x47 => (s0.homeEvict m, true)
  | 0x43 => fromMemory s0
  | _ =>
    if m.opcode = 0x42 ∧ e.hasSharer r ∧ e.dstate ≤ 2 then
      ((s0.putLine (note { e.ownedBy r 3 with hvec := [], owned := false })).toDevice r 2 0x41 m.tag id, true)
    else if x.answer = 1 then (s0.putLine (note { e.ownedBy r 4 with hvec := [], owned := false }), true)
    else if x.failed ∧ x.data.isSome then
      ((s0.putLine (note { e.ownedBy r 4 with hvec := [], owned := false })).dataTo r m.tag 0x43 (x.data.getD []) x.poison, true)
    else if x.failed ∧ e.dstate = 4 ∧ x.answer = 4 then
      let s1 := s0.poisonHome x.target x.line
      ((s1.putLine (note { e.ownedBy r 3 with hvec := [], owned := false })).dataTo r m.tag 0x42 (zeros 64) true, true)
    else fromMemory (s0.putLine e.noDevice)

end Sys2Proof.Machine
end

