-- ==== Sys2Proof/Machine/Coherence.lean ====
section
/-! DEFINITION. Bellwether at work: how transactions open, take answers and close, forwards at a proxy, writebacks and crossings, failures, bulk
flushes and rebuilds (R273 to R301). -/

namespace Sys2Proof.Machine

/-! ### Opening a transaction -/

/-- What a request must ask of hosts (ports and kind of BISnp) and of devices (device and opcode) at the home (R277, R283, R290). -/
def homeSnoops (s : State) (e : Line) (req : BlwReq) : List Nat × Nat × List (Nat × Nat) :=
  let owned := fun (p : Nat) => if e.owned then e.hvec.filter (· != p) else []
  let inv := fun (r : Nat) => (s.holders e r).map (fun d => (d, 0x03))
  let own := fun (op r : Nat) => match e.owner with
    | some b => if b = r then [] else [(b, op)]
    | none => []
  match req with
  | .request tag => match s.tracker tag with
    | none => ([], 0, [])
    | some t =>
      let p := t.hostPort.getD 64
      match t.op with
      | .rdShared => (owned p, 1, own 0x04 256)
      | .rdOwn | .memInv => (e.hvec.filter (· != p), 0, inv 256)
      | .rdCur | .read => (owned p, 2, own 0x05 256)
      | .writeback | .evict => ([], 0, [])
      | _ => (e.hvec, 0, inv (match t.origin with | .twill _ src _ => src / 256 | _ => 256))
  | .device _ m =>
    let r := m.src / 256
    match m.opcode with
    | 0x40 =>
      let f := if e.dstate = 2 ∧ e.forwarder ≠ r then [(e.forwarder, 0x01)] else []
      (owned 64, 1, f ++ own 0x04 r)
    | 0x41 => (e.hvec, 0, if 3 ≤ e.dstate then own 0x02 r else inv r)
    | 0x42 => (e.hvec, 0, if 3 ≤ e.dstate then own 0x02 r else inv r)
    | 0x43 => (owned 64, 2, own 0x05 256)
    | _ => ([], 0, [])
  | .bisnp _ _ => (e.hvec, 0, inv 256)
  | .recall => (e.hvec, 0, [])
  | .flush p => (e.hvec.filter (· == p), 0, [])
  | .lose => (e.hvec, 0, [])
  | .sweep _ => ([], 0, [])
  | .rebuild => ((List.range 64).filter (fun p => s.role p == 1 && s.linkUp p), 0,
      if s.lineShared e then ((List.range 256).filter s.isPeer).map (fun d => (d, 0x03)) else [])
  | .forward _ _ => ([], 0, [])

/-- What a request must ask of the hosts of a proxy (R284). -/
def proxySnoops (s : State) (e : Line) (req : BlwReq) : List Nat × Nat :=
  match req with
  | .request tag => match s.tracker tag with
    | none => ([], 0)
    | some t =>
      let p := t.hostPort.getD 64
      let owned := if e.owned then e.hvec.filter (· != p) else []
      match t.op with
      | .rdShared => (owned, 1)
      | .rdOwn | .memInv => (e.hvec.filter (· != p), 0)
      | .rdCur | .read => (owned, 2)
      | .writeback | .evict => ([], 0)
      | _ => (e.hvec, 0)
  | .recall => (e.hvec, 0)
  | .flush p => (e.hvec.filter (· == p), 0)
  | .forward _ m =>
    match m.opcode with
    | 0x04 => (if e.owned then e.hvec else [], 1)
    | 0x05 => (if e.owned then e.hvec else [], 2)
    | 0x01 => ([], 0)
    | _ => (e.hvec, 0)
  | .rebuild => ((List.range 64).filter (fun p => s.role p == 1 && s.linkUp p), 0)
  | .sweep _ => ([], 0)
  | _ => (e.hvec, 0)

/-- A peer is lost (R294): recorded, its pointer removed, and the line poisoned if it was recorded as owner in M. -/
def State.peerLost (s : State) (t l dev : Nat) : State :=
  let e := s.lineOr t l
  let s1 := (s.raise F.BLW_PEER_LOST (elem 15 dev)).cicRaise 0x122
  (when (e.dstate == 4 && e.owner == some dev) (·.poisonHome t l) s1).onLine t l (·.dropSharer dev)

/-- Snoop devices; one without a route is lost (R294). -/
def State.snoops (s : State) (e : Line) (ask : List (Nat × Nat)) (reqTag reqDev : Nat) : List (Nat × Nat × Nat) × State :=
  ask.foldl (fun a d =>
    let n := a.2.snoop e d.1 d.2 reqTag reqDev
    if n.2.1 then (a.1 ++ [(d.1, d.2, n.1)], n.2.2) else (a.1, n.2.2.peerLost e.target e.line d.1)) ([], s)

/-- This device's WB_M for a line is in flight (R285). -/
def State.wbFlying (s : State) (t l : Nat) : Bool := s.blw.wbOut.any (fun w => w.1 == t && w.2.1 == l)

/-- The answer of a proxy to a TC1 message (R285), once its hosts have answered.  DEDUCED: in E whose data is neither here nor dirty at a host the answer is
SNP_I: the rows' answers carry data, and the home's memory holds it (R283). -/
def State.finishForward (s : State) (x : BlwTxn) (m : TwillMsg) : State :=
  let home := m.src / 256
  let e := s.lineOr x.target x.line
  let reqTag := bits m.word3 15 0
  let reqDev := bits m.word3 23 16
  let gone := fun (s : State) => s.onLine x.target x.line (fun e => { e with dstate := 0, hvec := [], owned := false, near := none, dirty := false })
  let tell := fun (s : State) (tc op : Nat) (d : List Byte) =>
    s.toDevice home tc op m.tag (fun m => { m with data := d, dcnt := ceilDiv d.length 64, poisoned := e.poisoned, status := if e.poisoned ∧ !d.isEmpty then 6 else 0 })
  let held := match x.data with
    | some d => some d
    | none => e.near
  let data := held.getD (zeros 64)
  let mine := decide (3 ≤ e.dstate) && held.isSome
  if s.wbFlying x.target x.line ∧ m.opcode ≠ 0x01 then tell (gone s) 2 0x44 []
  else match m.opcode with
    | 0x03 => if mine then tell (gone s) 3 0x49 data else tell (gone s) 2 0x42 []
    | 0x04 =>
      if mine then
        let s1 := s.putLine { e with dstate := 1, dirty := false, owned := false, near := if x.data.isSome then none else e.near }
        tell (match x.data with
          | some d => s1.nearFill x.target x.line d false
          | none => s1) 3 0x4A data
      else tell (gone s) 2 0x42 []
    | 0x05 => if mine then tell s 3 0x4B data else tell s 2 0x42 []
    | 0x01 =>
      if e.dstate = 2 ∧ e.near.isSome then
        tell (((s.putLine { e with dstate := 1 }).dataTo reqDev reqTag 0x41 data e.poisoned).bump K.BLW_FWD_SERVED) 2 0x45 []
      else if e.hvec.isEmpty then tell (gone s) 2 0x47 []
      else tell (s.putLine { e with dstate := 1 }) 2 0x46 []
    | _ =>
      if mine then tell ((gone s).dataTo reqDev reqTag 0x43 data e.poisoned) 2 0x45 []
      else tell (gone s) 2 0x42 []

/-- A line's data is on its way to its downstream device (R278). -/
def State.lineWriting (s : State) (t l : Nat) : Bool :=
  s.fab.trackers.any (fun y => y.origin == .own && y.writes && y.target == t && y.addr == l * 64)

/-- The writebacks attached to a transaction receive their completions (R289). -/
def State.finishAttached (s : State) (x : BlwTxn) : State :=
  forEach x.attached (fun s a => s.bwCmpTo a.2 0) s

/-- A SNP_DATA finds no data here, or SNP_DATA or SNP_CUR a WB_M in flight (`flying`), and local hosts hold copies: they give them up before SNP_I or
SNP_I_WB, after which this device is in I (R285).  DEDUCED: no answer to SNP_DATA keeps a copy without data. -/
def mustInvalidate (e : Line) (x : BlwTxn) (m : TwillMsg) (flying : Bool) : Bool :=
  !e.hvec.isEmpty && x.answer == 0
    && ((m.opcode == 0x04 && x.data.isNone && e.near.isNone) || (flying && (m.opcode == 0x04 || m.opcode == 0x05)))

/-- A line of a set under rebuild has every answer, and is dropped (R299): data that was returned is written back, and a line of another home is
given up there. -/
def State.rebuilt (s : State) (x : BlwTxn) : State :=
  let e := s.lineOr x.target x.line
  if s.homed x.target ∨ e.dstate = 0 then
    (s.keepData x).onLine x.target x.line (fun e => { e.noDevice with hvec := [], owned := false, near := none, dirty := false })
  else
    let e1 : Line := match x.data with
      | some d => { e with near := some d, dirty := true, hvec := [], owned := false }
      | none => { e with hvec := [], owned := false }
    if e1.dirty then s.writeback e1 false e1.poisoned else (s.putLine { e1 with dstate := 0, near := none }).sendEvict e1 false

/-- Data that a host returned: written to the line's memory, or kept in the near cache where this device holds the line of another home (R287, R297). -/
def State.keepHere (s : State) (x : BlwTxn) : State :=
  if s.homed x.target ∨ (s.lineOr x.target x.line).dstate = 0 then s.keepData x else match x.data with
  | some d => (s.nearFill x.target x.line d true).onLine x.target x.line (fun e => { e with dstate := 4 })
  | none => s

/-- A line of a port sweep (R296): what the port held in HO is lost, and its HVEC bit is cleared. -/
def State.sweepLine (s : State) (p t l : Nat) : State :=
  let e := s.lineOr t l
  (when (e.owned && e.hvec.contains p) (·.spoil t l) s).onLine t l (fun e =>
    { e with hvec := e.hvec.filter (· != p), owned := e.owned && e.hvec.any (· != p) })

/-- Every answer of a transaction is in: it acts, and closes unless it waits for memory or for its home (R288).  A device-tier grant waits until returned
data has reached its memory (R283). -/
def State.finishTxn (s : State) (x : BlwTxn) : State :=
  let done := fun (s : State) => ((s.finishAttached x).settleLine x.target x.line).closeTxn x
  match x.req with
  | .request tag => match s.tracker tag with
    | none => done s
    | some t =>
      let s1 := if s.homed x.target ∨ !s.deviceTier t.shared then s.finishHome x t else s.finishProxy x t
      if (s1.tracker tag).isSome then (s1.finishAttached x).putTxn_ { x with served := true, attached := [], data := none } else done s1
  | .device _ m =>
    let s0 := s.keepData x
    let y : BlwTxn := { x with kept := x.kept || x.data.isSome }
    if s.homed x.target ∧ s0.lineWriting x.target x.line then s0.putTxn_ y else
    match s0.finishDevice y m with
    | (s1, true) => done s1
    | (s1, false) => s1
  | .forward _ m =>
    let e := s.lineOr x.target x.line
    if mustInvalidate e x m (s.wbFlying x.target x.line) then
      let b := s.biSnps e.hvec 0 x.target x.line
      if b.1.isEmpty then done (b.2.finishForward x m) else b.2.putTxn_ { x with hosts := b.1, answer := 4 }
    else done (s.finishForward x m)
  | .bisnp p ld =>
    let s1 := (s.keepData x).onLine x.target x.line (fun e => { e.noDevice with hvec := [], owned := false })
    if s1.lineWriting x.target x.line then s1.putTxn_ { x with served := true, data := none } else done (s1.emit (.biRsp p 0 ld (x.line * 64)))
  | .recall =>
    let s1 := s.keepHere x
    let e := s1.lineOr x.target x.line
    if x.answer ≠ 0 ∨ e.dstate = 0 then done (s1.putLine { e.noDevice with hvec := [], owned := false, near := none })
    else if e.way = 16 ∧ s1.secondRoom x.target x.line then
      done (s1.putLine { e with l2 := true, hvec := [], owned := false })
    else if s1.homed x.target then
      let r := s1.snoops e ((s1.holders e 256).map (fun d => (d, 0x03))) 0 0
      if r.1.isEmpty then done (r.2.onLine x.target x.line (fun e => { e.noDevice with hvec := [], owned := false }))
      else r.2.putTxn_ { x with hosts := [], devs := r.1, answer := 4, data := none }
    else
      let e1 : Line := { e with hvec := [], owned := false }
      done (if e1.dirty then s1.writeback e1 false e1.poisoned else (s1.putLine { e1 with dstate := 0, near := none }).sendEvict e1 false)
  | .flush p =>
    done ((s.keepHere x).onLine x.target x.line (fun e => { e with hvec := e.hvec.filter (· != p), owned := e.owned && e.hvec.any (· != p) }))
  | .rebuild => done (s.rebuilt x)
  | .sweep p => done (s.sweepLine p x.target x.line)
  | .lose => done (s.onLine x.target x.line (fun e => { e with hvec := [], owned := false }))

/-- Whether every answer has come. -/
def BlwTxn.complete (x : BlwTxn) : Bool := x.hosts.isEmpty && x.devs.isEmpty && !x.memory

/-- Store a transaction, and finish it if every answer is in and no write of the line to its memory here is under way (R283, R288). -/
def State.progress (s : State) (x : BlwTxn) : State :=
  if x.complete ∧ !(s.homed x.target && s.lineWriting x.target x.line) then (s.putTxn_ x).finishTxn x else s.putTxn_ x

/-- Transactions whose answers are all in go on when the write that they waited for is done, and recalls of lines without host copies (R272, R283). -/
def State.sweepTxns (s : State) : State :=
  forEach (s.blw.txns.filter (fun x => x.complete && !x.waiting && !x.served)) (fun s x =>
    if s.blw.txns.contains x then s.progress x else s) s

/-- A host's write is a writeback while its port holds the line, and a write without ownership otherwise (R277). -/
def State.nameWrite (s : State) (t l : Nat) (req : BlwReq) : State :=
  match req with
  | .request tag => match s.tracker tag with
    | some r => match r.hostPort with
      | some p =>
        let e := s.lineOr t l
        let holds := e.owned && e.hvec.contains p
        match r.op with
        | .write | .partialWrite => if holds then s.putTracker { r with op := .writeback } else s
        | .writeback => if holds then s else s.putTracker { r with op := .partialWrite }
        | _ => s
      | none => s
    | none => s
  | _ => s

/-- A host's write whose MetaValue gives up or keeps a shared copy is a writeback by its own words; from a port that does not hold HO it breaks the protocol,
F0, and is then a write without ownership (R277, R279, R301). -/
def State.strayWriteback (s : State) (req : BlwReq) : State :=
  match req with
  | .request tag => match s.tracker tag with
    | some r =>
      if (r.op = .write ∨ r.op = .partialWrite) ∧ r.metaGiven then
        let p := r.hostPort.getD 64
        (s.bump (K.PRT_VIOLATIONS p)).raiseD F.BLW_PROTOCOL (elemPort p) (s.rd (K.PRT_LINK_STATE p)) 0 0
      else s
    | none => s
  | _ => s

/-- Open the transaction of a request for a line (R277, R283, R288). -/
def State.openTxn (s0 : State) (t l : Nat) (req : BlwReq) (queue : List BlwReq) : State :=
  let s := (s0.nameWrite t l req).strayWriteback req
  let e := s.lineOr t l
  let remote := !s.homed t && (match req with
    | .request tag => (s.tracker tag).any (fun x => s.deviceTier x.shared)
    | .forward _ _ => true
    | _ => e.dstate != 0)
  let ask : List Nat × Nat × List (Nat × Nat) := if remote then
      let q := proxySnoops s e req
      (q.1, q.2, [])
    else homeSnoops s e req
  let b := s.biSnps ask.1 ask.2.1 t l
  let (reqTag, reqDev) := match req with
    | .device _ m => (m.tag, m.src / 256)
    | _ => (0, s.device)
  let r := b.2.snoops e ask.2.2 reqTag reqDev
  let x : BlwTxn := { target := t, line := l, req := req, hosts := b.1, devs := r.1, queue := queue, openedAt := s.clk.dtc,
                      answer := if r.1.length < ask.2.2.length then 4 else 0 }
  r.2.progress x

/-- The request allocates an entry: a host's request for a cacheable copy, or MC-REQ (R273). -/
def allocates (s : State) (req : BlwReq) : Bool :=
  match req with
  | .request tag => match s.tracker tag with
    | some t => match t.op with
      | .rdShared | .rdOwn | .memInv => true
      | _ => false
    | none => false
  | .device _ m => m.opcode == 0x40 || m.opcode == 0x41 || m.opcode == 0x42
  | _ => false

/-- The request of a host or an agent of this device. -/
def BlwReq.ofHost (r : BlwReq) : Bool :=
  match r with
  | .request _ => true
  | _ => false

/-- Work on a request whose line has no open transaction: allocate, or wait in the retry slot of its tier; a request that needs a new entry also waits
behind the one in the slot, and any request while no transaction slot is free (R273, R275).  The line's conflict queue waits behind it. -/
def State.work (s : State) (t l : Nat) (req : BlwReq) (queue : List BlwReq) : State :=
  let k := 2 * lineBank t l + (match req with
    | .device _ _ => 1
    | _ => 0)
  let wait := fun (s : State) =>
    let s1 := if queue.isEmpty then s else s.putTxn_ { target := t, line := l, req := req, queue := queue, openedAt := s.clk.dtc, waiting := true }
    ({ s1 with blw := { s1.blw with retry := s1.blw.retry ++ [(k, req, t, l)] } } : State)
  if s.slotsFull then wait s
  else if allocates s req then
    if (s.lineEntry t l).isNone ∧ s.blw.retry.any (fun r => r.1 == k) then wait s
    else match s.allocate t l req.ofHost with
      | none => (wait s).bump K.BLW_RETRY_WAITS
      | some s1 => s1.openTxn t l req queue
  else s.openTxn t l req queue

/-- A host's writeback for a line with an open transaction is attached to it at once: its data serves as the snoop's, and it receives its
completion (R279, R289); between two transactions of the line's queue, or where the data of the rest of the line is not here, it goes to memory at once,
before the transaction reads it. -/
def State.crossing (s : State) (t l : Nat) (x : BlwTxn) (req : BlwReq) : Option State :=
  let s0 := s.nameWrite t l req
  match req with
  | .request tag => match s0.tracker tag with
    | some r =>
      if r.op ≠ .writeback then none else
      let p := r.hostPort.getD 64
      let tier := s.deviceTier r.shared
      let known := match x.data with
        | some d => some d
        | none => if s.homed t ∧ t % 256 = 1 then some (s.memRead (l * 64) 64) else if s.homed t then none else (s.lineOr t l).near
      let whole := r.coversLine l || known.isSome
      let d := mergeLine r l (known.getD (zeros 64))
      let s1 := when (!x.waiting) (fun s => (s.bump K.BLW_CROSSINGS).count 0x6004 0) s0
      let s2 := s1.onLine t l (fun e => { e with hvec := if r.keepS then e.hvec else e.hvec.filter (· != p), owned := false })
      let s3 := if !x.served ∧ !x.waiting ∧ whole then s2.putTxn_ { x with data := some d }
        else if s.homed t then (if whole then s2.homeWrite t l d false else s2.homeWrite t l (fit 64 r.data) false r.be)
        else if tier then (s2.nearFill t l d true).onLine t l (fun e => { e with dstate := 4 })
        else s2.lineWrite t l d false
      some (s3.blwAnswer tag [] false)
    | none => none
  | _ => none

/-- A request reaches a line's bank (R273, R288): it is worked on, or waits in the line's conflict queue. -/
def State.blwAccept (s : State) (t l ingress : Nat) (req : BlwReq) : State :=
  let s1 : State := { s with blw := { s.blw with bankPtr := Sparse.set (fun _ => 0) s.blw.bankPtr (lineBank t l) ((ingress + 1) % 80) } }
  let s2 := s1.bump K.BLW_LOOKUPS
  match s2.txnOf t l with
  | some x => match s2.crossing t l x req with
    | some s3 => s3
    | none => s2.putTxn_ { x with queue := x.queue ++ [req] }
  | none => s2.work t l req []

/-- CONFLICT_QUEUE_PROCESS (R288). -/
def State.conflictNext (s : State) (t a : Nat) : State :=
  match s.txnOf t (a / 64) with
  | none => s
  | some x =>
    if !x.waiting ∨ s.blw.retry.any (fun r => r.2.2.1 == t && r.2.2.2 == a / 64) then s else
    match x.queue with
    | [] => { s with blw := { s.blw with txns := s.blw.txns.filter (fun y => !sameTxn x y) } }
    | r :: q =>
      let s1 : State := { s with blw := { s.blw with txns := s.blw.txns.filter (fun y => !sameTxn x y) } }
      s1.work t (a / 64) r q

/-- The crossbar input of a request. -/
def State.inputOfReq (s : State) : BlwReq → Nat
  | .request tag => ((s.tracker tag).map (·.ingress)).getD 79
  | .device p _ | .forward p _ | .bisnp p _ => p
  | _ => 79

/-- The retry slot of a bank and tier is free: of the requests at the bank input the one whose crossbar input comes first at or after the bank's pointer
takes it (R27, R273, R288). -/
def State.retryTurn (s : State) (bank k : Nat) : State :=
  let mine := s.blw.retry.filter (fun r => r.1 == k)
  let ptr := Sparse.get (fun _ => 0) s.blw.bankPtr bank
  match (sortBy (fun (r : Nat × BlwReq × Nat × Nat) => (s.inputOfReq r.2.1 + 80 - ptr) % 80) mine).head? with
  | none => s
  | some r => { s with blw := { s.blw with
      retry := r :: s.blw.retry.erase r
      bankPtr := Sparse.set (fun _ => 0) s.blw.bankPtr bank ((s.inputOfReq r.2.1 + 1) % 80) } }

/-- RETRY_SLOT_ALLOCATE (R273): the first request that waits in a bank's retry slot of a tier. -/
def State.retryNext (s : State) (bank : Nat) (dev : Bool) : State :=
  let k := 2 * bank + b2n dev
  match s.blw.retry.find? (fun r => r.1 == k) with
  | none => s
  | some r =>
    let (_, req, t, l) := r
    if s.slotsFull ∨ (allocates s req && (s.allocate t l req.ofHost).isNone) then s else
    let s1 := State.retryTurn { s with blw := { s.blw with retry := s.blw.retry.erase r } } bank k
    let begin_ := fun (s1 : State) (q : List BlwReq) =>
      if !allocates s1 req then s1.openTxn t l req q else
      match s1.allocate t l req.ofHost with
      | none => s
      | some s2 => s2.openTxn t l req q
    match s1.txnOf t l with
    | some x =>
      if x.waiting then begin_ { s1 with blw := { s1.blw with txns := s1.blw.txns.filter (fun y => !sameTxn x y) } } x.queue
      else s1.putTxn_ { x with queue := x.queue ++ [req] }
    | none => begin_ s1 []

/-! ### Host answers (R278, R289, R301) -/

/-- The transactions of a line that wait for a host. -/
def State.waitingOn (s : State) (p t l : Nat) : Option BlwTxn :=
  s.blw.txns.find? (fun x => x.target == t && x.line == l && x.hosts.any (fun h => h.1 == p))

/-- A host answers a back-invalidate: it keeps no copy (kind 0), a shared copy (1), or what it had (2). -/
def State.hostAnswer (s : State) (p : Nat) (a : BiAnswer) (said : Nat) : State :=
  let l := a.dpa / 64
  if 64 ≤ p then s else
  match s.waitingOn p a.target l with
  | none => s.portViolation p F.PRT_CXL_PROTOCOL []
  | some x =>
    let kind := ((x.hosts.find? (fun h => h.1 == p)).map (·.2.1)).getD 0
    let bad := decide ((kind = 0 ∧ said ≠ 0) ∨ (kind = 1 ∧ said = 2))
    let keeps := if kind = 0 then 0 else if kind = 1 then min said 1 else said
    let s1 := when bad (fun s =>
      (s.bump (K.PRT_VIOLATIONS p)).raiseGraveD F.BLW_PROTOCOL (elemPort p) (s.rd (K.PRT_LINK_STATE p)) 0 0) s
    let s2 := s1.onLine a.target l (fun e =>
      if keeps = 0 then { e with hvec := e.hvec.filter (· != p), owned := e.owned && e.hvec.any (· != p) }
      else if keeps = 1 then { e with owned := false } else e)
    s2.progress { x with hosts := x.hosts.filter (fun h => h.1 != p), data := if a.dirty then some (fit 64 a.data) else x.data }

/-- A host's answers are not waited for any longer: its port is gone (R278, R296), and the latest data of a line that it owned may be lost. -/
def State.forgetHost (s : State) (p : Nat) : State :=
  forEach (s.blw.txns.filter (fun x => x.hosts.any (fun h => h.1 == p))) (fun s x =>
    match s.blw.txns.find? (sameTxn x) with
    | some y =>
      let e := s.lineOr x.target x.line
      (s.sweepLine p x.target x.line).progress { y with hosts := y.hosts.filter (fun h => h.1 != p), poison := y.poison || (e.owned && e.hvec.contains p) }
    | none => s) s

/-- BLW_BISNP_TIMEOUT (R278): F2 against the port, whose isolation drops its link; the sweep then stops the wait for it (R296). -/
def State.bisnpTimeout (s : State) (p t a : Nat) : State :=
  match s.waitingOn p t (a / 64) with
  | none => s
  | some x =>
    if !s.linkUp p ∨ !(x.hosts.any (fun h => h.1 == p && decide (h.2.2 + s.rd K.BLW_BISNP_TIMEOUT ≤ s.clk.dtc))) then s else
    ((s.bump (K.PRT_VIOLATIONS p)).raise F.BLW_BISNP_TIMEOUT (elemPort p)).cicRaise 0x124

/-- BIConflict (R278): the exchange of the CXL Specification; the device answers BIConflictAck and the back-invalidate stays open. -/
def State.biConflict (s : State) (p t a : Nat) : State :=
  match s.waitingOn p t (a / 64) with
  | none => s
  | some _ => s.emit (.biRsp p 2 t a)

/-- A downstream HDM-DB device's BISnp for a line of its own (R278). -/
def State.deviceBisnp (s : State) (p ld a : Nat) : State :=
  if 64 ≤ p ∨ s.role p ≠ 2 ∨ 16 ≤ ld ∨ s.rd (K.PRT_LD_FEID p ld) = 0 then s else
  s.blwAccept (s.device * 256 + s.rd (K.PRT_LD_FEID p ld)) (a / 64) p (.bisnp p ld)

/-! ### Device answers (R283, R289, R293, R294) -/

/-- A violation of a Twill partner in the device tier (R301). -/
def State.blwViolation (s : State) (p src el : Nat) (m : TwillMsg) : State :=
  let h := headerBytes m
  ((s.bump (K.TWL_VIOLATIONS p)).raiseD src el (s.rd (K.TWL_STATE p)) (field h 0 8) (field h 8 8)).cicRaise 0x128

/-- A Twill partner breaks the protocol of the device tier: BLW_PROTOCOL, F1, against the peer device (R301). -/
def State.blwProtocol (s : State) (p : Nat) (m : TwillMsg) : State :=
  let h := headerBytes m
  ((s.bump (K.TWL_VIOLATIONS p)).raiseGraveD F.BLW_PROTOCOL (elem 15 (m.src / 256)) (s.rd (K.TWL_STATE p)) (field h 0 8) (field h 8 8)).cicRaise 0x128

/-- The transaction that waits for a snoop's TAG. -/
def State.snoopTxn (s : State) (tag : Nat) : Option BlwTxn := s.blw.txns.find? (fun x => x.devs.any (fun d => d.2.2 == tag))

/-- The code that a snoop answer leaves in its transaction: 1 FWD_DONE, 2 FWD_MISS_S, 3 FWD_MISS_I, 4 SNP_I, 5 a shared copy kept. -/
def answerCode (tc op : Nat) : Nat :=
  if tc = 2 then (match op with | 0x45 => 1 | 0x46 => 2 | 0x47 => 3 | 0x43 => 5 | _ => 4)
  else (match op with | 0x4A => 5 | 0x4B => 6 | _ => 4)

/-- An answer to a snoop or forward (R282, R283): its data is taken, its peer's copy noted, and the transaction goes on. -/
def State.snoopAnswer (s : State) (p : Nat) (m : TwillMsg) : State :=
  match s.snoopTxn m.tag with
  | none => s.blwProtocol p m
  | some x =>
    let op := ((x.devs.find? (fun d => d.2.2 == m.tag)).map (·.2.1)).getD 0
    let dev := m.src / 256
    let s1 := match s.tracker m.tag with
      | some t => s.releaseTracker t
      | none => s
    let code := answerCode m.tc m.opcode
    let data := if m.tc = 3 then some (fit 64 m.data) else x.data
    let inFlight := m.tc == 2 && m.opcode == 0x44
    let s2 := s1.onLine x.target x.line (fun e =>
      if inFlight then (if x.attached.isEmpty then e else e.noDevice)
      else if e.coarse then e
      else if code = 4 ∧ (op = 0x01 ∨ op = 0x03 ∨ op = 0x04 ∧ e.dstate ≠ 4) then { e with sharers := e.sharers.filter (· != dev) }
      else e)
    let wb := inFlight ∧ x.attached.isEmpty ∧ x.data.isNone
    if wb then
      s2.putTxn_ { x with devs := x.devs.map (fun d => if d.2.2 = m.tag then (d.1, 0x80, 65536 + d.1) else d) }
    else
      s2.progress { x with devs := x.devs.filter (fun d => d.2.2 != m.tag), data := data, poison := x.poison || m.status == 6,
                           answer := if code = 4 ∧ x.answer = 1 then 1 else code }

/-- A snoop or forward failed (R293, R294): a failed forward is followed by SNP_INV; a peer that fails otherwise is lost. -/
def State.snoopFailed (s : State) (t l tag status : Nat) : State :=
  match s.snoopTxn tag with
  | none => s
  | some x =>
    match x.devs.find? (fun d => d.2.2 == tag) with
    | none => s
    | some (dev, op, _) =>
      if (op = 0x01 ∨ op = 0x02) ∧ status ≠ 2 ∧ status ≠ 7 then
        let n := s.snoop (s.lineOr t l) dev 0x03 0 s.device
        if n.2.1 then n.2.2.putTxn_ { x with devs := x.devs.map (fun d => if d.2.2 = tag then (dev, 0x03, n.1) else d), failed := true }
        else (n.2.2.peerLost t l dev).progress { x with devs := x.devs.filter (fun d => d.2.2 != tag), failed := true, answer := 4 }
      else
        (s.peerLost t l dev).progress { x with devs := x.devs.filter (fun d => d.2.2 != tag), answer := 4 }

/-- WB_M at the home (R283, R289). -/
def State.homeWriteback (s : State) (p : Nat) (m : TwillMsg) : State :=
  let t := m.dst
  let l := m.addr / 64
  let dev := m.src / 256
  let e := s.lineOr t l
  if !s.isPeer dev then (s.blwViolation p F.BLW_PEER_UNKNOWN (elem 15 dev) m).toDevice dev 2 1 m.tag (fun m => { m with status := 1 })
  else if e.owner ≠ some dev then
    ((s.bump K.BLW_WB_DISCARDED).blwViolation p F.BLW_WB_DISCARDED (elem 15 dev) m).bwCmpTo m 3
  else match s.txnOf t l with
    | some x =>
      if x.waiting ∨ x.served then
        let s1 := s.homeWrite t l (fit 64 m.data) (m.status == 6)
        (s1.putLine (if bit m.word3 0 then { e with dstate := 1 } else e.noDevice)).bwCmpTo m 0
      else
        let s1 := s.bump K.BLW_CROSSINGS |>.count 0x6004 0
        let open_ := x.devs.any (fun d => d.1 == dev && d.2.1 != 0x80)
        let y : BlwTxn := { x with attached := x.attached ++ [(p, m)], data := some (fit 64 m.data), poison := x.poison || m.status == 6
                                   devs := x.devs.filter (fun d => !(d.1 == dev && d.2.1 == 0x80)) }
        if open_ then s1.putTxn_ y else (s1.onLine t l (fun e => e.noDevice)).progress { y with answer := 4 }
    | none =>
      let s1 := s.homeWrite t l (fit 64 m.data) (m.status == 6)
      (s1.putLine (if bit m.word3 0 then { e with dstate := 1 } else e.noDevice)).bwCmpTo m 0

/-- A TC1 message is held until the answer comes of this device's request for the line that GRANT_TAG names (R285), or until one of the slots for
forwards is free (R275). -/
def State.heldFor (s : State) (m : TwillMsg) : Bool :=
  4096 ≤ (s.blw.txns.filter (·.isForward)).length
    || (bit m.word3 24 && (match s.tracker (bits m.word3 47 32) with
      | some x => x.target == m.dst && x.addr / 64 == m.addr / 64 && (x.wire == 0x440 || x.wire == 0x441 || x.wire == 0x442)
      | none => false))

/-- The transactions whose requests have been answered close, and the messages that waited for such an answer are acted on (R285, R288, R290). -/
def State.closeServed (s : State) : State :=
  let s1 := forEach (s.blw.txns.filter (fun x => x.served && (match x.req with
    | .request tag => (s.tracker tag).isNone
    | .bisnp _ _ => !s.lineWriting x.target x.line
    | _ => false))) (fun s x =>
      let s0 := match x.req with
        | .bisnp p ld => s.emit (.biRsp p 0 ld (x.line * 64))
        | _ => s
      (s0.settleLine x.target x.line).closeTxn x) s.sweepTxns
  forEach s1.blw.holding (fun s h =>
    if s.heldFor h.2 then s else
    ({ s with blw := { s.blw with holding := s.blw.holding.erase h } } : State).openTxn h.2.dst (h.2.addr / 64) (.forward h.1 h.2) []) s1

/-- The lines of a run that a WR_INV wrote at the home are held here no longer (R290). -/
def State.dropRun (s : State) (t : Tracker) : State :=
  forEach (linesOf t.addr t.data.length) (fun s l =>
    if (s.lineEntry t.target l).isNone then s else
    s.onLine t.target l (fun e => { e with dstate := 0, hvec := [], owned := false, near := none, dirty := false })) s

/-- A grant or completion of a home is one that the request asked for (R282, R301): data or ownership answers RD_SHARED, RD_OWN and UPGRADE, DATA_CUR
RD_CUR and ATOMIC_COH, BW_CMP the others; BW_CMP with an error may answer any. -/
def answersWire (m : TwillMsg) (wire : Nat) : Bool :=
  let granting := wire == 0x440 || wire == 0x441 || wire == 0x442
  if m.tc = 2 ∧ m.opcode = 0x40 then
    (m.status != 0 && m.status != 6 && (0x440 ≤ wire && wire ≤ 0x447)) || wire == 0x444 || wire == 0x445
  else if m.tc = 3 ∧ m.opcode = 0x44 then wire == 0x443 || wire == 0x446
  else granting && (m.opcode != 0x41 || m.tc != 2 || wire == 0x442)

/-- The access of a tracker was granted at a proxy (R284): near cache, state (F only with the data there, R287), the host's answer, and a held TC1
message.  Data for a read that was already answered is a late response (R293). -/
def State.proxyGrant (s : State) (p : Nat) (m : TwillMsg) : State :=
  match s.tracker m.tag with
  | none =>
    if m.tc = 3 ∧ s.blw.answered.contains m.tag then
      ({ s with blw := { s.blw with answered := s.blw.answered.filter (· != m.tag) } } : State).bump (K.TWL_LATE_RESPONSES p)
    else s.blwProtocol p m
  | some t =>
    let l := t.addr / 64
    if !answersWire m t.wire then s.blwProtocol p m
    else if m.status ≠ 0 ∧ m.status ≠ 6 then
      let v := s.meter t.fold
      ((when (m.status == 3 && t.fold != 0) (·.putMeter t.fold { v with violations := v.violations + 1 }) s).completeError t m.status).closeServed
    else
    let poison := m.status == 6
    let st := if m.tc = 2 then (if m.opcode = 0x41 then 3 else 0) else match m.opcode with | 0x40 => 1 | 0x41 => 2 | 0x42 => 3 | 0x43 => 4 | _ => 0
    let s1 := if st = 0 then s else s.onLine t.target l (fun e => { e with dstate := st, held := false, poisoned := poison })
    let fetched := t.wire = 0x441 ∧ t.op ≠ .rdOwn ∧ t.op ≠ .memInv
    let s2 := if st ≠ 0 ∧ m.tc = 3 then s1.nearFill t.target l (fit 64 m.data) (st == 4 || fetched) else s1
    let s3 := s2.onLine t.target l (fun e => if e.dstate = 2 ∧ e.near.isNone then { e with dstate := 1 } else e)
    match (if fetched then s3.txnOf t.target l else none) with
    | some x => (s3.finishProxy { x with data := none } t).closeServed
    | none =>
    let hp := t.hostPort.getD 64
    let e := s3.lineOr t.target l
    let g := if t.hostPort.isNone ∨ st = 0 then (0, s3) else s3.granting hp t.fold e (if t.op = .rdShared then 1 else 2)
    let data := if t.op = .memInv then [] else if m.tc = 3 then m.data else if t.wantsData then e.near.getD (zeros 64) else []
    let s4 := (when (t.wire == 0x444) (·.dropRun t) g.2).grantHost t.tag g.1 hp t.target l t.fold
    let s5 : State := if t.wire = 0x440 ∨ t.wire = 0x441 then { s4 with blw := { s4.blw with answered := t.tag :: s4.blw.answered.filter (· != t.tag) } } else s4
    (s5.blwAnswer t.tag data poison).closeServed

/-- A TC1 message at a proxy (R285): the hold rule, then the answer. `t` is the target FEID of the line, at the home that sent it.  One whose DST names a target
FEID of this device is for a line homed here (R269, R301). -/
def State.proxyForward (s : State) (p : Nat) (m : TwillMsg) (t : Nat) : State :=
  if s.homed t ∨ m.dst % 256 ≠ 0 then (s.blwProtocol p m).toDevice (m.src / 256) 2 0x42 m.tag id
  else
    let s1 := s.bump K.BLW_LOOKUPS
    if s1.heldFor { m with dst := t } then { s1 with blw := { s1.blw with holding := s1.blw.holding ++ [(p, { m with dst := t })] } }
    else s1.openTxn t (m.addr / 64) (.forward p m) []

/-- The home answers a WB_M or EVICT of this device (R283): the line in flight is given up. -/
def State.proxyCmp (s : State) (p : Nat) (m : TwillMsg) : State :=
  match s.tracker m.tag with
  | none => s.blwProtocol p m
  | some t =>
    if t.op = .writeback ∧ t.hostPort.isNone then
      let l := t.addr / 64
      let s1 : State := { s.releaseTracker t with blw := { s.blw with wbOut := s.blw.wbOut.filter (fun w => w.2.2 != m.tag) } }
      s1.onLine t.target l (fun e => if bit t.extension 0 ∧ !e.hvec.isEmpty then { e with dstate := 1, dirty := false }
        else { e with dstate := 0, near := none, dirty := false })
    else if t.op = .evict ∧ t.hostPort.isNone then s.releaseTracker t
    else s.proxyGrant p m

/-- A WB_M failed (R292): the line stays in M, pinned, and answers snoops. -/
def State.writebackFailed (s : State) (t l tag : Nat) : State :=
  let s1 : State := { s with blw := { s.blw with wbOut := s.blw.wbOut.filter (fun w => w.2.2 != tag) } }
  s1.onLine t l (fun e => { e with held := true, dstate := 4, dirty := true })

/-- WB_M_REISSUE (R292): once a route to the home is there again. -/
def State.wbReissue (s : State) (t a : Nat) : State :=
  match s.lineEntry t (a / 64) with
  | some e => if e.held ∧ e.dirty ∧ !s.homed t then s.writeback e false e.poisoned else s
  | none => s

/-- Memory's answer for a line homed here, or the end of a snoop or writeback (R283, R292 to R294). -/
def State.blwMemory (s : State) (t l tag status : Nat) (data : List Byte) : State :=
  if s.blw.wbOut.any (fun w => w.2.2 == tag) then s.writebackFailed t l tag
  else if (s.snoopTxn tag).isSome then s.snoopFailed t l tag status
  else match s.txnOf t l with
    | some x =>
      if !x.memory then s else
      match x.req with
      | .device _ m =>
        let s1 := s.grantDevice x m (if data.isEmpty then zeros 64 else data) (status != 0 || x.poison)
        ((s1.finishAttached x).settleLine t l).closeTxn x
      | _ => s.closeTxn x
    | none => s

/-- An UPGRADE ended with an error: RD_OWN is a new request of the same access, under a new TAG (R284). -/
def State.upgradeFailed (s : State) (tag : Nat) : State :=
  match s.tracker tag with
  | none => s
  | some t =>
    let new := s.freeTag
    let req := fun (r : BlwReq) => if r = .request tag then .request new else r
    let s1 : State := { s with
      fab := { s.fab with
        trackers := s.fab.trackers.map (fun x => if x.tag = tag then { t with tag := new, reissued := false, stale := false, sentAt := none } else x)
        nextTag := (new + 1) % 65536 }
      blw := { s.blw with txns := s.blw.txns.map (fun x => { x with req := req x.req, queue := x.queue.map req }) } }
    s1.toHome new 0x41 0

/-- A re-issue has a new TAG. -/
def State.blwRetag (s : State) (old new : Nat) : State :=
  { s with blw := { s.blw with
      txns := s.blw.txns.map (fun x => { x with devs := x.devs.map (fun d => if d.2.2 = old then (d.1, d.2.1, new) else d) })
      wbOut := s.blw.wbOut.map (fun w => if w.2.2 = old then (w.1, w.2.1, new) else w) } }

/-- A proxy that lost every route to a home drops its clean lines of it, with BISnpInv to its hosts (R294). -/
def State.loseHomes (s : State) : State :=
  let lost := s.blw.lines.filter (fun e => !s.homed e.target && 1 ≤ e.dstate && e.dstate ≤ 3 && !e.dirty
    && (s.hopFor (mkMsg (s.device * 256) e.target 1 0x40 0)).isNone)
  forEach lost (fun s e =>
    let s1 := s.putLine { e with dstate := 0, near := none }
    if e.hvec.isEmpty then s1 else s1.blwAccept e.target e.line 79 .lose) s

/-! ### Flushes and rebuilds (R296 to R300) -/

/-- BLW_FLUSH_FOLD (R297). -/
def State.flushFold (s : State) (f : Nat) : Nat × State :=
  if f = 0 ∨ 1023 < f ∨ s.blw.flushes.any (fun x => x.kind == 1) then (1, s) else
  let p := s.rd (K.FLD_OWNER_PORT f)
  let s1 : State := { s with blw := { s.blw with noGrant := f :: s.blw.noGrant.filter (· != f) } }
  (0, (s1.askFlush { kind := 1, port := p, fold := f, running := false, since := s.clk.dtc }).wr K.BLW_FLUSH_STATE (2 ^ 30 + f))

/-- BULK_FLUSH_GRANT (R300): the first flush that waits takes a grant of 4 GU and its sweep starts; each flush that runs holds one. -/
def State.flushGrant (s : State) : State :=
  if s.granted 81 < 4 * ((s.blw.flushes.filter (·.running)).length + 1) then s else
  match s.blw.flushes.find? (fun f => !f.running) with
  | none => s
  | some f =>
    let g : BulkFlush := { f with running := true, since := s.clk.dtc }
    let s1 : State := { s with
      blw := { s.blw with flushes := s.blw.flushes.replace f g }
      gov := { s.gov with answers := match s.gov.answers.find? (fun a => a.requester == 81) with
        | some a => s.gov.answers.erase a
        | none => s.gov.answers } }
    match f.kind with
    | 0 =>
      let s2 := forEach (s1.blw.lines.filter (fun e => e.hvec.contains f.port)) (fun s e => s.blwAccept e.target e.line 79 (.sweep f.port)) s1
      s2.forgetHost f.port
    | 1 =>
      forEach (s1.blw.lines.filter (fun e => e.hvec.contains f.port && !e.l2 && (e.fold == f.fold || s1.lineShared e))) (fun s e =>
        s.blwAccept e.target e.line 79 (.flush f.port)) s1
    | _ =>
      forEach (s1.blw.lines.filter (fun e => !e.l2 && e.way < 16 && lineBank e.target e.line == f.port && lineSet e.target e.line == f.fold))
        (fun s e => s.blwAccept e.target e.line 79 .rebuild) s1

/-- Work of the running flush that is still open. -/
def flushOpen (s : State) (f : BulkFlush) : Bool :=
  let mine := fun (t l : Nat) (r : BlwReq) => match f.kind with
    | 0 => r == .sweep f.port
    | 1 => r == .flush f.port
    | _ => r == .rebuild && lineBank t l == f.port && lineSet t l == f.fold
  s.blw.txns.any (fun x => (!x.waiting && mine x.target x.line x.req) || x.queue.any (mine x.target x.line))
    || s.blw.retry.any (fun r => mine r.2.2.1 r.2.2.2 r.2.1)

/-- FLUSH_END (R298, R300): the first flush whose work is done returns its grant; a swept port may train; a fold flush is done. -/
def State.flushEnd (s : State) : State :=
  match s.blw.flushes.find? (fun f => f.running && !flushOpen s f) with
  | none => s
  | some f =>
    let s1 : State := { s with blw := { s.blw with flushes := s.blw.flushes.erase f } }
    let s3 := s1.setGrant 81 (s.granted 81 - 4)
    match f.kind with
    | 0 => (s3.putPort f.port { s3.port f.port with sweeping := false }).startTraining f.port |>.cicRaise 0x126
    | 1 =>
      let s4 : State := { s3 with fab := { s3.fab with fold := { s3.fab.fold with flushed := f.fold :: s3.fab.fold.flushed.filter (· != f.fold) } } }
      (s4.wr K.BLW_FLUSH_STATE (2 * 2 ^ 30 + f.fold)).cicRaise 0x126
    | _ => s3.cicRaise 0x120

/-- A filter set error (R299): corrected, rebuilt under a grant, or lost. -/
def State.setEcc (s : State) (bank set : Nat) (k : EccKind) (both : Bool) : State :=
  if 16 ≤ bank ∨ 16384 ≤ set then s else
  match k with
  | .corrected => s.raiseD F.BLW_SET_ECC (elemSub 6) (16384 * bank + set) 0 0
  | .uncorrectable =>
    if both then (s.raiseD F.BLW_SET_LOST (elemSub 6) (16384 * bank + set) 0 0).cicRaise 0x121
    else ((s.raiseGraveD F.BLW_SET_ECC (elemSub 6) (16384 * bank + set) 0 0).cicRaise 0x120).askFlush
      { kind := 2, port := bank, fold := set, running := false, since := s.clk.dtc }

/-- SET_REBUILD_TIMEOUT (R299): 200 µs after it started, lines without every answer are poisoned. -/
def State.rebuildTimeout (s : State) (bank set : Nat) : State :=
  match s.blw.flushes.find? (fun f => f.kind == 2 && f.running && f.port == bank && f.fold == set) with
  | some f =>
    if s.clk.dtc < f.since + 200000 then s else
    let mine := fun (t l : Nat) => lineBank t l == bank && lineSet t l == set
    let s1 := forEach (s.blw.txns.filter (fun x => x.req == .rebuild && !x.waiting && mine x.target x.line)) (fun s x =>
      ((s.spoil x.target x.line).rebuilt { x with data := none }).closeTxn x) s
    let late := s1.blw.txns.filter (fun x => x.queue.contains .rebuild && mine x.target x.line)
    forEach late (fun s x => match s.blw.txns.find? (sameTxn x) with
      | some y => (s.spoil x.target x.line).putTxn_ { y with queue := y.queue.filter (· != .rebuild), poison := true }
      | none => s) s1
  | none => s

/-- BLW_NEAR_ECC (R287). -/
def State.nearEcc (s : State) (t a : Nat) : State :=
  match s.lineEntry t (a / 64) with
  | none => s
  | some e =>
    if e.near.isNone then s
    else if e.dirty then ((s.raiseGraveD F.BLW_NEAR_ECC (elemSub 6) a 0 0).cicRaise 0x125).writeback { e with poisoned := true } false true
    else ((s.raiseD F.BLW_NEAR_ECC (elemSub 6) a 0 0).cicRaise 0x125).nearEvict e

/-- BLW_LOOKUP_LINE (R276): the entry of a line in BLW_LOOKUP_RESULT. -/
def State.lookupLine (s : State) (t a : Nat) : State :=
  let r := match s.lineEntry t (a / 64) with
    | none => zeros 32
    | some e =>
      let flags := 1 + 2 * b2n (s.homed t) + 4 * b2n (s.lineShared e) + 8 * b2n (s.pinned e) + 16 * b2n e.coarse + 32 * b2n e.l2
        + 64 * b2n e.near.isSome + 128 * b2n e.dirty
      let hs := if e.hvec.isEmpty then 0 else if e.owned then 2 else 1
      let sh := if e.coarse then leBytes 4 e.groups else fit 4 (e.sharers.map (BitVec.ofNat 8))
      leBytes 1 flags ++ leBytes 1 hs ++ leBytes 1 e.dstate ++ leBytes 1 (if e.dstate = 2 then e.forwarder else 0) ++ leBytes 2 e.fold
        ++ leBytes 2 t ++ leBytes 8 (e.line * 64) ++ leBytes 8 (e.hvec.foldl (fun n p => n + 2 ^ p) 0) ++ sh
        ++ leBytes 1 (if e.coarse then 0 else e.sharers.length) ++ leBytes 1 (e.lastGrant.getD 0) ++ leBytes 2 e.lastTag
  (s.wro K.BLW_LOOKUP_RESULT r).cicRaise 0x127

end Sys2Proof.Machine
end

