-- ==== Sys2Proof/Machine/Paddock.lean ====
section
/-! DEFINITION. Paddock: buckets, lanes and their release, queue sampling, histograms, meters and the tally ring (R304 to R323). -/

namespace Sys2Proof.Machine

/-! ### Buckets (R305 to R310) -/

/-- The number of a bucket: fold f's read, write, request and engine buckets are 4f to 4f + 3; port p's read and write buckets follow. -/
def foldBucket (f j : Nat) : Nat := 4 * f + j

/-- A port's read (0) or write (1) bucket. -/
def portBucket (p j : Nat) : Nat := 4096 + 2 * p + j

/-- The rate and burst of a bucket in level units (R306): a request bucket's burst counts thousandths. -/
def State.bucketRate (s : State) (b : Nat) : Nat × Nat :=
  if 4096 ≤ b then
    let p := (b - 4096) / 2
    if b % 2 = 0 then (s.rd (K.PDK_PORT_READ_RATE p), s.rd (K.PDK_PORT_READ_BURST p))
    else (s.rd (K.PDK_PORT_WRITE_RATE p), s.rd (K.PDK_PORT_WRITE_BURST p))
  else
    let f := b / 4
    match b % 4 with
    | 0 => (s.rd (K.PDK_READ_RATE f), s.rd (K.PDK_READ_BURST f))
    | 1 => (s.rd (K.PDK_WRITE_RATE f), s.rd (K.PDK_WRITE_BURST f))
    | 2 => (s.rd (K.PDK_REQ_RATE f), 1000 * s.rd (K.PDK_REQ_BURST f))
    | _ => (s.rd (K.PDK_ENGINE_RATE f), s.rd (K.PDK_ENGINE_BURST f))

/-- The rate and burst that a request sees: a port bucket of a port that is not upstream is ignored (R305). -/
def State.bucketCfg (s : State) (b : Nat) : Nat × Nat :=
  if 4096 ≤ b ∧ s.role ((b - 4096) / 2) ≠ 1 then (0, 0) else s.bucketRate b

/-- The level and stamp of a bucket. -/
def State.bucket (s : State) (b : Nat) : Int × Nat :=
  match s.fab.pdk.buckets.find? (fun e => e.1 == b) with
  | some e => e.2
  | none => (0, 0)

/-- Set the level and stamp of a bucket. -/
def State.putBucket (s : State) (b : Nat) (level : Int) (stamp : Nat) : State :=
  { s with fab := { s.fab with pdk := { s.fab.pdk with buckets := Sparse.insert b (level, stamp) s.fab.pdk.buckets } } }

/-- Bring a bucket up to the tick stamp in force (R307). -/
def State.refillBucket (s : State) (b : Nat) : State :=
  let c := s.bucketCfg b
  if c.1 = 0 then s else
  let v := s.bucket b
  let t := s.fab.pdk.stamp
  s.putBucket b (min (v.1 + c.1 * (t - v.2)) c.2) t

/-- A commit changed a bucket's rate or burst (R309), whatever the role of a port's; `old` is the state before the commit. -/
def State.rebucket (s old : State) (b : Nat) : State :=
  let c0 := old.bucketRate b
  let c := s.bucketRate b
  if c = c0 then s
  else if c.1 = 0 then { s with fab := { s.fab with pdk := { s.fab.pdk with buckets := Sparse.erase b s.fab.pdk.buckets } } }
  else if c0.1 = 0 then s.putBucket b c.2 s.fab.pdk.stamp
  else
    let v := s.bucket b
    s.putBucket b (min (min (v.1 + c0.1 * (s.fab.pdk.stamp - v.2)) c0.2) c.2) s.fab.pdk.stamp

/-- An engine issued the request, even if its thread has been detached since (R387). -/
def Tracker.ofEngine (t : Tracker) : Bool :=
  t.who.engine.isSome || (match t.origin with
    | .engine _ _ => true
    | _ => false)

/-- The bucket of a request's bandwidth and its overhead, its fold's request bucket, and its port bucket (R305). -/
def chargesOf (s : State) (t : Tracker) : List (Nat × Nat) :=
  let f := t.fold
  let port := match t.who.port with
    | some p => if s.role p = 1 then some p else none
    | none => none
  let payload := match t.op with
    | .read | .rdShared | .rdOwn | .rdCur => t.len
    | .memInv | .evict => 0
    | .io => if t.kind = 7 then t.len else t.data.length
    | _ => t.data.length
  let reads := match t.op with
    | .read | .rdShared | .rdOwn | .rdCur => true
    | .io => t.kind == 7
    | _ => false
  let req := (foldBucket f 2, 1000)
  if t.ofEngine then [(foldBucket f 3, payload + s.rd (K.PDK_ENGINE_OVERHEAD f)), req]
  else
    match t.op with
    | .memInv | .evict => [req]
    | _ =>
      if reads then [(foldBucket f 0, payload + s.rd (K.PDK_READ_OVERHEAD f)), req] ++ (port.map (fun p => (portBucket p 0, payload))).toList
      else [(foldBucket f 1, payload + s.rd (K.PDK_WRITE_OVERHEAD f)), req] ++ (port.map (fun p => (portBucket p 1, payload))).toList

/-- Paddock neither shapes nor meters the request (R304, R305): fold 0, requests that arrived over Twill, TLPs that reach no memory. -/
def Tracker.exempt (t : Tracker) : Bool :=
  t.fold == 0 || (t.op == .io && t.kind < 7) || (!t.ofEngine && match t.origin with
    | .host _ _ => false
    | .io _ _ => false
    | _ => true)

/-- The lane of a request: 0 MEM-R, 1 MEM-W, 2 IO, 3 ENG (R305). -/
def laneOf (t : Tracker) : Nat :=
  if t.ofEngine then 3
  else match t.origin with
  | .io _ _ => 2
  | _ => if t.writes then 1 else 0

/-- Every shaped bucket that a request charges holds a level of 0 or more (R307). -/
def State.conforms (s : State) (t : Tracker) : Bool :=
  (chargesOf s t).all (fun c => (s.bucketCfg c.1).1 == 0 || decide (0 ≤ ((s.refillBucket c.1).bucket c.1).1))

/-- Refill the buckets of a request and charge them (R307); the requests meter counts it (R317). -/
def State.chargeReq (s : State) (t : Tracker) : State :=
  let s1 := forEach (chargesOf s t) (fun s c =>
    if (s.bucketCfg c.1).1 = 0 then s else
    let s1 := s.refillBucket c.1
    let v := s1.bucket c.1
    s1.putBucket c.1 (v.1 - c.2) v.2) s
  (s1.putMeter t.fold { s1.meter t.fold with requests := (s1.meter t.fold).requests + 1 }).putTracker { t with charged := true }

/-- The cost of a request in the deficit round robin (R312). -/
def drrCost (s : State) (t : Tracker) : Nat :=
  match t.op with
  | .memInv | .evict => 64
  | _ => ((chargesOf s t).head?.map (·.2)).getD 64

/-! ### Lanes (R311 to R313) -/

/-- The messages of a lane of a gang and fold, oldest first. -/
def State.laneMsgs (s : State) (g f l : Nat) : List LMsg :=
  s.fab.loom.msgs.filter (fun x => x.place == .lane l && x.egress == g && ((x.track.bind s.tracker).map (·.fold)).getD 0 == f)

/-- The message waits in a Paddock lane, or a freeze holds it there (R237, R313). -/
def LMsg.shaped (x : LMsg) : Bool :=
  match x.place with
  | .lane _ | .held => true
  | _ => false

/-- PDK_HELD of a fold: its messages in Paddock lanes. -/
def State.pdkHeld (s : State) (f : Nat) : Nat :=
  (s.fab.loom.msgs.filter (fun x => x.shaped && ((x.track.bind s.tracker).map (·.fold)).getD 0 == f)).length

/-- A queue has room for another message of a lane (R311). -/
def State.linkRoom (s : State) (g c : Nat) : Bool := s.queueCells g c < s.rd K.PDK_LINK_DEPTH * s.gangWidth g

/-- Hosts of this device hold a line of an access (R268). -/
def State.recorded (s : State) (t : Nat) (ls : List Nat) : Bool := ls.any (fun l => !(s.lineOr t l).hvec.isEmpty)

/-- A released request goes to Bellwether where it must (R20, R268, R290), to its home if it lies elsewhere, or to its queue.  The lines of
an access of several lines are handled each by itself. -/
def State.release (s : State) (x : LMsg) (t : Tracker) : State :=
  let ls := linesOf t.addr (max 1 (max t.len t.data.length))
  let coherent := t.coherent && (s.homed t.target || s.deviceTier t.shared || t.hostPort.isSome || s.recorded t.target ls)
  let s0 := s.putTracker { t with passed := true }
  if !coherent then s0.linkNew x
  else
    let s1 := s0.moveMsg { x with place := .blw }
    let s2 : State := if 1 < ls.length then { s1 with blw := { s1.blw with open_ := Sparse.insert t.tag ls.length s1.blw.open_ } } else s1
    forEach ls (fun s l => s.blwAccept t.target l x.ingress (.request t.tag)) s2

/-- A request's message leaves its lane, or passes at once: charged, metered, released. -/
def State.passLane (s : State) (x : LMsg) (t : Tracker) : State :=
  let s1 := s.chargeReq t
  let m := s1.meter t.fold
  let s2 := s1.putMeter t.fold { m with shapingNs := m.shapingNs + (s1.clk.dtc - x.laneAt) }
  s2.release x ((s2.tracker t.tag).getD t)

/-- A request that passed Gatepost comes to Paddock (R304, R311). -/
def State.paddock (s : State) (x : LMsg) (t : Tracker) : State :=
  if t.exempt then s.release x t else
  let l := laneOf t
  let x1 : LMsg := { x with laneAt := s.clk.dtc }
  if (s.laneMsgs x.egress t.fold l).isEmpty ∧ s.conforms t ∧ (s.unlist x.id).linkRoom x.egress x.cls then s.passLane x1 t
  else
    let s1 := when (!s.conforms t) (·.count 0x7001 t.fold) s
    s1.moveMsg { x1 with place := .lane l }

/-- The head of a lane is eligible (R311). -/
def State.headEligible (s : State) (g f l : Nat) : Option (LMsg × Tracker) :=
  match s.laneMsgs g f l with
  | [] => none
  | x :: _ => match x.track.bind s.tracker with
    | none => none
    | some t => if s.conforms t ∧ s.linkRoom g x.cls then some (x, t) else none

/-- The folds with a lane at a gang, and those with an eligible one. -/
def State.lanesAt (s : State) (g : Nat) : List Nat :=
  ((s.fab.loom.msgs.filter (fun x => x.egress == g && (match x.place with | .lane _ => true | _ => false))).map
    (fun x => ((x.track.bind s.tracker).map (·.fold)).getD 0)).eraseDups

/-- The next eligible lane of a fold, in rotating order over the four lanes. -/
def State.nextLane (s : State) (g f : Nat) : Option Nat :=
  rotFind (fun l => (s.headEligible g f l).isSome) 4 (Sparse.get (fun _ => 0) s.fab.pdk.lanePtr (1024 * g + f))

/-- The deficit of a fold at a gang. -/
def State.deficit (s : State) (g f : Nat) : Nat := Sparse.get (fun _ => 0) s.fab.pdk.deficits (1024 * g + f)

/-- Set the deficit of a fold at a gang. -/
def State.putDeficit (s : State) (g f n : Nat) : State :=
  { s with fab := { s.fab with pdk := { s.fab.pdk with deficits := Sparse.set (fun _ => 0) s.fab.pdk.deficits (1024 * g + f) n } } }

/-- Take heads of a fold while its deficit lasts (R312). -/
def State.foldTurn (g f : Nat) (s : State) : Option State :=
  match s.nextLane g f with
  | none => none
  | some l => match s.headEligible g f l with
    | none => none
    | some (x, t) =>
      let c := drrCost s t
      if s.deficit g f < c then none else
      let s1 := (s.passLane x t).putDeficit g f (s.deficit g f - c)
      let s2 : State := { s1 with fab := { s1.fab with pdk := { s1.fab.pdk with
        lanePtr := Sparse.set (fun _ => 0) s1.fab.pdk.lanePtr (1024 * g + f) ((l + 1) % 4) } } }
      some s2

/-- LANE_EVALUATE: one round of deficit round robin over the folds with an eligible lane at a gang (R312). -/
def State.laneEvaluate (s : State) (g : Nat) : State :=
  let ptr := Sparse.get (fun _ => 0) s.fab.pdk.foldPtr g
  let folds := (sortBy (fun f => (f + 1024 - ptr) % 1024) (s.lanesAt g)).filter (fun f => (s.nextLane g f).isSome)
  forEach folds (fun s f =>
    let s1 := (s.putDeficit g f (s.deficit g f + 256 * s.rd (K.PDK_WEIGHT f))).count 0x7002 g
    let s2 := iter (State.foldTurn g f) s1.fab.loom.msgs.length s1
    let s3 : State := { s2 with fab := { s2.fab with pdk := { s2.fab.pdk with foldPtr := Sparse.set (fun _ => 0) s2.fab.pdk.foldPtr g ((f + 1) % 1024) } } }
    if (s3.nextLane g f).isSome then s3 else s3.putDeficit g f 0) s

/-- The output gangs in rotating order: the next with an eligible head has a round, so that each request sees the bucket levels that those before it left
(R310). -/
def State.laneRound (s : State) : Option State :=
  (rotFind (fun g => (s.lanesAt g).any (fun f => (s.nextLane g f).isSome)) 81 s.fab.pdk.gangPtr).map (fun g =>
    State.laneEvaluate { s with fab := { s.fab with pdk := { s.fab.pdk with gangPtr := (g + 1) % 81 } } } g)

/-- Held heads are evaluated again when they may have become eligible: at each tick boundary, hence at the first at which a head conforms, and whenever a
queue has fallen below its depth (R311). -/
def State.laneSweep (s : State) : State :=
  if s.fab.loom.msgs.any (fun x => x.place != .held && x.shaped) then iter State.laneRound 1000000 s else s

/-! ### Sampling (R314, R315) -/

/-- The depth and head delay of a queue: what is linked to it, and what Paddock holds for it (R314). -/
def State.queueSample (s : State) (g c : Nat) : Nat × Nat :=
  let l := s.fab.loom.msgs.filter (fun x => x.egress == g && x.cls == c && (x.place == .queue || x.shaped))
  let depth := l.foldl (fun n x => n + x.cells) 0
  let oldest := l.foldl (fun n x => min n x.at_) s.clk.dtc
  (depth, if depth = 0 then 0 else sat 32 (s.clk.dtc - oldest))

/-- The queues that a sample covers, by gang and class; an absorbed port is no gang (R196). -/
def State.queueSamples (s : State) : List (Nat × Nat) :=
  (ingressGangs.filter (fun g => strBit (s.rdo K.PDK_QSAMPLE_GANGS) g && (64 ≤ g || s.portOfQuad g == g))).flatMap (fun g =>
    (setBits 8 (s.rd K.PDK_QSAMPLE_CLASSES)).map (fun c => s.queueSample g c))

/-- A sample falls to this tick (R32, R314). -/
def State.sampleDue (s : State) : Bool :=
  if s.fab.pdk.seenAt = s.now then s.fab.pdk.sampled else s.now % max 1 (s.rd K.PDK_QSAMPLE_PERIOD) == 0

/-- QSAMPLE_CAPTURE (R314, R315): the sample is that of the boundary, before the commits of its tick (R32). -/
def State.qsample (s0 : State) (overrun : Bool) : State :=
  if !s0.isReady ∨ !s0.sampleDue ∨ s0.now < s0.fab.pdk.nextSample then s0 else
  let s : State := { s0 with fab := { s0.fab with pdk := { s0.fab.pdk with nextSample := s0.now + 1 } } }
  let n := s.fab.pdk.captures + 1
  let s1 : State := { s with fab := { s.fab with pdk := { s.fab.pdk with captures := n } } }
  let qs := if overrun then [] else if s.fab.pdk.seenAt = s.now then s.fab.pdk.queues else s.queueSamples
  let block := leBytes 8 (s.now * 1000) ++ leBytes 4 n ++ leBytes 2 qs.length ++ leBytes 1 (b2n overrun) ++ [0]
    ++ qs.flatMap (fun q => leBytes 4 q.1 ++ leBytes 4 q.2)
  let w := s.rd K.PDK_QSAMPLE_WRITE
  let s2 := when overrun (·.bump K.PDK_QSAMPLE_MISSED) s1
  if ringFull s.qsampleSlots w (s.rd K.PDK_QSAMPLE_READ) then
    ((s2.bump K.PDK_QSAMPLE_DROPPED).raise F.PDK_QSAMPLE_DROPPED (elemSub 7)).cicRaise 0x132
  else
    (((s2.cmnWrite (s.carveAt 5 + s.carve 5 / 2 + 8192 * w) block allBytes).2).wr K.PDK_QSAMPLE_WRITE ((w + 1) % s.qsampleSlots)).cicRaise 0x131

/-! ### Meters and tally (R317 to R322) -/

/-- The folds whose meters have moved, or that are in use. -/
def State.meterFolds (s : State) : List Nat := (sortBy id ((s.fab.pdk.meters.map (·.1)) ++ s.ownedFolds)).eraseDups.filter (· != 0)

/-- GiB·s of a capacity meter in units of 256 MiB × 1 µs (R317). -/
def capacityGiBs (c : Nat) : Nat := c / 4000000

/-- At a boundary: capacity accrues for the tick that ends, whose commit point is past, and the meters are copied into their objects (R317, R318);
where the Tally job overran (`late`) they are copied at the next (R30). -/
def State.meterTick (s : State) (late : Bool) : State :=
  let s1 := forEach s.ownedFolds (fun s f =>
    let b := s.boundBytes f
    if b = 0 then s else s.putMeter f { s.meter f with capacity := ((s.meter f).capacity + b / unit256) % (2 ^ 64 * 4000000) }) s
  let s2 := forEach (if late then [] else s1.meterFolds) (fun s f =>
    let m := s.meter f
    ((((((s.wr (K.PDK_METER_READ_BYTES f) (m.readBytes % 2 ^ 64)).wr (K.PDK_METER_WRITE_BYTES f) (m.writeBytes % 2 ^ 64)).wr
      (K.PDK_METER_REQUESTS f) (m.requests % 2 ^ 64)).wr (K.PDK_METER_ENGINE_NS f) (m.engineNs % 2 ^ 64)).wr
      (K.PDK_METER_CAPACITY f) (capacityGiBs m.capacity % 2 ^ 64)).wr (K.PDK_METER_SHAPING_NS f) (m.shapingNs % 2 ^ 64)).wr
      (K.PDK_METER_VIOLATIONS f) (m.violations % 2 ^ 64)) s1
  let used := s2.fab.pdk.used ++ (s2.ownedFolds.filter (fun f => s2.foldInUse f && !s2.fab.pdk.used.contains f))
  let frozen := s2.fab.pdk.frozen ++ (s2.ownedFolds.filter (fun f => s2.foldFlag f 2 && !s2.fab.pdk.frozen.contains f))
  { s2 with fab := { s2.fab with pdk := { s2.fab.pdk with snapAt := s2.now * 1000, snaps := if late then s2.fab.pdk.snaps else s2.fab.pdk.meters, used := used, frozen := frozen } } }

/-- What a tally block says of a fold beside its meters. -/
def State.foldSeen (s : State) (f : Nat) : TallySeen :=
  { fold := f, inUse := s.foldInUse f, owner := s.rd (K.FLD_OWNER_PORT f), extents := (s.extentsOf f).length
    changed := s.fab.pdk.ownerChanged.contains f, frozen := s.fab.pdk.frozen.contains f, restored := s.fab.pdk.restored.contains f }

/-- What the boundary shows to the tally block and the queue sample that end at it, before any commit of its tick (R32). -/
def State.boundarySeen (s : State) : State :=
  let tally := s.now * 1000 % max 1 (s.rd K.PDK_TALLY_INTERVAL) == 0
  let queues := s.now % max 1 (s.rd K.PDK_QSAMPLE_PERIOD) == 0
  { s with fab := { s.fab with pdk := { s.fab.pdk with
      seenAt := s.now, tallyEnds := tally, seen := if tally then s.fab.pdk.used.map s.foldSeen else []
      sampled := queues, queues := if queues then s.queueSamples else [] } } }

/-- A tally interval ends now: by the interval in force at the boundary, before any commit of its tick (R32, R319). -/
def State.tallyDue (s : State) : Bool :=
  if s.fab.pdk.seenAt = s.now then s.fab.pdk.tallyEnds else s.now * 1000 % max 1 (s.rd K.PDK_TALLY_INTERVAL) == 0

/-- The snapshot of a fold's meters as the tally uses it: capacity in whole GiB·s. -/
def State.snapshot (s : State) (f : Nat) : Meter :=
  { readBytes := s.rd (K.PDK_METER_READ_BYTES f), writeBytes := s.rd (K.PDK_METER_WRITE_BYTES f), requests := s.rd (K.PDK_METER_REQUESTS f)
    engineNs := s.rd (K.PDK_METER_ENGINE_NS f), capacity := s.rd (K.PDK_METER_CAPACITY f), shapingNs := s.rd (K.PDK_METER_SHAPING_NS f)
    violations := s.rd (K.PDK_METER_VIOLATIONS f) }

/-- The 64-byte meter block of a fold (R318). -/
def State.meterBlock (s : State) (f : Nat) : List Byte :=
  let m := s.snapshot f
  leBytes 8 s.fab.pdk.snapAt ++ leBytes 8 m.readBytes ++ leBytes 8 m.writeBytes ++ leBytes 8 m.requests ++ leBytes 8 m.engineNs
    ++ leBytes 8 m.capacity ++ leBytes 8 m.shapingNs ++ leBytes 8 m.violations

/-- The difference of a meter, modulo 2^64. -/
def meterDiff (a b : Nat) : List Byte := leBytes 8 ((a + 2 ^ 64 - b) % 2 ^ 64)

/-- A fold entry of a tally block (R321). -/
def State.tallyEntry (s : State) (f : Nat) : List Byte :=
  let p := s.fab.pdk
  let a := s.snapshot f
  let b := Sparse.get (fun _ => {}) p.blockStart f
  let e := if p.seenAt = s.now then (p.seen.find? (fun e => e.fold == f)).getD (s.foldSeen f) else s.foldSeen f
  leBytes 2 f ++ leBytes 1 (b2n e.inUse + 2 * b2n e.changed + 4 * b2n e.frozen + 8 * b2n e.restored) ++ leBytes 1 e.owner ++ leBytes 4 e.extents
    ++ meterDiff a.readBytes b.readBytes ++ meterDiff a.writeBytes b.writeBytes ++ meterDiff a.requests b.requests
    ++ meterDiff a.engineNs b.engineNs ++ meterDiff a.capacity b.capacity ++ meterDiff a.shapingNs b.shapingNs
    ++ meterDiff a.violations b.violations

/-- The tally block that ends now (R320). -/
def State.tallyBytes (s : State) : List Byte :=
  let p := s.fab.pdk
  let folds := (sortBy id (if p.seenAt = s.now then p.seen.map (·.fold) else p.used)).filter (fun f => 1 ≤ f && f ≤ 1023)
  let head := leBytes 8 (s.rd K.PDK_TALLY_SEQUENCE + 1) ++ leBytes 8 p.startAt ++ leBytes 8 (s.now * 1000) ++ leBytes 8 p.unmetered
    ++ (if s.locked then leBytes 8 (s.rd K.HRD_TIME_OFFSET) else zeros 8) ++ leBytes 4 p.missed ++ leBytes 2 folds.length
    ++ leBytes 1 (b2n s.clk.servo.lockedAll + 2 * b2n p.firstBlock + 4 * b2n (p.merged != 0)) ++ [1] ++ leBytes 2 p.merged
    ++ leBytes 1 s.device ++ zeros 9
  let rest := folds.flatMap s.tallyEntry
  head ++ leBytes 4 (crc32c (head ++ zeros 4 ++ rest)) ++ rest

/-- A tally block begins at a DTC: the snapshots at its start, and what it will have seen (R319, R321). -/
def State.tallyStart (at_ : Nat) (s : State) : State :=
  let inUse := s.ownedFolds.filter s.foldInUse
  let later := fun (l : List Nat) (g : TallySeen → Bool) => if s.fab.pdk.seenAt = s.now then l.filter (fun f => !(s.fab.pdk.seen.any (fun e => e.fold == f && g e))) else []
  { s with
    fab := { s.fab with pdk := { s.fab.pdk with
      blockStart := s.meterFolds.map (fun f => (f, s.snapshot f)), startAt := at_, merged := 0, missed := 0, unmetered := 0
      used := inUse, ownerChanged := later s.fab.pdk.ownerChanged (·.changed), 
      frozen := inUse.filter (fun f => s.foldFlag f 2) } }
    clk := { s.clk with servo := { s.clk.servo with lockedAll := s.locked } } }

/-- TALLY_BLOCK (R319 to R322): at the end of an interval the block is written, or merged into the next where the ring is full. -/
def State.tallyBlock (s : State) : State :=
  if !s.tallyDue ∨ s.now * 1000 ≤ s.fab.pdk.startAt ∨ !s.isReady then s else
  let w := s.rd K.PDK_TALLY_WRITE
  let slots := s.rd K.PDK_TALLY_SLOTS
  if ringFull slots w (s.rd K.PDK_TALLY_READ) then
    let s1 : State := { s with fab := { s.fab with pdk := { s.fab.pdk with merged := s.fab.pdk.merged + 1 } } }
    ((s1.bump K.PDK_TALLY_MERGED).raise F.PDK_TALLY_FULL (elemSub 7)).cicRaise 0x134
  else
    let s1 := (s.cmnWrite (s.carveAt 5 + 65536 * w) s.tallyBytes allBytes).2
    let s2 := ((s1.wr K.PDK_TALLY_WRITE ((w + 1) % slots)).bump K.PDK_TALLY_SEQUENCE).cicRaise 0x133
    State.tallyStart (s.now * 1000) { s2 with fab := { s2.fab with pdk := { s2.fab.pdk with firstBlock := false } } }

/-- PDK_HIST_CLEAR (R316). -/
def State.histClear (s : State) (v : Nat) : Nat × State :=
  if v ≤ 1023 then (0, forEach (List.range 16) (fun s k => s.wr (K.PDK_HIST_BIN v k) 0) s)
  else if v = 0xFFFF then
    (0, { s with dict := { s.dict with nums := s.dict.nums.filter (fun e =>
      !(0x6000 ≤ keyIdx e.1 && keyIdx e.1 < 0x6400 && 0x14 ≤ keySub e.1 && keySub e.1 ≤ 0x23)) } })
  else (1, s)

/-- PDK_BUCKET_ECC (R323): buckets 0 to 3 are the fold's read, write, request and engine buckets; 4 and 5 are the read and write buckets of the port of
that number. -/
def State.bucketEcc (s : State) (f b : Nat) (k : EccKind) : State :=
  if 1024 ≤ f ∨ 6 ≤ b ∨ (4 ≤ b ∧ 64 ≤ f) then s else
  let n := if b < 4 then foldBucket f b else portBucket f (b - 4)
  let e := if b < 4 then elem 6 f else elemPort f
  match k with
  | .corrected => (s.raiseD F.PDK_BUCKET_ECC e b 0 0).cicRaise 0x135
  | .uncorrectable =>
    (when ((s.bucketRate n).1 != 0) (fun s => s.putBucket n 0 s.fab.pdk.stamp) (s.raiseGraveD F.PDK_BUCKET_ECC e b 0 0)).cicRaise 0x135

/-- PDK_METER_ECC (R323): with both copies gone the meter returns to the last snapshot. -/
def State.meterEcc (s : State) (f n : Nat) (k : EccKind) (both : Bool) : State :=
  if 1024 ≤ f ∨ 7 ≤ n then s else
  match k, both with
  | .uncorrectable, true =>
    let m := s.meter f
    let p := Sparse.get (fun _ => {}) s.fab.pdk.snaps f
    let m1 : Meter := match n with
      | 0 => { m with readBytes := p.readBytes }
      | 1 => { m with writeBytes := p.writeBytes }
      | 2 => { m with requests := p.requests }
      | 3 => { m with engineNs := p.engineNs }
      | 4 => { m with capacity := p.capacity }
      | 5 => { m with shapingNs := p.shapingNs }
      | _ => { m with violations := p.violations }
    let s1 := s.putMeter f m1
    let s2 : State := { s1 with fab := { s1.fab with pdk := { s1.fab.pdk with restored := f :: s1.fab.pdk.restored.filter (· != f) } } }
    (s2.raiseGraveD F.PDK_METER_ECC (elem 6 f) n 0 0).cicRaise 0x136
  | _, _ => (s.raiseD F.PDK_METER_ECC (elem 6 f) n 0 0).cicRaise 0x136

/-- A tick job of Paddock overran its budget (R30, R31, R323). -/
def State.pdkOverrun (s : State) (job late : Nat) : State :=
  (((s.bump K.PDK_TICK_OVERRUNS).raiseD F.PDK_TICK_OVERRUN (elemSub 7) job late 0).cicRaise 0x130).cicRaise 8

end Sys2Proof.Machine
end

