-- ==== Sys2Proof/Machine/Requests.lean ====
section
/-! DEFINITION. Requests from their arrival to their answer: host CXL.mem and CXL.io, the debug master, on-chip sources, freezing, Gatepost, Loom's
start and transmission, Commons accesses, and the answers of ports (R17, R20, R163, R201, R205 to R221, R230 to R232, R237, R248 to R257, R412). -/

namespace Sys2Proof.Machine

/-! ### Checks on the way in -/

/-- Gatepost denies a request at its entering device (R257): the record, the fold's violations meter, the answer. -/
def State.deny (s : State) (t : Tracker) (d : Nat × Option (Nat × Nat)) : State :=
  let s1 := s.gtpViolation t.who t.target t.addr (max 1 t.len) t.kind t.need false d
  let m := s1.meter t.fold
  (when (t.fold != 0) (·.putMeter t.fold { m with violations := m.violations + 1 }) s1).completeError t 3

/-- A request whose freeze, if any, is over: Gatepost, the dirty log, its route, Paddock (R20, R241, R254). -/
def State.gate (s : State) (x : LMsg) (t : Tracker) : State :=
  match (if t.need = 0 then none else s.gtpDenied t.who t.target t.addr (max 1 t.len) t.need) with
  | some d => (s.dropMsg x.id).deny t d
  | none =>
    let s1 := match t.page with
      | some o => when t.writes (·.markDirty t.fold o t.len) s
      | none => s
    let gone := t.op != .io && s1.capacityGone t.target t.addr (max 1 t.len)
    match (if gone then none else s1.gangFor x.m) with
    | none => (s1.dropMsg x.id).unrouted t
    | some g =>
      let t1 : Tracker := { t with egress := g }
      (s1.putTracker t1).paddock { x with egress := g } t1

/-- An admitted request is held where its fold was frozen when it was decoded, and still is; or it passes on (R230 step 6, R237). -/
def State.pass (s : State) (x : LMsg) (t : Tracker) : State :=
  if t.frozen then s.moveMsg { x with place := .held }
  else s.gate x t

/-- A request was re-issued (R183): one that had not passed Paddock goes on to Gatepost; the pages of another write are marked again, since it has passed
Gatepost again (R241). -/
def State.reissue (s : State) (tag : Nat) : State :=
  match s.tracker tag with
  | none => s
  | some t =>
    if t.need != 0 && !t.passed then
      match s.fab.loom.msgs.find? (fun x => x.track == some tag && x.place == .held) with
      | some x => s.pass { x with place := .queue } t
      | none => s
    else match t.page with
      | some o => when t.writes (·.markDirty t.fold o t.len) s
      | none => s

/-- Take a tracker for a request and bring its message into Loom (R20, R201).  A message that has no route waits at Croft's gang for its check. -/
def State.submit (s : State) (t : Tracker) (poison : Bool) : State :=
  let r := s.newTracker { t with poison := poison }
  match r.2.tracker r.1 with
  | none => s
  | some t1 =>
    let m := reqMsg r.2 t1
    let g := (r.2.gangFor m).getD 79
    let t2 : Tracker := { t1 with egress := g }
    let a := (r.2.putTracker t2).admitMsg
      { id := 0, place := .queue, m := m, ingress := t.ingress, egress := g, track := some r.1, tlp := t.tlp }
    if a.1.place = .source then a.2 else a.2.pass a.1 t2

/-- The commit point that clears FROZEN lets the held requests pass to Gatepost in the order in which they were held (R237). -/
def State.thaw (s0 : State) (f : Nat) : State :=
  let s : State := { s0 with fab := { s0.fab with trackers := s0.fab.trackers.map (fun t => if t.fold = f then { t with frozen := false } else t) } }
  forEach (s.heldMsgs f) (fun s x => match x.track.bind s.tracker with
    | some t => s.gate { x with place := .queue } t
    | none => s.dropMsg x.id) s

/-! ### CXL.mem requests of hosts (R230, R231, R277) -/

/-- The permissions that a host's request needs, and the KIND of a record of its denial (R255, R262, R277). -/
def hostNeed (op : ReqOp) (shared : Bool) : Nat × Nat :=
  match op with
  | .memInv => (permRead + permWrite + (if shared then permShare else 0), 6)
  | .evict => (permRead, 1)
  | .rdOwn => if shared then (permRead + permWrite + permShare, 6) else (permRead, 1)
  | .rdShared | .rdCur => if shared then (permRead + permShare, 5) else (permRead, 1)
  | .partialWrite => if shared then (permRead + permWrite + permShare, 6) else (permWrite, 3)
  | _ => if shared then (permRead + permWrite + permShare, 6) else (permWrite, 2)

/-- The Twill form of a host's request, should it leave the device: class, opcode and word 3 (R171, R172). -/
def hostWire (op : ReqOp) (len be : Nat) : Nat × Nat :=
  match op with
  | .write => (0x402, 0)
  | .partialWrite => (0x403, be)
  | .evict => (0x447, 0)
  | _ => (0x401, len)

/-- A host's CXL.mem request for which a tracker is free (R20 steps 1 to 6). -/
def State.hostTake (s : State) (p : Nat) (r : HostReq) (op : ReqOp) : State :=
  let writes := op == .write || op == .partialWrite
  let len := if writes then max 1 r.data.length else max 64 r.length
  let base : Tracker := { tag := 0, origin := .host p r.tag, op := op, len := len, data := if writes then r.data else [],
                          be := if op == .partialWrite then r.byteEn else 2 ^ 64 - 1, ingress := p, who := { port := some p, device := s.device },
                          keepS := r.keepS, metaGiven := r.keepS || r.giveUp, coherent := true }
  let miss := fun (s : State) (f : Option Nat) =>
    let n := s.newTracker { base with fold := f.getD 0 }
    match n.2.tracker n.1 with
    | none => s
    | some t => (n.2.decodeMiss f).completeError t 2
  match s.hdm p r.hpa with
  | none => miss s none
  | some d => match s.foldAt p d with
    | none => miss s none
    | some f =>
      let o := d - s.rd (K.FLD_WINDOW_BASE f)
      let s1 := s.count 0x5001 f
      match s1.extentAt f o len with
      | none => miss s1 (some f)
      | some (target, a) =>
        let shared := s1.foldFlag f 0
        let need := hostNeed op shared
        let wire := hostWire op len base.be
        s1.submit { base with
          fold := f, epoch := some 0, target := target, addr := a, who := { port := some p, fold := f, device := s.device }, need := need.1
          kind := need.2, shared := shared, page := some o, wire := wire.1, extension := wire.2 } r.poisoned

/-- A host's CXL.mem request arrives at an upstream port (R20, R163): a violation is discarded, a request without a tracker waits. -/
def State.hostRequest (s : State) (p : Nat) (r : HostReq) (op : ReqOp) : State :=
  if 64 ≤ p ∨ s.role p ≠ 1 ∨ !s.linkUp p ∨ s.insecure p ∨ !(s.port p).cxl ∨ !bit (s.rd (K.PRT_CXL_ENABLE p)) 1 then s else
  let writes := op == .write || op == .partialWrite
  let s1 := s.count (if writes then 0x2002 else 0x2001) p
  if r.badFields then
    let s2 := s1.portViolation p F.PRT_CXL_PROTOCOL []
    if writes ∨ op = .evict ∨ op = .memInv then s2 else s2.emit (.hostData p r.tag (zeros (max 64 r.length)) true 0)
  else
    let s2 := when (r.poisoned && writes) (·.portViolation p F.PRT_POISON_RX []) s1
    if s2.noTracker true ∨ !s2.fab.waitHost.isEmpty then { s2 with fab := { s2.fab with waitHost := s2.fab.waitHost ++ [(p, r, op)] } }
    else s2.hostTake p r op

/-- A request that waited for a free tracker goes on (R20 step 1). -/
def State.hostWaiting (s : State) : Option State :=
  let writeback := fun (e : Nat × HostReq × ReqOp) => (e.2.2 == .write || e.2.2 == .partialWrite) && (e.2.1.keepS || e.2.1.giveUp)
  match (match s.fab.waitHost.find? writeback with
    | some e => some e
    | none => s.fab.waitHost.head?) with
  | none => none
  | some e =>
    if s.noTracker true then none else
    some (({ s with fab := { s.fab with waitHost := s.fab.waitHost.erase e } } : State).hostTake e.1 e.2.1 e.2.2)

/-! ### CXL.io (R17, R150, R163, R232) -/

/-- A TLP expects a completion. -/
def tlpNonPosted (k : TlpKind) : Bool :=
  match k with
  | .memRd | .atomicFetchAdd | .atomicSwap | .atomicCas | .cfgRd _ _ | .cfgWr _ _ _ | .barRd _ _ => true
  | _ => false

/-- The TLP is a configuration request. -/
def tlpConfig : TlpKind → Bool
  | .cfgRd _ _ | .cfgWr _ _ _ | .barRd _ _ => true
  | _ => false

/-- The permissions that a TLP needs at Gatepost, and the KIND of a record (R255, R262); a message needs none (R249). -/
def tlpNeed (k : TlpKind) : Nat × Nat :=
  match k with
  | .memRd => (permRead, 7)
  | .memWr => (permWrite, 8)
  | .atomicFetchAdd | .atomicSwap | .atomicCas => (permAtomic, 9)
  | _ => (0, 0)

/-- The FEID behind the other end of a direct binding (R148, R150, R232): from an upstream port, the device on the vPPB that the TLP's bridge windows
select; from a downstream port, its host. -/
def State.bindingTarget (s : State) (p vppb : Nat) : Option Nat :=
  if s.role p = 1 then
    if 2 ≤ vppb ∧ vppb ≤ 7 then
      let q := s.rd (K.PRT_VPPB_BIND p (vppb - 2))
      if q < 64 then some (s.device * 256 + s.rd (K.PRT_LD_FEID q 0)) else none
    else none
  else (s.boundTo p).map (fun e => s.device * 256 + s.rd (K.PRT_LD_FEID e.1 0))

/-- A CXL.io request that no function takes: UR, or dropped where it is posted; an unsupported request is reported through AER (R148, R232). -/
def State.ioRefused (s : State) (p : Nat) (t : Tlp) : State :=
  let s1 := s.aerLog p 20 t.header
  if tlpNonPosted t.kind then s1.emit (.ioCompletion p t.tag 1 []) else s1.bump (K.PRT_POSTED_DROPPED p)

/-- The requester's bus number, and the Address Type, in the header of a request TLP (PRESUMED from the base specification). -/
def tlpBus (header : List Byte) : Nat := (header.getD 4 0).toNat
def tlpAddressType (header : List Byte) : Nat := (header.getD 2 0).toNat / 4 % 4

/-- ACS of the vPPB behind which a downstream port is bound (R146): Source Validation, bit 0, refuses a requester's bus outside the bridge's secondary to
subordinate buses; Translation Blocking, bit 1, refuses a memory request with an Address Type other than the default.  The bits are PRESUMED from the base
specification. -/
def State.acsRefuses (s : State) (p : Nat) (t : Tlp) : Bool :=
  match (if s.role p = 2 ∧ 12 ≤ t.header.length then s.boundTo p else none) with
  | none => false
  | some (u, i) =>
    let c := bits (s.port u).acs (8 * (i + 2) + 4) (8 * (i + 2))
    let w := Sparse.get (fun _ => 0) (s.port u).buses (i + 3)
    let memory := match t.kind with
      | .memRd | .memWr | .atomicFetchAdd | .atomicSwap | .atomicCas => true
      | _ => false
    (bit c 0 && !(decide (bits w 15 8 ≤ tlpBus t.header ∧ tlpBus t.header ≤ bits w 23 16))) || (bit c 1 && memory && tlpAddressType t.header != 0)

/-- A sound CXL.io request TLP is decoded and submitted (R232): it goes to the other end of a direct binding, stamped with FLD_PORT_FOLD; one to
anything else is not decoded by Fold.  An isolated fold's requests are misses (R246). -/
def State.ioSubmit (s : State) (p : Nat) (t : Tlp) : State :=
  if s.role p = 2 ∧ tlpConfig t.kind then s.ioRefused p t else
  let f := s.rd (K.FLD_PORT_FOLD p)
  let np := tlpNonPosted t.kind
  let base : Tracker := { tag := 0, origin := .io p t.tag, op := .io, fold := f, ingress := p, addr := t.address, len := max 1 t.length,
                          data := t.payload, wire := 0x501, posted := !np, who := { port := some p, fold := f, device := s.device }, tlp := some t }
  match s.bindingTarget p t.ld with
  | none => s.ioRefused p t
  | some target =>
    if f = 0 then (s.decodeMiss none).ioRefused p t
    else if s.foldIsolated f then (s.decodeMiss (some f)).ioRefused p t
    else
      let n := tlpNeed t.kind
      s.submit { base with target := target, need := n.1, kind := n.2 } (t.flaw == .poisoned)

/-- The tracker serves a read of host memory, or a Translation Request, of a tenant function. -/
def Tracker.isFunc (t : Tracker) : Bool :=
  match t.origin with
  | .func _ _ | .ats _ _ => true
  | _ => false

/-- The tracker that a response at a port completes: it left there, and its link has not gone down since (R159, R161). -/
def State.awaited (s : State) (p tag : Nat) : Option Tracker :=
  (s.tracker tag).filter (fun t => t.egress == p && t.sentAt.isSome && !t.stale && !t.isFunc)

/-- A port's response to a request that it forwarded (R20 step 7, R159, R161, R163), with the header of its TLP, if it is one. -/
def State.answered (s : State) (p tag : Nat) (ok poisoned lengthOk : Bool) (data header : List Byte) : State :=
  match s.awaited p tag with
  | none => s.lateResponse p header
  | some t =>
    if !lengthOk then
      let s1 := s.portViolation p F.PRT_MALFORMED header
      if header.isEmpty then s1 else s1.aerLog p 18 header
    else
      let s1 := when poisoned (fun s => if header.isEmpty then s.portViolation p F.PRT_POISON_RX []
        else (s.portViolation p F.PRT_POISON_RX header).aerLog p 12 header) s
      if ok then s1.completeOk t (if t.wantsData ∨ t.op = .io then data else []) poisoned else s1.completeError t 1

/-- PORT_RESPONSE: an insecure port accepts none (R158). -/
def State.portResponse (s : State) (p : Nat) (r : PortResp) : State :=
  if 64 ≤ p ∨ s.role p = 3 ∨ !s.linkUp p ∨ s.insecure p then s else s.answered p r.tag r.ok r.poisoned r.lengthOk r.data []

/-- The byte count of a completion's header, where the header is whole (12 octets). -/
def byteCount (header payload : List Byte) : Nat :=
  if header.length < 12 then payload.length
  else
    let n := (header.getD 6 0).toNat % 16 * 256 + (header.getD 7 0).toNat
    if n = 0 then 4096 else n

/-- The status of a completion's header: 0 Successful Completion. -/
def cplStatus (header : List Byte) : Nat := (header.getD 6 0).toNat / 32

/-- The octets that a successful completion of a CXL.io request must bring (R163): those read, the operand's of an AtomicOp, 4 of a configuration
read, none of a configuration write; of a request whose TLP is not kept none are asked for. -/
def Tracker.cplOctets (t : Tracker) : Option Nat :=
  match t.tlp with
  | none => none
  | some x => match x.kind with
    | .memRd => some t.len
    | .atomicFetchAdd | .atomicSwap => some x.payload.length
    | .atomicCas => some (x.payload.length / 2)
    | .cfgRd _ _ => some 4
    | _ => some 0

/-- A successful completion without data answers a request that expects none (R163). -/
def State.cplEmpty (s : State) (p : Nat) (t : Tlp) : Bool :=
  cplStatus t.header != 0 || ((s.awaited p t.tag).bind Tracker.cplOctets).all (· == 0)

/-- A completion with data (R163): it carries what its request still misses, or a first part of it; the octets that came before are kept. -/
def State.cplData (s : State) (p : Nat) (t : Tlp) : State :=
  match s.awaited p t.tag with
  | none => s.lateResponse p t.header
  | some k =>
    let reads := (k.tlp.map (fun x => x.kind == .memRd)).getD false
    let got := k.data ++ t.payload
    let n := byteCount t.header t.payload
    let lengthOk := if reads then n == k.len - k.data.length && t.payload.length ≤ n && !t.payload.isEmpty
      else k.cplOctets.all (fun m => m == t.payload.length && m == n)
    if lengthOk && reads && t.payload.length < n && t.flaw != .poisoned then s.putTracker { k with data := got }
    else s.answered p t.tag true (t.flaw == .poisoned) lengthOk (if reads then got else t.payload) t.header

/-- CXL_IO_TLP: a TLP arrives at a PCIe or CXL port (R163, R197, R232). -/
def State.ioTlp (s : State) (p : Nat) (t : Tlp) : State :=
  if 64 ≤ p ∨ s.role p = 0 ∨ s.role p = 3 ∨ !s.linkUp p ∨ s.insecure p then s else
  let s1 := s.count 0x2003 p
  let ur := fun (s : State) => if tlpNonPosted t.kind then s.emit (.ioCompletion p t.tag 1 []) else s
  let flawed := fun (src b : Nat) => (s1.portViolation p src t.header).aerLog p b t.header
  if t.flaw == .malformed || t.flaw == .headerTooLong || decide (48 < t.header.length) then (flawed F.PRT_MALFORMED 18).fatalError p
  else match t.flaw with
  | .fcProtocol => ((flawed F.PRT_FC_PROTOCOL 13).portDown p).triggerDpc p
  | .pasid => ur (flawed F.PRT_PASID 20)
  | .unknownLd => ur (flawed F.PRT_LD_RANGE 20)
  | f =>
    match t.kind with
    | .cpl => s1.answered p t.tag (cplStatus t.header == 0) (f == .poisoned) (s1.cplEmpty p t) [] t.header
    | .cplD => s1.cplData p t
    | _ =>
      let s2 := when (f == .poisoned) (fun s => (s.portViolation p F.PRT_POISON_RX t.header).aerLog p 12 t.header) s1
      if s2.acsRefuses p t then
        (let s3 := s2.aerLog p 21 t.header
         if tlpNonPosted t.kind then s3.emit (.ioCompletion p t.tag 1 []) else s3.bump (K.PRT_POSTED_DROPPED p))
      else if s2.noTracker true ∨ !s2.fab.waitIo.isEmpty then { s2 with fab := { s2.fab with waitIo := s2.fab.waitIo ++ [(p, t)] } } else s2.ioSubmit p t

/-- A CXL.io request that waited for a free tracker goes on (R20 step 1). -/
def State.ioWaiting (s : State) : Option State :=
  match s.fab.waitIo with
  | [] => none
  | (p, t) :: rest => if s.noTracker true then none else some (({ s with fab := { s.fab with waitIo := rest } } : State).ioSubmit p t)

/-- A CXL.cache message (R150, R163): in a direct binding it passes between the host and the device on the vPPB it names, elsewhere it is a violation. -/
def State.cxlCache (s : State) (p vppb : Nat) (payload : List Byte) : State :=
  if 64 ≤ p ∨ s.role p = 0 ∨ s.role p = 3 ∨ !s.linkUp p ∨ s.insecure p then s else
  let q := if s.role p = 2 then ((s.boundTo p).map (·.1)).getD 64 else if 2 ≤ vppb ∧ vppb ≤ 7 then s.rd (K.PRT_VPPB_BIND p (vppb - 2)) else 64
  let device := if s.role p = 2 then p else q
  if 64 ≤ q ∨ !(s.port device).cacheDevice ∨ !bit (s.rd (K.PRT_CXL_ENABLE p)) 2 then s.portViolation p F.PRT_CXL_PROTOCOL []
  else if !s.linkUp q ∨ s.insecure q then s.bump (K.PRT_POSTED_DROPPED q)
  else s.emit (.ioTlp q { kind := .message, address := 0, length := payload.length, tag := 0, header := [], payload := payload, flaw := .none, ld := 0 })

/-! ### The debug master (R261) -/

/-- The pieces of an access of the debug master (R171): whole lines up to 8,192 octets, and parts of a line; with their lengths. -/
def debugPieces (write : Bool) : Nat → Nat → Nat → List (Nat × Nat)
  | 0, _, _ => []
  | k + 1, a, n =>
    if n = 0 then [] else
    let m := if write ∧ (a % 64 ≠ 0 ∨ n < 64) then min n (64 - a % 64) else if write then min (n / 64 * 64) 8192 else min n (8192 - a % 64)
    (a, m) :: debugPieces write k (a + m) (n - m)

/-- DEBUG_MASTER_ACCESS: an ordinary initiator with DEBUG 1 and fold 0.  Gatepost decides the access as a whole; it leaves in pieces of whole lines, or
as partial writes of a line (R171).  In the Pinfold state Loom is stopped (R111). -/
def State.debugAccess (s : State) (write : Bool) (target a len : Nat) (data : List Byte) : State :=
  let n := if write then data.length else len
  let who : Initiator := { debug := true, device := s.device }
  let need := if write then permWrite else permRead
  let kind := if !write then 1 else if a % 64 = 0 ∧ n % 64 = 0 then 2 else 3
  if n = 0 ∨ s.inPinfold ∨ s.rd K.HRD_PADS_HELD ≠ 0 then s else
  match s.gtpDenied who target a n need with
  | some d => (s.gtpViolation who target a n kind need false d).emit (.debugData [] true)
  | none => forEach (debugPieces write (n / 64 + 2) a n) (fun s e =>
    if s.noTracker false then s else
    let at_ := e.1 / 64 * 64
    let lines := 64 * ceilDiv (e.1 % 64 + e.2) 64
    let part := write && e.2 % 64 != 0
    let be := (2 ^ e.2 - 1) * 2 ^ (e.1 % 64)
    s.submit { tag := 0, origin := .debug (e.1 % 64) e.2, op := if !write then .read else if part then .partialWrite else .write, target := target
               addr := if write then e.1 else at_, len := if write then e.2 else lines, data := if write then slice data (e.1 - a) e.2 else []
               be := if part then be else 2 ^ 64 - 1, who := who, need := need, kind := if part then 3 else if write then 2 else 1
               wire := if !write then 0x401 else if part then 0x403 else 0x402
               extension := if !write then lines else if part then be else 0, coherent := true, shared := s.sharedAt target e.1 } false) s

/-! ### Loom: on-chip sources, start, refill (R201, R205 to R211, R216) -/

/-- ON_CHIP_RESERVE_WAIT: the first message that waits at a source and finds room there is admitted (R201, R279). -/
def State.reserveWait (s : State) (g : Nat) : State :=
  match (s.fab.loom.msgs.filter (fun x => x.place == .source && x.ingress == g)).find? (fun x => s.chargeFor x != .reserve || !s.reserveFull x) with
  | none => s
  | some x =>
    let ch := s.chargeFor x
    let a := s.allocCells { x with charge := ch, at_ := s.clk.dtc, place := .queue }
    let x1 := a.1
    let s1 := when (ch == .shared) (·.creditBack x1) ((a.2.moveMsg x1).sample 0 x1)
    match x.track.bind s1.tracker with
    | some t => if x.response ∨ t.need = 0 ∨ t.passed then s1.linkNew x1 else s1.pass x1 t
    | none => s1.linkQueue x1

/-- Cells of the messages that have started toward a gang, whose room in its staging is taken (R205). -/
def State.stagedCells (s : State) (g : Nat) : Nat := s.cellsWhere (fun x => (x.place == .staged || decide (0 < x.sent)) && x.egress == g)

/-- The credits of a Twill egress that a message needs are there (R176). -/
def twillCredit (l : TwillLink) (c dcnt : Nat) : Bool :=
  decide ((l.consumedH.getD c 0 + 4096 - l.returnedH.getD c 0) % 4096 + 1 ≤ l.txAdvH.getD c 0)
    && decide ((l.consumedD.getD c 0 + 65536 - l.returnedD.getD c 0) % 65536 + dcnt ≤ l.txAdvD.getD c 0)

/-- Consume the egress credits of a message; none where they are missing (R176, R205). -/
def State.takeCredit (s : State) (g : Nat) (x : LMsg) : Option State :=
  if 64 ≤ g then some s
  else if s.role g = 3 then
    let l := s.link g
    let c := x.cls
    let n := (twillForm x).dcnt
    if !s.linkUp g ∨ !twillCredit l c n then none else
    some (s.putLink g { l with
      consumedH := l.consumedH.set c ((l.consumedH.getD c 0 + 1) % 4096)
      consumedD := l.consumedD.set c ((l.consumedD.getD c 0 + n) % 65536) })
  else if !s.linkUp g then none
  else
    let p := s.port g
    let ch := channelOf s x true
    let c := Sparse.get (fun _ => (0, 0)) p.credits ch
    let need := creditCost s x
    if c.1 < need.1 ∨ c.2 < need.2 then none else
    some (s.putPort g { p with credits := Sparse.set (fun _ => (0, 0)) p.credits ch (c.1 - need.1, c.2 - need.2) })

/-- The congestion mark of a message that starts toward a Twill egress, where the link's common capabilities have bit 2 (R187, R190, R211). -/
def State.mark (s : State) (g c : Nat) (x : LMsg) : LMsg × State :=
  if g < 64 ∧ s.role g = 3 ∧ bit (s.rd (K.TWL_CAPS_COMMON g)) 2 ∧ bit (s.rd K.LOM_MARKABLE) c ∧ 1 ≤ c ∧ s.rd (K.LOM_MARK_THRESHOLD (c - 1)) ≤ s.queueCells g c then
    ({ x with m := { x.m with cm := true } }, s.bump K.LOM_MARKS_SET)
  else (x, s)

/-- The staging cells that a message may fill: 64 of a downstream egress are kept for the writes that Bellwether makes for answers (R205, R291). -/
def State.stagingRoom (s : State) (x : LMsg) : Nat :=
  256 * s.gangWidth x.egress - (if s.role x.egress = 2 ∧ x.egress < 64 ∧ !((x.track.bind s.tracker).any (fun t => t.origin == .own)) then 64 else 0)

/-- The memory writes of Bellwether's reserved path take the staging cells kept for them as their credits and the room allow (R205, R291). -/
def State.writePathSweep (s : State) : State :=
  forEach (s.fab.loom.msgs.filter (fun x => x.place == .writePath)) (fun s x =>
    if 256 * s.gangWidth x.egress < s.stagedCells x.egress + x.cells then s else
    match s.takeCredit x.egress x with
    | some s1 => s1.moveMsg { x with place := .staged, sent := x.cells }
    | none => s) s

/-- The head of a queue may start (R205, R206): staging has room for it, its credits are there, and its last cell is written or its output cuts through. -/
def State.mayStart (s : State) (x : LMsg) : Bool :=
  (x.written || x.cut) && decide (s.stagedCells x.egress + x.cells ≤ s.stagingRoom x) && (s.takeCredit x.egress x).isSome

/-! ### The scheduler (R208) -/

/-- The crossbar input by which cell `i` of a message enters (R196). -/
def State.inputOf (s : State) (x : LMsg) (i : Nat) : Nat := x.ingress + (x.cell0 + i) % s.gangWidth x.ingress

/-- Where a queue stands among an input's requesters, or a class among a gang's, from a pointer on (R208). -/
def turnOf (n ptr i : Nat) : Nat := (i + n - ptr) % n

/-- The first of the least elements of a list by a measure. -/
def leastBy {α : Type} (f : α → Nat) (l : List α) : Option α :=
  l.foldl (fun b x => match b with
    | none => some x
    | some y => if f x < f y then some x else some y) none

/-- A cell that asks to cross: its output gang and class, its message, its place there, and the input that holds it. -/
structure CellAsk where
  gang : Nat
  cls : Nat
  id : Nat
  idx : Nat
  input : Nat
deriving DecidableEq, Repr

/-- A cell time in progress: the cells matched so far, in order, and the pointers. -/
structure CellTime where
  done : List CellAsk := []
  grantPtr : List (Nat × Nat)
  acceptPtr : List (Nat × Nat)
deriving DecidableEq, Repr

/-- The cells that a gang accepts in a cell time: one on each crossbar port, and half of that for Commons while one of its dies is too hot (R196, R472). -/
def State.acceptsCells (s : State) (g : Nat) : Nat := if g = 64 ∧ !s.cmn.hot.isEmpty then s.gangWidth g / 2 else s.gangWidth g

/-- The cells that a gang can still accept in a cell time. -/
def State.freePorts (s : State) (t : CellTime) (g : Nat) : Nat := s.acceptsCells g - (t.done.filter (fun a => a.gang == g)).length

/-- The cells of a message that are written: all of them, or the header cell alone (R206). -/
def LMsg.cellsIn (x : LMsg) : Nat := if x.written then x.cells else 1

/-- The cells that queue (g, c) asks with: those of started messages first, then those of the head message where it may start and new messages may, up to
the first that is not written or for which no port of the gang is free. -/
def State.cellAsks (s : State) (fresh : Bool) (t : CellTime) (g c : Nat) : List CellAsk :=
  let q := s.queueOf .queue g c
  let started := q.filter (fun x => decide (0 < x.sent))
  let next := if fresh && started.all (·.written) then ((q.find? (fun x => x.sent == 0)).filter s.mayStart).toList else []
  let cells := (started ++ next).flatMap (fun x => ((List.range x.cellsIn).drop x.sent).map (fun i =>
    ({ gang := g, cls := c, id := x.id, idx := i, input := s.inputOf x i } : CellAsk)))
  (cells.filter (fun a => !t.done.contains a)).take (s.freePorts t g)

/-- The gangs and classes with a queue. -/
def State.queues (s : State) : List (Nat × Nat) :=
  ((s.fab.loom.msgs.filter (fun x => x.place == .queue)).map (fun x => (x.egress, x.cls))).eraseDups

/-- One iteration of a cell time: requests, grants of the inputs not yet matched, acceptance by the gangs, and the pointers. -/
def State.matchOnce (s : State) (fresh : Bool) (t : CellTime) : CellTime :=
  let asks := s.queues.flatMap (fun e => s.cellAsks fresh t e.1 e.2)
  let inputs := (asks.map (·.input)).eraseDups.filter (fun i => !t.done.any (fun a => a.input == i))
  let granted := inputs.filterMap (fun i =>
    leastBy (fun a => turnOf 640 (Sparse.get (fun _ => 0) t.grantPtr i) (8 * a.gang + a.cls)) (asks.filter (fun a => a.input == i)))
  (s.queues.map (·.1)).eraseDups.foldl (fun (t : CellTime) g =>
    let ap := Sparse.get (fun _ => 0) t.acceptPtr g
    ((List.range 8).map (fun i => (ap + i) % 8)).foldl (fun (t : CellTime) c =>
      let l := ((asks.filter (fun a => a.gang == g && a.cls == c)).takeWhile granted.contains).take (s.freePorts t g)
      if l.isEmpty then t else
      { done := t.done ++ l
        grantPtr := l.foldl (fun p a => Sparse.set (fun _ => 0) p a.input ((8 * g + c + 1) % 640)) t.grantPtr
        acceptPtr := Sparse.set (fun _ => 0) t.acceptPtr g ((c + 1) % 8) }) t) t

/-- The match of a cell time: three iterations; `fresh` where messages may start in it. -/
def State.matched (s : State) (fresh : Bool) : CellTime :=
  let l := s.fab.loom
  s.matchOnce fresh (s.matchOnce fresh (s.matchOnce fresh { grantPtr := l.grantPtr, acceptPtr := l.acceptPtr }))

/-- `n` cells of a message cross: one that starts consumes its credits and is marked and sampled (R205, R211, R219); with its last cell it is staged. -/
def State.cross (s : State) (x : LMsg) (n : Nat) : State :=
  let start := if x.sent = 0 then (s.takeCredit x.egress x).map (fun s => s.mark x.egress x.cls x) else some (x, s)
  match start with
  | none => s
  | some (y, s1) =>
    let s2 := (when (x.sent == 0) (·.sample 1 y) s1).countN 0x4001 x.egress n
    let z := { y with sent := y.sent + n }
    if z.cells ≤ z.sent then s2.moveMsg { z with place := .staged } else
    { s2 with fab := { s2.fab with loom := { s2.fab.loom with msgs := s2.fab.loom.msgs.map (fun m => if m.id = z.id then z else m) } } }

/-- A cell time: the matched cells cross, and the pointers move (R27, R208). -/
def State.cellTime (s : State) (fresh : Bool) : State :=
  let t := s.matched fresh
  let s1 : State := { s with fab := { s.fab with loom := { s.fab.loom with grantPtr := t.grantPtr, acceptPtr := t.acceptPtr } } }
  forEach ((t.done.map (·.id)).eraseDups) (fun s id => match s.msg id with
    | some x => s.cross x (t.done.filter (fun a => a.id == id)).length
    | none => s) s1

/-- The messages that have started go on, cell time by cell time, as far as their cells are written. -/
def State.crossOn (s : State) : Nat → State
  | 0 => s
  | n + 1 => if (s.matched false).done.isEmpty then s else (s.cellTime false).crossOn n

/-- MESSAGE_START: a cell time of the scheduler in which the head of queue (g, c) starts (R205 to R208); the cells of the messages that have started cross
in the cell times that follow. -/
def State.messageStart (s : State) (g c : Nat) : State :=
  if !(s.matched true).done.any (fun a => a.gang == g && a.cls == c && a.idx == 0) then s else
  (s.cellTime true).crossOn (s.fab.loom.msgs.foldl (fun n x => n + x.cells) 0)

/-- The oldest spilled message of an output, where it would pass R201 step 2 (R216). -/
def State.refillHead (s : State) (g : Nat) : Option LMsg :=
  match s.queueOf .store g 7 with
  | [] => none
  | x :: _ => if x.written ∧ s.chargeFor x = .shared then some x else none

/-- The output whose turn it is to be refilled (R216). -/
def State.refillTurn (s : State) : Option Nat := rotFind (fun g => (s.refillHead g).isSome) 80 s.fab.loom.refillPtr

/-- REFILL: the oldest spilled message of the output whose turn it is returns, read from the store and charged to the shared pool, at the tail of its
queue (R216). -/
def State.refill (s : State) (g : Nat) : State :=
  if s.refillTurn ≠ some g then s else
  match s.refillHead g with
  | none => s
  | some x =>
    let parts := s.chainParts (s.chain g) x.chainAt x.cells
    match s.storeDenied parts permRead 1 with
    | some s1 => s1
    | none =>
      let r := parts.foldl (fun (r : List Byte × Bool × State) e =>
        let v := r.2.2.cmnRead e.1 (64 * e.2)
        (r.1 ++ v.1, r.2.1 || v.2.1, v.2.2)) ([], false, s)
      let s1 : State := { r.2.2 with fab := { r.2.2.fab with loom := { r.2.2.fab.loom with refillPtr := (g + 1) % 80 } } }
      let y : LMsg := { x with m := { x.m with data := (r.1.drop 64).take x.m.data.length, poisoned := x.m.poisoned || r.2.1 }, charge := .shared }
      let a := (s1.unchain x).allocCells { y with place := .queue }
      a.2.enqueue a.1

/-! ### Commons at work (R336, R408, R412) -/

/-- A request reaches Commons: it is performed and answered. -/
def State.commonsAccess (s : State) (t : Tracker) (poison : Bool) : State :=
  let n := max 1 t.len
  if !cmnFits t.addr n then (s.cmnRangeError).completeError t 2 else
  match t.op with
  | .atomic | .atomicCoh =>
    if !atomicOk t.extension t.addr then s.completeError t 1 else
    let size := 2 ^ bits t.extension 15 8
    let r := s.cmnRead t.addr size
    if r.2.1 then (r.2.2.bump K.CMN_POISON_WRITES).completeError t 6 else
    let old := leNat r.1
    let v := atomicNew (bits t.extension 7 0) size old (field t.data 0 8) (field t.data 8 8)
    ((r.2.2.cmnWrite t.addr (leBytes size v) allBytes).2).completeOk t (fit 64 (leBytes size old)) false
  | .write | .partialWrite | .wrInv | .wrInvPartial | .writeback | .io =>
    if t.op = .io ∧ t.data.isEmpty then
      let r := s.cmnRead t.addr n
      r.2.2.completeOk t r.1 r.2.1
    else
      let w := s.cmnWrite t.addr t.data t.enables
      let s1 := if poison then forEach (linesOf t.addr t.data.length) (fun s l => s.poisonLine (64 * l)) w.2 else w.2
      match w.1 with
      | none => s1.completeOk t [] false
      | some l =>
        let s2 := match t.who.port with
          | some p => when t.isHostWrite (fun s => (s.bump (K.PRT_POSTED_DROPPED p)).mediaEvent t.fold l) s1
          | none => s1
        s2.completeError t 6
  | .memInv | .evict => s.completeOk t [] false
  | _ =>
    let r := s.cmnRead t.addr n
    r.2.2.completeOk t r.1 r.2.1

/-! ### Croft's own endpoint (R437) -/

/-- The number of an execution unit: threads 0 to 511, Croft cores 512 to 515. -/
def unitNum : ExecUnit → Nat
  | .thread n => n
  | .croft c => 512 + c

/-- A thread. -/
def State.thread (s : State) (u : Nat) : Thread := Sparse.get (fun _ => {}) s.drv.threads u

/-- The image of a slot. -/
def State.image (s : State) (slot : Nat) : List Byte := Sparse.get (fun _ => []) s.drv.images slot

/-- A field of an image's header. -/
def State.header (s : State) (slot off len : Nat) : Nat := field (s.image slot) off len

/-- The unit runs privileged code: a Croft core, or a program whose FLAGS bit 2 is set (R338, R350). -/
def State.privileged (s : State) (u : Nat) : Bool := 512 ≤ u || bit (s.header (s.thread u).prog 6 2) 2

/-- The word that a request at local endpoint 0 names: of an engine's message that of its FRD or FWR, whose message may cover the whole line (R339).
DEDUCED: the registers are accessed as words, so the register reached is the one that the operation names, not all those of its line. -/
def State.croftWord (s : State) (t : Tracker) : Option Nat :=
  match t.origin with
  | .engine x h =>
    match (s.thread (unitNum x)).ops.find? (fun o => o.handle == h / 1024) with
    | some o => if o.kind ≤ 1 ∧ o.len = 4 then some o.remote else none
    | none => none
  | _ => none

/-- A request at local endpoint 0: privileged engine code reaches the CIC's registers there (R338, R437); any other access reads 0, has no effect and
is counted. -/
def State.croftAccess (s : State) (t : Tracker) : State :=
  let base := 0xF000000000
  let bad := fun (s : State) => (s.bump K.CRF_CIC_BAD_COMPLETE).completeOk t (if t.writes then [] else zeros t.len) false
  match t.origin, s.croftWord t with
  | .engine (.thread u) _, some a =>
    let off := a - base
    if a < base ∨ 0x5400 ≤ off ∨ !s.privileged u then bad s
    else if t.writes then
      match s.cicWrite (4 + u / 32) off (leNat t.data) with
      | some s1 => s1.completeOk t [] false
      | none => bad s
    else match s.cicRead (4 + u / 32) off with
      | some (v, s1) => s1.completeOk t (fit t.len (zeros (a - t.addr) ++ leBytes 4 v)) false
      | none => bad s
  | _, _ => bad s

/-! ### Transmission (R205, R207, R209) -/

/-- A response reaches an upstream or downstream port. -/
def State.portAnswer (s : State) (p : Nat) (x : LMsg) : State :=
  let up := s.role p == 1
  if x.cls = 5 ∨ x.m.opcode = 2 then
    s.emit (.ioCompletion p x.m.tag (if x.m.status = 0 then 0 else 1) x.m.data)
  else if x.cls = 3 then s.emit (.hostData p x.m.tag x.m.data x.m.poisoned (if up then x.grant else 0))
  else s.emit (.hostCmp p x.m.tag (if up then x.grant else 0))

/-- A TLP with the tag of the tracker that awaits its completion. -/
def tlpRetag (t : Tlp) (tag : Nat) : Tlp := { t with tag := tag, header := t.header.set 6 (BitVec.ofNat 8 tag) }

/-- A request leaves on a PCIe or CXL port: its tracker is timed from here (R159); a posted one is done. -/
def State.portSend (s : State) (p : Nat) (x : LMsg) : State :=
  let s1 := match x.tlp with
    | some t => s.emit (.ioTlp p (if tlpNonPosted t.kind then tlpRetag t x.m.tag else t))
    | none => s.emit (.portRequest p x.m.tag (s.ldOf p (x.m.dst % 256))
        (if x.m.tc = 4 ∧ x.m.opcode = 3 then x.m.addr / 64 * 64 else x.m.addr) (!x.m.data.isEmpty) x.m.poisoned
        (((x.track.bind s.tracker).map (·.be)).getD (2 ^ 64 - 1)) x.m.data)
  match x.track.bind s1.tracker with
  | none => s1
  | some t =>
    if t.posted then s1.completeOk t [] false
    else s1.putTracker { t with sentAt := some s1.clk.dtc }

/-- The slots of a message's octets (R169). -/
def msgSlots (m : TwillMsg) : List Byte := headerBytes m ++ fit (64 * m.dcnt) m.data

/-- A cell of a slice with an uncorrectable error is retired (R36). -/
def State.retireCell (s : State) (slice : Nat) : State :=
  { s with fab := { s.fab with loom := { s.fab.loom with
    retired := Sparse.set (fun _ => 0) s.fab.loom.retired slice (Sparse.get (fun _ => 0) s.fab.loom.retired slice + 1) } } }

/-- A cell with an uncorrectable error: counted, recorded, retired (R36, R207). -/
def State.cellLost (s : State) (slice : Nat) : State :=
  (((s.bump K.LOM_CELL_ECC_UNCORRECTABLE).raiseGrave F.LOM_CELL_ECC (elem 11 slice)).cicRaise 0x101).retireCell slice

/-- The slice of the first data cell of a message. -/
def LMsg.dataSlice (x : LMsg) : Nat := ((List.range 8).map (fun i => (x.slice + 1 + i) % 8)).find? (bit x.slices) |>.getD x.slice

/-- The transit tracker of a message that only passes through this device (R183). -/
def State.transitOf (s : State) (x : LMsg) : Option Tracker :=
  s.fab.transit.find? (fun t => t.egress == x.egress && (match t.origin with
    | .twill _ src tag => src == x.m.src && tag == x.m.tag
    | _ => false))

/-- A message in transit whose data is lost: its requester is told POISONED, and the tracker goes (R207). -/
def State.transitLost (s : State) (t : Tracker) : State :=
  match t.origin with
  | .twill p src tag =>
    let s1 : State := { s with fab := { s.fab with transit := s.fab.transit.filter (fun x => x != t) } }
    let r := s1.stampRs { mkMsg (s.device * 256) src 2 1 tag with status := 6, hops := s.rd K.TWL_HOP_LIMIT }
    r.2.sendMsg { id := 0, place := .queue, m := r.1, ingress := 79, egress := (s1.gangFor r.1).getD p, response := true }
  | _ => s

/-- The tracker of a response that was lost stands again until it times out; what it counted was counted (R159, R207). -/
def State.revive (s : State) (t : Tracker) : State :=
  if (s.tracker t.tag).isSome then s else
  { s with fab := { s.fab with trackers := s.fab.trackers ++ [{ t with epoch := none, charged := false, owed := none, owedCharge := none }] } }

/-- A message with cells that the checkers found bad (R207): what is sent of it, if anything.  DESIGN CHOICE: a tracker whose request never left on a port
times out by the port at which its requester stands. -/
def State.cellFound (s : State) (x : LMsg) (f : Finding) : Option LMsg × State :=
  match f with
  | .corrected => (some x, ((s.bump K.LOM_CELL_ECC_CORRECTED).raise F.LOM_CELL_ECC (elem 11 x.slice)).cicRaise 0x101)
  | .badData =>
    if x.m.data.isEmpty then (some x, s) else
    let s1 := s.cellLost x.dataSlice
    if x.response then (some { x with m := { x.m with status := if x.m.status = 0 then 6 else x.m.status, poisoned := true } }, s1)
    else (none, match x.track.bind s1.tracker, s1.transitOf x with
      | some t, _ =>
        let s2 := match t.who.port with
          | some p => when (t.isHostWrite || t.posted) (·.bump (K.PRT_POSTED_DROPPED p)) s1
          | none => s1
        if t.posted then s2.releaseTracker t else (when t.isHostWrite (·.mediaEvent t.fold t.addr) s2).completeError t 6
      | none, some t => s1.transitLost t
      | none, none => s1)
  | .badHeader =>
    let s1 := s.cellLost x.slice
    let at_ := fun (t : Tracker) => if t.egress < 64 then t.egress else if x.response then x.egress else t.ingress
    let now := fun (t : Tracker) => { t with sentAt := some (t.sentAt.getD s1.clk.dtc), egress := at_ t }
    if x.response then (none, match x.answers with
      | some t => s1.revive (now t)
      | none => s1)
    else (none, match x.track.bind s1.tracker, s1.transitOf x with
      | some t, _ => s1.putTracker (now t)
      | none, some t => { s1 with fab := { s1.fab with transit := s1.fab.transit.map (fun y => if y = t then now t else y) } }
      | none, none => s1)
  | _ => (some x, s)

/-- Deliver a message to an on-chip gang or a PCIe or CXL port. -/
def State.deliver (s : State) (g : Nat) (x : LMsg) (f : Finding) : State :=
  let s1 := when (x.m.cm && x.m.dst / 256 == s.device && bit (s.rd K.LOM_MARKABLE) x.cls)
    (fun s => (s.bump (K.LOM_MARKS_RX x.cls)).count 0x4002 (x.m.dst % 256)) s
  if g < 64 then (if x.response then s1.portAnswer g x else s1.portSend g x)
  else if x.response then
    if g = 72 then match x.dest with
      | some (u, h) => { s1 with fab := { s1.fab with resumed := s1.fab.resumed ++ [.engine u h x.m.status x.m.data] } }
      | none => s1
    else s1
  else if g = 79 ∧ x.cls = 0 then { s1 with fab := { s1.fab with resumed := s1.fab.resumed ++ [.arrived x] } }
  else match x.track.bind s1.tracker with
    | none => s1
    | some t =>
      if g = 64 then
        let s2 := match f with
          | .line l k => if (linesOf t.addr (max 1 t.len)).contains l then s1.cmnEcc l k else s1
          | _ => s1
        s2.commonsAccess t x.m.poisoned
      else if g = 79 ∧ 2 ≤ x.cls then s1.croftAccess t
      else s1.completeError t 1

/-! ### Slices (R221) -/

/-- A slice is fenced (R221): the messages with a cell in it are handled as for an uncorrectable error; new cells rotate over the other slices. -/
def State.sliceFence (s : State) (n : Nat) : State :=
  if 8 ≤ n ∨ bit (s.rd K.LOM_SLICES_FENCED) n then s else
  let s1 := ((s.wrBit K.LOM_SLICES_FENCED n true).loomSync).cicRaise 0x100
  let hit := s1.fab.loom.msgs.filter (fun x => x.buffered && bit x.slices n)
  forEach hit (fun s x =>
    let r := s.cellFound x (if x.slice = n then .badHeader else .badData)
    match r.1 with
    | none => r.2.dropMsg x.id
    | some y => { r.2 with fab := { r.2.fab with loom := { r.2.fab.loom with
        msgs := r.2.fab.loom.msgs.map (fun z => if z.id = x.id then y else z) } } }) s1

/-- LOM_SLICE: a slice fails and is fenced. -/
def State.sliceFail (s : State) (n : Nat) : State :=
  if 8 ≤ n ∨ bit (s.rd K.LOM_SLICES_FENCED) n then s else (s.sliceFence n).raise F.LOM_SLICE (elem 11 n)

/-- LOM_RESEQ_SKIP: the gap timer of a flow reaches its limit (R214). -/
def State.gapSkip (s : State) (src ep c : Nat) : State :=
  match s.flowAt (flowKey src ep c) with
  | some f => match f.gapAt with
    | some a => if a + s.rd K.LOM_RESEQ_SKIP ≤ s.clk.dtc then s.reseqSkip (flowKey src ep c) else s
    | none => s
  | none => s

/-- FLOW_IDLE: a flow that holds nothing and received nothing for 1 ms becomes idle (R214). -/
def State.flowIdle (s : State) (src ep c : Nat) : State :=
  let k := flowKey src ep c
  match s.flowAt k with
  | some f =>
    if (s.heldOf k).isEmpty ∧ f.usedAt + 1000000 ≤ s.clk.dtc then
      { s with fab := { s.fab with loom := { s.fab.loom with flows := Sparse.erase k s.fab.loom.flows } } }
    else s
  | none => s

end Sys2Proof.Machine
end

