-- ==== Sys2Proof/Machine/Twill.lean ====
section
/-! DEFINITION. Twill: flits, FEC and CRC, control messages, credits, replay, training, planned retrain, and the messages that arrive over a Twill
link (R165 to R194, R269, R270). -/

namespace Sys2Proof.Machine

/-! ### Flits (R165 to R169) -/

/-- A product in GF(2^8) modulo x^8 + x^4 + x^3 + x^2 + 1, over the `n` low bits of the second factor (R166). -/
def gfMul : Nat → Nat → Nat → Nat
  | 0, _, _ => 0
  | n + 1, a, b =>
    let r := gfMul n (if 128 ≤ a then (a * 2 % 256).xor 0x1D else a * 2) (b / 2)
    if b % 2 = 1 then r.xor a else r

/-- α^n (R166). -/
def gfPow : Nat → Nat
  | 0 => 1
  | n + 1 => gfMul 8 (gfPow n) 2

/-- The value of a codeword, first symbol of the highest degree, at a point. -/
def gfEval (l : List Nat) (x : Nat) : Nat := l.foldl (fun v c => (gfMul 8 v x).xor c) 0

/-- The three check symbols of 61 message symbols: the remainder by the generator x^3 + 7 x^2 + 14 x + 8 with the roots α^0, α^1, α^2. -/
def rsCheck (l : List Nat) : Nat × Nat × Nat :=
  l.foldl (fun r c =>
    let f := c.xor r.1
    ((r.2.1).xor (gfMul 8 f 7), (r.2.2).xor (gfMul 8 f 14), gfMul 8 f 8)) (0, 0, 0)

/-- Codeword `j` of a flit: its bytes i with i mod 4 = j. -/
def codeword (f : List Byte) (j : Nat) : List Nat := (List.range 64).map (fun i => (f.getD (4 * i + j) 0).toNat)

/-- Correct one symbol of a codeword (R166): none if it is uncorrectable, else the position and pattern of the error, if any. -/
def rsFix (c : List Nat) : Option (Option (Nat × Nat)) :=
  let s0 := gfEval c 1
  let s1 := gfEval c 2
  let s2 := gfEval c 4
  if s0 = 0 ∧ s1 = 0 ∧ s2 = 0 then some none
  else match (List.range 64).find? (fun k => gfMul 8 s0 (gfPow (63 - k)) == s1 && gfMul 8 s1 (gfPow (63 - k)) == s2) with
    | some k => if s0 = 0 then none else some (some (k, s0))
    | none => none

/-- FEC correction of a flit: the corrected octets, how many codewords were corrected, and whether one was beyond correction. -/
def fecDecode (f : List Byte) : List Byte × Nat × Bool :=
  [0, 1, 2, 3].foldl (fun (r : List Byte × Nat × Bool) j =>
    match rsFix (codeword f j) with
    | none => (r.1, r.2.1, true)
    | some none => r
    | some (some (k, e)) =>
      (r.1.set (4 * k + j) (BitVec.ofNat 8 ((f.getD (4 * k + j) 0).toNat.xor e)), r.2.1 + 1, r.2.2)) (f, 0, false)

/-- One bit of CRC-64, most significant first (R167). -/
def crc64Bit (c : Nat) : Nat :=
  let d := c * 2 % 2 ^ 64
  if 2 ^ 63 ≤ c then d.xor 0x42F0E1EBA9EA3693 else d

/-- The CRC of a flit's bytes 0 to 235 (R167). -/
def crc64 (l : List Byte) : Nat :=
  (l.foldl (fun c b => (List.range 8).foldl (fun c _ => crc64Bit c) (c.xor (b.toNat * 2 ^ 56))) (2 ^ 64 - 1)).xor (2 ^ 64 - 1)

/-- A flit from its header word and its slots (R165 to R168). -/
def makeFlit (header : Nat) (slots : List Byte) : List Byte :=
  let body := leBytes 4 header ++ fit 232 slots
  let c := body ++ leBytes 8 (crc64 body)
  let chk := [0, 1, 2, 3].map (fun j => rsCheck (((List.range 61).map (fun i => (c.getD (4 * i + j) 0).toNat))))
  c ++ chk.map (fun r => BitVec.ofNat 8 r.1) ++ chk.map (fun r => BitVec.ofNat 8 r.2.1) ++ chk.map (fun r => BitVec.ofNat 8 r.2.2)

/-- A DATA flit (R168). -/
def dataFlit (seq vc first : Nat) (slots : List Byte) : List Byte :=
  makeFlit (2 ^ 30 + seq % 4096 * 2 ^ 18 + vc % 8 * 2 ^ 15 + first % 32 * 2 ^ 10 + ceilDiv slots.length 8 * 2 ^ 5) slots

/-- A CTRL flit (R168). -/
def ctrlFlit (next : Nat) (slots : List Byte) : List Byte := makeFlit (next % 4096 * 2 ^ 18 + ceilDiv slots.length 8 * 2 ^ 5) slots

/-! ### Sending -/

/-- Send a control message in a CTRL flit (R169, R174): its octets are padded to whole slots. -/
def State.sendCtrl (s : State) (p ctype slots : Nat) (body : List Byte) : State :=
  s.sendFlit p (ctrlFlit (s.link p).seq (fit (8 * slots) (BitVec.ofNat 8 ctype :: body)))

/-- Send an ACK naming E − 1 (R179, R180). -/
def State.sendAck (s : State) (p : Nat) (nak : Bool) : State :=
  let l := s.link p
  (s.putLink p { l with unacked := 0, nak := l.nak || nak }).sendCtrl p 1 1 (leBytes 1 (b2n nak) ++ leBytes 2 ((l.expected + 4095) % 4096))

/-- Ask for a replay, unless a NAK is outstanding (R179). -/
def State.askReplay (s : State) (p : Nat) : State := if (s.link p).nak then s else s.sendAck p true

/-- Send a CREDIT with the cumulative counts (R174, R177). -/
def State.sendCredit (s : State) (p : Nat) : State :=
  let l := s.link p
  let words := (List.range 8).flatMap (fun c => leBytes 4 (l.rxBackD.getD c 0 % 65536 * 65536 + l.rxBackH.getD c 0 % 4096 * 16))
  (s.putLink p { l with creditAt := none, creditSent := s.clk.dtc }).sendCtrl p 2 5 (zeros 7 ++ words)

/-- Cut a message's octets into flit payloads of 29 slots. -/
def flitPieces : Nat → List Byte → List (List Byte)
  | 0, _ => []
  | _, [] => []
  | n + 1, l => l.take 232 :: flitPieces n (l.drop 232)

/-- A violation of a Twill partner (R193). -/
def State.twillViolation (s : State) (p src : Nat) (m : Option TwillMsg) : State :=
  let h := (m.map headerBytes).getD []
  (s.bump (K.TWL_VIOLATIONS p)).raiseD src (elemPort p) (s.rd (K.TWL_STATE p)) (field h 0 8) (field h 8 8)

/-- A violation that takes the link down (R181, R193). -/
def State.twillFraming (s : State) (p src : Nat) : State := (s.twillViolation p src none).healthDown p

/-- Send a message in DATA flits of its own, numbered and kept for replay (R168, R169, R178). -/
def State.sendData (s : State) (p : Nat) (m : TwillMsg) : State :=
  let pieces := flitPieces 40 (headerBytes m ++ fit (64 * m.dcnt) m.data)
  let r := pieces.foldl (fun (r : Nat × State) d =>
    let s := r.2
    let l := s.link p
    let f := dataFlit l.seq (m.tc % 8) (if r.1 = 0 then 0 else 31) d
    let s1 := s.putLink p { l with seq := (l.seq + 1) % 4096, replay := l.replay ++ [(l.seq, f)]
                                   ackedAt := if l.replay.isEmpty then s.clk.dtc else l.ackedAt }
    (r.1 + 1, (s1.sendFlit p f).count 0x3001 p)) (0, s)
  r.2.emit (.twill p m)

/-- A message leaves on a Twill port: its tracker is timed from here (R183, R184). -/
def State.twillSend (s : State) (p : Nat) (x : LMsg) : State :=
  let s1 := s.sendData p (twillForm x)
  let s2 : State := { s1 with fab := { s1.fab with transit := s1.fab.transit.map (fun t =>
    match t.origin with
    | .twill _ src tag => if t.egress = p ∧ src = x.m.src ∧ tag = x.m.tag ∧ t.sentAt.isNone ∧ !x.response then { t with sentAt := some s1.clk.dtc } else t
    | _ => t) } }
  match x.track.bind s2.tracker with
  | none => s2
  | some t => if t.posted then s2.completeOk t [] false else s2.putTracker { t with sentAt := some s2.clk.dtc }

/-- MESSAGE_TRANSMIT: the oldest staged message of a class leaves (R205, R207, R209).  A Twill port sends nothing new in a planned hold, nor beyond
its replay buffer of 1,024 flits (R178, R191). -/
def State.messageTransmit (s : State) (g c : Nat) (f : Finding) : State :=
  match s.queueOf .staged g c with
  | [] => s
  | x :: _ =>
    if !x.written then s else
    let twill := g < 64 && s.role g == 3
    let n := ceilDiv ((headerBytes x.m).length + 64 * (twillForm x).dcnt) 232
    if twill && (!s.linkUp g || bit (s.rd (K.TWL_STATE g)) 3 || decide (1024 < (s.link g).replay.length + n)) then s
    else if g < 64 && !s.linkUp g then s
    else
      let r := s.cellFound x f
      let s1 := r.2.dropMsg x.id
      match r.1 with
      | none => s1
      | some y => if twill then s1.twillSend g y else s1.deliver g y f

/-! ### Messages that arrive (R170 to R173, R183 to R187, R193, R244, R248, R269) -/

/-- The message that octets spell. -/
def parseMsg (b : List Byte) : TwillMsg :=
  let w0 := field b 0 8
  let w1 := field b 8 8
  let x := bit w0 26
  let st := bits w1 31 24
  { dst := bits w0 63 48, src := bits w0 47 32, tc := bits w0 31 29, cm := bit w0 28, rs := bit w0 27, ext := x, opcode := bits w0 23 16
    dcnt := bits w0 15 8, hops := bits w0 7 0, tag := bits w1 63 48, rseq := bits w1 47 32, status := st, fold := bits w1 23 14
    len := bits w1 13 0, addr := if x then field b 16 8 else 0, word3 := if x then field b 24 8 else 0
    data := b.drop (if x then 32 else 16), poisoned := st == 6 }

/-- The extension flag and the data units that an opcode of a class has: least and most (R172, R282). -/
def msgShape (tc op : Nat) : Option (Bool × Nat × Nat) :=
  match tc with
  | 0 => if op = 1 ∨ op = 2 then some (false, 0, 16) else none
  | 1 => if 1 ≤ op ∧ op ≤ 5 then some (true, 0, 0) else none
  | 2 => if op = 1 ∨ op = 2 ∨ (0x40 ≤ op ∧ op ≤ 0x47) then some (false, 0, 0) else none
  | 3 =>
    if op = 1 ∨ op = 0x44 then some (false, 1, 128)
    else if op = 2 then some (false, 1, 64)
    else if op = 0x48 then some (true, 1, 1)
    else if (0x40 ≤ op ∧ op ≤ 0x43) ∨ (0x49 ≤ op ∧ op ≤ 0x4B) then some (false, 1, 1)
    else none
  | 4 =>
    if op = 1 ∨ op = 0x40 ∨ op = 0x41 ∨ op = 0x42 ∨ op = 0x43 ∨ op = 0x47 then some (true, 0, 0)
    else if op = 2 ∨ op = 0x44 then some (true, 1, 128)
    else if op = 3 ∨ op = 4 ∨ op = 0x45 ∨ op = 0x46 then some (true, 1, 1)
    else none
  | 5 => if op = 1 then some (false, 1, 65) else none
  | _ => if op = 1 then some (true, 0, 0) else if op = 2 then some (true, 1, 128) else none

/-- The kind of a TLP by its first octet (the Fmt and Type fields of the base specification). -/
def tlpKindOf (b : Nat) : TlpKind :=
  let fmt := b / 32
  let ty := b % 32
  if ty = 0 then (if fmt = 2 ∨ fmt = 3 then .memWr else .memRd)
  else if ty = 0x0C then .atomicFetchAdd
  else if ty = 0x0D then .atomicSwap
  else if ty = 0x0E then .atomicCas
  else if ty = 0x0A then (if fmt = 2 then .cplD else .cpl)
  else if ty = 4 ∨ ty = 5 then (if fmt = 2 then .cfgWr .device (.other 0) 0 else .cfgRd .device (.other 0))
  else .message

/-- The TLP that an IO message carries (R172): the header of the base specification, big-endian, and the payload. -/
def tlpOf (d : List Byte) : Tlp :=
  let b0 := field d 0 1
  let h := if b0 / 32 % 2 = 1 then 16 else 12
  let dw := beNat (slice d 2 2) % 1024
  let k := tlpKindOf b0
  { kind := k, address := if h = 16 then beNat (slice d 8 8) / 4 * 4 else beNat (slice d 8 4) / 4 * 4, length := 4 * (if dw = 0 then 1024 else dw)
    tag := field d 6 1, header := d.take h, payload := d.drop h, flaw := .none, ld := 0 }

/-- The message is a request that expects an answer (R172, R282). -/
def msgNonPosted (m : TwillMsg) : Bool :=
  match m.tc with
  | 0 => m.opcode != 2
  | 1 => true
  | 2 => false
  | 3 => m.opcode == 0x48
  | 5 => tlpNonPosted (tlpOf m.data).kind
  | _ => true

/-- Answer a message that arrived on a port with a CMP of a status (R173): by the route to its source, to the device's endpoint 0 where Bellwether is to receive
it (R269).  DESIGN CHOICE: without a route to the source the answer leaves by the port itself; R173 names no such case. -/
def State.msgStatus (s : State) (p : Nat) (m : TwillMsg) (status : Nat) : State :=
  if !msgNonPosted m then s else
  let dst := if m.tc = 4 ∧ 0x40 ≤ m.opcode then m.src / 256 * 256 else m.src
  let r := { mkMsg (s.device * 256 + m.dst % 256) dst 2 1 m.tag with status := status, hops := s.rd K.TWL_HOP_LIMIT }
  let e := s.stampRs r
  e.2.sendMsg { id := 0, place := .queue, m := e.1, ingress := 79, egress := (s.gangFor r).getD p, response := true }

/-- What arrived on a Twill port as a message of Loom. -/
def arrival (p : Nat) (m : TwillMsg) : LMsg := { id := 0, place := .queue, m := m, ingress := p, egress := 79 }

/-- A message that does not stay in Loom is admitted, charged and sampled, and leaves at once: its credits return (R177, R201, R219). -/
def State.passBy (s : State) (p : Nat) (m : TwillMsg) : State :=
  let a := s.admitMsg (arrival p m)
  if a.1.place = .source then (a.2.unlist a.1.id).creditBack a.1 else a.2.dropMsg a.1.id

/-- A DST that names no endpoint of this device, or has no route (R17, R193). -/
def State.noEndpoint (s : State) (p : Nat) (m : TwillMsg) : State :=
  let s1 := (s.bump (K.TWL_VIOLATIONS p)).decodeMiss none
  if msgNonPosted m then s1.msgStatus p m 2 else s1.bump (K.PRT_POSTED_DROPPED p)

/-- A message carries a TLP or the data of a completion. -/
def msgIsIo (m : TwillMsg) : Bool := m.tc == 5 || ((m.tc == 2 || m.tc == 3) && m.opcode == 2)

/-- A CXL.io message without the padding of its last unit: LEN is the length of its TLP, or of a completion's data (R170). -/
def ioCut (m : TwillMsg) : TwillMsg :=
  if msgIsIo m && decide (64 * m.dcnt < m.len + 64) && decide (m.len ≤ 64 * m.dcnt) then { m with data := m.data.take m.len } else m

/-- A message in transit as Loom holds it: a CXL.io TLP is repacked, its header beside its payload (R197). -/
def repacked (p g : Nat) (m : TwillMsg) : LMsg :=
  if m.tc = 5 then
    let t := tlpOf m.data
    { id := 0, place := .queue, m := { m with data := t.payload }, ingress := p, egress := g, tlp := some t }
  else { id := 0, place := .queue, m := m, ingress := p, egress := g }

/-- A message for another device (R183, R185, R186): forwarded with a transit tracker, or answered. -/
def State.transit (s : State) (p : Nat) (m : TwillMsg) : State :=
  let back := fun (s : State) => s.passBy p m
  if m.hops = 0 then ((back s).twillViolation p F.TWL_HOP_EXPIRED (some m)).msgStatus p m 5
  else match s.hopFor m with
    | none => (back s).noEndpoint p m
    | some g =>
      let m1 := { m with hops := m.hops - 1 }
      if msgNonPosted m then
        let t : Tracker := { tag := m.tag, origin := .twill p m.src m.tag, op := .read, target := m.dst, egress := g, ingress := p }
        let s1 : State := { s with fab := { s.fab with transit := s.fab.transit ++ [t] } }
        s1.sendMsg (repacked p g m1)
      else
        let mine := s.fab.transit.find? (fun t => match t.origin with | .twill _ src tag => src / 256 == m.dst / 256 && tag == m.tag | _ => false)
        match mine with
        | some t =>
          let s1 : State := { s with fab := { s.fab with transit := s.fab.transit.filter (fun x => x != t) } }
          if m.tc = 2 ∧ m.opcode = 1 ∧ m.status = 4 then (back s).failTransit t p
          else s1.sendMsg { id := 0, place := .queue, m := m1, ingress := p, egress := g, response := true }
        | none => s.sendMsg { repacked p g m1 with response := m1.tc == 2 || m1.tc == 3 }

/-- A response ends the source tracker that its TAG names (R173, R183, R193).  Its cells become those of the answer: `charge` says how they were charged,
where that is settled, and `credited` whether the partner has its credits (R201). -/
def State.twillAnswer (s0 : State) (p : Nat) (m : TwillMsg) (charge : Option Bool) : State :=
  let late := fun (s : State) => ((s.bump (K.TWL_LATE_RESPONSES p)).bump (K.TWL_VIOLATIONS p)).creditBack
    { arrival p m with credited := charge == some true }
  match s0.tracker m.tag with
  | none => late s0
  | some t0 =>
    let t : Tracker := { t0 with egress := p, owed := some (m.tc % 8, m.dcnt), owedCharge := charge }
    let s := if m.status = 4 then s0.creditBack { arrival p m with credited := charge == some true } else s0
    if t0.sentAt.isNone ∨ 64 ≤ t0.egress ∨ s.role t0.egress ≠ 3 then late s0
    else if m.status = 0 then s.completeOk t (m.data.take (if t.wantsData then max 1 t.len else m.data.length)) false
    else if m.status = 6 then
      if t.wantsData then s.completeOk t (fit (max 1 t.len) m.data) true
      else (when t.isHostWrite (·.mediaEvent t.fold t.addr) s).completeError t 6
    else if m.status = 4 then s.failSource t0 4
    else
      let v := s.meter t.fold
      let s1 := when (m.status == 3 && t.fold != 0) (·.putMeter t.fold { v with violations := v.violations + 1 }) s
      (when (t.isHostWrite && m.status != 3) (·.mediaEvent t.fold t.addr) s1).completeError t m.status

/-- The permissions and the KIND of a request that arrives over Twill (R255, R262). -/
def twillNeed (m : TwillMsg) : Nat × Nat :=
  match m.tc with
  | 4 => match m.opcode with
    | 1 => (permRead, 1)
    | 2 => (permWrite, 2)
    | 3 => (permWrite, 3)
    | 4 => (permAtomic, 4)
    | 0x40 => (permRead + permShare, 5)
    | 0x41 | 0x42 => (permRead + permWrite + permShare, 6)
    | 0x43 => (permRead, 1)
    | 0x44 => (permWrite, 2)
    | 0x45 => (permWrite, 3)
    | 0x46 => (permAtomic, 4)
    | 0x47 => (permRead, 1)
    | _ => (0, 0)
  | 5 => tlpNeed (tlpOf m.data).kind
  | 6 | 7 => if m.opcode = 1 then (permRead, 1) else (permWrite, 2)
  | _ => (0, 0)

/-- The operation of a request that arrives over Twill. -/
def twillOp (m : TwillMsg) : ReqOp :=
  match m.tc with
  | 4 => match m.opcode with
    | 2 => .write
    | 3 => .partialWrite
    | 4 => .atomic
    | 0x43 => .rdCur
    | 0x44 => .wrInv
    | 0x45 => .wrInvPartial
    | 0x46 => .atomicCoh
    | _ => .read
  | 5 => .io
  | _ => if m.opcode = 2 then .write else .read

/-- The length in bytes of a request that arrives over Twill (R171). -/
def twillLen (m : TwillMsg) : Nat :=
  match twillOp m with
  | .io => max 1 (tlpOf m.data).length
  | .write | .partialWrite | .wrInv | .wrInvPartial => 64 * m.dcnt
  | .atomic | .atomicCoh => 2 ^ bits m.word3 15 8
  | _ => max 64 (min 8192 (bits m.word3 15 0))

/-- A request for a local endpoint: the second check of Gatepost, then its gang, or Bellwether (R244, R248, R269, R283); `credited` where the
resequencer returned its credits. -/
def State.localRequest (s : State) (p : Nat) (m : TwillMsg) (credited : Bool) : State :=
  let back := fun (s : State) => if credited then s else s.passBy p m
  let io := m.tc == 5
  let tlp := tlpOf m.data
  let isPartial := twillOp m == .partialWrite || twillOp m == .wrInvPartial
  let addr := if io then tlp.address else if isPartial then m.addr / 64 * 64 else m.addr
  let len := twillLen m
  let who : Initiator := { port := some p, fold := m.fold, device := m.src / 256 }
  let need := twillNeed m
  let bw := m.tc == 4 && 0x40 ≤ m.opcode
  if bw && !s.isPeer (m.src / 256) then ((back s).blwViolation p F.BLW_PEER_UNKNOWN (elem 15 (m.src / 256)) m).msgStatus p m 1
  else match (if need.1 = 0 then none else s.gtpDenied who m.dst addr len need.1) with
  | some d => ((back s).gtpViolation who m.dst addr len need.2 need.1 true d).msgStatus p m 3
  | none =>
    if m.tc = 4 ∧ (m.opcode = 0x40 ∨ m.opcode = 0x41 ∨ m.opcode = 0x42 ∨ m.opcode = 0x47 ∨ (m.opcode = 0x43 ∧ len ≤ 64)) then
      (back s).blwAccept m.dst (m.addr / 64) p (.device p m)
    else
      let gone := !io && m.tc != 0 && s.capacityGone m.dst addr len
      match (if gone then none else s.localGang (m.dst % 256)) with
      | none =>
        let s1 := when (m.dst == s.device * 256 + 1 && gone) State.cmnRangeError (back s)
        if (s1.localGang (m.dst % 256)).isNone then s1.noEndpoint p m
        else if msgNonPosted m then s1.msgStatus p m 2 else s1.bump (K.PRT_POSTED_DROPPED p)
      | some g =>
        let np := msgNonPosted m
        let t : Tracker := { tag := 0, origin := .twill p m.src m.tag, op := twillOp m, fold := 0, target := m.dst, addr := addr, len := len
                             data := if io then tlp.payload else m.data, be := if isPartial then m.word3 else 2 ^ 64 - 1, ingress := p, egress := g
                             posted := !np, extension := m.word3, wire := m.tc * 256 + m.opcode, who := who, coherent := bw, shared := bw
                             tlp := if io then some tlp else none }
        let r := s.newTracker t
        match r.2.tracker r.1 with
        | none => s
        | some t1 =>
          let y : TwillMsg := { m with tag := if g < 64 then r.1 else m.tag, data := if io then tlp.payload else m.data, rs := m.rs && !bw, cm := m.cm && !bw }
          let x : LMsg := { id := 0, place := .queue, m := y
                            ingress := p, egress := g, track := some r.1, tlp := if io then some tlp else none, credited := credited }
          let a := r.2.admitMsg x
          if bw then a.2.release a.1 t1 else a.2.linkNew a.1

/-- A response that ends a source tracker: Loom carries it on as the answer (R173). -/
def State.plainResponse (s : State) (m : TwillMsg) : Bool := (m.tc == 2 || m.tc == 3) && decide (m.opcode < 0x40) && (s.snoopTxn m.tag).isNone

/-- A message of Bellwether or a response, for this device (R269, R283, R285), and how a response's cells are charged. -/
def State.localMessage (s : State) (p : Nat) (m : TwillMsg) (charge : Option Bool) : State :=
  match m.tc with
  | 1 => s.proxyForward p m m.src
  | 2 =>
    if m.opcode = 0x40 ∨ m.opcode = 0x41 then s.proxyCmp p m
    else if 0x42 ≤ m.opcode then s.snoopAnswer p m
    else if (s.snoopTxn m.tag).isSome then
      (match s.tracker m.tag with
        | some t => if m.status = 4 then s.failSource t 4 else (s.releaseTracker t).blwMemory t.target (t.addr / 64) m.tag m.status []
        | none => s)
    else s.twillAnswer p m charge
  | 3 =>
    if 0x40 ≤ m.opcode ∧ m.opcode ≤ 0x44 then s.proxyGrant p m
    else if m.opcode = 0x48 then s.homeWriteback p m
    else if 0x49 ≤ m.opcode then s.snoopAnswer p m
    else s.twillAnswer p m charge
  | _ => s.twillAnswer p m charge

/-- Croft answers a management request with a response whose content the manual leaves open (R172).  DESIGN CHOICE: without a route to the requester the
response leaves by the request's own port, as any other answer to an arrived message. -/
def State.mgmtAnswer (s : State) (p : Nat) (m : TwillMsg) : State :=
  let d := (Config.mgmtReply s.fresh).take 1024
  let r := { mkMsg (s.device * 256) m.src 0 2 m.tag with data := d, dcnt := ceilDiv d.length 64, hops := s.rd K.TWL_HOP_LIMIT }
  s.tick.sendMsg { id := 0, place := .queue, m := r, ingress := 79, egress := (s.gangFor r).getD p, response := true }

/-- A message left the resequencer for this device (R213, R269): a response keeps its charge; a management request has reached Croft (R172). -/
def State.arrivedMsg (s : State) (x : LMsg) : State :=
  if x.m.tc = 0 then s.mgmtAnswer x.ingress x.m
  else if s.plainResponse x.m then s.localMessage x.ingress x.m (some (x.credited || x.charge == .shared))
  else
    let s1 := when (x.charge == .reserve) (·.creditBack x) s
    if x.m.tc = 4 then s1.localRequest x.ingress x.m true else s1.localMessage x.ingress x.m (some true)

/-- The mark of a message that reaches a local endpoint (R211). -/
def State.markRx (s : State) (m : TwillMsg) : State :=
  when (m.cm && bit (s.rd K.LOM_MARKABLE) (m.tc % 8)) (fun s => (s.bump (K.LOM_MARKS_RX (m.tc % 8))).count 0x4002 (m.dst % 256)) s

/-- A management message for this device: a request for Croft goes to its gang.  DESIGN CHOICE: one for another endpoint of the device is answered with
UNSUPPORTED; R172 does not say with which status. -/
def State.mgmtMessage (s : State) (p : Nat) (m : TwillMsg) : State :=
  let back := fun (s : State) => (s.markRx m).passBy p m
  if m.opcode = 2 then ((back s).bump (K.TWL_LATE_RESPONSES p)).bump (K.TWL_VIOLATIONS p)
  else if m.dst % 256 ≠ 0 then (if (s.localGang (m.dst % 256)).isSome then (back s).msgStatus p m 1 else (back s).noEndpoint p m)
  else s.sendMsg (arrival p m)

/-- A message for this device (R185, R211, R213, R244, R269). -/
def State.localDeliver (s : State) (p : Nat) (m : TwillMsg) : State :=
  if m.tc = 0 then s.mgmtMessage p m
  else
    let direct := m.tc == 1 || m.tc == 2 || m.tc == 3 || (m.tc == 4 && 0x40 ≤ m.opcode)
    let s1 := if direct then s.markRx m else s
    if direct && m.rs then
      let a := s1.admitMsg { id := 0, place := .queue, m := m, ingress := p, egress := 79, response := m.tc != 4 }
      if a.1.place = .source then a.2 else a.2.reseq a.1
    else if s1.plainResponse m then s1.localMessage p m none
    else if direct && m.tc != 4 then (s1.passBy p m).localMessage p m none
    else s1.localRequest p m false

/-- A whole message has arrived on a Twill port (R176, R185, R193): its credits, its form, then its way.  DESIGN CHOICE: a message in TC0 to TC3 never waits
for one of the 27,136 trackers, since no class that it may wait for frees them (R25): its tracker is one beyond them. -/
def State.twillMessage (s : State) (p vc : Nat) (m0 : TwillMsg) : State :=
  let m := ioCut m0
  if 64 ≤ p ∨ s.role p ≠ 3 ∨ !s.linkUp p then s
  else if 128 < m.dcnt then s.twillFraming p F.TWL_FRAMING
  else
    let l := s.link p
    let h := (l.rxUsedH.getD vc 0 + 1) % 4096
    let d := (l.rxUsedD.getD vc 0 + m.dcnt) % 65536
    let s1 := s.putLink p { l with rxUsedH := l.rxUsedH.set vc h, rxUsedD := l.rxUsedD.set vc d }
    if l.rxAdvH.getD vc 0 < (h + 4096 - l.rxBackH.getD vc 0) % 4096 ∨ l.rxAdvD.getD vc 0 < (d + 65536 - l.rxBackD.getD vc 0) % 65536 then
      s1.twillFraming p F.TWL_CREDIT_OVERRUN
    else
      let bad := m.tc != vc || (match msgShape m.tc m.opcode with
        | none => true
        | some (x, lo, hi) => x != m.ext || decide (m.dcnt < lo) || decide (hi < m.dcnt))
      if bad then
        ((s1.passBy p { m with tc := vc }).twillViolation p F.TWL_UNKNOWN_MSG
          (some m)).msgStatus p m 1
      else if msgNonPosted m && 4 ≤ m.tc && s1.noTracker false then
        { s1 with fab := { s1.fab with waitTwill := s1.fab.waitTwill ++ [(p, m, s1.linkGen p)] } }
      else if m.dst / 256 = s1.device then s1.localDeliver p m
      else s1.transit p m

/-- Handle a message that came before its link went down: no credit of it returns (R182). -/
def State.creditless (s : State) (p : Nat) (go : State → State) : State :=
  let t := go s
  let l := s.link p
  let t1 := t.putLink p { t.link p with rxBackH := l.rxBackH, rxBackD := l.rxBackD, creditAt := l.creditAt }
  { t1 with fab := { t1.fab with loom := { t1.fab.loom with
      msgs := t1.fab.loom.msgs.map (fun x => if s.fab.loom.nextId ≤ x.id ∧ x.ingress = p then { x with credited := true } else x) } } }

/-- A message that waited for a free tracker goes on (R20, R183). -/
def State.twillWaiting (s : State) : Option State :=
  match s.fab.waitTwill with
  | [] => none
  | (p, m, n) :: rest =>
    if s.noTracker false then none else
    let s1 : State := { s with fab := { s.fab with waitTwill := rest } }
    let go := fun (s : State) => if m.dst / 256 = s.device then s.localDeliver p m else s.transit p m
    some (if n = s1.linkGen p then go s1 else s1.creditless p go)

/-- A message of a row: its class and opcode are the row's. -/
def State.rowMessage (s : State) (p : Nat) (m : TwillMsg) (tc opcode : Nat) : State :=
  s.twillMessage p tc { m with tc := tc, opcode := opcode }

/-! ### Streams (R169, R179) -/

/-- The octets of the message that begins a stream, once its first word is there. -/
def streamNeed (b : List Byte) : Nat := if b.length < 8 then 16 else 16 + 16 * b2n (bit (field b 0 8) 26) + 64 * bits (field b 0 8) 15 8

/-- Take the whole messages off the front of a stream. -/
def takeMessages : Nat → List Byte → List TwillMsg × List Byte
  | 0, b => ([], b)
  | n + 1, b =>
    if b.length < 16 ∨ b.length < streamNeed b then ([], b) else
    let r := takeMessages n (b.drop (streamNeed b))
    (parseMsg (b.take (streamNeed b)) :: r.1, r.2)

/-- The header of a message's TLP lies in the first octets of its data (R172, R197). -/
def tlpHere (m : TwillMsg) (data : List Byte) : Bool :=
  m.tc != 5 || (!data.isEmpty && (if field data 0 1 / 32 % 2 = 1 then 16 else 12) ≤ data.length)

/-- The answer to a request leaves through Loom, so its data can follow its header. -/
def Tracker.relayed (t : Tracker) : Bool :=
  match t.origin with
  | .host _ _ | .io _ _ | .twill _ _ _ | .engine _ _ => true
  | _ => false

/-- The header cell of a message has come and its data has not (R201, R206): a request, a message in transit, or a response that goes on as an answer, is
admitted now.  What Bellwether takes has no output toward which it could start. -/
def State.headerEarly (s : State) (p vc : Nat) (b : List Byte) : State :=
  let m := parseMsg (fit (streamNeed b) b)
  let shaped := match msgShape m.tc m.opcode with
    | some (x, lo, hi) => x == m.ext && decide (lo ≤ m.dcnt) && decide (m.dcnt ≤ hi)
    | none => false
  let answers := s.plainResponse m && m.tc == 3 && (m.status == 0 || m.status == 6) && !m.rs && (s.tracker m.tag).any Tracker.relayed
  let takes := m.tc == vc && m.tc != 0 && (m.dst / 256 != s.device || (4 ≤ m.tc && decide (m.opcode < 0x40)) || answers)
    && tlpHere m (b.drop (if m.ext then 32 else 16))
  if b.length < 16 ∨ streamNeed b ≤ b.length ∨ b.length + 64 * m.dcnt < streamNeed b ∨ !shaped ∨ !takes ∨ (s.link p).early.any (fun e => e.1 == vc)
      ∨ (4 ≤ m.tc ∧ s.noTracker false) then s else
  let n := s.fab.loom.nextId
  let s1 := s.twillMessage p vc m
  if !s1.linkUp p then s1 else
  let mine := fun (x : LMsg) => n ≤ x.id && x.ingress == p
  let ids := (s1.fab.loom.msgs.filter mine).map (·.id)
  let s2 : State := { s1 with fab := { s1.fab with loom := { s1.fab.loom with
    msgs := s1.fab.loom.msgs.map (fun x => if mine x then { x with written := false } else x) } } }
  s2.putLink p { s2.link p with early := Sparse.insert vc ids (s2.link p).early }

/-- The octets of a message as Loom holds them: of a TLP its payload, and as many as its header announced (R197). -/
def msgBody (m : TwillMsg) (n : Nat) : List Byte := (if m.tc = 5 then (tlpOf (ioCut m).data).payload else m.data).take n

/-- A message is whole: what was admitted with its header gets its data, also in the overflow store and in a sample taken of it (R206, R216, R219); else it
is taken now. -/
def State.messageWhole (s : State) (p vc : Nat) (m : TwillMsg) : State :=
  match (s.link p).early.find? (fun e => e.1 == vc) with
  | none => s.twillMessage p vc m
  | some (_, ids) =>
    let tags := (s.fab.loom.msgs.filter (fun x => ids.contains x.id)).filterMap (·.track)
    let whole := fun (x : LMsg) =>
      let d := msgBody m x.m.data.length
      { x with m := { x.m with data := d }, written := true, tlp := x.tlp.map (fun t => { t with payload := d }) }
    let s1 : State := { s with fab := { s.fab with
      loom := { s.fab.loom with
        msgs := s.fab.loom.msgs.map (fun x => if ids.contains x.id then whole x else x)
        captures := s.fab.loom.captures.map (fun e =>
          if ids.contains e.2.1 then (e.1, e.2.1, e.2.2.take 96 ++ fit 64 ((msgBody m (64 * m.dcnt)).take 64)) else e) }
      trackers := s.fab.trackers.map (fun t => if tags.contains t.tag then
        { t with data := msgBody m t.data.length, tlp := t.tlp.map (fun y => { y with payload := msgBody m t.data.length }) } else t) } }
    let s2 := forEach (s1.fab.loom.msgs.filter (fun x => ids.contains x.id && x.place == .store)) State.storeData s1
    s2.putLink p { s2.link p with early := Sparse.erase vc (s2.link p).early }

/-- The slots of an accepted DATA flit join the stream of its VC (R169, R193). -/
def State.takeSlots (s : State) (p vc first used : Nat) (slots : List Byte) : State :=
  let l := s.link p
  let old := Sparse.get (fun _ => []) l.streams vc
  let left := if old.isEmpty then 0 else (streamNeed old - old.length) / 8
  let start := if left < used then left else 31
  if used = 0 ∨ 29 < used ∨ first ≠ start then s.twillFraming p F.TWL_FRAMING else
  let b := old ++ slots.take (8 * used)
  let r := takeMessages 15 b
  let s1 := s.putLink p { l with streams := Sparse.set (fun _ => []) l.streams vc r.2 }
  if 8 ≤ r.2.length ∧ 128 < bits (field r.2 0 8) 15 8 then s1.twillFraming p F.TWL_FRAMING
  else (forEach r.1 (fun s m => s.messageWhole p vc m) s1).headerEarly p vc r.2

/-! ### Received flits (R166, R167, R178 to R180, R193) -/

/-- What the checks of a received flit find: its octets, none where it is bad. -/
def State.flitCheck (s : State) (p : Nat) (f : List Byte) : Option (List Byte) × State :=
  if f.length ≠ 256 then (none, s) else
  let r := fecDecode f
  let s1 := (s.add (K.TWL_FEC_CORRECTED p) r.2.1).countN 0x3004 p r.2.1
  if r.2.2 then
    let l := s1.link p
    let s2 := (s1.bump (K.TWL_FEC_UNCORRECTABLE p)).putLink p { l with badFlits := l.badFlits + 1 }
    (none, if s2.rd (K.TWL_FEC_LIMIT p) < l.badFlits + 1 then s2.healthDown p else s2)
  else if crc64 (r.1.take 236) ≠ field r.1 236 8 then (none, s1.bump (K.TWL_CRC_ERRORS p))
  else (some r.1, s1)

/-- DATA_FLIT (R168, R179, R180). -/
def State.dataFlitRx (s : State) (p : Nat) (f : List Byte) : State :=
  if 64 ≤ p ∨ s.role p ≠ 3 ∨ !s.linkUp p then s else
  match s.flitCheck p f with
  | (none, s1) => if s1.linkUp p then s1.askReplay p else s1
  | (some b, s1) =>
    let h := field b 0 4
    if bits h 31 30 = 0 then s1
    else if bits h 31 30 ≠ 1 ∨ bits h 4 0 ≠ 0 then (s1.twillViolation p F.TWL_CTRL none).askReplay p
    else
      let l := s1.link p
      let d := (bits h 29 18 + 4096 - l.expected) % 4096
      if d = 0 then
        let n := l.unacked + 1
        let s2 := (s1.putLink p { l with
          expected := (l.expected + 1) % 4096, nak := false, unacked := n, unackedAt := if l.unacked = 0 then s1.clk.dtc else l.unackedAt }).count
            0x3002 p
        let s3 := if 16 ≤ n then s2.sendAck p false else s2
        s3.takeSlots p (bits h 17 15) (bits h 14 10) (bits h 9 5) (slice b 4 232)
      else if d ≤ 2047 then s1.askReplay p
      else s1.sendAck p false

/-- A replay of the held flits (R178, R181): the health window counts it. -/
def State.replayAll (s : State) (p : Nat) : State :=
  let l := s.link p
  let s1 := forEach l.replay (fun s e => s.sendFlit p e.2) s
  let s2 := ((s1.bump (K.TWL_REPLAYS p)).count 0x3003 p).putLink p { l with replays := l.replays + 1, ackedAt := s.clk.dtc }
  if s2.rd (K.TWL_REPLAY_LIMIT p) < l.replays + 1 then s2.healthDown p else s2

/-- ACK (R178, R193). -/
def State.ackRx (s : State) (p : Nat) (nak : Bool) (n : Nat) : State :=
  if 64 ≤ p ∨ s.role p ≠ 3 ∨ !s.linkUp p then s else
  let l := s.link p
  let base := (l.seq + 8192 - l.replay.length - 1) % 4096
  let d := (n + 4096 - base) % 4096
  if l.replay.length < d then s.twillViolation p F.TWL_ACK_RANGE none else
  let s1 := s.putLink p { l with replay := l.replay.drop d, ackedAt := if d = 0 then l.ackedAt else s.clk.dtc }
  if nak ∧ !(s1.link p).replay.isEmpty then s1.replayAll p else s1

/-- CREDIT (R177, R193): for each class the cumulative counts, clamped where they exceed what is in use. -/
def State.creditRx (s : State) (p : Nat) (words : List Nat) : State :=
  if 64 ≤ p ∨ s.role p ≠ 3 ∨ !s.linkUp p then s else
  forEach (List.range 8) (fun s c =>
    let l := s.link p
    let w := words.getD c 0
    let one := fun (s : State) (mod r' : Nat) (cs rs : List Nat) =>
      let used := (cs.getD c 0 + mod - rs.getD c 0) % mod
      let f := (r' + mod - rs.getD c 0) % mod
      if f ≤ used then (r', s)
      else (cs.getD c 0, (s.bump (K.TWL_CREDIT_CLAMPS p)).twillViolation p F.TWL_CREDIT_CLAMP none)
    let a := one s 4096 (bits w 15 4) l.consumedH l.returnedH
    let b := one a.2 65536 (bits w 31 16) l.consumedD l.returnedD
    b.2.putLink p { b.2.link p with returnedH := l.returnedH.set c a.1, returnedD := l.returnedD.set c b.1 }) s

/-! ### Timers (R177, R178, R180) -/

/-- ACK_TIMER. -/
def State.ackTimer (s : State) (p : Nat) : State :=
  if 64 ≤ p ∨ !s.linkUp p ∨ s.role p ≠ 3 ∨ (s.link p).unacked = 0 ∨ s.clk.dtc < (s.link p).unackedAt + 128 then s else s.sendAck p false

/-- CREDIT_TIMER. -/
def State.creditTimer (s : State) (p : Nat) : State :=
  if 64 ≤ p ∨ !s.linkUp p ∨ s.role p ≠ 3 then s else
  let l := s.link p
  let due := match l.creditAt with
    | some a => decide (a + 128 ≤ s.clk.dtc)
    | none => false
  if due || decide (l.creditSent + 1000 ≤ s.clk.dtc) then s.sendCredit p else s

/-- TWL_REPLAY_TIMER. -/
def State.replayTimer (s : State) (p : Nat) : State :=
  if 64 ≤ p ∨ !s.linkUp p ∨ s.role p ≠ 3 ∨ (s.link p).replay.isEmpty ∨ s.clk.dtc < (s.link p).ackedAt + s.rd (K.TWL_REPLAY_TIMER p) then s
  else s.replayAll p

/-- At a tick boundary a health window ends (R181). -/
def State.healthTick (s : State) : State :=
  forEach s.fab.links (fun s e =>
    let l := s.link e.1
    if s.role e.1 = 3 ∧ l.windowAt + s.rd (K.TWL_HEALTH_WINDOW e.1) ≤ s.now * 1000 ∧ (l.replays ≠ 0 ∨ l.badFlits ≠ 0 ∨ s.linkUp e.1) then
      s.putLink e.1 { l with windowAt := s.now * 1000, replays := 0, badFlits := 0 }
    else s) s

/-! ### Training (R188 to R190) -/

/-- A training state failed (R188): T.OFF, and again 1 ms later. -/
def State.trainFail (s : State) (p : Nat) : State :=
  let s1 := (s.setTwillState p 0).bump (K.TWL_TRAIN_FAILS p)
  (s1.putLink p { s1.link p with restartAt := some (s1.clk.dtc + 1000000) }).lanesOff p

/-- TRAINING_RESTART (R188). -/
def State.trainingRestart (s : State) (p : Nat) : State :=
  if 64 ≤ p ∨ s.role p ≠ 3 ∨ s.twillState p ≠ 0 then s else
  match (s.link p).restartAt with
  | some a => if a ≤ s.clk.dtc then s.startTraining p else s
  | none => s

/-- The mask of the partner's lanes that are received aligned (R174, R189); none where the order or the skew bars alignment (R128). -/
def State.alignedMask (s : State) (p : Nat) : Nat :=
  if (s.alignment p).aligned then (s.alignment p).lanes.foldl (fun m e => putBit m e.2 true) 0 else 0

/-- All of the lowest `w` bits of a mask are set. -/
def lowBits (w m : Nat) : Bool := m % 2 ^ w == 2 ^ w - 1

/-- The width of a link (R189), as log2. -/
def State.twillWidth (s : State) (p : Nat) (c : TwillConfig) : Option Nat :=
  [4, 3, 2, 1, 0].find? (fun k =>
    2 ^ k ≤ 4 * (s.portQuads p).length && k ≤ c.width && s.rd (K.TWL_MIN_WIDTH p) ≤ k && lowBits (2 ^ k) (s.alignedMask p) && lowBits (2 ^ k) c.aligned)

/-- The octets of this device's CONFIG after its CTYPE, as one lane carries them (R174, R190). -/
def State.configBody (s : State) (p : Nat) (ack : Bool) (lane : Nat) : List Byte :=
  leBytes 1 s.device ++ leBytes 2 0x0300 ++ leBytes 4 0x0E ++ leBytes 4 0x1F ++ leBytes 1 (s.rd (K.TWL_MAX_RATE p))
    ++ leBytes 1 (log2w (4 * (s.portQuads p).length)) ++ leBytes 2 (s.alignedMask p) ++ leBytes 1 (b2n ack) ++ leBytes 1 lane ++ zeros 2
    ++ leBytes 1 2 ++ leBytes 1 1 ++ zeros 10

/-- Send CONFIG on every lane (R188). -/
def State.sendConfigs (s : State) (p : Nat) (ack : Bool) : State :=
  s.sendOwn p ((List.range (4 * (s.portQuads p).length)).map (fun j => ctrlFlit (s.link p).seq (fit 32 (BitVec.ofNat 8 3 :: s.configBody p ack j))))

/-- The lanes that a Twill port equalises: those of its width, in a planned retrain of the width to come (R188, R191). -/
def State.eqLanes (s : State) (p : Nat) : Nat := 2 ^ ((s.link p).retrain.map (·.width)).getD (bits (s.rd (K.TWL_STATE p)) 15 12)

/-- This device reports that its receivers are done on every lane (R188). -/
def State.sendEqDone (s : State) (p : Nat) : State :=
  forEach (List.range (s.eqLanes p)) (fun s j => s.sendCtrl p 5 2 (leBytes 1 j ++ leBytes 1 3)) s

/-- T.EQ begins (R188); what the receivers adapt is analogue, and they are done at once. -/
def State.enterEq (s : State) (p : Nat) : State := ((s.setTwillState p 4).rxTrained p).sendEqDone p

/-- T.INIT begins: at a marker the lanes are striped, and this device advertises its credits; margin runs that waited for T.EQ begin (R140, R175,
R188). -/
def State.enterInit (s : State) (p : Nat) : State :=
  let h := (List.range 8).map (fun c => s.rd (K.TWL_RX_HDR_CREDITS p c))
  let d := (List.range 8).map (fun c => s.rd (K.TWL_RX_DATA_CREDITS p c))
  let s1 := ((s.setTwillState p 5).switchMarker p).startWaiting p
  let s2 := s1.putLink p { s1.link p with rxAdvH := h, rxAdvD := d, initSent := true }
  s2.sendCtrl p 4 6 ([0] ++ zeros 2 ++ h.flatMap (leBytes 2) ++ d.flatMap (leBytes 2))

/-- T.RATE begins (R188): at 128 Gb/s the lanes realign first. -/
def State.enterRate (s : State) (p code : Nat) : State :=
  let s1 := (s.setTwillState p 3).setQuadRate p code
  if code = 9 then (s1.switchMarker p).putAlignment p {} else s1.enterEq p

/-- An alignment marker has come (R188): before T.RATE this device's CONFIG, with the lanes it now receives aligned, is on every lane; in T.RATE
the chosen lanes are aligned at the new rate, and T.EQ begins. -/
def State.trainAligned (s : State) (p : Nat) : State :=
  if s.role p ≠ 3 then s
  else if s.twillState p = 1 ∨ s.twillState p = 2 then s.sendConfigs p (s.link p).configAck
  else if s.twillState p = 3 ∧ lowBits (2 ^ bits (s.rd (K.TWL_STATE p)) 15 12) (s.alignedMask p) then s.enterEq p
  else s

/-- CONFIG (R16, R188 to R190, R193). -/
def State.configRx (s : State) (p : Nat) (c : TwillConfig) : State :=
  let st := s.twillState p
  if 64 ≤ p ∨ s.role p ≠ 3 then s
  else if st = 6 then s.twillViolation p F.TWL_CTRL none
  else if st ≠ 1 ∧ st ≠ 2 then s
  else
    let l := s.link p
    let mask := putBit l.cfgLanes (c.lane % 16) true
    let s1 := s.putLink p { l with config := some c, cfgLanes := mask }
    if st = 1 ∧ !lowBits (2 ^ s.rd (K.TWL_MIN_WIDTH p)) mask then s1 else
    let s2 := if st = 1 then (s1.setTwillState p 2).sendConfigs p false else s1
    if s2.sel.spread.contains (p / 4) then s2
    else if c.device = s2.device then s2.twillViolation p F.TWL_DEVNUM none
    else
      let majors := [3, 2, 1].filter (fun m => bit 0x0E m && bit c.majors m)
      match majors with
      | [] => s2.raise F.TWL_VERSION (elemPort p)
      | major :: _ =>
        match s2.twillWidth p c with
        | none => s2.trainFail p
        | some w =>
          let mine := [2, 1, 0].getD (major - 1) 0
          let minor := min mine (c.minors.getD (major - 1) 0)
          let caps := (0x1F).land (c.caps.land (if major = 3 then 0xFFFFFFFF else 0xF))
          let fast := bit caps 0 && c.maxRate == 9 && s2.rd (K.TWL_MAX_RATE p) == 9
          let code := if fast then 9 else 8
          let s3 := ((((s2.wrBits (K.TWL_STATE p) 11 8 code).wrBits (K.TWL_STATE p) 15 12 w).wrBits (K.TWL_STATE p) 23 16 c.device).wr
            (K.TWL_PARTNER_VERSION p) (major * 256 + minor)).wr (K.TWL_CAPS_COMMON p) caps
          let s4 := if (s3.link p).configAck then s3
            else (s3.putLink p { s3.link p with configAck := true }).sendConfigs p true
          if c.ack then s4.enterRate p code else s4

/-- The minimums of advertised credits (R175): header and data by class. -/
def creditMin (c : Nat) : Nat × Nat := (4, [16, 0, 0, 128, 128, 128, 128, 128].getD c 0)

/-- The link becomes ACTIVE: its sequence numbers and credit counts start at 0 (R182, R188). -/
def State.enterActive (s : State) (p : Nat) : State :=
  let l := s.link p
  let s1 := s.putLink p { l with
    consumedH := List.replicate 8 0, consumedD := List.replicate 8 0, returnedH := List.replicate 8 0, returnedD := List.replicate 8 0
    rxUsedH := List.replicate 8 0, rxUsedD := List.replicate 8 0, rxBackH := List.replicate 8 0, rxBackD := List.replicate 8 0
    seq := 0, replay := [], ackedAt := s.clk.dtc, expected := 0, nak := false, unacked := 0, creditAt := none, creditSent := s.clk.dtc, streams := [] }
  let s2 : State := { s1 with fab := { s1.fab with loom := { s1.fab.loom with
    allotted := Sparse.insert p (s1.reserveCommitted p) s1.fab.loom.allotted } } }
  ((s2.setTwillState p 6).loomSync).cicRaise (0x80 + p)

/-- INIT (R175, R188, R193). -/
def State.initRx (s : State) (p : Nat) (ack : Bool) (hdr data : List Nat) : State :=
  let st := s.twillState p
  if 64 ≤ p ∨ s.role p ≠ 3 then s
  else if st = 6 then s.twillViolation p F.TWL_CTRL none
  else if st ≠ 5 then s
  else if (List.range 8).any (fun c => decide (hdr.getD c 0 < (creditMin c).1) || decide (data.getD c 0 < (creditMin c).2)) then
    s.twillViolation p F.TWL_INIT_REJECT none
  else
    let s0 := if (s.link p).initSent then s else s.enterInit p
    let l := s0.link p
    let s1 := s0.putLink p { l with txAdvH := hdr, txAdvD := data, initAck := true }
    let s2 := if l.initAck then s1 else
      s1.sendCtrl p 4 6 ([1] ++ zeros 2 ++ l.rxAdvH.flatMap (leBytes 2) ++ l.rxAdvD.flatMap (leBytes 2))
    if ack then s2.enterActive p else s2

/-! ### Planned retrain (R191, R192) -/

/-- The hold of a planned retrain begins: no new DATA flits, and margin runs are aborted (R140). -/
def State.retrainHold (s : State) (p width : Nat) (eq own : Bool) : State :=
  let s1 := (s.abortMargins p).wrBit (K.TWL_STATE p) 3 true
  s1.putLink p { s1.link p with retrain := some { width := width, eq := eq, own := own, answered := true, since := s.clk.dtc, equalising := false } }

/-- The width that a retrain asks for: 15 keeps the current one. -/
def State.retrainWidth (s : State) (p w : Nat) : Nat := if w = 15 then bits (s.rd (K.TWL_STATE p)) 15 12 else w

/-- Send RETRAIN (R174). -/
def State.sendRetrain (s : State) (p width : Nat) (eq answer : Bool) : State :=
  s.sendCtrl p 6 1 (leBytes 1 width ++ leBytes 1 (b2n eq + 2 * b2n answer) ++ leBytes 1 s.device)

/-- A write of TWL_RETRAIN (R191, R194). -/
def State.retrainWrite (s : State) (p v : Nat) : Nat × State :=
  if 64 ≤ p ∨ 32 ≤ v then (1, s) else
  let w := v % 16
  if w ≠ 15 ∧ log2w (4 * (s.portQuads p).length) < w then (1, s)
  else if s.role p ≠ 3 ∨ !s.linkUp p ∨ (s.link p).retrain.isSome then (0, s)
  else
    let width := s.retrainWidth p w
    let l := s.link p
    (0, (s.putLink p { l with retrain := some { width := width, eq := bit v 4, own := true, answered := false, since := 0, equalising := false } }).sendRetrain
      p width (bit v 4) false)

/-- A write of SEL_REEQ (R124): on a Twill port it asks for a planned retrain with equalisation (R191). -/
def State.reeqWrite (s : State) (q v : Nat) : Nat × State :=
  let p := s.portOfQuad q
  if v ≠ 1 then (1, s)
  else if s.role p = 3 then (0, (s.retrainWrite p 0x1F).2)
  else (0, s.reeqAsk p true [])

/-- RETRAIN (R191 to R193): a request is answered, a collision is led by the lower device number. -/
def State.retrainRx (s : State) (p width : Nat) (eq answer : Bool) (device : Nat) : State :=
  if 64 ≤ p ∨ s.role p ≠ 3 ∨ !s.linkUp p then s else
  let l := s.link p
  match l.retrain with
  | some r =>
    if r.answered then (if answer then s.twillViolation p F.TWL_CTRL none else s)
    else if answer then s.retrainHold p (min r.width width) (r.eq || eq) true
    else if s.device < device then
      s.putLink p { l with retrain := some { r with width := min r.width width, eq := r.eq || eq } }
    else (s.sendRetrain p (min r.width width) (r.eq || eq) true).retrainHold p (min r.width width) (r.eq || eq) false
  | none =>
    if answer then s.twillViolation p F.TWL_CTRL none
    else (s.sendRetrain p width eq true).retrainHold p width eq false

/-- At a marker the new striping is in force and traffic resumes: trackers of the port are extended by the hold (R184, R191). -/
def State.retrainDone (s : State) (p : Nat) : State :=
  match (s.link p).retrain with
  | none => s
  | some r =>
    let held := s.clk.dtc - r.since
    let longer := fun (t : Tracker) => if t.egress = p then { t with sentAt := t.sentAt.map (· + held) } else t
    let s1 := (((s.wrBit (K.TWL_STATE p) 3 false).wrBits (K.TWL_STATE p) 15 12 r.width).wrBits (K.TWL_STATE p) 7 4 6)
    let s2 := ((s1.putLink p { s1.link p with retrain := none }).switchMarker p).startWaiting p
    { s2 with fab := { s2.fab with trackers := s2.fab.trackers.map longer, transit := s2.fab.transit.map longer } }

/-- The coefficients of an EQ request lie in the space of R122. -/
def eqFits (c : List Int) : Bool :=
  let a := c.getD 0 0
  let b := c.getD 1 0
  let d := c.getD 2 0
  let e := c.getD 3 0
  decide (a ≤ 0) && decide (b ≤ 0) && decide (e ≤ 0) && decide (-8 ≤ a) && decide (-16 ≤ b) && decide (-16 ≤ e) && decide (31 ≤ d)
    && decide (d - a - b - e = 63)

/-- A partner's equalisation request may be applied on a Twill port: in the initial T.EQ, or while a re-equalisation runs under its grant (R124, R188).
DESIGN CHOICE: in the T.EQ of a planned retrain a request outside the grant is answered as rejected and changes nothing. -/
def State.eqApplies (s : State) (p : Nat) : Bool := (s.link p).retrain.isNone || s.reequalising p

/-- EQ (R122, R124, R188, R193). -/
def State.eqRx (s : State) (p lane kind preset : Nat) (coeffs : List Int) (_result : Nat) : State :=
  let st := s.twillState p
  if 64 ≤ p ∨ s.role p ≠ 3 then s
  else if st = 6 then s.twillViolation p F.TWL_CTRL none
  else if st ≠ 4 then s
  else
    let w := s.eqLanes p
    let key := K.SEL_TX_COEFF (p + lane / 4) (lane % 4)
    let answer := fun (s : State) (r : Nat) => s.sendCtrl p 5 2 (leBytes 1 lane ++ leBytes 1 0 ++ leBytes 1 preset ++ zeros 4 ++ leBytes 1 r)
    match kind with
    | 1 =>
      if preset < 8 ∧ lane < w ∧ s.eqApplies p then answer (s.wr key (coeffWord (twillPresets.getD preset (0, 0, 63, 0)))) 0 else answer s 1
    | 2 =>
      if eqFits coeffs ∧ lane < w ∧ s.eqApplies p then
        answer (s.wr key (coeffWord ((coeffs.getD 0 0).natAbs, (coeffs.getD 1 0).natAbs, (coeffs.getD 2 0).natAbs, (coeffs.getD 3 0).natAbs))) 0
      else answer s 1
    | 3 =>
      let l := s.link p
      let m := if lane < w then putBit l.eqDone lane true else l.eqDone
      let s1 := s.putLink p { l with eqDone := m }
      if lowBits w m then
        (match l.retrain with
          | some r => if r.selfDone then s1.retrainDone p else s1
          | none => s1.enterInit p)
      else s1
    | _ => s

/-- REPLAY_BUFFER_EMPTY (R191): with EQ, T.EQ is entered under grants; without, the switch takes place. -/
def State.replayEmpty (s : State) (p : Nat) : State :=
  if 64 ≤ p ∨ s.role p ≠ 3 ∨ !(s.link p).replay.isEmpty then s else
  match (s.link p).retrain with
  | none => s
  | some r =>
    if !r.answered ∨ r.equalising then s
    else if r.eq then
      let s1 := s.putLink p { s.link p with retrain := some { r with equalising := true }, eqDone := 0, stateAt := s.clk.dtc }
      ((s1.wrBits (K.TWL_STATE p) 7 4 4).switchMarker p).reeqAsk p r.own []
    else s.retrainDone p

/-- A re-equalisation of a Twill port ended, or was deferred (R124, R191): this device's lanes are done, and a planned retrain goes on once the
partner's are. -/
def State.retrainAfterEq (s : State) (p : Nat) : State :=
  match (s.link p).retrain with
  | some r =>
    if !r.equalising ∨ r.selfDone ∨ s.sel.reeqs.any (fun q => q.port == p) then s else
    let s1 := (s.putLink p { s.link p with retrain := some { r with selfDone := true } }).sendEqDone p
    when (lowBits (s.eqLanes p) (s.link p).eqDone) (·.retrainDone p) s1
  | none => s

/-- TRAINING_TIMEOUT (R188): at 8 ms of T.EQ the current coefficients stand, and training, or a planned retrain, goes on. -/
def State.trainingTimeout (s : State) (p : Nat) : State :=
  let st := s.twillState p
  if 64 ≤ p ∨ s.role p ≠ 3 ∨ st = 0 ∨ 6 ≤ st then s else
  let limit := if st = 1 ∨ st = 3 then 2000000 else if st = 4 then 8000000 else 1000000
  if s.clk.dtc < (s.link p).stateAt + limit then s
  else if st = 4 then
    (match (s.link p).retrain with
      | some _ => (s.reeqDrop p).retrainDone p
      | none => s.enterInit p)
  else s.trainFail p

/-- RETRAIN_HOLD_TIMEOUT (R191). -/
def State.holdTimeout (s : State) (p : Nat) : State :=
  if 64 ≤ p ∨ s.role p ≠ 3 then s else
  match (s.link p).retrain with
  | some r =>
    if r.answered ∧ r.since + 10000000 < s.clk.dtc then ((s.wrBit (K.TWL_STATE p) 3 false).twillDown p).startTraining p else s
  | none => s

/-- A write of TWL_REENABLE (R181, R194). -/
def State.reenable (s : State) (p v : Nat) : Nat × State :=
  if 64 ≤ p ∨ v ≠ 1 then (1, s)
  else if !bit (s.rd (K.TWL_STATE p)) 1 then (0, s)
  else (0, (s.wrBit (K.TWL_STATE p) 1 false).startTraining p)

/-! ### CTRL flits (R169, R174, R179) -/

/-- The slots of a control message (R174). -/
def ctrlSlots (t : Nat) : Option Nat :=
  match t with
  | 1 => some 1 | 2 => some 5 | 3 => some 4 | 4 => some 6 | 5 => some 2 | 6 => some 1
  | _ => none

/-- Act on a control message. -/
def State.ctrlMessage (s : State) (p : Nat) (b : List Byte) : State :=
  match field b 0 1 with
  | 1 => s.ackRx p (bit (field b 1 1) 0) (field b 2 2 % 4096)
  | 2 => s.creditRx p ((List.range 8).map (fun c => field b (8 + 4 * c) 4))
  | 3 => s.configRx p
      { device := field b 1 1, version := field b 2 2, majors := field b 4 4, caps := field b 8 4, maxRate := field b 12 1, width := field b 13 1
        aligned := field b 14 2, ack := bit (field b 16 1) 0, lane := field b 17 1, minors := (List.range 12).map (fun m => field b (20 + m) 1) }
  | 4 => s.initRx p (bit (field b 1 1) 0) ((List.range 8).map (fun c => field b (4 + 2 * c) 2)) ((List.range 8).map (fun c => field b (20 + 2 * c) 2))
  | 5 => s.eqRx p (field b 1 1) (field b 2 1) (field b 3 1) ((List.range 4).map (fun i => sint 8 (field b (4 + i) 1))) (field b 8 1)
  | 6 => s.retrainRx p (field b 1 1) (bit (field b 2 1) 0) (bit (field b 2 1) 1) (field b 3 1)
  | _ => s

/-- Act on the control messages of a flit in turn; one that would span the flit is a framing violation, an unknown CTYPE is ignored. -/
def State.ctrlMessages (p : Nat) : Nat → List Byte → State → State
  | 0, _, s => s
  | n + 1, b, s =>
    if b.isEmpty then s else
    match ctrlSlots (field b 0 1) with
    | none => s.twillViolation p F.TWL_CTRL none
    | some k =>
      if b.length < 8 * k then s.twillFraming p F.TWL_FRAMING
      else State.ctrlMessages p n (b.drop (8 * k)) (s.ctrlMessage p (b.take (8 * k)))

/-- CTRL_FLIT (R168, R179, R180). -/
def State.ctrlFlitRx (s : State) (p : Nat) (f : List Byte) : State :=
  if 64 ≤ p ∨ s.role p ≠ 3 ∨ s.twillState p = 0 then s else
  match s.flitCheck p f with
  | (none, s1) => s1
  | (some b, s1) =>
    let h := field b 0 4
    if bits h 31 30 = 1 then s1
    else if bits h 31 30 ≠ 0 ∨ bits h 17 10 ≠ 0 ∨ bits h 4 0 ≠ 0 ∨ 29 < bits h 9 5 then (s1.twillViolation p F.TWL_CTRL none).askReplay p
    else
      let s2 := State.ctrlMessages p 29 (slice b 4 (8 * bits h 9 5)) s1
      if s2.linkUp p ∧ bits h 29 18 ≠ (s2.link p).expected then s2.askReplay p else s2

end Sys2Proof.Machine
end

