-- ==== Sys2Proof/Machine/Slots.lean ====
section
/-! DEFINITION. The slot power controllers, PORT_PERST_N and PME_Turn_Off (R87, R145, R162, R485 to R501). -/

namespace Sys2Proof.Machine

/-! ### PORT_PERST_N (R87) -/

/-- The ports whose committed role is `r`, among those with a stored role. -/
def State.rolePorts (s : State) (r : Nat) : List Nat :=
  (s.dict.nums.filter (fun e => 0x2400 ≤ keyIdx e.1 && keyIdx e.1 < 0x2500 && keyIdx e.1 % 4 == 0 && keySub e.1 == 1 && e.2 == r)).map
    (fun e => (keyIdx e.1 - 0x2400) / 4)

/-- Drive a PORT_PERST_N low; a held pad keeps its level (R94). -/
def State.perstLow (s : State) (p : Nat) : State :=
  if s.rd K.HRD_PADS_HELD ≠ 0 then s else
  let s1 : State := { s with slots := { s.slots with perst := Sparse.erase p s.slots.perst } }
  if s.boot.perstLow.contains p then s1 else
  State.emit { s1 with boot := { s1.boot with perstLow := p :: s1.boot.perstLow, perstHigh := s1.boot.perstHigh.filter (· != p) } } (.perstPin p false)

/-- Stop driving a PORT_PERST_N. -/
def State.perstFree (s : State) (p : Nat) : State :=
  { s with
    boot := { s.boot with perstLow := s.boot.perstLow.filter (· != p), perstHigh := s.boot.perstHigh.filter (· != p) }
    slots := { s.slots with perst := Sparse.erase p s.slots.perst } }

/-- The ball of a port whose role was `r0` stops following that role (R87): one that is disabled is first driven low.  A held pad keeps its level until
it is released (R94). -/
def State.perstRole (s : State) (p r0 : Nat) : State :=
  if s.rd K.HRD_PADS_HELD ≠ 0 then s else (when (r0 == 2 && s.role p == 0) (·.perstLow p) s).perstFree p

/-- A downstream port meets the conditions under which its 100 ms begin: enabled, its slot channel reports power-good, its reference valid. -/
def State.perstReady (s : State) (p : Nat) : Bool :=
  s.lanesFree && !s.isolatedPort p && !s.sel.lost.contains (p / 4)
    && (let n := s.rd (K.PRT_SLOT p); 16 ≤ n || bit (s.rd (K.HRD_SLOT_STATE n)) 4)

/-- The PORT_PERST_N of the downstream ports follow their conditions (R87); held pads stay (R94). -/
def State.perstSync (s : State) : State :=
  if s.rd K.HRD_PADS_HELD ≠ 0 then s else
  forEach (s.rolePorts 2) (fun s p =>
    if (s.port p).trainTick.isSome ∧ !(s.boot.perstHigh.contains p) ∧ !(s.boot.perstLow.contains p) then s
    else if s.boot.perstHigh.contains p then
      (if s.rd (K.PRT_SLOT p) < 16 ∧ !bit (s.rd (K.HRD_SLOT_STATE (s.rd (K.PRT_SLOT p)))) 4 then s.perstLow p else s)
    else if s.perstReady p then
      (if s.slots.perst.any (fun e => e.1 == p) then s
       else
         let from_ := max s.clk.dtc (Sparse.get (fun _ => 0) s.sel.refAt (p / 4) + 100000)
         let s1 := s.perstLow p
         { s1 with slots := { s1.slots with perst := Sparse.insert p from_ s1.slots.perst } })
    else s.perstLow p) s

/-- PERST_DEASSERT: 100 ms after its conditions began to hold, a downstream PORT_PERST_N is driven high. -/
def State.perstDeassert (s : State) (p : Nat) : State :=
  match s.slots.perst.find? (fun e => e.1 == p) with
  | none => s
  | some e =>
    if s.role p ≠ 2 ∨ !s.perstReady p ∨ s.clk.dtc < e.2 + 100000000 ∨ s.rd K.HRD_PADS_HELD ≠ 0 then s else
    let s1 := s.perstFree p
    State.emit { s1 with boot := { s1.boot with perstHigh := p :: s1.boot.perstHigh } } (.perstPin p true)

/-! ### Channel state (R487, R501) -/

/-- The record of a channel. -/
def State.chan (s : State) (n : Nat) : SlotCh := Sparse.get (fun _ => {}) s.slots.chans n

/-- Set the record of a channel. -/
def State.putChan (s : State) (n : Nat) (c : SlotCh) : State :=
  { s with slots := { s.slots with chans := Sparse.set (fun _ => {}) s.slots.chans n c } }

/-- The state code of a channel. -/
def State.slotCode (s : State) (n : Nat) : Nat := bits (s.rd (K.HRD_SLOT_STATE n)) 3 0

/-- Set the state code of a channel. -/
def State.setSlotCode (s : State) (n c : Nat) : State := s.wrBits (K.HRD_SLOT_STATE n) 3 0 c

/-- The channel's gate is driven: RAMP, ON or STOPPING. -/
def State.slotLive (s : State) (n : Nat) : Bool := let c := s.slotCode n; c == 2 || c == 3 || c == 4

/-- The downstream port that names a slot channel. -/
def State.slotPort (s : State) (n : Nat) : Option Nat := (s.rolePorts 2).find? (fun p => s.rd (K.PRT_SLOT p) == n)

/-- Drop the power-good of a channel. -/
def State.slotPgOff (s : State) (n : Nat) : State :=
  if bit (s.rd (K.HRD_SLOT_STATE n)) 4 then (s.wrBit (K.HRD_SLOT_STATE n) 4 false).emit (.slotPin n 1 false) else s

/-- Release the grant of a channel. -/
def State.slotRelease (s : State) (n : Nat) : State :=
  if s.granted (82 + n) = 0 ∧ !s.gov.waiting.any (fun q => q.requester == 82 + n) then s.wrBit (K.HRD_SLOT_STATE n) 8 false
  else (s.govRelease (82 + n)).wrBit (K.HRD_SLOT_STATE n) 8 false

/-- Command the gate of a channel off: gate, power-good, fault timer and grant. -/
def State.slotGate (s : State) (n : Nat) : State :=
  let s1 := ((s.slotPgOff n).wrBits (K.HRD_SLOT_STATE n) 7 6 0).slotRelease n
  (s1.putChan n { s1.chan n with asked := false, stopAt := none, stopSince := none, offAt := s1.clk.dtc }).emit (.slotPin n 0 false)

/-- The channel's CIC source. -/
def State.slotIrq (s : State) (n : Nat) : State := s.cicRaise (0x20 + n)

/-- The state code after a trip: LATCHED; OFF where the channel was commanded off in the same 10 µs sample (R495).  DEDUCED: a channel that failed ST12
stays UNAVAILABLE (R104). -/
def State.tripCode (s : State) (n : Nat) : Nat :=
  if s.slotCode n = 6 then 6
  else if s.slotCode n = 4 ∧ (s.chan n).stopSince.map (· / 10000) = some (s.clk.dtc / 10000) then 0
  else 5

/-- A trip (R493): gate, power-good and grant go, the channel latches, the cause is recorded, and its port goes down.  Of two causes in one sample the
lower is recorded (R500): it comes first. -/
def State.slotTrip (s : State) (n cause : Nat) : State :=
  let s1 := (((s.slotGate n).setSlotCode n (s.tripCode n)).wrBits (K.HRD_SLOT_STATE n) 11 9 cause).bump (K.HRD_SLOT_TRIPS n)
  let s2 := (s1.raise (if cause = 5 then F.HRD_SLOT_FET else F.HRD_SLOT_TRIP) (elem 9 n)).slotIrq n
  match s1.slotPort n with
  | some p => (s2.linkDownEvent p).perstLow p
  | none => s2

/-- The base temperature of the FET model (R492). -/
def State.slotBase (s : State) (n : Nat) : Nat :=
  let t := sint 32 (s.rd (K.HRD_SLOT_THERM_TEMP n))
  if s.rd (K.HRD_SLOT_THERM_ENABLE n) = 1 ∧ -400 ≤ t ∧ t ≤ 1500 then s.rd (K.HRD_SLOT_THERM_TEMP n) else s.rd (K.HRD_SLOT_AMBIENT n)

/-- HRD_SLOT_ENABLE takes a value at a commit point or at SYS_READY (R487, R495, R498, R499). -/
def State.slotApply (s : State) (n : Nat) : State :=
  let c := s.slotCode n
  if s.rd (K.HRD_SLOT_ENABLE n) = 1 then
    if c = 0 ∨ c = 5 then (s.setSlotCode n 1).wr (K.HRD_SLOT_FET_TEMP n) (s.slotBase n) else s
  else if c = 1 ∨ c = 5 then ((s.setSlotCode n 0).slotRelease n).putChan n { s.chan n with asked := false }
  else if c = 2 then (s.setSlotCode n 4).putChan n { s.chan n with stopAt := some 0, stopSince := some s.clk.dtc }
  else if c = 3 then
    let s1 := (s.setSlotCode n 4).putChan n { s.chan n with stopSince := some s.clk.dtc }
    match s.slotPort n with
    | some p =>
      if s.linkUp p then (s1.putPort p { s1.port p with pmeSince := some s1.clk.dtc }).emit (.pmeTurnOff p)
      else (s1.perstLow p).putChan n { s1.chan n with stopAt := some s1.clk.dtc }
    | none => s1.putChan n { s1.chan n with stopAt := some s1.clk.dtc }
  else s

/-! ### Events of a channel -/

/-- SLOT_GRANT_REQUEST (R487, R488, R497): in WAIT, with PWRFAIL_N released, the channel asks for its grant. -/
def State.slotAsk (s : State) (n : Nat) : State :=
  if 16 ≤ n ∨ s.slotCode n ≠ 1 ∨ (s.chan n).asked ∨ bit (s.rd (K.HRD_SLOT_STATE n)) 5 then s else
  (s.putChan n { s.chan n with asked := true }).govRequest (82 + n) (s.rd K.HRD_SLOT_GRANT)

/-- SLOT_GRANT (R488, R489): the grant is there, and the ramp begins. -/
def State.slotGrant (s : State) (n : Nat) : State :=
  if 16 ≤ n ∨ s.slotCode n ≠ 1 ∨ s.granted (82 + n) = 0 then s else
  let s1 := (s.setSlotCode n 2).wrBit (K.HRD_SLOT_STATE n) 8 true
  let s2 : State := { s1 with gov := { s1.gov with answers := s1.gov.answers.filter (fun a => a.requester != 82 + n) } }
  (s2.putChan n { s2.chan n with asked := false, rampAt := s2.clk.dtc, timerEnd := s2.clk.dtc }).emit (.slotPin n 0 true)

/-- SLOT_ON (R487): the output has reached the input less 0.2 V. -/
def State.slotOn (s : State) (n vout vin : Nat) : State :=
  if 16 ≤ n ∨ s.slotCode n ≠ 2 ∨ vout + 200 < vin then s else
  ((s.setSlotCode n 3).wr (K.HRD_SLOT_VOUT n) (vout % 65536)).wr (K.HRD_SLOT_VIN n) (vin % 65536)

/-- POWER_GOOD_ASSERT (R496): 1 ms above 11.0 V with the fault timer idle throughout. -/
def State.pgAssert (s : State) (n : Nat) : State :=
  let c := s.chan n
  if 16 ≤ n ∨ !s.slotLive n ∨ bit (s.rd (K.HRD_SLOT_STATE n)) 4 ∨ bit (s.rd (K.HRD_SLOT_STATE n)) 7 ∨ s.clk.dtc < c.timerEnd + 1000000 then s else
  ((s.wrBit (K.HRD_SLOT_STATE n) 4 true).emit (.slotPin n 1 true)).slotRelease n

/-- POWER_GOOD_RELEASE (R496): below 10.8 V at three samples, with the fault timer idle. -/
def State.pgRelease (s : State) (n vout : Nat) : State :=
  if 16 ≤ n ∨ 10800 ≤ vout ∨ bit (s.rd (K.HRD_SLOT_STATE n)) 7 ∨ !bit (s.rd (K.HRD_SLOT_STATE n)) 4 then s else
  (s.wr (K.HRD_SLOT_VOUT n) vout).slotPgOff n

/-- CURRENT_LIMIT (R490): the current reaches the limit, and the fault timer starts. -/
def State.currentLimit (s : State) (n current : Nat) : State :=
  if 16 ≤ n ∨ !s.slotLive n ∨ current < s.rd (K.HRD_SLOT_ILIMIT n) ∨ bit (s.rd (K.HRD_SLOT_STATE n)) 7 then s else
  ((s.wr (K.HRD_SLOT_CURRENT n) (sat 16 current)).wrBits (K.HRD_SLOT_STATE n) 7 6 3).putChan n { s.chan n with timerAt := s.clk.dtc }

/-- FAULT_TIMER_STOP (R490): 100 µs below 95 % of the limit. -/
def State.timerStop (s : State) (n : Nat) : State :=
  if 16 ≤ n ∨ !bit (s.rd (K.HRD_SLOT_STATE n)) 7 then s else
  (s.wrBits (K.HRD_SLOT_STATE n) 7 6 0).putChan n { s.chan n with timerEnd := s.clk.dtc }

/-- FAULT_TIMER_EXPIRY (R490, R493): cause 1. -/
def State.timerExpiry (s : State) (n : Nat) : State :=
  if 16 ≤ n ∨ !s.slotLive n ∨ !bit (s.rd (K.HRD_SLOT_STATE n)) 7 ∨ s.clk.dtc < (s.chan n).timerAt + s.rd (K.HRD_SLOT_FAULT_TIME n) then s
  else s.slotTrip n 1

/-- SHORT_CIRCUIT (R491): the sense voltage in µV reaches 4 mΩ × the limit; cause 2. -/
def State.shortCircuit (s : State) (n sense : Nat) : State :=
  if 16 ≤ n ∨ !s.slotLive n ∨ sense < 4 * s.rd (K.HRD_SLOT_ILIMIT n) then s else s.slotTrip n 2

/-- FET_OVERTEMP (R492): the modelled FET, or a valid thermistor, at 150 °C or more; cause 3. -/
def State.fetOvertemp (s : State) (n : Nat) (modelled therm : Int) : State :=
  let on := s.rd (K.HRD_SLOT_THERM_ENABLE n) = 1 ∧ therm = 1500
  if 16 ≤ n ∨ !s.slotLive n ∨ (modelled < 1500 ∧ ¬on) then s else
  ((s.wr (K.HRD_SLOT_FET_TEMP n) (ofInt 32 modelled)).wr (K.HRD_SLOT_THERM_TEMP n)
    (if s.rd (K.HRD_SLOT_THERM_ENABLE n) = 1 then ofInt 32 therm else 0)).slotTrip n 3

/-- THERMISTOR_OUT_OF_RANGE (R492): the reading is replaced by the ambient value, and the CIC source is raised. -/
def State.thermistorOut (s : State) (n : Nat) (reading : Int) : State :=
  if 16 ≤ n ∨ s.rd (K.HRD_SLOT_THERM_ENABLE n) ≠ 1 ∨ (-400 ≤ reading ∧ reading ≤ 1500) then s
  else (s.wr (K.HRD_SLOT_THERM_TEMP n) (ofInt 32 reading)).slotIrq n

/-- RAMP_TIMEOUT (R489): the output has not reached 11.0 V in 24 V ÷ HRD_SLOT_DVDT + HRD_SLOT_FAULT_TIME; cause 4. -/
def State.rampTimeout (s : State) (n : Nat) : State :=
  let limit := 24000 * 1000000 / max 1 (s.rd (K.HRD_SLOT_DVDT n)) + s.rd (K.HRD_SLOT_FAULT_TIME n)
  if 16 ≤ n ∨ s.slotCode n ≠ 2 ∨ bit (s.rd (K.HRD_SLOT_STATE n)) 4 ∨ s.clk.dtc < (s.chan n).rampAt + limit then s else s.slotTrip n 4

/-- HRD_SLOT_FET (R494): the output stays above 1 V for more than 5 ms with the gate commanded off, after the blanking time; cause 5. -/
def State.slotFet (s : State) (n vout held : Nat) : State :=
  if 16 ≤ n ∨ s.slotLive n ∨ vout ≤ 1000 ∨ held ≤ 5000000 ∨ s.clk.dtc < (s.chan n).offAt + s.rd (K.HRD_SLOT_FET_BLANK n) then s
  else (s.wr (K.HRD_SLOT_VOUT n) (vout % 65536)).slotTrip n 5

/-- PWRFAIL_ASSERT (R497): the input falls below 10.5 V. -/
def State.pwrfail (s : State) (n vin : Nat) : State :=
  if 16 ≤ n ∨ 10500 ≤ vin ∨ bit (s.rd (K.HRD_SLOT_STATE n)) 5 then s else
  (((s.wr (K.HRD_SLOT_VIN n) vin).wrBit (K.HRD_SLOT_STATE n) 5 true).emit (.slotPin n 2 false)).slotIrq n

/-- PWRFAIL_RELEASE (R497): the input has been above 10.7 V for 1 ms. -/
def State.pwrfailEnd (s : State) (n vin : Nat) : State :=
  if 16 ≤ n ∨ vin ≤ 10700 ∨ !bit (s.rd (K.HRD_SLOT_STATE n)) 5 then s else
  ((s.wr (K.HRD_SLOT_VIN n) (vin % 65536)).wrBit (K.HRD_SLOT_STATE n) 5 false).emit (.slotPin n 2 true)

/-- SLOT_GATE_OFF (R498 steps 3 and 4): 100 µs after PORT_PERST_N fell the gate goes off. -/
def State.slotGateOff (s : State) (n : Nat) : State :=
  match (s.chan n).stopAt with
  | none => s
  | some t => if 16 ≤ n ∨ s.slotCode n ≠ 4 ∨ s.clk.dtc < t + 100000 then s else (s.slotGate n).setSlotCode n 0

/-! ### PME_Turn_Off and Power Controller Control (R145, R162, R386, R498) -/

/-- PME_TO_Ack came, or was not waited for any longer: PORT_PERST_N falls and the slot's 100 µs begin. -/
def State.pmeDone (s : State) (p : Nat) : State :=
  let n := s.rd (K.PRT_SLOT p)
  let s1 := (s.putPort p { s.port p with pmeSince := none }).perstLow p
  if n < 16 ∧ s1.slotCode n = 4 then s1.putChan n { s1.chan n with stopAt := some s1.clk.dtc } else s1

/-- PME_TO_ACK: the device on a downstream port answers PME_Turn_Off, and the link goes to L2 (R146, R516). -/
def State.pmeToAck (s : State) (p : Nat) : State :=
  if (s.port p).pmeSince.isSome then when (s.linkUp p) (·.setLtssm p 0x16) (s.pmeDone p) else s

/-- PME_TO_ACK_TIMEOUT: 10 ms without an answer (R145). -/
def State.pmeTimeout (s : State) (p : Nat) : State :=
  match (s.port p).pmeSince with
  | some t => if s.clk.dtc < t + 10000000 then s else s.pmeDone p
  | none => s

/-- POWER_CONTROLLER_CONTROL: a directly bound host's write becomes an internal commit of HRD_SLOT_ENABLE (R162, R498); it has no effect on a port
that names no slot channel or is not directly bound. -/
def State.powerControl (s : State) (p : Nat) (on : Bool) : State :=
  let n := s.rd (K.PRT_SLOT p)
  if 64 ≤ p ∨ s.role p ≠ 2 ∨ 16 ≤ n ∨ (s.boundTo p).isNone then s else
  { s with fab := { s.fab with fold := { s.fab.fold with internal := s.fab.fold.internal ++
    [{ job := .slot n on, tick := s.now, version := s.version (K.HRD_SLOT_ENABLE n) }] } } }

/-- Every channel clamped, without a trip: a cold reset, a brown-out, the Pinfold state (R92, R111, R499). -/
def State.slotsOff (s : State) : State :=
  forEach (List.range 16) (fun s n =>
    let c := s.slotCode n
    if c = 0 ∨ c = 6 then s else (s.slotGate n).setSlotCode n 0) s

end Sys2Proof.Machine
end

