-- ==== Sys2Proof/Machine/Engine.lean ====
section
/-! DEFINITION. Threads of Drover and Croft cores: registers, local memory, exceptions, stops, fabric operations and the cluster mover
(R325 to R349, R358). -/

namespace Sys2Proof.Machine

/-! ### Threads -/

/-- The execution unit of a number. -/
def unitOf (u : Nat) : ExecUnit := if u < 512 then .thread u else .croft (u - 512)

/-- The unit exists (R325). -/
def unitExists : ExecUnit → Bool
  | .thread n => n < 512
  | .croft c => c < 4

/-- The engine of a thread. -/
def engineOf (u : Nat) : Nat := u / 4

/-- The cluster of a thread; Croft cores count as 16 and up. -/
def clusterOf (u : Nat) : Nat := u / 32

/-- Set a thread. -/
def State.putThread (s : State) (u : Nat) (t : Thread) : State :=
  { s with drv := { s.drv with threads := Sparse.set (fun _ => {}) s.drv.threads u t } }

/-- Change a thread. -/
def State.onThread (s : State) (u : Nat) (f : Thread → Thread) : State := s.putThread u (f (s.thread u))

/-- A register; g0 reads 0 (R325). -/
def Thread.reg (t : Thread) (r : Reg) : BitVec 64 := if r = 0 then 0 else t.regs.getD r.toNat 0

/-- The number that a register holds. -/
def Thread.num (t : Thread) (r : Reg) : Nat := (t.reg r).toNat

/-- Write a register; g0 ignores writes (R325). -/
def Thread.set (t : Thread) (r : Reg) (v : BitVec 64) : Thread := if r = 0 then t else { t with regs := t.regs.set r.toNat v }

/-- Write a register by number. -/
def Thread.setNum (t : Thread) (r v : Nat) : Thread := t.set (BitVec.ofNat 5 r) (BitVec.ofNat 64 v)

/-- Go on to the next instruction. -/
def Thread.next (t : Thread) : Thread := { t with pc := t.pc + 4 }

/-- A thread issues instructions: in use, awake, and not ending (R326). -/
def Thread.ready (t : Thread) : Bool := t.busy && t.sleep == .awake && t.draining.isNone

/-- An operation is complete. -/
def FabOp.isDone (o : FabOp) : Bool := o.result.isSome

/-- An operation of a handle. -/
def Thread.op (t : Thread) (h : Nat) : Option FabOp := t.ops.find? (fun o => o.handle == h)

/-- Replace the operation of a handle. -/
def Thread.putOp (t : Thread) (o : FabOp) : Thread := { t with ops := t.ops.map (fun x => if x.handle = o.handle then o else x) }

/-- Free a handle. -/
def Thread.freeOp (t : Thread) (h : Nat) : Thread := { t with ops := t.ops.filter (fun x => x.handle != h) }

/-- The lowest handle not in use (R342). -/
def Thread.freeHandle (t : Thread) : Option Nat := (List.range 64).find? (fun h => (t.op h).isNone)

/-! ### Busy time (R330) and the state objects -/

/-- Account the time that a thread has been awake. -/
def State.account (s : State) (u : Nat) : State :=
  let t := s.thread u
  match t.awakeFrom with
  | none => s
  | some a =>
    if 512 ≤ u then s else
    let n := s.clk.dtc - a
    let s1 := s.onThread u (fun t => { t with awakeFrom := some s.clk.dtc })
    if n = 0 then s1 else
    let s2 := s1.add (K.DRV_ENGINE_BUSY_NS (engineOf u)) n
    { s2 with drv := { s2.drv with ns := Sparse.set (fun _ => 0) s2.drv.ns t.fold (Sparse.get (fun _ => 0) s2.drv.ns t.fold + n) } }

/-- At a boundary Drover gives Paddock the busy nanoseconds of each fold (R330). -/
def State.engineTick (s : State) : State :=
  let s1 := forEach (s.drv.threads.map (·.1)) State.account s
  let s2 := forEach s1.drv.ns (fun s e => if e.1 = 0 then s else
    s.putMeter e.1 { s.meter e.1 with engineNs := (s.meter e.1).engineNs + e.2 }) s1
  { s2 with drv := { s2.drv with ns := [] } }

/-- A sleep whose time counts as busy (R330): that in an atomic and in HALT; WAIT, FWAITH, FFENCE and LEAVE are left out of the count. -/
def Sleep.counts : Sleep → Bool
  | .awake | .atom _ | .halting _ _ => true
  | .handle _ _ | .fence _ | .leave _ | .wait _ _ _ _ => false

/-- The thread falls asleep; its time is accounted. -/
def State.sleep (s : State) (u : Nat) (w : Sleep) : State :=
  (s.account u).onThread u (fun t => { t with sleep := w, awakeFrom := if w.counts then t.awakeFrom else none })

/-- The thread wakes. -/
def State.wake (s : State) (u : Nat) (f : Thread → Thread) : State :=
  (s.account u).onThread u (fun t => f { t with sleep := .awake, awakeFrom := some s.clk.dtc })

/-- The busy threads of a cluster. -/
def State.busyThreads (s : State) (c : Nat) : List Nat :=
  (s.drv.threads.filter (fun e => e.2.busy && e.1 / 32 == c)).map (·.1)

/-- The objects that show which threads are busy (R360). -/
def State.busySync (s : State) (u : Nat) : State :=
  if 512 ≤ u then s else
  let e := engineOf u
  let mask := (List.range 4).foldl (fun m i => m + b2n (s.thread (4 * e + i)).busy * 2 ^ i) 0
  let n := (s.busyThreads (clusterOf u)).length
  (s.wrBits (K.DRV_ENGINE_STATE e) 7 4 mask).wrBits (K.DRV_CLUSTER_STATE (clusterOf u)) 31 24 ((n + 1) / 2)

/-! ### Leave (R344) -/

/-- The steps that a thread holds now: what the governor has not withdrawn. -/
def State.leaveOf (s : State) (u : Nat) : Nat := (s.thread u).leave

/-- The governor's answer to a thread's LEAVE. -/
def State.leaveAnswer (s : State) (u : Nat) : Option GovAnswer :=
  s.gov.answers.find? (fun a => a.requester == clusterOf u && a.unit_ == u)

/-- Release a thread's leave, and drop its request if it waits for one. -/
def State.dropLeave (s : State) (u : Nat) : State :=
  if 512 ≤ u then s else
  let c := clusterOf u
  let n := s.leaveOf u
  let s1 := if n = 0 then s else s.setGrant c (s.granted c - n)
  let s2 := s1.onThread u (fun t => { t with leave := 0 })
  match (s.thread u).sleep with
  | .leave _ =>
    match s2.leaveAnswer u with
    | some a => ({ s2 with gov := { s2.gov with answers := s2.gov.answers.erase a } } : State).setGrant c (s2.granted c - a.given)
    | none => match s2.gov.waiting.find? (fun q => q.requester == c && q.unit_ == u) with
      | some q => ({ s2 with gov := { s2.gov with waiting := s2.gov.waiting.erase q } } : State).govSync
      | none => s2
  | _ => s2

/-! ### Ends: HALT, exceptions, stops (R329, R345, R348) -/

/-- The exit of a thread goes to TFB, once (R330, R345). -/
def State.report (s : State) (u status result : Nat) : State :=
  match (s.thread u).work with
  | some w => ({ s with drv := { s.drv with ended := s.drv.ended ++ [(w, status, result)] } } : State).onThread u (fun t => { t with work := none })
  | none => s

/-- A thread whose messages have all been answered becomes idle; its exit is reported now unless its stop was.  The boundary after which an unloading
slot becomes empty follows its last thread (R353). -/
def State.endThread (s : State) (u status result : Nat) : State :=
  let t := s.thread u
  let s1 := (((s.dropLeave u).account u).report u status result |>.putThread u {}).busySync u
  { s1 with drv := { s1.drv with unloading := s1.drv.unloading.map (fun e => if e.1 = t.prog then (e.1, s.now) else e) } }

/-- A thread that drains, or waits in HALT, ends once its operations allow it. -/
def State.threadCheck (s : State) (u : Nat) : State :=
  let t := s.thread u
  match t.draining with
  | some r => if t.ops.all (fun o => o.open_.isEmpty) then s.endThread u r.1 r.2 else s
  | none => match t.sleep with
    | .halting st res => if t.ops.all (·.isDone) then s.endThread u st res else s
    | _ => s

/-- The zeroing of a released extent has failed (R356). -/
def State.zeroFail (s : State) (e : Nat) : State :=
  ({ s with drv := { s.drv with zeroFailed := e :: s.drv.zeroFailed.filter (· != e) } } : State).raise F.DRV_ZERO_FAIL (elemSub 8)

/-- Stop a thread: no further instruction, chunk or message; its exit is reported at once (R345 allows 2 µs: DESIGN CHOICE, log entry 142), and what is
out drains (R345, R348). -/
def State.stopThread (s : State) (u status result : Nat) : State :=
  let t := s.thread u
  if !t.busy ∨ t.draining.isSome then s else
  let unsent := (s.tfb.waits.filter (fun w => w.x == some (unitOf u))).map (·.a)
  let s1 := (((s.dropLeave u).account u).report u status result).onThread u (fun t =>
    { t with draining := some (status, result), sleep := .awake, awakeFrom := none
             ops := t.ops.map (fun o => { o with stopped := true, open_ := o.open_.filter (fun i => !(unsent.contains (1024 * o.handle + i))) }) })
  let s2 : State := { s1 with tfb := { s1.tfb with waits := s1.tfb.waits.filter (fun w => w.x != some (unitOf u)) } }
  (when (t.prog == 64 + 0x10) (·.zeroFail t.acc) s2).threadCheck u

/-- An exception (R348, R358): an engine thread stops before the instruction takes effect; a Croft core enters its handler. -/
def State.exception (s : State) (u code : Nat) : State :=
  let t := s.thread u
  if 512 ≤ u then s.onThread u (fun t => { t with excCause := code, excPc := t.pc, pc := Config.croftHandler })
  else
    let s1 := (((s.bump (K.DRV_EXCEPTIONS (clusterOf u))).count 0x8003 (clusterOf u)).raise F.DRV_EXCEPTION (elem 7 (engineOf u))).cicRaise
      (0x200 + engineOf u)
    s1.stopThread u (0x80000000 + code * 65536) t.pc

abbrev X.ILLEGAL : Nat := 1
abbrev X.PRIV : Nat := 2
abbrev X.ALIGN : Nat := 3
abbrev X.LOCAL_RANGE : Nat := 4
abbrev X.PC_RANGE : Nat := 5
abbrev X.SPACE : Nat := 6
abbrev X.LENGTH : Nat := 7
abbrev X.TIME_LIMIT : Nat := 8
abbrev X.MEMORY : Nat := 9
abbrev X.TRAP : Nat := 10
abbrev X.HANDLE : Nat := 11

/-! ### Programs (R350) -/

/-- CODE_SIZE, CONST_SIZE and DATA_SIZE of a slot's program. -/
def State.codeSize (s : State) (slot : Nat) : Nat := s.header slot 16 4
def State.constSize (s : State) (slot : Nat) : Nat := s.header slot 20 4
def State.dataSize (s : State) (slot : Nat) : Nat := s.header slot 24 4

/-- The thread's time limit in ns (R349). -/
def State.timeLimit (s : State) (t : Thread) : Nat :=
  let us := if t.prog < 64 then s.header t.prog 32 4 else Config.serviceTimeLimit (t.prog - 64)
  if us = 0 then s.rd K.DRV_THREAD_TIMEOUT else 1000 * us

/-! ### Local memory (R331 to R333) -/

/-- Where a local range lies. -/
inductive Seg where
  | scratch (key : Nat)
  | const (off : Nat)
  | data (key : Nat)
deriving DecidableEq, Repr

/-- The number of the first octet of a data segment. -/
def segBase (cluster slot fold : Nat) : Nat := ((cluster * 128 + slot) * 1024 + fold) * 2 ^ 20

/-- The segment that wholly holds a local range, if one does. -/
def State.seg (s : State) (u addr len : Nat) : Option Seg :=
  let t := s.thread u
  let cs := if t.prog < 64 ∧ u < 512 then s.constSize t.prog else 0
  let ds := if 512 ≤ u then 2 ^ 20 else if t.prog < 64 then s.dataSize t.prog else 0
  if addr + len ≤ 0x4000 then some (.scratch (16384 * u + addr))
  else if 0x1000000 ≤ addr ∧ addr + len ≤ 0x1000000 + cs then some (.const (addr - 0x1000000))
  else if 0x2000000 ≤ addr ∧ addr + len ≤ 0x2000000 + ds then
    some (.data (segBase (if 512 ≤ u then u else clusterOf u) t.prog t.fold + (addr - 0x2000000)))
  else none

/-- Read local octets. -/
def State.segRead (s : State) (u : Nat) (g : Seg) (n : Nat) : List Byte :=
  match g with
  | .scratch k => (List.range n).map (fun i => Sparse.get memDefault s.drv.scratch (k + i))
  | .const o => slice (s.image (s.thread u).prog) (256 + s.codeSize (s.thread u).prog + o) n
  | .data k => (List.range n).map (fun i => Sparse.get memDefault s.drv.segs (k + i))

/-- Octets written over a sparse memory. -/
def cellsPut (l : List Host.Cell) (k : Nat) : List Byte → List Host.Cell
  | [] => l
  | b :: r => cellsPut (Sparse.set memDefault l k b) (k + 1) r

/-- Write local octets; the constant segment takes none. -/
def State.segWrite (s : State) (g : Seg) (d : List Byte) : State :=
  match g with
  | .scratch k => { s with drv := { s.drv with scratch := cellsPut s.drv.scratch k d } }
  | .const _ => s
  | .data k => { s with drv := { s.drv with segs := cellsPut s.drv.segs k d } }

/-- A read of the segment meets an uncorrectable error (R359). -/
def State.segBad (s : State) (u : Nat) (g : Seg) : Bool :=
  match g with
  | .scratch _ => s.drv.badSlices.contains u
  | .const _ => false
  | .data k => s.drv.badSegs.contains (k / 2 ^ 20 * 2 ^ 20)

/-- The segment can be written. -/
def Seg.writable : Seg → Bool
  | .const _ => false
  | _ => true

/-! ### An instruction (R326, R348) -/

/-- The word at a thread's pc names an instruction or register that was added after the ABI major of its image (R351). -/
def State.laterWord (s : State) (u : Nat) : Bool :=
  let t := s.thread u
  let major := s.header t.prog 5 1
  decide (u < 512 ∧ t.prog < 64 ∧ major < 3) && Config.addedAfter major (field (s.image t.prog) (256 + t.pc) 4)

/-- The unit executes an instruction: it must be ready, its pc inside its program, and the instruction one of its image's ABI. -/
def State.instr (s : State) (x : ExecUnit) (f : Nat → Thread → State → State) : State :=
  let u := unitNum x
  let t := s.thread u
  if !unitExists x ∨ !t.ready then s
  else if u < 512 ∧ t.prog < 64 ∧ (t.pc % 4 ≠ 0 ∨ s.codeSize t.prog ≤ t.pc) then s.exception u X.PC_RANGE
  else if s.laterWord u then s.exception u X.ILLEGAL
  else
    let t1 : Thread := { t with cycles := t.cycles + 1 }
    let s1 := if u < 512 then (s.putThread u t1).count 0x8001 (clusterOf u) else s.putThread u t1
    f u t1 s1

/-- An instruction that writes a register and goes on. -/
def State.alu (s : State) (x : ExecUnit) (rd : Reg) (v : Thread → BitVec 64) : State :=
  s.instr x (fun u t s => s.putThread u ((t.set rd (v t)).next))

/-- As `alu`, if its reserved fields are 0; else ILLEGAL (R335). -/
def State.aluIf (s : State) (x : ExecUnit) (ok : Bool) (rd : Reg) (v : Thread → BitVec 64) : State :=
  s.instr x (fun u t s => if ok then s.putThread u ((t.set rd (v t)).next) else s.exception u X.ILLEGAL)

/-- Sign extension of an immediate to 64 bits. -/
def sext (i : BitVec 16) : BitVec 64 := i.signExtend 64

/-- Zero extension of an immediate to 64 bits. -/
def zext (i : BitVec 16) : BitVec 64 := i.zeroExtend 64

/-- A condition as a register value. -/
def flag (b : Bool) : BitVec 64 := if b then 1 else 0

/-- The number of leading zeros of a word. -/
def clz64 (v : BitVec 64) : Nat := ((List.range 64).find? (fun i => v.getLsbD (63 - i))).getD 64

/-- The offset of a CIC register's word that a Croft core addresses (R437). -/
def croftReg (u a n : Nat) : Option Nat :=
  if 512 ≤ u ∧ n = 4 ∧ 0x10000000 ≤ a ∧ a < 0x10005400 then some (a - 0x10000000) else none

/-- A local load (R331, R437): alignment, then range, then the checkers.  DESIGN CHOICE: a word that holds no register reads 0. -/
def State.load (s : State) (x : ExecUnit) (rt ra : Reg) (off : BitVec 16) (n : Nat) (signed : Bool) : State :=
  s.instr x (fun u t s =>
    let a := (t.reg ra + sext off).toNat
    let word := fun (v : Nat) => if signed then BitVec.ofInt 64 (sint (8 * n) v) else BitVec.ofNat 64 v
    if a % n ≠ 0 then s.exception u X.ALIGN else
    match croftReg u a n, s.seg u a n with
    | some o, _ =>
      let r := (s.cicRead (u - 512) o).getD (0, s)
      r.2.putThread u ((t.set rt (word r.1)).next)
    | none, none => s.exception u X.LOCAL_RANGE
    | none, some g =>
      if s.segBad u g then s.exception u X.MEMORY else s.putThread u ((t.set rt (word (leNat (s.segRead u g n)))).next))

/-- A local store (R331, R437).  DESIGN CHOICE: a word that holds no register, or a read-only one, takes none. -/
def State.store (s : State) (x : ExecUnit) (rt ra : Reg) (off : BitVec 16) (n : Nat) : State :=
  s.instr x (fun u t s =>
    let a := (t.reg ra + sext off).toNat
    if a % n ≠ 0 then s.exception u X.ALIGN else
    match croftReg u a n, s.seg u a n with
    | some o, _ => ((s.cicWrite (u - 512) o (t.num rt % 2 ^ 32)).getD s).putThread u t.next
    | none, none => s.exception u X.LOCAL_RANGE
    | none, some g => if !g.writable then s.exception u X.LOCAL_RANGE else
      (s.segWrite g (leBytes n (t.num rt))).putThread u t.next)

/-- LATOM (R333, R335, R336): one indivisible read and write of the data segment. -/
def State.latom (s : State) (x : ExecUnit) (rd ra rb : Reg) (size8 : Bool) (func : Nat) : State :=
  s.instr x (fun u t s =>
    let n := if size8 then 8 else 4
    let a := t.num ra
    if func = 0 ∨ 10 < func then s.exception u X.ILLEGAL
    else if a % n ≠ 0 then s.exception u X.ALIGN
    else match s.seg u a n with
      | some (.data k) =>
        if s.segBad u (.data k) then s.exception u X.MEMORY else
        let old := leNat (s.segRead u (.data k) n)
        let new := atomicNew func n old (t.num rb) (t.num rd)
        (s.segWrite (.data k) (leBytes n new)).putThread u ((t.set rd (BitVec.ofNat 64 old)).next)
      | _ => s.exception u X.LOCAL_RANGE)

/-- A conditional branch: the offset counts instructions from the branch (R334). -/
def State.branch (s : State) (x : ExecUnit) (c : Thread → Bool) (off : BitVec 16) : State :=
  s.instr x (fun u t s => s.putThread u (if c t then { t with pc := (BitVec.ofNat 64 t.pc + 4 * sext off).toNat } else t.next))

/-- JAL. -/
def State.jal (s : State) (x : ExecUnit) (rd : Reg) (off : BitVec 21) : State :=
  s.instr x (fun u t s => s.putThread u { t.set rd (BitVec.ofNat 64 (t.pc + 4)) with pc := (BitVec.ofNat 64 t.pc + 4 * off.signExtend 64).toNat })

/-- JALR: the target is formed before rd is written. -/
def State.jalr (s : State) (x : ExecUnit) (rd ra : Reg) (imm : BitVec 16) : State :=
  s.instr x (fun u t s => s.putThread u { t.set rd (BitVec.ofNat 64 (t.pc + 4)) with pc := (t.reg ra + 4 * sext imm).toNat })

/-! ### Control registers (R337) -/

/-- The value of a control register; none where the number is not listed. -/
def State.csr (s : State) (u : Nat) (t : Thread) (n : Nat) : Option Nat :=
  match n with
  | 0x000 => some u
  | 0x001 => some t.fold
  | 0x002 => some t.vf
  | 0x003 => some s.clk.dtc
  | 0x004 => some t.cycles
  | 0x005 => some t.moveClass
  | 0x006 => some (if u < 512 then s.rd (K.DRV_MOVER_RATE (clusterOf u)) else 0)
  | 0x007 => some (if u < 512 then s.leaveOf u else 0)
  | 0x008 => some t.moveSrc
  | 0x020 => some t.excCause
  | 0x021 => some t.excPc
  | n => if 0x010 ≤ n ∧ n ≤ 0x017 then some (s.rd (K.LOM_MARKS_RX (n - 0x010))) else none

/-- CSRR. -/
def State.csrr (s : State) (x : ExecUnit) (rd _ra : Reg) (imm : BitVec 16) : State :=
  s.instr x (fun u t s =>
    match s.csr u t imm.toNat with
    | none => s.exception u X.ILLEGAL
    | some v => if u < 512 ∧ (imm.toNat = 0x020 ∨ imm.toNat = 0x021) then s.exception u X.PRIV
      else s.putThread u ((t.set rd (BitVec.ofNat 64 v)).next))

/-- CSRW: MOVECLASS and MOVESRC for all, FOLD for Croft; every other listed register is not writable. -/
def State.csrw (s : State) (x : ExecUnit) (_rd ra : Reg) (imm : BitVec 16) : State :=
  s.instr x (fun u t s =>
    let v := t.num ra
    match imm.toNat % 4096 with
    | 0x005 => if 1 < v then s.exception u X.ILLEGAL else s.putThread u { t.next with moveClass := v }
    | 0x008 => if 2 ^ 17 ≤ v then s.exception u X.ILLEGAL else s.putThread u { t.next with moveSrc := v }
    | 0x001 =>
      if u < 512 then s.exception u X.PRIV
      else if 1023 < v then s.exception u X.ILLEGAL else s.putThread u { t.next with fold := v }
    | n => if (s.csr u t n).isSome then s.exception u X.PRIV else s.exception u X.ILLEGAL)

/-! ### Messages of fabric operations (R338 to R343) -/

/-- The fewest TLPs of at most `n` octets that cover the range: (address, length); none crosses a 4 KiB boundary (PRESUMED, the base specification's
rule for memory requests; log entry 141). -/
def cuts (n : Nat) : Nat → Nat → Nat → List (Nat × Nat)
  | 0, _, _ => []
  | k + 1, a, len =>
    if len = 0 then [] else
    let l := min len (min n (4096 - a % 4096))
    (a, l) :: cuts n k (a + l) (len - l)

/-- The messages of a read: whole lines, 8,192 bytes each at most; in the HOST space TLPs within the read request size `mrrs` (R339). -/
def readPieces (mrrs space a len : Nat) : List (Nat × Nat) :=
  if space = 1 then cuts mrrs (len / max 1 mrrs + len / 4096 + 3) a len
  else
    let a0 := a / 64 * 64
    let n := ceilDiv (a + len) 64 * 64 - a0
    (List.range (ceilDiv n 8192)).map (fun i => (a0 + 8192 * i, min 8192 (n - 8192 * i)))

/-- The messages of a write: a partial first line, whole lines, a partial last line; in the HOST space TLPs within the payload size `mps`
(R339, R343). -/
def writePieces (mps space a len : Nat) : List (Nat × Nat) :=
  if space = 1 then cuts mps (len / max 1 mps + len / 4096 + 3) a len
  else
    let first := if a % 64 = 0 ∧ 64 ≤ len then 0 else min len (64 - a % 64)
    let whole := (len - first) / 64 * 64
    let last := len - first - whole
    (if first = 0 then [] else [(a, first)])
      ++ (List.range (ceilDiv whole 8192)).map (fun i => (a + first + 8192 * i, min 8192 (whole - 8192 * i)))
      ++ (if last = 0 then [] else [(a + first + whole, last)])

/-- The engine status of a STATUS (R173, R342). -/
def engineStatus (status : Nat) : Nat := [0, 9, 7, 2, 6, 8, 4, 5].getD status 9

/-- The function of a pool VF: its PF's port and its number, where an upstream port's range holds it (R363). -/
def State.vfFunc (s : State) (v : Nat) : Option (Nat × Nat) :=
  (s.rolePorts 1).findSome? (fun p =>
    let b := s.rd (K.TFB_PF_VF_BASE p)
    if b ≤ v ∧ v < b + s.rd (K.TFB_PF_TOTAL_VFS p) then some (p, v - b + 1) else none)

/-- A pool VF. -/
def State.vf (s : State) (v : Nat) : Vf := Sparse.get (fun _ => {}) s.tfb.vfs v

/-- The PF of a port. -/
def State.pf (s : State) (p : Nat) : Pf := Sparse.get (fun _ => {}) s.tfb.pfs p

/-- The port of a function. -/
def funcPort : Func → Nat
  | .pf p => p
  | .vf p _ => p

/-- The upstream link is in L1. -/
def State.inL1 (s : State) (p : Nat) : Bool :=
  let c := bits (s.rd (K.PRT_LINK_STATE p)) 23 16
  c == 0x14 || c == 0x15

/-- Send something toward the host of a port; a link in L1 leaves it first (R386). -/
def State.hostSend (s : State) (f : Func) (o : Output) : State :=
  if s.inL1 (funcPort f) then { s with tfb := { s.tfb with asleep := s.tfb.asleep ++ [((funcPort f), f, o)] } } else s.emit o

/-- The octets of a function's Smallest Translation Unit (R389).  PRESUMED from the base specification: a VF has its PF's. -/
def State.atsUnit (s : State) (f : Func) : Nat := 4096 * 2 ^ (s.pf (funcPort f)).cfg.stu

/-- The translation of a host address for a function whose ATS Enable is set (R389): none while it is missing. -/
def State.atsLookup (s : State) (f : Func) (a : Nat) : Option Nat :=
  let u := s.atsUnit f
  (s.tfb.atc.find? (fun e => e.1 == f && e.2.1 == a / u)).map (fun e => e.2.2 * u + a % u)

/-- The routing ID of a tenant function (R361): the PF is function 0 of the secondary bus of vPPB0, and VF i follows it by i. -/
def State.routingId (s : State) (f : Func) : Nat :=
  256 * bits (Sparse.get (fun _ => 0) (s.port (funcPort f)).buses 1) 15 8 + (match f with
    | .pf _ => 0
    | .vf _ i => i)

/-- Send a Translation Request for a page of a function, non-posted: a tracker of its port waits for the answer, from when it leaves (R159, R389). -/
def State.atsSend (s : State) (f : Func) (page : Nat) : State :=
  let p := funcPort f
  (s.newTracker { tag := 0, origin := .ats f page, op := .io, target := s.device * 256 + s.rd (K.PRT_LD_FEID p 0), addr := page * s.atsUnit f
                  ingress := 78, egress := p, sentAt := if s.inL1 p then none else some s.clk.dtc }).2.hostSend f (.ats f 0 (page * s.atsUnit f))

/-- The tracker of a Translation Request. -/
def State.atsTracker (s : State) (f : Func) (page : Nat) : Option Tracker :=
  s.fab.trackers.find? (fun t => t.origin == .ats f page && t.sentAt.isSome && !t.stale)

/-- Ask for a translation, once for each unit (R389). -/
def State.atsAsk (s : State) (w : AtsWait) : State :=
  let u := s.atsUnit w.f
  let again := s.tfb.waits.any (fun v => v.f == w.f && v.addr / u == w.addr / u)
  let s1 : State := { s with tfb := { s.tfb with waits := s.tfb.waits ++ [w] } }
  if again then s1 else s1.atsSend w.f (w.addr / u)

/-- What a message of an operation asks for: a read, a write of octets, or an atomic. -/
inductive EngReq where
  | read (len : Nat)
  | write (data : List Byte)
  | atomic (code size : Nat) (operand cmp : Nat)
deriving DecidableEq, Repr

/-- The header of a memory request TLP (PRESUMED from the base specification): format and type, length in words, requester, tag 0, byte enables, and the
address in one or two words. -/
def tlpHeader (kind : TlpKind) (rid a len : Nat) : List Byte :=
  let long := decide (2 ^ 32 ≤ a)
  let ty := match kind with
    | .memRd => 0
    | .atomicFetchAdd => 0x4C
    | .atomicSwap => 0x4D
    | .atomicCas => 0x4E
    | _ => 0x40
  let dw := ceilDiv (a % 4 + len) 4
  let first := if dw ≤ 1 then (2 ^ len - 1) * 2 ^ (a % 4) % 16 else 15 * 2 ^ (a % 4) % 16
  let last := if dw ≤ 1 then 0 else 2 ^ ((a + len - 1) % 4 + 1) - 1
  let word := fun (n : Nat) => (leBytes 4 n).reverse
  [BitVec.ofNat 8 (ty + 32 * b2n long), 0, BitVec.ofNat 8 (dw % 1024 / 256), BitVec.ofNat 8 dw]
    ++ [BitVec.ofNat 8 (rid / 256), BitVec.ofNat 8 rid, 0, BitVec.ofNat 8 (16 * last + first)]
    ++ (if long then word (a / 2 ^ 32) else []) ++ word (a % 2 ^ 32 / 4 * 4)

/-- Send one message of an operation; the status where it fails at once without a message (R231, R338, R340). -/
def State.engSend (s : State) (u h space feid a cls : Nat) (r : EngReq) (host : Nat → Nat) : Option Nat × State :=
  let t := s.thread u
  let x := unitOf u
  let len := match r with
    | .read n => n
    | .write d => d.length
    | .atomic _ n _ _ => n
  let who : Initiator := { fold := if u < 512 then t.fold else 0, engine := if u < 512 then some (engineOf u) else none
                           vf := if t.vf = 0xFFFF then none else some t.vf, device := s.device }
  let data := match r with
    | .read _ => []
    | .write d => d
    | .atomic c n o m => leBytes 8 (o % 2 ^ (8 * n)) ++ (if c = 6 then leBytes 8 (m % 2 ^ (8 * n)) else [])
  let partial_ := a % 64 != 0 || len % 64 != 0
  let base : Tracker := { tag := 0, origin := .engine x h, op := .read, fold := t.fold, addr := a, len := len, ingress := 72, who := who, coherent := true }
  let tr : Tracker := match r with
    | .read n => { base with op := .read, need := permRead, kind := 1, wire := cls * 256 + 1, extension := n }
    | .write d =>
      if partial_ then { base with op := .partialWrite, need := permWrite, kind := 3, wire := 0x403, data := d, be := (2 ^ len - 1) * 2 ^ (a % 64)
                                   extension := (2 ^ len - 1) * 2 ^ (a % 64) }
      else { base with op := .write, need := permWrite, kind := 2, wire := cls * 256 + 2, data := d, be := 2 ^ 64 - 1 }
    | .atomic c n _ _ => { base with op := .atomic, need := permAtomic, kind := 4, wire := 0x404, data := data
                                     extension := c + 256 * (if n = 8 then 3 else 2) }
  match space with
  | 1 =>
    let p := s.rd (K.FLD_OWNER_PORT t.fold)
    let kind : TlpKind := match r with
      | .read _ => .memRd
      | .write _ => .memWr
      | .atomic 1 _ _ _ => .atomicFetchAdd
      | .atomic 5 _ _ _ => .atomicSwap
      | .atomic _ _ _ _ => .atomicCas
    let n := tlpNeed kind
    let rid := s.routingId (((if t.vf = 0xFFFF then none else s.vfFunc t.vf).map (fun e => Func.vf e.1 e.2)).getD (.pf p))
    let tlp : Tlp := { kind := kind, address := host a, length := len, tag := 0, header := tlpHeader kind rid (host a) len, payload := data
                       flaw := .none, ld := 0 }
    if s.foldIsolated t.fold then (some 3, s.decodeMiss (some t.fold)) else
    if 64 ≤ p then (some 7, s) else
    (none, s.submit { base with op := .io, epoch := some 0, target := s.device * 256 + s.rd (K.PRT_LD_FEID p 0), need := n.1, kind := n.2
                                wire := 0x501, data := data, tlp := some tlp, posted := !tlpNonPosted kind, coherent := false } false)
  | 2 => (none, s.submit { tr with target := feid, shared := s.sharedAt feid a } false)
  | _ =>
    match (if s.foldIsolated t.fold then none else s.extentAt t.fold a len) with
    | none => (some 3, s.decodeMiss (some t.fold))
    | some (target, dpa) =>
      (none, (s.count 0x5001 t.fold).submit { tr with
        target := target, addr := dpa, epoch := some 0, shared := s.foldFlag t.fold 0, page := some a } false)

/-- Send a message under the function's ATS: HOST addresses are translated first, and wait for a missing translation (R389). -/
def State.engIssue (s : State) (u h space feid a cls : Nat) (r : EngReq) : Option Nat × State :=
  let t := s.thread u
  match (if space = 1 ∧ t.vf ≠ 0xFFFF ∧ (s.vf t.vf).cfg.ats then s.vfFunc t.vf else none) with
  | none => s.engSend u h space feid a cls r id
  | some (p, i) =>
    match s.atsLookup (.vf p i) a with
    | some b => s.engSend u h space feid a cls r (fun _ => b)
    | none =>
      let d := match r with
        | .write d => d
        | _ => []
      (none, s.atsAsk { f := .vf p i, kind := 2, addr := a, a := h, x := some (unitOf u), data := d })

/-- Send the messages of a handle; each message is numbered 1024 × handle + its place. -/
def State.engMsgs (s : State) (u h space feid cls : Nat) (l : List (Nat × Nat)) (r : Nat → Nat → EngReq) : State :=
  (l.foldl (fun (w : Nat × State) p =>
    let q := w.2.engIssue u (1024 * h + w.1) space feid p.1 cls (r p.1 p.2)
    (w.1 + 1, match q.1 with
      | none => q.2
      | some st => q.2.onThread u (fun t => match t.op h with
        | none => t
        | some o => t.putOp { o with open_ := o.open_.filter (· != w.1), fails := o.fails ++ [(p.1, st)] }))) (0, s)).2

/-- The chunk of a MOVE that starts at its present offset (R343). -/
def FabOp.chunk (o : FabOp) : Nat := min (o.len - o.done) (4096 - (o.remote + o.done) % 4096)

/-- The octets of a fill chunk: the pattern repeated from destination offset 0. -/
def FabOp.fillBytes (o : FabOp) : List Byte :=
  let pat := leBytes 8 o.src
  (List.range o.chunk).map (fun i => pat.getD ((o.done + i) % 8) 0)

/-- The messages that an operation has out, or would send now. -/
def FabOp.pieces (o : FabOp) : List (Nat × Nat) :=
  match o.kind with
  | 0 => readPieces o.mrrs o.space o.remote o.len
  | 1 => writePieces o.mps o.space o.remote o.len
  | 2 => [(o.remote, o.len)]
  | _ => if o.writing then writePieces o.mps o.space (o.remote + o.done) o.chunk else readPieces o.mrrs o.srcSpace (o.src + o.done) o.chunk

/-- The octets that the messages of a read brought, cut to a range; octets that none brought read 0. -/
def gather (got : List (Nat × List Byte)) (a len : Nat) : List Byte :=
  let all := (sortBy (·.1) got).flatMap (·.2)
  let a0 := (sortBy (·.1) got).head?.map (·.1) |>.getD a
  fit len (slice all (a - a0) len)

/-- Write a MOVE's chunk. -/
def State.moveWrite (s : State) (u : Nat) (o : FabOp) (d : List Byte) : State :=
  let o1 := { o with writing := true, got := [], open_ := [] }
  let l := o1.pieces
  let s1 := s.onThread u (·.putOp { o1 with open_ := List.range l.length })
  s1.engMsgs u o.handle o.space o.feid o.cls l (fun a n => .write (slice d (a - (o.remote + o.done)) n))

/-- Start an operation's messages: a read, a write, an atomic, or the next chunk of a MOVE. -/
def State.opIssue (s : State) (u h : Nat) : State :=
  match (s.thread u).op h with
  | none => s
  | some o0 =>
    let o := { o0 with held := false }
    match o.kind with
    | 0 =>
      let l := o.pieces
      (s.onThread u (·.putOp { o with open_ := List.range l.length })).engMsgs u h o.space o.feid o.cls l (fun _ n => .read n)
    | 1 =>
      let l := o.pieces
      (s.onThread u (·.putOp { o with open_ := List.range l.length })).engMsgs u h o.space o.feid o.cls l
        (fun a n => .write (slice o.data (a - o.remote) n))
    | 2 =>
      (s.onThread u (·.putOp { o with open_ := [0] })).engMsgs u h o.space o.feid o.cls o.pieces
        (fun _ n => .atomic o.code n (leNat o.data) o.cmp)
    | _ =>
      match o.mkind with
      | 0 =>
        let o1 := { o with writing := false, got := [] }
        let l := o1.pieces
        (s.onThread u (·.putOp { o1 with open_ := List.range l.length })).engMsgs u h o.srcSpace o.srcFeid o.cls l (fun _ n => .read n)
      | 1 => s.moveWrite u o o.fillBytes
      | 2 => s.moveWrite u o (zeros o.chunk)
      | _ => match s.seg u (o.src + o.done) o.chunk with
        | some g => s.moveWrite u o (s.segRead u g o.chunk)
        | none => s.moveWrite u o (zeros o.chunk)

/-- An answer to a message of an operation (R342, R343, R345): it is kept for the completion; a MOVE's read goes on to its write. -/
def State.engAnswer (s : State) (x : ExecUnit) (h status : Nat) (data : List Byte) : State :=
  let u := unitNum x
  match (s.thread u).op (h / 1024) with
  | none => s
  | some o =>
    let a := (o.pieces.getD (h % 1024) (0, 0)).1
    let o1 := { o with open_ := o.open_.filter (· != h % 1024) }
    let o2 := if status ≠ 0 then { o1 with fails := o1.fails ++ [(a, engineStatus status)] } else { o1 with got := o1.got ++ [(a, data)] }
    let s1 := s.onThread u (·.putOp o2)
    if !o2.open_.isEmpty then s1
    else if (s.thread u).draining.isSome then s1.threadCheck u
    else if o2.kind = 3 ∧ o2.mkind = 0 ∧ !o2.writing ∧ o2.fails.isEmpty then s1.moveWrite u o2 (gather o2.got (o2.src + o2.done) o2.chunk)
    else s1

/-! ### Completion (R341, R342) -/

/-- The status of the lowest-addressed failing message. -/
def FabOp.status (o : FabOp) : Nat := ((sortBy (·.1) o.fails).head?.map (·.2)).getD 0

/-- Operations that ORD held back are issued once every earlier operation is complete. -/
def State.releaseOrd (s : State) (u : Nat) : State :=
  let l := (s.thread u).ops
  match l.find? (fun o => o.held) with
  | none => s
  | some o => if (l.takeWhile (fun x => x.handle != o.handle)).all (·.isDone) then s.opIssue u o.handle else s

/-- What the completion of an operation sets in motion: sleepers wake, ORD operations go, HALT ends (R329, R335, R342, R346). -/
def State.opDone (s : State) (u h status bytes : Nat) : State :=
  let s0 := if (status = 5 ∨ status = 6) ∧ u < 512 then s.raise F.DRV_OP_FAIL (elem 7 (engineOf u)) else s
  let s1 := s0.onThread u (fun t =>
    let t1 := { t with completed := true, anyBad := t.anyBad || status != 0 }
    match t1.op h with
    | some o => t1.putOp { o with result := some (status + 256 * bytes) }
    | none => t1)
  let t := s1.thread u
  let s2 := match t.sleep with
    | .handle rd g => if g = h then s1.wake u (fun t => (t.setNum rd (status + 256 * bytes)).freeOp g) else s1
    | .fence rd => if t.ops.all (·.isDone) then s1.wake u (fun t => t.setNum rd (b2n t.anyBad)) else s1
    | _ => s1
  (s2.releaseOrd u).threadCheck u

/-- FABRIC_OP_COMPLETE: every message of a read, a write or an atomic has been answered; its data is in place before its status changes (R341). -/
def State.opComplete (s : State) (x : ExecUnit) (h : Nat) : State :=
  let u := unitNum x
  let t := s.thread u
  match t.op h with
  | none => s
  | some o =>
    if !unitExists x ∨ t.draining.isSome ∨ o.isDone ∨ o.held ∨ !o.open_.isEmpty ∨ o.kind = 3 then s else
    let st := o.status
    match o.kind with
    | 0 =>
      let d := if st = 0 then gather o.got o.remote o.len else zeros o.len
      let s1 := match s.seg u o.local_ o.len with
        | some g => s.segWrite g d
        | none => s
      s1.opDone u h st 0
    | 2 =>
      let old := if st = 0 then leNat (slice (o.got.flatMap (·.2)) 0 o.len) else 0
      let s1 := (s.onThread u (fun t => { t with lastAtom := st })).opDone u h st 0
      match (s1.thread u).sleep with
      | .atom rd => s1.wake u (fun t => (t.setNum rd old).freeOp h)
      | _ => s1
    | _ => s.opDone u h st 0

/-- MOVE_CHUNK_COMPLETE: the chunk's messages are answered; the next chunk starts, or the operation ends (R343). -/
def State.chunkComplete (s : State) (x : ExecUnit) (h status : Nat) : State :=
  let u := unitNum x
  let t := s.thread u
  match t.op h with
  | none => s
  | some o =>
    if !unitExists x ∨ t.draining.isSome ∨ o.isDone ∨ o.held ∨ !o.open_.isEmpty ∨ o.kind ≠ 3 ∨ o.status ≠ status
        ∨ (status = 0 ∧ !o.writing) then s
    else if status ≠ 0 then s.opDone u h status o.done
    else
      let n := o.chunk
      let s1 := if 512 ≤ u then s else
        (s.add (K.DRV_MOVER_BYTES (clusterOf u)) n).countN 0x8002 (clusterOf u) (ceilDiv n 64)
      let s2 := s1.onThread u (·.putOp { o with done := o.done + n, writing := false, got := [] })
      if o.done + n = o.len then s2.opDone u h 0 o.len
      else if s.noTracker false then s
      else s2.opIssue u h

/-! ### Instructions that start operations (R338 to R344) -/

/-- The exception that a SPACE raises for a unit, if any (R338). -/
def State.spaceBad (s : State) (u space : Nat) : Bool :=
  match space with
  | 0 | 1 => (s.thread u).fold == 0
  | 2 => !((s.thread u).fold == 0 || s.privileged u)
  | _ => true

/-- An operation of a thread with the payload and read request sizes of its fold's host link: those of the owner port's PF, from its start
(R339; a change while it runs does not reach it: DESIGN CHOICE, log entry 141). -/
def State.sized (s : State) (u : Nat) (o : FabOp) : FabOp :=
  let c := (s.pf (s.rd (K.FLD_OWNER_PORT (s.thread u).fold))).cfg
  { o with mps := 128 * 2 ^ c.mps, mrrs := 128 * 2 ^ c.mrrs }

/-- Start an operation under a new handle, which rd receives; an ORD operation waits for the earlier ones (R341, R342). -/
def State.opStart (s : State) (u : Nat) (rd : Reg) (o : FabOp) (ord : Bool) : State :=
  let t := s.thread u
  match t.freeHandle with
  | none => s.exception u X.HANDLE
  | some h =>
    let wait := ord && t.ops.any (fun x => !x.isDone)
    let s1 := s.putThread u ((({ t with ops := t.ops ++ [{ s.sized u o with handle := h, held := wait }] }).setNum rd.toNat h).next)
    if wait then s1 else s1.opIssue u h

/-- The class of a CLASS field: TC4, TC6, TC7. -/
def classOf (c : Nat) : Nat := if c = 0 then 4 else 5 + c

/-- FRD and FWR (R339, R341).  The checks: ILLEGAL, SPACE, LENGTH, LOCAL_RANGE, MEMORY, HANDLE. -/
def State.fabricOp (s : State) (x : ExecUnit) (f : FFields) (write : Bool) : State :=
  if s.noTracker false then s else
  s.instr x (fun u t s =>
    let c := t.num f.rc
    let fl := f.flags.toNat
    let len := c % 2 ^ 32
    let space := f.space.toNat
    if fl % 4 = 3 ∨ 8 ≤ fl ∨ bits c 47 32 ≠ 0 ∨ (space ≠ 2 ∧ bits c 63 48 ≠ 0) then s.exception u X.ILLEGAL
    else if s.spaceBad u space then s.exception u X.SPACE
    else if len = 0 ∨ 8192 < len then s.exception u X.LENGTH
    else match s.seg u (t.num f.rb) len with
      | none => s.exception u X.LOCAL_RANGE
      | some g =>
        if !write && !g.writable then s.exception u X.LOCAL_RANGE
        else if write && s.segBad u g then s.exception u X.MEMORY
        else s.opStart u f.rd { handle := 0, kind := b2n write, space := space, remote := t.num f.ra, feid := bits c 63 48, cls := classOf (fl % 4)
                                len := len, local_ := t.num f.rb, data := if write then s.segRead u g len else [] } (bit fl 2))

/-- FATOM32 and FATOM64 (R340): the thread sleeps until the result is in. -/
def State.fatom (s : State) (x : ExecUnit) (f : FFields) (n : Nat) : State :=
  if s.noTracker false then s else
  s.instr x (fun u t s =>
    let code := f.flags.toNat
    let space := f.space.toNat
    if code = 0 ∨ 10 < code ∨ (code ≠ 6 ∧ f.rc ≠ 0) then s.exception u X.ILLEGAL
    else if s.spaceBad u space then s.exception u X.SPACE
    else if t.num f.ra % n ≠ 0 then s.exception u X.ALIGN
    else if space = 1 ∧ code ≠ 1 ∧ code ≠ 5 ∧ code ≠ 6 then
      s.putThread u ({ t.set f.rd 0 with lastAtom := 9, completed := true, anyBad := true }.next)
    else
      let o : FabOp := { handle := 64, kind := 2, space := space, remote := t.num f.ra, len := n, data := leBytes 8 (t.num f.rb), code := code
                         feid := if space = 2 then bits (t.num f.rc) 63 48 else 0
                         cmp := t.num f.rc }
      ((s.putThread u { t.next with ops := t.ops ++ [o] }).sleep u (.atom f.rd.toNat)).opIssue u 64)

/-- MOVE (R343). -/
def State.move (s : State) (x : ExecUnit) (f : FFields) (kind : Nat) : State :=
  if s.noTracker false then s else
  s.instr x (fun u t s =>
    let c := t.num f.rc
    let fl := f.flags.toNat
    let len := c % 2 ^ 40
    let space := f.space.toNat
    let src := fl % 4
    let limit := if kind = 3 then 16384 else 2 ^ 40
    let feid := bits c 63 48
    let srcValid := bit t.moveSrc 16
    let srcFeid := if srcValid then t.moveSrc % 65536 else feid
    if fl / 4 ≠ kind ∨ (kind ≠ 0 ∧ src ≠ 0) then s.exception u X.ILLEGAL
    else if s.spaceBad u space ∨ (kind = 0 ∧ s.spaceBad u src) ∨ (kind = 0 ∧ src = 2 ∧ !srcValid ∧ space ≠ 2) then s.exception u X.SPACE
    else
      let n := len
      if n = 0 ∨ limit < n then s.exception u X.LENGTH
      else if kind = 3 ∧ (s.seg u (t.num f.rb) n).isNone then s.exception u X.LOCAL_RANGE
      else if kind = 3 ∧ (s.seg u (t.num f.rb) n).any (s.segBad u) then s.exception u X.MEMORY
      else
        let a := t.num f.ra
        let b := t.num f.rb
        let o : FabOp := { handle := 0, kind := 3, mkind := kind, space := space, remote := a, feid := feid, cls := 6 + t.moveClass, len := n, srcSpace := src
                           src := b, srcFeid := srcFeid }
        let overlap := kind = 0 ∧ space = src ∧ (space ≠ 2 ∨ feid = srcFeid) ∧ a < b + n ∧ b < a + n
        if overlap then
          match t.freeHandle with
          | none => s.exception u X.HANDLE
          | some h => s.putThread u ((({ t with ops := t.ops ++ [{ o with handle := h, result := some 11 }], completed := true, anyBad := true }).setNum
              f.rd.toNat h).next)
        else s.opStart u f.rd o false)

/-- FWAITH (R335, R342). -/
def State.fwaith (s : State) (x : ExecUnit) (f : FFields) : State :=
  s.instr x (fun u t s =>
    let h := t.num f.ra
    match (if h < 64 then t.op h else none) with
    | none => s.exception u X.HANDLE
    | some o => match o.result with
      | some r => s.putThread u (((t.set f.rd (BitVec.ofNat 64 r)).freeOp h).next)
      | none => (s.putThread u t.next).sleep u (.handle f.rd.toNat h))

/-- FPOLL (R335, R340, R342). -/
def State.fpoll (s : State) (x : ExecUnit) (f : FFields) : State :=
  s.instr x (fun u t s =>
    let h := t.num f.ra
    if h = 0xFF then s.putThread u ((t.set f.rd (BitVec.ofNat 64 t.lastAtom)).next) else
    match (if h < 64 then t.op h else none) with
    | none => s.exception u X.HANDLE
    | some o => match o.result with
      | some r => s.putThread u (((t.set f.rd (BitVec.ofNat 64 r)).freeOp h).next)
      | none => s.putThread u ((t.set f.rd 1).next))

/-- FFENCE (R335). -/
def State.ffence (s : State) (x : ExecUnit) (f : FFields) : State :=
  s.instr x (fun u t s =>
    if t.ops.all (·.isDone) then s.putThread u ((t.set f.rd (flag t.anyBad)).next)
    else (s.putThread u t.next).sleep u (.fence f.rd.toNat))

/-- LEAVE (R344): the request replaces the thread's holding. -/
def State.leave (s : State) (x : ExecUnit) (f : FFields) : State :=
  s.instr x (fun u t s =>
    let n := min 7 (t.num f.ra)
    let s1 := s.dropLeave u
    if n = 0 ∨ 512 ≤ u then s1.onThread u (fun t => (t.set f.rd 0).next)
    else ((s1.onThread u (·.next)).sleep u (.leave f.rd.toNat)).govRequest (clusterOf u) n u)

/-- LEAVE_GRANT: the governor's answer reaches the sleeping thread. -/
def State.leaveGrant (s : State) (x : ExecUnit) : State :=
  let u := unitNum x
  match (s.thread u).sleep, s.leaveAnswer u with
  | .leave rd, some a =>
    if 512 ≤ u then s else
    ({ s with gov := { s.gov with answers := s.gov.answers.erase a } } : State).wake u (fun t => { t.setNum rd a.given with leave := a.given })
  | _, _ => s

/-! ### WAIT and SYS (R329, R346, R358) -/

/-- The conditions of a WAIT that hold. -/
def State.waitConds (s : State) (t : Thread) (from_ ticks : Nat) : Nat :=
  b2n t.completed + 2 * b2n (from_ < s.now) + 4 * b2n (decide (1 ≤ ticks ∧ from_ + ticks ≤ s.now))

/-- WAIT: a condition that already holds returns at once, and so does a WAIT with none enabled. -/
def State.wait (s : State) (x : ExecUnit) (rd ra : Reg) (imm : BitVec 16) : State :=
  s.instr x (fun u t s =>
    let mask := t.num ra % 8
    if mask = 0 then s.putThread u { (t.set rd 0).next with completed := false }
    else if bit mask 2 ∧ imm = 0 then s.exception u X.ILLEGAL
    else if bit mask 0 ∧ t.completed then s.putThread u { (t.set rd 1).next with completed := false }
    else
      let s1 := (s.putThread u t.next).sleep u (.wait rd.toNat mask s.now imm.toNat)
      if u < 512 then s1 else s1.enterMode)

/-- WAIT_WAKE: an enabled condition holds, or an interrupt wakes a Croft core (R425). -/
def State.waitWake (s : State) (x : ExecUnit) : State :=
  let u := unitNum x
  let t := s.thread u
  match t.sleep with
  | .wait rd mask from_ ticks =>
    let c := (s.waitConds t from_ ticks).land mask
    if !unitExists x ∨ (c = 0 ∧ !(512 ≤ u && (s.cicTop (u - 512)).isSome)) then s
    else s.wake u (fun t => { t.setNum rd c with completed := false })
  | _ => s

/-- HALT (R329): exit status g1[30:0], result g2, once every operation has completed. -/
def State.halt (s : State) (x : ExecUnit) : State :=
  s.instr x (fun u t s => (s.sleep u (.halting (t.num 1 % 2 ^ 31) (t.num 2))).threadCheck u)

/-- ERET: a Croft core returns from its handler to EXC_PC; an engine raises PRIV (R348, R358). -/
def State.eret (s : State) (x : ExecUnit) : State :=
  s.instr x (fun u t s => if u < 512 then s.exception u X.PRIV else s.putThread u { t with pc := t.excPc })

/-- TIME_LIMIT (R349): the thread has run past its limit, asleep or awake. -/
def State.timeLimitHit (s : State) (x : ExecUnit) : State :=
  let u := unitNum x
  let t := s.thread u
  if !unitExists x ∨ 512 ≤ u ∨ !t.busy ∨ t.draining.isSome ∨ s.clk.dtc < t.startAt + s.timeLimit t then s else s.exception u X.TIME_LIMIT

end Sys2Proof.Machine
end

