-- ==== Sys2Proof/Machine/Drover.lean ====
section
/-! DEFINITION. Drover's dispatch, service programs, program images, residency, zeroing, hot pages and faults (R327 to R329, R350 to R360). -/

namespace Sys2Proof.Machine

/-! ### Dispatch (R327, R328) -/

/-- The engine is fenced. -/
def State.engineFenced (s : State) (e : Nat) : Bool := bit (s.rd (K.DRV_ENGINE_STATE e)) 0

/-- The cluster is fenced or isolated. -/
def State.clusterOut (s : State) (c : Nat) : Bool :=
  bit (s.rd K.HRD_FENCED_CLUSTERS) c || bit (s.rd (K.DRV_CLUSTER_STATE c)) 2

/-- A thread of an engine is idle. -/
def State.idleThread (s : State) (e : Nat) : Option Nat := ((List.range 4).map (fun i => 4 * e + i)).find? (fun u => !(s.thread u).busy)

/-- An engine of a cluster that can take a descriptor. -/
def State.engineFor (s : State) (c : Nat) : Option Nat :=
  (rotFind (fun i => !s.engineFenced (8 * c + i) && (s.idleThread (8 * c + i)).isSome) 8 (Sparse.get (fun _ => 0) s.drv.enginePtr c)).map (8 * c + ·)

/-- A cluster qualifies for a program: `clusters` are those on which it is resident; without regard to P2. -/
def State.clusterFits (s : State) (clusters c : Nat) : Bool :=
  bit clusters c && bit (s.rd K.DRV_DISPATCH_MASK) c && !s.clusterOut c && (s.engineFor c).isSome

/-- The thread that takes a descriptor, in rotating order over clusters and engines (R327). -/
def State.chooseThread (s : State) (clusters : Nat) : Option Nat :=
  if s.flt.resets.contains 8 then none else
  match rotFind (fun c => s.clusterFits clusters c && !bit (s.rd K.HRD_FALLOWED) c) 16 s.drv.clusterPtr with
  | none => none
  | some c => (s.engineFor c).bind s.idleThread

/-- The program of a slot runs in fold 0: FLAGS bit 1 of its header (R350). -/
def State.inFold0 (s : State) (prog : Nat) : Bool := prog < 64 && bit (s.header prog 6 2) 1

/-- Start a program on a thread (R328); in an isolated fold it is stopped before its first instruction (R246, R345: DEDUCED, log entry 142). -/
def State.startThread (s : State) (u prog entry fold vf : Nat) (desc : List Byte) (work : Option Work) : State :=
  let clear := Sparse.get (fun _ => 0) s.drv.sliceFold u ≠ fold ∨ s.drv.badSlices.contains u
  let sc := if clear then s.drv.scratch.filter (fun e => e.1 / 16384 != u) else s.drv.scratch
  let t : Thread := { busy := true, pc := entry, fold := fold, vf := vf, prog := prog, startAt := s.clk.dtc, awakeFrom := some s.clk.dtc, work := work
                      desc := desc, regs := ((List.replicate 32 0).set 1 0x3FC0).set 30 0x3FC0 }
  let c := clusterOf u
  let s1 : State := { s with drv := { s.drv with
    scratch := cellsPut sc (16384 * u + 0x3FC0) (fit 64 desc)
    sliceFold := Sparse.set (fun _ => 0) s.drv.sliceFold u fold
    badSlices := s.drv.badSlices.filter (· != u)
    clusterPtr := (c + 1) % 16
    enginePtr := Sparse.set (fun _ => 0) s.drv.enginePtr c ((engineOf u % 8 + 1) % 8) } }
  let s2 := ((s1.putThread u t).busySync u).bump (K.DRV_DISPATCHED c)
  if s2.foldIsolated fold then s2.stopThread u 0xC0000005 0 else s2

/-- Stop the threads that satisfy a condition, for a reason of R345. -/
def State.stopWhere (s : State) (reason : Nat) (p : Nat → Thread → Bool) : State :=
  forEach ((s.drv.threads.filter (fun e => e.1 < 512 && e.2.busy && p e.1 e.2)).map (·.1))
    (fun s u => s.stopThread u (0xC0000000 + reason) 0) s

/-! ### Data segments (R332) -/

/-- The folds that a slot's program may run in. -/
def State.progFolds (s : State) (slot : Nat) : List Nat := strBits (s.rdo (K.DRV_PROG_FOLDS slot))

/-- The loaded slots. -/
def State.slotsLoaded (s : State) : List Nat := s.drv.images.map (·.1)

/-- A data segment exists: the program is resident on the cluster with the fold permitted. -/
def State.segLive (s : State) (key : Nat) : Bool :=
  let n := key / 2 ^ 20
  let slot := n / 1024 % 128
  16 ≤ n / 131072 || (bit (s.rd (K.DRV_PROG_CLUSTERS slot)) (n / 131072) && (s.progFolds slot).contains (n % 1024) && s.slotsLoaded.contains slot)

/-! ### Fences and faults (R35, R106, R359, R448) -/

/-- Fence an engine: it takes no dispatch, and its threads stop with reason 2. -/
def State.fenceEngine (s : State) (e : Nat) : State :=
  let c := e / 8
  let s1 := (s.wrBit (K.DRV_ENGINE_STATE e) 0 true).wrBit (K.DRV_CLUSTER_STATE c) (8 + e % 8) true
  let s2 := s1.wro K.HRD_FENCED_ENGINES (putStrBit (s1.rdo K.HRD_FENCED_ENGINES) e true)
  s2.stopWhere 2 (fun u _ => engineOf u == e)

/-- Fence a cluster and its 8 engines (R106, R108). -/
def State.fenceCluster (s : State) (c : Nat) : State :=
  let s1 := (((s.wrBit K.HRD_FENCED_CLUSTERS c true).wrBits (K.DRV_CLUSTER_STATE c) 1 0 2).cicFence (4 + c)).cicRaise (0x280 + c)
  let s2 := s1.wrBits (K.DRV_CLUSTER_STATE c) 15 8 0xFF
  (forEach (List.range 8) (fun s i => (s.wrBit (K.DRV_ENGINE_STATE (8 * c + i)) 0 true).wro K.HRD_FENCED_ENGINES
    (putStrBit (s.rdo K.HRD_FENCED_ENGINES) (8 * c + i) true)) s2).stopWhere 3
    (fun u _ => clusterOf u == c)

/-- Isolate a cluster (R359, R448): its threads stop with reason 3, and the CIC drops it. -/
def State.isolateCluster (s : State) (c : Nat) : State :=
  ((((s.wrBit (K.DRV_CLUSTER_STATE c) 2 true).wrBit (K.DRV_CLUSTER_STATE c) 0 false).cicFence (4 + c)).cicRaise (0x280 + c)).stopWhere 3 (fun u _ => clusterOf u == c)

/-- CLUSTER_RETEST_DONE (R448): an acknowledged cluster takes dispatch again, or stays fenced. -/
def State.clusterRetest (s : State) (c : Nat) (pass : Bool) : State :=
  if !s.flt.retest.contains c then s else
  let s1 : State := { s with flt := { s.flt with retest := s.flt.retest.filter (· != c) } }
  if pass then ((s1.wrBit (K.DRV_CLUSTER_STATE c) 2 false).wrBit (K.DRV_CLUSTER_STATE c) 0 true).cicUnfence (4 + c)
  else (s1.fenceCluster c).raiseD F.HRD_SELFTEST (elem 8 c) 9 0 0

/-- DRV_ENGINE: an engine's checker fails; the engine is fenced (R359). -/
def State.engineFault (s : State) (e : Nat) : State :=
  if 128 ≤ e then s else (s.fenceEngine e).raise F.DRV_ENGINE (elem 7 e)

/-- DRV_CLUSTER: the cluster's memory control, mover or instruction store fails; the collector isolates it. -/
def State.clusterFault (s : State) (c : Nat) : State := if 16 ≤ c then s else s.raise F.DRV_CLUSTER (elem 8 c)

/-- DRV_SRAM_ECC: in a thread's slice, or in the cluster's data segments (R359). -/
def State.sramEcc (s : State) (c : Nat) (k : EccKind) (place : SramPlace) : State :=
  let there := match place with
    | .slice u => clusterOf u == c
    | .segment slot fold => slot < 64 && fold < 1024 && s.segLive (segBase c slot fold)
  if 16 ≤ c ∨ !there then s else
  match k with
  | .corrected => s.raise F.DRV_SRAM_ECC (elem 8 c)
  | .uncorrectable =>
    let s1 : State := match place with
      | .slice u => { s with drv := { s.drv with badSlices := u :: s.drv.badSlices.filter (· != u) } }
      | .segment slot fold => { s with drv := { s.drv with badSegs := segBase c slot fold :: s.drv.badSegs.filter (· != segBase c slot fold) } }
    s1.raiseGrave F.DRV_SRAM_ECC (elem 8 c)

/-- DRV_ENGINE_FENCE (R360): 1 fences the engine, other values RANGE. -/
def State.fenceWrite (s : State) (e v : Nat) : Nat × State := if v = 1 then (0, s.fenceEngine e) else (1, s)

/-! ### Program images (R350, R351, R353) -/

/-- The device's minor ABI version of a major (R351). -/
def abiMinor (major : Nat) : Nat := if major = 1 then 2 else if major = 2 then 3 else 0

/-- The length of an image by its header. -/
def imageLength (i : List Byte) : Nat := 256 + field i 16 4 + field i 20 4

/-- The checks of an image other than its signature (R350, R351, R353). -/
def imageOk (i : List Byte) : Bool :=
  let major := field i 5 1
  let fl := field i 6 2
  let id := field i 8 4
  let code := field i 16 4
  let key := field i 36 1
  field i 0 4 == 0x50565244 && 1 ≤ major && major ≤ 3 && field i 4 1 ≤ abiMinor major && fl < 8 && 1 ≤ id && key ≤ 4
    && (if key = 0 then true else fl == 0 && 0x100 ≤ id) && 4 ≤ code && code ≤ 262144 && code % 4 == 0 && field i 20 4 % 64 == 0 && field i 20 4 ≤ 262144
    && field i 24 4 % 64 == 0 && field i 24 4 ≤ 2 ^ 20 && field i 28 4 < code && field i 32 4 ≤ 600000000
    && (slice i 37 91).all (· == 0) && (slice i 224 32).all (· == 0) && ceilDiv (imageLength i) 1024 * 1024 == i.length

/-- The signature of an image (R350): over the image with its signature field taken as 0. -/
def State.imageSigned (s : State) (i : List Byte) : Bool :=
  let key := field i 36 1
  let pub := if key = 0 then [] else s.rdo (K.DRV_PROG_KEY (key - 1))
  (key == 0 || !pub.isEmpty) && Config.programSigned (i.take (imageLength i)) pub

/-- DRV_LOAD_CTRL (R353): the status and the state; `perm` are the permissions of the session. -/
def State.loadCtrl (s : State) (perm v : Nat) : Nat × State :=
  let slot := s.rd K.DRV_LOAD_SLOT
  let st := s.rd K.DRV_LOAD_STATUS
  match v with
  | 1 =>
    if st = 1 ∨ st = 2 ∨ s.rd (K.DRV_PROG_STATE slot) ≠ 0 ∨ 64 ≤ slot then (1, s) else
    (0, (({ s with drv := { s.drv with load := some { slot := slot, image := [], verifying := false } } } : State).wr K.DRV_LOAD_STATUS 1).wr
      K.DRV_LOAD_OFFSET 0)
  | 2 => match s.drv.load with
    | some l =>
      if l.verifying then (1, s)
      else if !bit perm (if field l.image 36 1 = 0 then 3 else 1) then (0x11, s)
      else (0, ({ s with drv := { s.drv with load := some { l with verifying := true } } } : State).wr K.DRV_LOAD_STATUS 2)
    | none => (1, s)
  | 3 => match s.drv.load with
    | some _ => (0, (({ s with drv := { s.drv with load := none } } : State).wr K.DRV_LOAD_STATUS 0).wr K.DRV_LOAD_OFFSET 0)
    | none => (1, s)
  | 4 =>
    if 64 ≤ slot ∨ ¬(s.rd (K.DRV_PROG_STATE slot) = 1 ∨ s.rd (K.DRV_PROG_STATE slot) = 2) then (1, s) else
    let s1 : State := { s with drv := { s.drv with unloading := (slot, s.now) :: s.drv.unloading } }
    (0, (s1.wr (K.DRV_PROG_STATE slot) 3).stopWhere 4 (fun _ t => t.prog == slot))
  | _ => (1, s)

/-- A chunk of an image (R353): exactly 1,024 octets, in order, while receiving. -/
def State.loadChunk (s : State) (d : List Byte) : Nat × State :=
  match s.drv.load with
  | some l =>
    if l.verifying ∨ d.length ≠ 1024 ∨ 525312 < l.image.length + 1024 then (1, s) else
    (0, ({ s with drv := { s.drv with load := some { l with image := l.image ++ d } } } : State).wr K.DRV_LOAD_OFFSET (l.image.length + 1024))
  | none => (1, s)

/-- LOAD_VERIFY_DONE: a good image fills its slot; a bad one leaves it empty and is recorded (R353). -/
def State.loadVerified (s : State) : State :=
  match s.drv.load with
  | some l =>
    if !l.verifying then s else
    let s0 : State := { s with drv := { s.drv with load := none } }
    if imageOk l.image && s.imageSigned l.image then
      let i := l.image.take (imageLength l.image)
      let s0 := (s0.cmnWrite (s0.carveAt 6 + 2 ^ 20 * l.slot) i allBytes).2
      let s1 : State := { s0 with drv := { s0.drv with images := Sparse.insert l.slot i s0.drv.images } }
      (((((s1.wr (K.DRV_PROG_STATE l.slot) 1).wr (K.DRV_PROG_ID l.slot) (field i 8 4)).wr (K.DRV_PROG_VERSION l.slot) (field i 12 4)).wr
        (K.DRV_PROG_ABI l.slot) (field i 4 2)).wro (K.DRV_PROG_HASH l.slot) (sha384 i)).wr K.DRV_LOAD_STATUS 3
    else (s0.wr K.DRV_LOAD_STATUS 5).raise F.DRV_LOAD (elemSub 8)
  | none => s

/-! ### Residency (R332, R354) -/

/-- Code and data octets that the resident programs take on a cluster (R354). -/
def State.residentCode (s : State) (c : Nat) : Nat :=
  s.slotsLoaded.foldl (fun n j => n + if bit (s.rd (K.DRV_PROG_CLUSTERS j)) c then s.codeSize j else 0) 0
def State.residentData (s : State) (c : Nat) : Nat :=
  s.slotsLoaded.foldl (fun n j => n + if bit (s.rd (K.DRV_PROG_CLUSTERS j)) c then s.constSize j + s.dataSize j * (s.progFolds j).length else 0) 0

/-- After a change of residency: threads that lost their place stop with reason 4, segments that end are zeroed, the objects follow. -/
def State.residencyApplied (s : State) : State :=
  let s1 := s.stopWhere 4 (fun u t => t.prog < 64 && !(s.slotsLoaded.contains t.prog && bit (s.rd (K.DRV_PROG_CLUSTERS t.prog)) (clusterOf u)
    && (t.fold == 0 || (s.progFolds t.prog).contains t.fold)))
  let s2 : State := { s1 with drv := { s1.drv with 
    segs := s1.drv.segs.filter (fun e => s1.segLive e.1)
    badSegs := s1.drv.badSegs.filter s1.segLive } }
  let s3 := forEach s2.slotsLoaded (fun s j => if s.rd (K.DRV_PROG_STATE j) = 3 then s else
    s.wr (K.DRV_PROG_STATE j) (if s.rd (K.DRV_PROG_CLUSTERS j) = 0 then 1 else 2)) s2
  forEach (List.range 16) (fun s c => s.wr (K.DRV_SRAM_FREE c) (2097152 - s.residentData c)) s3

/-- UNLOAD_COMPLETE (R353): at a boundary after its threads have stopped, the slot's residency and segments go and it becomes empty. -/
def State.unloadDone (s : State) (slot : Nat) : State :=
  match s.drv.unloading.find? (fun e => e.1 == slot) with
  | none => s
  | some e =>
    if s.now ≤ e.2 ∨ s.drv.threads.any (fun t => t.1 < 512 && t.2.busy && t.2.prog == slot) then s else
    let s1 : State := { s with drv := { s.drv with unloading := s.drv.unloading.erase e, images := Sparse.erase slot s.drv.images } }
    ((((((s1.wr (K.DRV_PROG_STATE slot) 0).wr (K.DRV_PROG_ID slot) 0).wr (K.DRV_PROG_VERSION slot) 0).wr (K.DRV_PROG_ABI slot) 0).wro
      (K.DRV_PROG_HASH slot) (zeros 48)).wr (K.DRV_PROG_CLUSTERS slot) 0 |>.wro (K.DRV_PROG_FOLDS slot) (zeros 128)).residencyApplied

/-! ### Service programs (R355) -/

/-- The descriptor's fields that a service program uses: SRC, DST, LENGTH, ARG and the spaces. -/
def descSrc (d : List Byte) : Nat := field d 8 8
def descDst (d : List Byte) : Nat := field d 16 8
def descLen (d : List Byte) : Nat := field d 24 8
def descArg (d : List Byte) : Nat := field d 32 8
def descSrcSpace (d : List Byte) : Nat := b2n (bit (field d 1 1) 0)
def descDstSpace (d : List Byte) : Nat := b2n (bit (field d 1 1) 1)

/-- Issue an operation of a service program under the next handle. -/
def State.serviceOp (s : State) (u : Nat) (o : FabOp) : State :=
  match (s.thread u).freeHandle with
  | none => s
  | some h => (s.onThread u (fun t => { t with ops := t.ops ++ [{ s.sized u o with handle := h }] })).opIssue u h

/-- A service program waits for its operations as FWAITH and FFENCE do: it sleeps, uncounted, until all have completed (R330, R355). -/
def State.serviceAwait (s : State) (u : Nat) : State := if (s.thread u).ops.all (·.isDone) then s else s.sleep u (.fence 0)

/-- The MOVE of a descriptor over part of its range: kind 0 copy, 1 fill, 2 zero. -/
def descMove (d : List Byte) (kind off len : Nat) : FabOp :=
  let cls := 6 + b2n (bit (field d 1 1) 3)
  { handle := 0, kind := 3, mkind := kind, space := descDstSpace d, remote := descDst d + off, cls := cls, len := len, srcSpace := descSrcSpace d
    src := if kind = 1 then descArg d else descSrc d + off }

/-- The exit of a service program (R380): the first failing status, and the result. -/
def State.serviceEnd (s : State) (u status result : Nat) : State :=
  (s.onThread u (fun t => { t with ops := [] })).sleep u (.halting status result) |>.threadCheck u

/-- What the completed MOVEs of a thread amount to: the first failing status and the octets completed before it. -/
def movesResult (l : List FabOp) : Nat × Nat :=
  l.foldl (fun w o => let r := o.result.getD 0
    if w.1 ≠ 0 then w else (r % 256, w.2 + r / 256)) (0, 0)

/-- A step of COPY, FILL and ZERO (R355): issue the MOVEs, above 64 MiB of a copy 8 of them under leave; then end with their outcome. -/
def State.serviceMove (s : State) (x : ExecUnit) (prog kind : Nat) : State :=
  let u := unitNum x
  let t := s.thread u
  if !unitExists x ∨ !t.ready ∨ t.prog ≠ 64 + prog ∨ s.noTracker false then s else
  let d := t.desc
  let n := descLen d
  let big := kind = 0 ∧ 64 * 2 ^ 20 < n
  let overlap := kind = 0 ∧ descSrcSpace d = descDstSpace d ∧ descSrc d < descDst d + n ∧ descDst d < descSrc d + n
  match t.step with
  | 0 =>
    if overlap then s.serviceEnd u 11 0
    else if big then ((s.onThread u (fun t => { t with step := 1 })).sleep u (.leave 0)).govRequest (clusterOf u) 7 u
    else ((s.onThread u (fun t => { t with step := 2 })).serviceOp u (descMove d kind 0 n)).serviceAwait u
  | 1 =>
    (forEach (List.range 8) (fun s i =>
      let a := n * i / 8
      s.serviceOp u (descMove d kind a (n * (i + 1) / 8 - a))) (s.onThread u (fun t => { t with step := 2 }))).serviceAwait u
  | _ =>
    if t.ops.all (·.isDone) then
      let r := movesResult t.ops
      s.serviceEnd u r.1 r.2
    else s

/-- A read of a service program into its scratch slice. -/
def serviceRead (space remote local_ len : Nat) : FabOp := { handle := 0, kind := 0, space := space, remote := remote, cls := 4, len := len, local_ := local_ }

/-- A step of CRC32C (R355, R375): reads of 8 KiB, one after the other. -/
def State.serviceCrc (s : State) (x : ExecUnit) : State :=
  let u := unitNum x
  let t := s.thread u
  if !unitExists x ∨ !t.ready ∨ t.prog ≠ 64 + 4 ∨ s.noTracker false then s else
  let d := t.desc
  let n := descLen d
  let piece := fun (k : Nat) => min 8192 (n - 8192 * k)
  let issue := fun (s : State) (k : Nat) => (s.serviceOp u (serviceRead (descSrcSpace d) (descSrc d + 8192 * k) 0 (piece k))).serviceAwait u
  match t.ops with
  | [] => issue (s.onThread u (fun t => { t with acc := descArg d % 2 ^ 32 })) t.step
  | o :: _ => match o.result with
    | none => s
    | some r =>
      if r % 256 ≠ 0 then s.serviceEnd u (r % 256) (8192 * t.step)
      else if s.segBad u (.scratch (16384 * u)) then s.exception u X.MEMORY else
      let v := (s.segRead u (.scratch (16384 * u)) (piece t.step)).foldl (fun c b => crcByte 0x82F63B78 8 (c.xor b.toNat)) t.acc
      if n ≤ 8192 * (t.step + 1) then s.serviceEnd u 0 v
      else issue (s.onThread u (fun t => { t with acc := v, step := t.step + 1, ops := [] })) (t.step + 1)

/-- A step of COMPARE (R355, R375): both ranges are read in pieces of 4 KiB, until they differ. -/
def State.serviceCompare (s : State) (x : ExecUnit) : State :=
  let u := unitNum x
  let t := s.thread u
  if !unitExists x ∨ !t.ready ∨ t.prog ≠ 64 + 5 ∨ s.noTracker false then s else
  let d := t.desc
  let n := descLen d
  let piece := fun (k : Nat) => min 4096 (n - 4096 * k)
  let issue := fun (s : State) (k : Nat) =>
    ((s.serviceOp u (serviceRead (descSrcSpace d) (descSrc d + 4096 * k) 0 (piece k))).serviceOp u
      (serviceRead (descDstSpace d) (descDst d + 4096 * k) 0x1000 (piece k))).serviceAwait u
  if t.ops.isEmpty then issue s t.step
  else if !t.ops.all (·.isDone) then s
  else match t.ops.find? (fun o => o.result.getD 0 % 256 != 0) with
    | some o => s.serviceEnd u (o.result.getD 0 % 256) (4096 * t.step)
    | none =>
      if s.segBad u (.scratch (16384 * u)) then s.exception u X.MEMORY else
      let a := s.segRead u (.scratch (16384 * u)) (piece t.step)
      let b := s.segRead u (.scratch (16384 * u + 0x1000)) (piece t.step)
      match (List.range (piece t.step)).find? (fun i => a.getD i 0 != b.getD i 0) with
      | some i => s.serviceEnd u 0 (4096 * t.step + i)
      | none =>
        if n ≤ 4096 * (t.step + 1) then s.serviceEnd u 0 (2 ^ 64 - 1)
        else issue (s.onThread u (fun t => { t with step := t.step + 1, ops := [] })) (t.step + 1)

/-! ### Zeroing and hot pages (R356, R357) -/

/-- The service program number of ZERO_RELEASE (R355), as threads hold it. -/
def zeroProgram : Nat := 64 + 0x10

/-- A step of ZERO_RELEASE for a released extent (R355, R356): once the extent has drained, Croft starts the program in fold 0 on an idle thread, which
asks for 7 steps of leave; with its answer the thread zeroes the target by one DIRECT MOVE of kind 2; once that is complete the row's `ok` is the
outcome, and the extent is free, or its zeroing has failed. -/
def State.zeroRelease (s : State) (e : Nat) (ok : Bool) : State :=
  match s.fab.fold.zeroing.find? (fun z => z.1 == e) with
  | none => s
  | some z =>
    match s.drv.threads.find? (fun t => t.1 < 512 && t.2.busy && t.2.prog == zeroProgram && t.2.acc == e) with
    | none =>
      if s.drv.zeroFailed.contains e
          ∨ (s.fab.fold.draining.any (fun d => d.1 == e && s.rd (K.FLD_EPOCH_INFLIGHT d.2.1 d.2.2) != 0)) then s
      else match s.chooseThread 0xFFFF with
        | none => s
        | some u =>
          ((((s.startThread u zeroProgram 0 0 0xFFFF [] none).onThread u (fun t => { t with acc := e, step := 1 })).sleep u (.leave 0)).govRequest
            (clusterOf u) 7 u)
    | some (u, t) =>
      if !t.ready ∨ s.noTracker false then s
      else if t.step = 1 then
        let o : FabOp := { handle := 0, kind := 3, mkind := 2, space := 2, remote := z.2.2.1, feid := z.2.1, cls := 6, len := z.2.2.2 }
        ((s.onThread u (fun t => { t with step := 2 })).serviceOp u o).serviceAwait u
      else if !t.ops.all (·.isDone) then s
      else
        let r := movesResult t.ops
        if (r.1 == 0) != ok then s
        else if ok then
          let s1 := s.serviceEnd u r.1 r.2
          State.drainSync { s1 with fab := { s1.fab with fold := { s1.fab.fold with zeroing := s1.fab.fold.zeroing.filter (fun y => y.1 != e) } } }
        else (s.serviceEnd u r.1 r.2).zeroFail e

/-- DRV_ZERO_RETRY (R356): the zeroing of an extent whose zeroing failed starts again. -/
def State.zeroRetry (s : State) (e : Nat) : Nat × State :=
  if s.drv.zeroFailed.contains e then (0, { s with drv := { s.drv with zeroFailed := s.drv.zeroFailed.filter (· != e) } }) else (1, s)

/-- The number of the tally interval under way. -/
def State.tallyInterval (s : State) : Nat := s.clk.dtc / max 1 (s.rd K.PDK_TALLY_INTERVAL)

/-- DRV_HOTPAGE_FOLD (R357): start HOT_PAGES on a fold, or stop it. -/
def State.hotpageFold (s : State) (f : Nat) : Nat × State :=
  if 1023 < f then (1, s) else
  let s1 : State := { s with drv := { s.drv with hot := [], hotAt := s.tallyInterval } }
  if f = 0 then (0, s1.wr (K.LOM_SAMPLER_CTRL 7) 0)
  else (0, (s1.wr (K.LOM_SAMPLER_CTRL 7) (2 ^ 31 + 4 * 2 ^ 27 + f)).wr (K.LOM_SAMPLER_N 7) (s.rd K.DRV_HOTPAGE_N))

/-- HOTPAGE_PUBLISH (R357): once each tally interval, the 256 most-sampled pages, in descending order of count; the counts start afresh. -/
def State.hotpagePublish (s : State) : State :=
  if s.rd K.DRV_HOTPAGE_FOLD = 0 ∨ s.tallyInterval = s.drv.hotAt then s else
  let top := (sortBy (fun (e : Nat × Nat) => 2 ^ 32 - sat 32 e.2) s.drv.hot).take 256
  let tab := top.flatMap (fun e => leBytes 2 (e.1 / 2 ^ 52) ++ [0, 0] ++ leBytes 4 (sat 32 e.2) ++ leBytes 8 (e.1 % 2 ^ 52))
  ({ s with drv := { s.drv with hot := [], hotAt := s.tallyInterval } } : State).wro K.DRV_HOTPAGE_TABLE (fit 4096 tab)

end Sys2Proof.Machine
end

