-- ==== Sys2Proof/Machine/Tfb.lean ====
section
/-! DEFINITION. The Tenant Function Block: functions, queues, descriptors, completions, interrupts, power states, function-level reset, address
translation and errors (R361 to R391). -/

namespace Sys2Proof.Machine

/-! ### Functions (R361 to R365) -/

/-- Set the PF of a port. -/
def State.putPf (s : State) (p : Nat) (x : Pf) : State :=
  { s with tfb := { s.tfb with pfs := Sparse.set (fun _ => {}) s.tfb.pfs p x } }

/-- Set a pool VF. -/
def State.putVf (s : State) (v : Nat) (x : Vf) : State :=
  { s with tfb := { s.tfb with vfs := Sparse.set (fun _ => {}) s.tfb.vfs v x } }

/-- Change a pool VF. -/
def State.onVf (s : State) (v : Nat) (f : Vf → Vf) : State := s.putVf v (f (s.vf v))

/-- The PF of a port exists: the port's role is committed upstream (R361). -/
def State.pfExists (s : State) (p : Nat) : Bool := p < 64 && s.role p == 1

/-- The pool VF of an entry of a PF's control array (R368): those of the VFs above NumVFs are not there. -/
def State.entryVf (s : State) (p i : Nat) : Option Nat :=
  let v := s.rd (K.TFB_PF_VF_BASE p) + i - 1
  if s.pfExists p ∧ 1 ≤ i ∧ i ≤ (s.pf p).numVfs ∧ i ≤ s.rd (K.TFB_PF_TOTAL_VFS p) ∧ v < 1024 then some v else none

/-- The pool VF of VF i of a port's PF (R363), where it is enabled or being reset. -/
def State.poolVf (s : State) (p i : Nat) : Option Nat :=
  let v := s.rd (K.TFB_PF_VF_BASE p) + i - 1
  if s.pfExists p ∧ 1 ≤ i ∧ i ≤ s.rd (K.TFB_PF_TOTAL_VFS p) ∧ v < 1024 ∧ (s.vf v).state ≠ 0 then some v else none

/-- The fold of a pool VF, 0 where it is unbound (R364). -/
def State.vfFold (s : State) (v : Nat) : Nat := s.rd (K.TFB_VF_FOLD v)

/-- The element of a pool VF (R445). -/
def elemVf (v : Nat) : Nat := elem 14 v

/-- The configuration state of a function. -/
def State.fcfg (s : State) (f : Func) : FuncCfg :=
  match f with
  | .pf p => (s.pf p).cfg
  | .vf p i => match s.poolVf p i with
    | some v => (s.vf v).cfg
    | none => {}

/-- Change the configuration state of a function. -/
def State.onFcfg (s : State) (f : Func) (g : FuncCfg → FuncCfg) : State :=
  match f with
  | .pf p => if s.pfExists p then s.putPf p { s.pf p with cfg := g (s.pf p).cfg } else s
  | .vf p i => match s.poolVf p i with
    | some v => s.onVf v (fun x => { x with cfg := g x.cfg })
    | none => s

/-- The major in force of a port's PF (R365). -/
def State.major (s : State) (p : Nat) : Nat := if (s.pf p).majorSelect = 0 then 3 else (s.pf p).majorSelect

/-- The device's minor of a major (R365). -/
def tfbMinor (m : Nat) : Nat := if m = 1 then 2 else if m = 2 then 1 else 0

/-- The VF is in D3hot, or its PF is (R385). -/
def State.vfD3 (s : State) (v : Nat) : Bool :=
  (s.vf v).cfg.d3 || (match s.vfFunc v with
    | some (p, _) => (s.pf p).cfg.d3
    | none => false)

/-- A function is in D3hot, or its PF is. -/
def State.inD3 (s : State) (f : Func) : Bool := (s.fcfg f).d3 || (s.pf (funcPort f)).cfg.d3

/-- VF_STATUS READY (R369). -/
def State.vfReady (s : State) (v : Nat) : Bool :=
  (s.vf v).state != 0 && (s.vf v).cfg.busMaster && s.vfFold v != 0 && s.isReady

/-- INFLIGHT: the descriptors fetched or dispatched (R368). -/
def Vf.inflight (x : Vf) : Nat := x.descs.length + x.running.length

/-- The entries of a queue (R371): the reserved encodings 9 to 15 count as 8. -/
def queueEntries (size : Nat) : Nat := 2 ^ (min (bits size 3 0) 8 + 4)

/-! ### Writes to host memory (R250, R364, R381, R386, R389) -/

/-- The host endpoint of a port (R364). -/
def State.hostFeid (s : State) (p : Nat) : Nat := s.device * 256 + s.rd (K.PRT_LD_FEID p 0)

/-- Who TFB is when it accesses host memory for a pool VF (R250, R364). -/
def State.tfbWho (s : State) (v : Nat) : Initiator := { fold := s.vfFold v, vf := some v, device := s.device }

/-- Read host memory for a function, a descriptor by its number or an image: a tracker of its port waits for the answer, from when the read leaves (R159). -/
def State.hostFetch (s : State) (f : Func) (v : Nat) (desc : Option Nat) (a len : Nat) : State :=
  let p := funcPort f
  (s.newTracker { tag := 0, origin := .func f desc, op := .read, target := s.hostFeid p, addr := a, len := len, ingress := 78, egress := p
                  sentAt := if s.inL1 p then none else some s.clk.dtc, who := s.tfbWho v, kind := 7 }).2.hostSend f (.hostRead p (s.routingId f) a len)

/-- The oldest read of a function whose answer is awaited: descriptor reads, or the read of an image. -/
def State.fetchTracker (s : State) (f : Func) (image : Bool) : Option (Tracker × Option Nat) :=
  s.fab.trackers.findSome? (fun t => match t.origin with
    | .func g d => if g = f ∧ d.isNone = image ∧ t.sentAt.isSome ∧ !t.stale then some (t, d) else none
    | _ => none)

/-- An access of TFB that Gatepost denies (R257): the record, the fold's violations meter. -/
def State.tfbDenied (s : State) (who : Initiator) (p addr len need : Nat) : Option State :=
  let kind := if need = permRead then 7 else 8
  match s.gtpDenied who (s.hostFeid p) addr len need with
  | none => none
  | some d =>
    let s1 := s.gtpViolation who (s.hostFeid p) addr len kind need false d
    let m := s1.meter who.fold
    some (when (who.fold != 0) (·.putMeter who.fold { m with violations := m.violations + 1 }) s1)

/-- What a posted write that waited for its translation sends (R389). -/
def AtsWait.out (w : AtsWait) (rid a : Nat) : Output :=
  if w.kind = 4 then .msix w.f w.a a w.b else .hostWrite (funcPort w.f) rid a w.data

/-- The access waits in the order of the function's posted writes. -/
def AtsWait.posted (w : AtsWait) : Bool := w.kind == 1 || w.kind == 4

/-- Write to host memory for a function, in order, after its translation where ATS Enable is set (R381, R389). -/
def State.tfbPost (s : State) (w : AtsWait) : State :=
  if !(s.fcfg w.f).ats then s.hostSend w.f (w.out (s.routingId w.f) w.addr)
  else match (if s.tfb.waits.any (fun x => x.f == w.f && x.posted) then none else s.atsLookup w.f w.addr) with
    | some b => s.hostSend w.f (w.out (s.routingId w.f) b)
    | none => s.atsAsk w

/-! ### MSI-X (R383, R385, R394) -/

/-- The MSI-X table of `n` vectors at reset: every vector masked (PRESUMED: the base specification). -/
def msixReset (n : Nat) : List Byte := (List.replicate n (zeros 12 ++ [1, 0, 0, 0])).flatten

/-- The vectors of a function (R361). -/
def funcVectors : Func → Nat
  | .pf _ => 3
  | .vf _ _ => 8

/-- The MSI-X table of a function. -/
def State.msixTable (s : State) (f : Func) : List Byte :=
  if (s.fcfg f).table.isEmpty then msixReset (funcVectors f) else (s.fcfg f).table

/-- The function's state holds its messages back: frozen, saving or restoring (R394), or in reset. -/
def State.holdsSignals (s : State) (f : Func) : Bool :=
  match f with
  | .pf _ => false
  | .vf p i => match s.poolVf p i with
    | some v => 3 ≤ (s.vf v).state
    | none => true

/-- The function is being reset (R388). -/
def State.resetting (s : State) (f : Func) : Bool :=
  match f with
  | .pf _ => false
  | .vf p i => match s.poolVf p i with
    | some v => (s.vf v).state == 6
    | none => false

/-- A vector's message may be sent: MSI-X and Bus Master are enabled, neither the function nor the vector is masked, D0, not frozen. -/
def State.vectorOpen (s : State) (f : Func) (n : Nat) : Bool :=
  let c := s.fcfg f
  c.msixEnable && c.busMaster && !c.fmask && !bit (field (s.msixTable f) (16 * n + 12) 4) 0 && !s.inD3 f && !s.holdsSignals f

/-- Send a vector's message: checked by Gatepost, dropped where it is denied or the link is down (R257, R364). -/
def State.msixSend (s : State) (f : Func) (n : Nat) : State :=
  let e := slice (s.msixTable f) (16 * n) 16
  let a := field e 0 8
  let v := match f with
    | .pf _ => none
    | .vf p i => s.poolVf p i
  let who : Initiator := match v with
    | some v => s.tfbWho v
    | none => { device := s.device }
  if !s.linkUp (funcPort f) then s else
  match s.tfbDenied who (funcPort f) a 4 permWrite with
  | some s1 => s1
  | none =>
    let s1 := match v with
      | some v => s.count 0x9002 v
      | none => s
    s1.tfbPost { f := f, kind := 4, addr := a, a := n, b := field e 8 4, data := leBytes 4 (field e 8 4) }

/-- A signal on a vector falls due (R383, R385): the message, or the PBA bit; in D3hot also PME_Status and a PM_PME. -/
def State.signal (s : State) (f : Func) (n : Nat) : State :=
  if (funcVectors f) ≤ n ∨ s.resetting f then s
  else if s.vectorOpen f n then s.msixSend f n
  else
    let s1 := s.onFcfg f (fun c => { c with pba := putBit c.pba n true })
    if !s.inD3 f then s1 else
    let s2 := s1.onFcfg f (fun c => { c with pmeStatus := true })
    let x := s.port (funcPort f)
    if (s.fcfg f).pmeEn && !x.pmeHandled && x.pmeSince.isNone && s.linkUp (funcPort f) then s2.hostSend f (.pmPme f) else s2

/-- Send the pending messages of a function's open vectors (R383, R385, R394). -/
def State.sendPending (s : State) (f : Func) : State :=
  forEach (List.range (funcVectors f)) (fun s n =>
    if bit (s.fcfg f).pba n && s.vectorOpen f n then
      (s.onFcfg f (fun c => { c with pba := putBit c.pba n false })).msixSend f n
    else s) s

/-- The functions of a port: its PF and the VFs that are not disabled. -/
def State.funcs (s : State) (p : Nat) : List Func :=
  .pf p :: (((List.range (s.rd (K.TFB_PF_TOTAL_VFS p))).map (· + 1)).filter (fun i => (s.poolVf p i).isSome)).map (Func.vf p)

/-- MSIX_UNMASK: a vector's mask bit is cleared. -/
def State.msixUnmask (s : State) (f : Func) (n : Nat) : State :=
  if (funcVectors f) ≤ n then s else
  let t := s.msixTable f
  (s.onFcfg f (fun c => { c with table := patch t (16 * n + 12) [BitVec.ofNat 8 (putBit (field t (16 * n + 12) 1) 0 false)] })).sendPending f

/-! ### Causes of the PF (R366, R367) -/

/-- A cause bit of a PF is set; its vector is signalled where it rises while enabled. -/
def State.pfCause (s : State) (p n : Nat) : State :=
  let x := s.pf p
  if bit x.intCause n then s else
  let s1 := s.putPf p { x with intCause := putBit x.intCause n true }
  if bit x.intEnable n then s1.signal (.pf p) (n - 1) else s1

/-- The bit of a VF in PF_VF_EVENT is set (R367). -/
def State.vfEvent (s : State) (v : Nat) : State :=
  match s.vfFunc v with
  | some (p, i) => (s.putPf p { s.pf p with vfEvent := putBit (s.pf p).vfEvent (i - 1) true }).pfCause p 2
  | none => s

/-! ### Queue errors (R380, R382, R390) -/

/-- VF_ERR takes a cause (R369). -/
def State.vfCause (s : State) (v c : Nat) : State := s.onVf v (fun x => { x with cause := c })

/-- A queue stops with a cause: its error bit, the PF's ERROR cause, VF_ERR_VECTOR's signal (R369, R390). -/
def State.queueStop (s : State) (v q : Nat) (sq : Bool) (c : Nat) : State :=
  let x := s.vf v
  let s1 := s.putVf v { x with
    cause := c
    sqs := if sq then x.sqs.set q { x.sqs.getD q {} with err := true, stopped := true } else x.sqs
    cqs := if sq then x.cqs else x.cqs.set q { x.cqs.getD q {} with err := true, stopped := true } }
  let s2 := s1.bump K.TFB_QUEUE_ERRORS
  match s2.vfFunc v with
  | some (p, i) => when (bit x.errVector 3) (·.signal (.vf p i) (bits x.errVector 2 0)) (s2.pfCause p 3)
  | none => s2

/-- A completion write is lost (R382). -/
def State.cplFail (s : State) (v q : Nat) : State :=
  ((s.queueStop v q false 5).bump K.TFB_CPL_WRITE_ERRORS).raise F.TFB_CPL_WRITE (elemVf v)

/-- TFB_CPL_WRITE: a completion write that went out fails. -/
def State.cplWriteFail (s : State) (v q : Nat) : State :=
  if 1024 ≤ v ∨ 4 ≤ q ∨ !((s.vf v).cqs.getD q {}).enable then s else s.cplFail v q

/-! ### Completions (R379 to R383) -/

/-- Signal a completion queue: U returns to 0 and its timer stops (R383). -/
def State.cqSignal (s : State) (v q : Nat) : State :=
  let x := s.vf v
  let c := x.cqs.getD q {}
  let s1 := s.putVf v { x with cqs := x.cqs.set q { c with u := 0, timer := none } }
  match s1.vfFunc v with
  | some (p, i) => s1.signal (.vf p i) c.vector
  | none => s1

/-- Moderation after a completion (R383): `now` where the descriptor had IRQ_NOW set or its STATUS is not OK. -/
def State.moderate (s : State) (v q : Nat) (now : Bool) : State :=
  let x := s.vf v
  let c := x.cqs.getD q {}
  if !c.irq then s else
  let count := bits c.mod 7 0
  let timer := bits c.mod 31 16
  let u := sat 8 (c.u + 1)
  let s1 := s.putVf v { x with cqs := x.cqs.set q { c with u := u, timer := if c.u = 0 ∧ timer ≠ 0 then some timer else c.timer } }
  if now ∨ (count ≠ 0 ∧ count ≤ u) ∨ (count = 0 ∧ timer = 0) then s1.cqSignal v q else s1

/-- Write a completion of a submission queue (R377, R379 to R382). -/
def State.complete (s : State) (v q result cid status detail : Nat) (irqNow : Bool) : State :=
  let x := s.vf v
  let sq := x.sqs.getD q {}
  let n := bits sq.size 9 8
  let c := x.cqs.getD n {}
  let sq1 : SubQ := { sq with owed := sq.owed - 1, bad := sq.bad || status != 0 }
  let c1 : CplQ := { c with reserved := c.reserved - 1 }
  let s1 := s.putVf v { x with sqs := x.sqs.set q sq1, cqs := x.cqs.set n c1 }
  if !c.enable ∨ c.stopped then s1 else
  match s1.vfFunc v with
  | none => s1
  | some (p, i) =>
    let a := c.base + 16 * c.tail
    if !s1.linkUp p then s1.cplFail v n else
    match s1.tfbDenied (s1.tfbWho v) p a 16 permWrite with
    | some s2 => s2.cplFail v n
    | none =>
      let e := leBytes 8 result ++ leBytes 2 cid ++ leBytes 2 sq.head ++ leBytes 1 q ++ leBytes 1 status ++ leBytes 1 detail
        ++ leBytes 1 (b2n c.phase)
      let last := c.tail + 1 == queueEntries c.size
      let c2 : CplQ := { c1 with tail := if last then 0 else c.tail + 1, phase := if last then !c.phase else c.phase }
      let s2 := s1.onVf v (fun x => { x with cqs := x.cqs.set n c2 })
      (s2.tfbPost { f := .vf p i, kind := 1, addr := a, a := n, data := e }).moderate v n (irqNow || status != 0)

/-! ### Descriptors (R374, R375) -/

/-- The opcodes of a major (R365). -/
def opcodeIn (m op : Nat) : Bool := op ≤ 3 || op == 7 || (2 ≤ m && op ≤ 5) || (3 ≤ m && op == 6)

/-- The FLAGS bits that an opcode uses, IRQ_NOW among them. -/
def flagsUsed (op : Nat) : Nat :=
  match op with
  | 1 => 0xF
  | 2 => 0xE
  | 3 => 0xE
  | 4 => 0x5
  | 5 => 0x7
  | _ => 0x4

/-- The first octet of a range of a descriptor that is not 0. -/
def firstNonzero (d : List Byte) (a n : Nat) : Option Nat := ((List.range n).map (· + a)).find? (fun i => d.getD i 0 != 0)

/-- The offset of the first octet that fails a check (R375, R380). -/
def badField (d : List Byte) (op : Nat) : Option Nat :=
  let fl := if (field d 1 1).land (255 - flagsUsed op) ≠ 0 then some 1 else none
  if op = 0 ∨ op = 7 then fl <|> firstNonzero d 4 60
  else if op = 6 then fl <|> (if field d 4 4 = 0 then some 4 else none)
  else
    let n := field d 24 8
    fl <|> firstNonzero d 4 4
      <|> (if op = 2 ∨ op = 3 then firstNonzero d 8 8 else none)
      <|> (if op = 4 then firstNonzero d 16 8 else none)
      <|> (if 1 ≤ n ∧ n ≤ 2 ^ 40 then none else some 24)
      <|> (if op = 3 then firstNonzero d 32 8 else if op = 4 then firstNonzero d 36 4 else none)
      <|> firstNonzero d 40 24

/-- What a descriptor completes with before dispatch, if anything (R364, R375, R380): a status and its DETAIL. -/
def State.descFault (s : State) (v : Nat) (d : List Byte) : Option (Nat × Nat) :=
  let op := field d 0 1
  let m := match s.vfFunc v with
    | some (p, _) => s.major p
    | none => 3
  if s.vfFold v = 0 then some (0x12, 0)
  else if !opcodeIn m op then some (0x10, op)
  else (badField d op).map (fun o => (0x11, o))

/-- Complete a descriptor that TFB holds. -/
def State.descEnd (s : State) (v : Nat) (d : Desc) (status detail : Nat) : State :=
  (s.onVf v (fun x => { x with descs := x.descs.filter (fun e => e.id != d.id) })).complete v d.sq 0 (field d.bytes 2 2) status detail
    (bit (field d.bytes 1 1) 2)

/-! ### Fetching (R376, R380) -/

/-- A VF may fetch (R364, R376): an unbound VF fetches too, and completes what it fetches with NO_FOLD.  Descriptors that a RESUME carried are dispatched
before more are fetched (R394). -/
def State.vfFetches (s : State) (v : Nat) : Bool :=
  let x := s.vf v
  x.state == 1 && x.cfg.busMaster && s.isReady && !s.flt.resets.contains 9 && !s.vfD3 v && !(s.vfFold v != 0 && s.foldFlag (s.vfFold v) 2)
    && decide (x.inflight < s.rd K.TFB_VF_MAX_INFLIGHT) && !(x.descs.any (·.carried))

/-- A submission queue has a descriptor to fetch and a completion slot for it. -/
def Vf.sqFetches (x : Vf) (q : Nat) : Bool :=
  let sq := x.sqs.getD q {}
  let c := x.cqs.getD (bits sq.size 9 8) {}
  let n := queueEntries c.size
  sq.enable && !sq.stopped && sq.head != sq.tail && c.enable && decide ((c.tail + n - c.head) % n + c.reserved + 1 < n)

/-- The descriptors that await dispatch, of every VF. -/
def State.awaiting (s : State) : Nat := s.tfb.vfs.foldl (fun n e => n + e.2.descs.length) 0

/-- The aborted descriptors at the head of each queue that have arrived complete with ABORTED: in ring order, a later one after each earlier (R373). -/
def State.abortHeads (s : State) (v : Nat) : State :=
  forEach (List.range 4) (fun s q =>
    forEach (((s.vf v).descs.filter (fun d => d.sq == q)).takeWhile (fun d => d.aborted && d.here)) (fun s d => s.descEnd v d 0x15 0) s) s

/-- Descriptors that have been fetched complete with ABORTED, in ring order: at once where they have arrived, the others when they do (R373, R391). -/
def State.abortDescs (s : State) (v : Nat) (p : Desc → Bool) : State :=
  (s.onVf v (fun x => { x with descs := x.descs.map (fun d => if p d then { d with aborted := true } else d) })).abortHeads v

/-- A fetch failed (R380, R390): the queue stops, and FETCH_ERROR is its one completion. -/
def State.fetchFail (s : State) (v : Nat) (d : Desc) (status : Nat) : State :=
  let s1 := s.onVf v (fun x => { x with descs := x.descs.filter (fun e => e.id != d.id) })
  (((s1.queueStop v d.sq true 4).raise F.TFB_FETCH (elemVf v)).complete v d.sq 0 0xFFFF 0x14 status false).abortHeads v

/-- The lowest enabled VF in rotating order from `start` that satisfies a condition. -/
def State.turn (s : State) (start : Nat) (p : Nat → Bool) : Option Nat :=
  let l := (s.tfb.vfs.map (·.1)).filter p
  match l.find? (fun v => start ≤ v) with
  | some v => some v
  | none => l.head?

/-- DESCRIPTOR_FETCH: the VF and queue whose turn it is fetch one descriptor (R376). -/
def State.descriptorFetch (s : State) : State :=
  if 16384 ≤ s.awaiting ∨ s.noTracker false then s else
  match s.turn s.tfb.fetchPtr (fun v => s.vfFetches v && (List.range 4).any (fun q => (s.vf v).sqFetches q)) with
  | none => s
  | some v =>
    match rotFind (fun q => (s.vf v).sqFetches q) 4 (s.vf v).sqPtr, s.vfFunc v with
    | some q, some (p, i) =>
      let x := s.vf v
      let sq := x.sqs.getD q {}
      let c := x.cqs.getD (bits sq.size 9 8) {}
      let a := sq.base + 64 * sq.head
      let d : Desc := { id := s.tfb.nextDesc, sq := q }
      let s0 : State := { s with tfb := { s.tfb with nextDesc := d.id + 1, fetchPtr := (v + 1) % 1024 } }
      let s1 := s0.putVf v { x with
        sqs := x.sqs.set q { sq with head := (sq.head + 1) % queueEntries sq.size, owed := sq.owed + 1 }
        cqs := x.cqs.set (bits sq.size 9 8) { c with reserved := c.reserved + 1 }
        descs := x.descs ++ [d], sqPtr := (q + 1) % 4 }
      if !s1.linkUp p then s1.fetchFail v d 6 else
      match s1.tfbDenied (s1.tfbWho v) p a 64 permRead with
      | some s2 => s2.fetchFail v d 2
      | none =>
        if !x.cfg.ats then s1.hostFetch (.vf p i) v (some d.id) a 64
        else match s1.atsLookup (.vf p i) a with
          | some b => s1.hostFetch (.vf p i) v (some d.id) b 64
          | none => s1.atsAsk { f := .vf p i, kind := 0, addr := a, a := d.id }
    | _, _ => s

/-- DESCRIPTOR_FETCHED: the oldest fetch of a VF returns (R159); the descriptor is checked, or the queue stops.  After a reset of the VF it is dropped. -/
def State.descriptorFetched (s0 : State) (v status : Nat) (bytes : List Byte) : State :=
  match s0.vfFunc v with
  | none => s0
  | some (p, i) =>
  match s0.fetchTracker (.vf p i) false with
  | none => s0.lateResponse p []
  | some (t, n) =>
  let s := s0.releaseTracker t
  match (s.vf v).descs.find? (fun d => some d.id == n && !d.here) with
  | none => s
  | some d =>
    if status ≠ 0 then s.fetchFail v d status else
    let d1 : Desc := { d with bytes := fit 64 bytes, here := true }
    let s1 := s.onVf v (fun x => { x with descs := x.descs.map (fun e => if e.id = d.id then d1 else e) })
    if d.aborted then s1.abortHeads v else
    match s1.descFault v d1.bytes with
    | some f => s1.descEnd v d1 f.1 f.2
    | none => s1

/-! ### Dispatch (R327, R376 to R378) -/

/-- A VF may dispatch (R376, R385, R387, R393). -/
def State.vfDispatches (s : State) (v : Nat) : Bool := (s.vf v).state == 1 && !s.vfD3 v && s.isReady && !s.flt.resets.contains 9

/-- The next descriptor of a submission queue, where it has arrived and its completion queue runs (R377, R382); those that a RESUME carried go first, in
their order (R394). -/
def State.headDesc (s : State) (v q : Nat) : Option Desc :=
  let x := s.vf v
  if (x.cqs.getD (bits (x.sqs.getD q {}).size 9 8) {}).stopped then none else
  match x.descs.find? (fun d => d.sq == q) with
  | some d => if d.here && (!(x.descs.any (·.carried)) || (x.descs.head?.map (·.id)) == some d.id) then some d else none
  | none => none

/-- The slot and the clusters of a RUN descriptor; none where no slot qualifies (R378). -/
def State.runSlot (s : State) (v : Nat) (d : List Byte) : Option Nat :=
  s.slotsLoaded.find? (fun j => s.rd (K.DRV_PROG_ID j) == field d 4 4 && s.rd (K.DRV_PROG_STATE j) == 2 && (s.progFolds j).contains (s.vfFold v))

/-- The thread that a descriptor would go to, with the program and its entry (R327, R355, R378). -/
def State.placeFor (s : State) (v : Nat) (d : List Byte) : Option (Nat × Nat × Nat) :=
  let op := field d 0 1
  if op = 6 then
    match s.runSlot v d with
    | some j => (s.chooseThread (s.rd (K.DRV_PROG_CLUSTERS j))).map (fun u => (u, j, s.header j 28 4))
    | none => none
  else if 1 ≤ op ∧ op ≤ 5 then (s.chooseThread 0xFFFF).map (fun u => (u, 64 + op, 0))
  else none

/-- A descriptor goes to a thread (R328, R377). -/
def State.dispatchDesc (s : State) (v : Nat) (d : Desc) (w : Nat × Nat × Nat) : State :=
  let s1 := s.onVf v (fun x => { x with descs := x.descs.filter (fun e => e.id != d.id), running := x.running ++ [(d.id, d.sq)], dispPtr := (d.sq + 1) % 4 })
  let work : Work := { vf := v, sq := d.sq, id := d.id, cid := field d.bytes 2 2, irqNow := bit (field d.bytes 1 1) 2 }
  let s2 : State := { s1 with tfb := { s1.tfb with dispatchPtr := (v + 1) % 1024 } }
  ((s2.startThread w.1 w.2.1 w.2.2 (if s.inFold0 w.2.1 then 0 else s.vfFold v) v d.bytes (some work)).bump K.TFB_DESCRIPTORS).count 0x9001 v

/-- A queue's next descriptor can be dispatched now, or completes without dispatch for a failed check of a carried descriptor. -/
def State.sqDispatches (s : State) (v q : Nat) : Bool :=
  match s.headDesc v q with
  | some d => (s.descFault v d.bytes).isSome || (s.placeFor v d.bytes).isSome
  | none => false

/-- DISPATCH: the descriptor whose turn it is goes to an idle thread (R327, R376, R377). -/
def State.dispatch (s : State) : State :=
  match s.turn s.tfb.dispatchPtr (fun v => s.vfDispatches v && (List.range 4).any (s.sqDispatches v)) with
  | none => s
  | some v =>
    match (rotFind (s.sqDispatches v) 4 (s.vf v).dispPtr).bind (s.headDesc v) with
    | none => s
    | some d =>
      match s.descFault v d.bytes with
      | some f => s.descEnd v d f.1 f.2
      | none => match s.placeFor v d.bytes with
        | some w => s.dispatchDesc v d w
        | none => s

/-- RUN: a queue's RUN descriptor is dispatched in its turn, or completes with NO_PROGRAM (R378). -/
def State.runDesc (s : State) (v q : Nat) : State :=
  if 1024 ≤ v ∨ 4 ≤ q ∨ !s.vfDispatches v then s else
  match s.headDesc v q with
  | none => s
  | some d =>
    if field d.bytes 0 1 ≠ 6 ∨ (s.descFault v d.bytes).isSome then s
    else if (s.runSlot v d.bytes).isNone then s.descEnd v d 0x13 0
    else match s.placeFor v d.bytes with
      | some w => s.dispatchDesc v d w
      | none => s

/-- NOP: a queue's NOP descriptor completes in its turn (R377). -/
def State.nopDesc (s : State) (v q : Nat) : State :=
  if 1024 ≤ v ∨ 4 ≤ q ∨ !s.vfDispatches v then s else
  match s.headDesc v q with
  | none => s
  | some d => if field d.bytes 0 1 ≠ 0 ∨ (s.descFault v d.bytes).isSome then s else s.descEnd v d 0 0

/-- FENCE: it completes once every earlier descriptor of its queue has completed (R377). -/
def State.fenceDesc (s : State) (v q : Nat) : State :=
  if 1024 ≤ v ∨ 4 ≤ q ∨ !s.vfDispatches v then s else
  match s.headDesc v q with
  | none => s
  | some d =>
    if field d.bytes 0 1 ≠ 7 ∨ (s.descFault v d.bytes).isSome ∨ (s.vf v).running.any (fun r => r.2 == q) then s else
    let bad := ((s.vf v).sqs.getD q {}).bad
    (s.descEnd v d 0 (b2n bad)).onVf v (fun x => { x with sqs := x.sqs.set q { x.sqs.getD q {} with bad := false } })

/-- STATUS and DETAIL of an exit status (R380); none for a stop by function-level reset (R387). -/
def exitStatus (e : Nat) : Option (Nat × Nat) :=
  let n := e % 2 ^ 32
  if n = 0 then some (0, 0)
  else if n < 0x80000000 then some (1, n % 256)
  else if n < 0xC0000000 then some (2, (n - 0x80000000) / 65536 % 256)
  else if n = 0xC0000001 then none
  else some (3, (n - 0xC0000000) % 256)

/-- A thread that ran a descriptor has ended: the completion (R380, R381). -/
def State.workEnded (s : State) (w : Work) (status result : Nat) : State :=
  let x := s.vf w.vf
  if !(x.running.any (fun r => r.1 == w.id)) then s else
  let s1 := s.putVf w.vf { x with running := x.running.filter (fun r => r.1 != w.id) }
  match exitStatus status with
  | some (st, detail) => s1.complete w.vf w.sq result w.cid st detail w.irqNow
  | none => s1

/-! ### Queue registers (R371 to R373, R390) -/

/-- A VF takes writes to its queue registers (R388, R394). -/
def State.vfOpen (s : State) (v : Nat) : Bool := (s.vf v).state == 1

/-- A VF takes doorbells (R388, R394). -/
def State.vfBells (s : State) (v : Nat) : Bool := 1 ≤ (s.vf v).state && (s.vf v).state ≤ 5

/-- VF_SQ_TAIL (R372, R390). -/
def State.sqTail (s : State) (v q value : Nat) : State :=
  if 4 ≤ q ∨ !s.vfBells v then s else
  let t := value % 65536
  let sq := (s.vf v).sqs.getD q {}
  let n := queueEntries sq.size
  if !sq.enable then (s.vfCause v 2).raise F.TFB_DOORBELL (elemVf v)
  else if n ≤ t ∨ n ≤ (t + n - sq.tail) % n + (sq.tail + n - sq.head) % n then (s.queueStop v q true 1).raise F.TFB_DOORBELL (elemVf v)
  else s.onVf v (fun x => { x with sqs := x.sqs.set q { sq with tail := t } })

/-- VF_CQ_HEAD (R372, R390). -/
def State.cqHead (s : State) (v q value : Nat) : State :=
  if 4 ≤ q ∨ !s.vfBells v then s else
  let h := value % 65536
  let c := (s.vf v).cqs.getD q {}
  let n := queueEntries c.size
  if !c.enable then (s.vfCause v 2).raise F.TFB_DOORBELL (elemVf v)
  else if n ≤ h ∨ (c.tail + n - c.head) % n < (h + n - c.head) % n then (s.queueStop v q false 3).raise F.TFB_DOORBELL (elemVf v)
  else s.onVf v (fun x => { x with cqs := x.cqs.set q { c with head := h } })

/-- ACTIVE of a submission queue (R371, R373): a descriptor has no completion yet, or its entry has not been written. -/
def State.sqActive (s : State) (v q : Nat) : Bool :=
  let entry := fun (d : List Byte) => d.length == 16 && field d 12 1 == q
  ((s.vf v).sqs.getD q {}).owed != 0 || (match s.vfFunc v with
    | some (p, i) => s.tfb.waits.any (fun w => w.f == .vf p i && w.kind == 1 && entry w.data)
        || s.tfb.asleep.any (fun e => e.2.1 == .vf p i && (match e.2.2 with
            | .hostWrite _ _ _ d => entry d
            | _ => false))
    | none => false)

/-- SQ_ENABLE: 1 is written to ENABLE of a submission queue (R372, R373, R380). -/
def State.sqEnable (s : State) (v q : Nat) : State :=
  if 4 ≤ q ∨ !s.vfOpen v ∨ s.flt.isolated.contains (elemVf v) then s else
  let x := s.vf v
  let sq := x.sqs.getD q {}
  if (sq.enable && !sq.stopped) ∨ sq.err ∨ s.sqActive v q ∨ !(x.cqs.getD (bits sq.size 9 8) {}).enable then s
  else s.putVf v { x with sqs := x.sqs.set q { sq with enable := true, stopped := false, head := 0, tail := 0, bad := false } }

/-- SQ_DISABLE: 0 is written to ENABLE: descriptors not dispatched complete with ABORTED, in ring order (R373). -/
def State.sqDisable (s : State) (v q : Nat) : State :=
  if 4 ≤ q ∨ !s.vfOpen v then s else
  let s1 := s.onVf v (fun x => { x with sqs := x.sqs.set q { x.sqs.getD q {} with enable := false } })
  s1.abortDescs v (fun d => d.sq == q)

/-- CQ_ENABLE: VF_CQ_CTRL is written with ENABLE 1 (R371, R372). -/
def State.cqEnable (s : State) (v q value : Nat) : State :=
  if 4 ≤ q ∨ !s.vfOpen v ∨ s.flt.isolated.contains (elemVf v) then s else
  let x := s.vf v
  let c := x.cqs.getD q {}
  let irq := bit value 1
  let c1 : CplQ := { c with irq := irq, vector := bits value 6 4, u := if irq then c.u else 0, timer := if irq then c.timer else none }
  let c2 : CplQ := if (c.enable && !c.stopped) ∨ c.err then c1
    else { c1 with enable := true, stopped := false, tail := 0, head := 0, phase := true }
  s.putVf v { x with cqs := x.cqs.set q c2 }

/-- CQ_DISABLE: VF_CQ_CTRL is written with ENABLE 0; ENABLE stays while an enabled submission queue names the queue (R372). -/
def State.cqDisable (s : State) (v q value : Nat) : State :=
  if 4 ≤ q ∨ !s.vfOpen v then s else
  let x := s.vf v
  let c := x.cqs.getD q {}
  let irq := bit value 1
  let c1 : CplQ := { c with irq := irq, vector := bits value 6 4, u := if irq then c.u else 0, timer := if irq then c.timer else none }
  let named := x.sqs.any (fun sq => sq.enable && bits sq.size 9 8 == q)
  s.putVf v { x with cqs := x.cqs.set q (if named then c1 else { c1 with enable := false }) }

/-- VF_ERR: a write of 1 clears error bits (R369). -/
def State.vfErrWrite (s : State) (v value : Nat) : State :=
  if !s.vfOpen v then s else
  s.onVf v (fun x => { x with
    sqs := (List.range 4).map (fun q => let sq := x.sqs.getD q {}; if bit value (4 + q) then { sq with err := false } else sq)
    cqs := (List.range 4).map (fun q => let c := x.cqs.getD q {}; if bit value q then { c with err := false } else c) })

/-! ### Moderation timers (R383, R384) -/

/-- At a tick boundary every running moderation timer counts down. -/
def State.moderationTick (s : State) : State :=
  forEach ((s.tfb.vfs.filter (fun e => e.2.cqs.any (fun c => c.timer.isSome))).map (·.1)) (fun s v =>
    s.onVf v (fun x => { x with cqs := x.cqs.map (fun c => { c with timer := c.timer.map (· - 1) }) })) s

/-- CQ_MOD_TIMER: a moderation timer has counted its boundaries. -/
def State.cqModTimer (s : State) (v q : Nat) : State :=
  if 1024 ≤ v ∨ 4 ≤ q ∨ ((s.vf v).cqs.getD q {}).timer ≠ some 0 then s else s.cqSignal v q

/-! ### Function-level reset (R387, R388) -/

/-- The trackers of a VF's descriptors. -/
def State.vfTrackers (s : State) (v : Nat) : List Tracker := s.fab.trackers.filter (fun t => match t.origin with
  | .engine _ _ => t.who.vf == some v
  | _ => false)

/-- Drop what waits toward the host of a function; its reads that have not left are forgotten.  The writes of a harvest are not the PF's (R404). -/
def State.dropFunc (s : State) (f : Func) : State :=
  { s with
    tfb := { s.tfb with
      asleep := s.tfb.asleep.filter (fun e => e.2.1 != f || (match f, e.2.2 with
        | .pf _, .hostWrite _ _ _ _ => true
        | _, _ => false))
      waits := s.tfb.waits.filter (fun w => w.f != f) }
    fab := { s.fab with trackers := s.fab.trackers.filter (fun t => match t.origin with
      | .func g _ | .ats g _ => !(g == f && t.sentAt.isNone)
      | _ => true) } }

/-- The reset of a pool VF begins (steps 1 to 3); a second one is absorbed. -/
def State.vfReset (s : State) (v : Nat) : State :=
  let x := s.vf v
  if x.state = 0 ∨ x.state = 6 then s else
  let busy := x.state == 2 || x.state == 4 || x.state == 5
  let s1 := when busy (·.vfEvent v) (s.putVf v { x with state := 6, resetAt := s.clk.dtc, descs := [], result := if busy then 5 else x.result })
  let s2 := match s1.vfFunc v with
    | some (p, i) => s1.dropFunc (.vf p i)
    | none => s1
  let s3 := s2.stopWhere 1 (fun _ t => t.vf == v)
  (forEach (s3.fab.loom.msgs.filter (fun m => m.place == .held)) (fun s m => match m.track.bind s.tracker with
    | some t => (match t.origin with
      | .engine _ _ => if t.who.vf = some v then ((s.dropMsg m.id).completeError t 6).bump K.TFB_FLR_DETACHED else s
      | _ => s)
    | none => s) s3).cicRaise (0x300 + v)

/-- The function-level reset of a PF: each of its VFs, its own registers, and its mailbox (R56, R387). -/
def State.pfReset (s : State) (p : Nat) : State :=
  if !s.pfExists p then s else
  let s1 := forEach (s.funcs p) (fun s f => match f with
    | .pf _ => s
    | .vf p i => match s.poolVf p i with
      | some v => s.vfReset v
      | none => s) s
  ((((s1.dropFunc (.pf p)).putPf p {}).putMailbox p {}).bump K.TFB_FLRS)

/-- INITIATE_FLR: the Initiate Function Level Reset bit of a function is written. -/
def State.initiateFlr (s : State) (f : Func) : State :=
  match f with
  | .pf p => s.pfReset p
  | .vf p i => match s.poolVf p i with
    | some v => s.vfReset v
    | none => s

/-- A configuration change of a function takes effect (R383, R385, R389). -/
def State.cfgApply (s : State) (f : Func) (c : CfgChange) : State :=
  match c with
  | .busMaster on => (s.onFcfg f (fun x => { x with busMaster := on })).sendPending f
  | .msixEnable on => (s.onFcfg f (fun x => { x with msixEnable := on })).sendPending f
  | .functionMask on => (s.onFcfg f (fun x => { x with fmask := on })).sendPending f
  | .atsEnable on stu =>
    let unit_ := match f with
      | .pf _ => stu % 32
      | .vf _ _ => (s.fcfg f).stu
    let lost := fun (g : Func) => (!on && g == f) || (unit_ != (s.fcfg f).stu && funcPort g == funcPort f)
    let s1 := s.onFcfg f (fun x => { x with ats := on, stu := unit_ })
    { s1 with tfb := { s1.tfb with atc := s1.tfb.atc.filter (fun e => !(lost e.1)) } }
  | .pmeEnable on => s.onFcfg f (fun x => { x with pmeEn := on })
  | .pmeStatusClear => s.onFcfg f (fun x => { x with pmeStatus := false })
  | .numVfs n => match f with
    | .pf p => if s.pfExists p ∧ (s.pf p).vfEnable = false then s.putPf p { s.pf p with numVfs := n % 65536 } else s
    | .vf _ _ => s

/-- A function enters D3hot, or returns to D0 (R385). -/
def State.setD3 (s : State) (f : Func) (on : Bool) : State :=
  let s1 := s.onFcfg f (fun x => { x with d3 := on })
  if on then s1 else match f with
    | .pf p => forEach (s1.funcs p) State.sendPending s1
    | .vf _ _ => s1.sendPending f

/-- Keep a write until the end of a reset (R388). -/
def State.defer (s : State) (f : Func) (g : Vf → Vf) : State :=
  match f with
  | .pf _ => s
  | .vf p i => match s.poolVf p i with
    | some v => s.onVf v g
    | none => s

/-- CONFIGURATION_WRITE. -/
def State.configWrite (s : State) (f : Func) (c : CfgChange) : State :=
  if s.resetting f then s.defer f (fun x => { x with later := x.later ++ [c] }) else s.cfgApply f c

/-- D3HOT_ENTRY and D0_RETURN. -/
def State.powerWrite (s : State) (f : Func) (on : Bool) : State :=
  if s.resetting f then s.defer f (fun x => { x with laterD3 := some on }) else s.setD3 f on

/-- FLR_COMPLETE: no tracker of the VF's descriptors remains, or 100 µs have passed (steps 4 and 5). -/
def State.flrComplete (s : State) (v : Nat) : State :=
  let x := s.vf v
  let left := s.vfTrackers v
  if x.state ≠ 6 ∨ (!left.isEmpty && s.clk.dtc < x.resetAt + 100000) then s else
  let s1 := if left.isEmpty then s else
    (forEach left (fun s t => s.putTracker { t with origin := .own, who := { t.who with vf := none } }) (s.add K.TFB_FLR_DETACHED left.length)).raise
      F.TFB_FLR_DETACHED (elemVf v)
  let s2 := forEach ((s1.drv.threads.filter (fun e => e.2.busy && e.2.vf == v)).map (·.1)) (fun s u => s.endThread u 0xC0000001 0) s1
  let on := match s2.vfFunc v with
    | some (p, i) => (s2.pf p).vfEnable && decide (i ≤ (s2.pf p).numVfs)
    | none => false
  let s3 := (s2.putVf v { state := b2n on, result := x.result }).bump K.TFB_FLRS
  let s4 := match s3.vfFunc v with
    | some (p, i) =>
      let s4 := forEach x.later (fun s c => s.cfgApply (.vf p i) c) s3
      match x.laterD3 with
      | some d => s4.setD3 (.vf p i) d
      | none => s4
    | none => s3
  (s4.vfEvent v).cicRaise (0x300 + v)

/-- VF_ENABLE: VF Enable of a port's PF is written (R362, R387). -/
def State.vfEnable (s : State) (p : Nat) (on : Bool) : State :=
  if !s.pfExists p then s else
  let x := s.pf p
  if on then
    if x.vfEnable then s
    else if x.numVfs = 0 ∨ s.rd (K.TFB_PF_TOTAL_VFS p) < x.numVfs then s.bump K.TFB_BAR_ERRORS
    else forEach (List.range x.numVfs) (fun s i =>
      let v := s.rd (K.TFB_PF_VF_BASE p) + i
      if (s.vf v).state = 0 then s.onVf v (fun y => { y with state := 1 }) else s) (s.putPf p { x with vfEnable := true })
  else forEach (s.funcs p) (fun s f => match f with
    | .pf _ => s
    | .vf p i => match s.poolVf p i with
      | some v => s.vfReset v
      | none => s) (s.putPf p { x with vfEnable := false })

/-- MAJOR_SELECT: a write of TFB_VER_SELECT (R365). -/
def State.majorSelect (s : State) (p value : Nat) : State :=
  let m := value % 256
  if !s.pfExists p ∨ (s.pf p).vfEnable ∨ 3 < m then s else s.putPf p { s.pf p with majorSelect := m }

/-! ### Address translation (R389) -/

/-- The accesses of a function that wait for a page leave, in order, as far as their translations are there. -/
def State.atsNext (f : Func) (s : State) : Option State :=
  match s.tfb.waits.find? (fun w => w.f == f && w.posted) with
  | none => none
  | some w => match s.atsLookup f w.addr with
    | none => none
    | some b => some ((({ s with tfb := { s.tfb with waits := s.tfb.waits.erase w } } : State).hostSend f (w.out (s.routingId f) b)))

/-- A message of an engine operation whose translation has come (R389). -/
def State.atsEngine (s : State) (w : AtsWait) (b : Nat) : State :=
  match w.x with
  | none => s
  | some x =>
    let u := unitNum x
    match (s.thread u).op (w.a / 1024) with
    | none => s
    | some o =>
      let n := (o.pieces.getD (w.a % 1024) (0, 0)).2
      let r : EngReq := if o.kind = 2 then .atomic o.code n (leNat o.data) o.cmp else if w.data.isEmpty then .read n else .write w.data
      (s.engSend u w.a 1 0 w.addr o.cls r (fun _ => b)).2

/-- An access whose translation grants no access fails as a CXL.io UR (R389). -/
def State.atsRefused (s : State) (w : AtsWait) : State :=
  match w.f with
  | .pf _ => s
  | .vf p i => match s.poolVf p i with
    | none => s
    | some v => match w.kind with
      | 0 => match (s.vf v).descs.find? (fun d => d.id == w.a) with
        | some d => s.fetchFail v d 9
        | none => s
      | 1 => s.cplFail v w.a
      | 2 => match w.x with
        | some x => s.engAnswer x w.a 1 []
        | none => s
      | _ => s

/-- The accesses of a function that wait for a page fail: no access was granted, or no answer came (R159, R389). -/
def State.atsFails (s : State) (f : Func) (page : Nat) : State :=
  let here := fun (w : AtsWait) => w.f == f && w.addr / s.atsUnit f == page
  forEach (s.tfb.waits.filter here) State.atsRefused { s with tfb := { s.tfb with waits := s.tfb.waits.filter (fun w => !here w) } }

/-- TRANSLATION_COMPLETION: its request's tracker is released, the cache takes the translation, and the accesses that waited for it go on.  One that no
tracker awaits is late (R159). -/
def State.translationDone (s0 : State) (f : Func) (a t : Nat) (granted : Bool) : State :=
  let u := s0.atsUnit f
  let page := a / u
  let here := fun (w : AtsWait) => w.f == f && w.addr / u == page
  match s0.atsTracker f page with
  | none => s0.lateResponse (funcPort f) []
  | some k =>
  let s := s0.releaseTracker k
  if !(s.tfb.waits.any here) then s
  else if !granted then s.atsFails f page
  else
    let kept := s.tfb.atc.filter (fun e => !(e.1 == f && e.2.1 == page))
    let atc := (if 4096 ≤ kept.length then kept.drop 1 else kept) ++ [(f, page, t / u)]
    let mine := s.tfb.waits.filter (fun w => here w && !w.posted)
    let s1 : State := { s with tfb := { s.tfb with
      atc := atc, waits := s.tfb.waits.filter (fun w => !(here w && !w.posted)) } }
    let b := fun (w : AtsWait) => t / u * u + w.addr % u
    let s2 := forEach mine (fun s w =>
      if w.kind = 0 then s.hostFetch f (match f with
        | .vf p i => (s.poolVf p i).getD 0
        | .pf _ => 0) (some w.a) (b w) 64
      else s.atsEngine w (b w)) s1
    let s3 := iter (State.atsNext f) s2.tfb.waits.length s2
    match s3.tfb.waits.find? (fun w => w.f == f && w.posted) with
    | some w => if s3.tfb.waits.any (fun x => x.f == f && x != w && x.addr / u == w.addr / u) then s3
                else s3.atsSend f (w.addr / u)
    | none => s3

/-- A translated page is still in use by a request of a function that has not been sent. -/
def State.pageInUse (s : State) (f : Func) (page : Nat) : Bool :=
  let at_ := fun (a : Nat) => a / s.atsUnit f == page
  s.tfb.asleep.any (fun e => e.2.1 == f && (match e.2.2 with
    | .hostWrite _ _ a _ => at_ a
    | .hostRead _ _ a _ => at_ a
    | .msix _ _ a _ => at_ a
    | _ => false))
  || s.fab.loom.msgs.any (fun m => !m.response && (match m.tlp with
    | some t => at_ t.address
    | none => false) && (match m.track.bind s.tracker with
    | some t => (match t.who.vf.bind s.vfFunc with
      | some (p, i) => f == .vf p i
      | none => false)
    | none => false))

/-- Send the Invalidate Completions whose requests have all been sent. -/
def State.invalidateSync (s : State) : State :=
  if s.tfb.inval.isEmpty then s else
  let done := s.tfb.inval.filter (fun e => !(e.2.2.any (s.pageInUse e.1)))
  forEach done (fun s e => s.emit (.ats e.1 1 e.2.1)) { s with tfb := { s.tfb with inval := s.tfb.inval.filter (fun e => e.2.2.any (s.pageInUse e.1)) } }

/-- INVALIDATE_REQUEST: the matching entries go; the completion follows. -/
def State.invalidate (s : State) (f : Func) (a size : Nat) : State :=
  let u := s.atsUnit f
  let hit := fun (e : Func × Nat × Nat) => e.1 == f && a / u ≤ e.2.1 && e.2.1 * u < a + max 1 size
  let pages := (s.tfb.atc.filter hit).map (·.2.2)
  State.invalidateSync { s with tfb := { s.tfb with atc := s.tfb.atc.filter (fun e => !hit e), inval := s.tfb.inval ++ [(f, a, pages)] } }

/-! ### ECC (R391) -/

/-- TFB_QUEUE_ECC. -/
def State.queueEcc (s : State) (v : Nat) (k : EccKind) : State :=
  if 1024 ≤ v then s else
  match k with
  | .corrected => s.raise F.TFB_QUEUE_ECC (elemVf v)
  | .uncorrectable =>
    let s1 := s.abortDescs v (fun _ => true)
    let s2 := forEach (List.range 4) (fun s q => if ((s.vf v).sqs.getD q {}).enable then s.queueStop v q true 6 else s) s1
    let s3 := forEach (List.range 4) (fun s q => if ((s.vf v).cqs.getD q {}).enable then s.queueStop v q false 6 else s) s2
    s3.raiseGrave F.TFB_QUEUE_ECC (elemVf v)

/-! ### Port resets and L1 (R87, R96, R386, R387) -/

/-- The functions of an upstream port are reset: its link went down, or the port was reset. -/
def State.portFuncReset (s : State) (p : Nat) : State :=
  (s.pfReset p).putPort p { (s.pfReset p).port p with pmeHandled := false, pmeSince := none }

/-- L1_EXIT_COMPLETE: the link reaches L0, and what waited is sent in order (R386). -/
def State.l1Exit (s : State) (p : Nat) : State :=
  if 64 ≤ p ∨ !s.inL1 p then s else
  let mine := s.tfb.asleep.filter (fun e => e.1 == p)
  let s1 : State := { s with
    tfb := { s.tfb with asleep := s.tfb.asleep.filter (fun e => e.1 != p) }
    fab := { s.fab with trackers := s.fab.trackers.map (fun t =>
      if t.isFunc ∧ t.egress = p ∧ t.sentAt.isNone then { t with sentAt := some s.clk.dtc } else t) } }
  forEach mine (fun s e => s.emit e.2.2) (s1.setLtssm p 0x13)

/-- ASPM_L1_ENTRY: the link of a PCIe or CXL port enters L1 (R145). -/
def State.l1Enter (s : State) (p : Nat) : State :=
  if 64 ≤ p ∨ s.role p = 0 ∨ s.role p = 3 ∨ !s.linkUp p ∨ bits (s.rd (K.PRT_LINK_STATE p)) 23 16 ≠ 0x13 then s else s.setLtssm p 0x15

/-- An upstream port answers PME_Turn_Off once no PM_PME of its functions waits, and its link goes to L2 (R145, R386, R516). -/
def State.pmeSettle (s : State) (p : Nat) : State :=
  if s.tfb.asleep.any (fun e => e.1 == p && (match e.2.2 with
    | .pmPme _ => true
    | _ => false)) then s
  else (s.putPort p { s.port p with pmeSince := none, pmeHandled := true } |>.setLtssm p 0x16).emit (.pmeToAck p)

/-- PME_TURN_OFF: the host sends PME_Turn_Off to an upstream port. -/
def State.pmeTurnOff (s : State) (p : Nat) : State :=
  if !s.pfExists p ∨ !s.linkUp p then s else (s.putPort p { s.port p with pmeSince := some s.clk.dtc }).pmeSettle p

/-! ### BAR registers (R366 to R371, R394) -/

/-- A dword of the MSI-X table is written: vector control keeps its mask bit only. -/
def State.msixWrite (s : State) (f : Func) (off value : Nat) : State :=
  let x := if off % 16 = 12 then value % 2 else if off % 16 = 0 then value / 4 * 4 else value
  let t := s.msixTable f
  (s.onFcfg f (fun c => { c with table := patch t off (leBytes 4 x) })).sendPending f

/-- Replace a dword of a 64-bit register, keeping its bits from `low` on (R371). -/
def putHalf (old hi v low : Nat) : Nat :=
  let n := if hi = 0 then putBits old 31 0 v else putBits old 63 32 v
  n / 2 ^ low * 2 ^ low

/-- The SIZE field of a queue; a reserved encoding reads as 0 (R6, R371). -/
def queueSize (value : Nat) : Nat := if 8 < bits value 3 0 then 0 else bits value 3 0

/-- A dword write to VF BAR0 (R369, R371, R388, R394). -/
def State.vfBar (s : State) (f : Func) (v off value : Nat) : State :=
  if off < 0x1000 ∧ 0x100 ≤ off ∧ off < 0x110 then s.sqTail v ((off - 0x100) / 4) value
  else if 0x200 ≤ off ∧ off < 0x210 then s.cqHead v ((off - 0x200) / 4) value
  else if 0x1000 ≤ off ∧ off < 0x1080 then (if s.vfBells v then s.msixWrite f (off - 0x1000) value else s)
  else if !s.vfOpen v then s
  else if off = 0x0C then s.vfErrWrite v value
  else if off = 0x10 then s.onVf v (fun x => { x with errVector := value % 16 })
  else if 0x40 ≤ off ∧ off < 0x80 then
    let q := (off - 0x40) / 16
    let sq := (s.vf v).sqs.getD q {}
    let put := fun (y : SubQ) => s.onVf v (fun x => { x with sqs := x.sqs.set q y })
    match (off - 0x40) % 16 with
    | 0 => if sq.enable then s else put { sq with base := putHalf sq.base 0 value 12 }
    | 4 => if sq.enable then s else put { sq with base := putHalf sq.base 1 value 12 }
    | 8 => if sq.enable then s else put { sq with size := bits value 9 8 * 256 + queueSize value }
    | _ => if bit value 0 then s.sqEnable v q else s.sqDisable v q
  else if 0x80 ≤ off ∧ off < 0x100 then
    let q := (off - 0x80) / 32
    let c := (s.vf v).cqs.getD q {}
    let put := fun (y : CplQ) => s.onVf v (fun x => { x with cqs := x.cqs.set q y })
    match (off - 0x80) % 32 with
    | 0 => if c.enable then s else put { c with base := putHalf c.base 0 value 12 }
    | 4 => if c.enable then s else put { c with base := putHalf c.base 1 value 12 }
    | 8 => if c.enable then s else put { c with size := queueSize value }
    | 0xC => if bit value 0 then s.cqEnable v q value else s.cqDisable v q value
    | 0x10 => put { c with mod := bits value 31 16 * 65536 + bits value 7 0 }
    | _ => s
  else s

/-- PF_INT_CAUSE: a write of 1 clears causes (R366). -/
def State.pfIntCause (s : State) (p value : Nat) : State :=
  if !s.pfExists p then s else s.putPf p { s.pf p with intCause := (s.pf p).intCause - (s.pf p).intCause.land (value % 16) }

/-- A dword of PF_VF_EVENT: a write of 1 clears bits (R367). -/
def State.pfEventWrite (s : State) (p n value : Nat) : State :=
  if !s.pfExists p ∨ 8 ≤ n then s else
  s.putPf p { s.pf p with vfEvent := (s.pf p).vfEvent - (s.pf p).vfEvent.land ((value % 2 ^ 32) * 2 ^ (32 * n)) }

/-- A size and offset that BAR0 takes (R366). -/
def barFits (off size : Nat) : Bool := (size == 4 || size == 8) && off % size == 0

end Sys2Proof.Machine
end

