-- ==== Sys2Proof/Machine/Migration.lean ====
section
/-! DEFINITION. Freezing, saving and restoring virtual functions, rebinding a fold, and harvesting a dirty bitmap (R393 to R406). -/

namespace Sys2Proof.Machine

/-! ### Commands of the control array (R393, R394) -/

/-- A command of the control array ends with a RESULT and in a STATE (R367, R393). -/
def State.vfcEnd (s : State) (v state result : Nat) : State := (s.onVf v (fun x => { x with state := state, result := result })).vfEvent v

/-- A command of PF_VFC_CMD is written (R393): `go` is what it does in a state that accepts it. -/
def State.vfCommand (s : State) (p i : Nat) (accepts : Vf → Bool) (go : Nat → State → State) : State :=
  match s.entryVf p i with
  | none => s
  | some v =>
    let x := s.vf v
    if x.state = 2 ∨ x.state = 4 ∨ x.state = 5 then s.bump K.TFB_BAR_ERRORS
    else
      let s1 := s.cicRaise (0x300 + v)
      if accepts x then go v s1 else s1.vfcEnd v x.state 2

/-- FREEZE. -/
def State.vfFreeze (s : State) (p i : Nat) : State :=
  s.vfCommand p i (fun x => x.state == 1) (fun v s => s.onVf v (fun x => { x with state := 2 }))

/-- Something of a function has still to be written to host memory. -/
def State.funcWrites (s : State) (f : Func) : Bool := s.tfb.asleep.any (fun e => e.2.1 == f) || s.tfb.waits.any (fun w => w.f == f)

/-- FREEZE_DONE: every dispatched descriptor has completed, and what was due has been written. -/
def State.freezeDone (s : State) (p i : Nat) : State :=
  match s.poolVf p i with
  | none => s
  | some v =>
    let x := s.vf v
    if x.state ≠ 2 ∨ !x.running.isEmpty ∨ x.descs.any (fun d => !d.here) ∨ s.funcWrites (.vf p i) then s else s.vfcEnd v 3 1

/-! ### The image (R396, R397) -/

/-- VF_ERR (R369). -/
def Vf.errReg (x : Vf) : Nat :=
  x.cause * 2 ^ 24 + (List.range 4).foldl (fun n q => n + b2n (x.sqs.getD q {}).err * 2 ^ (4 + q) + b2n (x.cqs.getD q {}).err * 2 ^ q) 0

/-- VF_CQ_CTRL [6:0] (R371). -/
def CplQ.ctrl (c : CplQ) : Nat := b2n c.enable + 2 * b2n c.irq + 16 * c.vector

/-- An SQ record. -/
def sqRecord (q : SubQ) : List Byte :=
  leBytes 8 q.base ++ leBytes 4 q.size ++ leBytes 4 (b2n q.enable) ++ leBytes 2 q.head ++ leBytes 2 q.tail
    ++ leBytes 1 (b2n q.err + 2 * b2n q.bad) ++ zeros 11

/-- A CQ record. -/
def cqRecord (c : CplQ) : List Byte :=
  leBytes 8 c.base ++ leBytes 4 c.size ++ leBytes 4 c.ctrl ++ leBytes 4 c.mod ++ leBytes 2 c.tail ++ leBytes 2 c.head ++ leBytes 1 c.u
    ++ leBytes 1 (b2n c.phase + 2 * b2n c.err + 4 * b2n c.timer.isSome) ++ leBytes 2 (c.timer.getD 0) ++ leBytes 2 c.reserved ++ zeros 2

/-- The image of a VF. -/
def State.vfImage (s : State) (p i v : Nat) : List Byte :=
  let x := s.vf v
  let m := s.major p
  let d := x.descs.length
  let head := leBytes 4 0x56464D49 ++ leBytes 2 (m * 256 + tfbMinor m) ++ leBytes 2 (640 + 64 * d) ++ leBytes 1 d ++ zeros 7
    ++ leBytes 8 s.clk.dtc ++ leBytes 2 (s.vfFold v) ++ zeros 34
  let rest := leBytes 4 x.errReg ++ leBytes 4 x.errVector ++ zeros 56 ++ x.sqs.flatMap sqRecord ++ x.cqs.flatMap cqRecord
    ++ fit 128 (s.msixTable (.vf p i)) ++ leBytes 8 x.cfg.pba ++ zeros 56 ++ fit 64 (x.descs.map (fun e => BitVec.ofNat 8 e.sq))
    ++ x.descs.flatMap (fun e => fit 64 e.bytes)
  head ++ leBytes 4 (crc32c (head ++ zeros 4 ++ rest)) ++ rest

/-- A range of octets is 0. -/
def isZeros (b : List Byte) (a n : Nat) : Bool := (slice b a n).all (· == 0)

/-- An SQ record is valid. -/
def sqRecordOk (b : List Byte) : Bool :=
  let n := queueEntries (field b 8 4)
  bits (field b 0 8) 11 0 == 0 && field b 8 4 == bits (field b 8 4) 9 8 * 256 + bits (field b 8 4) 3 0 && bits (field b 8 4) 3 0 ≤ 8
    && field b 12 4 ≤ 1 && field b 16 2 < n && field b 18 2 < n && field b 20 1 ≤ 3 && isZeros b 21 11

/-- A CQ record is valid. -/
def cqRecordOk (b : List Byte) : Bool :=
  let n := queueEntries (field b 8 4)
  bits (field b 0 8) 11 0 == 0 && field b 8 4 ≤ 8 && field b 12 4 ≤ 0x7F && bits (field b 12 4) 3 2 == 0 && bits (field b 16 4) 15 8 == 0
    && field b 20 2 < n && field b 22 2 < n && field b 25 1 ≤ 7 && isZeros b 30 2

/-- The checks of RESTORE (R397). -/
def State.imageValid (s : State) (p v : Nat) (b : List Byte) : Bool :=
  let x := s.vf v
  let len := field b 6 2
  let d := field b 8 1
  let m := s.major p
  let sqb := fun (q : Nat) => slice b (128 + 32 * q) 32
  let cqb := fun (q : Nat) => slice b (256 + 32 * q) 32
  let cqOf := fun (q : Nat) => bits (field (sqb q) 8 4) 9 8
  let carried := (List.range d).map (fun k => field b (576 + k) 1)
  field b 0 4 == 0x56464D49 && len == 640 + 64 * d && len ≤ x.imageLen && len ≤ b.length
    && field b 60 4 == crc32c (slice b 0 60 ++ zeros 4 ++ slice b 64 (len - 64))
    && field b 5 1 == m && field b 4 1 ≤ tfbMinor m && d ≤ s.rd K.TFB_VF_MAX_INFLIGHT && d ≤ 64
    && isZeros b 9 7 && isZeros b 26 34 && isZeros b 72 56 && isZeros b 520 56 && isZeros b (576 + d) (64 - d)
    && bits (field b 64 4) 23 8 == 0 && field b 68 4 ≤ 15 && field b 512 8 < 256
    && (List.range 8).all (fun n => field b (384 + 16 * n + 12) 4 ≤ 1 && field b (384 + 16 * n) 1 % 4 == 0)
    && (List.range 4).all (fun q => sqRecordOk (sqb q) && cqRecordOk (cqb q)
      && (field (sqb q) 12 4 == 0 || bit (field (cqb (cqOf q)) 12 4) 0)
      && field (cqb q) 28 2 == (carried.filter (fun k => cqOf k == q)).length)
    && carried.all (fun q => q < 4 && field (sqb q) 12 4 == 1)

/-- Load an image into a VF (R393, R397). -/
def State.imageLoad (s : State) (v : Nat) (b : List Byte) : State :=
  let d := field b 8 1
  let carried := (List.range d).map (fun k => field b (576 + k) 1)
  let sq := fun (q : Nat) => let r := slice b (128 + 32 * q) 32
    ({ base := field r 0 8, size := field r 8 4, enable := bit (field r 12 4) 0, head := field r 16 2, tail := field r 18 2
       err := bit (field r 20 1) 0, stopped := bit (field r 20 1) 0, bad := bit (field r 20 1) 1
       owed := (carried.filter (· == q)).length } : SubQ)
  let cq := fun (q : Nat) => let r := slice b (256 + 32 * q) 32
    let c := field r 12 4
    let fl := field r 25 1
    ({ base := field r 0 8, size := field r 8 4, enable := bit c 0, irq := bit c 1, vector := bits c 6 4, mod := field r 16 4
       tail := field r 20 2, head := field r 22 2, u := field r 24 1, phase := bit fl 0, err := bit fl 1, stopped := bit fl 1
       timer := if bit fl 2 then some (field r 26 2) else none, reserved := field r 28 2 } : CplQ)
  let descs := (List.range d).map (fun k =>
    ({ id := s.tfb.nextDesc + k, sq := field b (576 + k) 1, bytes := slice b (640 + 64 * k) 64, here := true } : Desc))
  let s1 : State := { s with tfb := { s.tfb with nextDesc := s.tfb.nextDesc + d } }
  s1.onVf v (fun x => { x with
    cause := bits (field b 64 4) 31 24, errVector := field b 68 4, sqs := (List.range 4).map sq, cqs := (List.range 4).map cq
    descs := descs, cfg := { x.cfg with table := slice b 384 128, pba := field b 512 8 } })

/-- SAVE: the image goes to host memory (R393, R396). -/
def State.vfSave (s : State) (p i : Nat) : State :=
  s.vfCommand p i (fun x => x.state == 3) (fun v s =>
    let x := s.vf v
    let b := s.vfImage p i v
    if x.imageLen < b.length then s.vfcEnd v 3 3
    else if !s.linkUp p then s.vfcEnd v 3 4
    else match s.tfbDenied (s.tfbWho v) p x.imageAddr b.length permWrite with
      | some s1 => s1.vfcEnd v 3 4
      | none => (s.onVf v (fun x => { x with state := 4 })).hostSend (.vf p i) (.hostWrite p (s.routingId (.vf p i)) x.imageAddr b))

/-- SAVE_DONE: the host writes have ended. -/
def State.saveDone (s : State) (p i status : Nat) : State :=
  match s.poolVf p i with
  | none => s
  | some v => if (s.vf v).state ≠ 4 ∨ s.funcWrites (.vf p i) then s else s.vfcEnd v 3 (if status = 0 then 1 else 4)

/-- RESTORE: the image is read from host memory (R393). -/
def State.vfRestore (s : State) (p i : Nat) : State :=
  match s.entryVf p i with
  | none => s
  | some v =>
    let bound := s.vfFold v != 0
    s.vfCommand p i (fun x => x.state == 1 && bound && x.inflight == 0 && x.sqs.all (fun q => !q.enable) && x.cqs.all (fun q => !q.enable))
      (fun v s =>
        let x := s.vf v
        if !s.linkUp p then s.vfcEnd v 1 4
        else match s.tfbDenied (s.tfbWho v) p x.imageAddr (max 1 x.imageLen) permRead with
          | some s1 => s1.vfcEnd v 1 4
          | none => if s.noTracker false then s.vfcEnd v 1 4
            else (s.onVf v (fun x => { x with state := 5 })).hostFetch (.vf p i) v none x.imageAddr x.imageLen)

/-- A read of host memory by a function ends without data: its tracker expired (R159, R390, R393). -/
def State.fetchEnded (s : State) (f : Func) (desc : Option Nat) : State :=
  match f with
  | .pf _ => s
  | .vf p i => match s.poolVf p i with
    | none => s
    | some v => match desc with
      | none => if (s.vf v).state = 5 then s.vfcEnd v 1 4 else s
      | some n => match (s.vf v).descs.find? (fun d => d.id == n && !d.here) with
        | some d => s.fetchFail v d 5
        | none => s

/-- RESTORE_DONE: the image is checked and loaded, or the VF returns to STATE 1 unchanged. -/
def State.restoreDone (s0 : State) (p i status : Nat) (b : List Byte) : State :=
  match s0.poolVf p i with
  | none => s0
  | some v =>
    match s0.fetchTracker (.vf p i) true with
    | none => s0.lateResponse p []
    | some (t, _) =>
    let s := s0.releaseTracker t
    if (s.vf v).state ≠ 5 then s
    else if status ≠ 0 then s.vfcEnd v 1 4
    else if s.imageValid p v b then (s.imageLoad v b).vfcEnd v 3 1
    else s.vfcEnd v 1 3

/-- RESUME: the VF runs again, and the signals held back are sent (R393, R394). -/
def State.vfResume (s : State) (p i : Nat) : State :=
  s.vfCommand p i (fun x => x.state == 3) (fun v s =>
    ((s.onVf v (fun x => { x with descs := x.descs.map (fun d => { d with carried := true }) })).vfcEnd v 1 1).sendPending (.vf p i))

/-! ### Rebinding (R398 to R403) -/

/-- The fold that a rebind moves, 0 where none is under way. -/
def State.rbFold (s : State) : Nat := s.rd K.MIG_RB_FOLD

/-- The phase of the rebind. -/
def State.rbPhase (s : State) : Nat := bits (s.rd K.MIG_RB_STATE) 31 28

/-- A rebind is under way (R399). -/
def State.rbActive (s : State) : Bool := decide (s.rbFold ≠ 0 ∧ 1 ≤ s.rbPhase ∧ s.rbPhase ≤ 4)

/-- Enter a phase of the rebind. -/
def State.setPhase (s : State) (n : Nat) : State :=
  let s1 : State := { s with mig := { s.mig with phaseAt := s.clk.dtc, deferred := false } }
  s1.wrBits K.MIG_RB_STATE 31 28 n

/-- A rebind fails (R402): earlier steps stand, and the fold stays frozen. -/
def State.rbFail (s : State) (cause : Nat) : State := ((s.setPhase 6).wr K.MIG_RB_FAIL cause).wr K.MIG_RB_FOLD 0

/-- The pairs of MIG_RB_VFS: source and destination pool VF (R398). -/
def State.rbPairs (s : State) : List (Nat × Nat) :=
  let b := s.rdo K.MIG_RB_VFS
  (List.range (b.length / 4)).map (fun k => (field b (4 * k) 2, field b (4 * k + 2) 2))

/-- The starting commit point (R399 step 1): the freeze begins, and Croft writes the fold to BLW_FLUSH_FOLD, once no other flush runs (R297). -/
def State.rbStart (s : State) : State :=
  let f := s.rbFold
  let s1 : State := { s with mig := { s.mig with freezeAt := s.clk.dtc } }
  (((s1.wr K.MIG_RB_STATE f).setPhase 1 |>.wr K.MIG_RB_FAIL 0).flushFold f).2

/-- The old epoch of the fold has drained, and the records of the owner change are written at 10 ns each (R238, R399 step 6). -/
def State.rbDrained (s : State) : Bool :=
  s.epochFree s.rbFold && decide (s.mig.phaseAt + 20 * (s.extentsOf s.rbFold).length ≤ s.clk.dtc)

/-- The rebind's phases follow the flush and the drain (R399, R402). -/
def State.rbSync (s : State) : State :=
  if !s.rbActive then s else
  match s.rbPhase with
  | 1 =>
    let st := s.rd K.BLW_FLUSH_STATE
    if bits st 31 30 = 1 then s
    else if bits st 9 0 ≠ s.rbFold then (s.flushFold s.rbFold).2
    else if bits st 31 30 = 2 then s.setPhase 2
    else if bits st 31 30 = 3 then s.rbFail 1
    else s
  | 3 => if s.rbDrained then s.setPhase 4 else s
  | _ => s

/-- The values that the owner change writes (R399 step 3): owner, base, and the VFs' folds. -/
def State.rbWrites (s : State) : List (Nat × Nat) :=
  let f := s.rbFold
  [(K.FLD_OWNER_PORT f, s.rd K.MIG_RB_PORT), (K.FLD_WINDOW_BASE f, s.rd K.MIG_RB_BASE)]
    ++ s.rbPairs.map (fun e => (K.TFB_VF_FOLD e.1, 0))
    ++ (s.rbPairs.filter (fun e => e.2 != 0xFFFF)).map (fun e => (K.TFB_VF_FOLD e.2, f))

/-- Every source of the rebind is still frozen (R398, R402). -/
def State.rbSourcesFrozen (s : State) : Bool := s.rbPairs.all (fun e => (s.vf e.1).state == 3 && s.vfFold e.1 == s.rbFold)

/-- What the owner change does to the source VFs (R400). -/
def State.rbSources (s : State) : State :=
  forEach s.rbPairs (fun s e => s.onVf e.1 (fun x => { x with
    state := 1, descs := []
    sqs := x.sqs.map (fun q => { q with enable := false, owed := 0 })
    cqs := x.cqs.map (fun c => { c with enable := false, reserved := 0, u := 0, timer := none }) })) s

/-- The rebind ends (R399 step 6, R403). -/
def State.rbDone (s : State) : State :=
  (((s.setPhase 5).wr K.MIG_RB_FREEZE_NS (s.clk.dtc - s.mig.freezeAt)).wr K.MIG_RB_FOLD 0).bump K.MIG_REBINDS

/-! ### Harvest (R404 to R406) -/

/-- The port of a harvest. -/
def State.hvPort (s : State) : Nat := if s.rd K.MIG_HV_PORT = 0xFF then s.rd (K.FLD_OWNER_PORT (s.rd K.MIG_HV_FOLD)) else s.rd K.MIG_HV_PORT

/-- A commit that zeroes a fold's bitmap waits (R241, R404). -/
def State.zeroingWaits (s : State) (f : Nat) : Bool :=
  s.crf.sessions.any (fun x => x.waiting.isSome && (match x.txn with
    | some t => t.staged.any (fun w => (w.key == K.FLD_FLAGS f && bit (leNat w.value) 1 && !s.foldFlag f 1)
        || ((w.key == K.FLD_DIRTY_OFFSET f || w.key == K.FLD_WINDOW_SIZE f) && s.foldFlag f 1))
    | none => false))

/-- MIG_HV_CTRL 1 (R404). -/
def State.hvStart (s : State) : Nat × State :=
  let f := s.rd K.MIG_HV_FOLD
  let o := s.rd K.MIG_HV_OFFSET
  let n := s.rd K.MIG_HV_LENGTH
  let p := s.hvPort
  if s.mig.harvest.isSome ∨ !s.foldInUse f ∨ f = 0 ∨ o % 64 ≠ 0 ∨ n % 64 ≠ 0 ∨ n = 0 ∨ s.bitmapSize f < o + n ∨ s.rd K.MIG_HV_ADDR % 64 ≠ 0
      ∨ !s.pfExists p ∨ s.zeroingWaits f then (1, s)
  else
    let h : Harvest := { fold := f, port := p, addr := s.rd K.MIG_HV_ADDR, offset := o, len := n, since := s.clk.dtc }
    (0, (((({ s with mig := { s.mig with harvest := some h } } : State).wr K.MIG_HV_STATE (1 * 2 ^ 30)).wr K.MIG_HV_PAGES 0).wr K.MIG_HV_BYTES 0))

/-- Copy and clear one line of the bitmap (R405); none where Gatepost denies the write. -/
def State.hvLine (s : State) (h : Harvest) (k : Nat) : Option State :=
  let a := s.carveAt 4 + s.rd (K.FLD_DIRTY_OFFSET h.fold) + h.offset + 64 * k
  let r := s.cmnRead a 64
  let d := r.1
  let host := h.addr + 64 * k
  let who : Initiator := { device := s.device }
  match s.gtpDenied who (s.hostFeid h.port) host 64 permWrite with
  | some _ => none
  | none => some (((((r.2.2.cmnWrite a (zeros 64) allBytes).2).hostSend (.pf h.port) (.hostWrite h.port (s.routingId (.pf h.port)) host d)).add K.MIG_HV_PAGES (popCount 512 (leNat d))).add
      K.MIG_HV_BYTES 64)

/-- Copy the first `n` lines; the number copied, and whether a denial stopped it. -/
def State.hvLines (h : Harvest) : Nat → Nat → State → Nat × Bool × State
  | 0, k, s => (k, false, s)
  | n + 1, k, s => match s.hvLine h k with
    | some s1 => State.hvLines h n (k + 1) s1
    | none => (k, true, s)

/-- The harvest ends with a state and a status. -/
def State.hvEnd (s : State) (state status : Nat) : State :=
  let s1 : State := { s with mig := { s.mig with harvest := none } }
  (s1.wr K.MIG_HV_STATE (state * 2 ^ 30 + status)).cicRaise 0x119

/-- A denied line of the harvest: the record, and the end (R262, R405). -/
def State.hvDenied (s : State) (h : Harvest) (k : Nat) : State :=
  let who : Initiator := { device := s.device }
  match s.gtpDenied who (s.hostFeid h.port) (h.addr + 64 * k) 64 permWrite with
  | some d => (s.gtpViolation who (s.hostFeid h.port) (h.addr + 64 * k) 64 8 permWrite false d).hvEnd 3 2
  | none => s.hvEnd 3 2

/-- Copy `n` lines and end. -/
def State.hvCopy (s : State) (h : Harvest) (n state status : Nat) : State :=
  if !s.linkUp h.port then s.hvEnd 3 6 else
  let r := State.hvLines h n 0 s
  if r.2.1 then r.2.2.hvDenied h r.1 else r.2.2.hvEnd state status

/-- The lines that a harvest has copied at this time, in full or short of the whole: free within its rate of 32 GB/s (R404). -/
def State.hvReached (s : State) (h : Harvest) : Nat :=
  min (h.len / 64 - 1) (Config.harvestPace s.fresh % ((s.clk.dtc - h.since) / 2 + 1))

/-- MIG_HV_CTRL 2 (R405): the line in progress is still written. -/
def State.hvStop (s : State) : Nat × State :=
  match s.mig.harvest with
  | none => (0, s)
  | some h => (0, s.tick.hvCopy h (s.hvReached h + 1) 2 0)

/-- HARVEST_DONE: the harvest has copied its range, or a host write failed with a status of R342. -/
def State.hvDone (s : State) (status : Nat) : State :=
  match s.mig.harvest with
  | none => s
  | some h => if status = 0 then s.hvCopy h (h.len / 64) 2 0 else s.tick.hvCopy h (s.hvReached h) 3 (status % 256)

/-- MIG_HV_CTRL (R404, R405, R407). -/
def State.hvCtrl (s : State) (v : Nat) : Nat × State := if v = 1 then s.hvStart else if v = 2 then s.hvStop else (1, s)

end Sys2Proof.Machine
end

