-- ==== Sys2Proof/Machine/Bar.lean ====
section
/-! DEFINITION. BAR0 of the tenant functions: what its registers read, and writes to registers by offset (R46, R318, R366 to R371). -/

namespace Sys2Proof.Machine

/-! ### Reads -/

/-- PF_STATUS (R366). -/
def State.pfStatus (s : State) (p : Nat) : Nat :=
  p * 256 + 2 * b2n (s.rd (K.TFB_PF_TOTAL_VFS p) != 0) + b2n (s.boot.sysReady && s.role p == 1)

/-- PF_VFC_STATE of a VF (R368). -/
def State.vfcState (s : State) (v : Nat) : Nat :=
  let x := s.vf v
  x.inflight * 65536 + 512 * b2n (x.state == 2 || x.state == 4 || x.state == 5) + 256 * b2n (s.vfFold v != 0) + x.state

/-- VF_STATUS (R369). -/
def State.vfStatus (s : State) (v : Nat) : Nat :=
  let f := s.vfFold v
  let x := s.vf v
  16 * b2n (f != 0 && s.foldFlag f 3) + 8 * b2n ((3 ≤ x.state && x.state ≤ 5) || (f != 0 && s.foldFlag f 2)) + 4 * b2n (x.state == 6) + 2 * b2n (f != 0)
    + b2n (s.vfReady v)

/-- The 64-byte block that a PF's meter window shows for a fold (R318). -/
def State.pfMeter (s : State) (p f : Nat) : List Byte :=
  if f = 0 ∨ s.rd (K.FLD_OWNER_PORT f) ≠ p then zeros 64 else s.meterBlock f

/-- The 64-byte block of a VF's meter window (R318, R369). -/
def State.vfMeter (s : State) (v : Nat) : List Byte :=
  let f := s.vfFold v
  if f ≠ 0 ∧ s.foldFlag f 3 then s.meterBlock f else zeros 64

/-- A dword of a 64-bit value. -/
def half (v : Nat) (hi : Bool) : Nat := if hi then bits v 63 32 else bits v 31 0

/-- A dword of VF BAR0 (R369, R371); during a reset it reads 0 (R388). -/
def State.vfReg (s : State) (p i v off : Nat) : Nat :=
  let x := s.vf v
  let m := s.major p
  if x.state = 6 then 0
  else if off = 0 then s.vfStatus v
  else if off = 4 then s.vfFold v
  else if off = 8 then m * 256 + tfbMinor m
  else if off = 0xC then x.errReg
  else if off = 0x10 then x.errVector
  else if off = 0x18 ∨ off = 0x1C then half s.clk.dtc (off == 0x1C)
  else if 0x40 ≤ off ∧ off < 0x80 then
    let q := x.sqs.getD ((off - 0x40) / 16) {}
    match (off - 0x40) % 16 with
    | 0 => half q.base false
    | 4 => half q.base true
    | 8 => q.size
    | _ => q.head * 65536 + 2 * b2n (s.sqActive v ((off - 0x40) / 16)) + b2n q.enable
  else if 0x80 ≤ off ∧ off < 0x100 then
    let c := x.cqs.getD ((off - 0x80) / 32) {}
    match (off - 0x80) % 32 with
    | 0 => half c.base false
    | 4 => half c.base true
    | 8 => c.size
    | 0xC => c.tail * 65536 + c.ctrl
    | 0x10 => c.mod
    | _ => 0
  else if 0x100 ≤ off ∧ off < 0x110 then (x.sqs.getD ((off - 0x100) / 4) {}).tail
  else if 0x200 ≤ off ∧ off < 0x210 then (x.cqs.getD ((off - 0x200) / 4) {}).head
  else if 0x1000 ≤ off ∧ off < 0x1080 then field (s.msixTable (.vf p i)) (off - 0x1000) 4
  else if off = 0x1800 then x.cfg.pba
  else if 0x2000 ≤ off ∧ off < 0x2040 then field (s.vfMeter v) (off - 0x2000) 4
  else if off = 0x3000 then x.state
  else 0

/-- A dword of PF BAR0 (R46, R366, R368). -/
def State.pfReg (s : State) (p off : Nat) : Nat :=
  let x := s.pf p
  let m := s.mailbox p
  if off = 0 then s.pfStatus p
  else if off = 4 then s.rd (K.TFB_PF_TOTAL_VFS p) * 65536 + s.rd (K.TFB_PF_VF_BASE p)
  else if off = 8 then x.intCause
  else if off = 0xC then x.intEnable
  else if off = 0x10 ∨ off = 0x14 then half s.clk.dtc (off == 0x14)
  else if 0x100 ≤ off ∧ off < 0x120 then x.vfEvent / 2 ^ (8 * (off - 0x100)) % 2 ^ 32
  else if off = 0x10000 then m.ctrl
  else if off = 0x10004 then m.reqLen
  else if off = 0x10008 then m.rspLen % 2048
  else if off = 0x1000C then m.ntfLen % 2048
  else if 0x11000 ≤ off ∧ off < 0x12000 then field m.req (off - 0x11000) 4
  else if 0x12000 ≤ off ∧ off < 0x13000 then field m.rsp (off - 0x12000) 4
  else if 0x13000 ≤ off ∧ off < 0x14000 then field m.ntf (off - 0x13000) 4
  else if 0x20000 ≤ off ∧ off < 0x20030 then field (s.msixTable (.pf p)) (off - 0x20000) 4
  else if off = 0x21000 then x.cfg.pba
  else if 0x100000 ≤ off ∧ off < 0x200000 then
    let i := (off - 0x100000) / 0x1000 + 1
    match s.entryVf p i with
    | none => 0
    | some v =>
      let y := s.vf v
      match (off - 0x100000) % 0x1000 with
      | 0 => s.vfcState v
      | 8 => y.result
      | 0xC => y.imageLen
      | 0x10 => half y.imageAddr false
      | 0x14 => half y.imageAddr true
      | _ => 0
  else if 0x400000 ≤ off ∧ off < 0x410000 then field (s.pfMeter p ((off - 0x400000) / 64)) ((off - 0x400000) % 64) 4
  else 0

/-- What a read of BAR0 returns (R366): 4 or 8 aligned octets, else 0. -/
def State.barRead (s : State) (f : Func) (off size : Nat) : Nat :=
  if !barFits off size then 0 else
  match f with
  | .pf p =>
    if !s.pfExists p then 0
    else if size = 8 then s.pfReg p off + 2 ^ 32 * s.pfReg p (off + 4) else s.pfReg p off
  | .vf p i => match s.poolVf p i with
    | none => 0
    | some v => if size = 8 then s.vfReg p i v off + 2 ^ 32 * s.vfReg p i v (off + 4) else s.vfReg p i v off

/-! ### Writes -/

/-- PF_VFC_CMD (R393): other values are counted. -/
def State.vfcCmd (s : State) (p i value : Nat) : State :=
  match bits value 3 0 with
  | 1 => s.vfFreeze p i
  | 2 => s.vfSave p i
  | 3 => s.vfRestore p i
  | 4 => s.vfResume p i
  | _ => s.bump K.TFB_BAR_ERRORS

/-- PF_MBX_RSP_RELEASE and PF_MBX_NTF_RELEASE (R46): bit 2 or bit 7 of PF_MBX_CTRL is cleared by a 1.  A reply that waited takes the response buffer. -/
def State.mbxRelease (s : State) (p n : Nat) : State :=
  let x := s.mailbox p
  match x.queue with
  | b :: rest =>
    if n = 2 ∧ bit x.ctrl 2 then
      ((s.putMailbox p { x with rsp := b, rspLen := b.length, queue := rest }).emit (.crook (.mbx p) 0 b)).pfCause p 0
    else s.putMailbox p { x with ctrl := putBit x.ctrl n false }
  | [] => s.putMailbox p { x with ctrl := putBit x.ctrl n false }

/-- A dword write to PF BAR0; `go` submits the mailbox (R46, R366, R368). -/
def State.pfBar (s : State) (go : Nat → State → State) (p off value : Nat) : State :=
  let m := s.mailbox p
  if off = 8 then s.pfIntCause p value
  else if off = 0xC then s.putPf p { s.pf p with intEnable := value % 16 }
  else if 0x100 ≤ off ∧ off < 0x120 then s.pfEventWrite p ((off - 0x100) / 4) value
  else if off = 0x10000 then
    let s1 := when (bit value 2) (·.mbxRelease p 2) (when (bit value 7) (·.mbxRelease p 7) s)
    when (bit value 0) (go p) s1
  else if off = 0x10004 then (if bit m.ctrl 1 then s else s.putMailbox p { m with reqLen := value % 2048 })
  else if 0x11000 ≤ off ∧ off < 0x12000 then
    (if bit m.ctrl 1 then s else s.putMailbox p { m with req := patch (fit 4096 m.req) (off - 0x11000) (leBytes 4 value) })
  else if 0x20000 ≤ off ∧ off < 0x20030 then s.msixWrite (.pf p) (off - 0x20000) value
  else if 0x100000 ≤ off ∧ off < 0x200000 then
    let i := (off - 0x100000) / 0x1000 + 1
    match s.entryVf p i with
    | none => s
    | some v => match (off - 0x100000) % 0x1000 with
      | 4 => s.vfcCmd p i value
      | 0xC => s.onVf v (fun x => { x with imageLen := value % 32768 })
      | 0x10 => s.onVf v (fun x => { x with imageAddr := putHalf x.imageAddr 0 value 6 })
      | 0x14 => s.onVf v (fun x => { x with imageAddr := putHalf x.imageAddr 1 value 6 })
      | _ => s
  else s

/-- A dword write to BAR0 of a function. -/
def State.barDword (s : State) (go : Nat → State → State) (f : Func) (off value : Nat) : State :=
  match f with
  | .pf p => if s.pfExists p then s.pfBar go p off value else s
  | .vf p i => match s.poolVf p i with
    | none => s
    | some v => s.vfBar f v off value

/-- BAR_REGISTER_WRITE (R366): 4 or 8 aligned octets; any other access has no effect and is counted. -/
def State.barWrite (s : State) (go : Nat → State → State) (f : Func) (off size value : Nat) : State :=
  if !barFits off size then s.bump K.TFB_BAR_ERRORS
  else if size = 4 then s.barDword go f off (value % 2 ^ 32)
  else (s.barDword go f off (bits value 31 0)).barDword go f (off + 4) (bits value 63 32)

end Sys2Proof.Machine
end

