-- ==== Sys2Proof/Machine/Mgmt.lean ====
section
/-! DEFINITION. The management function: SPDM, IDE key management, FM API commands; resets of ports and HDM decoders (R87, R96, R155 to R158,
R163, R226). -/

namespace Sys2Proof.Machine

/-! ### SPDM (R156) -/

/-- Where the SPDM connection of a channel is kept: its port's record, or record 64 for I3C. -/
def channelNum : MgmtChannel → Nat
  | .vdm p => p
  | .i3c => 64

/-- The management function answers on the channel. -/
def State.channelUp (s : State) (ch : MgmtChannel) : Bool :=
  match ch with
  | .vdm p => s.pfExists p && s.linkUp p
  | .i3c => s.boot.croftServes && s.pwr.sleep == .awake

/-- The SPDM connection of a channel. -/
def State.spdm (s : State) (ch : MgmtChannel) : Spdm := (s.port (channelNum ch)).spdm

/-- Set the SPDM connection of a channel. -/
def State.putSpdm (s : State) (ch : MgmtChannel) (x : Spdm) : State :=
  s.putPort (channelNum ch) { s.port (channelNum ch) with spdm := x }

/-- An SPDM response; its body is free. -/
def State.spdmSay (s : State) (ch : MgmtChannel) (code : Nat) : State := s.tick.emit (.spdm ch code (Config.spdmBody code s.fresh))

/-- An SPDM ERROR with its error code (codes PRESUMED: SPDM 1.2). -/
def State.spdmError (s : State) (ch : MgmtChannel) (code : Nat) : State := s.emit (.spdm ch 0x7F [BitVec.ofNat 8 code])

/-- An SPDM request: discarded where it is malformed (R163), else answered; `need` is the part of the negotiation that must have taken place. -/
def State.spdmAsk (s : State) (ch : MgmtChannel) (r : SpdmReq) (need : Spdm → Bool) (go : State → State) : State :=
  if !s.channelUp ch then s
  else if r.malformed then
    let s1 := match ch with
      | .vdm p => s.portViolation p F.PRT_SPDM []
      | .i3c => s.raise F.PRT_SPDM (elemSub 2)
    s1.spdmError ch 1
  else if !need (s.spdm ch) then s.spdmError ch 4
  else go s

/-- GET_VERSION: the negotiation starts afresh. -/
def State.spdmVersion (s : State) (ch : MgmtChannel) (r : SpdmReq) : State :=
  s.spdmAsk ch r (fun _ => true) (fun s => (s.putSpdm ch { version := true }).spdmSay ch 0x04)

/-- GET_CAPABILITIES. -/
def State.spdmCapabilities (s : State) (ch : MgmtChannel) (r : SpdmReq) : State :=
  s.spdmAsk ch r (fun x => x.version) (fun s => (s.putSpdm ch { s.spdm ch with capabilities := true }).spdmSay ch 0x61)

/-- NEGOTIATE_ALGORITHMS: 1 ECDSA P-384, 2 SHA-384, 3 ECDHE secp384r1, 4 AES-256-GCM must all be offered. -/
def State.spdmAlgorithms (s : State) (ch : MgmtChannel) (r : SpdmReq) : State :=
  s.spdmAsk ch r (fun x => x.capabilities) (fun s =>
    (s.putSpdm ch { s.spdm ch with algorithms := [1, 2, 3, 4].all r.algorithms.contains }).spdmSay ch 0x63)

/-- GET_DIGESTS. -/
def State.spdmDigests (s : State) (ch : MgmtChannel) (r : SpdmReq) : State :=
  s.spdmAsk ch r (fun x => x.algorithms) (fun s => s.spdmSay ch 0x01)

/-- GET_CERTIFICATE: slot 0 holds the only chain. -/
def State.spdmCertificate (s : State) (ch : MgmtChannel) (r : SpdmReq) : State :=
  s.spdmAsk ch r (fun x => x.algorithms) (fun s => if r.slot = 0 then s.spdmSay ch 0x02 else s.spdmError ch 1)

/-- CHALLENGE. -/
def State.spdmChallenge (s : State) (ch : MgmtChannel) (r : SpdmReq) : State :=
  s.spdmAsk ch r (fun x => x.algorithms) (fun s => if r.slot = 0 then s.spdmSay ch 0x03 else s.spdmError ch 1)

/-- What a measurement block holds (R156): 1 the hash of the boot ROM, 2 of the running image, 3 of the fuses and sampled straps, 4 of the set of loaded
engine programs, in ascending slot. -/
def State.measured (s : State) (n : Nat) : List Byte :=
  match n with
  | 1 => Config.bootRomHash
  | 2 => sha384 s.boot.image
  | 3 => sha384 (Config.fuses ++ leBytes 2 (s.rd K.HRD_STRAP_VALUE))
  | _ => sha384 ((sortBy (·.1) s.drv.images).flatMap (fun e => leBytes 1 e.1 ++ sha384 e.2))

/-- A measurement block in the DMTF form of SPDM 1.2 (PRESUMED): index, specification 1, size, type and size of the value, value. -/
def State.measurement (s : State) (n : Nat) : List Byte :=
  let v := s.measured n
  leBytes 1 n ++ [1] ++ leBytes 2 (v.length + 3) ++ leBytes 1 ([0, 1, 3, 4].getD (n - 1) 4) ++ leBytes 2 v.length ++ v

/-- GET_MEASUREMENTS: index 0 asks for the count, 1 to 4 for a block, 0xFF for all; the rest of the response is free. -/
def State.spdmMeasurements (s : State) (ch : MgmtChannel) (r : SpdmReq) : State :=
  s.spdmAsk ch r (fun x => x.algorithms) (fun s =>
    let blocks := if r.index = 0 then [4] else if r.index = 0xFF then [1, 2, 3, 4].flatMap s.measurement else s.measurement r.index
    if r.index ≤ 4 ∨ r.index = 0xFF then s.tick.emit (.spdm ch 0x60 (blocks ++ Config.spdmBody 0x60 s.fresh)) else s.spdmError ch 1)

/-- KEY_EXCHANGE: at most 4 sessions for each upstream port. -/
def State.spdmKeyExchange (s : State) (ch : MgmtChannel) (r : SpdmReq) : State :=
  s.spdmAsk ch r (fun x => x.algorithms) (fun s =>
    let x := s.spdm ch
    let full := match ch with
      | .vdm _ => decide (4 ≤ x.sessions.length)
      | .i3c => false
    if r.slot ≠ 0 then s.spdmError ch 1
    else if full then s.spdmError ch 0x0A
    else
      let n := ((List.range (x.sessions.length + 1)).map (· + 1)).find? (fun n => !(x.sessions.any (fun y => y.num == n))) |>.getD 1
      (s.putSpdm ch { x with sessions := x.sessions ++ [{ num := n, established := false, updates := 0 }] }).spdmSay ch 0x64)

/-- FINISH completes the session that KEY_EXCHANGE began. -/
def State.spdmFinish (s : State) (ch : MgmtChannel) (r : SpdmReq) : State :=
  s.spdmAsk ch r (fun x => x.sessions.any (fun y => y.num == r.session && !y.established)) (fun s =>
    let x := s.spdm ch
    (s.putSpdm ch { x with sessions := x.sessions.map (fun y => if y.num = r.session then { y with established := true } else y) }).spdmSay ch 0x65)

/-- The session of a request is established. -/
def Spdm.live (x : Spdm) (n : Nat) : Bool := x.sessions.any (fun y => y.num == n && y.established)

/-- HEARTBEAT. -/
def State.spdmHeartbeat (s : State) (ch : MgmtChannel) (r : SpdmReq) : State :=
  s.spdmAsk ch r (fun x => x.live r.session) (fun s => s.spdmSay ch 0x68)

/-- KEY_UPDATE. -/
def State.spdmKeyUpdate (s : State) (ch : MgmtChannel) (r : SpdmReq) : State :=
  s.spdmAsk ch r (fun x => x.live r.session) (fun s =>
    let x := s.spdm ch
    (s.putSpdm ch { x with sessions := x.sessions.map (fun y => if y.num = r.session then { y with updates := y.updates + 1 } else y) }).spdmSay ch 0x69)

/-- END_SESSION. -/
def State.spdmEnd (s : State) (ch : MgmtChannel) (r : SpdmReq) : State :=
  s.spdmAsk ch r (fun x => x.live r.session) (fun s =>
    let x := s.spdm ch
    (s.putSpdm ch { x with sessions := x.sessions.filter (fun y => y.num != r.session) }).spdmSay ch 0x6C)

/-! ### IDE (R157, R158, R163) -/

/-- The state of one direction of a port's IDE stream: 0 CXL.io, 1 CXL.cachemem. -/
def State.ideState (s : State) (p stream : Nat) (tx : Bool) : Nat := Sparse.get (fun _ => 0) (s.port p).ide (2 * stream + b2n tx)

/-- The state of a stream: insecure with either direction, secure with both, else whether a key is programmed. -/
def State.ideStream (s : State) (p stream : Nat) : Nat :=
  let a := s.ideState p stream false
  let b := s.ideState p stream true
  if a = 3 ∨ b = 3 then 3 else if a = 2 ∧ b = 2 then 2 else if a = 0 ∧ b = 0 then 0 else 1

/-- Set the state of a direction; PRT_IDE_STATE shows the furthest of the port's streams (DESIGN CHOICE, log 112). -/
def State.putIde (s : State) (p stream : Nat) (tx : Bool) (v : Nat) : State :=
  let s1 := s.putPort p { s.port p with ide := Sparse.set (fun _ => 0) (s.port p).ide (2 * stream + b2n tx) v }
  s1.wr (K.PRT_IDE_STATE p) (max (s1.ideStream p 0) (s1.ideStream p 1))

/-- IDE_KM: keys of a direction are programmed, then it is started; new keys take an insecure stream back once its link has been down (R158).  Out of
sequence, and for CXL.cachemem while PRT_IDE_MODE is off, the message is answered Invalid Request without effect on the stream. -/
def State.ideKm (s : State) (p session : Nat) (go : Bool) (stream : Nat) (tx inSequence : Bool) : State :=
  if 64 ≤ p ∨ ¬(s.role p = 1 ∨ s.role p = 2) ∨ !s.linkUp p then s else
  let ok := inSequence && stream ≤ 1 && (s.role p == 2 || (s.spdm (.vdm p)).live session) && (if go then s.ideState p stream tx == 1 else true)
  if stream = 1 ∧ s.rd (K.PRT_IDE_MODE p) = 0 then s.emit (.ideKm p 1)
  else if !ok then (s.portViolation p F.PRT_IDE_FAIL []).emit (.ideKm p 1)
  else
    let s1 := if s.ideStream p stream = 3 then s.putIde p stream (!tx) 0 else s
    (s1.putIde p stream tx (if go then 2 else 1)).emit (.ideKm p 0)

/-- PRT_IDE_FAIL: an integrity check of a secure stream fails: the stream is insecure, and the collector isolates the port. -/
def State.ideFail (s : State) (p stream : Nat) : State :=
  if 64 ≤ p ∨ 1 < stream ∨ s.ideState p stream false ≠ 2 then s else
  ((s.putIde p stream false 3).bump (K.PRT_VIOLATIONS p)).raiseGraveD F.PRT_IDE_FAIL (elemPort p) (s.rd (K.PRT_LINK_STATE p)) 0 0

/-! ### FM API (R155) -/

/-- A query of the FM API changes nothing. -/
def fmQuery : FmKind → Bool
  | .identifySwitch | .portState _ | .switchInfo _ | .dcdInfo _ | .dcRegions _ | .dcExtents _ => true
  | _ => false

/-- What a query reports.  PRESUMED from the CXL FM API: its numbers, in this order. -/
def State.fmContent (s : State) : FmKind → List Nat
  | .identifySwitch =>
    let mask := fun (f : Nat → Bool) => (List.range 64).foldl (fun n p => n + b2n (f p) * 2 ^ p) 0
    [64, mask s.linkUp, mask (fun p => s.role p == 1), 8]
  | .portState p => if 64 ≤ p then [] else [s.role p, s.rd (K.PRT_WIDTH p), s.rd (K.PRT_LINK_STATE p), (s.port p).lds]
  | .switchInfo p => if 64 ≤ p then [] else (List.range 6).map (fun i => s.rd (K.PRT_VPPB_BIND p i))
  | .dcdInfo p => if 64 ≤ p then [] else [s.rd (K.PRT_DC_REGIONS p), 2 ^ 28, s.logFree p]
  | .dcRegions p => if 64 ≤ p then [] else List.replicate (s.rd (K.PRT_DC_REGIONS p)) (2 ^ 28)
  | .dcExtents p => (s.extents.filter (fun e => s.rd (K.FLD_OWNER_PORT e.fold) == p)).flatMap
      (fun e => [e.num, s.rd (K.FLD_WINDOW_BASE e.fold) + e.offset, e.size, e.fold])
  | _ => []

/-- A write that a command of the FM API may make: a vPPB binding, the number of regions, or an extent's entry. -/
def fmWrites (k : FmKind) (w : FmWrite) : Bool :=
  let x := key w.index w.sub
  match k with
  | .bindVppb | .unbindVppb => 0x2402 ≤ w.index && w.index < 0x2500 && w.index % 4 == 2 && 0x11 ≤ w.sub && w.sub ≤ 0x16
  | .setDcRegions => 0x2401 ≤ w.index && w.index < 0x2500 && w.index % 4 == 1 && w.sub == 3
  | .dcAdd | .dcRelease => isExtentKey x
  | _ => false

/-- The port that a command names is there, and the command fits it (R87, R154). -/
def State.fmPlace (s : State) (k : FmKind) : Bool :=
  match k with
  | .portState p | .switchInfo p | .aerEvent p => decide (p < 64)
  | .dcdInfo p | .dcRegions p | .dcExtents p => decide (p < 64) && s.role p == 1
  | .portControl p a => decide (p < 64) && s.role p == 2 && s.linkUp p && a == 2
  | .tunnel p ld _ | .deviceAdd p ld _ _ | .deviceRelease p ld _ _ | .ldConfig p ld _ _ | .ldMemory p ld _ _ _ =>
    decide (p < 64) && s.role p == 2 && s.linkUp p && decide (ld < 16)
  | .ppbConfig p _ _ => decide (p < 64) && s.role p == 2 && s.linkUp p
  | _ => true

/-- FM_API_COMMAND: a query is answered at once; a command that changes state waits for the next boundary, and one that breaks a rule is answered Invalid
Input and applies nothing. -/
def State.fmApi (s : State) (ch : MgmtChannel) (k : FmKind) (w : List FmWrite) : State :=
  if !s.channelUp ch then s
  else if !s.fmPlace k ∨ !w.all (fmWrites k) then s.emit (.fmApi ch 2 [])
  else if fmQuery k then s.emit (.fmApi ch 0 (s.fmContent k))
  else { s with fab := { s.fab with fold := { s.fab.fold with internal := s.fab.fold.internal ++ [{
    tick := s.now, job := .fm ch k (w.map (fun x => if x.expected = 0xFFFFFFFF then { x with expected := s.version (key x.index x.sub) } else x)) }] } } }

/-! ### Resets of ports (R87, R96) and HDM decoders (R226) -/

/-- A conventional reset of a port: its link, and on an upstream port its functions and the memory function's decoders. -/
def State.portReset (s : State) (p : Nat) : State :=
  let s1 := s.portDown p
  if s1.role p = 1 then (s1.portFuncReset p).putPort p { (s1.portFuncReset p).port p with hdm := [] } else s1

/-- PORT_PERST_N: an upstream port's PORT_PERST_N is sampled low.  It is ignored while its pad is held (R94), in the Pinfold state (R111), and until the
port's committed role has taken effect (R87). -/
def State.portPerst (s : State) (p : Nat) : State :=
  if !s.pfExists p ∨ s.rd K.HRD_PADS_HELD ≠ 0 ∨ s.inPinfold ∨ (s.port p).newRole then s else
  let s1 : State := { s with boot := { s.boot with perstIn := p :: s.boot.perstIn.filter (· != p) } }
  (s1.portReset p).setLtssm p 0x00

/-- PERST_DEASSERT: the host releases PORT_PERST_N.  A held pad is not heard (R94). -/
def State.portPerstEnd (s : State) (p : Nat) : State :=
  if !s.boot.perstIn.contains p ∨ s.rd K.HRD_PADS_HELD ≠ 0 then s else
  State.startTraining { s with boot := { s.boot with perstIn := s.boot.perstIn.filter (· != p) } } p

/-- HOT_RESET on a PCIe or CXL port. -/
def State.hotReset (s : State) (p : Nat) : State :=
  if 64 ≤ p ∨ s.role p = 0 ∨ s.role p = 3 ∨ !s.linkUp p then s else ((s.portReset p).setLtssm p 0x1B).startTraining p

/-- HDM_DECODER_COMMIT: the host commits a decoder of the memory function (R226). -/
def State.hdmCommit (s : State) (p n : Nat) (d : HdmDecoder) : State :=
  if !s.pfExists p ∨ !s.linkUp p ∨ !(s.port p).cxl ∨ 8 ≤ n ∨ d.size = 0 ∨ d.size % 2 ^ 28 ≠ 0 ∨ d.base % 2 ^ 28 ≠ 0 ∨ !([1, 2, 4, 8].contains d.ways)
      ∨ !([256, 512, 1024, 2048, 4096, 8192, 16384].contains d.granularity) ∨ d.ways ≤ d.position then s
  else s.putPort p { s.port p with hdm := Sparse.insert n d (s.port p).hdm }

end Sys2Proof.Machine
end

