-- ==== Sys2Proof/Machine/Switch.lean ====
section
/-! DEFINITION. The virtual CXL switch of an upstream port: its functions and their configuration space (R2 to R4, R146, R148 to R150, R162, R361 to
R366). -/

namespace Sys2Proof.Machine

/-- The function is there: the switch, its eight vPPBs, the memory function and the PF always, a VF while it is enabled (R148, R361, R362). -/
def State.funcThere (s : State) (p : Nat) : SwitchFunc → Bool
  | .vppb i => decide (i < 8)
  | .vf i => (s.pf p).vfEnable && decide (1 ≤ i) && decide (i ≤ (s.pf p).numVfs)
  | .device => false
  | _ => true

/-- The downstream port bound to a vPPB. -/
def State.boundPort (s : State) (p i : Nat) : Option Nat :=
  if 2 ≤ i ∧ i < 8 ∧ s.rd (K.PRT_VPPB_BIND p (i - 2)) < 64 then some (s.rd (K.PRT_VPPB_BIND p (i - 2))) else none

/-- The function is a tenant function. -/
def funcTenant : SwitchFunc → Bool
  | .pf | .vf _ => true
  | _ => false

/-- The number of a function among those of its port. -/
def funcNum : SwitchFunc → Nat
  | .upstream => 0
  | .vppb i => 1 + i
  | .memory => 9
  | .pf => 10
  | .vf i => 10 + i
  | .device => 0

/-- The bridge that a function is, by its number: the upstream switch port or a vPPB. -/
def bridgeNum : SwitchFunc → Option Nat
  | .upstream => some 0
  | .vppb i => some (1 + i)
  | _ => none

/-- A device that takes CXL.cache is bound behind the function: at the switch behind any vPPB (R150). -/
def State.cacheBound (s : State) (p : Nat) (f : SwitchFunc) : Bool :=
  let at_ := fun (i : Nat) => ((s.boundPort p i).map (fun q => (s.port q).cacheDevice && s.linkUp q)).getD false
  match f with
  | .upstream => (List.range 8).any at_
  | .vppb i => at_ i
  | _ => false

/-- The AER registers that a function shows (R148, R361): the upstream port its own, a vPPB those of the port bound to it, the memory function, the PF
and a vPPB with nothing bound their own; a VF has none. -/
def State.aerOf (s : State) (p : Nat) (f : SwitchFunc) : Option Aer :=
  let of_ := fun (q : Nat) => { status := (s.port q).aerStatus, mask := (s.port q).aerMask, log := (s.port q).aer : Aer }
  match f with
  | .upstream => some (of_ p)
  | .vppb i => some (((s.boundPort p i).map of_).getD (Sparse.get (fun _ => {}) (s.port p).funcAer (funcNum f)))
  | .memory | .pf => some (Sparse.get (fun _ => {}) (s.port p).funcAer (funcNum f))
  | _ => none

/-- Set the AER registers of a function. -/
def State.putAer (s : State) (p : Nat) (f : SwitchFunc) (a : Aer) : State :=
  let own := match f with
    | .upstream => some p
    | .vppb i => s.boundPort p i
    | _ => none
  match own with
  | some q => s.putPort q { s.port q with aerStatus := a.status, aerMask := a.mask, aer := a.log }
  | none => s.putPort p { s.port p with funcAer := Sparse.set (fun _ => {}) (s.port p).funcAer (funcNum f) a }

/-- The tenant function of a port that a function of its switch is. -/
def tenantOf (p : Nat) : SwitchFunc → Option Func
  | .pf => some (.pf p)
  | .vf i => some (.vf p i)
  | _ => none

/-- A number for each register of tenant functions, for the free values that other functions show there. -/
def cfgNum : CfgReg → Nat
  | .command => 0x10000 | .bar0 => 0x10001 | .vfBar0 => 0x10002 | .expressCapabilities => 0x10003 | .expressCapabilities2 => 0x10004
  | .expressControl => 0x10005 | .pmCapabilities => 0x10006 | .pmControl => 0x10007 | .msixControl => 0x10008 | .msixTable => 0x10009
  | .msixPba => 0x1000A | .sriovCapabilities => 0x1000B | .sriovControl => 0x1000C | .initialVfs => 0x1000D | .totalVfs => 0x1000E
  | .numVfs => 0x1000F | .firstVfOffset => 0x10010 | .vfStride => 0x10011 | .supportedPageSizes => 0x10012 | .atsCapability => 0x10013
  | .atsControl => 0x10014 | .vsecHeader => 0x10015 | .verSupported => 0x10016 | .verSelect => 0x10017
  | .other o => o
  | _ => 0x10018

/-- What a register of a tenant function's capabilities reads (R361, R362, R365, R385, R389); during a reset the values that it leaves (R388).  PRESUMED
from the base specifications: the places of the bits. -/
def State.tenantRead (s : State) (p : Nat) (g : Func) (r : CfgReg) : Nat :=
  let c : FuncCfg := if s.resetting g then {} else s.fcfg g
  let x := s.pf p
  let isPf := match g with
    | .pf _ => true
    | .vf _ _ => false
  let pfOnly := fun (n : Nat) => if isPf then n else 0
  match r with
  | .command => 4 * b2n c.busMaster
  | .bar0 => pfOnly (x.bar0 + 4)
  | .vfBar0 => pfOnly (x.vfBar0 + 4)
  | .expressCapabilities => 2 + 2 ^ 28
  | .expressCapabilities2 => 2 ^ 16 + 2 ^ 17
  | .expressControl => 32 * c.mps + 4096 * c.mrrs
  | .pmCapabilities => 2 ^ 30
  | .pmControl => 3 * b2n c.d3 + 8 + 2 ^ 8 * b2n c.pmeEn + 2 ^ 15 * b2n c.pmeStatus
  | .msixControl => funcVectors g - 1 + 2 ^ 14 * b2n c.fmask + 2 ^ 15 * b2n c.msixEnable
  | .msixTable => if isPf then 0x20000 else 0x1000
  | .msixPba => if isPf then 0x21000 else 0x1800
  | .sriovControl => pfOnly (b2n x.vfEnable)
  | .initialVfs | .totalVfs => pfOnly (s.rd (K.TFB_PF_TOTAL_VFS p))
  | .numVfs => pfOnly x.numVfs
  | .firstVfOffset | .vfStride => pfOnly 1
  | .supportedPageSizes => pfOnly 0x1F
  | .atsCapability => 2 ^ 5
  | .atsControl => c.stu + 2 ^ 15 * b2n c.ats
  | .vsecHeader => pfOnly (1 + 2 ^ 16 + 0x10 * 2 ^ 20)
  | .verSupported => pfOnly 0x000E0300
  | .verSelect => pfOnly (tfbMinor (s.major p) * 256 + x.majorSelect)
  | _ => 0

/-- What a write of a register of a tenant function's capabilities does (R362, R365, R376, R383, R385, R387, R389); the other bits do not change. -/
def State.tenantWrite (s : State) (p : Nat) (g : Func) (r : CfgReg) (v : Nat) : State :=
  match r, g with
  | .command, _ => s.configWrite g (.busMaster (bit v 2))
  | .expressControl, _ => when (bit v 15) (·.initiateFlr g) (s.onFcfg g (fun x => { x with mps := min 2 (bits v 7 5), mrrs := min 5 (bits v 14 12) }))
  | .pmControl, _ =>
    let s1 := (when (bit v 15) (·.configWrite g .pmeStatusClear) s).configWrite g (.pmeEnable (bit v 8))
    if v % 4 = 3 then s1.powerWrite g true else if v % 4 = 0 then s1.powerWrite g false else s1
  | .msixControl, _ => (s.configWrite g (.functionMask (bit v 14))).configWrite g (.msixEnable (bit v 15))
  | .atsControl, _ => s.configWrite g (.atsEnable (bit v 15) (v % 32))
  | .bar0, .pf _ => s.putPf p { s.pf p with bar0 := v % 2 ^ 64 / 2 ^ 24 * 2 ^ 24 }
  | .vfBar0, .pf _ => s.putPf p { s.pf p with vfBar0 := v % 2 ^ 64 / 2 ^ 16 * 2 ^ 16 }
  | .numVfs, .pf _ => s.configWrite g (.numVfs v)
  | .sriovControl, .pf _ => s.vfEnable p (bit v 0)
  | .verSelect, .pf _ => s.majorSelect p v
  | _, _ => s

/-- What a configuration register reads.  PRESUMED from the base specifications: the places of the bits in the ACS, slot, AER and CXL capabilities. -/
def State.cfgRead (s : State) (p : Nat) (f : SwitchFunc) (r : CfgReg) : Nat :=
  let aer := s.aerOf p f
  match r with
  | .vendorId => match f with
    | .vf _ => 0xFFFF
    | _ => s.rd K.CRF_VENDOR_ID
  | .deviceId => match f with
    | .pf => 0x6481
    | .vf _ => 0xFFFF
    | _ => s.rd K.CRF_DEVICE_ID
  | .vfDeviceId => if f = .pf then 0x6482 else 0
  | .revisionId => s.rd K.CRF_STEPPING
  | .classCode => if funcTenant f then 0x120000 else if f = .memory then 0x050210 else 0x060400
  | .subsystemVendor => (s.port p).subVendor
  | .subsystemId => (s.port p).subId
  | .aerStatus => (aer.map (·.status)).getD 0
  | .aerMask => (aer.map (·.mask)).getD 0
  | .aerHeader => (aer.map (fun x => leNat ((x.log.headD []).take 16))).getD 0
  | .busNumbers => ((bridgeNum f).map (Sparse.get (fun _ => 0) (s.port p).buses)).getD 0
  | .ariCapability => 0
  | .acsCapability => match f with
    | .vppb _ => 0x1F
    | _ => 0
  | .acsControl => match f with
    | .vppb i => bits (s.port p).acs (8 * i + 4) (8 * i)
    | _ => 0
  | .slotCapabilities => match f with
    | .vppb i => 0x40 + 2 * b2n ((s.boundPort p i).any (fun q => decide (s.rd (K.PRT_SLOT q) < 16)))
    | _ => 0
  | .slotStatus => match f with
    | .vppb i => if i < 2 then 0x40 else 0x40 * b2n ((s.boundPort p i).any s.linkUp)
    | _ => 0
  | .dataLinkFeature => match f with
    | .upstream => b2n (s.port p).linkFeature
    | .vppb i => b2n ((s.boundPort p i).any (fun q => (s.port q).linkFeature))
    | _ => 0
  | .cxlCapability => if funcTenant f then 0 else 6 + b2n (s.cacheBound p f)
  | r => match r, tenantOf p f with
    | .other _, _ | _, none => Config.cfgOther (funcNum f) (cfgNum r)
    | _, some g => s.tenantRead p g r

/-- What a write of a configuration register does: AER status bits are cleared by writing 1, AER mask, ACS control and the bus numbers of a bridge are stored, the capabilities of
tenant functions act; other registers do not change. -/
def State.cfgWrite (s : State) (p : Nat) (f : SwitchFunc) (r : CfgReg) (v : Nat) : State :=
  match r with
  | .aerStatus => match s.aerOf p f with
    | some x =>
      let left := x.status - Nat.land x.status v
      s.putAer p f { x with status := left, log := if left = 0 then [] else x.log }
    | none => s
  | .aerMask => match s.aerOf p f with
    | some x => s.putAer p f { x with mask := v % 2 ^ 32 }
    | none => s
  | .busNumbers => match bridgeNum f with
    | some n => s.putPort p { s.port p with buses := Sparse.set (fun _ => 0) (s.port p).buses n (v % 2 ^ 24) }
    | none => s
  | .acsControl => match f with
    | .vppb i => s.putPort p { s.port p with acs := putBits (s.port p).acs (8 * i + 4) (8 * i) (v % 32) }
    | _ => s
  | _ => match tenantOf p f with
    | some g => s.tenantWrite p g r v
    | none => s

/-- A memory read that falls in BAR0 of a tenant function (R366): 4 or 8 aligned octets; any other reads 0 and is counted. -/
def State.barReadTlp (s : State) (p : Nat) (t : Tlp) (g : Func) (off : Nat) : State :=
  (when (!barFits off t.length) (·.bump K.TFB_BAR_ERRORS) s).emit (.ioCompletion p t.tag 0 (leBytes t.length (s.barRead g off t.length)))

/-- CXL_IO_TLP: a configuration request from a host is answered by the function it names, or with UR, and so is a read of a tenant function's BAR0; a
configuration request to a function of a directly bound device goes there (R150).  A downstream port completes configuration requests with UR.  Any other
TLP is Loom's. -/
def State.tlpArrives (s : State) (p : Nat) (t : Tlp) : State :=
  if s.role p ≠ 1 ∨ !s.linkUp p ∨ s.insecure p ∨ t.flaw != .none then s.ioTlp p t else
  match t.kind with
  | .cfgRd f r =>
    if f = .device then s.ioTlp p t
    else if s.funcThere p f then (s.count 0x2003 p).emit (.ioCompletion p t.tag 0 (leBytes 4 (s.cfgRead p f r)))
    else (s.count 0x2003 p).ioRefused p t
  | .cfgWr f r v =>
    if f = .device then s.ioTlp p t
    else if s.funcThere p f then ((s.count 0x2003 p).cfgWrite p f r v).emit (.ioCompletion p t.tag 0 [])
    else (s.count 0x2003 p).ioRefused p t
  | .barRd f off => match tenantOf p f with
    | some g => if s.funcThere p f then (s.count 0x2003 p).barReadTlp p t g off else (s.count 0x2003 p).ioRefused p t
    | none => (s.count 0x2003 p).ioRefused p t
  | _ => s.ioTlp p t

end Sys2Proof.Machine
end

