-- ==== Sys2Proof/Machine/Boot.lean ====
section
/-! DEFINITION. Power-up, the resets, self-test, replay, SYS_READY, the Pinfold state and firmware update (R75, R76, R84 to R114, R460, R461,
R499, R512, R515). -/

namespace Sys2Proof.Machine

/-! ### What resets leave (R97, R512) -/

/-- The dictionary after a warm reset: what is locked keeps its value and version; the locks stay (R75, R97, R260). -/
def State.lockedDict (s : State) : Dict :=
  { s.dict with
    nums := s.dict.nums.filter (fun e => s.lockedKey e.1)
    octs := s.dict.octs.filter (fun e => s.lockedKey e.1 || e.1 == K.GTP_LOCKED)
    vers := s.dict.vers.filter (fun e => s.lockedKey e.1) }

/-- The pass count of MRAM has reached its limit: CRF_PERSIST_ENABLE holds false in place of its default (R74). -/
def State.wearLimit (s : State) : State :=
  if s.rd K.CRF_MRAM_PASS_LIMIT ≤ s.mram.passes ∧ s.rd K.CRF_PERSIST_ENABLE ≠ 0 then s.wr K.CRF_PERSIST_ENABLE 0 else s

/-- A rebind under way fails with cause 3 at a reset that reaches Croft (R402). -/
def State.rbReset (s old : State) : State :=
  if old.rbActive then (s.wr K.MIG_RB_STATE (6 * 2 ^ 28 + old.rbFold)).wr K.MIG_RB_FAIL 3 else s

/-- A cold reset, a brown-out or a power cycle (R93, R96, R97): what lies in MRAM stays, and what the Bothy holds unless power was lost.  A factory
reset that was asked for clears the journal (R76).  `cells` says whether Commons keeps its contents until ST11 zeroes it. -/
def State.coldState (s0 : State) (cause : Nat) (power cells : Bool) : State :=
  let s := s0.slotsOff
  let latch := s.flt.latch && !power
  let s1 : State :=
    { mram := if s.mram.factoryReset then { s.mram with journal := [], snapshot := [], factoryReset := false } else s.mram
      crf := { wearReported := s.crf.wearReported }
      boot := { step := .reset, pinfoldOut := latch && s.boot.pinfoldOut, faultOut := latch && s.boot.faultOut
                alertOut := s.boot.alertOut && !power, pinfoldDue := if latch then some 4 else none }
      flt := { latch := latch, held := if power then [] else s.flt.held, limitLevel := if power then 256 * 10 ^ 9 else s.limitNow }
      gov := { brake := s.gov.brake && !power }
      cmn := if cells then { cells := s.cmn.cells, poison := s.cmn.poison } else {}
      pending := s.pending, out := s.out, fresh := s.fresh }
  ((when (!power) (fun s1 => s1.rbReset s) s1).wearLimit.wr K.HRD_BOOT_CAUSE cause).govSync

/-- POWER_ON: VDD_AON has come up. -/
def State.powerOn (s : State) : State := s.coldState 0 true false

/-- COLD_RESET: PWRON_RST_N is recognised low. -/
def State.coldReset (s : State) : State := s.coldState 1 false true

/-- BROWN_OUT: VDD_AON falls below its threshold; the contents of Commons are lost. -/
def State.brownOut (s : State) : State := s.coldState 2 false false

/-- The slot channels through a warm reset (R499, R512): what they report and drive stays; a grant that waits is asked for again. -/
def State.slotKeep (s old : State) : State :=
  let s1 := forEach (List.range 16) (fun s n =>
    forEach [K.HRD_SLOT_STATE n, K.HRD_SLOT_VIN n, K.HRD_SLOT_VOUT n, K.HRD_SLOT_CURRENT n, K.HRD_SLOT_FET_TEMP n, K.HRD_SLOT_THERM_TEMP n]
      (fun s k => s.wr k (old.rd k)) s) s
  { s1 with slots := { chans := old.slots.chans.map (fun e => (e.1, { e.2 with asked := false })), perst := [] } }

/-- What a warm reset leaves (R97, R102, R512): MRAM, the locks, the straps, device time, Commons and its layout, the slot channels, the state of the
Bothy, and the Dynamic Capacity logs in Commons (R153). -/
def State.warmState (s0 : State) (cause : Nat) : State :=
  let s := s0.scrubBreak
  let s1 : State :=
    { dict := s.lockedDict, mram := s.mram
      crf := { wearReported := s.crf.wearReported, journalLevel := s.crf.journalLevel,
               journalTime := s.crf.journalTime }
      boot := { s.boot with
        sysReady := false, lanesIdle := true, croftServes := false, imageOk := false, image := [], uartImage := [], tests := [], fencedCores := 0
        sensorsOut := 0, mramBad := false, warmRequest := false, perstLow := s.rolePorts 2, perstHigh := [], perstIn := [] }
      flt := { latch := s.flt.latch, limitLevel := s.flt.limitLevel, limitTime := s.flt.limitTime, held := s.flt.held }
      clk := { s.clk with overruns := [], servo := {} }
      gov := { brake := s.gov.brake, grants := s.gov.grants.filter (fun e => 82 ≤ e.1), brakeLifted := s.gov.brakeLifted }
      sel := { lost := s.sel.lost, refAt := s.sel.refAt, spread := s.sel.spread }
      fab := { ports := s.fab.ports.filterMap (fun e => if e.2.log.isEmpty ∧ e.2.nextHandle = 1 then none
                 else some (e.1, { log := e.2.log, nextHandle := e.2.nextHandle })) }
      cmn := { s.cmn with burstEnd := none, parity := [], hot := [] }
      pending := s.pending, out := s.out, fresh := s.fresh }
  let s2 := forEach ((List.range 8).flatMap (fun j => [K.CMN_CARVE_ACTIVE j, K.CMN_CARVE_BASE j])
    ++ [K.BLW_L2_ENTRIES, K.BLW_NEAR_LINES, K.PDK_TALLY_SLOTS, K.HRD_STRAP_VALUE, K.CMN_SCRUB_POSITION])
    (fun s1 k => s1.wr k (s.rd k)) s1
  (((((s2.slotKeep s).rbReset s).wearLimit.wr K.HRD_BOOT_CAUSE cause).selfRefresh true).wrBits K.CMN_STATE 1 0 (bits (s.rd K.CMN_STATE) 1 0)).govSync

/-! ### Self-test records and the log (R104, R109, R461) -/

/-- HRD_BOOT_STATE (R108). -/
def State.bootState (s : State) : Nat :=
  match s.boot.step with
  | .ready => 1
  | .pinfold | .bothyPinfold => if s.flt.latch then 3 else 2
  | .uartRecovery => 4
  | _ => 0

/-- The longest a test takes, in µs (R103). -/
def testMax (warm : Bool) (n : Nat) : Nat :=
  if n = 11 ∧ warm then 40000
  else [0, 2000, 10000, 20000, 90000, 60000, 30000, 120000, 150000, 80000, 20000, 940000, 5000, 5000, 40000].getD n 0

/-- The 128 octets of a test's detail (R461). -/
def testDetail (l : List TestFail) : List Byte :=
  fit 128 (leBytes 1 (min 255 l.length) ++ zeros 7
    ++ (l.take 5).flatMap (fun f => leBytes 8 (f.test + 256 * f.step) ++ leBytes 8 f.address ++ leBytes 8 f.diff))

/-- The record of this boot (R109, R461); the durations are free within their maxima. -/
def State.testRecord (s : State) : List Byte :=
  let ran := s.rd K.HRD_SELFTEST_RAN
  let time := fun n => if bit ran n then Config.testTime s.mram.bootCount n % (testMax s.boot.warm n + 1) else 0
  leBytes 4 s.mram.bootCount ++ leBytes 1 (s.rd K.HRD_BOOT_CAUSE) ++ leBytes 1 s.bootState ++ leBytes 2 (s.rd K.HRD_PINFOLD_CAUSE)
    ++ leBytes 4 ran ++ leBytes 4 (s.rd K.HRD_SELFTEST_PASS) ++ leBytes 8 (s.rd K.HRD_FENCED_QUADS) ++ fit 16 (s.rdo K.HRD_FENCED_ENGINES)
    ++ (List.range 14).flatMap (fun i => leBytes 4 (time (i + 1)))
    ++ fit 1952 ((List.range 14).flatMap (fun i => testDetail (s.boot.tests.filter (fun f => f.test == i + 1))))

/-- Write the record of this boot to the history, or replace it. -/
def State.logBoot (s : State) : State :=
  let old := match s.mram.history with
    | h :: r => if field h 0 4 = s.mram.bootCount % 2 ^ 32 then r else h :: r
    | [] => []
  { s with mram := { s.mram with history := (s.testRecord :: old).take 64 } }

/-- HRD_SELFTEST_LOG of the `j`th latest boot (R108). -/
def State.selftestLog (s : State) (j : Nat) : List Byte := s.mram.history.getD j []

/-- Record a failure under HRD_SELFTEST with the class that R104 gives. -/
def State.testFault (s : State) (cls : Nat) (f : TestFail) : State :=
  s.raiseAt F.HRD_SELFTEST f.element cls (f.test % 256 + 256 * (f.step % 256)) f.address f.diff false

/-- A test ran, and passed if nothing failed. -/
def State.testRan (s : State) (n : Nat) (l : List TestFail) : State :=
  let s1 : State := { s with boot := { s.boot with tests := s.boot.tests ++ l } }
  (s1.wrBit K.HRD_SELFTEST_RAN n true).wrBit K.HRD_SELFTEST_PASS n l.isEmpty

/-! ### The Pinfold state (R110, R111) -/

/-- The status outputs at the end of a boot: ALERT_N where an F2 or F3 record is open (R460). -/
def State.alertEnd (s : State) : State :=
  { s with boot := { s.boot with alertOut := decide (s.openOf 2 + s.openOf 3 ≠ 0) } }

/-- Every link is down and every tracker gone, without completion (R97, R111). -/
def State.fabricStop (s : State) : State :=
  let s1 := forEach (s.rolePorts 1 ++ s.rolePorts 2) (fun s p => (s.wrBit (K.PRT_LINK_STATE p) 0 false).lanesOff p) s
  let s2 := forEach (s.rolePorts 3) (fun s p => ((s.setTwillState p 0).wrBit (K.TWL_STATE p) 3 false).lanesOff p) s1
  { s2 with
    fab := { s2.fab with trackers := [], transit := [], links := [], waitHost := [], waitTwill := [], portResets := [], resumed := []
                         loom := { s2.fab.loom with msgs := [], flows := [] } }
    blw := { s2.blw with txns := [], retry := [], flushes := [], holding := [], wbOut := [], open_ := [] }
    drv := { s2.drv with threads := s2.drv.threads.filter (fun e => 512 ≤ e.1), ended := [], load := none }
    tfb := { s2.tfb with waits := [], asleep := [], vfs := s2.tfb.vfs.map (fun e => (e.1, { e.2 with descs := [], running := [] })) } }

/-- Enter the Pinfold state for a cause and a test (R108, R110, R111).  It is Bothy-only where Croft cannot run (`dead`), or VDD_CORE is not
up (R482).  Otherwise Crook is served: by the image that passed ST04, or else by the recovery monitor (R112).  A boot that ends here before its straps
were judged records them now (R85). -/
def State.enterPinfold (s0 : State) (cause test : Nat) (dead : Bool) : State :=
  let booting := decide (s0.boot.step ≠ .ready)
  let s := when (booting && s0.boot.strapIllegal) (·.raise F.HRD_STRAP elemDevice) s0
  let bothy := dead || !bit s.boot.vrPg 0
  let s1 := s.slotsOff.fabricStop
  let low := (s.rolePorts 2 ++ s.boot.perstLow).eraseDups
  let s2 : State := { s1 with
    boot := { s1.boot with
      step := if bothy then .bothyPinfold else .pinfold
      sysReady := false, pinfoldOut := true, faultOut := s1.boot.faultOut || s1.flt.latch, lanesIdle := true, perstLow := low, perstHigh := []
      perstIn := [], croftServes := !bothy, failedTest := test, pinfoldDue := none, warmRequest := false }
    gov := { s1.gov with waiting := [], answers := [], grants := [] }
    pwr := {}
    flt := { s1.flt with reactions := [] } }
  let s3 := forEach (List.range 16) (fun s c => s.moverSync c) s2.govSync
  let s4 := (s3.closeWhere (fun x => bothy || match x.transport with
    | .mbx _ => true
    | _ => false)).selfRefresh true |>.wr K.HRD_PINFOLD_CAUSE (256 * test + cause)
  if booting then s4.alertEnd.logBoot else s4

/-- The reaction to an F4 event, or to an F4 latch that a reset kept (R111, R114, R450). -/
def State.pinfoldReaction (s : State) : State :=
  if s.inPinfold then { s with boot := { s.boot with faultOut := true } }
  else if s.boot.step = .reset then { s with boot := { s.boot with pinfoldDue := some 4, faultOut := true, pinfoldOut := true } }
  else s.enterPinfold 4 0 false

/-- PINFOLD_UART_REPORT: the 16 octets "PINFOLD STxx CRF" (R110). -/
def State.uartReport (s : State) : State :=
  if s.boot.step ≠ .bothyPinfold then s else
  let d := fun n => BitVec.ofNat 8 (48 + n)
  s.emit (.uart ([0x50, 0x49, 0x4E, 0x46, 0x4F, 0x4C, 0x44, 0x20, 0x53, 0x54] ++ [d (s.boot.failedTest / 10), d (s.boot.failedTest % 10)]
    ++ [0x20, 0x43, 0x52, 0x46]))

/-! ### Supplies and clocks at boot (R84, R91, R99) -/

/-- COLD_BOOT: PWRON_RST_N is released, the straps are sampled, REFCLK_EN rises and with it the board's references, some of them with spread
spectrum (R83). -/
def State.coldBoot (s : State) (straps : Nat) (testEn : Bool) (spread : List Nat) : State :=
  if s.boot.step ≠ .reset then s else
  let s1 : State := { s with
    sel := { s.sel with spread := (spread.filter (· < 16)).eraseDups }
    boot := { s.boot with
      step := .strapped, warm := false, refclkEn := true, strapIllegal := straps % 4 == 3 || bit straps 7 || testEn
      i3cAddress := 0x50 + bits straps 4 2, mgmtFibre := bit straps 6 }
    mram := { s.mram with bootCount := s.mram.bootCount + 1 } }
  s1.wr K.HRD_STRAP_VALUE (straps % 256 + 256 * b2n testEn)

/-- REFCLK_VALID at boot: the next rail is enabled. -/
def State.refclkValid (s : State) : State :=
  if s.boot.step ≠ .strapped then s else
  { s with boot := { s.boot with step := .clocked, vrEn := putBit s.boot.vrEn 2 true } }

/-- VR_PG_RISE at boot: VDDA_PLL, then VDD_CORE, then the lane supplies (R91). -/
def State.railUp (s : State) (rail : Nat) : State :=
  if 3 ≤ rail ∨ !bit s.boot.vrEn rail ∨ bit s.boot.vrPg rail then s else
  let b : Boot := { s.boot with vrPg := putBit s.boot.vrPg rail true }
  if rail = 2 ∧ s.boot.step = .clocked then { s with boot := { b with step := .pllSupply, vrEn := putBit b.vrEn 0 true } }
  else if rail = 0 ∧ s.boot.step = .pllSupply then { s with boot := { b with step := .coreSupply, vrEn := putBit b.vrEn 1 true } }
  else if rail = 1 then { s with boot := b }
  else s

/-! ### Phase A (R103 to R105) -/

/-- Fence a Croft core (R104, R448): it serves nothing, and the CIC drops it. -/
def State.fenceCore (s : State) (c : Nat) : State :=
  let s1 : State := { s with boot := { s.boot with fencedCores := putBit s.boot.fencedCores c true } }
  (s1.putThread (512 + c) {}).cicFence c

/-- An image passes ST04 (R105). -/
def bootable (i : List Byte) : Bool := Config.imageSigned i && decide (Config.minImageVersion ≤ Config.imageVersion i)

/-- The image that passed ST04 runs: Croft serves Crook (R515).  A latched F4 ends in the Pinfold state (R114). -/
def State.runImage (s : State) (i : List Byte) : State :=
  let s1 : State := { s with boot := { s.boot with step := .phaseA, image := i, imageOk := true, croftServes := true } }
  let s2 := s1.testRan 4 []
  match s2.boot.pinfoldDue with
  | some c => s2.enterPinfold c 0 false
  | none => s2

/-- UART recovery begins (R105): the recovery monitor serves Crook. -/
def State.enterUart (s : State) : State :=
  State.logBoot { s with boot := { s.boot with step := .uartRecovery, croftServes := true, imageOk := false, image := [], uartImage := [] } }

/-- ST04 (R104, R105).  DESIGN CHOICE (log 146): with STRAP[1:0] 0b11, which is reserved (R84), the image comes from QSPI without UART recovery. -/
def State.imageTest (s : State) : State :=
  let src := s.rd K.HRD_STRAP_VALUE % 4
  if src = 2 then s.enterUart else
  let first := if s.mram.activeB then s.mram.flashB else s.mram.flashA
  let other := if s.mram.activeB then s.mram.flashA else s.mram.flashB
  let f : TestFail := { test := 4, element := elemSub 11, shared := false, step := 0, address := 0, diff := 0 }
  if bootable first then s.runImage first
  else if bootable other then (s.testFault 1 f).runImage other
  else
    let s1 := (s.testRan 4 [f]).testFault 2 f
    if src = 1 then s1.enterUart else { s1 with boot := { s1.boot with croftServes := true } }.enterPinfold 5 4 false

/-- ST01 to ST03 in order, with the failures found, and the test at which they end: 0 where they pass, 1 or 2 where Croft cannot run, 3 where its
memory failed (R104). -/
def State.croftTests (s : State) (fails : List TestFail) : State × Nat :=
  let of := fun n => fails.filter (fun f => f.test == n)
  let s1 := s.testRan 1 (of 1)
  if !(of 1).isEmpty then (forEach (of 1) (fun s f => s.testFault 4 f) s1, 1) else
  let cores := (((of 2).filter (fun f => f.element / 4096 == 10)).map (fun f => f.element % 4096)).eraseDups
  let s2 := s1.testRan 2 (of 2)
  if cores.length < (of 2).length ∧ (of 2).any (fun f => f.element / 4096 != 10) ∨ 4 ≤ cores.length then
    (forEach (of 2) (fun s f => s.testFault 4 f) s2, 2)
  else
    let s3 := forEach (of 2) (fun s f => s.testFault 1 f) (forEach cores (fun s c => s.fenceCore c) s2)
    let s4 := forEach ([0, 1, 2, 3].filter (fun c => !cores.contains c)) (fun s c => s.putThread (512 + c) { busy := true }) s3
    let s5 := s4.testRan 3 (of 3)
    if (of 3).isEmpty then (s5, 0) else
    let s6 := State.wr { s5 with boot := { s5.boot with mramBad := (of 3).any (·.shared), croftServes := true } } K.CRF_PERSIST_ENABLE 0
    (forEach (of 3) (fun s f => s.testFault 2 f) s6, 3)

/-- Phase A with the failures found: ST01 to ST04 in order. -/
def State.phaseA (s : State) (fails : List TestFail) : State :=
  match s.croftTests fails with
  | (s1, 0) => s1.imageTest
  | (s1, 3) => s1.enterPinfold (if s1.boot.mramBad then 6 else 1) 3 false
  | (s1, n) => s1.enterPinfold 1 n true

/-- CORE_PLL_LOCK (R99 step 7): DTC 0, ticks begin, and phase A runs.  In the Pinfold state that a fault of an earlier step led to, the DTC starts and
nothing else does (R112). -/
def State.pllLock (s : State) (fails : List TestFail) : State :=
  if s.boot.step = .pinfold ∧ !s.clk.running then { s with clk := { running := true } }
  else if s.boot.step ≠ .coreSupply then s else
  State.phaseA { s with clk := { running := true }, boot := { s.boot with step := .phaseA } } fails

/-- UART_RECOVERY_BLOCK (R105): the block is answered; once the octets received pass ST04, they run. -/
def State.uartBlock (s : State) (b : List Byte) (crc : Nat) : State :=
  if s.boot.step ≠ .uartRecovery then s
  else if b.length ≠ 1024 ∨ crc32c b ≠ crc then s.emit (.uart [0x15])
  else
    let i := s.boot.uartImage ++ b
    let s1 := State.emit { s with boot := { s.boot with uartImage := i } } (.uart [0x06])
    if bootable i then s1.runImage i else s1

/-! ### Phase B (R103, R104) -/

/-- The quad that an element of ST05 or ST06 names. -/
def testQuad (el : Nat) : Option Nat :=
  if el / 4096 = 3 ∨ el / 4096 = 2 then some (el % 64) else if el / 4096 = 4 then some (el % 256 / 4) else none

/-- ST13 leaves the device without what it needs: more than half of the sensors, or the governor. -/
def sensorsGone (l : List TestFail) : Bool := l.any (·.shared) || decide (16 < ((l.map (fun f => f.address % 32)).eraseDups).length)

/-- A failure of phase B leads to the Pinfold state (R104). -/
def State.gravePhaseB (s : State) (fails : List TestFail) (f : TestFail) : Bool :=
  if f.test = 5 ∨ f.test = 6 then !bit (s.rd K.HRD_STRAP_VALUE) 5 || (testQuad f.element).isNone
  else if f.test = 9 then !(f.element / 4096 == 7 || f.element / 4096 == 8)
  else if f.test = 12 then f.element / 4096 != 9
  else if f.test = 13 then sensorsGone (fails.filter (fun g => g.test == 13))
  else true

/-- The outcome of a failure that the boot survives. -/
def State.lessPhaseB (s : State) (f : TestFail) : State :=
  let n := f.element % 4096
  if f.test = 5 ∨ f.test = 6 then ((testQuad f.element).map s.setQuadFence).getD s
  else if f.test = 9 then (if f.element / 4096 = 7 ∧ !f.shared then s.fenceEngine (n % 128)
    else s.fenceCluster (if f.element / 4096 = 7 then n % 128 / 8 else n % 16))
  else if f.test = 12 then
    State.setSlotCode { s with boot := { s.boot with slotsDisabled := putBit s.boot.slotsDisabled (n % 16) true } } (n % 16) 6
  else { s with boot := { s.boot with sensorsOut := putBit s.boot.sensorsOut (f.address % 32) true } }

/-- The subsystems that passed their tests: quads locked, clusters taking dispatch, Commons trained and, on a cold boot, zeroed, the supply at its
fused target (R99, R103, R415, R473). -/
def State.phaseBEnd (s : State) : State :=
  let s1 := forEach (List.range 64) (fun s q =>
    if s.sel.lost.contains (q / 4) then s
    else s.wrBits (K.SEL_QUAD_STATE q) 1 0 (if bit (s.rd K.HRD_FENCED_QUADS) q then 2 else 3)) s
  let s2 := if s1.boot.warm then forEach (List.range 32) (fun s c => s.wrBit (K.CMN_CH_STATE c) 0 true) (s1.selfRefresh false)
    else s1.cmnZero
  let s3 := forEach (List.range 16) (fun s c => if bit (s.rd K.HRD_FENCED_CLUSTERS) c then s else s.wrBit (K.DRV_CLUSTER_STATE c) 0 true) s2
  State.loomSync ((s3.wr K.HRD_AVS_TARGET (max 650 (min 850 Config.avsTarget))))

/-- ST05 to ST13 with their failures: those that the device survives fence what failed (R104). -/
def State.groupTests (s : State) (fails : List TestFail) : State :=
  let s1 := forEach [5, 6, 7, 8, 9, 10, 11, 12, 13] (fun s n => s.testRan n (fails.filter (fun f => f.test == n))) s
  forEach fails (fun s f => if s.gravePhaseB fails f then s.testFault 2 f else (s.lessPhaseB f).testFault 1 f) s1

/-- The boot ROM chooses the image of a Croft that restarts in the Pinfold state: ST04 over the two slots (R105, R113).  With no image that passes, or
where only UART recovery is strapped, its recovery monitor serves (R112). -/
def State.restartImage (s : State) : State :=
  let run := fun (s : State) (i : List Byte) => State.testRan { s with boot := { s.boot with image := i, imageOk := true } } 4 []
  let first := if s.mram.activeB then s.mram.flashB else s.mram.flashA
  let other := if s.mram.activeB then s.mram.flashA else s.mram.flashB
  let f : TestFail := { test := 4, element := elemSub 11, shared := false, step := 0, address := 0, diff := 0 }
  if s.rd K.HRD_STRAP_VALUE % 4 = 2 then s
  else if bootable first then run s first
  else if bootable other then run (s.testFault 1 f) other
  else (s.testRan 4 [f]).testFault 2 f

/-- The warm set after a warm reset in the Pinfold state (R97, R103, R114): Croft's tests say whether it runs, its image is chosen, and the tests of
phase B decide the fences again.  Whatever they find, the device stays in the Pinfold state, for the cause that HRD_PINFOLD_CAUSE keeps (log 108). -/
def State.pinfoldTests (s : State) (all : List TestFail) : State :=
  let fails := all.filter (fun f => 5 ≤ f.test && f.test ≤ 13)
  let next := fun (s : State) (step : BootStep) (n : Nat) (replay : Bool) =>
    State.logBoot { s with boot := { s.boot with
      step := step, failedTest := n, croftServes := step == .pinfold, replayDue := replay, testsDue := false } }
  match s.croftTests all with
  | (s1, 0) =>
    let s2 := s1.restartImage
    next (if bit s2.boot.vrPg 1 then s2.groupTests fails else s2) .pinfold s2.boot.failedTest true
  | (s1, 3) => next s1 .pinfold 3 false
  | (s1, n) => next s1 .bothyPinfold n false

/-- SELFTEST_PHASE_B: the failures found.  After a warm reset the restarted phase A ends here too, with its own failures. -/
def State.phaseB (s0 : State) (all : List TestFail) : State :=
  if s0.inPinfold && s0.boot.testsDue && s0.clk.running then s0.pinfoldTests all
  else if s0.boot.step ≠ .phaseA ∨ !bit s0.boot.vrPg 1 then s0 else
  let s := if bit (s0.rd K.HRD_SELFTEST_RAN) 4 then s0 else s0.phaseA all
  if s.boot.step ≠ .phaseA then s else
  let fails := all.filter (fun f => 5 ≤ f.test && f.test ≤ 13)
  let s2 := s.groupTests fails
  match sortBy (·.test) (fails.filter (s2.gravePhaseB fails)) with
  | f :: _ => s2.enterPinfold 1 f.test false
  | [] => State.phaseBEnd { s2 with boot := { s2.boot with step := .phaseB } }

/-! ### Replay (R75, R106) and SYS_READY (R100) -/

/-- The records of the journal up to the first with a bad CRC, those marked applied. -/
def replayRecords : List JournalRec → List JournalRec
  | [] => []
  | r :: l => if !r.crcOk then [] else if r.applied then r :: replayRecords l else replayRecords l

/-- The values that the journal leaves: the snapshot, then each record; what is locked or not defined is passed over. -/
def State.replayWrites (s : State) : List (Nat × List Byte) :=
  let l := s.mram.snapshot ++ (replayRecords s.mram.journal).flatMap (·.writes)
  let last := l.foldl (fun m e => Sparse.insert e.1 e.2 m) []
  last.filter (fun e => (catFind e.1).isSome && !s.lockedKey e.1)

/-- The replay as one commit: the state with it, or none where it fails. -/
def State.replay (H : Hooks) (s : State) : Option State :=
  let w := s.replayWrites
  if s.mram.schema / 256 ≠ 3 ∨ w.any (fun e => valueCheck e.1 e.2 != Status.ok) then none else
  let t : Txn := { number := 0, staged := w.map (fun e => { key := e.1, value := e.2, expect := 0 }), lastMsg := 0 }
  match validate H s 0 t with
  | .error _ => none
  | .ok s1 => some (H.applied s (w.map (·.1)) s1)

/-- The engines or clusters fenced are more than the policy allows (R106). -/
def State.fencePolicy (s : State) : Bool :=
  decide (16 < popCount 16 (s.rd K.HRD_FENCED_CLUSTERS) + 8)
    || (s.rd K.HRD_ENGINE_FENCE == 0 && (s.rd K.HRD_FENCED_CLUSTERS != 0 || !(strBits (s.rdo K.HRD_FENCED_ENGINES)).isEmpty))

/-- ST14: the journal's replay as one commit, or the defaults where it fails (R75, R104). -/
def State.replayTest (H : Hooks) (s : State) : State :=
  let f : TestFail := { test := 14, element := elemSub 11, shared := false, step := 0, address := 0, diff := 0 }
  match s.replay H with
  | some t => State.wearLimit (t.testRan 14 [])
  | none => ((s.testRan 14 [f]).raise F.CRF_PERSIST_RESTORE (elemSub 11)).testFault 1 f

/-- SELFTEST_PHASE_C: the replay commit point, then the straps and the fence policy.  After a restart of Croft in the Pinfold state the replay alone
runs (R114). -/
def State.phaseC (H : Hooks) (s : State) : State :=
  if s.boot.step = .pinfold ∧ s.boot.replayDue then
    let s1 := s.alignStep.replayTest H
    State.logBoot { s1 with boot := { s1.boot with replayDue := false } }
  else if s.boot.step ≠ .phaseB then s else
  let s2 := s.alignStep.replayTest H
  let s3 := if s2.boot.warm then s2.layoutSync else s2.layoutApply
  let s4 := forEach (setBits 64 (s3.rd K.HRD_FENCED_QUADS)) (fun s q => s.setQuadFence q) s3
  let s5 := when s4.boot.warm (fun s => forEach ((List.range 16).filter (fun n => s.rd (K.HRD_SLOT_ENABLE n) == 0)) (fun s n => s.slotApply n) s) s4
  let s6 : State := { s5 with boot := { s5.boot with step := .replayed, boundary := s5.now } }
  if s6.boot.strapIllegal then s6.enterPinfold 2 0 false
  else if s6.fencePolicy then s6.enterPinfold 3 0 false
  else s6

/-- SYS_READY: at the first boundary after the replay commit point. -/
def State.ready (s : State) : State :=
  if s.boot.step ≠ .replayed ∨ s.now ≤ s.boot.boundary then s else
  let s1 : State := { s with boot := { s.boot with step := .ready, sysReady := true, lanesIdle := false, upTick := s.clk.dtc } }
  let s2 := State.tallyStart s.clk.dtc
    { s1.wr K.HRD_READY_TIME s.clk.dtc with fab := { s1.fab with pdk := { s1.fab.pdk with ownerChanged := [], restored := [] } } }
  let s3 := forEach ((List.range 16).filter (fun n => s2.rd (K.HRD_SLOT_ENABLE n) == 1)) (fun s n => s.slotApply n) s2
  let s4 := forEach (s3.rolePorts 1 ++ s3.rolePorts 2 ++ s3.rolePorts 3) (fun s p => s.startTraining p) s3
  s4.alertEnd.logBoot

/-! ### Warm reset (R98, R102, R114) -/

/-- Another boot is counted (R109). -/
def State.countBoot (s : State) : State := { s with mram := { s.mram with bootCount := s.mram.bootCount + 1 } }

/-- A warm reset in the Pinfold state restarts Croft from its boot ROM, and the device stays there (R97, R102, R114): the warm set of tests is due,
and after it the replay.  DESIGN CHOICE (log 108): HRD_PINFOLD_CAUSE stays with the state it describes, and the restart counts as a boot.  Where
VDD_CORE is not up, nothing restarts. -/
def State.pinfoldRestart (s : State) (cause : Nat) : State :=
  let s1 := s.warmState cause
  let s2 : State := { s1 with boot := { s1.boot with
    perstLow := s.boot.perstLow, replayDue := false, testsDue := bit s.boot.vrPg 0 } }
  State.logBoot (State.countBoot (s2.wr K.HRD_PINFOLD_CAUSE (s.rd K.HRD_PINFOLD_CAUSE)))

/-- A warm reset of the given cause, by the state it meets (R86, R98).  In P3 it wakes the device first.  Before the core PLLs have locked a cold boot is
already at or before the step from which it would restart: an F3 event (cause 5) is reported, and WARM_RST_N is ignored. -/
def State.warmReset (s : State) (cause : Nat) : State :=
  let s1 := s.warmState cause
  match s.boot.step with
  | .pinfold | .bothyPinfold => s.pinfoldRestart cause
  | .ready => State.countBoot { s1 with boot := { s1.boot with step := .phaseA, warm := true } }
  | .phaseA | .phaseB | .replayed | .uartRecovery => State.countBoot { s1 with boot := { s1.boot with step := .phaseA } }
  | .strapped | .clocked | .pllSupply | .coreSupply => when (cause == 5) (·.wr K.HRD_BOOT_CAUSE cause) s
  | .reset => s

/-! ### Firmware update (R113) -/

/-- The inactive image slot. -/
def State.inactive (s : State) : List Byte := if s.mram.activeB then s.mram.flashA else s.mram.flashB

/-- Set the inactive image slot. -/
def State.putInactive (s : State) (i : List Byte) : State :=
  if s.mram.activeB then { s with mram := { s.mram with flashA := i } } else { s with mram := { s.mram with flashB := i } }

/-- A write of CRF_FW_CTRL: 1 start, 2 finish, 3 activate, 4 abort; out of order RANGE. -/
def State.fwCtrl (s : State) (v : Nat) : Nat × State :=
  let st := s.rd K.CRF_FW_STATUS
  if v = 1 ∧ (st = 0 ∨ st = 4 ∨ st = 5) then (Status.ok, ((s.putInactive []).wr K.CRF_FW_STATUS 1).wr K.CRF_FW_OFFSET 0)
  else if v = 2 ∧ st = 1 then (Status.ok, s.wr K.CRF_FW_STATUS 2)
  else if v = 3 ∧ st = 3 then
    (Status.ok, State.wr { s with mram := { s.mram with activeB := !s.mram.activeB } } K.CRF_FW_STATUS 4)
  else if v = 4 ∧ (st = 1 ∨ st = 2 ∨ st = 3) then (Status.ok, (s.wr K.CRF_FW_STATUS 0).wr K.CRF_FW_STAGED_VERSION 0)
  else (Status.range, s)

/-- A write of CRF_FW_CHUNK: 1,024 octets at CRF_FW_OFFSET of the inactive slot. -/
def State.fwChunk (s : State) (d : List Byte) : Nat × State :=
  let off := s.rd K.CRF_FW_OFFSET
  if s.rd K.CRF_FW_STATUS ≠ 1 ∨ 0x3FFC00 < off then (Status.range, s) else
  let i := s.inactive ++ List.replicate (off + 1024 - s.inactive.length) 0xFF
  (Status.ok, (s.putInactive (patch i off d)).wr K.CRF_FW_OFFSET (off + 1024))

/-- FW_VERIFY_DONE: the image in the inactive slot verifies, or not. -/
def State.fwVerified (s : State) : State :=
  if s.rd K.CRF_FW_STATUS ≠ 2 then s
  else if bootable s.inactive then (s.wr K.CRF_FW_STATUS 3).wr K.CRF_FW_STAGED_VERSION (Config.imageVersion s.inactive % 2 ^ 32)
  else s.wr K.CRF_FW_STATUS 5

end Sys2Proof.Machine
end

