-- ==== Sys2Proof/Machine/Power.lean ====
section
/-! DEFINITION. Power states P2 and P3 (R94, R477 to R483). -/

namespace Sys2Proof.Machine

/-! ### P2 (R478) -/

/-- HRD_PSTATE follows the regions that are gated; the mode bits end with P2 (DESIGN CHOICE, log entry 114). -/
def State.fallowSync (s : State) : State :=
  if s.pwr.sleep ≠ .awake then s
  else if s.rd K.HRD_FALLOWED = 0 then
    (if s.rd K.HRD_PSTATE = 2 then State.wr { s with pwr := { s.pwr with mode := 0, fallowAsked := false } } K.HRD_PSTATE 0 else s)
  else s.wr K.HRD_PSTATE 2

/-- FALLOW_REQUEST: a write of 2 to HRD_PSTATE_REQUEST has Croft firmware write the P2 mode bits and WAIT. -/
def State.fallowRequest (s : State) : State := State.enterMode { s with pwr := { s.pwr with mode := 2 } }

/-- A region meets the condition for its gating: 0 to 15 clusters, 16 to 18 Croft cores 1 to 3. -/
def State.fallowReady (s : State) (r : Nat) : Bool :=
  if r < 16 then (s.busyThreads r).isEmpty && s.granted r == 0
  else !(s.cic.sources.any (fun e => (e.2.state == .active || e.2.state == .activePending) && e.2.owner == r - 15))

/-- FALLOW_GATE. -/
def State.fallowGate (s : State) (r : Nat) : State :=
  if 19 ≤ r ∨ !s.isReady ∨ !s.pwr.fallowAsked ∨ !bit (s.rd K.HRD_FALLOW_SET) r ∨ bit (s.rd K.HRD_FALLOWED) r ∨ !s.fallowReady r then s
  else (s.wrBit K.HRD_FALLOWED r true).fallowSync

/-- A descriptor at the head of a queue would be dispatched to a fallowed cluster, and has no other: the lowest-numbered such cluster. -/
def State.fallowNeed (s : State) : Option Nat :=
  let heads := s.tfb.vfs.flatMap (fun e => (List.range 4).filterMap (fun q =>
    if s.vfDispatches e.1 then (s.headDesc e.1 q).map (fun d => (e.1, d)) else none))
  let clusters := fun (x : Nat × Desc) =>
    let op := field x.2.bytes 0 1
    if (s.descFault x.1 x.2.bytes).isSome ∨ (s.placeFor x.1 x.2.bytes).isSome then 0
    else if op = 6 then ((s.runSlot x.1 x.2.bytes).map (fun j => s.rd (K.DRV_PROG_CLUSTERS j))).getD 0
    else if 1 ≤ op ∧ op ≤ 5 then 0xFFFF else 0
  heads.findSome? (fun x => (List.range 16).find? (fun c => bit (s.rd K.HRD_FALLOWED) c && s.clusterFits (clusters x) c))

/-- FALLOW_WAKE: its bit was cleared, a descriptor needs the cluster, or a CIC source is eligible for the core. -/
def State.fallowWake (s : State) (r : Nat) : State :=
  if 19 ≤ r ∨ !bit (s.rd K.HRD_FALLOWED) r then s
  else if !bit (s.rd K.HRD_FALLOW_SET) r ∨ s.fallowNeed = some r ∨ (16 ≤ r ∧ !(s.cicRequests (r - 15)).isEmpty) then
    (s.wrBit K.HRD_FALLOWED r false).fallowSync
  else s

/-! ### P3 (R479 to R483) -/

/-- A request for P3 is accepted now. -/
def State.winterOk (s : State) : Bool :=
  s.isReady && (s.rolePorts 1 ++ s.rolePorts 2 ++ s.rolePorts 3).all (fun p => !s.linkUp p)
    && !(s.drv.threads.any (fun e => e.1 < 512 && e.2.busy)) && s.held == 0 && s.gov.waiting.isEmpty
    && !(s.crf.sessions.any (fun x => x.waiting.isSome)) && !s.rbActive && s.mig.harvest.isNone

/-- The boundary after a time. -/
def boundaryAfter (t : Nat) : Nat := (t / 1000 + 1) * 1000

/-- WINTERING_REQUEST: a write of 3 to HRD_PSTATE_REQUEST, and the entry to P3. -/
def State.winter (s : State) : Nat × State :=
  if !s.winterOk then (Status.range, s) else
  let s1 : State := { s with
    boot := { s.boot with sysReady := false, lanesIdle := true, vrEn := 0, vrPg := 0, refclkEn := s.rd K.HRD_P3_REFCLK_OFF == 0 }
    clk := { s.clk with running := false, bothy := s.clk.dtc }
    pwr := { s.pwr with mode := 3, sleep := .asleep, attempt := 0, sleepFrom := boundaryAfter s.clk.dtc, warmAfter := false, sleepSeq := s.mram.lastSeq } }
  (Status.ok, ((s1.selfRefresh true).wr K.HRD_PADS_HELD 1).wr K.HRD_PSTATE 3)

/-- The rails rise, the PLLs lock, and the DTC is reloaded from the Bothy counter (R481 steps 2 to 6). -/
def State.wakeRails (s : State) : State :=
  { s with
    boot := { s.boot with refclkEn := true, vrEn := 7, vrPg := 7, boundary := s.clk.bothy / 1000 }
    clk := { s.clk with running := true, dtc := s.clk.bothy }
    pwr := { s.pwr with sleep := .waking } }

/-- A fault record of P3 wakes the device: always of class F2 or F3, with bit 5 of any (R480). -/
def State.wakeFault (s : State) : Bool :=
  s.mram.ring.any (fun e => decide (s.pwr.sleepSeq < e.2.seq) && (e.2.cls == 2 || e.2.cls == 3 || (e.2.cls < 2 && bit (s.rd K.HRD_WAKE_ENABLE) 5)))

/-- A wake source is present and enabled (R480); its number is that of HRD_WAKE_CAUSE. -/
def State.wakeSource (s : State) (cause : Nat) : Bool :=
  let en := bit (s.rd K.HRD_WAKE_ENABLE)
  match cause with
  | 1 => en 0 && s.crf.held.any (fun h => transportNum h.1 == 0)
  | 2 => en 1 && s.crf.held.any (fun h => transportNum h.1 == 1)
  | 3 => en 2 && s.rd K.HRD_WAKE_TIMER != 0 && decide (s.rd K.HRD_WAKE_TIMER ≤ s.clk.bothy)
  | 4 => en 3 && (s.cicGet 0x10).state != .idle
  | 5 => en 4 && (List.range 16).any (fun n => (s.cicGet (0x20 + n)).state != .idle)
  | 6 => s.wakeFault
  | 7 => s.pwr.warmAfter
  | _ => false

/-- WAKE_EVENT, and WAKE_TIMER with cause 3. -/
def State.wakeEvent (s : State) (cause : Nat) : State :=
  if s.pwr.sleep ≠ .asleep ∨ !s.wakeSource cause then s else
  (State.wakeRails { s with pwr := { s.pwr with attempt := 1 } }).wr K.HRD_WAKE_CAUSE cause

/-- The rails fall in the order of R93. -/
def State.railsDown (s : State) : State :=
  { s with boot := { s.boot with vrEn := 0, vrPg := 0 }, clk := if s.clk.running then { s.clk with running := false, bothy := s.clk.dtc } else s.clk }

/-- Steps 8 to 11 of power-up are attempted again (R91): a Croft that already ran on VDD_CORE stops, and its self-test starts over. -/
def State.bootAgain (s0 : State) : State :=
  let s := s0.closeWhere (fun _ => true)
  let s1 : State := { s with
    boot := { s.boot with
      step := .strapped, croftServes := false, imageOk := false, image := [], uartImage := [], tests := [], fencedCores := 0 }
    drv := { s.drv with threads := s.drv.threads.filter (fun e => e.1 < 512) }
    cic := { s.cic with fenced := [] } }
  (s1.wr K.HRD_SELFTEST_RAN 0).wr K.HRD_SELFTEST_PASS 0

/-- An attempt to raise the supplies or clocks fails, at a wake or in steps 8 to 11 of power-up (R91, R482): it is made again, and the third failure ends
in the Pinfold state. -/
def State.wakeRetry (s : State) : State :=
  let booting := s.boot.step == .strapped || s.boot.step == .clocked || s.boot.step == .pllSupply || s.boot.step == .coreSupply
    || ((s.boot.step == .phaseA || s.boot.step == .uartRecovery) && !bit s.boot.vrPg 1)
  if s.pwr.sleep ≠ .waking ∧ !booting then s else
  let n := max 1 s.pwr.attempt
  if 3 ≤ n then
    let s1 := s.railsDown
    State.raise { s1 with pwr := {} } F.HRD_WAKE_FAIL elemDevice
  else
    let s1 := (s.railsDown.bump K.HRD_WAKE_RETRIES)
    let s2 : State := { s1 with pwr := { s1.pwr with attempt := n + 1 } }
    if booting then State.bootAgain s2 else s2.wakeRails

/-- HRD_PAD_RELEASE: held pads are released; lanes leave electrical idle, balls follow the roles that ports have now, and ports train. -/
def State.padRelease (s : State) : State :=
  if s.rd K.HRD_PADS_HELD = 0 then s else
  let s1 := State.wr { s with boot := { s.boot with lanesIdle := false } } K.HRD_PADS_HELD 0
  let s2 := forEach ((s1.boot.perstLow ++ s1.boot.perstHigh).filter (fun p => s1.role p != 2)) (fun s p => s.perstRole p 2) s1
  forEach (s2.rolePorts 1 ++ s2.rolePorts 2 ++ s2.rolePorts 3) (fun s p => s.startTraining p) s2

/-- The ends of tally intervals that fall to boundaries from one DTC on and before another (R319). -/
def intervalEnds (iv from_ to_ : Nat) : Nat := ceilDiv to_ (max 1 iv) - ceilDiv from_ (max 1 iv)

/-- WAKE_COMPLETE: SYS_READY rises at the first boundary after Commons has retrained; the unmetered interval ends, and the next tally block
covers the intervals that ended in it (R319, R481, R483). -/
def State.wakeComplete (s : State) : State :=
  if s.pwr.sleep ≠ .waking ∨ s.now ≤ s.boot.boundary then s else
  let at_ := s.now * 1000
  let ns := at_ - s.pwr.sleepFrom
  let warm := s.pwr.warmAfter
  let s1 : State := { s with
    boot := { s.boot with sysReady := true }
    pwr := { s.pwr with mode := if s.pwr.fallowAsked then 2 else 0, sleep := .awake, attempt := 0, warmAfter := false }
    fab := { s.fab with pdk := { s.fab.pdk with
      unmetered := s.fab.pdk.unmetered + ns
      merged := s.fab.pdk.merged + intervalEnds (s.rd K.PDK_TALLY_INTERVAL) s.pwr.sleepFrom at_ } } }
  let s2 := ((((s1.selfRefresh false).wr K.HRD_SLEEP_NS ns).wr K.HRD_READY_TIME s1.clk.dtc).wr K.HRD_PSTATE
    (if s1.rd K.HRD_FALLOWED = 0 then 0 else 2))
  let s3 := if s2.rd K.HRD_PAD_AUTO = 1 then s2.padRelease else s2
  if warm then s3.warmReset 3 else s3

/-- What a wake hands to Croft: the Crook messages that were held (R480); their CIC sources fall, for none of them waits any more (R424). -/
def State.heldMessages (H : Hooks) (s : State) : State :=
  if s.pwr.sleep ≠ .awake ∨ s.crf.held.isEmpty then s else
  let s1 := forEach s.crf.held (fun s h => s.cicLevel (s.crookSource h.1 h.2.2.1 h.2.2.2) false) { s with crf := { s.crf with held := [] } }
  forEach s.crf.held (fun s h => crookReceive H h.1 h.2.1 h.2.2.1 h.2.2.2 s) s1

/-- WARM_RST_N: in P3 it is a wake source, and the reset follows the wake (R86). -/
def State.warmPin (s : State) : State :=
  if s.pwr.sleep = .awake then s.warmReset 3 else { s with pwr := { s.pwr with warmAfter := true } }

/-- The reaction to an F4 event in P3 goes through the wake sequence (R480). -/
def State.f4Reaction (s : State) : State := (if s.pwr.sleep = .asleep then s.wakeRails else s).pinfoldReaction

/-- One microsecond of the collector without tick boundaries: in P3, or before the DTC runs (R453). -/
def State.bothyWindow (s : State) : State :=
  if s.clk.running then s else State.windowTick { s with clk := { s.clk with bothy := boundaryAfter s.clk.bothy } }

end Sys2Proof.Machine
end

