-- ==== Sys2Proof/Machine/Rules.lean ====
section
/-! DEFINITION. The rules that a commit must keep (R64 step 1), chapter by chapter.  Each rule is made only where the commit writes a subentry
that it depends on; it is judged over the state before the commit and the state with the staged values. -/

namespace Sys2Proof.Machine

/-- A rule in which the subentries that satisfy `part` take part; no rule where the commit writes none of them. -/
def ruleIf (keys : List Nat) (part : Nat → Bool) (holds : Bool) : List CommitRule :=
  if keys.any part then [{ holds := holds, part := part }] else []

/-- One rule for each written subentry that satisfies `part`. -/
def ruleEach (keys : List Nat) (part : Nat → Bool) (holds : Nat → Bool) : List CommitRule :=
  (keys.filter part).map (fun k => { holds := holds k, part := fun j => j == k })

/-! ### Ports and quads (R118, R133, R134, R143, R144, R150, R151) -/

/-- PRT_ROLE, and PRT_ROLE or PRT_WIDTH, of any port. -/
def isRoleKey (k : Nat) : Bool := inIdx 0x2400 0x2500 [1] k && keyIdx k % 4 == 0
def isShapeKey (k : Nat) : Bool := inIdx 0x2400 0x2500 [1, 2] k && keyIdx k % 4 == 0

/-- The port of an object of its block. -/
def portOfKey (k : Nat) : Nat := (keyIdx k - 0x2400) / 4

/-- PRT_LD_FEID and PRT_VPPB_BIND. -/
def isFeidKey (k : Nat) : Bool := inIdx 0x2400 0x2500 [] k && keyIdx k % 4 == 2 && keySub k ≤ 16
def isVppbKey (k : Nat) : Bool := inIdx 0x2400 0x2500 [] k && keyIdx k % 4 == 2 && 17 ≤ keySub k

/-- The ports that are not disabled. -/
def State.activePorts (s : State) : List Nat := s.rolePorts 1 ++ s.rolePorts 2 ++ s.rolePorts 3

/-- The widths and absorbed ports are in order (R143, R144). -/
def State.shapeOk (s : State) : Bool :=
  s.activePorts.all (fun p =>
    let q := s.portQuads p
    p % q.length == 0 && q.all (fun j => j == p || s.role j == 0))

/-- The local endpoints assigned by PRT_LD_FEID (R147, R151): of upstream ports the first, of downstream ports all 16. -/
def State.localFeids (s : State) : List Nat :=
  ((s.rolePorts 1).map (fun p => s.rd (K.PRT_LD_FEID p 0))
    ++ (s.rolePorts 2).flatMap (fun p => (List.range 16).map (fun j => s.rd (K.PRT_LD_FEID p j)))).filter (· != 0)

/-- The ports that the vPPBs of upstream ports bind (R150). -/
def State.boundPorts (s : State) : List Nat :=
  ((s.rolePorts 1).flatMap (fun p => (List.range 6).map (fun j => s.rd (K.PRT_VPPB_BIND p j)))).filter (· < 64)

/-- The extents on the LDs of a port. -/
def State.extentsOn (s : State) (p : Nat) : List Extent :=
  s.extents.filter (fun e => e.target / 256 == s.device && 3 ≤ e.target % 256
    && (List.range 16).any (fun j => s.rd (K.PRT_LD_FEID p j) == e.target % 256))

/-- A port that becomes directly bound carries extents (R150). -/
def State.poolsOn (s : State) (p : Nat) : Bool := !(s.extentsOn p).isEmpty

/-- The extents on a directly bound port belong to folds of the host that it is bound to: the CXL.mem of the pair, which passes through Fold and Gatepost
(R150).  DEDUCED: the rule names no other path for it. -/
def State.ownExtents (s : State) (p : Nat) : Bool :=
  (s.extentsOn p).all (fun e => (s.boundTo p).map (·.1) == some (s.rd (K.FLD_OWNER_PORT e.fold)))

/-- The rules of ports and quads. -/
def portRules (old new : State) (keys : List Nat) : List CommitRule :=
  ruleEach keys (fun k => isRoleKey k && new.rd k == 3) (fun k => new.rd (K.SEL_REFCLK_SSC (portOfKey k / 4)) == 0)
  ++ ruleEach keys (fun k => inIdx 0x2100 0x2110 [1] k && new.rd k != 0)
      (fun k => (List.range 4).all (fun j => new.role (4 * (keyIdx k - 0x2100) + j) != 3))
  ++ ruleIf keys isShapeKey new.shapeOk
  ++ ruleIf keys isRoleKey (decide ((new.rolePorts 3).length ≤ 32))
  ++ ruleEach keys (fun k => isShapeKey k && old.rd k != new.rd k)
      (fun k => !((new.portQuads (portOfKey k) ++ old.portQuads (portOfKey k)).any (fun q => old.rd (K.SEL_TEST_MODE q) != 0 || new.rd (K.SEL_TEST_MODE q) != 0)))
  ++ ruleEach keys (fun k => isTestKey [1] k && new.rd k != 0)
      (fun k => new.role (new.portOfQuad (quadOfKey k)) == 0 && !bit (new.rd (K.SEL_QUAD_STATE (quadOfKey k))) 2)
  ++ ruleEach keys (isTestKey [1, 2, 3])
      (fun k => patternFits (new.rd (K.SEL_PRBS_PATTERN (quadOfKey k))) (new.rd (K.SEL_TEST_RATE (quadOfKey k))))
  ++ ruleIf keys (fun k => isVppbKey k || isFeidKey k || isRoleKey k || isExtentKey k)
      (decide (new.boundPorts.eraseDups.length = new.boundPorts.length)
        && new.boundPorts.all (fun p => (old.port p).lds ≤ 1
          && (if old.boundTo p = new.boundTo p then new.ownExtents p else !new.poolsOn p)))
  ++ ruleIf keys (fun k => isFeidKey k || isRoleKey k) (decide (new.localFeids.eraseDups.length = new.localFeids.length))

/-! ### Twill and Loom (R26, R181, R198, R214, R216, R219) -/

/-- The greatest VALUE of a sampler's KIND (R219). -/
def samplerMax (kind : Nat) : Nat := [2 ^ 16 - 1, 79, 79, 7, 1023].getD kind 0

/-- A sampler's control word names no reserved kind, and a value in its range (R6, R219). -/
def samplerFits (w : Nat) : Bool := bits w 29 27 ≤ 4 && bits w 15 0 ≤ samplerMax (bits w 29 27)

/-- The rules of Twill and Loom. -/
def loomRules (new : State) (keys : List Nat) : List CommitRule :=
  ruleIf keys (· == K.LOM_MARKABLE) (decide (popCount 8 (new.rd K.LOM_MARKABLE) ≤ 2))
  ++ ruleIf keys (fun k => isShapeKey k || inIdx 0x3100 0x3150 [1] k || (inIdx 0x2800 0x2900 [] k && keyIdx k % 4 == 2))
      (decide ((65536 : Int) ≤ new.sharedWorst))
  ++ ruleIf keys (· == K.LOM_OVF_ENABLE) (new.rd K.LOM_OVF_ENABLE == 0 || bit (new.rd K.LOM_RS_CLASSES) 7)
  ++ ruleIf keys (fun k => k == K.LOM_OVF_ENABLE || k == K.CMN_CARVE_SIZE 2) (new.rd K.LOM_OVF_ENABLE == 0 || new.carveMin 3 != 0)
  ++ ruleIf keys (· == K.LOM_OVF_PER_OUTPUT) (new.rd K.LOM_OVF_PER_OUTPUT % 65536 == 0)
  ++ ruleEach keys (fun k => inIdx 0x2800 0x2900 [3] k && keyIdx k % 4 == 1) (fun k => new.rd k % 1000 == 0)
  ++ ruleEach keys (inIdx 0x3010 0x3018 [1]) (fun k => samplerFits (new.rd k))

/-! ### Fold (R224, R228, R229, R240 to R242, R247) -/

/-- FLD_OWNER_PORT, FLD_WINDOW_BASE, FLD_WINDOW_SIZE and FLD_FLAGS of a fold: those of the given subindices. -/
def isFoldKey (subs : List Nat) (k : Nat) : Bool := inIdx 0x4001 0x4400 subs k

/-- The fold of a descriptor's subentry. -/
def foldOfKey (k : Nat) : Nat := keyIdx k - 0x4000

/-- The folds whose descriptor is not at its default. -/
def State.listedFolds (s : State) : List Nat :=
  ((s.dict.nums.filter (fun e => isFoldKey [1, 3] e.1)).map (fun e => foldOfKey e.1)).eraseDups

/-- The window of a fold is in order by itself (R224, R226). -/
def State.windowOk (s : State) (f : Nat) : Bool :=
  let p := s.rd (K.FLD_OWNER_PORT f)
  let b := s.rd (K.FLD_WINDOW_BASE f)
  let n := s.rd (K.FLD_WINDOW_SIZE f)
  if p = 0xFF then n == 0
  else s.role p == 1 && (List.range 16).any (fun e => n == 2 ^ (28 + e)) && b % n == 0 && b / 2 ^ 43 == (b + n - 1) / 2 ^ 43
    && decide (b / 2 ^ 43 < s.rd (K.PRT_DC_REGIONS p))

/-- The windows of two folds of one owner overlap. -/
def State.windowsMeet (s : State) (f g : Nat) : Bool :=
  f != g && s.rd (K.FLD_OWNER_PORT f) == s.rd (K.FLD_OWNER_PORT g) && s.foldInUse f && s.foldInUse g
    && decide (s.rd (K.FLD_WINDOW_BASE f) < s.rd (K.FLD_WINDOW_BASE g) + s.rd (K.FLD_WINDOW_SIZE g))
    && decide (s.rd (K.FLD_WINDOW_BASE g) < s.rd (K.FLD_WINDOW_BASE f) + s.rd (K.FLD_WINDOW_SIZE f))

/-- The folds that a port owns. -/
def State.foldsOf (s : State) (p : Nat) : List Nat := s.ownedFolds.filter (fun f => s.rd (K.FLD_OWNER_PORT f) == p)

/-- A fold's window is in order among those of its owner (R224). -/
def State.windowPlaced (s : State) (f : Nat) : Bool :=
  s.windowOk f && (s.rd (K.FLD_OWNER_PORT f) == 0xFF || ((s.foldsOf (s.rd (K.FLD_OWNER_PORT f))).length ≤ 256
    && !(s.ownedFolds.any (s.windowsMeet f))))

/-- The parts of a descriptor that stand while an extent is bound (R224): base, size and SHARED, the base free with a change of owner (R240). -/
def foldKept (old new : State) (f : Nat) : Bool :=
  old.rd (K.FLD_WINDOW_SIZE f) == new.rd (K.FLD_WINDOW_SIZE f) && old.foldFlag f 0 == new.foldFlag f 0
    && (old.rd (K.FLD_WINDOW_BASE f) == new.rd (K.FLD_WINDOW_BASE f) || old.rd (K.FLD_OWNER_PORT f) != new.rd (K.FLD_OWNER_PORT f))

/-- `a` to `b` lies in the union of intervals that rise by base. -/
def covers (l : List (Nat × Nat)) (a b : Nat) : Bool :=
  decide (b ≤ l.foldl (fun c i => if i.1 ≤ c then max c (i.1 + i.2) else c) a)

/-- The capacity of an LD holds a range (R228): what its device reports as static, and what it has added. -/
def State.ldHolds (s : State) (p ld a n : Nat) : Bool :=
  covers (sortBy (·.1) ((0, Config.ldStatic p ld) ::
    ((s.port p).capacity.filter (fun c => c.1 == ld && c.2.2.2)).map (fun c => (c.2.1, c.2.2.1)))) a (a + n)

/-- The target of a bound extent exists (R228, R418).  The capacity of an LD is asked where the commit writes the entry (`fresh`) or puts another LD under
its FEID; not in the replay, before any device has reported (log 109). -/
def targetOk (old new : State) (e : Extent) (fresh : Bool) : Bool :=
  if e.target / 256 ≠ new.device then true
  else if e.target % 256 = 1 then
    e.base + e.size ≤ (if old.replaying ∧ !old.boot.warm then poolSize new.carvePending else new.poolMin)
  else match new.localGang (e.target % 256) with
    | some p => p < 64 && new.role p == 2 && (old.replaying
        || (!fresh && old.device == new.device && old.localGang (e.target % 256) == some p && old.ldOf p (e.target % 256) == new.ldOf p (e.target % 256))
        || old.ldHolds p (new.ldOf p (e.target % 256)) e.base e.size)
    | none => false

/-- Two ranges meet. -/
def rangesMeet (a n b m : Nat) : Bool := decide (0 < n) && decide (0 < m) && decide (a < b + m) && decide (b < a + n)

/-- A bound extent keeps R228. -/
def extentOk (old new : State) (e : Extent) (fresh : Bool) : Bool :=
  e.offset % e.size == 0 && e.base % e.size == 0 && new.foldInUse e.fold
    && decide (e.offset + e.size ≤ new.rd (K.FLD_WINDOW_SIZE e.fold))
    && targetOk old new e fresh
    && new.extents.all (fun g => g.num == e.num
        || (!(g.fold == e.fold && rangesMeet e.offset e.size g.offset g.size)
          && !(g.target == e.target && rangesMeet e.base e.size g.base g.size
            && (g.fold == e.fold || !new.foldFlag e.fold 0 || !new.foldFlag g.fold 0))))

/-- A write to an extent entry has one of the forms of R229. -/
def extentForm (old new : State) (k : Nat) : Bool :=
  let a := old.rdo k
  let b := new.rdo k
  field a 0 2 == 0 || (field b 0 2 == 0 && slice a 2 14 == slice b 2 14) || a == b

/-- Two dirty bitmaps meet, or one does not fit its carve-out (R241). -/
def bitmapOk (old new : State) (f : Nat) : Bool :=
  let o := new.rd (K.FLD_DIRTY_OFFSET f)
  let room := if old.replaying ∧ !old.boot.warm then carveSize new.carvePending 4 else new.carveMin 4
  o % 4096 == 0 && decide (o + new.bitmapSize f ≤ room)
    && new.ownedFolds.all (fun g => g == f || !new.foldFlag g 1 || !rangesMeet o (new.bitmapSize f) (new.rd (K.FLD_DIRTY_OFFSET g)) (new.bitmapSize g))

/-- The commit sets DIRTY_LOG of a fold, or counts as one that does (R241). -/
def setsDirtyLog (old new : State) (f : Nat) : Bool :=
  new.foldFlag f 1 && (!old.foldFlag f 1 || old.rd (K.FLD_DIRTY_OFFSET f) != new.rd (K.FLD_DIRTY_OFFSET f)
    || old.rd (K.FLD_WINDOW_SIZE f) != new.rd (K.FLD_WINDOW_SIZE f))

/-- A change of owner with extents bound (R240, R297). -/
def ownerOk (old new : State) (keys : List Nat) (f : Nat) : Bool :=
  old.foldFlag f 2 && new.foldFlag f 2 && old.rd (K.FLD_WINDOW_SIZE f) == new.rd (K.FLD_WINDOW_SIZE f)
    && keys.all (fun k => !isExtentKey k || (old.rdo k == new.rdo k) || (field (old.rdo k) 0 2 != f && field (new.rdo k) 0 2 != f))
    && old.fab.fold.flushed.contains f

/-- The hops of a route word are lowest ports of Twill gangs (R242). -/
def routeOk (new : State) (w : Nat) : Bool :=
  ((List.range 4).filter (fun j => bit w (32 + j))).all (fun j =>
    let p := bits w (8 * j + 7) (8 * j)
    p < 64 && new.role p == 3)

/-- An entry of FLD_PORT_FOLD (R247): 0, or a fold in use of the port, or of the port to which it is bound. -/
def portFoldOk (new : State) (p : Nat) : Bool :=
  let f := new.rd (K.FLD_PORT_FOLD p)
  f == 0 || (new.foldInUse f && f < 1024 && (new.rd (K.FLD_OWNER_PORT f) == p
    || (new.boundTo p).map (·.1) == some (new.rd (K.FLD_OWNER_PORT f))))

/-- The records that a commit posts to the log of a port (R153, R238, R240). -/
def recordsFor (old new : State) (keys : List Nat) (p : Nat) : Nat :=
  let moved := (keys.filter (fun k => isFoldKey [1] k && old.rd k != new.rd k)).map foldOfKey
  (keys.filter (fun k => isExtentKey k && field (old.rdo k) 0 2 != field (new.rdo k) 0 2)).foldl (fun n k =>
      n + b2n (field (old.rdo k) 0 2 != 0 && old.rd (K.FLD_OWNER_PORT (field (old.rdo k) 0 2)) == p)
        + b2n (field (new.rdo k) 0 2 != 0 && new.rd (K.FLD_OWNER_PORT (field (new.rdo k) 0 2)) == p)) 0
    + moved.foldl (fun n f => n + ((old.extentsOf f).filter (fun e => old.rdo (K.FLD_EXTENT_ENTRY e.num) == new.rdo (K.FLD_EXTENT_ENTRY e.num))).length * (b2n (old.rd (K.FLD_OWNER_PORT f) == p) + b2n (new.rd (K.FLD_OWNER_PORT f) == p))) 0

/-- The rules of Fold and Gatepost. -/
def foldRules (old new : State) (keys : List Nat) : List CommitRule :=
  let shape := fun k => isFoldKey [1, 2, 3] k || isRoleKey k || (inIdx 0x2400 0x2500 [3] k && keyIdx k % 4 == 1)
  let owned := fun f => !(old.extentsOf f).isEmpty && new.rd (K.FLD_OWNER_PORT f) != 0xFF
  ruleIf keys shape (new.listedFolds.all new.windowPlaced)
  ++ ruleEach keys (isFoldKey [1]) (fun k => new.rd k != 0xFF
      || (new.extentsOf (foldOfKey k)).all (fun e => keys.contains (K.FLD_EXTENT_ENTRY e.num)))
  ++ ruleEach keys (fun k => isFoldKey [2, 3, 4] k && owned (foldOfKey k)) (fun k => foldKept old new (foldOfKey k))
  ++ ruleEach keys isExtentKey (extentForm old new)
  ++ ruleEach keys (fun k => isExtentKey k && field (new.rdo k) 0 2 != 0)
      (fun k => extentOk old new (extentOf (extentNum k) (new.rdo k)) true)
  ++ ruleIf keys (fun k => isFoldKey [1, 3, 4] k || isFeidKey k || isRoleKey k || k == K.TWL_DEVICE_NUMBER || inIdx 0x8010 0x8011 [] k)
      (new.extents.all (fun e => extentOk old new e false))
  ++ ruleEach keys (fun k => isFoldKey [1] k && old.rd k != new.rd k && owned (foldOfKey k)) (fun k => ownerOk old new keys (foldOfKey k))
  ++ ruleEach keys (fun k => isFoldKey [3, 4, 5] k && setsDirtyLog old new (foldOfKey k)) (fun k => bitmapOk old new (foldOfKey k))
  ++ ruleEach keys (isFoldKey [5]) (fun k => new.rd k % 4096 == 0)
  ++ ruleEach keys (fun k => inIdx 0x4800 0x4C00 [] k || inIdx 0x4C10 0x4C14 [] k) (fun k => routeOk new (new.rd k))
  ++ ruleIf keys (fun k => inIdx 0x4C01 0x4C02 [] k || isFoldKey [1, 3] k || isVppbKey k || isRoleKey k)
      ((List.range 64).all (portFoldOk new))
  ++ ruleEach keys (inIdx 0x5000 0x5020 []) (fun k => gtpEntryOk (new.rdo k))
  ++ (if old.replaying then [] else
      ruleIf keys (fun k => isExtentKey k || isFoldKey [1] k)
        ((List.range 64).all (fun p => recordsFor old new keys p ≤ old.logFree p)))

/-! ### Paddock, Drover, the Tenant Function Block (R316, R319, R354, R362 to R364) -/

/-- TFB_PF_VF_BASE and TFB_PF_TOTAL_VFS, and TFB_VF_FOLD. -/
def isPoolKey (k : Nat) : Bool := inIdx 0x7400 0x7440 [1, 2] k
def isBindKey (k : Nat) : Bool := inIdx 0x7480 0x7488 [] k

/-- The pool VF of a TFB_VF_FOLD. -/
def vfOfKey (k : Nat) : Nat := 128 * (keyIdx k - 0x7480) + keySub k - 1

/-- The VFs that are bound to a fold, with it. -/
def State.boundVfs (s : State) : List (Nat × Nat) := (s.dict.nums.filter (fun e => isBindKey e.1)).map (fun e => (vfOfKey e.1, e.2))

/-- The ranges of the upstream ports in the pool (R363). -/
def State.poolOk (s : State) : Bool :=
  let r := (s.rolePorts 1).map (fun p => (p, s.rd (K.TFB_PF_VF_BASE p), s.rd (K.TFB_PF_TOTAL_VFS p)))
  r.all (fun a => a.2.2 ≤ 256 && a.2.1 + a.2.2 ≤ 1024
    && r.all (fun b => a.1 == b.1 || !(rangesMeet a.2.1 a.2.2 b.2.1 b.2.2)))

/-- A VF's binding keeps R364. -/
def vfBound (new : State) (v f : Nat) : Bool :=
  match new.vfFunc v with
  | some w => f < 1024 && new.foldInUse f && new.rd (K.FLD_OWNER_PORT f) == w.1
  | none => false

/-- A VF has a queue enabled. -/
def Vf.queuesOn (x : Vf) : Bool := x.sqs.any (·.enable) || x.cqs.any (·.enable)

/-- The residency of a slot's program (R354): the slot is not empty, and fold 0 is not named. -/
def residencyOk (old new : State) (k : Nat) : Bool :=
  let j := keyIdx k - 0x7010
  old.slotsLoaded.contains j && !(strBit (new.rdo (K.DRV_PROG_FOLDS j)) 0)

/-- The rules of Paddock, Drover and the Tenant Function Block. -/
def tenantRules (old new : State) (keys : List Nat) : List CommitRule :=
  let resident := fun k => inIdx 0x7010 0x7050 [6, 7] k
  let edges := (List.range 15).map (fun j => new.rd (K.PDK_HIST_EDGE j))
  ruleIf keys (inIdx 0x6402 0x6403 [1, 2, 3, 4, 5, 6, 7, 8, 9, 10, 11, 12, 13, 14, 15])
      ((List.range 14).all (fun j => edges.getD j 0 < edges.getD (j + 1) 0))
  ++ ruleIf keys (· == K.PDK_TALLY_INTERVAL)
      (new.rd K.PDK_TALLY_INTERVAL % 1000000 == 0 && 60000000000 % new.rd K.PDK_TALLY_INTERVAL == 0)
  ++ ruleEach keys resident (residencyOk old new)
  ++ ruleIf keys resident ((List.range 16).all (fun c => new.residentCode c ≤ 524288 && new.residentData c ≤ 2097152))
  ++ ruleEach keys (fun k => isPoolKey k && old.rd k != new.rd k) (fun k => !((old.pf (keyIdx k - 0x7400)).vfEnable))
  ++ ruleIf keys (fun k => isPoolKey k || isRoleKey k) new.poolOk
  ++ ruleIf keys (fun k => isPoolKey k || isRoleKey k || isBindKey k || isFoldKey [1, 3] k) (new.boundVfs.all (fun e => vfBound new e.1 e.2))
  ++ ruleEach keys (fun k => isBindKey k && old.rd k != new.rd k) (fun k => old.mig.internal || !(old.vf (vfOfKey k)).queuesOn)

/-! ### Migration (R398, R401, R406) -/

/-- The commit starts a rebind (R398). -/
def startsRebind (old new : State) (keys : List Nat) : Bool :=
  [K.MIG_RB_FOLD, K.MIG_RB_PORT, K.MIG_RB_BASE, K.MIG_RB_VFS].all keys.contains && old.rbFold == 0 && new.rbFold != 0
    && new.foldFlag new.rbFold 2

/-- The conditions under which a transaction may name a fold to rebind (R398). -/
def rebindOk (old new : State) : Bool :=
  let f := new.rbFold
  let p := new.rd K.MIG_RB_PORT
  let n := (new.extentsOf f).length
  let then_ := (new.wr (K.FLD_OWNER_PORT f) p).wr (K.FLD_WINDOW_BASE f) (new.rd K.MIG_RB_BASE)
  let pairs := new.rbPairs
  f < 1024 && new.foldInUse f && n ≤ 4096 && (new.rdo K.MIG_RB_VFS).length % 4 == 0
    && p < 64 && new.role p == 1 && p != new.rd (K.FLD_OWNER_PORT f) && then_.windowPlaced f
    && n ≤ old.logFree p && n ≤ old.logFree (new.rd (K.FLD_OWNER_PORT f))
    && new.boundVfs.all (fun e => e.2 != f || pairs.any (fun q => q.1 == e.1))
    && pairs.all (fun q => q.1 < 1024 && new.vfFold q.1 == f && (old.vf q.1).state == 3
        && (q.2 == 0xFFFF || ((new.vfFunc q.2).map (·.1) == some p && new.vfFold q.2 == 0 && !(old.vf q.2).queuesOn)))

/-- What a rebind under way bars (R401). -/
def rebindBars (old : State) (k : Nat) : Bool :=
  let f := old.rbFold
  inIdx (0x4000 + f) (0x4001 + f) [] k || inIdx 0x7800 0x7801 [] k || (isExtentKey k && field (old.rdo k) 0 2 == f)
    || (isBindKey k && old.rbPairs.any (fun q => q.1 == vfOfKey k || q.2 == vfOfKey k))

/-- The rules of migration. -/
def migrationRules (old new : State) (keys : List Nat) : List CommitRule :=
  (if keys.contains K.MIG_RB_FOLD ∧ old.rbFold = 0 ∧ new.rbFold ≠ 0 then [{ holds := rebindOk old new, part := inIdx 0x7800 0x7801 [1] }] else [])
  ++ (if old.rbActive ∧ !old.mig.internal then ruleIf keys (rebindBars old) false else [])
  ++ (match old.mig.harvest with
      | some h => ruleEach keys (fun k => isFoldKey [3, 4, 5] k && foldOfKey k == h.fold)
          (fun k => if keySub k = 4 then old.foldFlag h.fold 1 || !new.foldFlag h.fold 1 else old.rd k == new.rd k)
      | none => [])

/-! ### Commons, interrupts, Tally, faults, the governor, slot power (R416, R426, R439, R452, R484, R495) -/

/-- The events of Tally (R440), with the greatest INSTANCE; none where ANY is required. -/
def tallyEvents : List (Nat × Option Nat) :=
  [(0x1001, some 255), (0x1002, some 255), (0x1003, some 63), (0x2001, some 63), (0x2002, some 63), (0x2003, some 63), (0x2004, some 63),
   (0x3001, some 63), (0x3002, some 63), (0x3003, some 63), (0x3004, some 63), (0x4001, some 79), (0x4002, some 255), (0x4003, some 7),
   (0x4004, some 79), (0x5001, some 1023), (0x5002, some 1023), (0x5003, some 1023), (0x6001, some 63), (0x6002, some 255), (0x6003, none),
   (0x6004, none), (0x7001, some 1023), (0x7002, some 79)]
  ++ [(0x8001, some 15), (0x8002, some 15), (0x8003, some 15), (0x9001, some 1023), (0x9002, some 1023), (0xA001, some 31), (0xA002, some 31),
   (0xA003, some 31), (0xB001, some 2), (0xB002, none), (0xC001, none), (0xC002, some 4)]

/-- The counter of a CRF_TALLY_SEL or CRF_TALLY_RELOAD. -/
def counterOfKey (k : Nat) : Nat := keyIdx k % 16 * 128 + keySub k - 1

/-- A selection names an event of its bank's owner, with an INSTANCE in range (R439). -/
def tallySelOk (c w : Nat) : Bool :=
  match tallyEvents.find? (fun e => e.1 == bits w 15 0) with
  | none => false
  | some e => bits w 15 12 == bankOwner (c / 16) && (bit w 30 || (match e.2 with
      | some m => bits w 27 16 ≤ m
      | none => false))

/-- A source's configuration keeps R426. -/
def cicCfgOk (i w : Nat) : Bool :=
  if cicAllocated i then !(1 ≤ i && i ≤ 8) || (bit w 31 && bits w 3 0 != 0) else w == 0

/-- The fault source of a HRD_FAULT_SRC_CFG. -/
def sourceOfKey (k : Nat) : Nat := 4096 * (keyIdx k % 16) + keySub k

/-- The rules of Hurdle and Croft. -/
def deviceRules (old new : State) (keys : List Nat) : List CommitRule :=
  ruleEach keys (inIdx 0x8010 0x8011 []) (fun k => carveOk (keySub k) (new.rd k))
  ++ ruleIf keys (inIdx 0x8010 0x8011 []) (layoutOk new.carvePending)
  ++ ruleEach keys (inIdx 0x9000 0x9010 []) (fun k => cicCfgOk (128 * (keyIdx k - 0x9000) + keySub k - 1) (new.rd k))
  ++ ruleEach keys (inIdx 0x9100 0x9108 []) (fun k => tallySelOk (counterOfKey k) (new.rd k))
  ++ ruleEach keys (inIdx 0xA100 0xA110 []) (fun k => !bit (new.rd k) 31 || !((faultSource (sourceOfKey k)).any (fun r => r.lesser == 4)))
  ++ ruleIf keys (fun k => k == K.HRD_GOV_FLOOR || k == K.HRD_GOV_BUDGET) (new.rd K.HRD_GOV_FLOOR ≤ new.rd K.HRD_GOV_BUDGET)
  ++ ruleEach keys (fun k => inIdx 0xB400 0xB410 [1] k && old.rd k == 0 && new.rd k == 1)
      (fun k => old.openRelated 2 (elem 9 (keyIdx k - 0xB400)) == 0 && old.slotCode (keyIdx k - 0xB400) != 6)
  ++ ruleEach keys (inIdx 0xB400 0xB410 [3]) (fun k => new.rd k % 10000 == 0)

/-- Every rule of a commit (R64 step 1). -/
def commitRules (old new : State) (keys : List Nat) : List CommitRule :=
  portRules old new keys ++ loomRules new keys ++ foldRules old new keys ++ tenantRules old new keys ++ migrationRules old new keys
    ++ deviceRules old new keys

end Sys2Proof.Machine
end

