-- ==== Sys2Proof/Machine/Hooks.lean ====
section
/-! DEFINITION. What the chapters give to the Crook protocol: the values of computed objects, the effects of immediate writes, the wait of a
commit for epochs, and the effects of a commit at its commit point (R60, R64). -/

namespace Sys2Proof.Machine

/-! ### Objects that are computed when they are read -/

/-- The octets of a fault record (R457). -/
def faultBytes (r : FaultRec) : List Byte :=
  let b := leBytes 8 r.dtc ++ leBytes 4 r.seq ++ leBytes 2 r.source ++ leBytes 1 r.cls ++ leBytes 1 r.flags ++ leBytes 2 r.element
    ++ leBytes 1 r.base ++ [0] ++ leBytes 4 r.count ++ leBytes 4 r.boot ++ leBytes 4 r.related ++ leBytes 8 r.d0 ++ leBytes 8 r.d1
    ++ leBytes 8 r.d2 ++ zeros 4
  b ++ leBytes 4 (crc32c (b ++ zeros 4))

/-- The LTSSM states through which a link may pass on its way to L0: Detect, Polling, Configuration, Recovery with equalisation, and Loopback, which a
partner leads (R145, R516). -/
def trainingCodes : List Nat := List.range 0x13 ++ [0x18, 0x19, 0x1A]

/-- The LTSSM states in which a link that is up may stand, unless it is in L1 or L2: L0, and Recovery, into which a partner leads (R516). -/
def activeCodes : List Nat := [0x13, 0x0B, 0x0C, 0x0D, 0x0E]

/-- PRT_LINK_STATE (R160, R164, R516): a port in training, or up, shows the state that it and its partner have come to, which is a free value at each
tick, and so do the phases of a re-equalisation and the two states of L1. -/
def State.linkStateWord (s : State) (p : Nat) : Nat :=
  let v := s.rd (K.PRT_LINK_STATE p)
  let w := putBit v 3 (s.rd (K.PRT_IDE_STATE p) == 2)
  if s.role p = 0 ∨ s.role p = 3 ∨ bit v 1 ∨ s.isolatedPort p ∨ !s.lanesFree then putBits w 23 16 0xFF
  else if s.reequalising p then putBits w 23 16 (0x0F + Config.ltssm p s.now % 4)
  else if bit v 0 && bits v 23 16 == 0x13 then putBits w 23 16 (activeCodes.getD (Config.ltssm p s.now % 5) 0x13)
  else if bit v 0 && bits v 23 16 == 0x15 then putBits w 23 16 (0x14 + Config.ltssm p s.now % 2)
  else if bit v 0 ∨ bit v 2 ∨ s.trainingBarred p ∨ bits v 23 16 ≠ 0 then w
  else putBits w 23 16 (trainingCodes.getD (Config.ltssm p s.now % trainingCodes.length) 0)

/-- TFB_PF_STATE (R392). -/
def State.pfStateWord (s : State) (p : Nat) : Nat :=
  let x := s.pf p
  if s.pfExists p then b2n x.vfEnable + 2 * b2n x.cfg.msixEnable + (if x.cfg.d3 then 12 else 0) + 256 * s.major p + 65536 * x.numVfs else 0

/-- A mask of the queues that satisfy a condition. -/
def queueMask (p : Nat → Bool) : Nat := (List.range 4).foldl (fun n q => n + b2n (p q) * 2 ^ q) 0

/-- TFB_VF_STATE (R392). -/
def State.vfStateWord (s : State) (v : Nat) : Nat :=
  let x := s.vf v
  x.state % 8 + 8 * b2n x.cfg.d3 + 16 * queueMask (fun q => (x.sqs.getD q {}).enable) + 256 * queueMask (fun q => (x.cqs.getD q {}).enable)
    + 65536 * x.inflight

/-- CRF_SESSION_STATE (R77). -/
def sessionWord (x : Session) : Nat :=
  if x.opened then 2 ^ 24 * x.slot + 65536 * x.major + 256 * x.minor + 2 * b2n x.txn.isSome + 1 else 0

/-- Computed objects of Croft and Hurdle. -/
def coreNum (s : State) (k : Nat) : Option Nat :=
  let idx := keyIdx k
  if k = K.CRF_FW_VERSION then some (Config.imageVersion s.boot.image % 2 ^ 32)
  else if idx = 0x1000 then some (sessionWord (s.session (keySub k)))
  else if k = K.CRF_JOURNAL_FILL then some (s.journalFill % 2 ^ 32)
  else if k = K.CRF_MRAM_PASSES then some (s.mram.passes % 2 ^ 64)
  else if k = K.CMN_RETIRED then some s.mram.retired.length
  else if idx = 0xA000 then
    (match keySub k with
    | 1 => some (s.mram.lastSeq % 2 ^ 32)
    | 2 => some s.mram.lastSlot
    | 4 => some s.mram.acked
    | 7 => some (b2n s.flt.latch)
    | _ => none)
  else if idx = 0xA001 then some (if keySub k = 1 then 0 else s.openOf (keySub k - 1))
  else if k = K.HRD_BOOT_STATE then some s.bootState
  else if k = K.HRD_DTC then some (s.clk.dtc % 2 ^ 64)
  else none

/-- Computed objects of the data path. -/
def pathNum (s : State) (k : Nat) : Option Nat :=
  let idx := keyIdx k
  let sub := keySub k
  if inIdx 0x2000 0x2100 [7, 8, 9, 10] k ∧ idx % 4 = 1 then
    let q := (idx - 0x2000) / 4
    some (if !s.laneUp (4 * q + (sub - 7)) then 0 else Config.snr (4 * q + (sub - 7)) s.now % 65536)
  else if inIdx 0x2100 0x2110 [2] k then some (s.refCount (idx - 0x2100))
  else if inIdx 0x2400 0x2500 [4] k ∧ idx % 4 = 0 then some (s.linkStateWord ((idx - 0x2400) / 4))
  else if k = K.LOM_SHARED_USED then some s.sharedUsed
  else if k = K.LOM_OVF_BYTES then some (s.storeBytes (fun _ => true))
  else if k = K.LOM_RESEQ_HELD then some s.reseqCells
  else if 0x3100 ≤ idx ∧ idx < 0x3150 ∧ sub = 3 then some (s.reserveUsed (idx - 0x3100))
  else if 0x3100 ≤ idx ∧ idx < 0x3150 ∧ 4 ≤ sub ∧ sub ≤ 11 then some (s.queueCells (idx - 0x3100) (sub - 4))
  else if isFoldKey [11] k then some (s.extentsOf (foldOfKey k)).length
  else if isFoldKey [12] k then some (s.boundBytes (foldOfKey k) % 2 ^ 64)
  else if isFoldKey [13] k then some ((s.heldMsgs (foldOfKey k)).length % 2 ^ 32)
  else if inIdx 0x6000 0x6400 [36] k then some (s.pdkHeld (keyIdx k - 0x6000) % 2 ^ 32)
  else if idx = 0x5404 then some (s.portLines (sub - 1))
  else if inIdx 0x7400 0x7440 [3] k then some (s.pfStateWord (idx - 0x7400))
  else if inIdx 0x7400 0x7440 [4] k then
    some (if s.pfExists (idx - 0x7400) then 256 * s.major (idx - 0x7400) + tfbMinor (s.major (idx - 0x7400)) else 0)
  else if inIdx 0x7490 0x7498 [] k then some (s.vfStateWord (128 * (idx - 0x7490) + sub - 1))
  else none

/-- The numeric objects that are computed when they are read. -/
def numHook (s : State) (k : Nat) : Option Nat :=
  match coreNum s k with
  | some v => some v
  | none => pathNum s k

/-- The DOMAIN objects that are computed when they are read. -/
def octHook (s : State) (k : Nat) : Option (List Byte) :=
  if k = K.CRF_SERIAL then some (fit 16 Config.serial)
  else if inIdx 0xA300 0xA320 [] k then
    some (((s.mram.ring.find? (fun e => e.1 == 128 * (keyIdx k - 0xA300) + keySub k - 1)).map (fun e => faultBytes e.2)).getD (zeros 64))
  else if keyIdx k = 0xB005 then some (s.selftestLog (keySub k - 1))
  else none

/-! ### Immediate writes -/

/-- A write to a key slot (R51, R53): 48 zero octets empty it; the first key closes an unauthenticated session. -/
def State.keyWrite (s : State) (slot : Nat) (key : List Byte) : State :=
  let empty := key.all (· == 0)
  let s1 : State := { s with mram := { s.mram with
    keySlots := if empty then Sparse.erase slot s.mram.keySlots else Sparse.insert slot key s.mram.keySlots } }
  if empty then s1 else s1.closeWhere (fun x => x.slot == 0xFF)

/-- A write to CRF_TRANSPORT_ENABLE closes the sessions of the transports that it clears (R56). -/
def State.transportWrite (s : State) (v : Nat) : State := s.closeWhere (fun x => !bit v (transportNum x.transport))

/-- HRD_FAULT_ACK (R460). -/
def State.faultAck (s : State) (n : Nat) : Nat × State :=
  if s.mram.lastSeq < n then (Status.range, s)
  else if n ≤ s.mram.acked then (Status.ok, s)
  else
    let s1 : State := { s with mram := { s.mram with acked := n }, flt := { s.flt with ackTick := s.now } }
    (Status.ok, if s1.openOf 2 + s1.openOf 3 = 0 then { s1 with boot := { s1.boot with alertOut := false } } else s1)

/-- HRD_FAULT_INJECT (R462). -/
def State.faultInject (s : State) (v : Nat) : Nat × State :=
  let src := bits v 15 0
  let el := bits v 31 16
  match faultSource src with
  | none => (Status.range, s)
  | some r => if !r.kinds.contains (el / 4096) ∨ r.lesser = 4 then (Status.range, s) else (Status.ok, s.raiseAt src el r.lesser 0 0 0 true)

/-- A write that answers RANGE unless it is the stated value. -/
def only (ok : Bool) (s : State) : Nat × State := if ok then (Status.ok, s) else (Status.range, s)

/-- Immediate writes to the objects of Croft (R51 to R77, R113); a session may not clear its own transport (R77).  The
replay (`n` 0) has no session, and a replayed CRF_PERSIST_ENABLE gives way to the pass limit afterwards (R74). -/
def croftWrite (n k : Nat) (v : List Byte) (s : State) : Option (Nat × State) :=
  let x := leNat v
  if keyIdx k = 0x1001 then some (Status.ok, s.keyWrite (keySub k) v)
  else if k = K.CRF_KEY_LOCK then some (Status.ok, { s with dict := { s.dict with keyLock := s.dict.keyLock.lor x } })
  else if k = K.CRF_PERSIST_ENABLE then some (only (n == 0 || x == 0 || s.mram.passes < s.rd K.CRF_MRAM_PASS_LIMIT) s)
  else if k = K.CRF_FACTORY_RESET then some (only (x == 0x5AFE) { s with mram := { s.mram with factoryReset := true } })
  else if k = K.CRF_TRANSPORT_ENABLE then
    some (if n ≠ 0 ∧ (s.session n).opened ∧ !bit x (transportNum (s.session n).transport) then (Status.range, s) else (Status.ok, s.transportWrite x))
  else if k = K.CRF_FW_CTRL then some (s.fwCtrl x)
  else if k = K.CRF_FW_OFFSET then some (only (x % 1024 == 0) s)
  else if k = K.CRF_FW_CHUNK then some (s.fwChunk v)
  else if k = K.CRF_TALLY_OVF_CLEAR then some (Status.ok, s.tallyOvfClear x)
  else none

/-- Immediate writes to the objects of quads, ports and the switch (R124, R135, R136, R139, R181, R191, R219, R514). -/
def laneWrite (k : Nat) (v : List Byte) (s : State) : Option (Nat × State) :=
  let x := leNat v
  let idx := keyIdx k
  let q := (idx - 0x2000) / 4
  if inIdx 0x2000 0x2100 [11] k ∧ idx % 4 = 1 then some (s.reeqWrite q x)
  else if inIdx 0x2000 0x2100 [6] k ∧ idx % 4 = 2 then some (Status.ok, s.injectErrors q x)
  else if inIdx 0x2000 0x2100 [16] k ∧ idx % 4 = 2 then some (Status.ok, s.prbsClear q x)
  else if inIdx 0x2000 0x2100 [1] k ∧ idx % 4 = 3 then some (s.marginCtrl q x)
  else if inIdx 0x2800 0x2900 [6] k ∧ idx % 4 = 0 then some (s.retrainWrite ((idx - 0x2800) / 4) x)
  else if inIdx 0x2800 0x2900 [7] k ∧ idx % 4 = 0 then some (s.reenable ((idx - 0x2800) / 4) x)
  else if k = K.LOM_SAMPLE_READ then some (s.ringRead k K.LOM_SAMPLE_WRITE s.sampleSlots x)
  else none

/-- Immediate writes to the objects of Fold, Gatepost, Bellwether and Paddock (R238, R252, R259, R276, R297, R316, R401, R514). -/
def pathWrite (k : Nat) (v : List Byte) (s : State) : Option (Nat × State) :=
  let x := leNat v
  if k = K.FLD_RELEASE_REQUEST then
    some (if s.rbActive ∧ (s.extent x).fold = s.rbFold then (Status.range, s) else s.releaseRequest x)
  else if inIdx 0x5000 0x5020 [] k then some (only (gtpEntryOk v) (s.restoreEntry (keyIdx k) (keySub k)))
  else if k = K.GTP_LOCK_REQUEST then some (s.gtpLock x)
  else if k = K.GTP_VIOLATION_READ then some (s.ringRead k K.GTP_VIOLATION_WRITE 1024 x)
  else if k = K.BLW_LOOKUP_LINE then some (Status.ok, s.lookupLine (field v 0 2) (field v 2 8))
  else if k = K.BLW_FLUSH_FOLD then some (s.flushFold x)
  else if k = K.PDK_TALLY_READ then some (s.ringRead k K.PDK_TALLY_WRITE (s.rd K.PDK_TALLY_SLOTS) x)
  else if k = K.PDK_QSAMPLE_READ then some (s.ringRead k K.PDK_QSAMPLE_WRITE s.qsampleSlots x)
  else if k = K.PDK_HIST_CLEAR then some (s.histClear x)
  else none

/-- Immediate writes to the objects of Drover and migration (R353, R356, R357, R360, R404, R405). -/
def tenantWrite (n k : Nat) (v : List Byte) (s : State) : Option (Nat × State) :=
  let x := leNat v
  if k = K.DRV_ZERO_RETRY then some (s.zeroRetry x)
  else if k = K.DRV_HOTPAGE_FOLD then some (s.hotpageFold x)
  else if k = K.DRV_LOAD_CTRL then some (s.loadCtrl (s.perm n) x)
  else if k = K.DRV_LOAD_CHUNK then some (s.loadChunk v)
  else if k = K.DRV_PROG_KEY_LOCK then some (Status.ok, { s with dict := { s.dict with progKeyLock := s.dict.progKeyLock.lor x } })
  else if inIdx 0x7300 0x7380 [3] k then some (s.fenceWrite (keyIdx k - 0x7300) x)
  else if k = K.MIG_HV_CTRL then some (s.hvCtrl x)
  else none

/-- Immediate writes to the objects of Hurdle (R96, R460, R462, R478, R479, R481). -/
def hurdleWrite (k : Nat) (v : List Byte) (s : State) : Option (Nat × State) :=
  let x := leNat v
  if k = K.HRD_FAULT_ACK then some (s.faultAck x)
  else if k = K.HRD_FAULT_INJECT then some (s.faultInject x)
  else if k = K.HRD_WARM_RESET then some (only (x == 0x7A3C) { s with boot := { s.boot with warmRequest := true } })
  else if k = K.HRD_PSTATE_REQUEST then some (if x = 2 then (Status.ok, s.fallowRequest) else s.winter)
  else if k = K.HRD_PAD_RELEASE then some (if x = 1 then (Status.ok, s.padRelease) else (Status.range, s))
  else none

/-- The effect of an immediate write that passed the protocol's checks; `n` is the session, 0 for the replay. -/
def writeHook (n k : Nat) (v : List Byte) (s : State) : Nat × State :=
  match croftWrite n k v s with
  | some r => r
  | none => match laneWrite k v s with
    | some r => r
    | none => match pathWrite k v s with
      | some r => r
      | none => match tenantWrite n k v s with
        | some r => r
        | none => (hurdleWrite k v s).getD (Status.ok, s)

/-! ### The wait for epochs (R235, R236, R398) -/

/-- A commit waits while the epoch before last of a fold whose decode it changes has not drained, or an extent that it binds still drains. -/
def epochHook (s : State) (staged : List Staged) : Bool :=
  let new := staged.foldl (fun s w => storeWire s w.key w.value) s
  let keys := staged.map (·.key)
  let folds := decodeChanges s new keys ++ (if startsRebind s new keys then [new.rbFold] else [])
  folds.any (fun f => !s.epochFree f)
    || keys.any (fun k => isExtentKey k && field (s.rdo k) 0 2 == 0 && field (new.rdo k) 0 2 != 0
      && s.fab.fold.draining.any (fun d => d.1 == extentNum k))

/-! ### The effects of a commit -/

/-- A port's role or width changes (R87, R144, R153): its link goes down under the old role, what belonged to the old role ends, but for a stream that is
insecure until new keys come (R158), and the new configuration trains at the next boundary. -/
def State.shapeApplied (s old : State) (p : Nat) : State :=
  let r := s.role p
  let r0 := old.role p
  let s1 := (s.wr (K.PRT_ROLE p) r0).wr (K.PRT_WIDTH p) (old.rd (K.PRT_WIDTH p))
  let s2 := if r0 = 3 then s1.twillDown p else if r0 = 0 then s1 else s1.portDown p
  let s3 := if r0 = 1 ∧ r ≠ 1 then (s2.portFuncReset p).putMailbox p {} else s2
  let s4 := (s3.wr (K.PRT_ROLE p) r).wr (K.PRT_WIDTH p) (s.rd (K.PRT_WIDTH p))
  let fenced := (s4.portQuads p).any (fun q => bit (s4.rd K.HRD_FENCED_QUADS) q)
  let x := s4.port p
  if r = r0 then
    let s5 := if r = 3 then (s4.wr (K.TWL_STATE p) (4 * b2n fenced + 2 * b2n (bit (s4.rd (K.TWL_STATE p)) 1))).putLink p {}
      else s4.wr (K.PRT_LINK_STATE p) (2 * b2n fenced + (4 + 0x170000) * b2n (bit (s4.rd (K.PRT_LINK_STATE p)) 2))
    s5.putPort p { x with trainTick := some s.now }
  else
    let s5 := ((s4.wr (K.TWL_STATE p) (if r = 3 then 4 * b2n fenced else 0)).wr (K.PRT_LINK_STATE p) (if r = 3 then 0 else 2 * b2n fenced)).putLink p {}
    let s5 := s5.perstRole p r0
    let s6 := State.putPort { s5 with boot := { s5.boot with perstIn := s5.boot.perstIn.filter (· != p) } } p
      { nextHandle := x.nextHandle, downAt := x.downAt, sweeping := x.sweeping, trainTick := some s.now, newRole := true, gen := x.gen
        ide := x.ide.filter (fun e => e.2 == 3) }
    let s6 := s6.wr (K.PRT_IDE_STATE p) (3 * b2n (s6.insecure p))
    s6.closeWhere (fun y => r0 == 1 && y.transport == .mbx p)

/-- The effects on quads, ports, Twill links and Loom (R133, R144, R194, R204, R214): a reserve that changes while its link is down is in force at once. -/
def laneApplied (old : State) (keys : List Nat) (s : State) : State :=
  let changed := keys.filter (fun k => old.rd k != s.rd k)
  let ports := ((changed.filter isShapeKey).map portOfKey).eraseDups
  let s1 := forEach ports (fun s p => s.shapeApplied old p) s
  let s2 := when (changed.any (fun k => k == K.TWL_DEVICE_NUMBER || k == K.TWL_HASH_SEED))
    (fun s => forEach ((s.rolePorts 3).filter (fun p => !ports.contains p)) (fun s p => (s.twillDown p).startTraining p) s) s1
  let s3 := forEach (((changed.filter (isTestKey [1, 2, 3])).map quadOfKey).eraseDups) (fun s q => s.testApplied q) s2
  let s4 : State := { s3 with fab := { s3.fab with loom := { s3.fab.loom with
    allotted := s3.fab.loom.allotted.filter (fun e => s3.linkUp e.1 || s3.reserveCommitted e.1 == old.reserveCommitted e.1) } } }
  (when (changed.contains K.LOM_RESEQ_HOLD_LIMIT) State.holdLimit s4).loomSync

/-- The effects on a fold of a change of its flags, owner, window and bitmap (R237, R240, R241, R297). -/
def State.foldApplied (s old : State) (f : Nat) : State :=
  let moved := old.rd (K.FLD_OWNER_PORT f) != s.rd (K.FLD_OWNER_PORT f)
  let s1 := when (setsDirtyLog old s f) (fun s => s.zeroBitmap f) s
  let flip := old.foldFlag f 2 != s.foldFlag f 2
  let s2 : State := if flip || moved then
      { s1 with fab := { s1.fab with fold := { s1.fab.fold with flushed := s1.fab.fold.flushed.filter (· != f) } } } else s1
  let s3 : State := if moved || (old.foldFlag f 2 && !s.foldFlag f 2) then
      { s2 with blw := { s2.blw with noGrant := s2.blw.noGrant.filter (· != f) } } else s2
  let s4 : State := if moved then
      { s3 with fab := { s3.fab with pdk := { s3.fab.pdk with ownerChanged := f :: s3.fab.pdk.ownerChanged.filter (· != f) } } } else s3
  if old.foldFlag f 2 && !s.foldFlag f 2 then s4.thaw f else s4

/-- The effects on Fold and Gatepost (R229 to R241, R246, R264). -/
def pathApplied (told : Bool) (old : State) (keys : List Nat) (s : State) : State :=
  let s1 := s.extentsApplied old keys (fun _ => told)
  let s2 := forEach (((keys.filter (isFoldKey [1, 2, 3, 4, 5])).map foldOfKey).eraseDups) (fun s f => s.foldApplied old f) s1
  forEach (keys.filter (fun k => isExtentKey k || inIdx 0x4800 0x4C20 [] k || inIdx 0x5000 0x5020 [] k))
    (fun s k => s.restoreEntry (keyIdx k) (keySub k)) s2

/-- The buckets of a changed rate or burst (R309). -/
def bucketsOf (k : Nat) : List Nat :=
  if inIdx 0x6001 0x6400 [1, 2] k then [foldBucket (keyIdx k - 0x6000) 0]
  else if inIdx 0x6001 0x6400 [4, 5] k then [foldBucket (keyIdx k - 0x6000) 1]
  else if inIdx 0x6001 0x6400 [7, 8] k then [foldBucket (keyIdx k - 0x6000) 2]
  else if inIdx 0x6001 0x6400 [9, 10] k then [foldBucket (keyIdx k - 0x6000) 3]
  else if inIdx 0x6410 0x6450 [1, 2] k then [portBucket (keyIdx k - 0x6410) 0]
  else if inIdx 0x6410 0x6450 [3, 4] k then [portBucket (keyIdx k - 0x6410) 1]
  else []

/-- The effects on the buckets (R309): they come first, so that requests that a thaw releases at this commit point find them. -/
def bucketsApplied (old : State) (keys : List Nat) (s : State) : State :=
  forEach ((keys.flatMap bucketsOf).eraseDups) (fun s b => s.rebucket old b) s

/-- The effects on Paddock, Drover and migration (R316, R354, R357, R399). -/
def tenantApplied (old : State) (keys : List Nat) (s : State) : State :=
  let s2 := when (keys.any (fun k => inIdx 0x6402 0x6403 [] k && old.rd k != s.rd k)) (fun s => (s.histClear 0xFFFF).2) s
  let s3 := when (keys.any (inIdx 0x7010 0x7050 [6, 7])) State.residencyApplied s2
  let s4 := when (keys.contains K.DRV_HOTPAGE_N && s3.rd K.DRV_HOTPAGE_FOLD != 0)
    (fun s => s.wr (K.LOM_SAMPLER_N 7) (s.rd K.DRV_HOTPAGE_N)) s3
  when (startsRebind old s keys) State.rbStart s4

/-- A counter's selection changes (R439): its reload value is loaded and its flag cleared. -/
def State.tallyApplied (s : State) (c : Nat) : State :=
  ((s.tallyPut c (s.rd (K.CRF_TALLY_RELOAD c))).wrBit (K.CRF_TALLY_OVF (c / 16)) (c % 16) false).cicTally (c / 16)

/-- EDGE and ACTIVE_LOW of a source that is no external line are read-only (R426); an external line with a new ACTIVE_LOW is asserted at the other
level. -/
def State.cicCfgApplied (old s : State) (k : Nat) : State :=
  let i := 128 * (keyIdx k - 0x9000) + keySub k - 1
  if 0x10 ≤ i ∧ i ≤ 0x16 then s.cicPolarity i (old.rd k) else s.wrBits k 30 29 0

/-- The effects on Croft and Hurdle (R418, R426, R439, R453, R475, R487). -/
def deviceApplied (old : State) (keys : List Nat) (s : State) : State :=
  let changed := keys.filter (fun k => old.rd k != s.rd k)
  let s1 := forEach (keys.filter (inIdx 0x9000 0x9010 [])) (fun s k => old.cicCfgApplied s k) s
  let s2 := forEach (changed.filter (inIdx 0x9100 0x9108 [])) (fun s k => s.tallyApplied (counterOfKey k)) s1
  let s3 := forEach (changed.filter (inIdx 0xA100 0xA110 [])) (fun s k => s.putWindow (sourceOfKey k) (List.replicate 16 0)) s2
  if old.replaying then s3 else
  let s4 := when (keys.any (inIdx 0x8010 0x8011 [])) State.layoutSync s3
  let s5 := forEach (changed.filter (inIdx 0xB400 0xB410 [1])) (fun s k => s.slotApply (keyIdx k - 0xB400)) s4
  when (keys.any (inIdx 0xB030 0xB031 [])) State.govSync s5

/-- The effects of a commit at its commit point; `s` holds the new values, `old` is the state before. -/
def appliedWith (told : Bool) (old : State) (keys : List Nat) (s : State) : State :=
  deviceApplied old keys (tenantApplied old keys (laneApplied old keys (pathApplied told old keys (bucketsApplied old keys s))))

/-- The effects of a commit: the replay posts no event record, since the log kept its own (R153). -/
def appliedHook (old : State) (keys : List Nat) (s : State) : State := appliedWith (!old.replaying) old keys s

/-- What the chapters give the protocol. -/
def hooks : Hooks :=
  { write := writeHook, numOf := numHook, octOf := octHook, rules := commitRules, epochWait := epochHook, applied := appliedHook
    mailbox := fun p n s => s.pfCause p n }

end Sys2Proof.Machine
end

