-- ==== Sys2Proof/Machine/Tick.lean ====
section
/-! DEFINITION. What happens at a tick boundary (R29 to R33), the internal commits (R155, R239, R399, R498), and the return of isolated
elements (R448). -/

namespace Sys2Proof.Machine

/-! ### Tick jobs (R29 to R33) -/

/-- Tick-bound jobs run: the DTC runs, and the device is not in P3 (R33). -/
def State.ticking (s : State) : Bool := s.clk.running && s.pwr.sleep == .awake

/-- Ports whose committed change of role or width waits for a boundary train now (R144). -/
def State.trainWaiting (s : State) : State :=
  forEach ((s.fab.ports.filter (fun e => match e.2.trainTick with
    | some t => decide (t < s.now)
    | none => false)).map (·.1)) (fun s p => (s.putPort p { s.port p with trainTick := none, newRole := false }).startTraining p) s

/-- The data link layer replays of a tick on the PCIe and CXL ports whose link is up, where a counter counts them (R440): their number is free. -/
def State.dllReplays (s : State) : State :=
  let counted := fun (p : Nat) => s.linkUp p && s.tallySelected.any (fun e => tallyMatches e.1 e.2 0x2004 p)
  forEach ((s.rolePorts 1 ++ s.rolePorts 2).filter counted) (fun s p => (s.countN 0x2004 p (Config.dllReplays p s.fresh)).tick) s

/-- The Tally job (R317, R318, R330, R442): one that overran leaves the counts to the next tick, and the tick is marked missed (R30). -/
def State.tallyJob (s : State) (late : Bool) : State :=
  let s1 := ((if late then s else s.engineTick).meterTick late).boundarySeen.dllReplays.tallyCollect late
  if late then { s1 with fab := { s1.fab with pdk := { s1.fab.pdk with missed := s1.fab.pdk.missed + 1 } } } else s1

/-- The tick stamp of the buckets (R30, R307): an overrun leaves the previous one. -/
def State.stampJob (s : State) (late : Bool) : State :=
  if late then s else { s with fab := { s.fab with pdk := { s.fab.pdk with stamp := s.now } } }

/-- The governor's job (R475): grants keep their values in a tick whose job overran. -/
def State.grantJob (s : State) (late : Bool) : State := if late then s.govBoundary else s.govBoundary.rebalance

/-- The jobs of a tick boundary. The snapshots come first (R32); a requested warm reset comes last (R96). -/
def State.tickJobs (s0 : State) : State :=
  if !s0.ticking then s0 else
  let late := fun (j : Nat) => s0.clk.overruns.contains j
  let s : State := { s0 with clk := { s0.clk with overruns := s0.clk.overruns.filter (· == 4) } }
  let s1 := ((((s.tallyJob (late 5)).gtpFaults).faultWindowAdvance (late 3)).stampJob (late 1)).grantJob (late 6)
  let s2 := s1.scrubTick.prbsTick.healthTick.moderationTick.trainWaiting
  if s2.boot.warmRequest then s2.warmReset 4 else s2

/-- TICK_BOUNDARY: the DTC reaches the next multiple of 1,000 ns. -/
def State.tickBoundary (s : State) : State :=
  if !s.clk.running then s
  else State.tickJobs { s with clk := { s.clk with dtc := boundaryAfter s.clk.dtc, frac := 0 } }

/-- One cycle of the DTC's clock (R465), with the tick jobs where it reaches a boundary. -/
def State.cycle (s : State) : State :=
  if !s.clk.running then s else
  let t := s.dtcAfter
  let s1 : State := { s with clk := { s.clk with dtc := t.1, frac := t.2 } }
  if s1.now = s.now then s1 else s1.tickJobs

/-- TICK_JOB_OVERRUN: job 1 to 6 in the order of R30 overruns by `late` nanoseconds: the fault of its owner, and the effect at the boundary. -/
def State.jobOverrun (s : State) (job late : Nat) : State :=
  if job = 0 ∨ 6 < job ∨ !s.ticking then s else
  let s1 : State := if job = 2 then s else { s with clk := { s.clk with overruns := job :: s.clk.overruns.filter (· != job) } }
  if job = 1 ∨ job = 4 then s1.pdkOverrun job late
  else if job = 3 ∨ job = 6 then s1.raiseD F.HRD_TICK_OVERRUN (elemSub 12) job late 0
  else s1.raiseD F.CRF_TICK_OVERRUN (elemSub 11) job late 0

/-- QSAMPLE_CAPTURE: overrun where the event says so, or where TICK_JOB_OVERRUN named the job. -/
def State.qsampleEvent (s : State) (overrun : Bool) : State :=
  let told := s.clk.overruns.contains 4
  let s1 : State := { s with clk := { s.clk with overruns := s.clk.overruns.filter (· != 4) } }
  let s2 := s1.qsample (overrun || told)
  if overrun && !told && s2.fab.pdk.captures != s.fab.pdk.captures then (s2.pdkOverrun 4 (Config.overrunNs s2.fresh)).tick else s2

/-! ### Internal commits (R64, R155, R239, R498) -/

/-- The writes of an internal commit. -/
def State.internalStaged (s : State) (w : InternalWait) : List Staged :=
  match w.job with
  | .fm _ _ l => l.map (fun x => { key := key x.index x.sub, value := x.value, expect := x.expected })
  | .release e _ _ _ => [{ key := K.FLD_EXTENT_ENTRY e, value := patch (s.rdo (K.FLD_EXTENT_ENTRY e)) 0 [0, 0], expect := w.version }]
  | .slot n on => [{ key := K.HRD_SLOT_ENABLE n, value := leBytes 1 (b2n on), expect := w.version }]

/-- A write of the FM API is to an existing writable subentry, and its value is in order (R155). -/
def fmFits (w : Staged) : Bool :=
  match catFind w.key with
  | some r => keySub w.key != 0 && (accessOf r w.key == .rw || accessOf r w.key == .rwt || accessOf r w.key == .rwl)
      && valueCheck w.key w.value == Status.ok
  | none => false

/-- Drop an internal commit. -/
def State.internalDrop (s : State) (w : InternalWait) : State :=
  State.releaseSync { s with fab := { s.fab with fold := { s.fab.fold with internal := s.fab.fold.internal.filter (· != w) } } }

/-- Keep an internal commit in a changed form. -/
def State.internalKeep (s : State) (w v : InternalWait) : State :=
  { s with fab := { s.fab with fold := { s.fab.fold with internal := s.fab.fold.internal.map (fun x => if x = w then v else x) } } }

/-- Apply the writes of an internal commit at its commit point; `told` where event records are posted (R238). -/
def State.internalApply (before s : State) (told : Bool) (l : List (Nat × List Byte)) : State :=
  appliedWith told before (l.map (·.1)) (s.journalWrite before l)

/-- What ends a job that cannot apply: Busy or Invalid Input to a fabric manager, a violation for an extent no longer offered (R153, R155, R239). -/
def State.internalRefuse (s : State) (w : InternalWait) (code : Nat) : State :=
  let s1 := s.internalDrop w
  match w.job with
  | .fm ch _ _ => s1.emit (.fmApi ch code [])
  | .release _ _ p _ => (s1.portViolation p F.PRT_DC_RESPONSE []).emit (.dcReply p 1)
  | .slot _ _ => s1

/-- The configuration request that a command of the FM API sends to the device on a port, a write or a read, with its LD (R155). -/
def fmConfig (offset : Nat) (write : Option Nat) (ld : Nat) : Tlp :=
  { kind := match write with
      | some v => .cfgWr .device (.other offset) v
      | none => .cfgRd .device (.other offset)
    address := offset, length := 4, tag := 0, header := [], payload := (write.map (leBytes 4)).getD [], flaw := .none, ld := ld }

/-- What a command of the FM API does beside its writes (R154, R155). -/
def State.fmEffect (s : State) (k : FmKind) : State :=
  match k with
  | .portControl p _ => ((s.portDown p).setLtssm p 0x1B).startTraining p
  | .aerEvent p => s.aerLog p 22 []
  | .tunnel p ld r => s.emit (.fmTunnel p ld r)
  | .ppbConfig p o w => s.emit (.ioTlp p (fmConfig o w 0))
  | .ldConfig p ld o w => s.emit (.ioTlp p (fmConfig o w ld))
  | .ldMemory p ld a n d => s.emit (.ioTlp p { kind := if d.isEmpty then .memRd else .memWr, address := a, length := if d.isEmpty then n else d.length,
                                               tag := 0, header := [], payload := d, flaw := .none, ld := ld })
  | .deviceAdd p ld base size => s.emit (.dcInitiate p ld true base size)
  | .deviceRelease p ld base size => s.emit (.dcInitiate p ld false base size)
  | _ => s

/-- The answer to a job that applied. -/
def State.internalDone (s : State) (w : InternalWait) : State :=
  match w.job with
  | .fm ch k _ => (((s.bump K.CRF_COMMITS).count 0xB002 0).fmEffect k).emit (.fmApi ch 0 [])
  | .release _ _ p _ => s.emit (.dcReply p 0)
  | .slot _ _ => s

/-- The extent of a host's release is still bound to the same fold of the same host (R239). -/
def State.releaseStands (s : State) (w : InternalWait) : Bool :=
  match w.job with
  | .release e f p _ => (s.extent e).fold == f && s.rd (K.FLD_OWNER_PORT f) == p
  | _ => true

/-- A job that a rebind of its fold bars for now (R401). -/
def State.releaseBarred (s : State) (w : InternalWait) : Bool :=
  match w.job with
  | .release _ f _ _ => s.rbActive && f == s.rbFold
  | _ => false

/-- One internal commit at a boundary: its waits, its versions and rules, its effects. -/
def State.internalOne (s : State) (w : InternalWait) : State :=
  if !s.fab.fold.internal.contains w ∨ s.now ≤ w.tick then s
  else if !s.releaseStands w then s.internalRefuse w 2
  else if s.releaseBarred w then s
  else
    let l := s.internalStaged w
    let t : Txn := { number := 0, staged := l, lastMsg := 0 }
    let fm := match w.job with
      | .fm _ _ _ => true
      | _ => false
    if fm && !l.all fmFits then s.internalRefuse w 2
    else if epochHook s l then
      (if w.epochCounted then s else (s.internalKeep w { w with epochCounted := true }).bump K.FLD_EPOCH_WAITS)
    else if journalBlocked s t then
      (if w.journalCounted then s else (s.internalKeep w { w with journalCounted := true }).bump K.CRF_PERSIST_DEFERRED)
    else match l.find? (fun y => s.version y.key != y.expect) with
      | some y =>
        let s1 := s.bump K.CRF_CONFLICTS
        if fm then s1.internalRefuse w 1 else s1.internalKeep w { w with tick := s.now, version := s.version y.key }
      | none =>
        let done := fun (v : State) (told : Bool) =>
          when w.epochCounted (·.cicRaise 0x116) (((State.internalApply s v told (l.map (fun y => (y.key, y.value)))).internalDrop w).internalDone w)
        match w.job with
        | .release _ _ _ _ => match applyStaged hooks 9 l s with
          | .ok v => done v false
          | .error _ => s.internalRefuse w 2
        | _ => match validate hooks s 9 t with
          | .ok v => done v true
          | .error _ => s.internalRefuse w 2

/-- INTERNAL_COMMIT: the FM API's commands first, then the others, in order of arrival (R239). -/
def State.internalCommit (s : State) : State :=
  let isFm := fun (w : InternalWait) => match w.job with
    | .fm _ _ _ => true
    | _ => false
  if !s.isReady then s else
  forEach (s.fab.fold.internal.filter isFm ++ s.fab.fold.internal.filter (fun w => !isFm w)) State.internalOne s

/-- The writes of a rebind's internal commit, as on the wire. -/
def wireWrites (l : List (Nat × Nat)) : List (Nat × List Byte) := l.map (fun e => (e.1, leBytes (widthOf e.1 / 8) e.2))

/-- The journal cannot take these writes now. -/
def State.writesBlocked (s : State) (l : List (Nat × List Byte)) : Bool :=
  journalBlocked s { number := 0, staged := l.map (fun e => { key := e.1, value := e.2, expect := 0 }), lastMsg := 0 }

/-- The rebind's commit waits for the journal, and is counted once (R71). -/
def State.rebindDefer (s : State) : State :=
  if s.mig.deferred then s else State.bump { s with mig := { s.mig with deferred := true } } K.CRF_PERSIST_DEFERRED

/-- REBIND_OWNER_CHANGE: steps 3 and 4 of R399, at the first boundary after the flush ended. -/
def State.rebindOwner (s : State) : State :=
  let l := wireWrites s.rbWrites
  if !s.rbActive ∨ s.rbPhase ≠ 2 ∨ s.now * 1000 ≤ s.mig.phaseAt then s else
  if s.writesBlocked l then s.rebindDefer else
  let s0 : State := { s with mig := { s.mig with internal := true } }
  let s1 := forEach s.rbWrites (fun s e => (s.wr e.1 e.2).bumpVersion e.1) s0
  if !s.rbSourcesFrozen ∨ !(commitRules s0 s1 (l.map (·.1))).all (·.holds) then s.rbFail 2 else
  let s2 := (State.internalApply s0 s1 true l).rbSources
  State.setPhase { s2 with mig := { s2.mig with internal := false } } 3

/-- REBIND_RELEASE: step 6 of R399, at the first boundary at which step 5 has ended. -/
def State.rebindRelease (s : State) : State :=
  let k := K.FLD_FLAGS s.rbFold
  let v := putBit (s.rd k) 2 false
  let l := wireWrites [(k, v)]
  if !s.rbActive ∨ s.rbPhase ≠ 4 ∨ s.now * 1000 < s.mig.phaseAt then s
  else if s.writesBlocked l then s.rebindDefer
  else (State.internalApply s ((s.wr k v).bumpVersion k) true l).rbDone

/-! ### The return of isolated elements (R448) -/

/-- The cluster that an engine or cluster element names. -/
def elemCluster (el : Nat) : Option Nat :=
  if el / 4096 = 7 then some (el % 4096 / 8) else if el / 4096 = 8 then some (el % 4096) else none

/-- An element returns, once no other isolated element keeps it. -/
def State.elemReturn (s0 : State) (el : Nat) : State :=
  let s : State := { s0 with flt := { s0.flt with isolated := s0.flt.isolated.filter (· != el) } }
  match elemCluster el with
  | some c =>
    if s.flt.isolated.any (fun e => elemCluster e == some c) ∨ s.flt.retest.contains c then s
    else { s with flt := { s.flt with retest := s.flt.retest ++ [c] } }
  | none =>
    if el / 4096 = 13 then { s with crf := { s.crf with mgmtDown := s.crf.mgmtDown.filter (· != el % 4096) } }
    else forEach (s.elemPorts el) (fun s p => s.startTraining p) s

/-- ISOLATION_RETURN: at the first boundary after an acknowledgement the elements return that no open F2 record names. -/
def State.isolationReturn (s : State) : State :=
  if s.now ≤ s.flt.ackTick ∨ !s.isReady then s
  else forEach (s.flt.isolated.filter (fun el => s.openRelated 2 el == 0)) State.elemReturn s

end Sys2Proof.Machine
end

