-- ==== Sys2Proof/Machine/React.lean ====
section
/-! DEFINITION. What a command sets in motion within the same step: the collector's reactions (R447 to R450), and the work that one chapter hands to
another. -/

namespace Sys2Proof.Machine

/-! ### Isolation (R448) -/

/-- Isolate a port: its link goes down and its lanes idle. -/
def State.portIsolate (s : State) (p : Nat) : State :=
  if s.role p = 0 then s else if s.role p = 3 then s.twillDown p else (s.portDown p).setLtssm p 0xFF

/-- Note an element as isolated. -/
def State.isolatedAdd (s : State) (el : Nat) : State :=
  if s.flt.isolated.contains el then s else { s with flt := { s.flt with isolated := s.flt.isolated ++ [el] } }

/-- A management Ethernet port is disabled, and the sessions on it close (R36, R56). -/
def State.mgmtPortFail (s : State) (p : Nat) : State := s.closeWhere (fun x => x.transport == .udp p)

/-- A slot channel latches off for a fault that its own trip did not make. -/
def State.slotLatch (s : State) (n : Nat) : State :=
  if s.slotCode n = 5 ∨ s.slotCode n = 6 then s else
  let s1 := ((s.slotGate n).setSlotCode n 5).slotIrq n
  match s1.slotPort n with
  | some p => (s1.linkDownEvent p).perstLow p
  | none => s1

/-- The isolation of an element. -/
def State.isolate (s : State) (el : Nat) : State :=
  let n := el % 4096
  match el / 4096 with
  | 2 | 3 | 4 | 5 => forEach (s.elemPorts el) State.portIsolate (s.isolatedAdd el)
  | 6 => ((s.isolatedAdd el).stopWhere 5 (fun _ t => t.fold == n))
  | 7 => if n < 128 then (s.isolatedAdd el).isolateCluster (n / 8) else s
  | 8 => if n < 16 then (s.isolatedAdd el).isolateCluster n else s
  | 9 => if n < 16 then s.slotLatch n else s
  | 10 => if n < 4 then s.fenceCore n else s
  | 11 => s.sliceFence n
  | 13 =>
    let s1 := s.isolatedAdd el
    State.mgmtPortFail { s1 with crf := { s1.crf with mgmtDown := n :: s1.crf.mgmtDown.filter (· != n) } } n
  | 14 => (s.isolatedAdd el).vfReset n
  | 15 => s.isolatedAdd el
  | _ => s

/-! ### Subsystem resets (R97, R449) -/

/-- Note a subsystem as being reset (R449). -/
def State.resetBegin (s : State) (n : Nat) : State :=
  if s.flt.resets.contains n then s else { s with flt := { s.flt with resets := s.flt.resets ++ [n] } }

/-- What Drover had scheduled is discarded (R512): an image being received or verified, and the unloads that wait; their slots stay loaded. -/
def State.droverForget (s : State) : State :=
  let s1 := forEach s.drv.unloading (fun s e => s.wr (K.DRV_PROG_STATE e.1) (if s.rd (K.DRV_PROG_CLUSTERS e.1) = 0 then 1 else 2)) s
  let s2 := when s.drv.load.isSome (fun s => (s.wr K.DRV_LOAD_STATUS 0).wr K.DRV_LOAD_OFFSET 0) s1
  { s2 with drv := { s2.drv with unloading := [], load := none } }

/-- Drover's reset: its counters return to 0, every thread stops with reason 3, dispatch waits for ST09. -/
def State.droverReset (s0 : State) : State :=
  let s := s0.droverForget
  let s1 := forEach (List.range 16) (fun s c =>
    forEach [K.DRV_MOVER_BYTES c, K.DRV_DISPATCHED c, K.DRV_EXCEPTIONS c] (fun s k => s.wr k 0) s) (s.resetBegin 8)
  (forEach (List.range 128) (fun s e => s.wr (K.DRV_ENGINE_BUSY_NS e) 0) s1).stopWhere 3 (fun _ _ => true)

/-- The Tenant Function Block's reset: its counters return to 0, and every VF is reset. -/
def State.tfbReset (s : State) : State :=
  let s1 := forEach [K.TFB_DESCRIPTORS, K.TFB_FLRS, K.TFB_FLR_DETACHED, K.TFB_CPL_WRITE_ERRORS, K.TFB_QUEUE_ERRORS, K.TFB_BAR_ERRORS]
    (fun s k => s.wr k 0) (s.resetBegin 9)
  forEach (s1.tfb.vfs.map (·.1)) State.vfReset s1

/-- The reset of a subsystem. -/
def State.subsystemReset (s : State) (n : Nat) : State :=
  if !s.isReady then s else if n = 8 then s.droverReset else if n = 9 then s.tfbReset else s

/-- The fences of engines and clusters end, before ST09 decides again (R107). -/
def State.unfenceDrover (s : State) : State :=
  let out := s.rd K.HRD_FENCED_CLUSTERS
  let s1 := (s.wr K.HRD_FENCED_CLUSTERS 0).wro K.HRD_FENCED_ENGINES (zeros 16)
  let s2 := forEach (List.range 128) (fun s e => s.wrBit (K.DRV_ENGINE_STATE e) 0 false) s1
  forEach (List.range 16) (fun s c =>
    let s3 := s.wrBits (K.DRV_CLUSTER_STATE c) 15 8 0
    if bit out c ∧ !bit (s.rd (K.DRV_CLUSTER_STATE c)) 2 then (s3.wrBits (K.DRV_CLUSTER_STATE c) 1 0 1).cicUnfence (4 + c) else s3) s2

/-- SUBSYSTEM_RESET_DONE: ST09 or ST10 has run, with the failures found (R104, R107, R449). -/
def State.subsystemDone (s : State) (n : Nat) (fails : List TestFail) : State :=
  if !s.flt.resets.contains n then s else
  let s1 : State := { s with flt := { s.flt with resets := s.flt.resets.filter (· != n) } }
  if n = 8 then
    forEach (fails.filter (fun f => f.test == 9 && (f.element / 4096 == 7 || f.element / 4096 == 8)))
      (fun s f => (s.lessPhaseB f).testFault 1 f) s1.unfenceDrover
  else match fails.filter (fun f => f.test == 10) with
    | [] => s1
    | f :: _ => (s1.testFault 2 f).enterPinfold 1 10 false

/-! ### Reactions -/

/-- The next reaction of the collector: an F4 event absorbs the others, a warm reset in progress the isolations that arrive, and any boot the
subsystem resets (R98, R451); in P3 resets wait for the wake (R480). -/
def State.reactNext (s : State) : Option State :=
  let l := s.flt.reactions
  let put := fun (l : List Reaction) => ({ s with flt := { s.flt with reactions := l } } : State)
  if l.isEmpty then none
  else if l.contains .pinfold then some (put []).f4Reaction
  else if l.contains .warmReset && s.pwr.sleep == .awake then some ((put []).warmReset 5)
  else match l.find? (fun r => match r with
      | .isolate _ => true
      | .subsystemReset _ => s.pwr.sleep == .awake
      | _ => false) with
    | some (.isolate el) => let s1 := put (l.erase (.isolate el))
      some (if s.boot.warm ∧ s.boot.step ≠ .ready then s1 else s1.isolate el)
    | some (.subsystemReset n) => let s1 := put (l.erase (.subsystemReset n))
      some (if s.boot.step = .ready then s1.subsystemReset n else s1)
    | _ => none

/-! ### Work handed on within the step -/

/-- A coherence message that did not leave, or was lost with its link (R292 to R294). -/
def State.lostMsg (s : State) (x : LMsg) : State :=
  match s.blw.wbOut.find? (fun w => w.2.2 == x.m.tag && x.m.tc == 3) with
  | some w => s.writebackFailed w.1 w.2.1 x.m.tag
  | none => match s.snoopTxn x.m.tag with
    | some t => if x.m.tc = 1 then s.snoopFailed t.target t.line x.m.tag 4 else s
    | none => s

/-- Carry out one piece of handed-on work. -/
def State.resume (s : State) : Resume → State
  | .memory t l tag status data => s.blwMemory t l tag status data
  | .retagged _ _ old new => s.blwRetag old new
  | .lost x => s.lostMsg x
  | .fetched f d _ => s.fetchEnded f d
  | .untranslated f page => s.atsFails f page
  | .arrived x => s.arrivedMsg x
  | .engine x h status data => s.engAnswer x h status data
  | .ran tag status a data => s.runDone tag status a data
  | .upgradeFailed tag => s.upgradeFailed tag
  | .reissued tag => s.reissue tag

/-- The next piece of work of this step: a reaction, a handed-on message, an ended thread, a port's functions, a request that waits for a tracker. -/
def State.workNext (s : State) : Option State :=
  match s.reactNext with
  | some t => some t
  | none => match s.fab.resumed with
    | r :: rest => some (State.resume { s with fab := { s.fab with resumed := rest } } r)
    | [] => match s.drv.ended with
      | (w, st, r) :: rest => some (State.workEnded { s with drv := { s.drv with ended := rest } } w st r)
      | [] => match s.fab.portResets with
        | p :: rest => some (State.portFuncReset { s with fab := { s.fab with portResets := rest } } p)
        | [] => match s.hostWaiting with
          | some t => some t
          | none => match s.ioWaiting with
            | some t => some t
            | none => s.twillWaiting

/-- No step hands on as much work as this. -/
def workMax : Nat := 1000000

/-- Carry out the work that waits. -/
def State.drain (s : State) : State := iter State.workNext workMax s

/-- What follows the state of other parts: answered transactions, Paddock's held heads, Bellwether's memory writes, lost homes, PORT_PERST_N, invalidations, the rebind, PME_Turn_Off. -/
def State.follow (s : State) : State :=
  let s0 := s.closeServed.laneSweep.writePathSweep
  let s1 := (if s0.blw.lines.isEmpty then s0 else s0.loseHomes).perstSync.invalidateSync.rbSync
  forEach ((s1.fab.ports.filter (fun e => e.2.pmeSince.isSome && s1.role e.1 == 1)).map (·.1)) State.pmeSettle s1

/-- The end of every step: the reactions and the handed-on work, and what follows from them. -/
def settle (s : State) : State := s.drain.follow.drain.follow.drain

end Sys2Proof.Machine
end

