-- ==== Sys2Proof/Machine/Events.lean ====
section
/-! DEFINITION. The way from a command to the operation that it stands for: Crook messages and mailboxes, writes to action objects, functions, and
the faults that an event names by itself. -/

namespace Sys2Proof.Machine

/-! ### Crook messages (R44 to R47, R54) -/

/-- The message that a mailbox's request buffer spells, of `b` octets. -/
def mbxMsg (b : List Byte) : CrookMsg :=
  { verMajor := field b 0 1, verMinor := field b 1 1, session := field b 2 1, sequence := field b 4 4, length := field b 8 2, status := field b 10 2
    flags := field b 12 1, reserved := field b 13 3, body := (b.take (b.length - 48)).drop 16, tag := b.drop (max 16 (b.length - 48)) }

/-- GO is written to a mailbox: ignored while BUSY or RSP_READY is 1. -/
def mbxGo (p : Nat) (s : State) : State :=
  let x := s.mailbox p
  if bit x.ctrl 1 ∨ bit x.ctrl 2 ∨ !s.serves (.mbx p) then s else
  let b := fit x.reqLen x.req
  crookReceive hooks (.mbx p) 0 (field b 3 1) (mbxMsg b) (s.putMailbox p { x with ctrl := putBit (putBit x.ctrl 1 true) 3 false })

/-- A Crook message of an opcode arrives over a transport: through a mailbox it is put into the request buffer and submitted. -/
def crookEvent (tr : Transport) (src op : Nat) (m : CrookMsg) (s : State) : State :=
  match tr with
  | .mbx p =>
    let x := s.mailbox p
    let b := msgBytes op m ++ m.tag
    if !s.pfExists p ∨ bit x.ctrl 1 ∨ bit x.ctrl 2 ∨ 2048 ≤ b.length then s
    else mbxGo p (s.putMailbox p { x with req := fit 4096 b, reqLen := b.length })
  | _ => crookReceive hooks tr src op m s

/-- A session writes a number to an object. -/
def writeObject (n k v : Nat) (s : State) : State := actionWrite hooks n k (leBytes (widthOf k / 8) v) s

/-- CRF_MRAM_WEAR (R74): the pass count reached its warning, or its limit, at which persistence ends. -/
def State.mramWear (s : State) : State :=
  let tell := fun (n : Nat) (s : State) => State.raise { s with crf := { s.crf with wearReported := n } } F.CRF_MRAM_WEAR (elemSub 11)
  if s.rd K.CRF_MRAM_PASS_LIMIT ≤ s.mram.passes ∧ s.crf.wearReported < 2 then tell 2 (s.wr K.CRF_PERSIST_ENABLE 0)
  else if 800000000 ≤ s.mram.passes ∧ s.crf.wearReported = 0 then tell 1 s
  else s

/-! ### Functions (R361) -/

/-- The function exists. -/
def State.hasFunc (s : State) : Func → Bool
  | .pf p => s.pfExists p
  | .vf p i => (s.poolVf p i).isSome

/-- Do something for the pool VF of VF i of a port's PF, where it is enabled. -/
def onPoolVf (p i : Nat) (f : Nat → State → State) (s : State) : State :=
  match s.poolVf p i with
  | some v => f v s
  | none => s

/-- A write to PF_VF_EVENT, by its offset in BAR0 (R366, R367). -/
def State.eventWrite (s : State) (p off size value : Nat) : State :=
  if off < 0x100 ∨ 0x120 ≤ off then s else s.barWrite mbxGo (.pf p) off size value

/-! ### The interrupt controller (R431, R434) -/

/-- A read of CIC_CLAIM by a target, and the value it returns. -/
def State.claimRead (s : State) (t : Nat) : State :=
  if 20 ≤ t then s else
  let r := s.cicClaim t
  r.2.emit (.cicValue t r.1)

/-- A write of CIC_GLOBAL. -/
def State.cicGlobalWrite (s : State) (v : Nat) : State := { s with cic := { s.cic with disable := bit v 0 } }

/-! ### Links -/

/-- The port's role is Twill. -/
def State.isTwill (s : State) (p : Nat) : Bool := decide (p < 64) && s.role p == 3

/-- LINK_DOWN: a surprise link-down, or a fatal error, which takes the link down only through DPC (R160, R162). -/
def State.linkDownBy (s : State) (p : Nat) (fatal : Bool) : State :=
  if fatal && !(s.role p == 2 && s.rd (K.PRT_DPC_ENABLE p) == 1) then s else s.linkDownEvent p

/-! ### Instruction words that are not listed (R334, R335) -/

/-- The encoding of a word is listed, but for the numbers of control registers. -/
def listedWord (w : Nat) : Bool := (Sys2Proof.engineWord (.thread 0) w).isSome

/-- ILLEGAL_ENCODING: a unit issues a word that is not listed. -/
def State.illegal (s : State) (x : ExecUnit) (w : Nat) : State :=
  let u := unitNum x
  let op := bits w 31 26
  let csr := op = 0x3C ∨ op = 0x3D
  if listedWord w && !(decide csr && (s.csr u (s.thread u) (bits w 11 0)).isNone) then s
  else s.instr x (fun u _ s => s.exception u X.ILLEGAL)

/-! ### Faults that an event names (R36, R37) -/

/-- Close the sessions that a core serves. -/
def State.closeSessionsOf (s : State) (c : Nat) : State :=
  forEach (s.openSessions.filter (fun n => Config.sessionCore n == c)) State.closeSession s

/-- CRF_CORE: a core's checker fails: the core is fenced, its sessions close, and the other cores take its work. -/
def State.coreFault (s : State) (c : Nat) : State :=
  if 4 ≤ c ∨ bit s.boot.fencedCores c ∨ !s.boot.croftServes then s
  else ((s.fenceCore c).closeSessionsOf c).raise F.CRF_CORE (elem 10 c)

/-- CRF_MGMT_PORT: a management Ethernet port fails: its sessions close. -/
def State.mgmtFault (s : State) (p : Nat) : State :=
  if 2 ≤ p then s else (s.mgmtPortFail p).raise F.CRF_MGMT_PORT (elem 13 p)

/-- HRD_REFCLK_LOSS: SYS_REFCLK is lost while it drives the core PLLs. -/
def State.refclkFault (s : State) : State :=
  if !s.boot.refclkEn ∨ s.boot.step = .reset ∨ s.boot.step = .strapped then s else s.raise F.HRD_REFCLK_LOSS elemDevice

/-- HRD_SUPPLY: VR_PG of an enabled rail falls. -/
def State.supplyFault (s : State) (rail : Nat) : State :=
  if 3 ≤ rail ∨ !bit s.boot.vrEn rail ∨ !bit s.boot.vrPg rail then s
  else State.raise { s with boot := { s.boot with vrPg := putBit s.boot.vrPg rail false } } F.HRD_SUPPLY elemDevice

end Sys2Proof.Machine
end

