-- ==== Sys2Proof/Machine/ExecBoot.lean ====
section
/-! DEFINITION. The meanings of the commands: Power-up, resets, self-test and firmware update. -/

namespace Sys2Proof.Machine

/-- POWER_ON (R91): VDD_AON rises and the Bothy starts on the always-on rails with every slot gate clamped. -/
def execPowerOn (s : State) : Host.Outcome State Fault Refusal := .next (settle (s.powerOn))

/-- BROWN_OUT (R505): VDD_AON falls below its brown-out threshold and the device acts as if PWRON_RST_N had been asserted. -/
def execBrownOut (s : State) : Host.Outcome State Fault Refusal := .next (settle (s.brownOut))

/-- COLD_RESET (R93): An assertion of PWRON_RST_N clamps the slot gates, drops the switched rails in order and drives REFCLK_EN low. -/
def execColdReset (s : State) : Host.Outcome State Fault Refusal := .next (settle (s.coldReset))

/-- COLD_BOOT (R99): PWRON_RST_N is released, the straps are sampled and REFCLK_EN rises. -/
def execColdBoot (board : Board) (testEn : Bool) (s : State) : Host.Outcome State Fault Refusal :=
  .next (settle (s.coldBoot board.straps.toNat testEn board.spread))

/-- REFCLK_VALID (R99): The Bothy measures SYS_REFCLK and the used lane references valid and enables the next rail. -/
def execRefclkValid (s : State) : Host.Outcome State Fault Refusal := .next (settle (s.refclkValid))

/-- VR_PG_RISE (R91): A switched rail reports power-good and the Bothy enables the next rail in sequence. -/
def execVrPgRise (rail : Nat) (s : State) : Host.Outcome State Fault Refusal := .next (settle (s.railUp rail))

/-- CORE_PLL_LOCK (R99): The core PLLs lock, the DTC starts at 0, ticks begin and the Croft boot ROM runs. -/
def execCorePllLock (fails : List TestFail) (s : State) : Host.Outcome State Fault Refusal := .next (settle (s.pllLock fails))

/-- SELFTEST_PHASE_B (R103): When phase A has ended and VR_PG[1] is high, the phase B tests start together. -/
def execSelftestPhaseB (fails : List TestFail) (s : State) : Host.Outcome State Fault Refusal := .next (settle (s.phaseB fails))

/-- SELFTEST_PHASE_C (R103): After phase B, configuration replay and the fence policy check run. -/
def execSelftestPhaseC (s : State) : Host.Outcome State Fault Refusal := .next (settle (s.phaseC hooks))

/-- SYS_READY (R100): At the first tick boundary after the replay commit point SYS_READY rises and committed ports begin training. -/
def execSysReady (s : State) : Host.Outcome State Fault Refusal := .next (settle (s.ready))

/-- UART_RECOVERY_BLOCK (R105): A 1,024-byte image block arrives over UART and is acknowledged or refused by its CRC. -/
def execUartRecoveryBlock (block : List Byte) (crc : Nat) (s : State) : Host.Outcome State Fault Refusal := .next (settle (s.uartBlock block crc))

/-- WARM_RESET (R102): A recognised warm reset idles lanes, places Commons in self-refresh, restarts Croft and runs the warm boot. -/
def execWarmReset (s : State) : Host.Outcome State Fault Refusal := .next (settle (s.warmPin))

/-- HRD_WARM_RESET (R108): A write of 0x7A3C requests a warm reset at the next tick. -/
def execHrdWarmReset (session value : Nat) (s : State) : Host.Outcome State Fault Refusal :=
  .next (settle (writeObject session K.HRD_WARM_RESET value s))

/-- PINFOLD_UART_REPORT (R110): In Bothy-only Pinfold the Bothy sends its 16-byte report on UART_TX once per second. -/
def execPinfoldUartReport (s : State) : Host.Outcome State Fault Refusal := .next (settle (s.uartReport))

/-- FW_START (R113): CRF_FW_CTRL 1 erases the inactive firmware slot. -/
def execFwStart (session : Nat) (s : State) : Host.Outcome State Fault Refusal := .next (settle (writeObject session K.CRF_FW_CTRL 1 s))

/-- CRF_FW_CHUNK (R113): A write stores a 1,024-byte image chunk and advances CRF_FW_OFFSET. -/
def execCrfFwChunk (session : Nat) (chunk : List Byte) (s : State) : Host.Outcome State Fault Refusal :=
  .next (settle (actionWrite hooks session K.CRF_FW_CHUNK chunk s))

/-- FW_FINISH (R113): CRF_FW_CTRL 2 starts verification of the received image. -/
def execFwFinish (session : Nat) (s : State) : Host.Outcome State Fault Refusal := .next (settle (writeObject session K.CRF_FW_CTRL 2 s))

/-- FW_VERIFY_DONE (R113): Image verification ends and CRF_FW_STATUS becomes verified or failed. -/
def execFwVerifyDone (s : State) : Host.Outcome State Fault Refusal := .next (settle (s.fwVerified))

/-- FW_ACTIVATE (R113): CRF_FW_CTRL 3 marks the verified slot active for the next reset reaching Croft. -/
def execFwActivate (session : Nat) (s : State) : Host.Outcome State Fault Refusal := .next (settle (writeObject session K.CRF_FW_CTRL 3 s))

/-- FW_ABORT (R113): CRF_FW_CTRL 4 aborts the firmware update. -/
def execFwAbort (session : Nat) (s : State) : Host.Outcome State Fault Refusal := .next (settle (writeObject session K.CRF_FW_CTRL 4 s))

/-- PORT_PERST_N (R87): An upstream PORT_PERST_N sampled low applies a fundamental reset to the port and its functions. -/
def execPortPerstN (port : Nat) (s : State) : Host.Outcome State Fault Refusal := .next (settle (s.portPerst port))

/-- PERST_RELEASE (R87): A downstream PORT_PERST_N is driven high 100 ms after the port is enabled, slot power is good and the reference is stable. -/
def execPerstRelease (port : Nat) (s : State) : Host.Outcome State Fault Refusal :=
  .next (settle (when (decide (port < 64)) (·.perstDeassert port) s))

/-- HOT_RESET (R96): A PCIe Hot Reset resets the port, its links and trackers. -/
def execHotReset (port : Nat) (s : State) : Host.Outcome State Fault Refusal := .next (settle (s.hotReset port))

/-- PERST_DEASSERT (R101): A host releases the PORT_PERST_N of an upstream port, and the port leaves fundamental reset and begins Detect, or does so at SYS_READY. -/
def execPerstDeassert (port : Nat) (s : State) : Host.Outcome State Fault Refusal := .next (settle (s.portPerstEnd port))

/-- SUBSYSTEM_RESET_DONE (R449): A Drover or TFB subsystem reset ends after its self-test, and dispatch or queues resume. -/
def execSubsystemResetDone (subsystem : Nat) (fails : List TestFail) (s : State) : Host.Outcome State Fault Refusal :=
  .next (settle (s.subsystemDone subsystem fails))

end Sys2Proof.Machine
end

