-- ==== Sys2Proof/Machine/ExecCic.lean ====
section
/-! DEFINITION. The meanings of the commands: The interrupt controller and Tally. -/

namespace Sys2Proof.Machine

/-- EXTERNAL_LINE_CHANGE (R427): An external line's level passes the glitch filter and its CIC source changes state. -/
def execExternalLineChange (line : Nat) (level : Bool) (held : Nat) (s : State) : Host.Outcome State Fault Refusal :=
  .next (settle (s.externalLine line level held))

/-- CIC_CLAIM (R431): A read of CIC_CLAIM claims the highest-priority eligible source. -/
def execCicClaim (target : Nat) (s : State) : Host.Outcome State Fault Refusal := .next (settle (s.claimRead target))

/-- CIC_COMPLETE (R432): A write completes a claimed source, which becomes idle or pending again. -/
def execCicComplete (target : Nat) (value : BitVec 32) (s : State) : Host.Outcome State Fault Refusal :=
  .next (settle (when (decide (target < 20)) (·.cicComplete target value.toNat) s))

/-- CIC_GLOBAL (R434): A write of DISABLE holds or resumes interrupt delivery. -/
def execCicGlobal (value : BitVec 32) (s : State) : Host.Outcome State Fault Refusal := .next (settle (s.cicGlobalWrite value.toNat))

/-- TALLY_OVERFLOW (R441): A counter passing 2^48 − 1 reloads, sets its flag and may assert its bank's source. -/
def execTallyOverflow (counter events : Nat) (s : State) : Host.Outcome State Fault Refusal :=
  .next (settle (when (decide (counter < 1024)) (·.tallyAdd counter events) s))

/-- CRF_TALLY_OVF_CLEAR (R441): A write clears a counter's overflow flag. -/
def execCrfTallyOvfClear (session counter : Nat) (s : State) : Host.Outcome State Fault Refusal :=
  .next (settle (writeObject session K.CRF_TALLY_OVF_CLEAR counter s))

end Sys2Proof.Machine
end

