-- ==== Sys2Proof/Machine/ExecClock.lean ====
section
/-! DEFINITION. The meanings of the commands: Time and clocks. -/

namespace Sys2Proof.Machine

/-- SYNC (R467): A PTP Sync updates the servo rate and offset. -/
def execSync (m : PtpMsg) (s : State) : Host.Outcome State Fault Refusal := .next (settle (s.ptpSync m))

/-- DELAY_RESP (R466): A PTP Delay_Resp completes an end-to-end delay measurement. -/
def execDelayResp (m : PtpMsg) (s : State) : Host.Outcome State Fault Refusal := .next (settle (s.ptpDelay m))

/-- ANNOUNCE (R466): A PTP Announce feeds the best master clock algorithm. -/
def execAnnounce (m : PtpMsg) (s : State) : Host.Outcome State Fault Refusal := .next (settle (s.ptpAnnounce m))

/-- PTP_HOLDOVER (R467): Three Sync intervals without a valid Sync enter holdover. -/
def execPtpHoldover (s : State) : Host.Outcome State Fault Refusal := .next (settle (s.ptpHoldover))

/-- PTP_UNLOCK (R467): Holdover longer than HRD_PTP_HOLDOVER unlocks the servo. -/
def execPtpUnlock (s : State) : Host.Outcome State Fault Refusal := .next (settle (s.ptpUnlock))

/-- TS_PPS_IN (R467): A TS_PPS_IN rising edge sets phase or is rejected outside its window. -/
def execTsPpsIn (error : Int) (s : State) : Host.Outcome State Fault Refusal := .next (settle (s.ppsIn error))

/-- TS_PPS_OUT (R467): At each whole second of disciplined time TS_PPS_OUT rises for 100 ms. -/
def execTsPpsOut (s : State) : Host.Outcome State Fault Refusal := .next (settle (s.ppsOut))

/-- FOLLOW_UP (R466): A two-step master's Follow_Up message delivers the precise origin time of a Sync to the servo. -/
def execFollowUp (m : PtpMsg) (s : State) : Host.Outcome State Fault Refusal := .next (settle (s.ptpFollowUp m))

end Sys2Proof.Machine
end

