-- ==== Sys2Proof/Machine/ExecCommons.lean ====
section
/-! DEFINITION. The meanings of the commands: Commons. -/

namespace Sys2Proof.Machine

/-- SCRUB_BURST (R414): With its 2 GU grant a scrub burst reads 1 GiB of lines. -/
def execScrubBurst (findings : List (Nat × EccKind)) (s : State) : Host.Outcome State Fault Refusal := .next (settle (s.scrubBurst findings))

/-- SCRUB_BURST_END (R414): A scrub burst ends and its grant is released. -/
def execScrubBurstEnd (s : State) : Host.Outcome State Fault Refusal := .next (settle (s.scrubEnd))

/-- CMN_SCRUB_BEHIND (R414): A scrub pass that cannot end within its period is counted once per period. -/
def execCmnScrubBehind (s : State) : Host.Outcome State Fault Refusal := .next (settle (s.scrubBehind))

/-- CMN_TEMP (R414): A 1 ms die temperature read adjusts refresh and reports out-of-range dies. -/
def execCmnTemp (channel code : Nat) (outOfRange : Bool) (s : State) : Host.Outcome State Fault Refusal :=
  .next (settle (s.cmnTemp channel code outOfRange))

/-- CMN_CHANNEL (R421): A channel loses training or shows parity errors and F3 causes a warm reset. -/
def execCmnChannel (channel : Nat) (s : State) : Host.Outcome State Fault Refusal := .next (settle (s.cmnChannel channel))

end Sys2Proof.Machine
end

