-- ==== Sys2Proof/Machine/ExecCrook.lean ====
section
/-! DEFINITION. The meanings of the commands: Crook messages, sessions and mailboxes. -/

namespace Sys2Proof.Machine

/-- HELLO (R52): Crook HELLO opens a session, picks its number, negotiates the version and derives the session key. -/
def execHello (tr : Transport) (src : Nat) (m : CrookMsg) (s : State) : Host.Outcome State Fault Refusal :=
  .next (settle (crookEvent tr src 0x01 m s))

/-- READ (R60): Crook READ returns the committed or staged value, or with the D flag the subentry descriptor. -/
def execRead (tr : Transport) (src : Nat) (m : CrookMsg) (s : State) : Host.Outcome State Fault Refusal := .next (settle (crookEvent tr src 0x02 m s))

/-- WRITE (R60): Crook WRITE applies a value at once, or with the T flag stages it in the open transaction. -/
def execWrite (tr : Transport) (src : Nat) (m : CrookMsg) (s : State) : Host.Outcome State Fault Refusal :=
  .next (settle (crookEvent tr src 0x03 m s))

/-- BLOCK_READ (R50): Crook BLOCK_READ returns consecutive subentries or part of a DOMAIN value, within the length cap. -/
def execBlockRead (tr : Transport) (src : Nat) (m : CrookMsg) (s : State) : Host.Outcome State Fault Refusal :=
  .next (settle (crookEvent tr src 0x04 m s))

/-- BLOCK_WRITE (R50): Crook BLOCK_WRITE writes consecutive subentries whole, or one chunk of a DOMAIN value. -/
def execBlockWrite (tr : Transport) (src : Nat) (m : CrookMsg) (s : State) : Host.Outcome State Fault Refusal :=
  .next (settle (crookEvent tr src 0x05 m s))

/-- BEGIN (R61): Crook BEGIN opens a transaction in the session and numbers it. -/
def execBeginTxn (tr : Transport) (src : Nat) (m : CrookMsg) (s : State) : Host.Outcome State Fault Refusal :=
  .next (settle (crookEvent tr src 0x06 m s))

/-- COMMIT (R64): Crook COMMIT validates the staged writes and prepares the new state, or with the V flag only validates. -/
def execCommit (tr : Transport) (src : Nat) (m : CrookMsg) (s : State) : Host.Outcome State Fault Refusal :=
  .next (settle (crookEvent tr src 0x07 m s))

/-- COMMIT_APPLY (R64): At the first tick boundary after validation, preparation and waits, versions and rules are rechecked and every write applies at the commit point. -/
def execCommitApply (s : State) : Host.Outcome State Fault Refusal := .next (settle (when s.ticking (commitApplyAll hooks) s))

/-- COMMIT_TIMEOUT (R65): A commit not ready within CRF_COMMIT_TIMEOUT discards its prepared state and answers TIMEOUT. -/
def execCommitTimeout (session : Nat) (s : State) : Host.Outcome State Fault Refusal :=
  .next (settle (when (decide (1 ≤ session ∧ session ≤ 8)) (Sys2Proof.Machine.commitTimeout hooks session) s))

/-- ROLLBACK (R67): Crook ROLLBACK discards the open transaction or cancels a waiting commit, and with the C flag closes the session. -/
def execRollback (tr : Transport) (src : Nat) (m : CrookMsg) (s : State) : Host.Outcome State Fault Refusal :=
  .next (settle (crookEvent tr src 0x08 m s))

/-- SUBSCRIBE (R70): Crook SUBSCRIBE registers, updates or cancels interest in one subentry or a whole index. -/
def execSubscribe (tr : Transport) (src : Nat) (m : CrookMsg) (s : State) : Host.Outcome State Fault Refusal :=
  .next (settle (crookEvent tr src 0x09 m s))

/-- NOTIFY (R70): At a tick boundary a changed subscribed subentry whose minimum interval has passed is sent to the client. -/
def execNotify (s : State) : Host.Outcome State Fault Refusal := .next (settle (when s.ticking (notifyAll hooks) s))

/-- CRF_AUTH (R54): The 64th discarded message naming one session within 1 s closes the session and records an F1 fault. -/
def execCrfAuth (session : Nat) (s : State) : Host.Outcome State Fault Refusal := .next (settle (when s.boot.croftServes (·.badMessage session) s))

/-- SESSION_IDLE_TIMEOUT (R56): A session that has received no message for CRF_SESSION_IDLE is closed. -/
def execSessionIdleTimeout (session : Nat) (s : State) : Host.Outcome State Fault Refusal := .next (settle (sessionIdle session s))

/-- TXN_IDLE_TIMEOUT (R68): A transaction idle for CRF_TXN_IDLE is rolled back and closed. -/
def execTxnIdleTimeout (session : Nat) (s : State) : Host.Outcome State Fault Refusal :=
  .next (settle (when (decide (1 ≤ session ∧ session ≤ 8)) (txnIdle session) s))

/-- PF_MBX_GO (R46): A write of 1 to GO submits the PF mailbox request buffer to Croft. -/
def execPfMbxGo (port : Nat) (s : State) : Host.Outcome State Fault Refusal := .next (settle (when (s.pfExists port) (mbxGo port) s))

/-- PF_MBX_RSP_RELEASE (R46): A write of 1 to RSP_READY releases the mailbox response buffer. -/
def execPfMbxRspRelease (port : Nat) (s : State) : Host.Outcome State Fault Refusal := .next (settle (when (s.pfExists port) (·.mbxRelease port 2) s))

/-- PF_MBX_NTF_RELEASE (R46): A write of 1 to NTF_READY releases the notification buffer for the next NOTIFY. -/
def execPfMbxNtfRelease (port : Nat) (s : State) : Host.Outcome State Fault Refusal := .next (settle (when (s.pfExists port) (·.mbxRelease port 7) s))

/-- CRF_KEY_SLOT (R77): A write sets or empties a key slot; writing the first key closes the unauthenticated session. -/
def execCrfKeySlot (session slot : Nat) (key : List Byte) (s : State) : Host.Outcome State Fault Refusal :=
  .next (settle (when (decide (1 ≤ slot ∧ slot ≤ 8)) (actionWrite hooks session (K.CRF_KEY_SLOT (slot - 1)) key) s))

/-- CRF_KEY_LOCK (R77): A write locks the permissions and key of the named slots until cold reset. -/
def execCrfKeyLock (session mask : Nat) (s : State) : Host.Outcome State Fault Refusal := .next (settle (writeObject session K.CRF_KEY_LOCK mask s))

/-- CRF_FACTORY_RESET (R76): A write of 0x5AFE records a request to clear the journal at the next cold reset or power cycle. -/
def execCrfFactoryReset (session value : Nat) (s : State) : Host.Outcome State Fault Refusal :=
  .next (settle (writeObject session K.CRF_FACTORY_RESET value s))

/-- CRF_TRANSPORT_ENABLE (R56): A write enables or disables Crook transports and closes sessions whose transport it clears. -/
def execCrfTransportEnable (session value : Nat) (s : State) : Host.Outcome State Fault Refusal :=
  .next (settle (writeObject session K.CRF_TRANSPORT_ENABLE value s))

/-- CRF_MRAM_WEAR (R74): When the pass count reaches its warning or limit value a fault is recorded and at the limit persistence is disabled. -/
def execCrfMramWear (s : State) : Host.Outcome State Fault Refusal := .next (settle (s.mramWear))

/-- GTP_VIOLATION_READ (R514): A write to the violation log read pointer consumes unread records if the value is valid. -/
def execGtpViolationRead (session value : Nat) (s : State) : Host.Outcome State Fault Refusal :=
  .next (settle (writeObject session K.GTP_VIOLATION_READ value s))

/-- LOM_SAMPLE_READ (R514): A write to the Loom sample ring read pointer consumes unread records if valid. -/
def execLomSampleRead (session value : Nat) (s : State) : Host.Outcome State Fault Refusal :=
  .next (settle (writeObject session K.LOM_SAMPLE_READ value s))

/-- PDK_QSAMPLE_READ (R514): A write to the queue sample ring read pointer consumes unread blocks if valid. -/
def execPdkQsampleRead (session value : Nat) (s : State) : Host.Outcome State Fault Refusal :=
  .next (settle (writeObject session K.PDK_QSAMPLE_READ value s))

/-- PDK_TALLY_READ (R514): A write to the tally ring read pointer consumes unread blocks if valid. -/
def execPdkTallyRead (session value : Nat) (s : State) : Host.Outcome State Fault Refusal :=
  .next (settle (writeObject session K.PDK_TALLY_READ value s))

/-- BAR_REGISTER_WRITE (R366): A write to a PF or VF BAR register without behaviour of its own stores its fields, ignoring reserved bits and bad sizes. -/
def execBarRegisterWrite (f : Func) (offset size value : Nat) (s : State) : Host.Outcome State Fault Refusal :=
  .next (settle (s.barWrite mbxGo f offset size value))

end Sys2Proof.Machine
end

