-- ==== Sys2Proof/Machine/ExecDrover.lean ====
section
/-! DEFINITION. The meanings of the commands: Drover. -/

namespace Sys2Proof.Machine

/-- DISPATCH (R327): A fetched descriptor is dispatched to an idle thread of an eligible cluster. -/
def execDispatch (s : State) : Host.Outcome State Fault Refusal := .next (settle (s.dispatch))

/-- LOAD_START (R353): DRV_LOAD_CTRL 1 starts loading a program image into a slot. -/
def execLoadStart (session : Nat) (s : State) : Host.Outcome State Fault Refusal := .next (settle (writeObject session K.DRV_LOAD_CTRL 1 s))

/-- DRV_LOAD_CHUNK (R353): A write stores the next 1,024-byte program image chunk. -/
def execDrvLoadChunk (session : Nat) (chunk : List Byte) (s : State) : Host.Outcome State Fault Refusal :=
  .next (settle (actionWrite hooks session K.DRV_LOAD_CHUNK chunk s))

/-- LOAD_FINISH (R353): DRV_LOAD_CTRL 2 starts verification of the loaded image. -/
def execLoadFinish (session : Nat) (s : State) : Host.Outcome State Fault Refusal := .next (settle (writeObject session K.DRV_LOAD_CTRL 2 s))

/-- LOAD_VERIFY_DONE (R353): Program verification ends and the slot is loaded or stays empty with DRV_LOAD recorded. -/
def execLoadVerifyDone (s : State) : Host.Outcome State Fault Refusal := .next (settle (s.loadVerified))

/-- LOAD_ABORT (R353): DRV_LOAD_CTRL 3 aborts the program load. -/
def execLoadAbort (session : Nat) (s : State) : Host.Outcome State Fault Refusal := .next (settle (writeObject session K.DRV_LOAD_CTRL 3 s))

/-- LOAD_UNLOAD (R353): DRV_LOAD_CTRL 4 stops the slot's threads with reason 4 and begins unloading. -/
def execLoadUnload (session : Nat) (s : State) : Host.Outcome State Fault Refusal := .next (settle (writeObject session K.DRV_LOAD_CTRL 4 s))

/-- UNLOAD_COMPLETE (R353): At the first tick boundary after the threads stopped, residency and segments are removed. -/
def execUnloadComplete (slot : Nat) (s : State) : Host.Outcome State Fault Refusal := .next (settle (s.unloadDone slot))

/-- ZERO_RELEASE (R356): A released extent that has drained is zeroed in fold 0 before it may be bound again. -/
def execZeroRelease (extent : Nat) (ok : Bool) (s : State) : Host.Outcome State Fault Refusal := .next (settle (s.zeroRelease extent ok))

/-- DRV_ZERO_RETRY (R356): A write retries zeroing of an extent whose zeroing failed. -/
def execDrvZeroRetry (session extent : Nat) (s : State) : Host.Outcome State Fault Refusal :=
  .next (settle (writeObject session K.DRV_ZERO_RETRY extent s))

/-- DRV_HOTPAGE_FOLD (R357): A write starts or stops HOT_PAGES sampling for a fold. -/
def execDrvHotpageFold (session fold : Nat) (s : State) : Host.Outcome State Fault Refusal :=
  .next (settle (writeObject session K.DRV_HOTPAGE_FOLD fold s))

/-- HOTPAGE_PUBLISH (R357): Each tally interval HOT_PAGES publishes the 256 most-sampled pages and clears its counts. -/
def execHotpagePublish (s : State) : Host.Outcome State Fault Refusal := .next (settle (s.hotpagePublish))

/-- DRV_ENGINE_FENCE (R360): A write of 1 fences the engine until the next reset running ST09. -/
def execDrvEngineFence (session engine value : Nat) (s : State) : Host.Outcome State Fault Refusal :=
  .next (settle (when (decide (engine < 128)) (writeObject session (K.DRV_ENGINE_FENCE engine) value) s))

/-- DRV_ENGINE (R359): An engine checker failure fences the engine and stops its threads. -/
def execDrvEngine (engine : Nat) (s : State) : Host.Outcome State Fault Refusal := .next (settle (s.engineFault engine))

/-- DRV_CLUSTER (R359): A cluster memory or mover failure isolates the cluster and stops its threads. -/
def execDrvCluster (cluster : Nat) (s : State) : Host.Outcome State Fault Refusal := .next (settle (s.clusterFault cluster))

/-- DRV_SRAM_ECC (R359): A slice or data-segment ECC error is corrected or raises MEMORY for readers. -/
def execDrvSramEcc (cluster : Nat) (err : EccKind) (place : SramPlace) (s : State) : Host.Outcome State Fault Refusal :=
  .next (settle (s.sramEcc cluster err place))

/-- COPY (R355): A COPY descriptor runs the COPY service program. -/
def execCopy (x : ExecUnit) (s : State) : Host.Outcome State Fault Refusal := .next (settle (s.serviceMove x 1 0))

/-- FILL (R355): A FILL descriptor runs the FILL service program. -/
def execFill (x : ExecUnit) (s : State) : Host.Outcome State Fault Refusal := .next (settle (s.serviceMove x 2 1))

/-- ZERO (R355): A ZERO descriptor runs the ZERO service program. -/
def execZero (x : ExecUnit) (s : State) : Host.Outcome State Fault Refusal := .next (settle (s.serviceMove x 3 2))

/-- CRC32C_DESCRIPTOR (R375): A CRC32C descriptor runs the CRC32C service program. -/
def execCrc32cDescriptor (x : ExecUnit) (s : State) : Host.Outcome State Fault Refusal := .next (settle (s.serviceCrc x))

/-- COMPARE (R375): A COMPARE descriptor finds the first differing byte offset. -/
def execCompare (x : ExecUnit) (s : State) : Host.Outcome State Fault Refusal := .next (settle (s.serviceCompare x))

/-- DRV_PROG_KEY_LOCK (R360): A write locks the named DRV_PROG_KEY slots until cold reset. -/
def execDrvProgKeyLock (session mask : Nat) (s : State) : Host.Outcome State Fault Refusal :=
  .next (settle (writeObject session K.DRV_PROG_KEY_LOCK mask s))

/-- CLUSTER_RETEST_DONE (R448): The ST09 cluster tests of a returning engine cluster end, and the cluster takes dispatch or stays fenced with HRD_SELFTEST recorded. -/
def execClusterRetestDone (cluster : Nat) (pass : Bool) (s : State) : Host.Outcome State Fault Refusal :=
  .next (settle (s.clusterRetest cluster pass))

end Sys2Proof.Machine
end

