-- ==== Sys2Proof/Machine/ExecEngine.lean ====
section
/-! DEFINITION. The meanings of the commands: Engine instructions. -/

namespace Sys2Proof.Machine

/-- ADD (R335): Engine ADD adds two registers modulo 2^64. -/
def execAdd (x : ExecUnit) (rd ra rb : Reg) (s : State) : Host.Outcome State Fault Refusal :=
  .next (settle (s.alu x rd (fun t => t.reg ra + t.reg rb)))

/-- SUB (R335): Engine SUB subtracts two registers. -/
def execSub (x : ExecUnit) (rd ra rb : Reg) (s : State) : Host.Outcome State Fault Refusal :=
  .next (settle (s.alu x rd (fun t => t.reg ra - t.reg rb)))

/-- AND (R335): Engine AND is a bitwise and. -/
def execAnd (x : ExecUnit) (rd ra rb : Reg) (s : State) : Host.Outcome State Fault Refusal :=
  .next (settle (s.alu x rd (fun t => t.reg ra &&& t.reg rb)))

/-- OR (R335): Engine OR is a bitwise or. -/
def execOr (x : ExecUnit) (rd ra rb : Reg) (s : State) : Host.Outcome State Fault Refusal :=
  .next (settle (s.alu x rd (fun t => t.reg ra ||| t.reg rb)))

/-- XOR (R335): Engine XOR is a bitwise exclusive or. -/
def execXor (x : ExecUnit) (rd ra rb : Reg) (s : State) : Host.Outcome State Fault Refusal :=
  .next (settle (s.alu x rd (fun t => t.reg ra ^^^ t.reg rb)))

/-- SLL (R335): Engine SLL shifts left. -/
def execSll (x : ExecUnit) (rd ra rb : Reg) (s : State) : Host.Outcome State Fault Refusal :=
  .next (settle (s.alu x rd (fun t => t.reg ra <<< (t.num rb % 64))))

/-- SRL (R335): Engine SRL shifts right logically. -/
def execSrl (x : ExecUnit) (rd ra rb : Reg) (s : State) : Host.Outcome State Fault Refusal :=
  .next (settle (s.alu x rd (fun t => t.reg ra >>> (t.num rb % 64))))

/-- SRA (R335): Engine SRA shifts right arithmetically. -/
def execSra (x : ExecUnit) (rd ra rb : Reg) (s : State) : Host.Outcome State Fault Refusal :=
  .next (settle (s.alu x rd (fun t => (t.reg ra).sshiftRight (t.num rb % 64))))

/-- SLT (R335): Engine SLT sets on signed less-than. -/
def execSlt (x : ExecUnit) (rd ra rb : Reg) (s : State) : Host.Outcome State Fault Refusal :=
  .next (settle (s.alu x rd (fun t => flag ((t.reg ra).slt (t.reg rb)))))

/-- SLTU (R335): Engine SLTU sets on unsigned less-than. -/
def execSltu (x : ExecUnit) (rd ra rb : Reg) (s : State) : Host.Outcome State Fault Refusal :=
  .next (settle (s.alu x rd (fun t => flag ((t.reg ra).ult (t.reg rb)))))

/-- MUL (R335): Engine MUL gives the low 64 bits of a product. -/
def execMul (x : ExecUnit) (rd ra rb : Reg) (s : State) : Host.Outcome State Fault Refusal :=
  .next (settle (s.alu x rd (fun t => t.reg ra * t.reg rb)))

/-- MULHU (R335): Engine MULHU gives the high 64 bits of an unsigned product. -/
def execMulhu (x : ExecUnit) (rd ra rb : Reg) (s : State) : Host.Outcome State Fault Refusal :=
  .next (settle (s.alu x rd (fun t => BitVec.ofNat 64 (t.num ra * t.num rb / 2 ^ 64))))

/-- DIVU (R335): Engine DIVU gives the unsigned quotient. -/
def execDivu (x : ExecUnit) (rd ra rb : Reg) (s : State) : Host.Outcome State Fault Refusal :=
  .next (settle (s.alu x rd (fun t => if t.reg rb = 0 then BitVec.allOnes 64 else t.reg ra / t.reg rb)))

/-- REMU (R335): Engine REMU gives the unsigned remainder. -/
def execRemu (x : ExecUnit) (rd ra rb : Reg) (s : State) : Host.Outcome State Fault Refusal :=
  .next (settle (s.alu x rd (fun t => if t.reg rb = 0 then t.reg ra else t.reg ra % t.reg rb)))

/-- MIN (R335): Engine MIN gives the signed minimum. -/
def execMin (x : ExecUnit) (rd ra rb : Reg) (s : State) : Host.Outcome State Fault Refusal :=
  .next (settle (s.alu x rd (fun t => if (t.reg ra).slt (t.reg rb) then t.reg ra else t.reg rb)))

/-- MAX (R335): Engine MAX gives the signed maximum. -/
def execMax (x : ExecUnit) (rd ra rb : Reg) (s : State) : Host.Outcome State Fault Refusal :=
  .next (settle (s.alu x rd (fun t => if (t.reg ra).slt (t.reg rb) then t.reg rb else t.reg ra)))

/-- MINU (R335): Engine MINU gives the unsigned minimum. -/
def execMinu (x : ExecUnit) (rd ra rb : Reg) (s : State) : Host.Outcome State Fault Refusal :=
  .next (settle (s.alu x rd (fun t => if (t.reg ra).ult (t.reg rb) then t.reg ra else t.reg rb)))

/-- MAXU (R335): Engine MAXU gives the unsigned maximum. -/
def execMaxu (x : ExecUnit) (rd ra rb : Reg) (s : State) : Host.Outcome State Fault Refusal :=
  .next (settle (s.alu x rd (fun t => if (t.reg ra).ult (t.reg rb) then t.reg rb else t.reg ra)))

/-- CLZ (R335): Engine CLZ counts leading zeros. -/
def execClz (x : ExecUnit) (rd ra rb : Reg) (s : State) : Host.Outcome State Fault Refusal :=
  .next (settle (s.aluIf x (rb == 0) rd (fun t => BitVec.ofNat 64 (clz64 (t.reg ra)))))

/-- POPC (R335): Engine POPC counts set bits. -/
def execPopc (x : ExecUnit) (rd ra rb : Reg) (s : State) : Host.Outcome State Fault Refusal :=
  .next (settle (s.aluIf x (rb == 0) rd (fun t => BitVec.ofNat 64 (popCount 64 (t.num ra)))))

/-- BSWAP (R335): Engine BSWAP reverses the bytes of a register. -/
def execBswap (x : ExecUnit) (rd ra rb : Reg) (s : State) : Host.Outcome State Fault Refusal :=
  .next (settle (s.aluIf x (rb == 0) rd (fun t => BitVec.ofNat 64 (beNat (leBytes 8 (t.num ra))))))

/-- CRC32C (R335): Engine CRC32C advances a CRC-32C register over 8 bytes. -/
def execCrc32c (x : ExecUnit) (rd ra rb : Reg) (s : State) : Host.Outcome State Fault Refusal :=
  .next (settle (s.alu x rd (fun t => BitVec.ofNat 64 ((leBytes 8 (t.num rb)).foldl (fun c b => crcByte 0x82F63B78 8 (c.xor b.toNat)) (t.num ra % 2 ^ 32)))))

/-- ADDI (R335): Engine ADDI adds a sign-extended immediate. -/
def execAddi (x : ExecUnit) (rd ra : Reg) (imm : BitVec 16) (s : State) : Host.Outcome State Fault Refusal :=
  .next (settle (s.alu x rd (fun t => t.reg ra + sext imm)))

/-- ANDI (R335): Engine ANDI ands a zero-extended immediate. -/
def execAndi (x : ExecUnit) (rd ra : Reg) (imm : BitVec 16) (s : State) : Host.Outcome State Fault Refusal :=
  .next (settle (s.alu x rd (fun t => t.reg ra &&& zext imm)))

/-- ORI (R335): Engine ORI ors a zero-extended immediate. -/
def execOri (x : ExecUnit) (rd ra : Reg) (imm : BitVec 16) (s : State) : Host.Outcome State Fault Refusal :=
  .next (settle (s.alu x rd (fun t => t.reg ra ||| zext imm)))

/-- XORI (R335): Engine XORI xors a zero-extended immediate. -/
def execXori (x : ExecUnit) (rd ra : Reg) (imm : BitVec 16) (s : State) : Host.Outcome State Fault Refusal :=
  .next (settle (s.alu x rd (fun t => t.reg ra ^^^ zext imm)))

/-- SLLI (R335): Engine SLLI shifts left by an immediate. -/
def execSlli (x : ExecUnit) (rd ra : Reg) (imm : BitVec 16) (s : State) : Host.Outcome State Fault Refusal :=
  .next (settle (s.aluIf x (decide (imm.toNat < 64)) rd (fun t => t.reg ra <<< imm.toNat)))

/-- SRLI (R335): Engine SRLI shifts right logically by an immediate. -/
def execSrli (x : ExecUnit) (rd ra : Reg) (imm : BitVec 16) (s : State) : Host.Outcome State Fault Refusal :=
  .next (settle (s.aluIf x (decide (imm.toNat < 64)) rd (fun t => t.reg ra >>> imm.toNat)))

/-- SRAI (R335): Engine SRAI shifts right arithmetically by an immediate. -/
def execSrai (x : ExecUnit) (rd ra : Reg) (imm : BitVec 16) (s : State) : Host.Outcome State Fault Refusal :=
  .next (settle (s.aluIf x (decide (imm.toNat < 64)) rd (fun t => (t.reg ra).sshiftRight imm.toNat)))

/-- SLTI (R335): Engine SLTI sets on signed less-than an immediate. -/
def execSlti (x : ExecUnit) (rd ra : Reg) (imm : BitVec 16) (s : State) : Host.Outcome State Fault Refusal :=
  .next (settle (s.alu x rd (fun t => flag ((t.reg ra).slt (sext imm)))))

/-- SLTIU (R335): Engine SLTIU sets on unsigned less-than an immediate. -/
def execSltiu (x : ExecUnit) (rd ra : Reg) (imm : BitVec 16) (s : State) : Host.Outcome State Fault Refusal :=
  .next (settle (s.alu x rd (fun t => flag ((t.reg ra).ult (sext imm)))))

/-- LUI (R335): Engine LUI loads a shifted immediate. -/
def execLui (x : ExecUnit) (rd _ra : Reg) (imm : BitVec 16) (s : State) : Host.Outcome State Fault Refusal :=
  .next (settle (s.alu x rd (fun _ => sext imm <<< 16)))

/-- SHLORI (R335): Engine SHLORI shifts left 16 and ors an immediate. -/
def execShlori (x : ExecUnit) (rd ra : Reg) (imm : BitVec 16) (s : State) : Host.Outcome State Fault Refusal :=
  .next (settle (s.alu x rd (fun t => (t.reg ra <<< 16) ||| zext imm)))

/-- LD8 (R331): Engine LD8 loads one byte from local memory, zero-extended. -/
def execLd8 (x : ExecUnit) (rt ra : Reg) (offset : BitVec 16) (s : State) : Host.Outcome State Fault Refusal :=
  .next (settle (s.load x rt ra offset 1 false))

/-- LD16 (R331): Engine LD16 loads two bytes, zero-extended. -/
def execLd16 (x : ExecUnit) (rt ra : Reg) (offset : BitVec 16) (s : State) : Host.Outcome State Fault Refusal :=
  .next (settle (s.load x rt ra offset 2 false))

/-- LD32 (R331): Engine LD32 loads four bytes, zero-extended. -/
def execLd32 (x : ExecUnit) (rt ra : Reg) (offset : BitVec 16) (s : State) : Host.Outcome State Fault Refusal :=
  .next (settle (s.load x rt ra offset 4 false))

/-- LD64 (R331): Engine LD64 loads eight bytes. -/
def execLd64 (x : ExecUnit) (rt ra : Reg) (offset : BitVec 16) (s : State) : Host.Outcome State Fault Refusal :=
  .next (settle (s.load x rt ra offset 8 false))

/-- LDS8 (R331): Engine LDS8 loads one byte, sign-extended. -/
def execLds8 (x : ExecUnit) (rt ra : Reg) (offset : BitVec 16) (s : State) : Host.Outcome State Fault Refusal :=
  .next (settle (s.load x rt ra offset 1 true))

/-- LDS16 (R331): Engine LDS16 loads two bytes, sign-extended. -/
def execLds16 (x : ExecUnit) (rt ra : Reg) (offset : BitVec 16) (s : State) : Host.Outcome State Fault Refusal :=
  .next (settle (s.load x rt ra offset 2 true))

/-- LDS32 (R331): Engine LDS32 loads four bytes, sign-extended. -/
def execLds32 (x : ExecUnit) (rt ra : Reg) (offset : BitVec 16) (s : State) : Host.Outcome State Fault Refusal :=
  .next (settle (s.load x rt ra offset 4 true))

/-- ST8 (R331): Engine ST8 stores one byte to local memory. -/
def execSt8 (x : ExecUnit) (rt ra : Reg) (offset : BitVec 16) (s : State) : Host.Outcome State Fault Refusal :=
  .next (settle (s.store x rt ra offset 1))

/-- ST16 (R331): Engine ST16 stores two bytes. -/
def execSt16 (x : ExecUnit) (rt ra : Reg) (offset : BitVec 16) (s : State) : Host.Outcome State Fault Refusal :=
  .next (settle (s.store x rt ra offset 2))

/-- ST32 (R331): Engine ST32 stores four bytes. -/
def execSt32 (x : ExecUnit) (rt ra : Reg) (offset : BitVec 16) (s : State) : Host.Outcome State Fault Refusal :=
  .next (settle (s.store x rt ra offset 4))

/-- ST64 (R331): Engine ST64 stores eight bytes. -/
def execSt64 (x : ExecUnit) (rt ra : Reg) (offset : BitVec 16) (s : State) : Host.Outcome State Fault Refusal :=
  .next (settle (s.store x rt ra offset 8))

/-- LATOM (R333): Engine LATOM performs an indivisible local atomic in cluster SRAM. -/
def execLatom (x : ExecUnit) (rd ra rb : Reg) (size8 : Bool) (func : BitVec 6) (s : State) : Host.Outcome State Fault Refusal :=
  .next (settle (s.latom x rd ra rb size8 func.toNat))

/-- BEQ (R335): Engine BEQ branches if equal. -/
def execBeq (x : ExecUnit) (ra rb : Reg) (offset : BitVec 16) (s : State) : Host.Outcome State Fault Refusal :=
  .next (settle (s.branch x (fun t => t.reg ra == t.reg rb) offset))

/-- BNE (R335): Engine BNE branches if not equal. -/
def execBne (x : ExecUnit) (ra rb : Reg) (offset : BitVec 16) (s : State) : Host.Outcome State Fault Refusal :=
  .next (settle (s.branch x (fun t => t.reg ra != t.reg rb) offset))

/-- BLT (R335): Engine BLT branches if signed less. -/
def execBlt (x : ExecUnit) (ra rb : Reg) (offset : BitVec 16) (s : State) : Host.Outcome State Fault Refusal :=
  .next (settle (s.branch x (fun t => (t.reg ra).slt (t.reg rb)) offset))

/-- BGE (R335): Engine BGE branches if signed greater or equal. -/
def execBge (x : ExecUnit) (ra rb : Reg) (offset : BitVec 16) (s : State) : Host.Outcome State Fault Refusal :=
  .next (settle (s.branch x (fun t => !(t.reg ra).slt (t.reg rb)) offset))

/-- BLTU (R335): Engine BLTU branches if unsigned less. -/
def execBltu (x : ExecUnit) (ra rb : Reg) (offset : BitVec 16) (s : State) : Host.Outcome State Fault Refusal :=
  .next (settle (s.branch x (fun t => (t.reg ra).ult (t.reg rb)) offset))

/-- BGEU (R335): Engine BGEU branches if unsigned greater or equal. -/
def execBgeu (x : ExecUnit) (ra rb : Reg) (offset : BitVec 16) (s : State) : Host.Outcome State Fault Refusal :=
  .next (settle (s.branch x (fun t => !(t.reg ra).ult (t.reg rb)) offset))

/-- JAL (R335): Engine JAL jumps relative and links. -/
def execJal (x : ExecUnit) (rd : Reg) (offset : BitVec 21) (s : State) : Host.Outcome State Fault Refusal := .next (settle (s.jal x rd offset))

/-- JALR (R335): Engine JALR jumps through a register and links. -/
def execJalr (x : ExecUnit) (rd ra : Reg) (imm : BitVec 16) (s : State) : Host.Outcome State Fault Refusal := .next (settle (s.jalr x rd ra imm))

/-- FRD (R339): Engine FRD issues a fabric read to local memory and returns a handle. -/
def execFrd (x : ExecUnit) (f : FFields) (s : State) : Host.Outcome State Fault Refusal := .next (settle (s.fabricOp x f false))

/-- FWR (R339): Engine FWR issues a fabric write from local memory and returns a handle. -/
def execFwr (x : ExecUnit) (f : FFields) (s : State) : Host.Outcome State Fault Refusal := .next (settle (s.fabricOp x f true))

/-- FATOM32 (R340): Engine FATOM32 performs a 4-byte fabric atomic and sleeps for the old value. -/
def execFatom32 (x : ExecUnit) (f : FFields) (s : State) : Host.Outcome State Fault Refusal := .next (settle (s.fatom x f 4))

/-- FATOM64 (R340): Engine FATOM64 performs an 8-byte fabric atomic and sleeps for the old value. -/
def execFatom64 (x : ExecUnit) (f : FFields) (s : State) : Host.Outcome State Fault Refusal := .next (settle (s.fatom x f 8))

/-- MOVE_COPY (R343): MOVE kind 0 hands a fabric-to-fabric copy to the cluster mover. -/
def execMoveCopy (x : ExecUnit) (f : FFields) (s : State) : Host.Outcome State Fault Refusal := .next (settle (s.move x f 0))

/-- MOVE_FILL (R343): MOVE kind 1 fills a range with an 8-byte pattern. -/
def execMoveFill (x : ExecUnit) (f : FFields) (s : State) : Host.Outcome State Fault Refusal := .next (settle (s.move x f 1))

/-- MOVE_ZERO (R343): MOVE kind 2 zeroes a range. -/
def execMoveZero (x : ExecUnit) (f : FFields) (s : State) : Host.Outcome State Fault Refusal := .next (settle (s.move x f 2))

/-- MOVE_LOCAL (R343): MOVE kind 3 copies up to 16 KiB from local memory to the fabric. -/
def execMoveLocal (x : ExecUnit) (f : FFields) (s : State) : Host.Outcome State Fault Refusal := .next (settle (s.move x f 3))

/-- MOVE_CHUNK_COMPLETE (R343): A mover chunk write completes and the next chunk is issued or the operation ends. -/
def execMoveChunkComplete (x : ExecUnit) (handle status : Nat) (s : State) : Host.Outcome State Fault Refusal :=
  .next (settle (s.chunkComplete x handle status))

/-- FABRIC_OP_COMPLETE (R342): A fabric operation's last message completes and its handle takes its final status. -/
def execFabricOpComplete (x : ExecUnit) (handle : Nat) (s : State) : Host.Outcome State Fault Refusal := .next (settle (s.opComplete x handle))

/-- FWAITH (R342): Engine FWAITH sleeps until a handle completes, returns its result and frees it. -/
def execFwaith (x : ExecUnit) (f : FFields) (s : State) : Host.Outcome State Fault Refusal := .next (settle (s.fwaith x f))

/-- FPOLL (R342): Engine FPOLL returns a handle's result or PENDING. -/
def execFpoll (x : ExecUnit) (f : FFields) (s : State) : Host.Outcome State Fault Refusal := .next (settle (s.fpoll x f))

/-- FFENCE (R341): Engine FFENCE sleeps until every earlier fabric operation of the thread has completed. -/
def execFfence (x : ExecUnit) (f : FFields) (s : State) : Host.Outcome State Fault Refusal := .next (settle (s.ffence x f))

/-- LEAVE (R344): Engine LEAVE asks the governor for mover steps, or with 0 releases them. -/
def execLeave (x : ExecUnit) (f : FFields) (s : State) : Host.Outcome State Fault Refusal := .next (settle (s.leave x f))

/-- LEAVE_GRANT (R344): The governor's answer gives the thread its mover steps and raises the cluster rate. -/
def execLeaveGrant (x : ExecUnit) (s : State) : Host.Outcome State Fault Refusal := .next (settle (s.leaveGrant x))

/-- CSRR (R337): Engine CSRR reads a control register. -/
def execCsrr (x : ExecUnit) (rd ra : Reg) (imm : BitVec 16) (s : State) : Host.Outcome State Fault Refusal := .next (settle (s.csrr x rd ra imm))

/-- CSRW (R337): Engine CSRW writes a control register or raises PRIV. -/
def execCsrw (x : ExecUnit) (rd ra : Reg) (imm : BitVec 16) (s : State) : Host.Outcome State Fault Refusal := .next (settle (s.csrw x rd ra imm))

/-- WAIT (R346): Engine WAIT sleeps the thread until an enabled wake condition holds. -/
def execWait (x : ExecUnit) (rd ra : Reg) (imm : BitVec 16) (s : State) : Host.Outcome State Fault Refusal := .next (settle (s.wait x rd ra imm))

/-- WAIT_WAKE (R346): A completion, tick boundary or tick count wakes a thread from WAIT. -/
def execWaitWake (x : ExecUnit) (s : State) : Host.Outcome State Fault Refusal := .next (settle (s.waitWake x))

/-- HALT (R329): SYS HALT waits for the thread's operations, frees handles and leave and reports status to TFB. -/
def execHalt (x : ExecUnit) (s : State) : Host.Outcome State Fault Refusal := .next (settle (s.halt x))

/-- TRAP (R348): SYS TRAP raises the TRAP exception. -/
def execTrap (x : ExecUnit) (s : State) : Host.Outcome State Fault Refusal := .next (settle (s.instr x (fun u _ s => s.exception u X.TRAP)))

/-- YIELD (R335): SYS YIELD makes the thread not ready for one cycle. -/
def execYield (x : ExecUnit) (s : State) : Host.Outcome State Fault Refusal := .next (settle (s.instr x (fun u t s => s.putThread u t.next)))

/-- ERET (R358): Privileged ERET returns from a Croft exception handler. -/
def execEret (x : ExecUnit) (s : State) : Host.Outcome State Fault Refusal := .next (settle (s.eret x))

/-- TIME_LIMIT (R349): A thread still running after its time limit takes the TIME_LIMIT exception. -/
def execTimeLimit (x : ExecUnit) (s : State) : Host.Outcome State Fault Refusal := .next (settle (s.timeLimitHit x))

/-- ILLEGAL_ENCODING (R335): An engine thread issues an instruction with an unlisted opcode, FUNC, CSR number or SYS code, and takes the ILLEGAL exception. -/
def execIllegalEncoding (x : ExecUnit) (w : BitVec 32) (s : State) : Host.Outcome State Fault Refusal := .next (settle (s.illegal x w.toNat))

end Sys2Proof.Machine
end

