-- ==== Sys2Proof/Machine/ExecFaults.lean ====
section
/-! DEFINITION. The meanings of the commands: The fault collector. -/

namespace Sys2Proof.Machine

/-- HRD_FAULT_ACK (R460): A write acknowledges fault records up to a sequence and may release ALERT_N. -/
def execHrdFaultAck (session seq : Nat) (s : State) : Host.Outcome State Fault Refusal := .next (settle (writeObject session K.HRD_FAULT_ACK seq s))

/-- ISOLATION_RETURN (R448): At the tick boundary after acknowledgement isolated elements return. -/
def execIsolationReturn (s : State) : Host.Outcome State Fault Refusal := .next (settle (s.isolationReturn))

/-- HRD_FAULT_INJECT (R462): A write raises one injected event of a source against an element. -/
def execHrdFaultInject (session value : Nat) (s : State) : Host.Outcome State Fault Refusal :=
  .next (settle (writeObject session K.HRD_FAULT_INJECT value s))

/-- BOTHY_WINDOW_ADVANCE (R453): Without tick boundaries the collector advances promotion sub-windows each microsecond. -/
def execBothyWindowAdvance (s : State) : Host.Outcome State Fault Refusal := .next (settle (s.bothyWindow))

/-- CRF_CORE (R36): A Croft core checker failure fences the core and moves its work. -/
def execCrfCore (core : Nat) (s : State) : Host.Outcome State Fault Refusal := .next (settle (s.coreFault core))

/-- CRF_MGMT_PORT (R36): A management Ethernet port fails and the other carries Crook and PTP. -/
def execCrfMgmtPort (port : Nat) (s : State) : Host.Outcome State Fault Refusal := .next (settle (s.mgmtFault port))

end Sys2Proof.Machine
end

