-- ==== Sys2Proof/Machine/ExecFold.lean ====
section
/-! DEFINITION. The meanings of the commands: Fold and Gatepost. -/

namespace Sys2Proof.Machine

/-- FLD_RELEASE_REQUEST (R238): A write requests release of a bound extent from its fold. -/
def execFldReleaseRequest (session extent : Nat) (s : State) : Host.Outcome State Fault Refusal :=
  .next (settle (writeObject session K.FLD_RELEASE_REQUEST extent s))

/-- RELEASE_CAPACITY_POST (R238): At the first tick boundary after the release request a Release Capacity record is posted. -/
def execReleaseCapacityPost (s : State) : Host.Outcome State Fault Refusal := .next (settle (when s.ticking (·.releasePost) s))

/-- INTERNAL_COMMIT (R239): An internal commit for a host release, FM API command or slot command applies after session commits in a tick. -/
def execInternalCommit (s : State) : Host.Outcome State Fault Refusal := .next (settle (s.internalCommit))

/-- FLD_EXTENT_ECC (R246): An uncorrectable extent or descriptor entry isolates its fold. -/
def execFldExtentEcc (fold extent : Nat) (s : State) : Host.Outcome State Fault Refusal := .next (settle (s.extentEcc fold extent))

/-- FLD_ROUTE_ECC (R246): An uncorrectable route entry is treated as invalid until restored. -/
def execFldRouteEcc (index sub : Nat) (s : State) : Host.Outcome State Fault Refusal := .next (settle (s.routeEcc index sub))

/-- FLD_TABLE_ECC (R246): A correctable Fold table error is corrected and counted. -/
def execFldTableEcc (index sub : Nat) (s : State) : Host.Outcome State Fault Refusal := .next (settle (s.tableEcc index sub))

/-- FLD_DIRTY_WRITE (R246): A failed dirty-bitmap write isolates the fold. -/
def execFldDirtyWrite (fold : Nat) (s : State) : Host.Outcome State Fault Refusal := .next (settle (s.dirtyFail fold))

/-- TABLE_RESTORE (R246): Croft restores a damaged table entry from its copy within 100 µs. -/
def execTableRestore (index sub : Nat) (s : State) : Host.Outcome State Fault Refusal := .next (settle (s.restoreEntry index sub))

/-- GTP_LOCK_REQUEST (R259): A write locks a Gatepost region entry until cold reset. -/
def execGtpLockRequest (session entry : Nat) (s : State) : Host.Outcome State Fault Refusal :=
  .next (settle (writeObject session K.GTP_LOCK_REQUEST entry s))

/-- GTP_TABLE_ECC (R264): A Gatepost entry error is corrected or the entry denies until restored. -/
def execGtpTableEcc (entry : Nat) (err : EccKind) (s : State) : Host.Outcome State Fault Refusal := .next (settle (s.gtpEcc entry err))

end Sys2Proof.Machine
end

