-- ==== Sys2Proof/Machine/ExecHost.lean ====
section
/-! DEFINITION. The meanings of the commands: Host requests and Bellwether's messages. -/

namespace Sys2Proof.Machine

/-- MEMRD_SNPDATA (R277): A host MemRd with SnpData is answered with a shared or exclusive copy after snooping. -/
def execMemrdSnpdata (port : Nat) (r : HostReq) (s : State) : Host.Outcome State Fault Refusal := .next (settle (s.hostRequest port r .rdShared))

/-- MEMRD_SNPINV (R277): A host MemRd with SnpInv gets ownership after every other copy is invalidated. -/
def execMemrdSnpinv (port : Nat) (r : HostReq) (s : State) : Host.Outcome State Fault Refusal := .next (settle (s.hostRequest port r .rdOwn))

/-- MEMINV (R277): A host MemInv gets ownership without data after invalidation. -/
def execMeminv (port : Nat) (r : HostReq) (s : State) : Host.Outcome State Fault Refusal := .next (settle (s.hostRequest port r .memInv))

/-- MEMRD_SNPCUR (R277): A host current-value read returns data without cacheable state. -/
def execMemrdSnpcur (port : Nat) (r : HostReq) (s : State) : Host.Outcome State Fault Refusal := .next (settle (s.hostRequest port r .rdCur))

/-- MEMWR (R277): A host MemWr is a writeback from the owner or a write-invalidate otherwise. -/
def execMemwr (port : Nat) (r : HostReq) (s : State) : Host.Outcome State Fault Refusal := .next (settle (s.hostRequest port r .write))

/-- MEMWRPTL (R277): A host partial write is a writeback or write-invalidate merged by byte enables. -/
def execMemwrptl (port : Nat) (r : HostReq) (s : State) : Host.Outcome State Fault Refusal := .next (settle (s.hostRequest port r .partialWrite))

/-- MEMCLNEVCT (R277): A host clean eviction clears the port's HVEC bit. -/
def execMemclnevct (port : Nat) (r : HostReq) (s : State) : Host.Outcome State Fault Refusal := .next (settle (s.hostRequest port r .evict))

/-- BIRSPI (R277): A host answers a back-invalidate with BIRspI and the transaction proceeds. -/
def execBirspi (port : Nat) (a : BiAnswer) (s : State) : Host.Outcome State Fault Refusal := .next (settle (s.hostAnswer port a 0))

/-- BIRSPS (R301): A host BIRspS answer is taken as given, or as BIRspI for a BISnpInv. -/
def execBirsps (port : Nat) (a : BiAnswer) (s : State) : Host.Outcome State Fault Refusal := .next (settle (s.hostAnswer port a 1))

/-- BIRSPE (R301): A host BIRspE answer is taken as BIRspI or BIRspS and recorded as a violation. -/
def execBirspe (port : Nat) (a : BiAnswer) (s : State) : Host.Outcome State Fault Refusal := .next (settle (s.hostAnswer port a 2))

/-- BICONFLICT (R278): A crossing host request and back-invalidate resolve through the BIConflict exchange. -/
def execBiconflict (port target dpa : Nat) (s : State) : Host.Outcome State Fault Refusal := .next (settle (s.biConflict port target dpa))

/-- BLW_BISNP_TIMEOUT (R278): A host fails to answer a back-invalidate in time and its port is isolated. -/
def execBlwBisnpTimeout (port target dpa : Nat) (s : State) : Host.Outcome State Fault Refusal := .next (settle (s.bisnpTimeout port target dpa))

/-- BISNP (R278): A downstream HDM-DB device's BISnp invalidates all copies, writes back dirty data and is answered BIRspI. -/
def execBisnp (port ld dpa : Nat) (s : State) : Host.Outcome State Fault Refusal := .next (settle (s.deviceBisnp port ld dpa))

/-- RD_SHARED (R283): A proxy's RD_SHARED is answered by the home with a shared, forwarder or exclusive grant. -/
def execRdShared (port : Nat) (m : TwillMsg) (s : State) : Host.Outcome State Fault Refusal :=
  .next (settle (when (s.isTwill port) (·.rowMessage port m 4 0x40) s))

/-- RD_OWN (R283): A proxy's RD_OWN is answered with ownership after invalidation or forwarding. -/
def execRdOwn (port : Nat) (m : TwillMsg) (s : State) : Host.Outcome State Fault Refusal :=
  .next (settle (when (s.isTwill port) (·.rowMessage port m 4 0x41) s))

/-- UPGRADE (R283): A sharer's UPGRADE is granted ownership after other sharers are invalidated. -/
def execUpgrade (port : Nat) (m : TwillMsg) (s : State) : Host.Outcome State Fault Refusal :=
  .next (settle (when (s.isTwill port) (·.rowMessage port m 4 0x42) s))

/-- RD_CUR (R283): A proxy's RD_CUR returns the current value without changing state. -/
def execRdCur (port : Nat) (m : TwillMsg) (s : State) : Host.Outcome State Fault Refusal :=
  .next (settle (when (s.isTwill port) (·.rowMessage port m 4 0x43) s))

/-- WR_INV (R290): A proxy's write-invalidate of full lines is performed at the home. -/
def execWrInv (port : Nat) (m : TwillMsg) (s : State) : Host.Outcome State Fault Refusal :=
  .next (settle (when (s.isTwill port) (·.rowMessage port m 4 0x44) s))

/-- WR_INV_PARTIAL (R290): A proxy's partial write-invalidate is merged at the home. -/
def execWrInvPartial (port : Nat) (m : TwillMsg) (s : State) : Host.Outcome State Fault Refusal :=
  .next (settle (when (s.isTwill port) (·.rowMessage port m 4 0x45) s))

/-- ATOMIC_COH (R290): A coherent atomic is executed at the home after invalidation. -/
def execAtomicCoh (port : Nat) (m : TwillMsg) (s : State) : Host.Outcome State Fault Refusal :=
  .next (settle (when (s.isTwill port) (·.rowMessage port m 4 0x46) s))

/-- EVICT (R283): A proxy's EVICT removes it from the line's sharers. -/
def execEvict (port : Nat) (m : TwillMsg) (s : State) : Host.Outcome State Fault Refusal :=
  .next (settle (when (s.isTwill port) (·.rowMessage port m 4 0x47) s))

/-- DATA_S (R284): A shared data grant reaches the proxy and fills the near cache. -/
def execDataS (port : Nat) (m : TwillMsg) (s : State) : Host.Outcome State Fault Refusal :=
  .next (settle (when (s.isTwill port) (·.rowMessage port m 3 0x40) s))

/-- DATA_F (R284): A forwarder data grant reaches the proxy. -/
def execDataF (port : Nat) (m : TwillMsg) (s : State) : Host.Outcome State Fault Refusal :=
  .next (settle (when (s.isTwill port) (·.rowMessage port m 3 0x41) s))

/-- DATA_E (R284): An exclusive data grant reaches the proxy, ending any held TC1 message. -/
def execDataE (port : Nat) (m : TwillMsg) (s : State) : Host.Outcome State Fault Refusal :=
  .next (settle (when (s.isTwill port) (·.rowMessage port m 3 0x42) s))

/-- DATA_M (R284): A modified data transfer from the previous owner reaches the requester. -/
def execDataM (port : Nat) (m : TwillMsg) (s : State) : Host.Outcome State Fault Refusal :=
  .next (settle (when (s.isTwill port) (·.rowMessage port m 3 0x43) s))

/-- DATA_CUR (R284): A current-value data answer completes the proxy's read or atomic. -/
def execDataCur (port : Nat) (m : TwillMsg) (s : State) : Host.Outcome State Fault Refusal :=
  .next (settle (when (s.isTwill port) (·.rowMessage port m 3 0x44) s))

/-- WB_M (R289): An owner's writeback is written to memory or attached to an open transaction. -/
def execWbM (port : Nat) (m : TwillMsg) (s : State) : Host.Outcome State Fault Refusal :=
  .next (settle (when (s.isTwill port) (·.rowMessage port m 3 0x48) s))

/-- SNP_DATA_I (R283): A snooped proxy returns data and invalidates. -/
def execSnpDataI (port : Nat) (m : TwillMsg) (s : State) : Host.Outcome State Fault Refusal :=
  .next (settle (when (s.isTwill port) (·.rowMessage port m 3 0x49) s))

/-- SNP_DATA_S (R283): A snooped proxy returns data and keeps a shared copy. -/
def execSnpDataS (port : Nat) (m : TwillMsg) (s : State) : Host.Outcome State Fault Refusal :=
  .next (settle (when (s.isTwill port) (·.rowMessage port m 3 0x4A) s))

/-- SNP_DATA_KEEP (R283): A snooped owner returns the current data and keeps its state. -/
def execSnpDataKeep (port : Nat) (m : TwillMsg) (s : State) : Host.Outcome State Fault Refusal :=
  .next (settle (when (s.isTwill port) (·.rowMessage port m 3 0x4B) s))

/-- BW_CMP (R283): A home's completion reaches the requester. -/
def execBwCmp (port : Nat) (m : TwillMsg) (s : State) : Host.Outcome State Fault Refusal :=
  .next (settle (when (s.isTwill port) (·.rowMessage port m 2 0x40) s))

/-- GNT_OWN (R283): An ownership grant without data completes an UPGRADE. -/
def execGntOwn (port : Nat) (m : TwillMsg) (s : State) : Host.Outcome State Fault Refusal :=
  .next (settle (when (s.isTwill port) (·.rowMessage port m 2 0x41) s))

/-- SNP_I (R283): A snooped proxy reports it holds no copy. -/
def execSnpI (port : Nat) (m : TwillMsg) (s : State) : Host.Outcome State Fault Refusal :=
  .next (settle (when (s.isTwill port) (·.rowMessage port m 2 0x42) s))

/-- SNP_S (R282): A snooped proxy reports a shared copy. -/
def execSnpS (port : Nat) (m : TwillMsg) (s : State) : Host.Outcome State Fault Refusal :=
  .next (settle (when (s.isTwill port) (·.rowMessage port m 2 0x43) s))

/-- SNP_I_WB (R289): A snooped proxy reports invalid with writeback in flight. -/
def execSnpIWb (port : Nat) (m : TwillMsg) (s : State) : Host.Outcome State Fault Refusal :=
  .next (settle (when (s.isTwill port) (·.rowMessage port m 2 0x44) s))

/-- FWD_DONE (R283): A forwarder reports it served the requester. -/
def execFwdDone (port : Nat) (m : TwillMsg) (s : State) : Host.Outcome State Fault Refusal :=
  .next (settle (when (s.isTwill port) (·.rowMessage port m 2 0x45) s))

/-- FWD_MISS_S (R283): A forwarder without data reports it keeps a shared copy and the home serves. -/
def execFwdMissS (port : Nat) (m : TwillMsg) (s : State) : Host.Outcome State Fault Refusal :=
  .next (settle (when (s.isTwill port) (·.rowMessage port m 2 0x46) s))

/-- FWD_MISS_I (R283): A forwarder without data reports invalid and the home serves. -/
def execFwdMissI (port : Nat) (m : TwillMsg) (s : State) : Host.Outcome State Fault Refusal :=
  .next (settle (when (s.isTwill port) (·.rowMessage port m 2 0x47) s))

/-- FWD_SHARED (R285): A proxy serves a forwarded shared read from its near cache or reports a miss. -/
def execFwdShared (port : Nat) (m : TwillMsg) (s : State) : Host.Outcome State Fault Refusal :=
  .next (settle (when (s.isTwill port) (·.rowMessage port m 1 0x01) s))

/-- FWD_OWN (R285): A proxy owner passes the line to the requester or reports invalid. -/
def execFwdOwn (port : Nat) (m : TwillMsg) (s : State) : Host.Outcome State Fault Refusal :=
  .next (settle (when (s.isTwill port) (·.rowMessage port m 1 0x02) s))

/-- SNP_INV (R285): A proxy invalidates its copy and local hosts and answers the home. -/
def execSnpInv (port : Nat) (m : TwillMsg) (s : State) : Host.Outcome State Fault Refusal :=
  .next (settle (when (s.isTwill port) (·.rowMessage port m 1 0x03) s))

/-- SNP_DATA (R285): A proxy owner returns data and keeps a shared copy. -/
def execSnpData (port : Nat) (m : TwillMsg) (s : State) : Host.Outcome State Fault Refusal :=
  .next (settle (when (s.isTwill port) (·.rowMessage port m 1 0x04) s))

/-- SNP_CUR (R285): A proxy owner returns the current value and keeps its state. -/
def execSnpCur (port : Nat) (m : TwillMsg) (s : State) : Host.Outcome State Fault Refusal :=
  .next (settle (when (s.isTwill port) (·.rowMessage port m 1 0x05) s))

/-- RETRY_SLOT_ALLOCATE (R273): A request waiting in a retry slot allocates when a transaction in its set closes. -/
def execRetrySlotAllocate (bank : Nat) (deviceTier : Bool) (s : State) : Host.Outcome State Fault Refusal :=
  .next (settle (s.retryNext bank deviceTier))

/-- CONFLICT_QUEUE_PROCESS (R288): After a line's transaction closes the next queued request is processed. -/
def execConflictQueueProcess (target dpa : Nat) (s : State) : Host.Outcome State Fault Refusal := .next (settle (s.conflictNext target dpa))

/-- WB_M_REISSUE (R292): A pinned M line's WB_M is issued again once a route to the home returns. -/
def execWbMReissue (target dpa : Nat) (s : State) : Host.Outcome State Fault Refusal := .next (settle (s.wbReissue target dpa))

/-- BLW_LOOKUP_LINE (R276): A write places the named line's filter entry in BLW_LOOKUP_RESULT within 1 µs. -/
def execBlwLookupLine (session target dpa : Nat) (s : State) : Host.Outcome State Fault Refusal :=
  .next (settle (actionWrite hooks session K.BLW_LOOKUP_LINE (leBytes 2 target ++ leBytes 8 dpa) s))

/-- BLW_FLUSH_FOLD (R297): A write starts a fold flush and requests its 4 GU grant. -/
def execBlwFlushFold (session fold : Nat) (s : State) : Host.Outcome State Fault Refusal :=
  .next (settle (writeObject session K.BLW_FLUSH_FOLD fold s))

/-- BULK_FLUSH_GRANT (R300): The governor grants a bulk flush its 4 GU and the sweep starts. -/
def execBulkFlushGrant (s : State) : Host.Outcome State Fault Refusal := .next (settle (s.flushGrant))

/-- FLUSH_END (R298): A bulk flush ends, its grant is released and its state reported. -/
def execFlushEnd (s : State) : Host.Outcome State Fault Refusal := .next (settle (s.flushEnd))

/-- BLW_SET_ECC (R299): A filter set error is corrected or the set is rebuilt from its duplicate tags. -/
def execBlwSetEcc (bank set : Nat) (err : EccKind) (bothCopies : Bool) (s : State) : Host.Outcome State Fault Refusal :=
  .next (settle (s.setEcc bank set err bothCopies))

/-- SET_REBUILD_TIMEOUT (R299): 200 µs after a rebuild started, lines without every answer are poisoned. -/
def execSetRebuildTimeout (bank set : Nat) (s : State) : Host.Outcome State Fault Refusal := .next (settle (s.rebuildTimeout bank set))

/-- BLW_NEAR_ECC (R287): A near-cache line error drops a clean line or writes back a dirty one poisoned. -/
def execBlwNearEcc (target dpa : Nat) (s : State) : Host.Outcome State Fault Refusal := .next (settle (s.nearEcc target dpa))

end Sys2Proof.Machine
end

