-- ==== Sys2Proof/Machine/ExecLanes.lean ====
section
/-! DEFINITION. The meanings of the commands: Reference clocks, quads and lanes. -/

namespace Sys2Proof.Machine

/-- SEL_REFCLK_LOSS (R119): Two out-of-range detector windows declare a lane reference lost and its 16 lanes go idle. -/
def execSelRefclkLoss (group count1 count2 : Nat) (s : State) : Host.Outcome State Fault Refusal :=
  .next (settle (when (decide (group < 16)) (·.refLoss group count1 count2) s))

/-- SEL_REFCLK_RESTORE (R119): 100 consecutive in-range windows declare the reference restored and the PLLs relock. -/
def execSelRefclkRestore (group : Nat) (ref : RefMeasure) (s : State) : Host.Outcome State Fault Refusal :=
  .next (settle (when (decide (group < 16)) (·.refRestore group ref.count ref.spread) s))

/-- SEL_PLL_UNLOCK (R120): A quad PLL loses lock, its lanes idle and its port's link goes down. -/
def execSelPllUnlock (quad : Nat) (s : State) : Host.Outcome State Fault Refusal := .next (settle (when (decide (quad < 64)) (·.pllUnlock quad) s))

/-- PLL_RELOCK (R120): The 1 ms relock attempt ends and the port retrains or the quad is fenced. -/
def execPllRelock (quad : Nat) (locked : Bool) (s : State) : Host.Outcome State Fault Refusal :=
  .next (settle (when (decide (quad < 64)) (·.pllRelock quad locked) s))

/-- SEL_REEQ (R124): A write of 1 requests re-equalisation of the quad's port, asking the governor for a grant. -/
def execSelReeq (session quad value : Nat) (s : State) : Host.Outcome State Fault Refusal :=
  .next (settle (when (decide (quad < 64)) (writeObject session (K.SEL_REEQ quad) value) s))

/-- PARTNER_EQUALIZATION (R124): A PCIe or CXL partner enters Recovery.Equalization and the device asks for a re-equalisation grant. -/
def execPartnerEqualization (partner : PartnerEq) (s : State) : Host.Outcome State Fault Refusal :=
  .next (settle (when (decide (partner.port < 64)) (·.reeqAsk partner.port false partner.requests) s))

/-- REEQ_GRANT (R124): The governor grants the re-equalisation and the run proceeds. -/
def execReeqGrant (port : Nat) (s : State) : Host.Outcome State Fault Refusal := .next (settle (when (decide (port < 64)) (·.reeqGrant port) s))

/-- REEQ_GRANT_TIMEOUT (R124): No grant within 2 ticks ends a partner-started run at the current coefficients, counted in SEL_EQ_DEFERRED. -/
def execReeqGrantTimeout (port : Nat) (s : State) : Host.Outcome State Fault Refusal :=
  .next (settle (when (decide (port < 64)) (fun s => (s.reeqTimeout port).retrainAfterEq port) s))

/-- REEQ_END (R124): A re-equalisation run ends and its grant is released. -/
def execReeqEnd (port : Nat) (s : State) : Host.Outcome State Fault Refusal :=
  .next (settle (when (decide (port < 64)) (fun s => (s.reeqEnd port).retrainAfterEq port) s))

/-- ALIGNMENT_MARKER (R128): An alignment marker is received and used for deskew, lane mapping and polarity. -/
def execAlignmentMarker (port lane : Nat) (am : Option (BitVec 128)) (skew : Nat) (s : State) : Host.Outcome State Fault Refusal :=
  .next (settle (when (decide (port < 64)) (fun s => (s.alignmentMarker port lane (am.map BitVec.toNat) skew).trainAligned port) s))

/-- SKIP_BLOCK (R129): At a SKIP block the receiver deletes or inserts units to bring the elastic fill nearest 64 UI. -/
def execSkipBlock (port fill : Nat) (s : State) : Host.Outcome State Fault Refusal :=
  .next (settle (when (decide (port < 64)) (·.skipBlock port fill) s))

/-- SEL_ELASTIC_ERRORS (R130): An elastic buffer overflow or underflow reports a framing loss. -/
def execSelElasticErrors (quad : Nat) (s : State) : Host.Outcome State Fault Refusal :=
  .next (settle (when (decide (quad < 64)) (·.elasticError quad) s))

/-- LOS_ASSERT (R131): A receiver asserts LOS after 256 ns below 60 mVppd. -/
def execLosAssert (lane : Nat) (s : State) : Host.Outcome State Fault Refusal := .next (settle (when (decide (lane < 256)) (·.losAssert lane) s))

/-- LOS_RELEASE (R131): A receiver releases LOS after 1 µs above 100 mVppd. -/
def execLosRelease (lane : Nat) (s : State) : Host.Outcome State Fault Refusal := .next (settle (when (decide (lane < 256)) (·.losRelease lane) s))

/-- SEL_INJECT (R136): A write inverts one bit of each selected lane's generator output. -/
def execSelInject (session quad mask : Nat) (s : State) : Host.Outcome State Fault Refusal :=
  .next (settle (when (decide (quad < 64)) (writeObject session (K.SEL_INJECT quad) mask) s))

/-- SEL_PRBS_CLEAR (R135): A write clears the PRBS counters of the selected lanes. -/
def execSelPrbsClear (session quad mask : Nat) (s : State) : Host.Outcome State Fault Refusal :=
  .next (settle (when (decide (quad < 64)) (writeObject session (K.SEL_PRBS_CLEAR quad) mask) s))

/-- MARGIN_RUN_START (R139): SEL_MARGIN_CTRL with START set begins a secondary-sampler margin run on one lane. -/
def execMarginRunStart (session quad : Nat) (ctrl : BitVec 32) (s : State) : Host.Outcome State Fault Refusal :=
  .next (settle (when (decide (quad < 64)) (writeObject session (K.SEL_MARGIN_CTRL quad) ctrl.toNat) s))

/-- MARGIN_RUN_DONE (R139): A margin run ends after 2^DWELL bits with its error count. -/
def execMarginRunDone (quad errors : Nat) (s : State) : Host.Outcome State Fault Refusal :=
  .next (settle (when (decide (quad < 64)) (·.marginDone quad errors) s))

/-- PARTNER_MARGIN_COMMAND (R140): A partner Lane Margining command is served and aborts any dictionary run on the lane. -/
def execPartnerMarginCommand (lane : Nat) (command : MarginCommand) (s : State) : Host.Outcome State Fault Refusal :=
  .next (settle (when (decide (lane < 256)) (·.partnerMargin lane command.kind command.payload) s))

/-- CHECKER_LOCK (R135): The PRBS checker locks after 128 consecutive error-free bits and its counters start counting. -/
def execCheckerLock (lane : Nat) (rx : List Bool) (s : State) : Host.Outcome State Fault Refusal :=
  .next (settle (when (decide (lane < 256)) (·.checkerLock lane rx) s))

/-- CHECKER_LOCK_LOSS (R135): The PRBS checker loses lock when 64 or more of 1,024 consecutive bits are wrong, and its counters stop. -/
def execCheckerLockLoss (lane bits errors : Nat) (s : State) : Host.Outcome State Fault Refusal :=
  .next (settle (when (decide (lane < 256)) (·.checkerLoss lane bits errors) s))

end Sys2Proof.Machine
end

