-- ==== Sys2Proof/Machine/ExecLoom.lean ====
section
/-! DEFINITION. The meanings of the commands: Loom. -/

namespace Sys2Proof.Machine

/-- ON_CHIP_RESERVE_WAIT (R201): A message from an on-chip ingress is admitted once its reserve has L free cells. -/
def execOnChipReserveWait (gang : Nat) (s : State) : Host.Outcome State Fault Refusal :=
  .next (settle (when (decide (gang < 81)) (·.reserveWait gang) s))

/-- MESSAGE_START (R205): A message starts toward its output gang once staging room and egress credits are available. -/
def execMessageStart (gang cls : Nat) (s : State) : Host.Outcome State Fault Refusal :=
  .next (settle (when (decide (gang < 81 ∧ cls < 8)) (·.messageStart gang cls) s))

/-- MESSAGE_TRANSMIT (R205): An egress transmits a message once all its cells are staged. -/
def execMessageTransmit (gang cls : Nat) (found : Finding) (s : State) : Host.Outcome State Fault Refusal :=
  .next (settle (when (decide (gang < 81 ∧ cls < 8)) (·.messageTransmit gang cls found) s))

/-- LOM_RESEQ_SKIP (R214): A flow's gap timer expires and E jumps to the lowest held number. -/
def execLomReseqSkip (srcDev dstEp cls : Nat) (s : State) : Host.Outcome State Fault Refusal := .next (settle (s.gapSkip srcDev dstEp cls))

/-- FLOW_IDLE (R214): A flow that holds and receives nothing for 1 ms becomes idle. -/
def execFlowIdle (srcDev dstEp cls : Nat) (s : State) : Host.Outcome State Fault Refusal := .next (settle (s.flowIdle srcDev dstEp cls))

/-- REFILL (R216): An output's oldest spilled message is read back and linked at the tail of its queue. -/
def execRefill (gang : Nat) (s : State) : Host.Outcome State Fault Refusal := .next (settle (when (decide (gang < 81)) (·.refill gang) s))

/-- SAMPLE_CAPTURE (R219): Every Nth matching message a sampler writes a 160-byte record to the sample ring. -/
def execSampleCapture (sampler : Nat) (s : State) : Host.Outcome State Fault Refusal :=
  .next (settle (when (decide (sampler < 64)) (·.captureWrite sampler) s))

/-- LOM_SLICE (R221): A buffer slice fails its checker and is fenced. -/
def execLomSlice (slice : Nat) (s : State) : Host.Outcome State Fault Refusal := .next (settle (s.sliceFail slice))

end Sys2Proof.Machine
end

