-- ==== Sys2Proof/Machine/ExecMgmt.lean ====
section
/-! DEFINITION. The meanings of the commands: The management function. -/

namespace Sys2Proof.Machine

/-- FM_API_COMMAND (R155): An FM API command is carried out as an internal commit at the next tick boundary. -/
def execFmApiCommand (ch : MgmtChannel) (command : FmCommand) (s : State) : Host.Outcome State Fault Refusal :=
  .next (settle (s.fmApi ch command.kind command.writes))

/-- GET_VERSION (R156): SPDM GET_VERSION is answered by the management function. -/
def execGetVersion (ch : MgmtChannel) (r : SpdmReq) (s : State) : Host.Outcome State Fault Refusal := .next (settle (s.spdmVersion ch r))

/-- GET_CAPABILITIES (R156): SPDM GET_CAPABILITIES is answered. -/
def execGetCapabilities (ch : MgmtChannel) (r : SpdmReq) (s : State) : Host.Outcome State Fault Refusal := .next (settle (s.spdmCapabilities ch r))

/-- NEGOTIATE_ALGORITHMS (R156): SPDM NEGOTIATE_ALGORITHMS selects the supported P-384, SHA-384 and AES-256-GCM algorithms. -/
def execNegotiateAlgorithms (ch : MgmtChannel) (r : SpdmReq) (s : State) : Host.Outcome State Fault Refusal := .next (settle (s.spdmAlgorithms ch r))

/-- GET_DIGESTS (R156): SPDM GET_DIGESTS returns certificate chain digests. -/
def execGetDigests (ch : MgmtChannel) (r : SpdmReq) (s : State) : Host.Outcome State Fault Refusal := .next (settle (s.spdmDigests ch r))

/-- GET_CERTIFICATE (R156): SPDM GET_CERTIFICATE returns the device identity chain. -/
def execGetCertificate (ch : MgmtChannel) (r : SpdmReq) (s : State) : Host.Outcome State Fault Refusal := .next (settle (s.spdmCertificate ch r))

/-- CHALLENGE (R156): SPDM CHALLENGE is answered with a signed response. -/
def execChallenge (ch : MgmtChannel) (r : SpdmReq) (s : State) : Host.Outcome State Fault Refusal := .next (settle (s.spdmChallenge ch r))

/-- GET_MEASUREMENTS (R156): SPDM GET_MEASUREMENTS returns the four measurement blocks. -/
def execGetMeasurements (ch : MgmtChannel) (r : SpdmReq) (s : State) : Host.Outcome State Fault Refusal := .next (settle (s.spdmMeasurements ch r))

/-- KEY_EXCHANGE (R156): SPDM KEY_EXCHANGE starts a secure session, at most 4 per upstream port. -/
def execKeyExchange (ch : MgmtChannel) (r : SpdmReq) (s : State) : Host.Outcome State Fault Refusal := .next (settle (s.spdmKeyExchange ch r))

/-- FINISH (R156): SPDM FINISH completes session establishment. -/
def execFinish (ch : MgmtChannel) (r : SpdmReq) (s : State) : Host.Outcome State Fault Refusal := .next (settle (s.spdmFinish ch r))

/-- HEARTBEAT (R156): SPDM HEARTBEAT keeps a session alive. -/
def execHeartbeat (ch : MgmtChannel) (r : SpdmReq) (s : State) : Host.Outcome State Fault Refusal := .next (settle (s.spdmHeartbeat ch r))

/-- KEY_UPDATE (R156): SPDM KEY_UPDATE updates session keys. -/
def execKeyUpdate (ch : MgmtChannel) (r : SpdmReq) (s : State) : Host.Outcome State Fault Refusal := .next (settle (s.spdmKeyUpdate ch r))

/-- END_SESSION (R156): SPDM END_SESSION closes a session. -/
def execEndSession (ch : MgmtChannel) (r : SpdmReq) (s : State) : Host.Outcome State Fault Refusal := .next (settle (s.spdmEnd ch r))

/-- IDE_KM (R157): An IDE key-management message programs link IDE keys or is discarded if out of sequence. -/
def execIdeKm (port session : Nat) (go : Bool) (half : IdeHalf) (inSequence : Bool) (s : State) : Host.Outcome State Fault Refusal :=
  .next (settle (when (decide (port < 64)) (·.ideKm port session go half.stream half.tx inSequence) s))

/-- PRT_IDE_FAIL (R158): An IDE integrity failure makes the stream insecure and isolates the port. -/
def execPrtIdeFail (port stream : Nat) (s : State) : Host.Outcome State Fault Refusal :=
  .next (settle (when (decide (port < 64)) (·.ideFail port stream) s))

end Sys2Proof.Machine
end

