-- ==== Sys2Proof/Machine/ExecMigration.lean ====
section
/-! DEFINITION. The meanings of the commands: Migration. -/

namespace Sys2Proof.Machine

/-- FREEZE (R393): PF_VFC_CMD FREEZE stops fetching for the VF. -/
def execFreeze (port i : Nat) (s : State) : Host.Outcome State Fault Refusal := .next (settle (s.vfFreeze port i))

/-- FREEZE_DONE (R393): Once every dispatched descriptor has completed the VF is frozen. -/
def execFreezeDone (port i : Nat) (s : State) : Host.Outcome State Fault Refusal := .next (settle (s.freezeDone port i))

/-- SAVE (R393): PF_VFC_CMD SAVE writes the VF image to host memory. -/
def execSave (port i : Nat) (s : State) : Host.Outcome State Fault Refusal := .next (settle (s.vfSave port i))

/-- SAVE_DONE (R393): The image write ends and the VF returns to frozen with its result. -/
def execSaveDone (port i status : Nat) (s : State) : Host.Outcome State Fault Refusal := .next (settle (s.saveDone port i status))

/-- RESTORE (R393): PF_VFC_CMD RESTORE reads a VF image from host memory. -/
def execRestore (port i : Nat) (s : State) : Host.Outcome State Fault Refusal := .next (settle (s.vfRestore port i))

/-- RESTORE_DONE (R397): The image is checked and loaded, leaving the VF frozen, or rejected. -/
def execRestoreDone (port i status : Nat) (image : List Byte) (s : State) : Host.Outcome State Fault Refusal :=
  .next (settle (s.restoreDone port i status image))

/-- RESUME (R394): PF_VFC_CMD RESUME restarts the VF, dispatching carried descriptors first. -/
def execResume (port i : Nat) (s : State) : Host.Outcome State Fault Refusal := .next (settle (s.vfResume port i))

/-- REBIND_OWNER_CHANGE (R399): After the flush an internal commit moves the fold to the new owner and VFs, advancing its epoch. -/
def execRebindOwnerChange (s : State) : Host.Outcome State Fault Refusal := .next (settle (s.rebindOwner))

/-- REBIND_RELEASE (R399): Once the old epoch drained and events are written an internal commit clears FROZEN. -/
def execRebindRelease (s : State) : Host.Outcome State Fault Refusal := .next (settle (s.rebindRelease))

/-- HARVEST_START (R404): MIG_HV_CTRL 1 starts copying and clearing a range of a fold's dirty bitmap to a host. -/
def execHarvestStart (session : Nat) (s : State) : Host.Outcome State Fault Refusal := .next (settle (writeObject session K.MIG_HV_CTRL 1 s))

/-- HARVEST_STOP (R405): MIG_HV_CTRL 2 stops the harvest after the line in progress. -/
def execHarvestStop (session : Nat) (s : State) : Host.Outcome State Fault Refusal := .next (settle (writeObject session K.MIG_HV_CTRL 2 s))

/-- HARVEST_DONE (R405): A harvest ends, or fails restoring the bits of its failing line. -/
def execHarvestDone (status : Nat) (s : State) : Host.Outcome State Fault Refusal := .next (settle (s.hvDone status))

end Sys2Proof.Machine
end

