-- ==== Sys2Proof/Machine/ExecPorts.lean ====
section
/-! DEFINITION. The meanings of the commands: Ports and their partners. -/

namespace Sys2Proof.Machine

/-- LINK_UP (R100): A port's link finishes training and carries traffic with fresh credits and sequence numbers. -/
def execLinkUp (port : Nat) (info : LinkInfo) (s : State) : Host.Outcome State Fault Refusal :=
  .next (settle (when (decide (port < 64)) (·.linkUpEvent port info) s))

/-- LINK_DOWN (R160): A port's link goes down; queued requests are answered, trackers marked stale and queue memory reclaimed. -/
def execLinkDown (port : Nat) (fatal : Bool) (s : State) : Host.Outcome State Fault Refusal :=
  .next (settle (when (decide (port < 64)) (·.linkDownBy port fatal) s))

/-- DPC_RELEASE (R162): The bound host or Croft releases DPC and the port retrains. -/
def execDpcRelease (port : Nat) (s : State) : Host.Outcome State Fault Refusal := .next (settle (when (decide (port < 64)) (·.dpcRelease port) s))

/-- TRACKER_TIMEOUT (R159): A port tracker expires and its request completes with poison, Cmp or UR. -/
def execTrackerTimeout (port tag : Nat) (s : State) : Host.Outcome State Fault Refusal :=
  .next (settle (when (decide (port < 64)) (·.trackerTimeout port tag) s))

/-- PORT_RESPONSE (R20): A response arrives at a port, releases its tracker and advances the fold's meters, or is discarded as late. -/
def execPortResponse (port : Nat) (r : PortResp) (s : State) : Host.Outcome State Fault Refusal :=
  .next (settle (when (decide (port < 64)) (·.portResponse port r) s))

/-- CXL_IO_TLP (R232): A CXL.io TLP from a host or device is decoded, checked, shaped and forwarded. -/
def execCxlIoTlp (port : Nat) (t : Tlp) (s : State) : Host.Outcome State Fault Refusal :=
  .next (settle (when (decide (port < 64)) (·.tlpArrives port t) s))

/-- PME_TURN_OFF (R145): An upstream port answers PME_Turn_Off with PME_TO_Ack once its functions' PME state is settled. -/
def execPmeTurnOff (port : Nat) (s : State) : Host.Outcome State Fault Refusal := .next (settle (when (decide (port < 64)) (·.pmeTurnOff port) s))

/-- PME_TO_ACK (R145): A downstream partner's PME_TO_Ack ends the wait before slot power-off. -/
def execPmeToAck (port : Nat) (s : State) : Host.Outcome State Fault Refusal := .next (settle (when (decide (port < 64)) (·.pmeToAck port) s))

/-- PME_TO_ACK_TIMEOUT (R145): The 10 ms wait for PME_TO_Ack expires and power-off continues. -/
def execPmeToAckTimeout (port : Nat) (s : State) : Host.Outcome State Fault Refusal :=
  .next (settle (when (decide (port < 64)) (·.pmeTimeout port) s))

/-- POWER_CONTROLLER_CONTROL (R162): A directly bound host's write to Power Controller Control becomes an internal commit of slot enable. -/
def execPowerControllerControl (port : Nat) (on : Bool) (s : State) : Host.Outcome State Fault Refusal :=
  .next (settle (when (decide (port < 64)) (·.powerControl port on) s))

/-- ADD_CAPACITY_RESPONSE (R153): The host answers Add Capacity and acceptance is recorded per extent. -/
def execAddCapacityResponse (port : Nat) (accepted : List Nat) (s : State) : Host.Outcome State Fault Refusal :=
  .next (settle (when (decide (port < 64)) (·.addResponse port accepted) s))

/-- PRT_DC_RESPONSE (R153): No host answer within PRT_DC_RESPONSE_TIMEOUT records a fault while the binding stands. -/
def execPrtDcResponse (port extent : Nat) (s : State) : Host.Outcome State Fault Refusal :=
  .next (settle (when (decide (port < 64)) (·.dcLate port extent) s))

/-- RELEASE_DYNAMIC_CAPACITY (R238): A host Release Dynamic Capacity response, requested or unsolicited, schedules an internal unbind. -/
def execReleaseDynamicCapacity (port extent : Nat) (s : State) : Host.Outcome State Fault Refusal :=
  .next (settle (when (decide (extent < 131072)) (·.hostRelease port extent) s))

/-- CLEAR_EVENT_RECORDS (R153): Clear Event Records frees Dynamic Capacity event log records. -/
def execClearEventRecords (port : Nat) (handles : List Nat) (s : State) : Host.Outcome State Fault Refusal :=
  .next (settle (when (decide (port < 64)) (·.clearEvents port handles) s))

/-- DEVICE_DC_ADD (R154): A downstream DC device adds capacity, which becomes pool memory at the LD's FEID once accepted. -/
def execDeviceDcAdd (port ld base size : Nat) (s : State) : Host.Outcome State Fault Refusal :=
  .next (settle (when (decide (port < 64)) (·.deviceAdd port ld base size) s))

/-- DEVICE_FORCED_REMOVAL (R154): A DC device returns capacity by forced removal and its extents answer as unrouted until released. -/
def execDeviceForcedRemoval (port ld base size : Nat) (s : State) : Host.Outcome State Fault Refusal :=
  .next (settle (when (decide (port < 64)) (·.deviceRemove port ld base size) s))

/-- PRT_CONTROLLER (R36): A port controller checker failure isolates the port with F2. -/
def execPrtController (port : Nat) (s : State) : Host.Outcome State Fault Refusal := .next (settle (s.controllerFault port))

/-- ASPM_L1_ENTRY (R145): A PCIe or CXL link enters ASPM L1. -/
def execAspmL1Entry (port : Nat) (s : State) : Host.Outcome State Fault Refusal := .next (settle (s.l1Enter port))

/-- L1_EXIT_COMPLETE (R386): A link that the port brought out of L1 reaches L0, and the waiting completion write, MSI-X or PM_PME message is sent. -/
def execL1ExitComplete (port : Nat) (s : State) : Host.Outcome State Fault Refusal := .next (settle (when (decide (port < 64)) (·.l1Exit port) s))

/-- HDM_DECODER_COMMIT (R226): The host commits an HDM decoder of the host memory function, which changes decode step 1 from then on. -/
def execHdmDecoderCommit (port n : Nat) (d : HdmDecoder) (s : State) : Host.Outcome State Fault Refusal :=
  .next (settle (when (decide (port < 64)) (·.hdmCommit port n d) s))

/-- CXL_CACHE_MESSAGE (R150): A CXL.cache message passes between a host and a directly bound Type-1 or Type-2 device, or is discarded on a port not in direct binding. -/
def execCxlCacheMessage (port : Nat) (message : CacheMsg) (s : State) : Host.Outcome State Fault Refusal :=
  .next (settle (when (decide (port < 64)) (·.cxlCache port message.vppb message.payload) s))

/-- UPDATE_FC (R205): A PCIe or CXL link partner returns flow-control credits, which lets messages waiting for egress credit start. -/
def execUpdateFc (port channel hdr data : Nat) (s : State) : Host.Outcome State Fault Refusal :=
  .next (settle (when (decide (port < 64)) (·.updateFc port channel hdr data) s))

/-- DEBUG_MASTER_ACCESS (R261): The debug master issues a read or write through JTAG, which Gatepost checks as fold 0 with DEBUG 1. -/
def execDebugMasterAccess (write : Bool) (target address length : Nat) (data : List Byte) (s : State) : Host.Outcome State Fault Refusal :=
  .next (settle (s.debugAccess write target address length data))

end Sys2Proof.Machine
end

