-- ==== Sys2Proof/Machine/ExecPower.lean ====
section
/-! DEFINITION. The meanings of the commands: Power, temperature and power states. -/

namespace Sys2Proof.Machine

/-- PWR_BRAKE_N (R476): A recognised brake drops the budget to the floor and the governor withdraws mover steps and pauses scrub. -/
def execPwrBrakeN (s : State) : Host.Outcome State Fault Refusal := .next (settle (s.brakeOn.scrubBraked))

/-- PWR_BRAKE_RELEASE (R476): PWR_BRAKE_N sampled high restores the budget at the next tick boundary. -/
def execPwrBrakeRelease (s : State) : Host.Outcome State Fault Refusal := .next (settle (s.brakeOff))

/-- HRD_REGION (R471): A 10 µs sample finds a region limit exceeded and throttles the region. -/
def execHrdRegion (r : RegionSample) (s : State) : Host.Outcome State Fault Refusal := .next (settle (s.regionSample r))

/-- REGION_THROTTLE_RELEASE (R471): After 1 ms inside the release level a region throttle ends. -/
def execRegionThrottleRelease (region : Nat) (s : State) : Host.Outcome State Fault Refusal := .next (settle (s.regionRelease region))

/-- HRD_THERMAL (R472): The hottest sensor reaches the threshold and the budget starts to fall. -/
def execHrdThermal (sensor : Nat) (temp : Int) (s : State) : Host.Outcome State Fault Refusal := .next (settle (s.thermal sensor temp))

/-- BUDGET_STEPDOWN (R472): Each 1 ms above the threshold the budget falls by 64 GU, and clocks are gated above threshold + 5 °C. -/
def execBudgetStepdown (temp : Int) (s : State) : Host.Outcome State Fault Refusal := .next (settle (s.stepdown temp))

/-- THERMAL_RELEASE (R472): The sensor falls 5 °C below threshold, gating ends and the budget returns. -/
def execThermalRelease (temp : Int) (s : State) : Host.Outcome State Fault Refusal := .next (settle (s.thermalRelease temp))

/-- HRD_THERMAL_CRITICAL (R472): A sensor reaches 115 °C and F4 enters the Pinfold state. -/
def execHrdThermalCritical (sensor : Nat) (temp : Int) (s : State) : Host.Outcome State Fault Refusal :=
  .next (settle (s.thermalCritical sensor temp))

/-- HRD_REFCLK_LOSS (R37): Loss of SYS_REFCLK is an F4 fault. -/
def execHrdRefclkLoss (s : State) : Host.Outcome State Fault Refusal := .next (settle (s.refclkFault))

/-- HRD_SUPPLY (R446): Loss of VR_PG of an enabled switched rail is an F4 fault. -/
def execHrdSupply (rail : Nat) (s : State) : Host.Outcome State Fault Refusal := .next (settle (s.supplyFault rail))

/-- PMBUS_POLL (R473): Every 1 ms Hurdle reads voltage, current and power from each configured regulator. -/
def execPmbusPoll (powers : List (Option Nat)) (s : State) : Host.Outcome State Fault Refusal := .next (settle (s.pmbusPoll powers))

/-- GOVERNOR_BASE_UPDATE (R475): Every 1 ms the governor recomputes its base from measured power. -/
def execGovernorBaseUpdate (s : State) : Host.Outcome State Fault Refusal := .next (settle (s.baseUpdate))

/-- FALLOW_REQUEST (R478): HRD_PSTATE_REQUEST 2 makes Croft enter WAIT with the P2 mode bits set. -/
def execFallowRequest (session : Nat) (s : State) : Host.Outcome State Fault Refusal := .next (settle (writeObject session K.HRD_PSTATE_REQUEST 2 s))

/-- FALLOW_GATE (R478): A region of the fallow set is gated once it meets its condition. -/
def execFallowGate (region : Nat) (s : State) : Host.Outcome State Fault Refusal := .next (settle (s.fallowGate region))

/-- FALLOW_WAKE (R478): A fallowed region wakes for a commit, a dispatch need or an eligible CIC source. -/
def execFallowWake (region : Nat) (s : State) : Host.Outcome State Fault Refusal := .next (settle (s.fallowWake region))

/-- WINTERING_REQUEST (R479): HRD_PSTATE_REQUEST 3 enters P3, saving retention and dropping the switched rails. -/
def execWinteringRequest (session : Nat) (s : State) : Host.Outcome State Fault Refusal :=
  .next (settle (writeObject session K.HRD_PSTATE_REQUEST 3 s))

/-- WAKE_TIMER (R480): The Bothy counter reaches HRD_WAKE_TIMER and wakes the device. -/
def execWakeTimer (s : State) : Host.Outcome State Fault Refusal := .next (settle (s.wakeEvent 3))

/-- WAKE_EVENT (R481): A wake source in P3 raises the rails, relocks clocks and reloads the DTC. -/
def execWakeEvent (cause : Nat) (s : State) : Host.Outcome State Fault Refusal := .next (settle (s.wakeEvent cause))

/-- WAKE_RETRY (R482): A failed wake attempt drops the rails and retries, and the third failure records HRD_WAKE_FAIL. -/
def execWakeRetry (s : State) : Host.Outcome State Fault Refusal := .next (settle (s.wakeRetry))

/-- WAKE_COMPLETE (R481): At the first tick boundary after Commons retrains SYS_READY rises and ticks resume. -/
def execWakeComplete (s : State) : Host.Outcome State Fault Refusal := .next (settle (s.wakeComplete.heldMessages hooks))

/-- HRD_PAD_RELEASE (R481): A write releases held SW pads so lanes leave idle and ports train. -/
def execHrdPadRelease (session value : Nat) (s : State) : Host.Outcome State Fault Refusal :=
  .next (settle (writeObject session K.HRD_PAD_RELEASE value s))

end Sys2Proof.Machine
end

