-- ==== Sys2Proof/Machine/ExecSlots.lean ====
section
/-! DEFINITION. The meanings of the commands: Slot channels. -/

namespace Sys2Proof.Machine

/-- SLOT_GRANT_REQUEST (R487): An enabled slot channel in WAIT requests its grant once PWRFAIL_N is released. -/
def execSlotGrantRequest (n : Nat) (s : State) : Host.Outcome State Fault Refusal := .next (settle (when (decide (n < 16)) (·.slotAsk n) s))

/-- SLOT_GRANT (R488): The governor grants the slot and the channel enters RAMP. -/
def execSlotGrant (n : Nat) (s : State) : Host.Outcome State Fault Refusal := .next (settle (when (decide (n < 16)) (·.slotGrant n) s))

/-- SLOT_ON (R487): The output reaches the input less 0.2 V and the channel enters ON. -/
def execSlotOn (n vout vin : Nat) (s : State) : Host.Outcome State Fault Refusal := .next (settle (when (decide (n < 16)) (·.slotOn n vout vin) s))

/-- POWER_GOOD_ASSERT (R496): After 1 ms above 11.0 V with the fault timer idle power-good asserts and the grant is released. -/
def execPowerGoodAssert (n : Nat) (s : State) : Host.Outcome State Fault Refusal := .next (settle (when (decide (n < 16)) (·.pgAssert n) s))

/-- POWER_GOOD_RELEASE (R496): Three samples below 10.8 V with the timer idle release power-good. -/
def execPowerGoodRelease (n vout : Nat) (s : State) : Host.Outcome State Fault Refusal :=
  .next (settle (when (decide (n < 16)) (·.pgRelease n vout) s))

/-- CURRENT_LIMIT (R490): The current reaches the limit, is regulated there and the fault timer starts. -/
def execCurrentLimit (n current : Nat) (s : State) : Host.Outcome State Fault Refusal :=
  .next (settle (when (decide (n < 16)) (·.currentLimit n current) s))

/-- FAULT_TIMER_EXPIRY (R490): The fault timer reaches HRD_SLOT_FAULT_TIME and the channel trips. -/
def execFaultTimerExpiry (n : Nat) (s : State) : Host.Outcome State Fault Refusal := .next (settle (when (decide (n < 16)) (·.timerExpiry n) s))

/-- SHORT_CIRCUIT (R491): The short-circuit comparator pulls the gate within 1 µs and trips the channel. -/
def execShortCircuit (n sense : Nat) (s : State) : Host.Outcome State Fault Refusal :=
  .next (settle (when (decide (n < 16)) (·.shortCircuit n sense) s))

/-- FET_OVERTEMP (R492): The modelled or measured FET temperature reaches 150 °C and trips the channel. -/
def execFetOvertemp (n : Nat) (modelled thermistor : Int) (s : State) : Host.Outcome State Fault Refusal :=
  .next (settle (when (decide (n < 16)) (·.fetOvertemp n modelled thermistor) s))

/-- THERMISTOR_OUT_OF_RANGE (R492): An invalid thermistor reading is replaced by ambient and raises the CIC source. -/
def execThermistorOutOfRange (n : Nat) (reading : Int) (s : State) : Host.Outcome State Fault Refusal :=
  .next (settle (when (decide (n < 16)) (·.thermistorOut n reading) s))

/-- RAMP_TIMEOUT (R489): The output fails to reach 11.0 V in time and the channel trips. -/
def execRampTimeout (n : Nat) (s : State) : Host.Outcome State Fault Refusal := .next (settle (when (decide (n < 16)) (·.rampTimeout n) s))

/-- HRD_SLOT_FET (R494): An output above 1 V for 5 ms with the gate off records a damaged FET. -/
def execHrdSlotFet (n vout held : Nat) (s : State) : Host.Outcome State Fault Refusal :=
  .next (settle (when (decide (n < 16)) (·.slotFet n vout held) s))

/-- PWRFAIL_ASSERT (R497): The slot input falls below 10.5 V and SLOTn_PWRFAIL_N is asserted. -/
def execPwrfailAssert (n vin : Nat) (s : State) : Host.Outcome State Fault Refusal := .next (settle (when (decide (n < 16)) (·.pwrfail n vin) s))

/-- PWRFAIL_RELEASE (R497): After 1 ms above 10.7 V SLOTn_PWRFAIL_N is released. -/
def execPwrfailRelease (n vin : Nat) (s : State) : Host.Outcome State Fault Refusal := .next (settle (when (decide (n < 16)) (·.pwrfailEnd n vin) s))

/-- SLOT_GATE_OFF (R498): At least 100 µs after PERST the gate is commanded off and the channel enters OFF. -/
def execSlotGateOff (n : Nat) (s : State) : Host.Outcome State Fault Refusal := .next (settle (when (decide (n < 16)) (·.slotGateOff n) s))

/-- FAULT_TIMER_STOP (R490): After 10 consecutive samples below 95 % of the limit, the slot fault timer stops and returns to 0. -/
def execFaultTimerStop (n : Nat) (s : State) : Host.Outcome State Fault Refusal := .next (settle (when (decide (n < 16)) (·.timerStop n) s))

end Sys2Proof.Machine
end

