-- ==== Sys2Proof/Machine/ExecTfb.lean ====
section
/-! DEFINITION. The meanings of the commands: The Tenant Function Block. -/

namespace Sys2Proof.Machine

/-- VF_SQ_TAIL (R372): A submission doorbell posts descriptors or stops the queue on a bad tail. -/
def execVfSqTail (port i q value : Nat) (s : State) : Host.Outcome State Fault Refusal :=
  .next (settle (onPoolVf port i (fun v s => s.sqTail v q value) s))

/-- VF_CQ_HEAD (R372): A completion head doorbell releases completion entries or stops the queue. -/
def execVfCqHead (port i q value : Nat) (s : State) : Host.Outcome State Fault Refusal :=
  .next (settle (onPoolVf port i (fun v s => s.cqHead v q value) s))

/-- SQ_ENABLE (R372): Setting ENABLE of a submission queue resets its head and tail if its CQ is enabled. -/
def execSqEnable (port i q : Nat) (s : State) : Host.Outcome State Fault Refusal := .next (settle (onPoolVf port i (fun v s => s.sqEnable v q) s))

/-- SQ_DISABLE (R373): Clearing ENABLE stops fetching and completes undispatched descriptors with ABORTED. -/
def execSqDisable (port i q : Nat) (s : State) : Host.Outcome State Fault Refusal := .next (settle (onPoolVf port i (fun v s => s.sqDisable v q) s))

/-- CQ_ENABLE (R372): Setting ENABLE of a completion queue resets its tail and phase. -/
def execCqEnable (port i q value : Nat) (s : State) : Host.Outcome State Fault Refusal :=
  .next (settle (onPoolVf port i (fun v s => s.cqEnable v q (putBit value 0 true)) s))

/-- CQ_DISABLE (R372): Clearing ENABLE of a completion queue takes effect unless an enabled SQ names it. -/
def execCqDisable (port i q value : Nat) (s : State) : Host.Outcome State Fault Refusal :=
  .next (settle (onPoolVf port i (fun v s => s.cqDisable v q (putBit value 0 false)) s))

/-- VF_ERR (R380): A write of 1 clears a queue's error bit so it can be enabled again. -/
def execVfErr (port i value : Nat) (s : State) : Host.Outcome State Fault Refusal :=
  .next (settle (onPoolVf port i (fun v s => s.vfErrWrite v value) s))

/-- PF_INT_CAUSE (R366): A write of 1 clears PF interrupt cause bits. -/
def execPfIntCause (port value : Nat) (s : State) : Host.Outcome State Fault Refusal := .next (settle (s.pfIntCause port value))

/-- PF_VF_EVENT (R367): A write of 1 clears VF event bits. -/
def execPfVfEvent (port offset size value : Nat) (s : State) : Host.Outcome State Fault Refusal :=
  .next (settle (s.eventWrite port offset size value))

/-- MSIX_UNMASK (R383): Unmasking a vector with its PBA bit set sends the pending message. -/
def execMsixUnmask (f : Func) (vector : Nat) (s : State) : Host.Outcome State Fault Refusal :=
  .next (settle (when (s.hasFunc f) (·.msixUnmask f vector) s))

/-- DESCRIPTOR_FETCH (R376): TFB fetches a descriptor from host memory when its VF may fetch and a CQ slot is free. -/
def execDescriptorFetch (s : State) : Host.Outcome State Fault Refusal := .next (settle (s.descriptorFetch))

/-- DESCRIPTOR_FETCHED (R380): A descriptor fetch returns and the descriptor is checked, or a failed fetch stops the SQ with FETCH_ERROR. -/
def execDescriptorFetched (v status : Nat) (desc : List Byte) (s : State) : Host.Outcome State Fault Refusal :=
  .next (settle (s.descriptorFetched v status desc))

/-- NOP (R375): A NOP descriptor completes in TFB in its turn. -/
def execNop (v q : Nat) (s : State) : Host.Outcome State Fault Refusal := .next (settle (s.nopDesc v q))

/-- RUN (R378): A RUN descriptor is dispatched to a resident customer program permitted for the fold. -/
def execRun (v q : Nat) (s : State) : Host.Outcome State Fault Refusal := .next (settle (s.runDesc v q))

/-- FENCE (R377): A FENCE descriptor completes after every earlier descriptor of its SQ. -/
def execFence (v q : Nat) (s : State) : Host.Outcome State Fault Refusal := .next (settle (s.fenceDesc v q))

/-- TFB_CPL_WRITE (R382): A failed completion write stops the CQ and its SQs' dispatch. -/
def execTfbCplWrite (v q : Nat) (s : State) : Host.Outcome State Fault Refusal := .next (settle (s.cplWriteFail v q))

/-- CQ_MOD_TIMER (R383): A CQ moderation timer expires and the vector is signalled or its PBA set. -/
def execCqModTimer (v q : Nat) (s : State) : Host.Outcome State Fault Refusal := .next (settle (s.cqModTimer v q))

/-- VF_ENABLE (R362): VF Enable with a valid NumVFs enables the VFs. -/
def execVfEnable (port : Nat) (on : Bool) (s : State) : Host.Outcome State Fault Refusal := .next (settle (s.vfEnable port on))

/-- MAJOR_SELECT (R365): A write selects the TFB interface major while VF Enable is clear. -/
def execMajorSelect (port value : Nat) (s : State) : Host.Outcome State Fault Refusal := .next (settle (s.majorSelect port value))

/-- INITIATE_FLR (R387): A function-level reset stops fetch and dispatch and stops the VF's threads. -/
def execInitiateFlr (f : Func) (s : State) : Host.Outcome State Fault Refusal := .next (settle (when (s.hasFunc f) (·.initiateFlr f) s))

/-- FLR_COMPLETE (R387): When no tracker remains or 100 µs pass, the VF's registers reset and its event bit is set. -/
def execFlrComplete (v : Nat) (s : State) : Host.Outcome State Fault Refusal := .next (settle (s.flrComplete v))

/-- D3HOT_ENTRY (R385): A function placed in D3hot stops fetching and converts due signals to PME. -/
def execD3hotEntry (f : Func) (s : State) : Host.Outcome State Fault Refusal := .next (settle (when (s.hasFunc f) (·.powerWrite f true) s))

/-- D0_RETURN (R385): A function returned to D0 resumes fetching and delivers held messages. -/
def execD0Return (f : Func) (s : State) : Host.Outcome State Fault Refusal := .next (settle (when (s.hasFunc f) (·.powerWrite f false) s))

/-- TRANSLATION_COMPLETION (R389): An ATS Translation Completion fills the translation cache and releases the waiting access. -/
def execTranslationCompletion (f : Func) (address translated : Nat) (granted : Bool) (s : State) : Host.Outcome State Fault Refusal :=
  .next (settle (s.translationDone f address translated granted))

/-- INVALIDATE_REQUEST (R389): An ATS Invalidate Request drops entries and is completed within 1 ms. -/
def execInvalidateRequest (f : Func) (address size : Nat) (s : State) : Host.Outcome State Fault Refusal :=
  .next (settle (when (s.hasFunc f) (·.invalidate f address size) s))

/-- TFB_QUEUE_ECC (R391): A queue RAM error is corrected or stops the affected VF's queues. -/
def execTfbQueueEcc (v : Nat) (err : EccKind) (s : State) : Host.Outcome State Fault Refusal := .next (settle (s.queueEcc v err))

/-- CONFIGURATION_WRITE (R376): A host configuration write sets Bus Master Enable, MSI-X Enable or the function mask, ATS Enable, or PME_En or PME_Status of a tenant function, which changes READY, fetching, signalling or translation. -/
def execConfigurationWrite (f : Func) (c : CfgChange) (s : State) : Host.Outcome State Fault Refusal :=
  .next (settle (when (s.hasFunc f) (·.configWrite f c) s))

end Sys2Proof.Machine
end

