-- ==== Sys2Proof/Machine/ExecTick.lean ====
section
/-! DEFINITION. The meanings of the commands: Tick boundaries and Paddock. -/

namespace Sys2Proof.Machine

/-- TICK_BOUNDARY (R29): At each multiple of 1,000 ns the tick-bound jobs run. -/
def execTickBoundary (s : State) : Host.Outcome State Fault Refusal := .next (settle (s.tickBoundary))

/-- TICK_JOB_OVERRUN (R31): A tick job exceeds its budget, its sample is marked missed and F1 is recorded. -/
def execTickJobOverrun (job late : Nat) (s : State) : Host.Outcome State Fault Refusal := .next (settle (s.jobOverrun job late))

/-- LANE_EVALUATE (R311): A Paddock lane head that becomes eligible is released by deficit round robin and linked to Loom. -/
def execLaneEvaluate (gang : Nat) (s : State) : Host.Outcome State Fault Refusal := .next (settle (when (decide (gang < 81)) (·.laneEvaluate gang) s))

/-- QSAMPLE_CAPTURE (R314): Every PDK_QSAMPLE_PERIOD ticks the selected queues are captured into a sample block. -/
def execQsampleCapture (overrun : Bool) (s : State) : Host.Outcome State Fault Refusal := .next (settle (s.qsampleEvent overrun))

/-- TALLY_BLOCK (R320): At the end of a tally interval Paddock writes a tally block or merges it if the ring is full. -/
def execTallyBlock (s : State) : Host.Outcome State Fault Refusal := .next (settle (when s.ticking (·.tallyBlock) s))

/-- PDK_HIST_CLEAR (R316): A write clears one fold's or every fold's latency histogram. -/
def execPdkHistClear (session value : Nat) (s : State) : Host.Outcome State Fault Refusal :=
  .next (settle (writeObject session K.PDK_HIST_CLEAR value s))

/-- PDK_BUCKET_ECC (R323): A bucket error is corrected or the bucket is reset to level 0. -/
def execPdkBucketEcc (fold bucket : Nat) (err : EccKind) (s : State) : Host.Outcome State Fault Refusal :=
  .next (settle (s.bucketEcc fold bucket err))

/-- PDK_METER_ECC (R323): A meter error is corrected or the meter restored from the last snapshot. -/
def execPdkMeterEcc (fold meter : Nat) (err : EccKind) (bothCopies : Bool) (s : State) : Host.Outcome State Fault Refusal :=
  .next (settle (s.meterEcc fold meter err bothCopies))

end Sys2Proof.Machine
end

