-- ==== Sys2Proof/Machine/ExecTwill.lean ====
section
/-! DEFINITION. The meanings of the commands: Twill links and messages. -/

namespace Sys2Proof.Machine

/-- DATA_FLIT (R179): A DATA flit is accepted, discarded with NAK, or discarded as a duplicate by its SEQ. -/
def execDataFlit (port : Nat) (flit : List Byte) (s : State) : Host.Outcome State Fault Refusal :=
  .next (settle (when (s.isTwill port) (·.dataFlitRx port flit) s))

/-- CTRL_FLIT (R179): A CTRL flit's control messages are taken and a NEXT_SEQ mismatch triggers a NAK. -/
def execCtrlFlit (port : Nat) (flit : List Byte) (s : State) : Host.Outcome State Fault Refusal :=
  .next (settle (when (s.isTwill port) (·.ctrlFlitRx port flit) s))

/-- ACK (R178): An ACK releases replay-buffer flits and with NAK set triggers a replay. -/
def execAck (port : Nat) (nak : Bool) (seq : Nat) (s : State) : Host.Outcome State Fault Refusal :=
  .next (settle (when (s.isTwill port) (·.ackRx port nak seq) s))

/-- CREDIT (R177): A cumulative CREDIT return updates the sender's returned count or clamps it. -/
def execCredit (port : Nat) (words : List Nat) (s : State) : Host.Outcome State Fault Refusal :=
  .next (settle (when (s.isTwill port) (·.creditRx port words) s))

/-- CONFIG (R190): A Twill CONFIG exchange checks device numbers and negotiates version, capabilities, rate and width. -/
def execConfig (port : Nat) (c : TwillConfig) (s : State) : Host.Outcome State Fault Refusal :=
  .next (settle (when (s.isTwill port) (·.configRx port c) s))

/-- INIT (R175): A Twill INIT advertises credits and the link becomes active after INIT_ACK. -/
def execInitMsg (port : Nat) (initAck : Bool) (hdr data : List Nat) (s : State) : Host.Outcome State Fault Refusal :=
  .next (settle (when (s.isTwill port) (·.initRx port initAck hdr data) s))

/-- EQ (R188): A Twill EQ request is applied within 1 µs or rejected and answered. -/
def execEq (port lane kind preset : Nat) (coeffs : List Int) (result : Nat) (s : State) : Host.Outcome State Fault Refusal :=
  .next (settle (when (s.isTwill port) (·.eqRx port lane kind preset coeffs result) s))

/-- RETRAIN (R191): A Twill RETRAIN request or answer starts a planned retrain, resolving collisions by device number. -/
def execRetrain (port width : Nat) (eqFlag answer : Bool) (device : Nat) (s : State) : Host.Outcome State Fault Refusal :=
  .next (settle (when (s.isTwill port) (·.retrainRx port width eqFlag answer device) s))

/-- ACK_TIMER (R180): 128 ns after the first unacknowledged accepted flit the receiver sends an ACK. -/
def execAckTimer (port : Nat) (s : State) : Host.Outcome State Fault Refusal := .next (settle (when (s.isTwill port) (·.ackTimer port) s))

/-- CREDIT_TIMER (R177): The receiver sends a CREDIT within 128 ns of a change and at least every 1 µs. -/
def execCreditTimer (port : Nat) (s : State) : Host.Outcome State Fault Refusal := .next (settle (when (s.isTwill port) (·.creditTimer port) s))

/-- TWL_REPLAY_TIMER (R178): No ACK advance for TWL_REPLAY_TIMER replays every held flit. -/
def execTwlReplayTimer (port : Nat) (s : State) : Host.Outcome State Fault Refusal := .next (settle (when (s.isTwill port) (·.replayTimer port) s))

/-- TWL_LINK_DOWN (R181): A Twill health limit, framing loss or clock failure takes the link down and fails its trackers. -/
def execTwlLinkDown (port : Nat) (s : State) : Host.Outcome State Fault Refusal := .next (settle (when (s.isTwill port) (·.healthDown port) s))

/-- TRAINING_TIMEOUT (R188): A Twill training state times out, the port returns to T.OFF and restarts 1 ms later. -/
def execTrainingTimeout (port : Nat) (s : State) : Host.Outcome State Fault Refusal :=
  .next (settle (when (s.isTwill port) (·.trainingTimeout port) s))

/-- TRAINING_RESTART (R188): 1 ms after a training failure the Twill port starts training again. -/
def execTrainingRestart (port : Nat) (s : State) : Host.Outcome State Fault Refusal :=
  .next (settle (when (s.isTwill port) (·.trainingRestart port) s))

/-- TWL_RETRAIN (R191): A write sends RETRAIN with the requested width and EQ flag. -/
def execTwlRetrain (session port value : Nat) (s : State) : Host.Outcome State Fault Refusal :=
  .next (settle (when (decide (port < 64)) (writeObject session (K.TWL_RETRAIN port) value) s))

/-- REPLAY_BUFFER_EMPTY (R191): During a planned retrain both replay buffers empty and the switch proceeds at the next AM. -/
def execReplayBufferEmpty (port : Nat) (s : State) : Host.Outcome State Fault Refusal := .next (settle (when (s.isTwill port) (·.replayEmpty port) s))

/-- RETRAIN_HOLD_TIMEOUT (R191): A planned retrain hold longer than 10 ms takes the link down. -/
def execRetrainHoldTimeout (port : Nat) (s : State) : Host.Outcome State Fault Refusal :=
  .next (settle (when (s.isTwill port) (·.holdTimeout port) s))

/-- TWL_REENABLE (R181): A write of 1 clears a Twill port's health disable. -/
def execTwlReenable (session port value : Nat) (s : State) : Host.Outcome State Fault Refusal :=
  .next (settle (when (decide (port < 64)) (writeObject session (K.TWL_REENABLE port) value) s))

/-- TWL_TRACKER_TIMEOUT (R184): A tracker whose request left on a Twill port expires. -/
def execTwlTrackerTimeout (device tag : Nat) (s : State) : Host.Outcome State Fault Refusal := .next (settle (s.twillTrackerTimeout device tag))

/-- MGMT_REQ (R172): A TC0 management request message is delivered or forwarded. -/
def execMgmtReq (port : Nat) (m : TwillMsg) (s : State) : Host.Outcome State Fault Refusal :=
  .next (settle (when (s.isTwill port) (·.rowMessage port m 0 0x01) s))

/-- MGMT_RSP (R172): A TC0 management response message is delivered or forwarded. -/
def execMgmtRsp (port : Nat) (m : TwillMsg) (s : State) : Host.Outcome State Fault Refusal :=
  .next (settle (when (s.isTwill port) (·.rowMessage port m 0 0x02) s))

/-- CMP (R173): A CMP response completes its tracker, or with LINK_FAIL triggers re-issue or propagation. -/
def execCmp (port : Nat) (m : TwillMsg) (s : State) : Host.Outcome State Fault Refusal :=
  .next (settle (when (s.isTwill port) (·.rowMessage port m 2 0x01) s))

/-- IO_CPL (R172): An IO completion without data completes its tracker. -/
def execIoCpl (port : Nat) (m : TwillMsg) (s : State) : Host.Outcome State Fault Refusal :=
  .next (settle (when (s.isTwill port) (·.rowMessage port m 2 0x02) s))

/-- DATA (R172): A DATA response delivers data and completes its tracker. -/
def execData (port : Nat) (m : TwillMsg) (s : State) : Host.Outcome State Fault Refusal :=
  .next (settle (when (s.isTwill port) (·.rowMessage port m 3 0x01) s))

/-- IO_CPLD (R172): An IO completion with data completes its tracker. -/
def execIoCpld (port : Nat) (m : TwillMsg) (s : State) : Host.Outcome State Fault Refusal :=
  .next (settle (when (s.isTwill port) (·.rowMessage port m 3 0x02) s))

/-- MEM_RD (R185): A Twill MEM_RD is checked and delivered locally or forwarded toward DST. -/
def execMemRd (port : Nat) (m : TwillMsg) (s : State) : Host.Outcome State Fault Refusal :=
  .next (settle (when (s.isTwill port) (·.rowMessage port m 4 0x01) s))

/-- MEM_WR (R185): A Twill MEM_WR of full lines is checked and delivered or forwarded. -/
def execMemWr (port : Nat) (m : TwillMsg) (s : State) : Host.Outcome State Fault Refusal :=
  .next (settle (when (s.isTwill port) (·.rowMessage port m 4 0x02) s))

/-- MEM_WR_PARTIAL (R185): A Twill partial line write is checked and delivered or forwarded. -/
def execMemWrPartial (port : Nat) (m : TwillMsg) (s : State) : Host.Outcome State Fault Refusal :=
  .next (settle (when (s.isTwill port) (·.rowMessage port m 4 0x03) s))

/-- ATOMIC (R336): A Twill ATOMIC is performed at its target and the old value returned. -/
def execAtomic (port : Nat) (m : TwillMsg) (s : State) : Host.Outcome State Fault Refusal :=
  .next (settle (when (s.isTwill port) (·.rowMessage port m 4 0x04) s))

/-- IO (R172): A Twill IO message carrying one CXL.io TLP is delivered or forwarded. -/
def execIo (port : Nat) (m : TwillMsg) (s : State) : Host.Outcome State Fault Refusal :=
  .next (settle (when (s.isTwill port) (·.rowMessage port m 5 0x01) s))

/-- BULK_RD (R172): A Twill BULK_RD is delivered or forwarded. -/
def execBulkRd (port : Nat) (m : TwillMsg) (s : State) : Host.Outcome State Fault Refusal :=
  .next (settle (when (s.isTwill port) (·.rowMessage port m (if m.tc = 7 then 7 else 6) 0x01) s))

/-- BULK_WR (R172): A Twill BULK_WR is delivered or forwarded. -/
def execBulkWr (port : Nat) (m : TwillMsg) (s : State) : Host.Outcome State Fault Refusal :=
  .next (settle (when (s.isTwill port) (·.rowMessage port m (if m.tc = 7 then 7 else 6) 0x02) s))

end Sys2Proof.Machine
end

