-- ==== Sys2Proof/Machine/Dispatch.lean ====
section
/-! DEFINITION. One arm for each command of the table. -/

namespace Sys2Proof.Machine

/-- The effect of a command on everything but the queue. -/
def exec (i : Instr) (s : State) : Host.Outcome State Fault Refusal :=
  match i with
  | .hello a0 a1 a2 => Sys2Proof.Machine.execHello a0 a1 a2 s
  | .read a0 a1 a2 => Sys2Proof.Machine.execRead a0 a1 a2 s
  | .write a0 a1 a2 => Sys2Proof.Machine.execWrite a0 a1 a2 s
  | .blockRead a0 a1 a2 => Sys2Proof.Machine.execBlockRead a0 a1 a2 s
  | .blockWrite a0 a1 a2 => Sys2Proof.Machine.execBlockWrite a0 a1 a2 s
  | .beginTxn a0 a1 a2 => Sys2Proof.Machine.execBeginTxn a0 a1 a2 s
  | .commit a0 a1 a2 => Sys2Proof.Machine.execCommit a0 a1 a2 s
  | .commitApply => Sys2Proof.Machine.execCommitApply s
  | .commitTimeout a0 => Sys2Proof.Machine.execCommitTimeout a0 s
  | .rollback a0 a1 a2 => Sys2Proof.Machine.execRollback a0 a1 a2 s
  | .subscribe a0 a1 a2 => Sys2Proof.Machine.execSubscribe a0 a1 a2 s
  | .notify => Sys2Proof.Machine.execNotify s
  | .crfAuth a0 => Sys2Proof.Machine.execCrfAuth a0 s
  | .sessionIdleTimeout a0 => Sys2Proof.Machine.execSessionIdleTimeout a0 s
  | .txnIdleTimeout a0 => Sys2Proof.Machine.execTxnIdleTimeout a0 s
  | .pfMbxGo a0 => Sys2Proof.Machine.execPfMbxGo a0 s
  | .pfMbxRspRelease a0 => Sys2Proof.Machine.execPfMbxRspRelease a0 s
  | .pfMbxNtfRelease a0 => Sys2Proof.Machine.execPfMbxNtfRelease a0 s
  | .crfKeySlot a0 a1 a2 => Sys2Proof.Machine.execCrfKeySlot a0 a1 a2 s
  | .crfKeyLock a0 a1 => Sys2Proof.Machine.execCrfKeyLock a0 a1 s
  | .crfFactoryReset a0 a1 => Sys2Proof.Machine.execCrfFactoryReset a0 a1 s
  | .crfTransportEnable a0 a1 => Sys2Proof.Machine.execCrfTransportEnable a0 a1 s
  | .crfMramWear => Sys2Proof.Machine.execCrfMramWear s
  | .gtpViolationRead a0 a1 => Sys2Proof.Machine.execGtpViolationRead a0 a1 s
  | .lomSampleRead a0 a1 => Sys2Proof.Machine.execLomSampleRead a0 a1 s
  | .pdkQsampleRead a0 a1 => Sys2Proof.Machine.execPdkQsampleRead a0 a1 s
  | .pdkTallyRead a0 a1 => Sys2Proof.Machine.execPdkTallyRead a0 a1 s
  | .barRegisterWrite a0 a1 a2 a3 => Sys2Proof.Machine.execBarRegisterWrite a0 a1 a2 a3 s
  | .powerOn => Sys2Proof.Machine.execPowerOn s
  | .brownOut => Sys2Proof.Machine.execBrownOut s
  | .coldReset => Sys2Proof.Machine.execColdReset s
  | .coldBoot a0 a1 => Sys2Proof.Machine.execColdBoot a0 a1 s
  | .refclkValid => Sys2Proof.Machine.execRefclkValid s
  | .vrPgRise a0 => Sys2Proof.Machine.execVrPgRise a0 s
  | .corePllLock a0 => Sys2Proof.Machine.execCorePllLock a0 s
  | .selftestPhaseB a0 => Sys2Proof.Machine.execSelftestPhaseB a0 s
  | .selftestPhaseC => Sys2Proof.Machine.execSelftestPhaseC s
  | .sysReady => Sys2Proof.Machine.execSysReady s
  | .uartRecoveryBlock a0 a1 => Sys2Proof.Machine.execUartRecoveryBlock a0 a1 s
  | .warmReset => Sys2Proof.Machine.execWarmReset s
  | .hrdWarmReset a0 a1 => Sys2Proof.Machine.execHrdWarmReset a0 a1 s
  | .pinfoldUartReport => Sys2Proof.Machine.execPinfoldUartReport s
  | .fwStart a0 => Sys2Proof.Machine.execFwStart a0 s
  | .crfFwChunk a0 a1 => Sys2Proof.Machine.execCrfFwChunk a0 a1 s
  | .fwFinish a0 => Sys2Proof.Machine.execFwFinish a0 s
  | .fwVerifyDone => Sys2Proof.Machine.execFwVerifyDone s
  | .fwActivate a0 => Sys2Proof.Machine.execFwActivate a0 s
  | .fwAbort a0 => Sys2Proof.Machine.execFwAbort a0 s
  | .portPerstN a0 => Sys2Proof.Machine.execPortPerstN a0 s
  | .perstRelease a0 => Sys2Proof.Machine.execPerstRelease a0 s
  | .hotReset a0 => Sys2Proof.Machine.execHotReset a0 s
  | .pwrBrakeN => Sys2Proof.Machine.execPwrBrakeN s
  | .pwrBrakeRelease => Sys2Proof.Machine.execPwrBrakeRelease s
  | .selRefclkLoss a0 a1 a2 => Sys2Proof.Machine.execSelRefclkLoss a0 a1 a2 s
  | .selRefclkRestore a0 a1 => Sys2Proof.Machine.execSelRefclkRestore a0 a1 s
  | .selPllUnlock a0 => Sys2Proof.Machine.execSelPllUnlock a0 s
  | .pllRelock a0 a1 => Sys2Proof.Machine.execPllRelock a0 a1 s
  | .selReeq a0 a1 a2 => Sys2Proof.Machine.execSelReeq a0 a1 a2 s
  | .partnerEqualization a0 => Sys2Proof.Machine.execPartnerEqualization a0 s
  | .reeqGrant a0 => Sys2Proof.Machine.execReeqGrant a0 s
  | .reeqGrantTimeout a0 => Sys2Proof.Machine.execReeqGrantTimeout a0 s
  | .reeqEnd a0 => Sys2Proof.Machine.execReeqEnd a0 s
  | .alignmentMarker a0 a1 a2 a3 => Sys2Proof.Machine.execAlignmentMarker a0 a1 a2 a3 s
  | .skipBlock a0 a1 => Sys2Proof.Machine.execSkipBlock a0 a1 s
  | .selElasticErrors a0 => Sys2Proof.Machine.execSelElasticErrors a0 s
  | .losAssert a0 => Sys2Proof.Machine.execLosAssert a0 s
  | .losRelease a0 => Sys2Proof.Machine.execLosRelease a0 s
  | .selInject a0 a1 a2 => Sys2Proof.Machine.execSelInject a0 a1 a2 s
  | .selPrbsClear a0 a1 a2 => Sys2Proof.Machine.execSelPrbsClear a0 a1 a2 s
  | .marginRunStart a0 a1 a2 => Sys2Proof.Machine.execMarginRunStart a0 a1 a2 s
  | .marginRunDone a0 a1 => Sys2Proof.Machine.execMarginRunDone a0 a1 s
  | .partnerMarginCommand a0 a1 => Sys2Proof.Machine.execPartnerMarginCommand a0 a1 s
  | .linkUp a0 a1 => Sys2Proof.Machine.execLinkUp a0 a1 s
  | .linkDown a0 a1 => Sys2Proof.Machine.execLinkDown a0 a1 s
  | .dpcRelease a0 => Sys2Proof.Machine.execDpcRelease a0 s
  | .trackerTimeout a0 a1 => Sys2Proof.Machine.execTrackerTimeout a0 a1 s
  | .portResponse a0 a1 => Sys2Proof.Machine.execPortResponse a0 a1 s
  | .cxlIoTlp a0 a1 => Sys2Proof.Machine.execCxlIoTlp a0 a1 s
  | .pmeTurnOff a0 => Sys2Proof.Machine.execPmeTurnOff a0 s
  | .pmeToAck a0 => Sys2Proof.Machine.execPmeToAck a0 s
  | .pmeToAckTimeout a0 => Sys2Proof.Machine.execPmeToAckTimeout a0 s
  | .powerControllerControl a0 a1 => Sys2Proof.Machine.execPowerControllerControl a0 a1 s
  | .addCapacityResponse a0 a1 => Sys2Proof.Machine.execAddCapacityResponse a0 a1 s
  | .prtDcResponse a0 a1 => Sys2Proof.Machine.execPrtDcResponse a0 a1 s
  | .releaseDynamicCapacity a0 a1 => Sys2Proof.Machine.execReleaseDynamicCapacity a0 a1 s
  | .clearEventRecords a0 a1 => Sys2Proof.Machine.execClearEventRecords a0 a1 s
  | .deviceDcAdd a0 a1 a2 a3 => Sys2Proof.Machine.execDeviceDcAdd a0 a1 a2 a3 s
  | .deviceForcedRemoval a0 a1 a2 a3 => Sys2Proof.Machine.execDeviceForcedRemoval a0 a1 a2 a3 s
  | .fmApiCommand a0 a1 => Sys2Proof.Machine.execFmApiCommand a0 a1 s
  | .getVersion a0 a1 => Sys2Proof.Machine.execGetVersion a0 a1 s
  | .getCapabilities a0 a1 => Sys2Proof.Machine.execGetCapabilities a0 a1 s
  | .negotiateAlgorithms a0 a1 => Sys2Proof.Machine.execNegotiateAlgorithms a0 a1 s
  | .getDigests a0 a1 => Sys2Proof.Machine.execGetDigests a0 a1 s
  | .getCertificate a0 a1 => Sys2Proof.Machine.execGetCertificate a0 a1 s
  | .challenge a0 a1 => Sys2Proof.Machine.execChallenge a0 a1 s
  | .getMeasurements a0 a1 => Sys2Proof.Machine.execGetMeasurements a0 a1 s
  | .keyExchange a0 a1 => Sys2Proof.Machine.execKeyExchange a0 a1 s
  | .finish a0 a1 => Sys2Proof.Machine.execFinish a0 a1 s
  | .heartbeat a0 a1 => Sys2Proof.Machine.execHeartbeat a0 a1 s
  | .keyUpdate a0 a1 => Sys2Proof.Machine.execKeyUpdate a0 a1 s
  | .endSession a0 a1 => Sys2Proof.Machine.execEndSession a0 a1 s
  | .ideKm a0 a1 a2 a3 a4 => Sys2Proof.Machine.execIdeKm a0 a1 a2 a3 a4 s
  | .prtIdeFail a0 a1 => Sys2Proof.Machine.execPrtIdeFail a0 a1 s
  | .prtController a0 => Sys2Proof.Machine.execPrtController a0 s
  | .dataFlit a0 a1 => Sys2Proof.Machine.execDataFlit a0 a1 s
  | .ctrlFlit a0 a1 => Sys2Proof.Machine.execCtrlFlit a0 a1 s
  | .ack a0 a1 a2 => Sys2Proof.Machine.execAck a0 a1 a2 s
  | .credit a0 a1 => Sys2Proof.Machine.execCredit a0 a1 s
  | .config a0 a1 => Sys2Proof.Machine.execConfig a0 a1 s
  | .initMsg a0 a1 a2 a3 => Sys2Proof.Machine.execInitMsg a0 a1 a2 a3 s
  | .eq a0 a1 a2 a3 a4 a5 => Sys2Proof.Machine.execEq a0 a1 a2 a3 a4 a5 s
  | .retrain a0 a1 a2 a3 a4 => Sys2Proof.Machine.execRetrain a0 a1 a2 a3 a4 s
  | .ackTimer a0 => Sys2Proof.Machine.execAckTimer a0 s
  | .creditTimer a0 => Sys2Proof.Machine.execCreditTimer a0 s
  | .twlReplayTimer a0 => Sys2Proof.Machine.execTwlReplayTimer a0 s
  | .twlLinkDown a0 => Sys2Proof.Machine.execTwlLinkDown a0 s
  | .trainingTimeout a0 => Sys2Proof.Machine.execTrainingTimeout a0 s
  | .trainingRestart a0 => Sys2Proof.Machine.execTrainingRestart a0 s
  | .twlRetrain a0 a1 a2 => Sys2Proof.Machine.execTwlRetrain a0 a1 a2 s
  | .replayBufferEmpty a0 => Sys2Proof.Machine.execReplayBufferEmpty a0 s
  | .retrainHoldTimeout a0 => Sys2Proof.Machine.execRetrainHoldTimeout a0 s
  | .twlReenable a0 a1 a2 => Sys2Proof.Machine.execTwlReenable a0 a1 a2 s
  | .twlTrackerTimeout a0 a1 => Sys2Proof.Machine.execTwlTrackerTimeout a0 a1 s
  | .mgmtReq a0 a1 => Sys2Proof.Machine.execMgmtReq a0 a1 s
  | .mgmtRsp a0 a1 => Sys2Proof.Machine.execMgmtRsp a0 a1 s
  | .cmp a0 a1 => Sys2Proof.Machine.execCmp a0 a1 s
  | .ioCpl a0 a1 => Sys2Proof.Machine.execIoCpl a0 a1 s
  | .data a0 a1 => Sys2Proof.Machine.execData a0 a1 s
  | .ioCpld a0 a1 => Sys2Proof.Machine.execIoCpld a0 a1 s
  | .memRd a0 a1 => Sys2Proof.Machine.execMemRd a0 a1 s
  | .memWr a0 a1 => Sys2Proof.Machine.execMemWr a0 a1 s
  | .memWrPartial a0 a1 => Sys2Proof.Machine.execMemWrPartial a0 a1 s
  | .atomic a0 a1 => Sys2Proof.Machine.execAtomic a0 a1 s
  | .io a0 a1 => Sys2Proof.Machine.execIo a0 a1 s
  | .bulkRd a0 a1 => Sys2Proof.Machine.execBulkRd a0 a1 s
  | .bulkWr a0 a1 => Sys2Proof.Machine.execBulkWr a0 a1 s
  | .onChipReserveWait a0 => Sys2Proof.Machine.execOnChipReserveWait a0 s
  | .messageStart a0 a1 => Sys2Proof.Machine.execMessageStart a0 a1 s
  | .messageTransmit a0 a1 a2 => Sys2Proof.Machine.execMessageTransmit a0 a1 a2 s
  | .lomReseqSkip a0 a1 a2 => Sys2Proof.Machine.execLomReseqSkip a0 a1 a2 s
  | .flowIdle a0 a1 a2 => Sys2Proof.Machine.execFlowIdle a0 a1 a2 s
  | .refill a0 => Sys2Proof.Machine.execRefill a0 s
  | .sampleCapture a0 => Sys2Proof.Machine.execSampleCapture a0 s
  | .lomSlice a0 => Sys2Proof.Machine.execLomSlice a0 s
  | .fldReleaseRequest a0 a1 => Sys2Proof.Machine.execFldReleaseRequest a0 a1 s
  | .releaseCapacityPost => Sys2Proof.Machine.execReleaseCapacityPost s
  | .internalCommit => Sys2Proof.Machine.execInternalCommit s
  | .fldExtentEcc a0 a1 => Sys2Proof.Machine.execFldExtentEcc a0 a1 s
  | .fldRouteEcc a0 a1 => Sys2Proof.Machine.execFldRouteEcc a0 a1 s
  | .fldTableEcc a0 a1 => Sys2Proof.Machine.execFldTableEcc a0 a1 s
  | .fldDirtyWrite a0 => Sys2Proof.Machine.execFldDirtyWrite a0 s
  | .tableRestore a0 a1 => Sys2Proof.Machine.execTableRestore a0 a1 s
  | .gtpLockRequest a0 a1 => Sys2Proof.Machine.execGtpLockRequest a0 a1 s
  | .gtpTableEcc a0 a1 => Sys2Proof.Machine.execGtpTableEcc a0 a1 s
  | .memrdSnpdata a0 a1 => Sys2Proof.Machine.execMemrdSnpdata a0 a1 s
  | .memrdSnpinv a0 a1 => Sys2Proof.Machine.execMemrdSnpinv a0 a1 s
  | .meminv a0 a1 => Sys2Proof.Machine.execMeminv a0 a1 s
  | .memrdSnpcur a0 a1 => Sys2Proof.Machine.execMemrdSnpcur a0 a1 s
  | .memwr a0 a1 => Sys2Proof.Machine.execMemwr a0 a1 s
  | .memwrptl a0 a1 => Sys2Proof.Machine.execMemwrptl a0 a1 s
  | .memclnevct a0 a1 => Sys2Proof.Machine.execMemclnevct a0 a1 s
  | .birspi a0 a1 => Sys2Proof.Machine.execBirspi a0 a1 s
  | .birsps a0 a1 => Sys2Proof.Machine.execBirsps a0 a1 s
  | .birspe a0 a1 => Sys2Proof.Machine.execBirspe a0 a1 s
  | .biconflict a0 a1 a2 => Sys2Proof.Machine.execBiconflict a0 a1 a2 s
  | .blwBisnpTimeout a0 a1 a2 => Sys2Proof.Machine.execBlwBisnpTimeout a0 a1 a2 s
  | .bisnp a0 a1 a2 => Sys2Proof.Machine.execBisnp a0 a1 a2 s
  | .rdShared a0 a1 => Sys2Proof.Machine.execRdShared a0 a1 s
  | .rdOwn a0 a1 => Sys2Proof.Machine.execRdOwn a0 a1 s
  | .upgrade a0 a1 => Sys2Proof.Machine.execUpgrade a0 a1 s
  | .rdCur a0 a1 => Sys2Proof.Machine.execRdCur a0 a1 s
  | .wrInv a0 a1 => Sys2Proof.Machine.execWrInv a0 a1 s
  | .wrInvPartial a0 a1 => Sys2Proof.Machine.execWrInvPartial a0 a1 s
  | .atomicCoh a0 a1 => Sys2Proof.Machine.execAtomicCoh a0 a1 s
  | .evict a0 a1 => Sys2Proof.Machine.execEvict a0 a1 s
  | .dataS a0 a1 => Sys2Proof.Machine.execDataS a0 a1 s
  | .dataF a0 a1 => Sys2Proof.Machine.execDataF a0 a1 s
  | .dataE a0 a1 => Sys2Proof.Machine.execDataE a0 a1 s
  | .dataM a0 a1 => Sys2Proof.Machine.execDataM a0 a1 s
  | .dataCur a0 a1 => Sys2Proof.Machine.execDataCur a0 a1 s
  | .wbM a0 a1 => Sys2Proof.Machine.execWbM a0 a1 s
  | .snpDataI a0 a1 => Sys2Proof.Machine.execSnpDataI a0 a1 s
  | .snpDataS a0 a1 => Sys2Proof.Machine.execSnpDataS a0 a1 s
  | .snpDataKeep a0 a1 => Sys2Proof.Machine.execSnpDataKeep a0 a1 s
  | .bwCmp a0 a1 => Sys2Proof.Machine.execBwCmp a0 a1 s
  | .gntOwn a0 a1 => Sys2Proof.Machine.execGntOwn a0 a1 s
  | .snpI a0 a1 => Sys2Proof.Machine.execSnpI a0 a1 s
  | .snpS a0 a1 => Sys2Proof.Machine.execSnpS a0 a1 s
  | .snpIWb a0 a1 => Sys2Proof.Machine.execSnpIWb a0 a1 s
  | .fwdDone a0 a1 => Sys2Proof.Machine.execFwdDone a0 a1 s
  | .fwdMissS a0 a1 => Sys2Proof.Machine.execFwdMissS a0 a1 s
  | .fwdMissI a0 a1 => Sys2Proof.Machine.execFwdMissI a0 a1 s
  | .fwdShared a0 a1 => Sys2Proof.Machine.execFwdShared a0 a1 s
  | .fwdOwn a0 a1 => Sys2Proof.Machine.execFwdOwn a0 a1 s
  | .snpInv a0 a1 => Sys2Proof.Machine.execSnpInv a0 a1 s
  | .snpData a0 a1 => Sys2Proof.Machine.execSnpData a0 a1 s
  | .snpCur a0 a1 => Sys2Proof.Machine.execSnpCur a0 a1 s
  | .retrySlotAllocate a0 a1 => Sys2Proof.Machine.execRetrySlotAllocate a0 a1 s
  | .conflictQueueProcess a0 a1 => Sys2Proof.Machine.execConflictQueueProcess a0 a1 s
  | .wbMReissue a0 a1 => Sys2Proof.Machine.execWbMReissue a0 a1 s
  | .blwLookupLine a0 a1 a2 => Sys2Proof.Machine.execBlwLookupLine a0 a1 a2 s
  | .blwFlushFold a0 a1 => Sys2Proof.Machine.execBlwFlushFold a0 a1 s
  | .bulkFlushGrant => Sys2Proof.Machine.execBulkFlushGrant s
  | .flushEnd => Sys2Proof.Machine.execFlushEnd s
  | .blwSetEcc a0 a1 a2 a3 => Sys2Proof.Machine.execBlwSetEcc a0 a1 a2 a3 s
  | .setRebuildTimeout a0 a1 => Sys2Proof.Machine.execSetRebuildTimeout a0 a1 s
  | .blwNearEcc a0 a1 => Sys2Proof.Machine.execBlwNearEcc a0 a1 s
  | .tickBoundary => Sys2Proof.Machine.execTickBoundary s
  | .tickJobOverrun a0 a1 => Sys2Proof.Machine.execTickJobOverrun a0 a1 s
  | .laneEvaluate a0 => Sys2Proof.Machine.execLaneEvaluate a0 s
  | .qsampleCapture a0 => Sys2Proof.Machine.execQsampleCapture a0 s
  | .tallyBlock => Sys2Proof.Machine.execTallyBlock s
  | .pdkHistClear a0 a1 => Sys2Proof.Machine.execPdkHistClear a0 a1 s
  | .pdkBucketEcc a0 a1 a2 => Sys2Proof.Machine.execPdkBucketEcc a0 a1 a2 s
  | .pdkMeterEcc a0 a1 a2 a3 => Sys2Proof.Machine.execPdkMeterEcc a0 a1 a2 a3 s
  | .dispatch => Sys2Proof.Machine.execDispatch s
  | .add a0 a1 a2 a3 => Sys2Proof.Machine.execAdd a0 a1 a2 a3 s
  | .sub a0 a1 a2 a3 => Sys2Proof.Machine.execSub a0 a1 a2 a3 s
  | .and a0 a1 a2 a3 => Sys2Proof.Machine.execAnd a0 a1 a2 a3 s
  | .or a0 a1 a2 a3 => Sys2Proof.Machine.execOr a0 a1 a2 a3 s
  | .xor a0 a1 a2 a3 => Sys2Proof.Machine.execXor a0 a1 a2 a3 s
  | .sll a0 a1 a2 a3 => Sys2Proof.Machine.execSll a0 a1 a2 a3 s
  | .srl a0 a1 a2 a3 => Sys2Proof.Machine.execSrl a0 a1 a2 a3 s
  | .sra a0 a1 a2 a3 => Sys2Proof.Machine.execSra a0 a1 a2 a3 s
  | .slt a0 a1 a2 a3 => Sys2Proof.Machine.execSlt a0 a1 a2 a3 s
  | .sltu a0 a1 a2 a3 => Sys2Proof.Machine.execSltu a0 a1 a2 a3 s
  | .mul a0 a1 a2 a3 => Sys2Proof.Machine.execMul a0 a1 a2 a3 s
  | .mulhu a0 a1 a2 a3 => Sys2Proof.Machine.execMulhu a0 a1 a2 a3 s
  | .divu a0 a1 a2 a3 => Sys2Proof.Machine.execDivu a0 a1 a2 a3 s
  | .remu a0 a1 a2 a3 => Sys2Proof.Machine.execRemu a0 a1 a2 a3 s
  | .min a0 a1 a2 a3 => Sys2Proof.Machine.execMin a0 a1 a2 a3 s
  | .max a0 a1 a2 a3 => Sys2Proof.Machine.execMax a0 a1 a2 a3 s
  | .minu a0 a1 a2 a3 => Sys2Proof.Machine.execMinu a0 a1 a2 a3 s
  | .maxu a0 a1 a2 a3 => Sys2Proof.Machine.execMaxu a0 a1 a2 a3 s
  | .clz a0 a1 a2 a3 => Sys2Proof.Machine.execClz a0 a1 a2 a3 s
  | .popc a0 a1 a2 a3 => Sys2Proof.Machine.execPopc a0 a1 a2 a3 s
  | .bswap a0 a1 a2 a3 => Sys2Proof.Machine.execBswap a0 a1 a2 a3 s
  | .crc32c a0 a1 a2 a3 => Sys2Proof.Machine.execCrc32c a0 a1 a2 a3 s
  | .addi a0 a1 a2 a3 => Sys2Proof.Machine.execAddi a0 a1 a2 a3 s
  | .andi a0 a1 a2 a3 => Sys2Proof.Machine.execAndi a0 a1 a2 a3 s
  | .ori a0 a1 a2 a3 => Sys2Proof.Machine.execOri a0 a1 a2 a3 s
  | .xori a0 a1 a2 a3 => Sys2Proof.Machine.execXori a0 a1 a2 a3 s
  | .slli a0 a1 a2 a3 => Sys2Proof.Machine.execSlli a0 a1 a2 a3 s
  | .srli a0 a1 a2 a3 => Sys2Proof.Machine.execSrli a0 a1 a2 a3 s
  | .srai a0 a1 a2 a3 => Sys2Proof.Machine.execSrai a0 a1 a2 a3 s
  | .slti a0 a1 a2 a3 => Sys2Proof.Machine.execSlti a0 a1 a2 a3 s
  | .sltiu a0 a1 a2 a3 => Sys2Proof.Machine.execSltiu a0 a1 a2 a3 s
  | .lui a0 a1 a2 a3 => Sys2Proof.Machine.execLui a0 a1 a2 a3 s
  | .shlori a0 a1 a2 a3 => Sys2Proof.Machine.execShlori a0 a1 a2 a3 s
  | .ld8 a0 a1 a2 a3 => Sys2Proof.Machine.execLd8 a0 a1 a2 a3 s
  | .ld16 a0 a1 a2 a3 => Sys2Proof.Machine.execLd16 a0 a1 a2 a3 s
  | .ld32 a0 a1 a2 a3 => Sys2Proof.Machine.execLd32 a0 a1 a2 a3 s
  | .ld64 a0 a1 a2 a3 => Sys2Proof.Machine.execLd64 a0 a1 a2 a3 s
  | .lds8 a0 a1 a2 a3 => Sys2Proof.Machine.execLds8 a0 a1 a2 a3 s
  | .lds16 a0 a1 a2 a3 => Sys2Proof.Machine.execLds16 a0 a1 a2 a3 s
  | .lds32 a0 a1 a2 a3 => Sys2Proof.Machine.execLds32 a0 a1 a2 a3 s
  | .st8 a0 a1 a2 a3 => Sys2Proof.Machine.execSt8 a0 a1 a2 a3 s
  | .st16 a0 a1 a2 a3 => Sys2Proof.Machine.execSt16 a0 a1 a2 a3 s
  | .st32 a0 a1 a2 a3 => Sys2Proof.Machine.execSt32 a0 a1 a2 a3 s
  | .st64 a0 a1 a2 a3 => Sys2Proof.Machine.execSt64 a0 a1 a2 a3 s
  | .latom a0 a1 a2 a3 a4 a5 => Sys2Proof.Machine.execLatom a0 a1 a2 a3 a4 a5 s
  | .beq a0 a1 a2 a3 => Sys2Proof.Machine.execBeq a0 a1 a2 a3 s
  | .bne a0 a1 a2 a3 => Sys2Proof.Machine.execBne a0 a1 a2 a3 s
  | .blt a0 a1 a2 a3 => Sys2Proof.Machine.execBlt a0 a1 a2 a3 s
  | .bge a0 a1 a2 a3 => Sys2Proof.Machine.execBge a0 a1 a2 a3 s
  | .bltu a0 a1 a2 a3 => Sys2Proof.Machine.execBltu a0 a1 a2 a3 s
  | .bgeu a0 a1 a2 a3 => Sys2Proof.Machine.execBgeu a0 a1 a2 a3 s
  | .jal a0 a1 a2 => Sys2Proof.Machine.execJal a0 a1 a2 s
  | .jalr a0 a1 a2 a3 => Sys2Proof.Machine.execJalr a0 a1 a2 a3 s
  | .frd a0 a1 => Sys2Proof.Machine.execFrd a0 a1 s
  | .fwr a0 a1 => Sys2Proof.Machine.execFwr a0 a1 s
  | .fatom32 a0 a1 => Sys2Proof.Machine.execFatom32 a0 a1 s
  | .fatom64 a0 a1 => Sys2Proof.Machine.execFatom64 a0 a1 s
  | .moveCopy a0 a1 => Sys2Proof.Machine.execMoveCopy a0 a1 s
  | .moveFill a0 a1 => Sys2Proof.Machine.execMoveFill a0 a1 s
  | .moveZero a0 a1 => Sys2Proof.Machine.execMoveZero a0 a1 s
  | .moveLocal a0 a1 => Sys2Proof.Machine.execMoveLocal a0 a1 s
  | .moveChunkComplete a0 a1 a2 => Sys2Proof.Machine.execMoveChunkComplete a0 a1 a2 s
  | .fabricOpComplete a0 a1 => Sys2Proof.Machine.execFabricOpComplete a0 a1 s
  | .fwaith a0 a1 => Sys2Proof.Machine.execFwaith a0 a1 s
  | .fpoll a0 a1 => Sys2Proof.Machine.execFpoll a0 a1 s
  | .ffence a0 a1 => Sys2Proof.Machine.execFfence a0 a1 s
  | .leave a0 a1 => Sys2Proof.Machine.execLeave a0 a1 s
  | .leaveGrant a0 => Sys2Proof.Machine.execLeaveGrant a0 s
  | .csrr a0 a1 a2 a3 => Sys2Proof.Machine.execCsrr a0 a1 a2 a3 s
  | .csrw a0 a1 a2 a3 => Sys2Proof.Machine.execCsrw a0 a1 a2 a3 s
  | .wait a0 a1 a2 a3 => Sys2Proof.Machine.execWait a0 a1 a2 a3 s
  | .waitWake a0 => Sys2Proof.Machine.execWaitWake a0 s
  | .halt a0 => Sys2Proof.Machine.execHalt a0 s
  | .trap a0 => Sys2Proof.Machine.execTrap a0 s
  | .yield a0 => Sys2Proof.Machine.execYield a0 s
  | .eret a0 => Sys2Proof.Machine.execEret a0 s
  | .timeLimit a0 => Sys2Proof.Machine.execTimeLimit a0 s
  | .loadStart a0 => Sys2Proof.Machine.execLoadStart a0 s
  | .drvLoadChunk a0 a1 => Sys2Proof.Machine.execDrvLoadChunk a0 a1 s
  | .loadFinish a0 => Sys2Proof.Machine.execLoadFinish a0 s
  | .loadVerifyDone => Sys2Proof.Machine.execLoadVerifyDone s
  | .loadAbort a0 => Sys2Proof.Machine.execLoadAbort a0 s
  | .loadUnload a0 => Sys2Proof.Machine.execLoadUnload a0 s
  | .unloadComplete a0 => Sys2Proof.Machine.execUnloadComplete a0 s
  | .zeroRelease a0 a1 => Sys2Proof.Machine.execZeroRelease a0 a1 s
  | .drvZeroRetry a0 a1 => Sys2Proof.Machine.execDrvZeroRetry a0 a1 s
  | .drvHotpageFold a0 a1 => Sys2Proof.Machine.execDrvHotpageFold a0 a1 s
  | .hotpagePublish => Sys2Proof.Machine.execHotpagePublish s
  | .drvEngineFence a0 a1 a2 => Sys2Proof.Machine.execDrvEngineFence a0 a1 a2 s
  | .drvEngine a0 => Sys2Proof.Machine.execDrvEngine a0 s
  | .drvCluster a0 => Sys2Proof.Machine.execDrvCluster a0 s
  | .drvSramEcc a0 a1 a2 => Sys2Proof.Machine.execDrvSramEcc a0 a1 a2 s
  | .vfSqTail a0 a1 a2 a3 => Sys2Proof.Machine.execVfSqTail a0 a1 a2 a3 s
  | .vfCqHead a0 a1 a2 a3 => Sys2Proof.Machine.execVfCqHead a0 a1 a2 a3 s
  | .sqEnable a0 a1 a2 => Sys2Proof.Machine.execSqEnable a0 a1 a2 s
  | .sqDisable a0 a1 a2 => Sys2Proof.Machine.execSqDisable a0 a1 a2 s
  | .cqEnable a0 a1 a2 a3 => Sys2Proof.Machine.execCqEnable a0 a1 a2 a3 s
  | .cqDisable a0 a1 a2 a3 => Sys2Proof.Machine.execCqDisable a0 a1 a2 a3 s
  | .vfErr a0 a1 a2 => Sys2Proof.Machine.execVfErr a0 a1 a2 s
  | .pfIntCause a0 a1 => Sys2Proof.Machine.execPfIntCause a0 a1 s
  | .pfVfEvent a0 a1 a2 a3 => Sys2Proof.Machine.execPfVfEvent a0 a1 a2 a3 s
  | .msixUnmask a0 a1 => Sys2Proof.Machine.execMsixUnmask a0 a1 s
  | .descriptorFetch => Sys2Proof.Machine.execDescriptorFetch s
  | .descriptorFetched a0 a1 a2 => Sys2Proof.Machine.execDescriptorFetched a0 a1 a2 s
  | .nop a0 a1 => Sys2Proof.Machine.execNop a0 a1 s
  | .copy a0 => Sys2Proof.Machine.execCopy a0 s
  | .fill a0 => Sys2Proof.Machine.execFill a0 s
  | .zero a0 => Sys2Proof.Machine.execZero a0 s
  | .crc32cDescriptor a0 => Sys2Proof.Machine.execCrc32cDescriptor a0 s
  | .compare a0 => Sys2Proof.Machine.execCompare a0 s
  | .run a0 a1 => Sys2Proof.Machine.execRun a0 a1 s
  | .fence a0 a1 => Sys2Proof.Machine.execFence a0 a1 s
  | .tfbCplWrite a0 a1 => Sys2Proof.Machine.execTfbCplWrite a0 a1 s
  | .cqModTimer a0 a1 => Sys2Proof.Machine.execCqModTimer a0 a1 s
  | .vfEnable a0 a1 => Sys2Proof.Machine.execVfEnable a0 a1 s
  | .majorSelect a0 a1 => Sys2Proof.Machine.execMajorSelect a0 a1 s
  | .initiateFlr a0 => Sys2Proof.Machine.execInitiateFlr a0 s
  | .flrComplete a0 => Sys2Proof.Machine.execFlrComplete a0 s
  | .d3hotEntry a0 => Sys2Proof.Machine.execD3hotEntry a0 s
  | .d0Return a0 => Sys2Proof.Machine.execD0Return a0 s
  | .translationCompletion a0 a1 a2 a3 => Sys2Proof.Machine.execTranslationCompletion a0 a1 a2 a3 s
  | .invalidateRequest a0 a1 a2 => Sys2Proof.Machine.execInvalidateRequest a0 a1 a2 s
  | .tfbQueueEcc a0 a1 => Sys2Proof.Machine.execTfbQueueEcc a0 a1 s
  | .freeze a0 a1 => Sys2Proof.Machine.execFreeze a0 a1 s
  | .freezeDone a0 a1 => Sys2Proof.Machine.execFreezeDone a0 a1 s
  | .save a0 a1 => Sys2Proof.Machine.execSave a0 a1 s
  | .saveDone a0 a1 a2 => Sys2Proof.Machine.execSaveDone a0 a1 a2 s
  | .restore a0 a1 => Sys2Proof.Machine.execRestore a0 a1 s
  | .restoreDone a0 a1 a2 a3 => Sys2Proof.Machine.execRestoreDone a0 a1 a2 a3 s
  | .resume a0 a1 => Sys2Proof.Machine.execResume a0 a1 s
  | .rebindOwnerChange => Sys2Proof.Machine.execRebindOwnerChange s
  | .rebindRelease => Sys2Proof.Machine.execRebindRelease s
  | .harvestStart a0 => Sys2Proof.Machine.execHarvestStart a0 s
  | .harvestStop a0 => Sys2Proof.Machine.execHarvestStop a0 s
  | .harvestDone a0 => Sys2Proof.Machine.execHarvestDone a0 s
  | .scrubBurst a0 => Sys2Proof.Machine.execScrubBurst a0 s
  | .scrubBurstEnd => Sys2Proof.Machine.execScrubBurstEnd s
  | .cmnScrubBehind => Sys2Proof.Machine.execCmnScrubBehind s
  | .cmnTemp a0 a1 a2 => Sys2Proof.Machine.execCmnTemp a0 a1 a2 s
  | .cmnChannel a0 => Sys2Proof.Machine.execCmnChannel a0 s
  | .externalLineChange a0 a1 a2 => Sys2Proof.Machine.execExternalLineChange a0 a1 a2 s
  | .cicClaim a0 => Sys2Proof.Machine.execCicClaim a0 s
  | .cicComplete a0 a1 => Sys2Proof.Machine.execCicComplete a0 a1 s
  | .cicGlobal a0 => Sys2Proof.Machine.execCicGlobal a0 s
  | .tallyOverflow a0 a1 => Sys2Proof.Machine.execTallyOverflow a0 a1 s
  | .crfTallyOvfClear a0 a1 => Sys2Proof.Machine.execCrfTallyOvfClear a0 a1 s
  | .hrdFaultAck a0 a1 => Sys2Proof.Machine.execHrdFaultAck a0 a1 s
  | .isolationReturn => Sys2Proof.Machine.execIsolationReturn s
  | .hrdFaultInject a0 a1 => Sys2Proof.Machine.execHrdFaultInject a0 a1 s
  | .bothyWindowAdvance => Sys2Proof.Machine.execBothyWindowAdvance s
  | .crfCore a0 => Sys2Proof.Machine.execCrfCore a0 s
  | .crfMgmtPort a0 => Sys2Proof.Machine.execCrfMgmtPort a0 s
  | .sync a0 => Sys2Proof.Machine.execSync a0 s
  | .delayResp a0 => Sys2Proof.Machine.execDelayResp a0 s
  | .announce a0 => Sys2Proof.Machine.execAnnounce a0 s
  | .ptpHoldover => Sys2Proof.Machine.execPtpHoldover s
  | .ptpUnlock => Sys2Proof.Machine.execPtpUnlock s
  | .tsPpsIn a0 => Sys2Proof.Machine.execTsPpsIn a0 s
  | .tsPpsOut => Sys2Proof.Machine.execTsPpsOut s
  | .hrdRegion a0 => Sys2Proof.Machine.execHrdRegion a0 s
  | .regionThrottleRelease a0 => Sys2Proof.Machine.execRegionThrottleRelease a0 s
  | .hrdThermal a0 a1 => Sys2Proof.Machine.execHrdThermal a0 a1 s
  | .budgetStepdown a0 => Sys2Proof.Machine.execBudgetStepdown a0 s
  | .thermalRelease a0 => Sys2Proof.Machine.execThermalRelease a0 s
  | .hrdThermalCritical a0 a1 => Sys2Proof.Machine.execHrdThermalCritical a0 a1 s
  | .hrdRefclkLoss => Sys2Proof.Machine.execHrdRefclkLoss s
  | .hrdSupply a0 => Sys2Proof.Machine.execHrdSupply a0 s
  | .pmbusPoll a0 => Sys2Proof.Machine.execPmbusPoll a0 s
  | .governorBaseUpdate => Sys2Proof.Machine.execGovernorBaseUpdate s
  | .fallowRequest a0 => Sys2Proof.Machine.execFallowRequest a0 s
  | .fallowGate a0 => Sys2Proof.Machine.execFallowGate a0 s
  | .fallowWake a0 => Sys2Proof.Machine.execFallowWake a0 s
  | .winteringRequest a0 => Sys2Proof.Machine.execWinteringRequest a0 s
  | .wakeTimer => Sys2Proof.Machine.execWakeTimer s
  | .wakeEvent a0 => Sys2Proof.Machine.execWakeEvent a0 s
  | .wakeRetry => Sys2Proof.Machine.execWakeRetry s
  | .wakeComplete => Sys2Proof.Machine.execWakeComplete s
  | .hrdPadRelease a0 a1 => Sys2Proof.Machine.execHrdPadRelease a0 a1 s
  | .slotGrantRequest a0 => Sys2Proof.Machine.execSlotGrantRequest a0 s
  | .slotGrant a0 => Sys2Proof.Machine.execSlotGrant a0 s
  | .slotOn a0 a1 a2 => Sys2Proof.Machine.execSlotOn a0 a1 a2 s
  | .powerGoodAssert a0 => Sys2Proof.Machine.execPowerGoodAssert a0 s
  | .powerGoodRelease a0 a1 => Sys2Proof.Machine.execPowerGoodRelease a0 a1 s
  | .currentLimit a0 a1 => Sys2Proof.Machine.execCurrentLimit a0 a1 s
  | .faultTimerExpiry a0 => Sys2Proof.Machine.execFaultTimerExpiry a0 s
  | .shortCircuit a0 a1 => Sys2Proof.Machine.execShortCircuit a0 a1 s
  | .fetOvertemp a0 a1 a2 => Sys2Proof.Machine.execFetOvertemp a0 a1 a2 s
  | .thermistorOutOfRange a0 a1 => Sys2Proof.Machine.execThermistorOutOfRange a0 a1 s
  | .rampTimeout a0 => Sys2Proof.Machine.execRampTimeout a0 s
  | .hrdSlotFet a0 a1 a2 => Sys2Proof.Machine.execHrdSlotFet a0 a1 a2 s
  | .pwrfailAssert a0 a1 => Sys2Proof.Machine.execPwrfailAssert a0 a1 s
  | .pwrfailRelease a0 a1 => Sys2Proof.Machine.execPwrfailRelease a0 a1 s
  | .slotGateOff a0 => Sys2Proof.Machine.execSlotGateOff a0 s
  | .checkerLock a0 a1 => Sys2Proof.Machine.execCheckerLock a0 a1 s
  | .checkerLockLoss a0 a1 a2 => Sys2Proof.Machine.execCheckerLockLoss a0 a1 a2 s
  | .aspmL1Entry a0 => Sys2Proof.Machine.execAspmL1Entry a0 s
  | .l1ExitComplete a0 => Sys2Proof.Machine.execL1ExitComplete a0 s
  | .perstDeassert a0 => Sys2Proof.Machine.execPerstDeassert a0 s
  | .hdmDecoderCommit a0 a1 a2 => Sys2Proof.Machine.execHdmDecoderCommit a0 a1 a2 s
  | .configurationWrite a0 a1 => Sys2Proof.Machine.execConfigurationWrite a0 a1 s
  | .cxlCacheMessage a0 a1 => Sys2Proof.Machine.execCxlCacheMessage a0 a1 s
  | .updateFc a0 a1 a2 a3 => Sys2Proof.Machine.execUpdateFc a0 a1 a2 a3 s
  | .debugMasterAccess a0 a1 a2 a3 a4 => Sys2Proof.Machine.execDebugMasterAccess a0 a1 a2 a3 a4 s
  | .drvProgKeyLock a0 a1 => Sys2Proof.Machine.execDrvProgKeyLock a0 a1 s
  | .followUp a0 => Sys2Proof.Machine.execFollowUp a0 s
  | .faultTimerStop a0 => Sys2Proof.Machine.execFaultTimerStop a0 s
  | .illegalEncoding a0 a1 => Sys2Proof.Machine.execIllegalEncoding a0 a1 s
  | .subsystemResetDone a0 a1 => Sys2Proof.Machine.execSubsystemResetDone a0 a1 s
  | .clusterRetestDone a0 a1 => Sys2Proof.Machine.execClusterRetestDone a0 a1 s

end Sys2Proof.Machine
end

