-- ==== Sys2Proof/Machine/Step.lean ====
section
/-! DEFINITION. One step of the part: the command at the front of the queue, or one cycle of the DTC where no command waits. -/

namespace Sys2Proof.Machine

/-- The state with the queue `q`. -/
def State.withQueue (s : State) (q : List Instr) : State := { s with pending := q }

/-- A step takes the command at the front of the queue; on an empty queue the DTC's clock moves on by one cycle (R465), with the tick jobs at a
boundary (R29, R30).  DESIGN CHOICE, log entry 2. -/
def step (s : State) : Host.Outcome State Fault Refusal :=
  match s.pending with
  | [] => .next (settle s.cycle)
  | c :: rest => exec c (s.withQueue rest)

/-- The command that a word spells, put at the front of the queue; no row of the table has bits, so the state is unchanged. -/
def State.withFetchWord (s : State) (nbits w : Nat) : State :=
  match Sys2Proof.decodeTableWord nbits w with
  | none => s
  | some c => s.withQueue (c :: s.pending)

end Sys2Proof.Machine
end

