-- ==== Sys2Proof/WellFormed.lean ====
section
/-! DEFINITION. When the operands of a command name something that the manual gives the part: the checks, one for each kind of
operand, and the well-formed commands. -/

namespace Sys2Proof

/-- Ports 0 to 63 (chapter 01: a CXL switch for up to 64 ports). -/
def portOk (p : Nat) : Bool := decide (p < 64)

/-- Management Ethernet ports 0 and 1 (R36). -/
def mgmtPortOk (p : Nat) : Bool := decide (p < 2)

/-- Sessions 1 to 8 (R47). -/
def sessionOk (n : Nat) : Bool := decide (1 ≤ n) && decide (n ≤ 8)

/-- Quads 0 to 63 of four lanes each (R116). -/
def quadOk (q : Nat) : Bool := decide (q < 64)

/-- Lanes 0 to 255 of the device (chapter 05). -/
def laneOk (l : Nat) : Bool := decide (l < 256)

/-- Lanes 0 to 15 of a port of at most four quads (R118). -/
def portLaneOk (l : Nat) : Bool := decide (l < 16)

/-- Lane reference groups 0 to 15 (R118). -/
def groupOk (g : Nat) : Bool := decide (g < 16)

/-- The 81 gangs of Loom (R196). -/
def gangOk (g : Nat) : Bool := decide (g < 81)

/-- Traffic classes 0 to 7 (R24). -/
def classOk (c : Nat) : Bool := decide (c < 8)

/-- Slot channels 0 to 15 (chapter 20). -/
def slotOk (n : Nat) : Bool := decide (n < 16)

/-- The 8 HDM decoders of a host memory function (R226). -/
def decoderOk (n : Nat) : Bool := decide (n < 8)

/-- Key slots 1 to 8 (R51). -/
def keySlotOk (n : Nat) : Bool := decide (1 ≤ n) && decide (n ≤ 8)

/-- Program slots 0 to 63 (R353). -/
def progSlotOk (n : Nat) : Bool := decide (n < 64)

/-- Folds 0 to 1023 (R224). -/
def foldOk (f : Nat) : Bool := decide (f < 1024)

/-- Extents 0 to 131071 (R227). -/
def extentOk (e : Nat) : Bool := decide (e < 131072)

/-- Engines 0 to 127 (chapter 13). -/
def engineOk (e : Nat) : Bool := decide (e < 128)

/-- Clusters 0 to 15 (chapter 13). -/
def clusterOk (c : Nat) : Bool := decide (c < 16)

/-- Buffer slices 0 to 7 (R221). -/
def sliceOk (n : Nat) : Bool := decide (n < 8)

/-- Samplers 0 to 7 (R219). -/
def samplerOk (n : Nat) : Bool := decide (n < 8)

/-- Croft cores 0 to 3 (R358). -/
def coreOk (c : Nat) : Bool := decide (c < 4)

/-- Switched rails 0 to 2 (R91). -/
def railOk (r : Nat) : Bool := decide (r < 3)

/-- Temperature sensors 0 to 31 (R472). -/
def sensorOk (n : Nat) : Bool := decide (n < 32)

/-- Commons channels 0 to 31 (R408). -/
def channelOk (c : Nat) : Bool := decide (c < 32)

/-- Flow-control channels of a port (chapter 06). -/
def fcChannelOk (c : Nat) : Bool := decide (c < 8)

/-- Tally counters 0 to 1023 (R438). -/
def counterOk (n : Nat) : Bool := decide (n < 1024)

/-- Fabric devices 0 to 63 (R15). -/
def deviceOk (d : Nat) : Bool := decide (d < 64)

/-- Filter banks 0 to 15 (R271). -/
def bankOk (b : Nat) : Bool := decide (b < 16)

/-- Sets 0 to 16383 of a bank (R271). -/
def setOk (n : Nat) : Bool := decide (n < 16384)

/-- Queue pairs 0 to 3 of a VF (chapter 14). -/
def queueOk (q : Nat) : Bool := decide (q < 4)

/-- Virtual functions 0 to 1023 of the pool (chapter 14). -/
def vfOk (v : Nat) : Bool := decide (v < 1024)

/-- VF i of a PF, from 1 (R361). -/
def vfIndexOk (i : Nat) : Bool := decide (1 ≤ i)

/-- Subsystem regions 1 to 12 (chapter 19). -/
def regionOk (r : Nat) : Bool := decide (1 ≤ r) && decide (r ≤ 12)

/-- External interrupt lines 0 to 6 (chapter 17). -/
def lineOk (l : Nat) : Bool := decide (l < 7)

/-- Tick jobs 1 to 6 in the order of R30. -/
def jobOk (j : Nat) : Bool := decide (1 ≤ j) && decide (j ≤ 6)

/-- The subsystems that are reset alone: Drover (8) and the Tenant Function Block (9) (R449). -/
def subsystemOk (n : Nat) : Bool := decide (n = 8) || decide (n = 9)

/-- CIC targets 0 to 19 (R425). -/
def targetOk (t : Nat) : Bool := decide (t < 20)

/-- FEIDs are 16 bits wide (R15). -/
def feidOk (f : Nat) : Bool := decide (f < 65536)

/-- The transports of R44. -/
def Transport.ok : Transport → Bool
  | .udp p => mgmtPortOk p
  | .i3c => true
  | .mbx p => portOk p

/-- The channels of the management function (R156). -/
def MgmtChannel.ok : MgmtChannel → Bool
  | .vdm p => portOk p
  | .i3c => true

/-- The functions of the Tenant Function Block (R361). -/
def Func.ok : Func → Bool
  | .pf p => portOk p
  | .vf p i => portOk p && vfIndexOk i

/-- The execution units: 512 threads (chapter 13) and 4 Croft cores (R358). -/
def ExecUnit.ok : ExecUnit → Bool
  | .thread n => decide (n < 512)
  | .croft c => coreOk c

/-- The field widths of a Crook message and of its body (R47). -/
def CrookMsg.ok (m : CrookMsg) : Bool :=
  decide (m.verMajor < 256) && decide (m.verMinor < 256) && decide (m.session < 256) && decide (m.sequence < 2 ^ 32) &&
    decide (m.length < 65536) && decide (m.status < 65536) && decide (m.flags < 256) && decide (m.reserved < 2 ^ 24)

/-- The field widths of a Twill message (R170). -/
def TwillMsg.ok (m : TwillMsg) : Bool :=
  feidOk m.dst && feidOk m.src && classOk m.tc && decide (m.opcode < 256) && decide (m.dcnt ≤ 128) && decide (m.hops < 256) &&
    decide (m.tag < 65536) && decide (m.rseq < 65536) && decide (m.status < 256) && foldOk m.fold && decide (m.len < 16384)

/-- A CXL.mem request is for one line of 64 bytes or part of it (R277). -/
def HostReq.ok (r : HostReq) : Bool := decide (r.hpa < 2 ^ 64) && decide (r.tag < 65536) && decide (r.byteEn < 2 ^ 64)

/-- The reference groups of a list (R118). -/
def groupsOk (l : List Nat) : Bool := l.all groupOk

/-- A partner's equalisation request names a lane of the port (R121). -/
def EqRequest.ok (e : EqRequest) : Bool := portLaneOk e.lane

/-- A partner's requests are for lanes of a port (R121). -/
def PartnerEq.ok (e : PartnerEq) : Bool := portOk e.port && e.requests.all EqRequest.ok

/-- The board's spread groups are reference groups (R118). -/
def Board.ok (b : Board) : Bool := groupsOk b.spread

/-- The field widths of an IEEE 1588 message, on a management port (R466). -/
def PtpMsg.ok (m : PtpMsg) : Bool :=
  mgmtPortOk m.port && decide (m.domain < 256) && decide (m.source < 2 ^ 80) && decide (m.sequence < 65536)

/-- A place in a cluster's SRAM: the slice of a thread, or a program's segment for a fold (R331). -/
def SramPlace.ok : SramPlace → Bool
  | .slice u => decide (u < 512)
  | .segment slot fold => progSlotOk slot && foldOk fold

/-- The ports that an FM API command names (R155). -/
def FmKind.ok : FmKind → Bool
  | .portState p | .portControl p _ | .switchInfo p | .aerEvent p | .tunnel p _ _ | .dcdInfo p | .dcRegions p | .dcExtents p
  | .deviceAdd p _ _ _ | .deviceRelease p _ _ _ | .ppbConfig p _ _ | .ldConfig p _ _ _ | .ldMemory p _ _ _ _ => portOk p
  | _ => true

/-- The well-formed commands: each operand names something the part has. -/
def Instr.wf (i : Instr) : Bool :=
  match i with
  | .hello tr _ m => tr.ok && m.ok
  | .read tr _ m => tr.ok && m.ok
  | .write tr _ m => tr.ok && m.ok
  | .blockRead tr _ m => tr.ok && m.ok
  | .blockWrite tr _ m => tr.ok && m.ok
  | .beginTxn tr _ m => tr.ok && m.ok
  | .commit tr _ m => tr.ok && m.ok
  | .commitApply => true
  | .commitTimeout session => sessionOk session
  | .rollback tr _ m => tr.ok && m.ok
  | .subscribe tr _ m => tr.ok && m.ok
  | .notify => true
  | .crfAuth session => sessionOk session
  | .sessionIdleTimeout session => sessionOk session
  | .txnIdleTimeout session => sessionOk session
  | .pfMbxGo port => portOk port
  | .pfMbxRspRelease port => portOk port
  | .pfMbxNtfRelease port => portOk port
  | .crfKeySlot session slot _ => sessionOk session && keySlotOk slot
  | .crfKeyLock session _ => sessionOk session
  | .crfFactoryReset session _ => sessionOk session
  | .crfTransportEnable session _ => sessionOk session
  | .crfMramWear => true
  | .gtpViolationRead session _ => sessionOk session
  | .lomSampleRead session _ => sessionOk session
  | .pdkQsampleRead session _ => sessionOk session
  | .pdkTallyRead session _ => sessionOk session
  | .barRegisterWrite f _ _ _ => f.ok
  | .powerOn => true
  | .brownOut => true
  | .coldReset => true
  | .coldBoot board _ => board.ok
  | .refclkValid => true
  | .vrPgRise rail => railOk rail
  | .corePllLock _ => true
  | .selftestPhaseB _ => true
  | .selftestPhaseC => true
  | .sysReady => true
  | .uartRecoveryBlock _ _ => true
  | .warmReset => true
  | .hrdWarmReset session _ => sessionOk session
  | .pinfoldUartReport => true
  | .fwStart session => sessionOk session
  | .crfFwChunk session _ => sessionOk session
  | .fwFinish session => sessionOk session
  | .fwVerifyDone => true
  | .fwActivate session => sessionOk session
  | .fwAbort session => sessionOk session
  | .portPerstN port => portOk port
  | .perstRelease port => portOk port
  | .hotReset port => portOk port
  | .pwrBrakeN => true
  | .pwrBrakeRelease => true
  | .selRefclkLoss group _ _ => groupOk group
  | .selRefclkRestore group _ => groupOk group
  | .selPllUnlock quad => quadOk quad
  | .pllRelock quad _ => quadOk quad
  | .selReeq session quad _ => sessionOk session && quadOk quad
  | .partnerEqualization partner => partner.ok
  | .reeqGrant port => portOk port
  | .reeqGrantTimeout port => portOk port
  | .reeqEnd port => portOk port
  | .alignmentMarker port lane _ _ => portOk port && portLaneOk lane
  | .skipBlock port _ => portOk port
  | .selElasticErrors quad => quadOk quad
  | .losAssert lane => laneOk lane
  | .losRelease lane => laneOk lane
  | .selInject session quad _ => sessionOk session && quadOk quad
  | .selPrbsClear session quad _ => sessionOk session && quadOk quad
  | .marginRunStart session quad _ => sessionOk session && quadOk quad
  | .marginRunDone quad _ => quadOk quad
  | .partnerMarginCommand lane _ => laneOk lane
  | .linkUp port _ => portOk port
  | .linkDown port _ => portOk port
  | .dpcRelease port => portOk port
  | .trackerTimeout port _ => portOk port
  | .portResponse port _ => portOk port
  | .cxlIoTlp port _ => portOk port
  | .pmeTurnOff port => portOk port
  | .pmeToAck port => portOk port
  | .pmeToAckTimeout port => portOk port
  | .powerControllerControl port _ => portOk port
  | .addCapacityResponse port _ => portOk port
  | .prtDcResponse port extent => portOk port && extentOk extent
  | .releaseDynamicCapacity port extent => portOk port && extentOk extent
  | .clearEventRecords port _ => portOk port
  | .deviceDcAdd port _ _ _ => portOk port
  | .deviceForcedRemoval port _ _ _ => portOk port
  | .fmApiCommand ch command => ch.ok && command.kind.ok
  | .getVersion ch _ => ch.ok
  | .getCapabilities ch _ => ch.ok
  | .negotiateAlgorithms ch _ => ch.ok
  | .getDigests ch _ => ch.ok
  | .getCertificate ch _ => ch.ok
  | .challenge ch _ => ch.ok
  | .getMeasurements ch _ => ch.ok
  | .keyExchange ch _ => ch.ok
  | .finish ch _ => ch.ok
  | .heartbeat ch _ => ch.ok
  | .keyUpdate ch _ => ch.ok
  | .endSession ch _ => ch.ok
  | .ideKm port _ _ _ _ => portOk port
  | .prtIdeFail port _ => portOk port
  | .prtController port => portOk port
  | .dataFlit port _ => portOk port
  | .ctrlFlit port _ => portOk port
  | .ack port _ _ => portOk port
  | .credit port _ => portOk port
  | .config port _ => portOk port
  | .initMsg port _ _ _ => portOk port
  | .eq port lane _ _ _ _ => portOk port && portLaneOk lane
  | .retrain port _ _ _ device => portOk port && deviceOk device
  | .ackTimer port => portOk port
  | .creditTimer port => portOk port
  | .twlReplayTimer port => portOk port
  | .twlLinkDown port => portOk port
  | .trainingTimeout port => portOk port
  | .trainingRestart port => portOk port
  | .twlRetrain session port _ => sessionOk session && portOk port
  | .replayBufferEmpty port => portOk port
  | .retrainHoldTimeout port => portOk port
  | .twlReenable session port _ => sessionOk session && portOk port
  | .twlTrackerTimeout device _ => deviceOk device
  | .mgmtReq port m => portOk port && m.ok
  | .mgmtRsp port m => portOk port && m.ok
  | .cmp port m => portOk port && m.ok
  | .ioCpl port m => portOk port && m.ok
  | .data port m => portOk port && m.ok
  | .ioCpld port m => portOk port && m.ok
  | .memRd port m => portOk port && m.ok
  | .memWr port m => portOk port && m.ok
  | .memWrPartial port m => portOk port && m.ok
  | .atomic port m => portOk port && m.ok
  | .io port m => portOk port && m.ok
  | .bulkRd port m => portOk port && m.ok
  | .bulkWr port m => portOk port && m.ok
  | .onChipReserveWait gang => gangOk gang
  | .messageStart gang cls => gangOk gang && classOk cls
  | .messageTransmit gang cls _ => gangOk gang && classOk cls
  | .lomReseqSkip srcDev _ cls => deviceOk srcDev && classOk cls
  | .flowIdle srcDev _ cls => deviceOk srcDev && classOk cls
  | .refill gang => gangOk gang
  | .sampleCapture sampler => samplerOk sampler
  | .lomSlice slice => sliceOk slice
  | .fldReleaseRequest session _ => sessionOk session
  | .releaseCapacityPost => true
  | .internalCommit => true
  | .fldExtentEcc fold extent => foldOk fold && extentOk extent
  | .fldRouteEcc _ _ => true
  | .fldTableEcc _ _ => true
  | .fldDirtyWrite fold => foldOk fold
  | .tableRestore _ _ => true
  | .gtpLockRequest session _ => sessionOk session
  | .gtpTableEcc _ _ => true
  | .memrdSnpdata port r => portOk port && r.ok
  | .memrdSnpinv port r => portOk port && r.ok
  | .meminv port r => portOk port && r.ok
  | .memrdSnpcur port r => portOk port && r.ok
  | .memwr port r => portOk port && r.ok
  | .memwrptl port r => portOk port && r.ok
  | .memclnevct port r => portOk port && r.ok
  | .birspi port _ => portOk port
  | .birsps port _ => portOk port
  | .birspe port _ => portOk port
  | .biconflict port target _ => portOk port && feidOk target
  | .blwBisnpTimeout port target _ => portOk port && feidOk target
  | .bisnp port _ _ => portOk port
  | .rdShared port m => portOk port && m.ok
  | .rdOwn port m => portOk port && m.ok
  | .upgrade port m => portOk port && m.ok
  | .rdCur port m => portOk port && m.ok
  | .wrInv port m => portOk port && m.ok
  | .wrInvPartial port m => portOk port && m.ok
  | .atomicCoh port m => portOk port && m.ok
  | .evict port m => portOk port && m.ok
  | .dataS port m => portOk port && m.ok
  | .dataF port m => portOk port && m.ok
  | .dataE port m => portOk port && m.ok
  | .dataM port m => portOk port && m.ok
  | .dataCur port m => portOk port && m.ok
  | .wbM port m => portOk port && m.ok
  | .snpDataI port m => portOk port && m.ok
  | .snpDataS port m => portOk port && m.ok
  | .snpDataKeep port m => portOk port && m.ok
  | .bwCmp port m => portOk port && m.ok
  | .gntOwn port m => portOk port && m.ok
  | .snpI port m => portOk port && m.ok
  | .snpS port m => portOk port && m.ok
  | .snpIWb port m => portOk port && m.ok
  | .fwdDone port m => portOk port && m.ok
  | .fwdMissS port m => portOk port && m.ok
  | .fwdMissI port m => portOk port && m.ok
  | .fwdShared port m => portOk port && m.ok
  | .fwdOwn port m => portOk port && m.ok
  | .snpInv port m => portOk port && m.ok
  | .snpData port m => portOk port && m.ok
  | .snpCur port m => portOk port && m.ok
  | .retrySlotAllocate bank _ => bankOk bank
  | .conflictQueueProcess target _ => feidOk target
  | .wbMReissue target _ => feidOk target
  | .blwLookupLine session target _ => sessionOk session && feidOk target
  | .blwFlushFold session _ => sessionOk session
  | .bulkFlushGrant => true
  | .flushEnd => true
  | .blwSetEcc bank set _ _ => bankOk bank && setOk set
  | .setRebuildTimeout bank set => bankOk bank && setOk set
  | .blwNearEcc target _ => feidOk target
  | .tickBoundary => true
  | .tickJobOverrun job _ => jobOk job
  | .laneEvaluate gang => gangOk gang
  | .qsampleCapture _ => true
  | .tallyBlock => true
  | .pdkHistClear session _ => sessionOk session
  | .pdkBucketEcc fold _ _ => foldOk fold
  | .pdkMeterEcc fold _ _ _ => foldOk fold
  | .dispatch => true
  | .add x _ _ _ => x.ok
  | .sub x _ _ _ => x.ok
  | .and x _ _ _ => x.ok
  | .or x _ _ _ => x.ok
  | .xor x _ _ _ => x.ok
  | .sll x _ _ _ => x.ok
  | .srl x _ _ _ => x.ok
  | .sra x _ _ _ => x.ok
  | .slt x _ _ _ => x.ok
  | .sltu x _ _ _ => x.ok
  | .mul x _ _ _ => x.ok
  | .mulhu x _ _ _ => x.ok
  | .divu x _ _ _ => x.ok
  | .remu x _ _ _ => x.ok
  | .min x _ _ _ => x.ok
  | .max x _ _ _ => x.ok
  | .minu x _ _ _ => x.ok
  | .maxu x _ _ _ => x.ok
  | .clz x _ _ _ => x.ok
  | .popc x _ _ _ => x.ok
  | .bswap x _ _ _ => x.ok
  | .crc32c x _ _ _ => x.ok
  | .addi x _ _ _ => x.ok
  | .andi x _ _ _ => x.ok
  | .ori x _ _ _ => x.ok
  | .xori x _ _ _ => x.ok
  | .slli x _ _ _ => x.ok
  | .srli x _ _ _ => x.ok
  | .srai x _ _ _ => x.ok
  | .slti x _ _ _ => x.ok
  | .sltiu x _ _ _ => x.ok
  | .lui x _ _ _ => x.ok
  | .shlori x _ _ _ => x.ok
  | .ld8 x _ _ _ => x.ok
  | .ld16 x _ _ _ => x.ok
  | .ld32 x _ _ _ => x.ok
  | .ld64 x _ _ _ => x.ok
  | .lds8 x _ _ _ => x.ok
  | .lds16 x _ _ _ => x.ok
  | .lds32 x _ _ _ => x.ok
  | .st8 x _ _ _ => x.ok
  | .st16 x _ _ _ => x.ok
  | .st32 x _ _ _ => x.ok
  | .st64 x _ _ _ => x.ok
  | .latom x _ _ _ _ _ => x.ok
  | .beq x _ _ _ => x.ok
  | .bne x _ _ _ => x.ok
  | .blt x _ _ _ => x.ok
  | .bge x _ _ _ => x.ok
  | .bltu x _ _ _ => x.ok
  | .bgeu x _ _ _ => x.ok
  | .jal x _ _ => x.ok
  | .jalr x _ _ _ => x.ok
  | .frd x _ => x.ok
  | .fwr x _ => x.ok
  | .fatom32 x _ => x.ok
  | .fatom64 x _ => x.ok
  | .moveCopy x _ => x.ok
  | .moveFill x _ => x.ok
  | .moveZero x _ => x.ok
  | .moveLocal x _ => x.ok
  | .moveChunkComplete x _ _ => x.ok
  | .fabricOpComplete x _ => x.ok
  | .fwaith x _ => x.ok
  | .fpoll x _ => x.ok
  | .ffence x _ => x.ok
  | .leave x _ => x.ok
  | .leaveGrant x => x.ok
  | .csrr x _ _ _ => x.ok
  | .csrw x _ _ _ => x.ok
  | .wait x _ _ _ => x.ok
  | .waitWake x => x.ok
  | .halt x => x.ok
  | .trap x => x.ok
  | .yield x => x.ok
  | .eret x => x.ok
  | .timeLimit x => x.ok
  | .loadStart session => sessionOk session
  | .drvLoadChunk session _ => sessionOk session
  | .loadFinish session => sessionOk session
  | .loadVerifyDone => true
  | .loadAbort session => sessionOk session
  | .loadUnload session => sessionOk session
  | .unloadComplete slot => progSlotOk slot
  | .zeroRelease extent _ => extentOk extent
  | .drvZeroRetry session _ => sessionOk session
  | .drvHotpageFold session _ => sessionOk session
  | .hotpagePublish => true
  | .drvEngineFence session engine _ => sessionOk session && engineOk engine
  | .drvEngine engine => engineOk engine
  | .drvCluster cluster => clusterOk cluster
  | .drvSramEcc cluster _ place => clusterOk cluster && place.ok
  | .vfSqTail port i q _ => portOk port && vfIndexOk i && queueOk q
  | .vfCqHead port i q _ => portOk port && vfIndexOk i && queueOk q
  | .sqEnable port i q => portOk port && vfIndexOk i && queueOk q
  | .sqDisable port i q => portOk port && vfIndexOk i && queueOk q
  | .cqEnable port i q _ => portOk port && vfIndexOk i && queueOk q
  | .cqDisable port i q _ => portOk port && vfIndexOk i && queueOk q
  | .vfErr port i _ => portOk port && vfIndexOk i
  | .pfIntCause port _ => portOk port
  | .pfVfEvent port _ _ _ => portOk port
  | .msixUnmask f _ => f.ok
  | .descriptorFetch => true
  | .descriptorFetched v _ _ => vfOk v
  | .nop v q => vfOk v && queueOk q
  | .copy x => x.ok
  | .fill x => x.ok
  | .zero x => x.ok
  | .crc32cDescriptor x => x.ok
  | .compare x => x.ok
  | .run v q => vfOk v && queueOk q
  | .fence v q => vfOk v && queueOk q
  | .tfbCplWrite v q => vfOk v && queueOk q
  | .cqModTimer v q => vfOk v && queueOk q
  | .vfEnable port _ => portOk port
  | .majorSelect port _ => portOk port
  | .initiateFlr f => f.ok
  | .flrComplete v => vfOk v
  | .d3hotEntry f => f.ok
  | .d0Return f => f.ok
  | .translationCompletion f _ _ _ => f.ok
  | .invalidateRequest f _ _ => f.ok
  | .tfbQueueEcc v _ => vfOk v
  | .freeze port i => portOk port && vfIndexOk i
  | .freezeDone port i => portOk port && vfIndexOk i
  | .save port i => portOk port && vfIndexOk i
  | .saveDone port i _ => portOk port && vfIndexOk i
  | .restore port i => portOk port && vfIndexOk i
  | .restoreDone port i _ _ => portOk port && vfIndexOk i
  | .resume port i => portOk port && vfIndexOk i
  | .rebindOwnerChange => true
  | .rebindRelease => true
  | .harvestStart session => sessionOk session
  | .harvestStop session => sessionOk session
  | .harvestDone _ => true
  | .scrubBurst _ => true
  | .scrubBurstEnd => true
  | .cmnScrubBehind => true
  | .cmnTemp channel _ _ => channelOk channel
  | .cmnChannel channel => channelOk channel
  | .externalLineChange line _ _ => lineOk line
  | .cicClaim target => targetOk target
  | .cicComplete target _ => targetOk target
  | .cicGlobal _ => true
  | .tallyOverflow counter _ => counterOk counter
  | .crfTallyOvfClear session _ => sessionOk session
  | .hrdFaultAck session _ => sessionOk session
  | .isolationReturn => true
  | .hrdFaultInject session _ => sessionOk session
  | .bothyWindowAdvance => true
  | .crfCore core => coreOk core
  | .crfMgmtPort port => mgmtPortOk port
  | .sync m => m.ok
  | .delayResp m => m.ok
  | .announce m => m.ok
  | .ptpHoldover => true
  | .ptpUnlock => true
  | .tsPpsIn _ => true
  | .tsPpsOut => true
  | .hrdRegion _ => true
  | .regionThrottleRelease region => regionOk region
  | .hrdThermal sensor _ => sensorOk sensor
  | .budgetStepdown _ => true
  | .thermalRelease _ => true
  | .hrdThermalCritical sensor _ => sensorOk sensor
  | .hrdRefclkLoss => true
  | .hrdSupply rail => railOk rail
  | .pmbusPoll _ => true
  | .governorBaseUpdate => true
  | .fallowRequest session => sessionOk session
  | .fallowGate region => regionOk region
  | .fallowWake region => regionOk region
  | .winteringRequest session => sessionOk session
  | .wakeTimer => true
  | .wakeEvent _ => true
  | .wakeRetry => true
  | .wakeComplete => true
  | .hrdPadRelease session _ => sessionOk session
  | .slotGrantRequest n => slotOk n
  | .slotGrant n => slotOk n
  | .slotOn n _ _ => slotOk n
  | .powerGoodAssert n => slotOk n
  | .powerGoodRelease n _ => slotOk n
  | .currentLimit n _ => slotOk n
  | .faultTimerExpiry n => slotOk n
  | .shortCircuit n _ => slotOk n
  | .fetOvertemp n _ _ => slotOk n
  | .thermistorOutOfRange n _ => slotOk n
  | .rampTimeout n => slotOk n
  | .hrdSlotFet n _ _ => slotOk n
  | .pwrfailAssert n _ => slotOk n
  | .pwrfailRelease n _ => slotOk n
  | .slotGateOff n => slotOk n
  | .checkerLock lane _ => laneOk lane
  | .checkerLockLoss lane _ _ => laneOk lane
  | .aspmL1Entry port => portOk port
  | .l1ExitComplete port => portOk port
  | .perstDeassert port => portOk port
  | .hdmDecoderCommit port n _ => portOk port && decoderOk n
  | .configurationWrite f _ => f.ok
  | .cxlCacheMessage port _ => portOk port
  | .updateFc port channel _ _ => portOk port && fcChannelOk channel
  | .debugMasterAccess _ _ _ _ _ => true
  | .drvProgKeyLock session _ => sessionOk session
  | .followUp m => m.ok
  | .faultTimerStop n => slotOk n
  | .illegalEncoding x _ => x.ok
  | .subsystemResetDone subsystem _ => subsystemOk subsystem
  | .clusterRetestDone cluster _ => clusterOk cluster

end Sys2Proof
end

