-- ==== Sys2Proof/Safety.lean ====
section
/-! DEFINITION. What counts as a safe state of the part and a safe step: the canonical form of every table that the manual's state is held in, and
what no command may undo. -/

namespace Sys2Proof.Machine

/-- The tables of the state are in canonical form: dictionary values and versions (R38 to R40), Commons (R408), scratch slices and data segments
(R331); and Croft has its eight sessions (R51). -/
structure State.Inv (s : State) : Prop where
  nums : Sparse.wf dfltNum s.dict.nums = true
  octs : Sparse.wf dfltOct s.dict.octs = true
  vers : Sparse.wf (fun _ => 0) s.dict.vers = true
  cells : Sparse.wf memDefault s.cmn.cells = true
  scratch : Sparse.wf memDefault s.drv.scratch = true
  segs : Sparse.wf memDefault s.drv.segs = true
  sessions : s.crf.sessions.length = 8

/-- What every command but POWER_ON keeps, from a state `r` to a state `t`: the queue is the host's, what was sent stays sent, no open value is used
twice, the F4 latch stays set (R450), and the tables keep their canonical form.  POWER_ON keeps all but the latch. -/
structure Keeps (r t : State) : Prop where
  queue : t.pending = r.pending
  sent : r.out <+: t.out
  fresh : r.fresh ≤ t.fresh
  latch : r.flt.latch = true → t.flt.latch = true
  inv : r.Inv → t.Inv

/-- No work waits in the state: no reaction of the collector, nothing handed on, and nothing that follows from other parts.  A command that leaves a
quiet state has the effect of its row alone. -/
structure State.Quiet (s : State) : Prop where
  work : s.workNext = none
  follow : s.follow = s

/-- A command `c` completes at `s` with the effect `e`: exec answers the state that `e` settles into, and `e` itself where nothing waits in it. -/
def Gives (c : Instr) (s e : State) : Prop := exec c s = .next (settle e) ∧ (e.Quiet → exec c s = .next e)

/-- The octets of a number that a session writes to a subentry. -/
def wire (k v : Nat) : List Byte := leBytes (widthOf k / 8) v

/-- The number that those octets carry: the value in the subentry's width. -/
def carried (k v : Nat) : Nat := leNat (wire k v)

/-- A session may write a value to a subentry at once: it is open, and the write passes the checks of R41, R51 and R60. -/
abbrev State.mayWrite (s : State) (n k : Nat) (v : List Byte) : Prop :=
  1 ≤ n ∧ n ≤ 8 ∧ (s.session n).opened = true ∧ writeChecks s n k 0xFFFFFFFF v = Status.ok

/-- What follows the effect `e` of an immediate write at `s` (R40, R60, R71): the value is stored, its version advances, the journal takes it, and the
session is answered OK. -/
def State.written (s : State) (n k : Nat) (v : List Byte) (e : State) : State :=
  State.emit (((storeWire e k v).bumpVersion k).journalWrite s [(k, v)]) (.answer n Status.ok)

/-! ### When a command is taken up -/

/-- A unit issues an instruction (R326, R334, R348, R351): it exists, its thread is ready, the pc of a program lies in its code, and its program's ABI has
the instruction. -/
def State.mayIssue (s : State) (x : ExecUnit) : Bool :=
  let u := unitNum x
  let t := s.thread u
  unitExists x && t.ready && !(decide (u < 512) && decide (t.prog < 64) && (t.pc % 4 != 0 || decide (s.codeSize t.prog ≤ t.pc)))
    && !s.laterWord u

/-- The thread as its instruction finds it: one cycle more (R337). -/
def State.issuer (s : State) (x : ExecUnit) : Thread :=
  { s.thread (unitNum x) with cycles := (s.thread (unitNum x)).cycles + 1 }

/-- The state as the instruction finds it: the cycle is counted, and for an engine the instruction too (R337, R440). -/
def State.issued (s : State) (x : ExecUnit) : State :=
  if unitNum x < 512 then (s.putThread (unitNum x) (s.issuer x)).count 0x8001 (clusterOf (unitNum x)) else s.putThread (unitNum x) (s.issuer x)

/-- The state after an instruction that puts `v` into `rd` and goes on to the next one. -/
def State.gets (s : State) (x : ExecUnit) (rd : Reg) (v : BitVec 64) : State :=
  (s.issued x).putThread (unitNum x) (((s.issuer x).set rd v).next)

/-- The state after an instruction whose thread goes on as `t`. -/
def State.goesOn (s : State) (x : ExecUnit) (t : Thread) : State := (s.issued x).putThread (unitNum x) t

/-- The message of a row: its class and opcode are the row's (R172). -/
def twillRow (m : TwillMsg) (tc opcode : Nat) : TwillMsg := { m with tc := tc, opcode := opcode }

/-- The counts of the credits that a message uses at the receiver of a link (R176): its header and its data. -/
def State.creditUse (s : State) (p : Nat) (m : TwillMsg) : Nat × Nat :=
  (((s.link p).rxUsedH.getD m.tc 0 + 1) % 4096, ((s.link p).rxUsedD.getD m.tc 0 + m.dcnt) % 65536)

/-- The state after the credits of a message are counted as used (R176). -/
def State.credited (s : State) (p : Nat) (m : TwillMsg) : State :=
  s.putLink p { s.link p with
    rxUsedH := (s.link p).rxUsedH.set m.tc (s.creditUse p m).1, rxUsedD := (s.link p).rxUsedD.set m.tc (s.creditUse p m).2 }

/-- A Twill link takes a message: it is up, the credits suffice, the form is that of the opcode, and a request of TC4 to
TC7 finds a tracker (R20, R25, R172, R176). -/
def State.takesMsg (s : State) (p : Nat) (m : TwillMsg) : Bool :=
  decide (p < 64) && s.role p == 3 && s.linkUp p && decide (m.dcnt ≤ 128)
    && decide (((s.creditUse p m).1 + 4096 - (s.link p).rxBackH.getD m.tc 0) % 4096 ≤ (s.link p).rxAdvH.getD m.tc 0)
    && decide (((s.creditUse p m).2 + 65536 - (s.link p).rxBackD.getD m.tc 0) % 65536 ≤ (s.link p).rxAdvD.getD m.tc 0)
    && (match msgShape m.tc m.opcode with
      | some (ext, lo, hi) => ext == m.ext && decide (lo ≤ m.dcnt) && decide (m.dcnt ≤ hi)
      | none => false)
    && !(msgNonPosted (ioCut m) && decide (4 ≤ m.tc) && (s.credited p m).noTracker false)

/-- What a Twill link does with a message that it takes: one for this device is delivered, another is passed on; the padding of a CXL.io message's last
unit is none of its octets (R168, R170, R185). -/
def State.receives (s : State) (p : Nat) (m : TwillMsg) : State :=
  if m.dst / 256 = (s.credited p m).device then (s.credited p m).localDeliver p (ioCut m) else (s.credited p m).transit p (ioCut m)

/-- A host's CXL.mem request is taken up at once (R20, R163): the upstream link carries CXL.mem and no failed IDE stream, and the
request's fields are in order (R158). -/
def State.takesRequest (s : State) (p : Nat) (r : HostReq) : Bool :=
  decide (p < 64) && s.role p == 1 && s.linkUp p && !s.insecure p && (s.port p).cxl && bit (s.rd (K.PRT_CXL_ENABLE p)) 1 && !r.badFields

/-- The state in which a host's request is taken: it is counted, and a poisoned write is recorded (R163, R440). -/
def State.requested (s : State) (p : Nat) (r : HostReq) (op : ReqOp) : State :=
  let writes := op == .write || op == .partialWrite
  when (r.poisoned && writes) (·.portViolation p F.PRT_POISON_RX []) (s.count (if writes then 0x2002 else 0x2001) p)

/-- The state in which Croft meets a Crook message: that of a mailbox has first been put into its request buffer, and GO written (R46). -/
def State.submitted (s : State) (tr : Transport) (op : Nat) (m : CrookMsg) : State :=
  match tr with
  | .mbx p =>
    let b := msgBytes op m ++ m.tag
    let s1 := s.putMailbox p { s.mailbox p with req := fit 4096 b, reqLen := b.length }
    s1.putMailbox p { s1.mailbox p with ctrl := putBit (putBit (s1.mailbox p).ctrl 1 true) 3 false }
  | _ => s

/-- Croft takes up a Crook message: it serves the transport, the message is addressed to the device, Croft is awake, the length is in order, and a
mailbox is free and holds the message as it reads it back (R44 to R46, R77, R84). -/
def State.hears (s : State) (tr : Transport) (src op : Nat) (m : CrookMsg) : Bool :=
  (match tr with
    | .mbx p =>
      let b := msgBytes op m ++ m.tag
      s.pfExists p && !bit (s.mailbox p).ctrl 1 && !bit (s.mailbox p).ctrl 2 && decide (b.length < 2048) && src == 0
        && field (fit b.length (fit 4096 b)) 3 1 == op && mbxMsg (fit b.length (fit 4096 b)) == m
    | _ => true)
    && s.serves tr && (s.submitted tr op m).serves tr && addressed (s.submitted tr op m) tr op m && s.pwr.sleep == .awake && lengthOk m

/-- The state in which the request of a session is carried out: the message is counted, and the idle times start again (R55, R56, R68, R440). -/
def State.atRequest (s : State) (tr : Transport) (m : CrookMsg) : State :=
  let s1 := s.count 0xB001 (transportNum tr)
  let x := s1.session m.session
  s1.putSession m.session { x with lastMsg := s1.clk.dtc, txn := x.txn.map (fun t => { t with lastMsg := s1.clk.dtc }) }

/-- The message is a new request of an open session (R54, R55): transport, source and tag are the session's, no COMMIT of it waits, the sequence number
is the next, the flags are of the opcode, and the key slot may use the transport. -/
def State.asks (s : State) (tr : Transport) (src op : Nat) (m : CrookMsg) : Bool :=
  let x := s.session m.session
  decide (1 ≤ m.session) && decide (m.session ≤ 8) && x.opened && x.heardOn tr src m
    && decide (m.tag = sessionTag x (msgBytes op m)) && x.waiting.isNone
    && !(x.lastSeq != 0 && m.sequence == x.lastSeq && decide (msgBytes op m = x.lastReq)) && m.sequence == x.lastSeq + 1
    && m.reserved == 0 && decide (m.flags.land (opFlags op) = m.flags)
    && (x.slot == 0xFF || bit ((s.atRequest tr m).perm m.session) (transportBit tr))

/-- The reply to a session's request with a status and a body, after the state `t` (R47, R53, R55). -/
def State.replied (s : State) (op : Nat) (m : CrookMsg) (r : Nat × List Byte × State) : State :=
  if (r.2.2.session m.session).opened then answer hooks r.2.2 m.session op m.sequence r.1 r.2.1 (msgBytes op m)
  else crookSend hooks r.2.2 (s.session m.session).transport (s.session m.session).source
    (replyMsg (s.session m.session) m.session op m.sequence r.1 r.2.1)

end Sys2Proof.Machine
end

