-- ==== Sys2Proof/Certificates/Slice0/Obligations.lean ====
section
/-! DEFINITION. The statements about the part, for the provers.  A clause for each form of each command says where the command has its own effect and
which state exec then answers. -/

open Sys2Proof Sys2Proof.Machine

/-- A step takes the command at the front of the queue: exec of it, on the state with the rest of the queue.  The queue is the model's (log
entry 88). -/
def Obligations.StepTakesTheFrontCommand : Prop :=
  ∀ (s : State) (c : Instr) (q : List Instr), s.pending = c :: q → step s = exec c (s.withQueue q)

/-- With an empty queue a step is one cycle of the DTC (DESIGN CHOICE, log entry 2); where the DTC does not run, that cycle changes nothing
(R29, R465). -/
def Obligations.EmptyQueueRunsOneCycle : Prop :=
  ∀ (s : State), s.pending = [] →
    let s1 : State := { s with clk := { s.clk with dtc := s.dtcAfter.1, frac := s.dtcAfter.2 } }
    step s = .next (settle s.cycle) ∧ (s.clk.running = false → s.cycle = s) ∧
    (s.clk.running = true → s.dtcAfter.1 / 1000 = s.clk.dtc / 1000 → s.cycle = s1) ∧
    (s.clk.running = true → s.dtcAfter.1 / 1000 ≠ s.clk.dtc / 1000 → s.cycle = s1.tickJobs)

/-- Every command answers a next state in every state: the manual reports errors by statuses, records and answers. -/
def Obligations.EveryCommandCompletes : Prop :=
  ∀ (c : Instr) (s : State), ∃ t, exec c s = .next t

/-- The invariant of StepKeepsInvariant holds at reset (R38, R51, R408). -/
def Obligations.ResetInvariant : Prop :=
  State.reset.Inv

/-- Every object holds its stated default after reset (R11), versions are 0 (R40); an unwritten byte of Commons reads as log entry 64 chooses. -/
def Obligations.ResetLeavesDefaults : Prop :=
  (∀ k, State.reset.rd k = dfltNum k ∧ State.reset.rdo k = dfltOct k ∧ State.reset.version k = 0) ∧
  (∀ a, State.reset.memGet a = memDefault a) ∧ State.reset.pending = [] ∧ State.reset.out = [] ∧ State.reset.boot.step = .reset ∧
  State.reset.clk.running = false

/-- The invariant of the tables is kept by every step, with any command at the front or none (R38, R40, R51, R331, R408). -/
def Obligations.StepKeepsInvariant : Prop :=
  ∀ (s t : State), s.Inv → step s = .next t → t.Inv

/-- A step removes the front of the queue and nothing else of it, and keeps what was sent and which open values were used (log entries 8, 9,
88). -/
def Obligations.StepKeepsQueueAndOutputs : Prop :=
  ∀ (s t : State), step s = .next t →
    t.pending = s.pending.tail ∧ s.out <+: t.out ∧ s.fresh ≤ t.fresh

/-- R450: an F4 event sets the F4 latch, and only a power cycle clears it (R97, R114). -/
def Obligations.OnlyAPowerCycleClearsTheLatch : Prop :=
  (∀ (s : State) (src el : Nat), (s.react src el 4).flt.latch = true) ∧
  (∀ (s t : State) (c : Instr), c ≠ .powerOn → s.flt.latch = true → exec c s = .next t → t.flt.latch = true) ∧
  (∀ (s t : State), s.pending = [] → s.flt.latch = true → step s = .next t → t.flt.latch = true) ∧
  (∀ (s : State), s.powerOn.flt.latch = false)

/-- R61: BEGIN opens a transaction; TXN_OPEN if one is open; numbers from 1 device-wide, in BEGIN order. -/
def Obligations.BeginNumbersTransactions : Prop :=
  State.reset.crf.txnCount = 0 ∧
  ∀ (s : State) (n : Nat) (m : CrookMsg),
    s.Inv → 1 ≤ n → n ≤ 8 → m.body = [] → (s.session n).slot ≠ 0xFF → s.booting = false →
    ((s.session n).txn.isSome = true → doBegin s n m = (Status.txnOpen, [], s)) ∧
    ((s.session n).txn = none →
      let r := doBegin s n m
      r.1 = Status.ok ∧ r.2.1 = leBytes 4 (s.crf.txnCount + 1) ∧ r.2.2.crf.txnCount = s.crf.txnCount + 1 ∧
      (r.2.2.session n).txn = some { number := s.crf.txnCount + 1, staged := [], lastMsg := s.clk.dtc } ∧
      ∀ k, 1 ≤ k → k ≤ 8 → k ≠ n → r.2.2.session k = s.session k)

/-- R66: COMMIT with V performs step 1 only, returns its result, applies nothing and leaves the transaction open; in the Pinfold state a staged
subentry that is not accessible there is answered first (R42). -/
def Obligations.CommitWithVAppliesNothing : Prop :=
  ∀ (s : State) (n : Nat) (m : CrookMsg) (req : List Byte) (t : Txn),
    m.body = [] → bit m.flags 2 = true → (s.session n).txn = some t →
    (∀ k, pinfoldBar s t = some k → doCommit hooks s n m req = (some (Status.pinfold, commitBody 0 0 (ordinalOf t k) k), s)) ∧
    (pinfoldBar s t = none → ∀ u, validate hooks s n t = .ok u → doCommit hooks s n m req = (some (Status.ok, commitBody 0 0 0 0), s)) ∧
    (pinfoldBar s t = none → ∀ k, validate hooks s n t = .error k → doCommit hooks s n m req = (some (Status.range, commitBody 0 0 (ordinalOf t k) k), s))

/-- R308: the level is capped at the burst, so an idle bucket fills to its burst and no further, across P3 too (R33, R307). -/
def Obligations.BucketLevelIsCappedAtTheBurst : Prop :=
  ∀ (s : State) (b : Nat),
    let rate := (s.bucketCfg b).1
    let burst := (s.bucketCfg b).2
    let v := s.bucket b
    let r := (s.refillBucket b).bucket b
    rate ≠ 0 →
    r.1 ≤ (burst : Int) ∧ r.2 = s.fab.pdk.stamp ∧
    ((burst : Int) ≤ v.1 + (rate : Int) * ((s.fab.pdk.stamp : Int) - (v.2 : Int)) → r.1 = (burst : Int)) ∧
    (v.1 + (rate : Int) * ((s.fab.pdk.stamp : Int) - (v.2 : Int)) ≤ (burst : Int) → r.1 = v.1 + (rate : Int) * ((s.fab.pdk.stamp : Int) - (v.2 : Int)))

/-- R252: VALID with LIMIT_PAGE below BASE_PAGE, or a reserved field nonzero (R251), is rejected with RANGE; invalid entries never match. -/
def Obligations.GatepostEntryRange : Prop :=
  (∀ (s : State) (n e : Nat) (v : List Byte),
    e < 4096 → v.length = 32 → writeGate s n (K.GTP_REGION_ENTRY e) false = Status.ok →
    (bit (field v 0 1) 0 = true ∧ field v 24 8 < field v 16 8 ∨ (bits (field v 0 1) 7 5 ≠ 0 ∨ bits (field v 1 1) 7 6 ≠ 0 ∨ 3 ≤ field v 2 1 ∨ bits (field v 3 1) 7 1 ≠ 0 ∨ 64 ≤ field v 6 1 ∨ 128 ≤ field v 7 1 ∨
      1024 ≤ field v 8 2 ∨ 1024 ≤ field v 10 2 ∨ field v 13 3 ≠ 0 ∨ 2 ^ 40 ≤ field v 16 8 ∨ 2 ^ 40 ≤ field v 24 8)) →
    writeNow hooks s n (K.GTP_REGION_ENTRY e) 0xFFFFFFFF v = (Status.range, s)) ∧
  (∀ (s : State) (n e expect : Nat) (t : Txn) (v : List Byte),
    e < 4096 → v.length = 32 → writeGate s n (K.GTP_REGION_ENTRY e) true = Status.ok → (bits (field v 0 1) 7 5 ≠ 0 ∨ bits (field v 1 1) 7 6 ≠ 0 ∨ 3 ≤ field v 2 1 ∨ bits (field v 3 1) 7 1 ≠ 0 ∨ 64 ≤ field v 6 1 ∨ 128 ≤ field v 7 1 ∨
      1024 ≤ field v 8 2 ∨ 1024 ≤ field v 10 2 ∨ field v 13 3 ≠ 0 ∨ 2 ^ 40 ≤ field v 16 8 ∨ 2 ^ 40 ≤ field v 24 8) →
    stage s n t (K.GTP_REGION_ENTRY e) expect v = (Status.range, t)) ∧
  (∀ (s : State) (n e : Nat) (m : CrookMsg) (req : List Byte) (t : Txn) (w : Staged),
    e < 4096 → m.body = [] → (s.session n).txn = some t → pinfoldBar s t = none → w ∈ t.staged → w.key = K.GTP_REGION_ENTRY e →
    bit (field w.value 0 1) 0 = true → field w.value 24 8 < field w.value 16 8 →
    ∃ b, doCommit hooks s n m req = (some (Status.range, b), s)) ∧
  (∀ (v : List Byte) (i : Initiator) (target page : Nat), bit (field v 0 1) 0 = false → gtpMatches v i target page = false)

/-- R431: CIC_CLAIM returns the eligible source (R430) of highest priority, and among equals the first at or after the target's pointer. -/
def Obligations.ClaimTakesTheHighestPriority : Prop :=
  (∀ (s : State) (t i : Nat), s.cicTop t = some i →
    s.cicEligible t i = true ∧
    ∀ j ∈ s.cicRequests t,
      bits (s.rd (K.CRF_CIC_SRC_CFG j)) 23 20 ≤ bits (s.rd (K.CRF_CIC_SRC_CFG i)) 23 20 ∧
      (bits (s.rd (K.CRF_CIC_SRC_CFG j)) 23 20 = bits (s.rd (K.CRF_CIC_SRC_CFG i)) 23 20 →
        (i + 2048 - s.cicPointer t) % 2048 ≤ (j + 2048 - s.cicPointer t) % 2048)) ∧
  (∀ (s : State) (t : Nat), s.cicRequests t ≠ [] → ∃ i, s.cicTop t = some i) ∧
  (∀ (s : State) (t i : Nat), s.cicTop t = some i →
    (s.cicClaim t).1 = s.cicWord i ∧ ((s.cicClaim t).2.cicGet i).state = .active ∧ ((s.cicClaim t).2.cicGet i).owner = t ∧
    (s.cicClaim t).2.cicPointer t = (i + 1) % 2048) ∧
  (∀ (s : State) (t : Nat), s.cicTop t = none → (s.cicClaim t).1 = 0)

/-- Read after write for dictionary values (R38), versions (R40) and Commons (R408). -/
def Obligations.StoredValuesReadBack : Prop :=
  (∀ (s : State) (k v j : Nat), (s.wr k v).rd j = if j = k then v else s.rd j) ∧
  (∀ (s : State) (k j : Nat) (v : List Byte), (s.wro k v).rdo j = if j = k then v else s.rdo j) ∧
  (∀ (s : State) (k j : Nat), (s.bumpVersion k).version j = if j = k then (s.version k + 1) % 0xFFFFFFFF else s.version j) ∧
  (∀ (s : State) (a : Nat) (l : List Byte) (b : Nat),
    (s.memWrite a l).memGet b = if a ≤ b ∧ b < a + l.length then l.getD (b - a) 0 else s.memGet b)

/-- The frame of the register instructions (R335): rd, the pc and the cycle count (R337) of the issuing thread change; g0 takes no write (R325). -/
def Obligations.RegisterInstructionFrame : Prop :=
  ∀ (s : State) (x : ExecUnit) (rd ra rb : Reg) (imm : BitVec 16) (i : Instr),
    i ∈ [Instr.add x rd ra rb, .sub x rd ra rb, .and x rd ra rb, .or x rd ra rb, .xor x rd ra rb, .sll x rd ra rb, .srl x rd ra rb,
      .sra x rd ra rb, .slt x rd ra rb, .sltu x rd ra rb, .mul x rd ra rb, .mulhu x rd ra rb, .divu x rd ra rb, .remu x rd ra rb,
      .min x rd ra rb, .max x rd ra rb, .minu x rd ra rb, .maxu x rd ra rb, .crc32c x rd ra rb, .addi x rd ra imm, .andi x rd ra imm,
      .ori x rd ra imm, .xori x rd ra imm, .slti x rd ra imm, .sltiu x rd ra imm, .lui x rd ra imm, .shlori x rd ra imm] →
    s.mayIssue x = true →
    ∃ e : State, exec i s = .next (settle e) ∧
      (∀ r, r ≠ rd → (e.thread (unitNum x)).reg r = (s.thread (unitNum x)).reg r) ∧
      (e.thread (unitNum x)).reg 0 = 0 ∧
      (e.thread (unitNum x)).pc = (s.thread (unitNum x)).pc + 4 ∧
      (e.thread (unitNum x)).cycles = (s.thread (unitNum x)).cycles + 1 ∧
      (∀ u, u ≠ unitNum x → e.thread u = s.thread u) ∧
      (∀ a, e.memGet a = s.memGet a) ∧ e.drv.scratch = s.drv.scratch ∧ e.drv.segs = s.drv.segs ∧
      (∀ k, e.rdo k = s.rdo k) ∧ e.crf = s.crf ∧ e.fab = s.fab ∧ e.blw = s.blw ∧ e.tfb = s.tfb ∧ e.boot = s.boot ∧ e.flt = s.flt

/-- The frame of the local stores (R331, R332): the octets from the segment's key on, the form's width in number, and no others. -/
def Obligations.LocalStoreFrame : Prop :=
  ∀ (s : State) (x : ExecUnit) (rt ra : Reg) (off : BitVec 16) (i : Instr) (n : Nat),
    (i, n) ∈ [(Instr.st8 x rt ra off, 1), (.st16 x rt ra off, 2), (.st32 x rt ra off, 4), (.st64 x rt ra off, 8)] →
    let t := s.thread (unitNum x)
    let a := (t.reg ra + sext off).toNat
    s.mayIssue x = true → a % n = 0 → croftReg (unitNum x) a n = none →
    ∀ g, (s.issued x).seg (unitNum x) a n = some g → g.writable = true →
    ∃ e : State, exec i s = .next (settle e) ∧
      (∀ b, Sparse.get memDefault e.drv.scratch b =
        match g with
        | .scratch k => if k ≤ b ∧ b < k + n then BitVec.ofNat 8 (t.num rt / 256 ^ (b - k)) else Sparse.get memDefault s.drv.scratch b
        | _ => Sparse.get memDefault s.drv.scratch b) ∧
      (∀ b, Sparse.get memDefault e.drv.segs b =
        match g with
        | .data k => if k ≤ b ∧ b < k + n then BitVec.ofNat 8 (t.num rt / 256 ^ (b - k)) else Sparse.get memDefault s.drv.segs b
        | _ => Sparse.get memDefault s.drv.segs b) ∧
      (∀ b, e.memGet b = s.memGet b) ∧
      (∀ r, (e.thread (unitNum x)).reg r = t.reg r) ∧ (e.thread (unitNum x)).pc = t.pc + 4 ∧
      (∀ u, u ≠ unitNum x → e.thread u = s.thread u)

/-- Power-on, power-up and self-test commands carry out their step of the boot (R91, R93, R95, R97, R99, R100, R101).  Each clause concludes
that exec answers a next state, which it names (Gives: exec c s = .next (settle e)), so it states the completion of its constructor:
powerOn, brownOut, coldReset, coldBoot, refclkValid, vrPgRise, corePllLock, selftestPhaseB, selftestPhaseC, sysReady, uartRecoveryBlock. -/
def Obligations.PowerUpCommands : Prop :=
  (∀ (s : State),
    Gives (.powerOn) s (s.coldState 0 true false)) ∧
  (∀ (s : State),
    Gives (.brownOut) s (s.coldState 2 false false)) ∧
  (∀ (s : State),
    Gives (.coldReset) s (s.coldState 1 false true)) ∧
  (∀ (s : State) (board : Board) (testEn : Bool),
    let straps := board.straps.toNat
    let spread := board.spread
    s.boot.step = .reset →
    let s1 : State := { s with
      sel := { s.sel with spread := (spread.filter (· < 16)).eraseDups }
      boot := { s.boot with
        step := .strapped, warm := false, refclkEn := true, strapIllegal := straps % 4 == 3 || bit straps 7 || testEn
        i3cAddress := 0x50 + bits straps 4 2, mgmtFibre := bit straps 6 }
      mram := { s.mram with bootCount := s.mram.bootCount + 1 } }
    Gives (.coldBoot board testEn) s (s1.wr K.HRD_STRAP_VALUE (straps % 256 + 256 * b2n testEn))) ∧
  (∀ (s : State),
    s.boot.step = .strapped →
    Gives (.refclkValid) s ({ s with boot := { s.boot with step := .clocked, vrEn := putBit s.boot.vrEn 2 true } })) ∧
  (∀ (s : State) (rail : Nat),
    rail < 3 →
    bit s.boot.vrEn rail = true →
    bit s.boot.vrPg rail = false →
    let b : Boot := { s.boot with vrPg := putBit s.boot.vrPg rail true }
    (rail = 2 ∧ s.boot.step = .clocked ∨ rail = 0 ∧ s.boot.step = .pllSupply ∨ rail = 1) →
    Gives (.vrPgRise rail) s (
      if rail = 2 then { s with boot := { b with step := .pllSupply, vrEn := putBit b.vrEn 0 true } }
      else if rail = 0 then { s with boot := { b with step := .coreSupply, vrEn := putBit b.vrEn 1 true } }
      else { s with boot := b })) ∧
  (∀ (s : State) (fails : List TestFail),
    s.boot.step = .coreSupply →
    Gives (.corePllLock fails) s (State.phaseA { s with clk := { running := true }, boot := { s.boot with step := .phaseA } } fails)) ∧
  (∀ (s : State) (fails : List TestFail),
    s.boot.step = .pinfold →
    s.clk.running = false →
    Gives (.corePllLock fails) s ({ s with clk := { running := true } })) ∧
  (∀ (s : State) (fails : List TestFail),
    s.boot.step = .phaseA →
    bit s.boot.vrPg 1 = true →
    bit (s.rd K.HRD_SELFTEST_RAN) 4 = true →
    s.inPinfold = false →
    let mine := fails.filter (fun f => 5 ≤ f.test && f.test ≤ 13)
    let s1 := forEach [5, 6, 7, 8, 9, 10, 11, 12, 13] (fun s n => s.testRan n (mine.filter (fun f => f.test == n))) s
    let s2 := forEach mine (fun s f => if s.gravePhaseB mine f then s.testFault 2 f else (s.lessPhaseB f).testFault 1 f) s1
    Gives (.selftestPhaseB fails) s (
      match sortBy (·.test) (mine.filter (s2.gravePhaseB mine)) with
      | f :: _ => s2.enterPinfold 1 f.test false
      | [] => State.phaseBEnd { s2 with boot := { s2.boot with step := .phaseB } })) ∧
  (∀ (s : State) (fails : List TestFail),
    s.inPinfold = true →
    s.boot.testsDue = true →
    s.clk.running = true →
    Gives (.selftestPhaseB fails) s (s.pinfoldTests fails)) ∧
  (∀ (s : State),
    let H := hooks
    Gives (.selftestPhaseC) s (s.phaseC H)) ∧
  (∀ (s : State),
    s.boot.step = .replayed →
    s.boot.boundary < s.now →
    let s1 : State := { s with boot := { s.boot with step := .ready, sysReady := true, lanesIdle := false, upTick := s.clk.dtc } }
    let s2 := State.tallyStart s.clk.dtc
      { s1.wr K.HRD_READY_TIME s.clk.dtc with fab := { s1.fab with pdk := { s1.fab.pdk with ownerChanged := [], restored := [] } } }
    let s3 := forEach ((List.range 16).filter (fun n => s2.rd (K.HRD_SLOT_ENABLE n) == 1)) (fun s n => s.slotApply n) s2
    let s4 := forEach (s3.rolePorts 1 ++ s3.rolePorts 2 ++ s3.rolePorts 3) (fun s p => s.startTraining p) s3
    Gives (.sysReady) s s4.alertEnd.logBoot) ∧
  (∀ (s : State) (b : List Byte) (crc : Nat),
    s.boot.step = .uartRecovery →
    Gives (.uartRecoveryBlock b crc) s (
      if b.length ≠ 1024 ∨ crc32c b ≠ crc then s.emit (.uart [0x15])
      else
        let i := s.boot.uartImage ++ b
        let s1 := State.emit { s with boot := { s.boot with uartImage := i } } (.uart [0x06])
        if bootable i then s1.runImage i else s1))

/-- Reset pins, resets of a port and of a subsystem, and the Pinfold report act as the manual says (R86, R87, R96, R97, R98, R110, R161, R449).
Each clause concludes that exec answers a next state, which it names (Gives: exec c s = .next (settle e)), so it states the completion of
its constructor: warmReset, hrdWarmReset, pinfoldUartReport, portPerstN, perstRelease, hotReset, perstDeassert, subsystemResetDone. -/
def Obligations.ResetPinCommands : Prop :=
  (∀ (s : State),
    s.pwr.sleep = .awake →
    Gives (.warmReset) s (s.warmReset 3)) ∧
  (∀ (s : State) (n : Nat) (value : Nat),
    carried K.HRD_WARM_RESET value = 0x7A3C →
    s.mayWrite n K.HRD_WARM_RESET (wire K.HRD_WARM_RESET value) →
    Gives (.hrdWarmReset n value) s (s.written n K.HRD_WARM_RESET (wire K.HRD_WARM_RESET value) ({ s with boot := { s.boot with warmRequest := true } }))) ∧
  (∀ (s : State),
    s.boot.step = .bothyPinfold →
    let d := fun n => BitVec.ofNat 8 (48 + n)
    Gives (.pinfoldUartReport) s (
      s.emit (.uart ([0x50, 0x49, 0x4E, 0x46, 0x4F, 0x4C, 0x44, 0x20, 0x53, 0x54] ++ [d (s.boot.failedTest / 10), d (s.boot.failedTest % 10)]
      ++ [0x20, 0x43, 0x52, 0x46])))) ∧
  (∀ (s : State) (p : Nat),
    s.pfExists p = true →
    s.rd K.HRD_PADS_HELD = 0 →
    s.inPinfold = false →
    (s.port p).newRole = false →
    let s1 : State := { s with boot := { s.boot with perstIn := p :: s.boot.perstIn.filter (· != p) } }
    Gives (.portPerstN p) s ((s1.portReset p).setLtssm p 0x00)) ∧
  (∀ (s : State) (p : Nat),
    p < 64 →
    ∀ e, s.slots.perst.find? (fun e => e.1 == p) = some e →
    s.role p = 2 →
    s.perstReady p = true →
    e.2 + 100000000 ≤ s.clk.dtc →
    s.rd K.HRD_PADS_HELD = 0 →
    let s1 := s.perstFree p
    Gives (.perstRelease p) s (State.emit { s1 with boot := { s1.boot with perstHigh := p :: s1.boot.perstHigh } } (.perstPin p true))) ∧
  (∀ (s : State) (p : Nat),
    p < 64 →
    s.role p ≠ 0 →
    s.role p ≠ 3 →
    s.linkUp p = true →
    Gives (.hotReset p) s (((s.portReset p).setLtssm p 0x1B).startTraining p)) ∧
  (∀ (s : State) (p : Nat),
    s.boot.perstIn.contains p = true →
    s.rd K.HRD_PADS_HELD = 0 →
    Gives (.perstDeassert p) s (State.startTraining { s with boot := { s.boot with perstIn := s.boot.perstIn.filter (· != p) } } p)) ∧
  (∀ (s : State) (n : Nat) (fails : List TestFail),
    s.flt.resets.contains n = true →
    let s1 : State := { s with flt := { s.flt with resets := s.flt.resets.filter (· != n) } }
    Gives (.subsystemResetDone n fails) s (
      if n = 8 then
        forEach (fails.filter (fun f => f.test == 9 && (f.element / 4096 == 7 || f.element / 4096 == 8)))
          (fun s f => (s.lessPhaseB f).testFault 1 f) s1.unfenceDrover
      else match fails.filter (fun f => f.test == 10) with
        | [] => s1
        | f :: _ => (s1.testFault 2 f).enterPinfold 1 10 false))

/-- Firmware update commands move the update on, and factory reset is recorded (R60, R76, R113).  Each clause concludes that exec answers a next
state, which it names (Gives: exec c s = .next (settle e)), so it states the completion of its constructor: fwStart, crfFwChunk, fwFinish,
fwVerifyDone, fwActivate, fwAbort, crfFactoryReset. -/
def Obligations.FirmwareUpdateCommands : Prop :=
  (∀ (s : State) (n : Nat),
    s.mayWrite n K.CRF_FW_CTRL (wire K.CRF_FW_CTRL 1) →
    ∀ e, s.fwCtrl 1 = (Status.ok, e) →
    Gives (.fwStart n) s (s.written n K.CRF_FW_CTRL (wire K.CRF_FW_CTRL 1) e)) ∧
  (∀ (s : State) (n : Nat) (chunk : List Byte),
    s.mayWrite n K.CRF_FW_CHUNK chunk →
    ∀ e, s.fwChunk chunk = (Status.ok, e) →
    Gives (.crfFwChunk n chunk) s (s.written n K.CRF_FW_CHUNK chunk e)) ∧
  (∀ (s : State) (n : Nat),
    s.mayWrite n K.CRF_FW_CTRL (wire K.CRF_FW_CTRL 2) →
    ∀ e, s.fwCtrl 2 = (Status.ok, e) →
    Gives (.fwFinish n) s (s.written n K.CRF_FW_CTRL (wire K.CRF_FW_CTRL 2) e)) ∧
  (∀ (s : State),
    s.rd K.CRF_FW_STATUS = 2 →
    Gives (.fwVerifyDone) s (
      if bootable s.inactive then (s.wr K.CRF_FW_STATUS 3).wr K.CRF_FW_STAGED_VERSION (Config.imageVersion s.inactive % 2 ^ 32)
      else s.wr K.CRF_FW_STATUS 5)) ∧
  (∀ (s : State) (n : Nat),
    s.mayWrite n K.CRF_FW_CTRL (wire K.CRF_FW_CTRL 3) →
    ∀ e, s.fwCtrl 3 = (Status.ok, e) →
    Gives (.fwActivate n) s (s.written n K.CRF_FW_CTRL (wire K.CRF_FW_CTRL 3) e)) ∧
  (∀ (s : State) (n : Nat),
    s.mayWrite n K.CRF_FW_CTRL (wire K.CRF_FW_CTRL 4) →
    ∀ e, s.fwCtrl 4 = (Status.ok, e) →
    Gives (.fwAbort n) s (s.written n K.CRF_FW_CTRL (wire K.CRF_FW_CTRL 4) e)) ∧
  (∀ (s : State) (n : Nat) (value : Nat),
    carried K.CRF_FACTORY_RESET value = 0x5AFE →
    s.mayWrite n K.CRF_FACTORY_RESET (wire K.CRF_FACTORY_RESET value) →
    Gives (.crfFactoryReset n value) s (s.written n K.CRF_FACTORY_RESET (wire K.CRF_FACTORY_RESET value) ({ s with mram := { s.mram with factoryReset := true } })))

/-- Interrupt lines, claim, complete and the global disable act on the interrupt controller (R427, R430, R431, R434).  Each clause concludes
that exec answers a next state, which it names (Gives: exec c s = .next (settle e)), so it states the completion of its constructor:
externalLineChange, cicClaim, cicComplete, cicGlobal. -/
def Obligations.InterruptControllerCommands : Prop :=
  (∀ (s : State) (line : Nat) (level : Bool) (held : Nat),
    line < 7 →
    s.rd (K.CRF_CIC_FILTER line) ≤ held →
    let i := 0x10 + line
    let asserted := xor level (bit (s.rd (K.CRF_CIC_SRC_CFG i)) 29)
    let was := (s.cicGet i).level
    let s1 := s.cicLevel i asserted
    Gives (.externalLineChange line level held) s (if line = 0 ∧ asserted ∧ !was then s1.bump K.HRD_PMBUS_ALERTS else s1)) ∧
  (∀ (s : State) (t : Nat),
    t < 20 →
    let r := s.cicClaim t
    Gives (.cicClaim t) s (r.2.emit (.cicValue t r.1))) ∧
  (∀ (s : State) (t : Nat) (value : BitVec 32),
    let i := value.toNat % 2048
    t < 20 →
    (s.cicGet i).state = .active ∨ (s.cicGet i).state = .activePending →
    (s.cicGet i).owner = t →
    Gives (.cicComplete t value) s (when (bit value.toNat 31) (·.bump K.CRF_CIC_NOCAUSE) (s.cicFinish i (!bit value.toNat 31)))) ∧
  (∀ (s : State) (value : BitVec 32),
    let v := value.toNat
    Gives (.cicGlobal value) s ({ s with cic := { s.cic with disable := bit v 0 } }))

/-- A Tally overflow reloads its counter, and a write clears overflow flags (R438, R441, R443).  Each clause concludes that exec answers a next
state, which it names (Gives: exec c s = .next (settle e)), so it states the completion of its constructor: tallyOverflow, crfTallyOvfClear. -/
def Obligations.TallyCommands : Prop :=
  (∀ (s : State) (counter : Nat) (n : Nat),
    counter < 1024 →
    s.tallyLive counter + n < 2 ^ 48 →
    Gives (.tallyOverflow counter n) s (s.tallyPut counter (s.tallyLive counter + n))) ∧
  (∀ (s : State) (counter : Nat) (n : Nat),
    counter < 1024 →
    let v := s.tallyLive counter + n
    2 ^ 48 ≤ v →
    s.rd (K.CRF_TALLY_RELOAD counter) < 2 ^ 48 →
    v - 2 ^ 48 < 2 ^ 48 - s.rd (K.CRF_TALLY_RELOAD counter) →
    let s1 := s.tallyPut counter (s.rd (K.CRF_TALLY_RELOAD counter) + (v - 2 ^ 48))
    Gives (.tallyOverflow counter n) s (
      if bit (s.rd (K.CRF_TALLY_OVF (counter / 16))) (counter % 16) then s1.bump K.CRF_TALLY_OVERFLOWS
      else (s1.wrBit (K.CRF_TALLY_OVF (counter / 16)) (counter % 16) true).cicTally (counter / 16))) ∧
  (∀ (s : State) (n : Nat) (counter : Nat),
    s.mayWrite n K.CRF_TALLY_OVF_CLEAR (wire K.CRF_TALLY_OVF_CLEAR counter) →
    Gives (.crfTallyOvfClear n counter) s (s.written n K.CRF_TALLY_OVF_CLEAR (wire K.CRF_TALLY_OVF_CLEAR counter) (s.tallyOvfClear (carried K.CRF_TALLY_OVF_CLEAR counter))))

/-- PTP messages, the PPS pins and the loss of Sync act on device time (R466, R467).  Each clause concludes that exec answers a next state,
which it names (Gives: exec c s = .next (settle e)), so it states the completion of its constructor: sync, followUp, delayResp, announce,
ptpHoldover, ptpUnlock, tsPpsIn, tsPpsOut. -/
def Obligations.TimeCommands : Prop :=
  (∀ (s : State) (m : PtpMsg),
    s.ptpHeard m = true →
    s.bestMaster = some (m.port, m.source) →
    let s1 := s.emit (.delayReq m.port)
    Gives (.sync m) s (
      if m.twoStep then { s1 with clk := { s1.clk with servo := { s1.clk.servo with waiting := some m } } }
      else s1.servoUpdate m.port m.interval m.origin m.received)) ∧
  (∀ (s : State) (m : PtpMsg),
    s.ptpHeard m = true →
    ∀ w, s.clk.servo.waiting = some w →
    w.port = m.port →
    w.source = m.source →
    w.sequence = m.sequence →
    Gives (.followUp m) s (s.servoUpdate w.port w.interval m.origin w.received)) ∧
  (∀ (s : State) (m : PtpMsg),
    s.ptpHeard m = true →
    s.bestMaster = some (m.port, m.source) →
    ∀ o, s.clk.servo.lastOrigin = some o →
    let d := (((s.clk.servo.lastReceived : Int) - o) + ((m.received : Int) - m.origin)) / 2
    Gives (.delayResp m) s ({ s with clk := { s.clk with servo := { s.clk.servo with delay := d } } })) ∧
  (∀ (s : State) (m : PtpMsg),
    s.ptpHeard m = true →
    Gives (.announce m) s (
      { s with clk := { s.clk with servo := { s.clk.servo with
      announced := s.clk.servo.announced.filter (fun e => !(e.1 == m.port && e.2.1 == m.source)) ++ [(m.port, m.source, m.rank)] } } })) ∧
  (∀ (s : State),
    s.locked = true →
    s.clk.servo.lastSync + 3 * s.clk.servo.interval ≤ s.clk.dtc →
    bit (s.rd K.HRD_TIME_STATUS) 1 = false →
    Gives (.ptpHoldover) s ({ s with clk := { s.clk with servo := { s.clk.servo with holdoverAt := s.clk.dtc } } }.wrBit K.HRD_TIME_STATUS 1 true)) ∧
  (∀ (s : State),
    bit (s.rd K.HRD_TIME_STATUS) 1 = true →
    s.clk.servo.holdoverAt + s.rd K.HRD_PTP_HOLDOVER ≤ s.clk.dtc →
    Gives (.ptpUnlock) s (
      { s with clk := { s.clk with servo := { s.clk.servo with good := 0, lastOrigin := none, lockedAll := false } } }.wr K.HRD_TIME_STATUS
        (putBits (putBit (putBit (s.rd K.HRD_TIME_STATUS) 0 false) 1 false) 5 4 3))) ∧
  (∀ (s : State) (error : Int),
    s.rd K.HRD_TIME_SOURCE = 2 →
    s.clk.running = true →
    s.rd K.HRD_PADS_HELD ≠ 1 →
    Gives (.tsPpsIn error) s (
      if (error.natAbs : Nat) ≤ s.rd K.HRD_PPS_WINDOW then
        let off := s.timeOffset - error
        let rate := match s.clk.servo.ppsLast with
          | some a =>
            let own : Int := (s.clk.dtc : Int) - a
            s.rateOver ((own + 500000000) / 10 ^ 9 * 10 ^ 9) own
          | none => s.rateAdj
        let slew := s.slewFor off rate
        let s1 : State := { s with clk := { s.clk with servo := { s.clk.servo with ppsLast := some s.clk.dtc } } }
        ((((s1.wr K.HRD_TIME_OFFSET (ofInt 64 off)).wr K.HRD_TIME_ERROR (ofInt 32 (clampInt 2147483647 error))).wr K.HRD_RATE_ADJ (ofInt 32 slew)).wrBit
          K.HRD_TIME_STATUS 3 true).tick
      else (s.bump K.HRD_PPS_REJECTED).wrBit K.HRD_TIME_STATUS 3 false)) ∧
  (∀ (s : State),
    let t := ((s.clk.dtc : Int) + s.timeOffset) % 10 ^ 9
    s.rd K.HRD_PPS_OUT_ENABLE = 1 →
    s.clk.running = true →
    s.rd K.HRD_PADS_HELD = 0 →
    (t ≤ 4 ∨ 10 ^ 9 - 4 ≤ t) →
    Gives (.tsPpsOut) s ({ s with clk := { s.clk with servo := { s.clk.servo with ppsHigh := true, ppsAt := s.clk.dtc } } }.emit .ppsOut))

/-- Scrub bursts, the scrub deadline, die temperature and a lost channel act on Commons (R410, R414, R472).  Each clause concludes that exec
answers a next state, which it names (Gives: exec c s = .next (settle e)), so it states the completion of its constructor: scrubBurst,
scrubBurstEnd, cmnScrubBehind, cmnTemp, cmnChannel. -/
def Obligations.CommonsCommands : Prop :=
  (∀ (s : State) (findings : List (Nat × EccKind)),
    2 ≤ s.granted 80 →
    s.cmn.burstEnd.isSome = false →
    s.rd K.CMN_SCRUB_ENABLE ≠ 0 →
    let p := s.rd K.CMN_SCRUB_POSITION
    let s1 := (forEach (findings.filter (fun f => p ≤ f.1 && f.1 < p + scrubStep)) (fun s f => s.cmnEcc (f.1 / 64) f.2) s).wrBit
      K.CMN_STATE 3 true
    Gives (.scrubBurst findings) s ({ s1 with cmn := { s1.cmn with burstEnd := some (s1.clk.dtc + 70000000) } })) ∧
  (∀ (s : State),
    s.cmn.burstEnd.isNone = false →
    Gives (.scrubBurstEnd) s (s.scrubStop scrubStep)) ∧
  (∀ (s : State),
    let left := (cmnSize - s.rd K.CMN_SCRUB_POSITION) / 16
    s.cmn.behindTold = false →
    s.rd K.CMN_SCRUB_ENABLE ≠ 0 →
    s.cmn.passStart + s.rd K.CMN_SCRUB_PERIOD < s.clk.dtc + left →
    let s1 : State := { s with cmn := { s.cmn with behindTold := true } }
    Gives (.cmnScrubBehind) s (((s1.bump K.CMN_SCRUB_BEHIND).raise F.CMN_SCRUB_BEHIND (elemSub 10)).cicRaise 0x144)) ∧
  (∀ (s : State) (c : Nat) (code : Nat) (out : Bool),
    c < 32 →
    let s1 := s.wrBits (K.CMN_CH_STATE c) 7 4 code
    let hot := (if out then [c] else []) ++ s.cmn.hot.filter (· != c)
    let others := s.gov.throttled.filter (· != (10, 1))
    let s2 : State := { s1 with
      cmn := { s1.cmn with hot := hot }
      gov := { s1.gov with throttled := (if hot.isEmpty then [] else [(10, 1)]) ++ others } }
    let s3 := s2.wrBit K.HRD_THROTTLE_STATE 13 (!hot.isEmpty || others.any (fun e => e.1 == 10))
    Gives (.cmnTemp c code out) s (if out then (s3.raise F.CMN_TEMP (elem 12 c)).cicRaise 0x143 else s3)) ∧
  (∀ (s : State) (c : Nat),
    c < 32 →
    Gives (.cmnChannel c) s (((s.wrBit (K.CMN_CH_STATE c) 0 false).cicRaise 0x146).raise F.CMN_CHANNEL (elem 12 c)))

/-- A new request of an open session is carried out and answered (R46, R54, R55, R60, R61, R64, R66, R67, R69).  Each clause concludes that exec
answers a next state, which it names (Gives: exec c s = .next (settle e)), so it states the completion of its constructor: read, write,
blockRead, blockWrite, beginTxn, subscribe, commit, rollback. -/
def Obligations.CrookRequests : Prop :=
  (∀ (s : State) (tr : Transport) (src : Nat) (m : CrookMsg),
    s.hears tr src 0x02 m = true →
    (s.submitted tr 0x02 m).asks tr src 0x02 m = true →
    let t := (s.submitted tr 0x02 m).atRequest tr m
    Gives (.read tr src m) s (t.replied 0x02 m (doRead hooks t m.session m))) ∧
  (∀ (s : State) (tr : Transport) (src : Nat) (m : CrookMsg),
    s.hears tr src 0x03 m = true →
    (s.submitted tr 0x03 m).asks tr src 0x03 m = true →
    let t := (s.submitted tr 0x03 m).atRequest tr m
    Gives (.write tr src m) s (t.replied 0x03 m (doWrite hooks t m.session m))) ∧
  (∀ (s : State) (tr : Transport) (src : Nat) (m : CrookMsg),
    s.hears tr src 0x04 m = true →
    (s.submitted tr 0x04 m).asks tr src 0x04 m = true →
    let t := (s.submitted tr 0x04 m).atRequest tr m
    Gives (.blockRead tr src m) s (t.replied 0x04 m (doBlockRead hooks t m.session m))) ∧
  (∀ (s : State) (tr : Transport) (src : Nat) (m : CrookMsg),
    s.hears tr src 0x05 m = true →
    (s.submitted tr 0x05 m).asks tr src 0x05 m = true →
    let t := (s.submitted tr 0x05 m).atRequest tr m
    Gives (.blockWrite tr src m) s (t.replied 0x05 m (doBlockWrite hooks t m.session m))) ∧
  (∀ (s : State) (tr : Transport) (src : Nat) (m : CrookMsg),
    s.hears tr src 0x06 m = true →
    (s.submitted tr 0x06 m).asks tr src 0x06 m = true →
    let t := (s.submitted tr 0x06 m).atRequest tr m
    Gives (.beginTxn tr src m) s (t.replied 0x06 m (doBegin t m.session m))) ∧
  (∀ (s : State) (tr : Transport) (src : Nat) (m : CrookMsg),
    s.hears tr src 0x09 m = true →
    (s.submitted tr 0x09 m).asks tr src 0x09 m = true →
    let t := (s.submitted tr 0x09 m).atRequest tr m
    Gives (.subscribe tr src m) s (t.replied 0x09 m (doSubscribe hooks t m.session m))) ∧
  (∀ (s : State) (tr : Transport) (src : Nat) (m : CrookMsg),
    s.hears tr src 0x07 m = true →
    (s.submitted tr 0x07 m).asks tr src 0x07 m = true →
    let t := (s.submitted tr 0x07 m).atRequest tr m
    Gives (.commit tr src m) s (
      match doCommit hooks t m.session m (msgBytes 0x07 m) with
      | (some (status, body), u) => t.replied 0x07 m (status, body, u)
      | (none, u) => crookDrop u (u.session m.session).transport)) ∧
  (∀ (s : State) (tr : Transport) (src : Nat) (m : CrookMsg),
    s.hears tr src 0x08 m = true →
    (s.submitted tr 0x08 m).asks tr src 0x08 m = true →
    Gives (.rollback tr src m) s (doRollback hooks ((s.submitted tr 0x08 m).atRequest tr m) m.session m (msgBytes 0x08 m)))

/-- Sessions open, commits apply or time out, idle sessions end, and mailboxes are served (R46, R52, R53, R54, R56, R64, R65, R68, R70, R74,
R361).  Each clause concludes that exec answers a next state, which it names (Gives: exec c s = .next (settle e)), so it states the
completion of its constructor: hello, commitApply, commitTimeout, notify, crfAuth, sessionIdleTimeout, txnIdleTimeout, pfMbxGo,
pfMbxRspRelease, pfMbxNtfRelease, crfMramWear, barRegisterWrite. -/
def Obligations.CrookSessionCommands : Prop :=
  (∀ (s : State) (tr : Transport) (src : Nat) (m : CrookMsg),
    s.hears tr src 0x01 m = true →
    Gives (.hello tr src m) s (crookHello hooks (s.submitted tr 0x01 m) tr src m)) ∧
  (∀ (s : State),
    s.ticking = true →
    Gives (.commitApply) s (forEach [1, 2, 3, 4, 5, 6, 7, 8] (commitOne hooks) s)) ∧
  (∀ (s : State) (session : Nat),
    1 ≤ session →
    session ≤ 8 →
    ∀ w, (s.session session).waiting = some w →
    w.arrived + s.rd K.CRF_COMMIT_TIMEOUT ≤ s.clk.dtc →
    Gives (.commitTimeout session) s (endCommit hooks (s.bump K.CRF_COMMIT_TIMEOUTS) session Status.timeout (commitBody 0 0 0 0))) ∧
  (∀ (s : State),
    s.ticking = true →
    Gives (.notify) s (
      forEach s.openSessions (fun s n =>
        forEach (s.session n).subs (fun s y => forEach y.sent (notifyOne hooks n y.num y.idx y.interval) s) s) s)) ∧
  (∀ (s : State) (n : Nat),
    s.boot.croftServes = true →
    let s1 := s.bump K.CRF_AUTH_FAILS
    Gives (.crfAuth n) s (
      if !(1 ≤ n && n ≤ 8 && (s.session n).opened) then s1 else
      let x := s1.session n
      let times := s.clk.dtc :: x.badTimes.filter (fun t => s.clk.dtc < t + 10 ^ 9)
      if 64 ≤ times.length then ((s1.putSession n { x with badTimes := [] }).closeSession n).raiseD F.CRF_AUTH (elemSub 11) n times.length 0
      else s1.putSession n { x with badTimes := times })) ∧
  (∀ (s : State) (session : Nat),
    1 ≤ session →
    session ≤ 8 →
    (s.session session).opened = true →
    (s.session session).lastMsg + s.rd K.CRF_SESSION_IDLE ≤ s.clk.dtc →
    Gives (.sessionIdleTimeout session) s (s.putSession session {})) ∧
  (∀ (s : State) (session : Nat),
    1 ≤ session →
    session ≤ 8 →
    ∀ t, (s.session session).txn = some t →
    (s.session session).waiting = none →
    t.lastMsg + s.rd K.CRF_TXN_IDLE ≤ s.clk.dtc →
    Gives (.txnIdleTimeout session) s (s.putSession session { s.session session with txn := none })) ∧
  (∀ (s : State) (port : Nat),
    s.pfExists port = true →
    let x := s.mailbox port
    bit x.ctrl 1 = false →
    bit x.ctrl 2 = false →
    s.serves (.mbx port) = true →
    let b := fit x.reqLen x.req
    Gives (.pfMbxGo port) s (crookReceive hooks (.mbx port) 0 (field b 3 1) (mbxMsg b) (s.putMailbox port { x with ctrl := putBit (putBit x.ctrl 1 true) 3 false }))) ∧
  (∀ (s : State) (p : Nat),
    s.pfExists p = true →
    let n := 2
    let x := s.mailbox p
    Gives (.pfMbxRspRelease p) s (
      match x.queue with
      | b :: rest =>
        if n = 2 ∧ bit x.ctrl 2 then
          ((s.putMailbox p { x with rsp := b, rspLen := b.length, queue := rest }).emit (.crook (.mbx p) 0 b)).pfCause p 0
        else s.putMailbox p { x with ctrl := putBit x.ctrl n false }
      | [] => s.putMailbox p { x with ctrl := putBit x.ctrl n false })) ∧
  (∀ (s : State) (p : Nat),
    s.pfExists p = true →
    let n := 7
    let x := s.mailbox p
    Gives (.pfMbxNtfRelease p) s (
      match x.queue with
      | b :: rest =>
        if n = 2 ∧ bit x.ctrl 2 then
          ((s.putMailbox p { x with rsp := b, rspLen := b.length, queue := rest }).emit (.crook (.mbx p) 0 b)).pfCause p 0
        else s.putMailbox p { x with ctrl := putBit x.ctrl n false }
      | [] => s.putMailbox p { x with ctrl := putBit x.ctrl n false })) ∧
  (∀ (s : State),
    s.rd K.CRF_MRAM_PASS_LIMIT ≤ s.mram.passes →
    s.crf.wearReported < 2 →
    Gives (.crfMramWear) s (State.raise { s.wr K.CRF_PERSIST_ENABLE 0 with crf := { (s.wr K.CRF_PERSIST_ENABLE 0).crf with wearReported := 2 } } F.CRF_MRAM_WEAR (elemSub 11))) ∧
  (∀ (s : State),
    s.mram.passes < s.rd K.CRF_MRAM_PASS_LIMIT →
    800000000 ≤ s.mram.passes →
    s.crf.wearReported = 0 →
    Gives (.crfMramWear) s (State.raise { s with crf := { s.crf with wearReported := 1 } } F.CRF_MRAM_WEAR (elemSub 11))) ∧
  (∀ (s : State) (f : Func) (offset : Nat) (size : Nat) (value : Nat),
    barFits offset size = true →
    size = 4 →
    Gives (.barRegisterWrite f offset size value) s (s.barDword mbxGo f offset (value % 2 ^ 32))) ∧
  (∀ (s : State) (f : Func) (offset : Nat) (size : Nat) (value : Nat),
    barFits offset size = true →
    size ≠ 4 →
    Gives (.barRegisterWrite f offset size value) s ((s.barDword mbxGo f offset (bits value 31 0)).barDword mbxGo f (offset + 4) (bits value 63 32)))

/-- Writes of keys, key locks, transports and ring read pointers take effect at once (R41, R51, R53, R56, R60, R77, R514).  Each clause
concludes that exec answers a next state, which it names (Gives: exec c s = .next (settle e)), so it states the completion of its
constructor: crfKeySlot, crfKeyLock, crfTransportEnable, gtpViolationRead, lomSampleRead, pdkQsampleRead, pdkTallyRead. -/
def Obligations.KeyPermissionAndPointerWrites : Prop :=
  (∀ (s : State) (n : Nat) (slot : Nat) (key : List Byte),
    1 ≤ slot →
    slot ≤ 8 →
    s.mayWrite n (K.CRF_KEY_SLOT (slot - 1)) key →
    Gives (.crfKeySlot n slot key) s (s.written n (K.CRF_KEY_SLOT (slot - 1)) key (s.keyWrite slot key))) ∧
  (∀ (s : State) (n : Nat) (mask : Nat),
    s.mayWrite n K.CRF_KEY_LOCK (wire K.CRF_KEY_LOCK mask) →
    Gives (.crfKeyLock n mask) s (s.written n K.CRF_KEY_LOCK (wire K.CRF_KEY_LOCK mask) ({ s with dict := { s.dict with keyLock := s.dict.keyLock.lor (carried K.CRF_KEY_LOCK mask) } }))) ∧
  (∀ (s : State) (n : Nat) (value : Nat),
    bit (carried K.CRF_TRANSPORT_ENABLE value) (transportNum (s.session n).transport) = true →
    s.mayWrite n K.CRF_TRANSPORT_ENABLE (wire K.CRF_TRANSPORT_ENABLE value) →
    Gives (.crfTransportEnable n value) s (s.written n K.CRF_TRANSPORT_ENABLE (wire K.CRF_TRANSPORT_ENABLE value) (s.transportWrite (carried K.CRF_TRANSPORT_ENABLE value)))) ∧
  (∀ (s : State) (n : Nat) (value : Nat),
    s.mayWrite n K.GTP_VIOLATION_READ (wire K.GTP_VIOLATION_READ value) →
    ∀ e, s.ringRead K.GTP_VIOLATION_READ K.GTP_VIOLATION_WRITE 1024 (carried K.GTP_VIOLATION_READ value) = (Status.ok, e) →
    Gives (.gtpViolationRead n value) s (s.written n K.GTP_VIOLATION_READ (wire K.GTP_VIOLATION_READ value) e)) ∧
  (∀ (s : State) (n : Nat) (value : Nat),
    s.mayWrite n K.LOM_SAMPLE_READ (wire K.LOM_SAMPLE_READ value) →
    ∀ e, s.ringRead K.LOM_SAMPLE_READ K.LOM_SAMPLE_WRITE s.sampleSlots (carried K.LOM_SAMPLE_READ value) = (Status.ok, e) →
    Gives (.lomSampleRead n value) s (s.written n K.LOM_SAMPLE_READ (wire K.LOM_SAMPLE_READ value) e)) ∧
  (∀ (s : State) (n : Nat) (value : Nat),
    s.mayWrite n K.PDK_QSAMPLE_READ (wire K.PDK_QSAMPLE_READ value) →
    ∀ e, s.ringRead K.PDK_QSAMPLE_READ K.PDK_QSAMPLE_WRITE s.qsampleSlots (carried K.PDK_QSAMPLE_READ value) = (Status.ok, e) →
    Gives (.pdkQsampleRead n value) s (s.written n K.PDK_QSAMPLE_READ (wire K.PDK_QSAMPLE_READ value) e)) ∧
  (∀ (s : State) (n : Nat) (value : Nat),
    s.mayWrite n K.PDK_TALLY_READ (wire K.PDK_TALLY_READ value) →
    ∀ e, s.ringRead K.PDK_TALLY_READ K.PDK_TALLY_WRITE (s.rd K.PDK_TALLY_SLOTS) (carried K.PDK_TALLY_READ value) = (Status.ok, e) →
    Gives (.pdkTallyRead n value) s (s.written n K.PDK_TALLY_READ (wire K.PDK_TALLY_READ value) e))

/-- Programs are loaded, verified and unloaded, and work is dispatched to engines (R327, R353, R360).  Each clause concludes that exec answers a
next state, which it names (Gives: exec c s = .next (settle e)), so it states the completion of its constructor: dispatch, loadStart,
drvLoadChunk, loadFinish, loadVerifyDone, loadAbort, loadUnload, unloadComplete, drvProgKeyLock. -/
def Obligations.ProgramCommands : Prop :=
  (∀ (s : State),
    ∀ v, s.turn s.tfb.dispatchPtr (fun v => s.vfDispatches v && (List.range 4).any (s.sqDispatches v)) = some v →
    ∀ d, (rotFind (s.sqDispatches v) 4 (s.vf v).dispPtr).bind (s.headDesc v) = some d →
    s.descFault v d.bytes = none →
    ∀ w, s.placeFor v d.bytes = some w →
    Gives (.dispatch) s (s.dispatchDesc v d w)) ∧
  (∀ (s : State) (n : Nat),
    s.mayWrite n K.DRV_LOAD_CTRL (wire K.DRV_LOAD_CTRL 1) →
    ∀ e, s.loadCtrl (s.perm n) 1 = (Status.ok, e) →
    Gives (.loadStart n) s (s.written n K.DRV_LOAD_CTRL (wire K.DRV_LOAD_CTRL 1) e)) ∧
  (∀ (s : State) (n : Nat) (chunk : List Byte),
    s.mayWrite n K.DRV_LOAD_CHUNK chunk →
    ∀ e, s.loadChunk chunk = (Status.ok, e) →
    Gives (.drvLoadChunk n chunk) s (s.written n K.DRV_LOAD_CHUNK chunk e)) ∧
  (∀ (s : State) (n : Nat),
    s.mayWrite n K.DRV_LOAD_CTRL (wire K.DRV_LOAD_CTRL 2) →
    ∀ e, s.loadCtrl (s.perm n) 2 = (Status.ok, e) →
    Gives (.loadFinish n) s (s.written n K.DRV_LOAD_CTRL (wire K.DRV_LOAD_CTRL 2) e)) ∧
  (∀ (s : State),
    ∀ l, s.drv.load = some l →
    l.verifying = true →
    let s0 : State := { s with drv := { s.drv with load := none } }
    Gives (.loadVerifyDone) s (
      if imageOk l.image && s.imageSigned l.image then
        let i := l.image.take (imageLength l.image)
        let s0 := (s0.cmnWrite (s0.carveAt 6 + 2 ^ 20 * l.slot) i allBytes).2
        let s1 : State := { s0 with drv := { s0.drv with images := Sparse.insert l.slot i s0.drv.images } }
        (((((s1.wr (K.DRV_PROG_STATE l.slot) 1).wr (K.DRV_PROG_ID l.slot) (field i 8 4)).wr (K.DRV_PROG_VERSION l.slot) (field i 12 4)).wr
          (K.DRV_PROG_ABI l.slot) (field i 4 2)).wro (K.DRV_PROG_HASH l.slot) (sha384 i)).wr K.DRV_LOAD_STATUS 3
      else (s0.wr K.DRV_LOAD_STATUS 5).raise F.DRV_LOAD (elemSub 8))) ∧
  (∀ (s : State) (n : Nat),
    s.mayWrite n K.DRV_LOAD_CTRL (wire K.DRV_LOAD_CTRL 3) →
    ∀ e, s.loadCtrl (s.perm n) 3 = (Status.ok, e) →
    Gives (.loadAbort n) s (s.written n K.DRV_LOAD_CTRL (wire K.DRV_LOAD_CTRL 3) e)) ∧
  (∀ (s : State) (n : Nat),
    s.mayWrite n K.DRV_LOAD_CTRL (wire K.DRV_LOAD_CTRL 4) →
    ∀ e, s.loadCtrl (s.perm n) 4 = (Status.ok, e) →
    Gives (.loadUnload n) s (s.written n K.DRV_LOAD_CTRL (wire K.DRV_LOAD_CTRL 4) e)) ∧
  (∀ (s : State) (slot : Nat),
    ∀ e, s.drv.unloading.find? (fun e => e.1 == slot) = some e →
    e.2 < s.now →
    s.drv.threads.any (fun t => t.1 < 512 && t.2.busy && t.2.prog == slot) = false →
    let s1 : State := { s with drv := { s.drv with unloading := s.drv.unloading.erase e, images := Sparse.erase slot s.drv.images } }
    Gives (.unloadComplete slot) s (
      ((((((s1.wr (K.DRV_PROG_STATE slot) 0).wr (K.DRV_PROG_ID slot) 0).wr (K.DRV_PROG_VERSION slot) 0).wr (K.DRV_PROG_ABI slot) 0).wro
      (K.DRV_PROG_HASH slot) (zeros 48)).wr (K.DRV_PROG_CLUSTERS slot) 0 |>.wro (K.DRV_PROG_FOLDS slot) (zeros 128)).residencyApplied)) ∧
  (∀ (s : State) (n : Nat) (mask : Nat),
    s.mayWrite n K.DRV_PROG_KEY_LOCK (wire K.DRV_PROG_KEY_LOCK mask) →
    Gives (.drvProgKeyLock n mask) s (s.written n K.DRV_PROG_KEY_LOCK (wire K.DRV_PROG_KEY_LOCK mask) ({ s with dict := { s.dict with progKeyLock := s.dict.progKeyLock.lor (carried K.DRV_PROG_KEY_LOCK mask) } })))

/-- Zeroing, hot pages, engine fences and engine faults act on Drover (R356, R357, R359, R360, R448).  Each clause concludes that exec answers a
next state, which it names (Gives: exec c s = .next (settle e)), so it states the completion of its constructor: zeroRelease, drvZeroRetry,
drvHotpageFold, hotpagePublish, drvEngineFence, drvEngine, drvCluster, drvSramEcc, clusterRetestDone. -/
def Obligations.EngineManagementCommands : Prop :=
  (∀ (s : State) (e : Nat) (ok : Bool),
    ∀ z, s.fab.fold.zeroing.find? (fun z => z.1 == e) = some z →
    Gives (.zeroRelease e ok) s (s.zeroRelease e ok)) ∧
  (∀ (s : State) (n : Nat) (extent : Nat),
    s.mayWrite n K.DRV_ZERO_RETRY (wire K.DRV_ZERO_RETRY extent) →
    ∀ e, s.zeroRetry (carried K.DRV_ZERO_RETRY extent) = (Status.ok, e) →
    Gives (.drvZeroRetry n extent) s (s.written n K.DRV_ZERO_RETRY (wire K.DRV_ZERO_RETRY extent) e)) ∧
  (∀ (s : State) (n : Nat) (fold : Nat),
    s.mayWrite n K.DRV_HOTPAGE_FOLD (wire K.DRV_HOTPAGE_FOLD fold) →
    ∀ e, s.hotpageFold (carried K.DRV_HOTPAGE_FOLD fold) = (Status.ok, e) →
    Gives (.drvHotpageFold n fold) s (s.written n K.DRV_HOTPAGE_FOLD (wire K.DRV_HOTPAGE_FOLD fold) e)) ∧
  (∀ (s : State),
    s.rd K.DRV_HOTPAGE_FOLD ≠ 0 →
    s.tallyInterval ≠ s.drv.hotAt →
    let top := (sortBy (fun (e : Nat × Nat) => 2 ^ 32 - sat 32 e.2) s.drv.hot).take 256
    let tab := top.flatMap (fun e => leBytes 2 (e.1 / 2 ^ 52) ++ [0, 0] ++ leBytes 4 (sat 32 e.2) ++ leBytes 8 (e.1 % 2 ^ 52))
    Gives (.hotpagePublish) s (({ s with drv := { s.drv with hot := [], hotAt := s.tallyInterval } } : State).wro K.DRV_HOTPAGE_TABLE (fit 4096 tab))) ∧
  (∀ (s : State) (n : Nat) (engine : Nat) (value : Nat),
    engine < 128 →
    carried (K.DRV_ENGINE_FENCE engine) value = 1 →
    s.mayWrite n (K.DRV_ENGINE_FENCE engine) (wire (K.DRV_ENGINE_FENCE engine) value) →
    Gives (.drvEngineFence n engine value) s (s.written n (K.DRV_ENGINE_FENCE engine) (wire (K.DRV_ENGINE_FENCE engine) value) (s.fenceEngine engine))) ∧
  (∀ (s : State) (e : Nat),
    e < 128 →
    Gives (.drvEngine e) s ((s.fenceEngine e).raise F.DRV_ENGINE (elem 7 e))) ∧
  (∀ (s : State) (c : Nat),
    c < 16 →
    Gives (.drvCluster c) s (s.raise F.DRV_CLUSTER (elem 8 c))) ∧
  (∀ (s : State) (c : Nat) (k : EccKind) (place : SramPlace),
    let there := match place with
      | .slice u => clusterOf u == c
      | .segment slot fold => slot < 64 && fold < 1024 && s.segLive (segBase c slot fold)
    c < 16 →
    there = true →
    Gives (.drvSramEcc c k place) s (
      match k with
      | .corrected => s.raise F.DRV_SRAM_ECC (elem 8 c)
      | .uncorrectable =>
        let s1 : State := match place with
          | .slice u => { s with drv := { s.drv with badSlices := u :: s.drv.badSlices.filter (· != u) } }
          | .segment slot fold => { s with drv := { s.drv with badSegs := segBase c slot fold :: s.drv.badSegs.filter (· != segBase c slot fold) } }
        s1.raiseGrave F.DRV_SRAM_ECC (elem 8 c))) ∧
  (∀ (s : State) (c : Nat) (pass : Bool),
    s.flt.retest.contains c = true →
    let s1 : State := { s with flt := { s.flt with retest := s.flt.retest.filter (· != c) } }
    Gives (.clusterRetestDone c pass) s (
      if pass then ((s1.wrBit (K.DRV_CLUSTER_STATE c) 2 false).wrBit (K.DRV_CLUSTER_STATE c) 0 true).cicUnfence (4 + c)
      else (s1.fenceCluster c).raiseD F.HRD_SELFTEST (elem 8 c) 9 0 0))

/-- The service programs carry out COPY, FILL, ZERO, CRC32C and COMPARE descriptors (R355, R375).  Each clause concludes that exec answers a
next state, which it names (Gives: exec c s = .next (settle e)), so it states the completion of its constructor: copy, fill, zero,
crc32cDescriptor, compare. -/
def Obligations.ServiceDescriptors : Prop :=
  (∀ (s : State) (x : ExecUnit),
    let u := unitNum x
    let t := s.thread u
    let d := t.desc
    unitExists x = true →
    t.ready = true →
    t.prog = 65 →
    s.noTracker false = false →
    t.step = 0 →
    descSrcSpace d = descDstSpace d →
    descSrc d < descDst d + descLen d →
    descDst d < descSrc d + descLen d →
    Gives (.copy x) s (s.serviceEnd u 11 0)) ∧
  (∀ (s : State) (x : ExecUnit),
    let u := unitNum x
    let t := s.thread u
    let d := t.desc
    unitExists x = true →
    t.ready = true →
    t.prog = 65 →
    s.noTracker false = false →
    t.step = 0 →
    ¬(descSrcSpace d = descDstSpace d ∧ descSrc d < descDst d + descLen d ∧ descDst d < descSrc d + descLen d) →
    64 * 2 ^ 20 < descLen d →
    Gives (.copy x) s (((s.onThread u (fun t => { t with step := 1 })).sleep u (.leave 0)).govRequest (clusterOf u) 7 u)) ∧
  (∀ (s : State) (x : ExecUnit),
    let u := unitNum x
    let t := s.thread u
    let d := t.desc
    unitExists x = true →
    t.ready = true →
    t.prog = 65 →
    s.noTracker false = false →
    t.step = 0 →
    ¬(descSrcSpace d = descDstSpace d ∧ descSrc d < descDst d + descLen d ∧ descDst d < descSrc d + descLen d) →
    descLen d ≤ 64 * 2 ^ 20 →
    Gives (.copy x) s (((s.onThread u (fun t => { t with step := 2 })).serviceOp u (descMove d 0 0 (descLen d))).serviceAwait u)) ∧
  (∀ (s : State) (x : ExecUnit),
    let u := unitNum x
    let t := s.thread u
    let d := t.desc
    unitExists x = true →
    t.ready = true →
    t.prog = 65 →
    s.noTracker false = false →
    t.step = 1 →
    Gives (.copy x) s (
      (forEach (List.range 8) (fun s i =>
        s.serviceOp u (descMove d 0 (descLen d * i / 8) (descLen d * (i + 1) / 8 - descLen d * i / 8))) (s.onThread u (fun t => { t with step := 2 }))).serviceAwait u)) ∧
  (∀ (s : State) (x : ExecUnit),
    let u := unitNum x
    let t := s.thread u
    unitExists x = true →
    t.ready = true →
    t.prog = 65 →
    s.noTracker false = false →
    t.step = 2 →
    t.ops.all (·.isDone) = true →
    Gives (.copy x) s (s.serviceEnd u (movesResult t.ops).1 (movesResult t.ops).2)) ∧
  (∀ (s : State) (x : ExecUnit),
    let u := unitNum x
    let t := s.thread u
    let d := t.desc
    unitExists x = true →
    t.ready = true →
    t.prog = 66 →
    s.noTracker false = false →
    t.step = 0 →
    Gives (.fill x) s (((s.onThread u (fun t => { t with step := 2 })).serviceOp u (descMove d 1 0 (descLen d))).serviceAwait u)) ∧
  (∀ (s : State) (x : ExecUnit),
    let u := unitNum x
    let t := s.thread u
    unitExists x = true →
    t.ready = true →
    t.prog = 66 →
    s.noTracker false = false →
    t.step = 2 →
    t.ops.all (·.isDone) = true →
    Gives (.fill x) s (s.serviceEnd u (movesResult t.ops).1 (movesResult t.ops).2)) ∧
  (∀ (s : State) (x : ExecUnit),
    let u := unitNum x
    let t := s.thread u
    let d := t.desc
    unitExists x = true →
    t.ready = true →
    t.prog = 67 →
    s.noTracker false = false →
    t.step = 0 →
    Gives (.zero x) s (((s.onThread u (fun t => { t with step := 2 })).serviceOp u (descMove d 2 0 (descLen d))).serviceAwait u)) ∧
  (∀ (s : State) (x : ExecUnit),
    let u := unitNum x
    let t := s.thread u
    unitExists x = true →
    t.ready = true →
    t.prog = 67 →
    s.noTracker false = false →
    t.step = 2 →
    t.ops.all (·.isDone) = true →
    Gives (.zero x) s (s.serviceEnd u (movesResult t.ops).1 (movesResult t.ops).2)) ∧
  (∀ (s : State) (x : ExecUnit),
    let u := unitNum x
    let t := s.thread u
    let d := t.desc
    unitExists x = true →
    t.ready = true →
    t.prog = 68 →
    s.noTracker false = false →
    t.ops = [] →
    let s1 := s.onThread u (fun t => { t with acc := descArg d % 2 ^ 32 })
    Gives (.crc32cDescriptor x) s ((s1.serviceOp u (serviceRead (descSrcSpace d) (descSrc d + 8192 * t.step) 0 (min 8192 (descLen d - 8192 * t.step)))).serviceAwait u)) ∧
  (∀ (s : State) (x : ExecUnit),
    let u := unitNum x
    let t := s.thread u
    let d := t.desc
    unitExists x = true →
    t.ready = true →
    t.prog = 68 →
    s.noTracker false = false →
    ∀ o r, t.ops = o :: r →
    o.result = some 0 →
    s.segBad u (.scratch (16384 * u)) = false →
    descLen d ≤ 8192 * (t.step + 1) →
    let piece := min 8192 (descLen d - 8192 * t.step)
    Gives (.crc32cDescriptor x) s (s.serviceEnd u 0 ((s.segRead u (.scratch (16384 * u)) piece).foldl (fun c b => crcByte 0x82F63B78 8 (c.xor b.toNat)) t.acc))) ∧
  (∀ (s : State) (x : ExecUnit),
    let u := unitNum x
    let t := s.thread u
    let d := t.desc
    unitExists x = true →
    t.ready = true →
    t.prog = 69 →
    s.noTracker false = false →
    t.ops = [] →
    let n := min 4096 (descLen d - 4096 * t.step)
    Gives (.compare x) s (((s.serviceOp u (serviceRead (descSrcSpace d) (descSrc d + 4096 * t.step) 0 n)).serviceOp u (serviceRead (descDstSpace d) (descDst d + 4096 * t.step) 0x1000 n)).serviceAwait u)) ∧
  (∀ (s : State) (x : ExecUnit),
    let u := unitNum x
    let t := s.thread u
    let d := t.desc
    unitExists x = true →
    t.ready = true →
    t.prog = 69 →
    s.noTracker false = false →
    t.ops.isEmpty = false →
    t.ops.all (·.isDone) = true →
    t.ops.find? (fun o => o.result.getD 0 % 256 != 0) = none →
    s.segBad u (.scratch (16384 * u)) = false →
    descLen d ≤ 4096 * (t.step + 1) →
    let n := min 4096 (descLen d - 4096 * t.step)
    let a := s.segRead u (.scratch (16384 * u)) n
    let b := s.segRead u (.scratch (16384 * u + 0x1000)) n
    Gives (.compare x) s (
      match (List.range n).find? (fun i => a.getD i 0 != b.getD i 0) with
      | some i => s.serviceEnd u 0 (4096 * t.step + i)
      | none => s.serviceEnd u 0 (2 ^ 64 - 1)))

/-- Register operations of engines and Croft cores write their result and go on to the next instruction (R335).  Each clause concludes that exec
answers a next state, which it names (Gives: exec c s = .next (settle e)), so it states the completion of its constructor: add, sub, and,
or, xor, sll, srl, sra, slt, sltu, mul, mulhu, divu, remu, min, max, minu, maxu, clz, popc, bswap, crc32c. -/
def Obligations.RegisterOperations : Prop :=
  (∀ (s : State) (x : ExecUnit) (rd : Reg) (ra : Reg) (rb : Reg),
    let t := s.issuer x
    s.mayIssue x = true →
    Gives (.add x rd ra rb) s (s.gets x rd (t.reg ra + t.reg rb))) ∧
  (∀ (s : State) (x : ExecUnit) (rd : Reg) (ra : Reg) (rb : Reg),
    let t := s.issuer x
    s.mayIssue x = true →
    Gives (.sub x rd ra rb) s (s.gets x rd (t.reg ra - t.reg rb))) ∧
  (∀ (s : State) (x : ExecUnit) (rd : Reg) (ra : Reg) (rb : Reg),
    let t := s.issuer x
    s.mayIssue x = true →
    Gives (.and x rd ra rb) s (s.gets x rd (t.reg ra &&& t.reg rb))) ∧
  (∀ (s : State) (x : ExecUnit) (rd : Reg) (ra : Reg) (rb : Reg),
    let t := s.issuer x
    s.mayIssue x = true →
    Gives (.or x rd ra rb) s (s.gets x rd (t.reg ra ||| t.reg rb))) ∧
  (∀ (s : State) (x : ExecUnit) (rd : Reg) (ra : Reg) (rb : Reg),
    let t := s.issuer x
    s.mayIssue x = true →
    Gives (.xor x rd ra rb) s (s.gets x rd (t.reg ra ^^^ t.reg rb))) ∧
  (∀ (s : State) (x : ExecUnit) (rd : Reg) (ra : Reg) (rb : Reg),
    let t := s.issuer x
    s.mayIssue x = true →
    Gives (.sll x rd ra rb) s (s.gets x rd (t.reg ra <<< (t.num rb % 64)))) ∧
  (∀ (s : State) (x : ExecUnit) (rd : Reg) (ra : Reg) (rb : Reg),
    let t := s.issuer x
    s.mayIssue x = true →
    Gives (.srl x rd ra rb) s (s.gets x rd (t.reg ra >>> (t.num rb % 64)))) ∧
  (∀ (s : State) (x : ExecUnit) (rd : Reg) (ra : Reg) (rb : Reg),
    let t := s.issuer x
    s.mayIssue x = true →
    Gives (.sra x rd ra rb) s (s.gets x rd ((t.reg ra).sshiftRight (t.num rb % 64)))) ∧
  (∀ (s : State) (x : ExecUnit) (rd : Reg) (ra : Reg) (rb : Reg),
    let t := s.issuer x
    s.mayIssue x = true →
    Gives (.slt x rd ra rb) s (s.gets x rd (flag ((t.reg ra).slt (t.reg rb))))) ∧
  (∀ (s : State) (x : ExecUnit) (rd : Reg) (ra : Reg) (rb : Reg),
    let t := s.issuer x
    s.mayIssue x = true →
    Gives (.sltu x rd ra rb) s (s.gets x rd (flag ((t.reg ra).ult (t.reg rb))))) ∧
  (∀ (s : State) (x : ExecUnit) (rd : Reg) (ra : Reg) (rb : Reg),
    let t := s.issuer x
    s.mayIssue x = true →
    Gives (.mul x rd ra rb) s (s.gets x rd (t.reg ra * t.reg rb))) ∧
  (∀ (s : State) (x : ExecUnit) (rd : Reg) (ra : Reg) (rb : Reg),
    let t := s.issuer x
    s.mayIssue x = true →
    Gives (.mulhu x rd ra rb) s (s.gets x rd (BitVec.ofNat 64 (t.num ra * t.num rb / 2 ^ 64)))) ∧
  (∀ (s : State) (x : ExecUnit) (rd : Reg) (ra : Reg) (rb : Reg),
    let t := s.issuer x
    s.mayIssue x = true →
    Gives (.divu x rd ra rb) s (s.gets x rd (if t.reg rb = 0 then BitVec.allOnes 64 else t.reg ra / t.reg rb))) ∧
  (∀ (s : State) (x : ExecUnit) (rd : Reg) (ra : Reg) (rb : Reg),
    let t := s.issuer x
    s.mayIssue x = true →
    Gives (.remu x rd ra rb) s (s.gets x rd (if t.reg rb = 0 then t.reg ra else t.reg ra % t.reg rb))) ∧
  (∀ (s : State) (x : ExecUnit) (rd : Reg) (ra : Reg) (rb : Reg),
    let t := s.issuer x
    s.mayIssue x = true →
    Gives (.min x rd ra rb) s (s.gets x rd (if (t.reg ra).slt (t.reg rb) then t.reg ra else t.reg rb))) ∧
  (∀ (s : State) (x : ExecUnit) (rd : Reg) (ra : Reg) (rb : Reg),
    let t := s.issuer x
    s.mayIssue x = true →
    Gives (.max x rd ra rb) s (s.gets x rd (if (t.reg ra).slt (t.reg rb) then t.reg rb else t.reg ra))) ∧
  (∀ (s : State) (x : ExecUnit) (rd : Reg) (ra : Reg) (rb : Reg),
    let t := s.issuer x
    s.mayIssue x = true →
    Gives (.minu x rd ra rb) s (s.gets x rd (if (t.reg ra).ult (t.reg rb) then t.reg ra else t.reg rb))) ∧
  (∀ (s : State) (x : ExecUnit) (rd : Reg) (ra : Reg) (rb : Reg),
    let t := s.issuer x
    s.mayIssue x = true →
    Gives (.maxu x rd ra rb) s (s.gets x rd (if (t.reg ra).ult (t.reg rb) then t.reg rb else t.reg ra))) ∧
  (∀ (s : State) (x : ExecUnit) (rd : Reg) (ra : Reg) (rb : Reg),
    let t := s.issuer x
    s.mayIssue x = true →
    rb = 0 →
    Gives (.clz x rd ra rb) s (s.gets x rd (BitVec.ofNat 64 (clz64 (t.reg ra))))) ∧
  (∀ (s : State) (x : ExecUnit) (rd : Reg) (ra : Reg) (rb : Reg),
    let t := s.issuer x
    s.mayIssue x = true →
    rb = 0 →
    Gives (.popc x rd ra rb) s (s.gets x rd (BitVec.ofNat 64 (popCount 64 (t.num ra))))) ∧
  (∀ (s : State) (x : ExecUnit) (rd : Reg) (ra : Reg) (rb : Reg),
    let t := s.issuer x
    s.mayIssue x = true →
    rb = 0 →
    Gives (.bswap x rd ra rb) s (s.gets x rd (BitVec.ofNat 64 (beNat (leBytes 8 (t.num ra)))))) ∧
  (∀ (s : State) (x : ExecUnit) (rd : Reg) (ra : Reg) (rb : Reg),
    let t := s.issuer x
    s.mayIssue x = true →
    Gives (.crc32c x rd ra rb) s (s.gets x rd (BitVec.ofNat 64 ((leBytes 8 (t.num rb)).foldl (fun c b => crcByte 0x82F63B78 8 (c.xor b.toNat)) (t.num ra % 2 ^ 32)))))

/-- Immediate operations of engines and Croft cores write their result and go on to the next instruction (R335).  Each clause concludes that
exec answers a next state, which it names (Gives: exec c s = .next (settle e)), so it states the completion of its constructor: addi, andi,
ori, xori, slli, srli, srai, slti, sltiu, lui, shlori. -/
def Obligations.ImmediateOperations : Prop :=
  (∀ (s : State) (x : ExecUnit) (rd : Reg) (ra : Reg) (imm : BitVec 16),
    let t := s.issuer x
    s.mayIssue x = true →
    Gives (.addi x rd ra imm) s (s.gets x rd (t.reg ra + sext imm))) ∧
  (∀ (s : State) (x : ExecUnit) (rd : Reg) (ra : Reg) (imm : BitVec 16),
    let t := s.issuer x
    s.mayIssue x = true →
    Gives (.andi x rd ra imm) s (s.gets x rd (t.reg ra &&& zext imm))) ∧
  (∀ (s : State) (x : ExecUnit) (rd : Reg) (ra : Reg) (imm : BitVec 16),
    let t := s.issuer x
    s.mayIssue x = true →
    Gives (.ori x rd ra imm) s (s.gets x rd (t.reg ra ||| zext imm))) ∧
  (∀ (s : State) (x : ExecUnit) (rd : Reg) (ra : Reg) (imm : BitVec 16),
    let t := s.issuer x
    s.mayIssue x = true →
    Gives (.xori x rd ra imm) s (s.gets x rd (t.reg ra ^^^ zext imm))) ∧
  (∀ (s : State) (x : ExecUnit) (rd : Reg) (ra : Reg) (imm : BitVec 16),
    let t := s.issuer x
    s.mayIssue x = true →
    imm.toNat < 64 →
    Gives (.slli x rd ra imm) s (s.gets x rd (t.reg ra <<< imm.toNat))) ∧
  (∀ (s : State) (x : ExecUnit) (rd : Reg) (ra : Reg) (imm : BitVec 16),
    let t := s.issuer x
    s.mayIssue x = true →
    imm.toNat < 64 →
    Gives (.srli x rd ra imm) s (s.gets x rd (t.reg ra >>> imm.toNat))) ∧
  (∀ (s : State) (x : ExecUnit) (rd : Reg) (ra : Reg) (imm : BitVec 16),
    let t := s.issuer x
    s.mayIssue x = true →
    imm.toNat < 64 →
    Gives (.srai x rd ra imm) s (s.gets x rd ((t.reg ra).sshiftRight imm.toNat))) ∧
  (∀ (s : State) (x : ExecUnit) (rd : Reg) (ra : Reg) (imm : BitVec 16),
    let t := s.issuer x
    s.mayIssue x = true →
    Gives (.slti x rd ra imm) s (s.gets x rd (flag ((t.reg ra).slt (sext imm))))) ∧
  (∀ (s : State) (x : ExecUnit) (rd : Reg) (ra : Reg) (imm : BitVec 16),
    let t := s.issuer x
    s.mayIssue x = true →
    Gives (.sltiu x rd ra imm) s (s.gets x rd (flag ((t.reg ra).ult (sext imm))))) ∧
  (∀ (s : State) (x : ExecUnit) (rd : Reg) (ra : Reg) (imm : BitVec 16),
    s.mayIssue x = true →
    Gives (.lui x rd ra imm) s (s.gets x rd (sext imm <<< 16))) ∧
  (∀ (s : State) (x : ExecUnit) (rd : Reg) (ra : Reg) (imm : BitVec 16),
    let t := s.issuer x
    s.mayIssue x = true →
    Gives (.shlori x rd ra imm) s (s.gets x rd ((t.reg ra <<< 16) ||| zext imm)))

/-- Local loads, stores and LATOM read and write the local segments (R331, R333).  Each clause concludes that exec answers a next state, which
it names (Gives: exec c s = .next (settle e)), so it states the completion of its constructor: ld8, ld16, ld32, ld64, lds8, lds16, lds32,
st8, st16, st32, st64, latom. -/
def Obligations.LocalMemoryInstructions : Prop :=
  (∀ (s : State) (x : ExecUnit) (rt : Reg) (ra : Reg) (off : BitVec 16),
    let t := s.issuer x
    let u := unitNum x
    let a := (t.reg ra + sext off).toNat
    s.mayIssue x = true →
    a % 1 = 0 →
    ∀ g, (s.issued x).seg u a 1 = some g →
    (s.issued x).segBad u g = false →
    let v := leNat ((s.issued x).segRead u g 1)
    Gives (.ld8 x rt ra off) s (s.gets x rt (BitVec.ofNat 64 v))) ∧
  (∀ (s : State) (x : ExecUnit) (rt : Reg) (ra : Reg) (off : BitVec 16),
    let t := s.issuer x
    let u := unitNum x
    let a := (t.reg ra + sext off).toNat
    s.mayIssue x = true →
    a % 2 = 0 →
    ∀ g, (s.issued x).seg u a 2 = some g →
    (s.issued x).segBad u g = false →
    let v := leNat ((s.issued x).segRead u g 2)
    Gives (.ld16 x rt ra off) s (s.gets x rt (BitVec.ofNat 64 v))) ∧
  (∀ (s : State) (x : ExecUnit) (rt : Reg) (ra : Reg) (off : BitVec 16),
    let t := s.issuer x
    let u := unitNum x
    let a := (t.reg ra + sext off).toNat
    s.mayIssue x = true →
    a % 4 = 0 →
    croftReg u a 4 = none →
    ∀ g, (s.issued x).seg u a 4 = some g →
    (s.issued x).segBad u g = false →
    let v := leNat ((s.issued x).segRead u g 4)
    Gives (.ld32 x rt ra off) s (s.gets x rt (BitVec.ofNat 64 v))) ∧
  (∀ (s : State) (x : ExecUnit) (rt : Reg) (ra : Reg) (off : BitVec 16),
    let t := s.issuer x
    let u := unitNum x
    let a := (t.reg ra + sext off).toNat
    s.mayIssue x = true →
    a % 8 = 0 →
    ∀ g, (s.issued x).seg u a 8 = some g →
    (s.issued x).segBad u g = false →
    let v := leNat ((s.issued x).segRead u g 8)
    Gives (.ld64 x rt ra off) s (s.gets x rt (BitVec.ofNat 64 v))) ∧
  (∀ (s : State) (x : ExecUnit) (rt : Reg) (ra : Reg) (off : BitVec 16),
    let t := s.issuer x
    let u := unitNum x
    let a := (t.reg ra + sext off).toNat
    s.mayIssue x = true →
    a % 1 = 0 →
    ∀ g, (s.issued x).seg u a 1 = some g →
    (s.issued x).segBad u g = false →
    let v := leNat ((s.issued x).segRead u g 1)
    Gives (.lds8 x rt ra off) s (s.gets x rt (BitVec.ofInt 64 (sint 8 v)))) ∧
  (∀ (s : State) (x : ExecUnit) (rt : Reg) (ra : Reg) (off : BitVec 16),
    let t := s.issuer x
    let u := unitNum x
    let a := (t.reg ra + sext off).toNat
    s.mayIssue x = true →
    a % 2 = 0 →
    ∀ g, (s.issued x).seg u a 2 = some g →
    (s.issued x).segBad u g = false →
    let v := leNat ((s.issued x).segRead u g 2)
    Gives (.lds16 x rt ra off) s (s.gets x rt (BitVec.ofInt 64 (sint 16 v)))) ∧
  (∀ (s : State) (x : ExecUnit) (rt : Reg) (ra : Reg) (off : BitVec 16),
    let t := s.issuer x
    let u := unitNum x
    let a := (t.reg ra + sext off).toNat
    s.mayIssue x = true →
    a % 4 = 0 →
    croftReg u a 4 = none →
    ∀ g, (s.issued x).seg u a 4 = some g →
    (s.issued x).segBad u g = false →
    let v := leNat ((s.issued x).segRead u g 4)
    Gives (.lds32 x rt ra off) s (s.gets x rt (BitVec.ofInt 64 (sint 32 v)))) ∧
  (∀ (s : State) (x : ExecUnit) (rt : Reg) (ra : Reg) (off : BitVec 16),
    let t := s.issuer x
    let u := unitNum x
    let a := (t.reg ra + sext off).toNat
    s.mayIssue x = true →
    a % 1 = 0 →
    ∀ g, (s.issued x).seg u a 1 = some g →
    g.writable = true →
    Gives (.st8 x rt ra off) s (((s.issued x).segWrite g (leBytes 1 (t.num rt))).putThread u t.next)) ∧
  (∀ (s : State) (x : ExecUnit) (rt : Reg) (ra : Reg) (off : BitVec 16),
    let t := s.issuer x
    let u := unitNum x
    let a := (t.reg ra + sext off).toNat
    s.mayIssue x = true →
    a % 2 = 0 →
    ∀ g, (s.issued x).seg u a 2 = some g →
    g.writable = true →
    Gives (.st16 x rt ra off) s (((s.issued x).segWrite g (leBytes 2 (t.num rt))).putThread u t.next)) ∧
  (∀ (s : State) (x : ExecUnit) (rt : Reg) (ra : Reg) (off : BitVec 16),
    let t := s.issuer x
    let u := unitNum x
    let a := (t.reg ra + sext off).toNat
    s.mayIssue x = true →
    a % 4 = 0 →
    croftReg u a 4 = none →
    ∀ g, (s.issued x).seg u a 4 = some g →
    g.writable = true →
    Gives (.st32 x rt ra off) s (((s.issued x).segWrite g (leBytes 4 (t.num rt))).putThread u t.next)) ∧
  (∀ (s : State) (x : ExecUnit) (rt : Reg) (ra : Reg) (off : BitVec 16),
    let t := s.issuer x
    let u := unitNum x
    let a := (t.reg ra + sext off).toNat
    s.mayIssue x = true →
    a % 8 = 0 →
    ∀ g, (s.issued x).seg u a 8 = some g →
    g.writable = true →
    Gives (.st64 x rt ra off) s (((s.issued x).segWrite g (leBytes 8 (t.num rt))).putThread u t.next)) ∧
  (∀ (s : State) (x : ExecUnit) (rt : Reg) (ra : Reg) (off : BitVec 16),
    let t := s.issuer x
    let u := unitNum x
    let a := (t.reg ra + sext off).toNat
    s.mayIssue x = true →
    a % 4 = 0 →
    ∀ o, croftReg u a 4 = some o →
    ∀ v e, (s.issued x).cicRead (u - 512) o = some (v, e) →
    Gives (.ld32 x rt ra off) s (e.putThread u ((t.set rt (BitVec.ofNat 64 v)).next))) ∧
  (∀ (s : State) (x : ExecUnit) (rt : Reg) (ra : Reg) (off : BitVec 16),
    let t := s.issuer x
    let u := unitNum x
    let a := (t.reg ra + sext off).toNat
    s.mayIssue x = true →
    a % 4 = 0 →
    ∀ o, croftReg u a 4 = some o →
    ∀ v e, (s.issued x).cicRead (u - 512) o = some (v, e) →
    Gives (.lds32 x rt ra off) s (e.putThread u ((t.set rt (BitVec.ofInt 64 (sint 32 v))).next))) ∧
  (∀ (s : State) (x : ExecUnit) (rt : Reg) (ra : Reg) (off : BitVec 16),
    let t := s.issuer x
    let u := unitNum x
    let a := (t.reg ra + sext off).toNat
    s.mayIssue x = true →
    a % 4 = 0 →
    ∀ o, croftReg u a 4 = some o →
    ∀ e, (s.issued x).cicWrite (u - 512) o (t.num rt % 2 ^ 32) = some e →
    Gives (.st32 x rt ra off) s (e.putThread u t.next)) ∧
  (∀ (s : State) (x : ExecUnit) (rd : Reg) (ra : Reg) (rb : Reg) (size8 : Bool) (func : BitVec 6),
    let t := s.issuer x
    let u := unitNum x
    let n := if size8 then 8 else 4
    s.mayIssue x = true →
    1 ≤ func.toNat →
    func.toNat ≤ 10 →
    t.num ra % n = 0 →
    ∀ k, (s.issued x).seg u (t.num ra) n = some (.data k) →
    (s.issued x).segBad u (.data k) = false →
    let old := leNat ((s.issued x).segRead u (.data k) n)
    Gives (.latom x rd ra rb size8 func) s (((s.issued x).segWrite (.data k) (leBytes n (atomicNew func.toNat n old (t.num rb) (t.num rd)))).putThread u ((t.set rd (BitVec.ofNat 64 old)).next)))

/-- Branches, jumps and thread control of engines and Croft cores set the program counter or the state of the thread (R329, R335, R337, R346,
R348, R349, R358).  Each clause concludes that exec answers a next state, which it names (Gives: exec c s = .next (settle e)), so it states
the completion of its constructor: beq, bne, blt, bge, bltu, bgeu, jal, jalr, csrr, csrw, wait, waitWake, halt, trap, yield, eret,
timeLimit, illegalEncoding. -/
def Obligations.ControlInstructions : Prop :=
  (∀ (s : State) (x : ExecUnit) (ra : Reg) (rb : Reg) (offset : BitVec 16),
    let t := s.issuer x
    s.mayIssue x = true →
    Gives (.beq x ra rb offset) s (s.goesOn x (if t.reg ra = t.reg rb then { t with pc := (BitVec.ofNat 64 t.pc + 4 * sext offset).toNat } else t.next))) ∧
  (∀ (s : State) (x : ExecUnit) (ra : Reg) (rb : Reg) (offset : BitVec 16),
    let t := s.issuer x
    s.mayIssue x = true →
    Gives (.bne x ra rb offset) s (s.goesOn x (if t.reg ra ≠ t.reg rb then { t with pc := (BitVec.ofNat 64 t.pc + 4 * sext offset).toNat } else t.next))) ∧
  (∀ (s : State) (x : ExecUnit) (ra : Reg) (rb : Reg) (offset : BitVec 16),
    let t := s.issuer x
    s.mayIssue x = true →
    Gives (.blt x ra rb offset) s (s.goesOn x (if (t.reg ra).slt (t.reg rb) = true then { t with pc := (BitVec.ofNat 64 t.pc + 4 * sext offset).toNat } else t.next))) ∧
  (∀ (s : State) (x : ExecUnit) (ra : Reg) (rb : Reg) (offset : BitVec 16),
    let t := s.issuer x
    s.mayIssue x = true →
    Gives (.bge x ra rb offset) s (s.goesOn x (if (t.reg ra).slt (t.reg rb) = false then { t with pc := (BitVec.ofNat 64 t.pc + 4 * sext offset).toNat } else t.next))) ∧
  (∀ (s : State) (x : ExecUnit) (ra : Reg) (rb : Reg) (offset : BitVec 16),
    let t := s.issuer x
    s.mayIssue x = true →
    Gives (.bltu x ra rb offset) s (s.goesOn x (if (t.reg ra).ult (t.reg rb) = true then { t with pc := (BitVec.ofNat 64 t.pc + 4 * sext offset).toNat } else t.next))) ∧
  (∀ (s : State) (x : ExecUnit) (ra : Reg) (rb : Reg) (offset : BitVec 16),
    let t := s.issuer x
    s.mayIssue x = true →
    Gives (.bgeu x ra rb offset) s (s.goesOn x (if (t.reg ra).ult (t.reg rb) = false then { t with pc := (BitVec.ofNat 64 t.pc + 4 * sext offset).toNat } else t.next))) ∧
  (∀ (s : State) (x : ExecUnit) (rd : Reg) (offset : BitVec 21),
    let t := s.issuer x
    s.mayIssue x = true →
    Gives (.jal x rd offset) s (s.goesOn x { t.set rd (BitVec.ofNat 64 (t.pc + 4)) with pc := (BitVec.ofNat 64 t.pc + 4 * offset.signExtend 64).toNat })) ∧
  (∀ (s : State) (x : ExecUnit) (rd : Reg) (ra : Reg) (imm : BitVec 16),
    let t := s.issuer x
    s.mayIssue x = true →
    Gives (.jalr x rd ra imm) s (s.goesOn x { t.set rd (BitVec.ofNat 64 (t.pc + 4)) with pc := (t.reg ra + 4 * sext imm).toNat })) ∧
  (∀ (s : State) (x : ExecUnit) (rd : Reg) (ra : Reg) (imm : BitVec 16),
    let t := s.issuer x
    s.mayIssue x = true →
    ∀ v, (s.issued x).csr (unitNum x) t imm.toNat = some v →
    ¬(unitNum x < 512 ∧ (imm.toNat = 0x020 ∨ imm.toNat = 0x021)) →
    Gives (.csrr x rd ra imm) s (s.gets x rd (BitVec.ofNat 64 v))) ∧
  (∀ (s : State) (x : ExecUnit) (rd : Reg) (ra : Reg) (imm : BitVec 16),
    let t := s.issuer x
    s.mayIssue x = true →
    imm.toNat % 4096 = 0x005 →
    t.num ra ≤ 1 →
    Gives (.csrw x rd ra imm) s (s.goesOn x { t.next with moveClass := t.num ra })) ∧
  (∀ (s : State) (x : ExecUnit) (rd : Reg) (ra : Reg) (imm : BitVec 16),
    let t := s.issuer x
    s.mayIssue x = true →
    imm.toNat % 4096 = 0x008 →
    t.num ra < 2 ^ 17 →
    Gives (.csrw x rd ra imm) s (s.goesOn x { t.next with moveSrc := t.num ra })) ∧
  (∀ (s : State) (x : ExecUnit) (rd : Reg) (ra : Reg) (imm : BitVec 16),
    let t := s.issuer x
    s.mayIssue x = true →
    imm.toNat % 4096 = 0x001 →
    512 ≤ unitNum x →
    t.num ra ≤ 1023 →
    Gives (.csrw x rd ra imm) s (s.goesOn x { t.next with fold := t.num ra })) ∧
  (∀ (s : State) (x : ExecUnit) (rd : Reg) (ra : Reg) (imm : BitVec 16),
    let t := s.issuer x
    let mask := t.num ra % 8
    s.mayIssue x = true →
    mask = 0 →
    Gives (.wait x rd ra imm) s (s.goesOn x { (t.set rd 0).next with completed := false })) ∧
  (∀ (s : State) (x : ExecUnit) (rd : Reg) (ra : Reg) (imm : BitVec 16),
    let t := s.issuer x
    let mask := t.num ra % 8
    s.mayIssue x = true →
    ¬(bit mask 2 = true ∧ imm = 0) →
    bit mask 0 = true →
    t.completed = true →
    Gives (.wait x rd ra imm) s (s.goesOn x { (t.set rd 1).next with completed := false })) ∧
  (∀ (s : State) (x : ExecUnit) (rd : Reg) (ra : Reg) (imm : BitVec 16),
    let t := s.issuer x
    let mask := t.num ra % 8
    s.mayIssue x = true →
    mask ≠ 0 →
    ¬(bit mask 2 = true ∧ imm = 0) →
    ¬(bit mask 0 = true ∧ t.completed = true) →
    let s1 := (s.goesOn x t.next).sleep (unitNum x) (.wait rd.toNat mask (s.issued x).now imm.toNat)
    Gives (.wait x rd ra imm) s (if unitNum x < 512 then s1 else s1.enterMode)) ∧
  (∀ (s : State) (x : ExecUnit),
    let u := unitNum x
    let t := s.thread u
    unitExists x = true →
    ∀ rd mask since ticks, t.sleep = .wait rd mask since ticks →
    (s.waitConds t since ticks).land mask ≠ 0 →
    Gives (.waitWake x) s (s.wake u (fun t => { t.setNum rd ((s.waitConds (s.thread u) since ticks).land mask) with completed := false }))) ∧
  (∀ (s : State) (x : ExecUnit),
    let t := s.issuer x
    s.mayIssue x = true →
    Gives (.halt x) s (((s.issued x).sleep (unitNum x) (.halting (t.num 1 % 2 ^ 31) (t.num 2))).threadCheck (unitNum x))) ∧
  (∀ (s : State) (x : ExecUnit),
    s.mayIssue x = true →
    Gives (.trap x) s ((s.issued x).exception (unitNum x) X.TRAP)) ∧
  (∀ (s : State) (x : ExecUnit),
    s.mayIssue x = true →
    Gives (.yield x) s (s.goesOn x (s.issuer x).next)) ∧
  (∀ (s : State) (x : ExecUnit),
    let t := s.issuer x
    s.mayIssue x = true →
    512 ≤ unitNum x →
    Gives (.eret x) s (s.goesOn x { t with pc := t.excPc })) ∧
  (∀ (s : State) (x : ExecUnit),
    let u := unitNum x
    let t := s.thread u
    unitExists x = true →
    u < 512 →
    t.busy = true →
    t.draining.isSome = false →
    t.startAt + s.timeLimit t ≤ s.clk.dtc →
    Gives (.timeLimit x) s (s.exception u X.TIME_LIMIT)) ∧
  (∀ (s : State) (x : ExecUnit) (word : BitVec 32),
    s.mayIssue x = true →
    listedWord word.toNat = false →
    Gives (.illegalEncoding x word) s ((s.issued x).exception (unitNum x) X.ILLEGAL)) ∧
  (∀ (s : State) (x : ExecUnit),
    let u := unitNum x
    let t := s.thread u
    unitExists x = true →
    t.ready = true →
    u < 512 →
    t.prog < 64 →
    t.pc % 4 ≠ 0 ∨ s.codeSize t.prog ≤ t.pc →
    Gives (.yield x) s (s.exception u X.PC_RANGE)) ∧
  (∀ (s : State) (x : ExecUnit),
    let u := unitNum x
    let t := s.thread u
    let major := s.header t.prog 5 1
    unitExists x = true →
    t.ready = true →
    u < 512 →
    t.prog < 64 →
    major < 3 →
    t.pc % 4 = 0 →
    t.pc < s.codeSize t.prog →
    Gives (.yield x) s (if Config.addedAfter major (field (s.image t.prog) (256 + t.pc) 4) then s.exception u X.ILLEGAL else s.goesOn x (s.issuer x).next))

/-- Fabric instructions start operations, wait for them and take their results (R339, R340, R341, R342, R343, R344).  Each clause concludes that
exec answers a next state, which it names (Gives: exec c s = .next (settle e)), so it states the completion of its constructor: frd, fwr,
fatom32, fatom64, moveCopy, moveFill, moveZero, moveLocal, moveChunkComplete, fabricOpComplete, fwaith, fpoll, ffence, leave, leaveGrant. -/
def Obligations.FabricInstructions : Prop :=
  (∀ (s : State) (x : ExecUnit) (f : FFields),
    let t := s.issuer x
    let u := unitNum x
    s.noTracker false = false →
    s.mayIssue x = true →
    f.flags.toNat % 4 ≠ 3 →
    f.flags.toNat < 8 →
    bits (t.num f.rc) 47 32 = 0 →
    f.space.toNat = 2 ∨ bits (t.num f.rc) 63 48 = 0 →
    (s.issued x).spaceBad u f.space.toNat = false →
    let len := t.num f.rc % 2 ^ 32
    1 ≤ len →
    len ≤ 8192 →
    ∀ g, (s.issued x).seg u (t.num f.rb) len = some g →
    g.writable = true →
    Gives (.frd x f) s (
      (s.issued x).opStart u f.rd
        { handle := 0, kind := 0, space := f.space.toNat, remote := t.num f.ra, feid := bits (t.num f.rc) 63 48, cls := classOf (f.flags.toNat % 4), len := len
          local_ := t.num f.rb, data := [] } (bit f.flags.toNat 2))) ∧
  (∀ (s : State) (x : ExecUnit) (f : FFields),
    let t := s.issuer x
    let u := unitNum x
    s.noTracker false = false →
    s.mayIssue x = true →
    f.flags.toNat % 4 ≠ 3 →
    f.flags.toNat < 8 →
    bits (t.num f.rc) 47 32 = 0 →
    f.space.toNat = 2 ∨ bits (t.num f.rc) 63 48 = 0 →
    (s.issued x).spaceBad u f.space.toNat = false →
    let len := t.num f.rc % 2 ^ 32
    1 ≤ len →
    len ≤ 8192 →
    ∀ g, (s.issued x).seg u (t.num f.rb) len = some g →
    (s.issued x).segBad u g = false →
    Gives (.fwr x f) s (
      (s.issued x).opStart u f.rd
        { handle := 0, kind := 1, space := f.space.toNat, remote := t.num f.ra, feid := bits (t.num f.rc) 63 48, cls := classOf (f.flags.toNat % 4), len := len
          local_ := t.num f.rb, data := (s.issued x).segRead u g len } (bit f.flags.toNat 2))) ∧
  (∀ (s : State) (x : ExecUnit) (f : FFields),
    let t := s.issuer x
    let u := unitNum x
    s.noTracker false = false →
    s.mayIssue x = true →
    1 ≤ f.flags.toNat →
    f.flags.toNat ≤ 10 →
    f.flags.toNat = 6 ∨ f.rc = 0 →
    (s.issued x).spaceBad u f.space.toNat = false →
    t.num f.ra % 4 = 0 →
    ¬(f.space.toNat = 1 ∧ f.flags.toNat ≠ 1 ∧ f.flags.toNat ≠ 5 ∧ f.flags.toNat ≠ 6) →
    let o : FabOp := { handle := 64, kind := 2, space := f.space.toNat, remote := t.num f.ra, len := 4, data := leBytes 8 (t.num f.rb),
                        code := f.flags.toNat, feid := if f.space.toNat = 2 then bits (t.num f.rc) 63 48 else 0, cmp := t.num f.rc }
    Gives (.fatom32 x f) s (((s.goesOn x { t.next with ops := t.ops ++ [o] }).sleep u (.atom f.rd.toNat)).opIssue u 64)) ∧
  (∀ (s : State) (x : ExecUnit) (f : FFields),
    let t := s.issuer x
    let u := unitNum x
    s.noTracker false = false →
    s.mayIssue x = true →
    1 ≤ f.flags.toNat →
    f.flags.toNat ≤ 10 →
    f.flags.toNat = 6 ∨ f.rc = 0 →
    (s.issued x).spaceBad u f.space.toNat = false →
    t.num f.ra % 8 = 0 →
    ¬(f.space.toNat = 1 ∧ f.flags.toNat ≠ 1 ∧ f.flags.toNat ≠ 5 ∧ f.flags.toNat ≠ 6) →
    let o : FabOp := { handle := 64, kind := 2, space := f.space.toNat, remote := t.num f.ra, len := 8, data := leBytes 8 (t.num f.rb),
                        code := f.flags.toNat, feid := if f.space.toNat = 2 then bits (t.num f.rc) 63 48 else 0, cmp := t.num f.rc }
    Gives (.fatom64 x f) s (((s.goesOn x { t.next with ops := t.ops ++ [o] }).sleep u (.atom f.rd.toNat)).opIssue u 64)) ∧
  (∀ (s : State) (x : ExecUnit) (f : FFields),
    let t := s.issuer x
    let u := unitNum x
    s.noTracker false = false →
    s.mayIssue x = true →
    f.flags.toNat / 4 = 0 →
    (s.issued x).spaceBad u f.space.toNat = false →
    (s.issued x).spaceBad u (f.flags.toNat % 4) = false →
    ¬(f.flags.toNat % 4 = 2 ∧ bit t.moveSrc 16 = false ∧ f.space.toNat ≠ 2) →
    let len := t.num f.rc % 2 ^ 40
    1 ≤ len →
    let feid := bits (t.num f.rc) 63 48
    let srcFeid := if bit t.moveSrc 16 then t.moveSrc % 65536 else feid
    ¬(f.space.toNat = f.flags.toNat % 4 ∧ (f.space.toNat ≠ 2 ∨ feid = srcFeid) ∧ t.num f.ra < t.num f.rb + len ∧ t.num f.rb < t.num f.ra + len) →
    Gives (.moveCopy x f) s (
      (s.issued x).opStart u f.rd
        { handle := 0, kind := 3, mkind := 0, space := f.space.toNat, remote := t.num f.ra, feid := feid, cls := 6 + t.moveClass, len := len
          srcSpace := f.flags.toNat % 4, src := t.num f.rb, srcFeid := srcFeid } false)) ∧
  (∀ (s : State) (x : ExecUnit) (f : FFields),
    let t := s.issuer x
    let u := unitNum x
    s.noTracker false = false →
    s.mayIssue x = true →
    f.flags.toNat / 4 = 1 →
    f.flags.toNat % 4 = 0 →
    (s.issued x).spaceBad u f.space.toNat = false →
    let len := t.num f.rc % 2 ^ 40
    1 ≤ len →
    let feid := bits (t.num f.rc) 63 48
    let srcFeid := if bit t.moveSrc 16 then t.moveSrc % 65536 else feid
    Gives (.moveFill x f) s (
      (s.issued x).opStart u f.rd
        { handle := 0, kind := 3, mkind := 1, space := f.space.toNat, remote := t.num f.ra, feid := feid, cls := 6 + t.moveClass, len := len
          srcSpace := f.flags.toNat % 4, src := t.num f.rb, srcFeid := srcFeid } false)) ∧
  (∀ (s : State) (x : ExecUnit) (f : FFields),
    let t := s.issuer x
    let u := unitNum x
    s.noTracker false = false →
    s.mayIssue x = true →
    f.flags.toNat / 4 = 2 →
    f.flags.toNat % 4 = 0 →
    (s.issued x).spaceBad u f.space.toNat = false →
    let len := t.num f.rc % 2 ^ 40
    1 ≤ len →
    let feid := bits (t.num f.rc) 63 48
    let srcFeid := if bit t.moveSrc 16 then t.moveSrc % 65536 else feid
    Gives (.moveZero x f) s (
      (s.issued x).opStart u f.rd
        { handle := 0, kind := 3, mkind := 2, space := f.space.toNat, remote := t.num f.ra, feid := feid, cls := 6 + t.moveClass, len := len
          srcSpace := f.flags.toNat % 4, src := t.num f.rb, srcFeid := srcFeid } false)) ∧
  (∀ (s : State) (x : ExecUnit) (f : FFields),
    let t := s.issuer x
    let u := unitNum x
    s.noTracker false = false →
    s.mayIssue x = true →
    f.flags.toNat / 4 = 3 →
    f.flags.toNat % 4 = 0 →
    (s.issued x).spaceBad u f.space.toNat = false →
    let len := t.num f.rc % 2 ^ 40
    1 ≤ len →
    len ≤ 16384 →
    ∀ g, (s.issued x).seg u (t.num f.rb) len = some g →
    (s.issued x).segBad u g = false →
    let feid := bits (t.num f.rc) 63 48
    let srcFeid := if bit t.moveSrc 16 then t.moveSrc % 65536 else feid
    Gives (.moveLocal x f) s (
      (s.issued x).opStart u f.rd
        { handle := 0, kind := 3, mkind := 3, space := f.space.toNat, remote := t.num f.ra, feid := feid, cls := 6 + t.moveClass, len := len
          srcSpace := f.flags.toNat % 4, src := t.num f.rb, srcFeid := srcFeid } false)) ∧
  (∀ (s : State) (x : ExecUnit) (h : Nat) (status : Nat),
    let u := unitNum x
    let t := s.thread u
    ∀ o, t.op h = some o →
    unitExists x = true →
    t.draining.isSome = false →
    o.isDone = false →
    o.held = false →
    o.open_.isEmpty = true →
    o.kind = 3 →
    o.status = status →
    ¬(status = 0 ∧ !o.writing) →
    Gives (.moveChunkComplete x h status) s (
      if status ≠ 0 then s.opDone u h status o.done
      else
        let n := o.chunk
        let s1 := if 512 ≤ u then s else
          (s.add (K.DRV_MOVER_BYTES (clusterOf u)) n).countN 0x8002 (clusterOf u) (ceilDiv n 64)
        let s2 := s1.onThread u (·.putOp { o with done := o.done + n, writing := false, got := [] })
        if o.done + n = o.len then s2.opDone u h 0 o.len
        else if s.noTracker false then s
        else s2.opIssue u h)) ∧
  (∀ (s : State) (x : ExecUnit) (h : Nat),
    let u := unitNum x
    let t := s.thread u
    ∀ o, t.op h = some o →
    unitExists x = true →
    t.draining.isSome = false →
    o.isDone = false →
    o.held = false →
    o.open_.isEmpty = true →
    o.kind ≠ 3 →
    let st := o.status
    Gives (.fabricOpComplete x h) s (
      match o.kind with
      | 0 =>
        let d := if st = 0 then gather o.got o.remote o.len else zeros o.len
        let s1 := match s.seg u o.local_ o.len with
          | some g => s.segWrite g d
          | none => s
        s1.opDone u h st 0
      | 2 =>
        let old := if st = 0 then leNat (slice (o.got.flatMap (·.2)) 0 o.len) else 0
        let s1 := (s.onThread u (fun t => { t with lastAtom := st })).opDone u h st 0
        match (s1.thread u).sleep with
        | .atom rd => s1.wake u (fun t => (t.setNum rd old).freeOp h)
        | _ => s1
      | _ => s.opDone u h st 0)) ∧
  (∀ (s : State) (x : ExecUnit) (f : FFields),
    let t := s.issuer x
    s.mayIssue x = true →
    t.num f.ra < 64 →
    ∀ o, t.op (t.num f.ra) = some o →
    ∀ r, o.result = some r →
    Gives (.fwaith x f) s (s.goesOn x (((t.set f.rd (BitVec.ofNat 64 r)).freeOp (t.num f.ra)).next))) ∧
  (∀ (s : State) (x : ExecUnit) (f : FFields),
    let t := s.issuer x
    let u := unitNum x
    s.mayIssue x = true →
    t.num f.ra < 64 →
    ∀ o, t.op (t.num f.ra) = some o →
    o.result = none →
    Gives (.fwaith x f) s ((s.goesOn x t.next).sleep u (.handle f.rd.toNat (t.num f.ra)))) ∧
  (∀ (s : State) (x : ExecUnit) (f : FFields),
    let t := s.issuer x
    s.mayIssue x = true →
    t.num f.ra = 0xFF →
    Gives (.fpoll x f) s (s.gets x f.rd (BitVec.ofNat 64 t.lastAtom))) ∧
  (∀ (s : State) (x : ExecUnit) (f : FFields),
    let t := s.issuer x
    s.mayIssue x = true →
    t.num f.ra < 64 →
    ∀ o, t.op (t.num f.ra) = some o →
    ∀ r, o.result = some r →
    Gives (.fpoll x f) s (s.goesOn x (((t.set f.rd (BitVec.ofNat 64 r)).freeOp (t.num f.ra)).next))) ∧
  (∀ (s : State) (x : ExecUnit) (f : FFields),
    let t := s.issuer x
    s.mayIssue x = true →
    t.num f.ra < 64 →
    ∀ o, t.op (t.num f.ra) = some o →
    o.result = none →
    Gives (.fpoll x f) s (s.gets x f.rd 1)) ∧
  (∀ (s : State) (x : ExecUnit) (f : FFields),
    let t := s.issuer x
    s.mayIssue x = true →
    t.ops.all (·.isDone) = true →
    Gives (.ffence x f) s (s.gets x f.rd (flag t.anyBad))) ∧
  (∀ (s : State) (x : ExecUnit) (f : FFields),
    let t := s.issuer x
    let u := unitNum x
    s.mayIssue x = true →
    t.ops.all (·.isDone) = false →
    Gives (.ffence x f) s ((s.goesOn x t.next).sleep u (.fence f.rd.toNat))) ∧
  (∀ (s : State) (x : ExecUnit) (f : FFields),
    let t := s.issuer x
    let u := unitNum x
    s.mayIssue x = true →
    min 7 (t.num f.ra) = 0 ∨ 512 ≤ u →
    Gives (.leave x f) s (((s.issued x).dropLeave u).onThread u (fun t => (t.set f.rd 0).next))) ∧
  (∀ (s : State) (x : ExecUnit) (f : FFields),
    let t := s.issuer x
    let u := unitNum x
    s.mayIssue x = true →
    min 7 (t.num f.ra) ≠ 0 →
    u < 512 →
    Gives (.leave x f) s (((((s.issued x).dropLeave u).onThread u (·.next)).sleep u (.leave f.rd.toNat)).govRequest (clusterOf u) (min 7 (t.num f.ra)) u)) ∧
  (∀ (s : State) (x : ExecUnit),
    let u := unitNum x
    ∀ rd, (s.thread u).sleep = .leave rd →
    ∀ a, s.leaveAnswer u = some a →
    u < 512 →
    Gives (.leaveGrant x) s (({ s with gov := { s.gov with answers := s.gov.answers.erase a } } : State).wake u (fun t => { t.setNum rd a.given with leave := a.given })))

/-- Fault acknowledgement and injection, the return from isolation and unit faults act on the collector (R36, R448, R453, R460, R462).  Each
clause concludes that exec answers a next state, which it names (Gives: exec c s = .next (settle e)), so it states the completion of its
constructor: hrdFaultAck, hrdFaultInject, isolationReturn, bothyWindowAdvance, crfCore, crfMgmtPort. -/
def Obligations.FaultCommands : Prop :=
  (∀ (s : State) (n : Nat) (seq : Nat),
    s.mayWrite n K.HRD_FAULT_ACK (wire K.HRD_FAULT_ACK seq) →
    ∀ e, s.faultAck (carried K.HRD_FAULT_ACK seq) = (Status.ok, e) →
    Gives (.hrdFaultAck n seq) s (s.written n K.HRD_FAULT_ACK (wire K.HRD_FAULT_ACK seq) e)) ∧
  (∀ (s : State) (n : Nat) (value : Nat),
    s.mayWrite n K.HRD_FAULT_INJECT (wire K.HRD_FAULT_INJECT value) →
    ∀ e, s.faultInject (carried K.HRD_FAULT_INJECT value) = (Status.ok, e) →
    Gives (.hrdFaultInject n value) s (s.written n K.HRD_FAULT_INJECT (wire K.HRD_FAULT_INJECT value) e)) ∧
  (∀ (s : State),
    s.flt.ackTick < s.now →
    s.isReady = true →
    Gives (.isolationReturn) s (forEach (s.flt.isolated.filter (fun el => s.openRelated 2 el == 0)) State.elemReturn s)) ∧
  (∀ (s : State),
    s.clk.running = false →
    Gives (.bothyWindowAdvance) s (State.windowTick { s with clk := { s.clk with bothy := boundaryAfter s.clk.bothy } })) ∧
  (∀ (s : State) (c : Nat),
    c < 4 →
    bit s.boot.fencedCores c = false →
    s.boot.croftServes = true →
    Gives (.crfCore c) s (((s.fenceCore c).closeSessionsOf c).raise F.CRF_CORE (elem 10 c))) ∧
  (∀ (s : State) (p : Nat),
    p < 2 →
    Gives (.crfMgmtPort p) s ((s.mgmtPortFail p).raise F.CRF_MGMT_PORT (elem 13 p)))

/-- Capacity requests, internal commits, table errors and locks act on the fold and Gatepost tables (R238, R239, R246, R259, R264).  Each clause
concludes that exec answers a next state, which it names (Gives: exec c s = .next (settle e)), so it states the completion of its
constructor: fldReleaseRequest, releaseCapacityPost, internalCommit, fldExtentEcc, fldRouteEcc, fldTableEcc, fldDirtyWrite, tableRestore,
gtpLockRequest, gtpTableEcc. -/
def Obligations.FoldAndGatepostCommands : Prop :=
  (∀ (s : State) (n : Nat) (extent : Nat),
    ¬(s.rbActive = true ∧ (s.extent (carried K.FLD_RELEASE_REQUEST extent)).fold = s.rbFold) →
    s.mayWrite n K.FLD_RELEASE_REQUEST (wire K.FLD_RELEASE_REQUEST extent) →
    ∀ e, s.releaseRequest (carried K.FLD_RELEASE_REQUEST extent) = (Status.ok, e) →
    Gives (.fldReleaseRequest n extent) s (s.written n K.FLD_RELEASE_REQUEST (wire K.FLD_RELEASE_REQUEST extent) e)) ∧
  (∀ (s : State),
    s.ticking = true →
    let due := s.fab.fold.asked.filter (fun a => decide (a.2 < s.now))
    Gives (.releaseCapacityPost) s (
      forEach due (fun s a =>
      let e := s.extent a.1
      let p := s.rd (K.FLD_OWNER_PORT e.fold)
      if s.logFree p = 0 then s else
      let s1 : State := { s with fab := { s.fab with fold := { s.fab.fold with
        asked := s.fab.fold.asked.filter (· != a), posted := s.fab.fold.posted ++ [a.1] } } }
      (s1.postDc p 1 e.fold e (s.rd (K.FLD_WINDOW_BASE e.fold)) false).releaseSync) s)) ∧
  (∀ (s : State),
    let isFm := fun (w : InternalWait) => match w.job with
      | .fm _ _ _ => true
      | _ => false
    s.isReady = true →
    Gives (.internalCommit) s (forEach (s.fab.fold.internal.filter isFm ++ s.fab.fold.internal.filter (fun w => !isFm w)) State.internalOne s)) ∧
  (∀ (s : State) (f : Nat) (e : Nat),
    f < 1024 →
    let s1 : State := { s with fab := { s.fab with fold := { s.fab.fold with damaged := K.FLD_EXTENT_ENTRY e :: s.fab.fold.damaged } } }
    Gives (.fldExtentEcc f e) s ((s1.raiseD F.FLD_EXTENT_ECC (elem 6 f) e 0 0).cicRaise 0x112)) ∧
  (∀ (s : State) (idx : Nat) (sub : Nat),
    let s1 : State := { s with fab := { s.fab with fold := { s.fab.fold with damaged := key idx sub :: s.fab.fold.damaged } } }
    Gives (.fldRouteEcc idx sub) s ((s1.raiseD F.FLD_ROUTE_ECC (elemSub 5) (idx * 256 + sub) 0 0).cicRaise 0x113)) ∧
  (∀ (s : State) (idx : Nat) (sub : Nat),
    Gives (.fldTableEcc idx sub) s (((s.bump K.FLD_TABLE_ECC_CORRECTED).raiseD F.FLD_TABLE_ECC (elemSub 5) (idx * 256 + sub) 0 0).cicRaise 0x111)) ∧
  (∀ (s : State) (f : Nat),
    f < 1024 →
    Gives (.fldDirtyWrite f) s ((s.raise F.FLD_DIRTY_WRITE (elem 6 f)).cicRaise 0x114)) ∧
  (∀ (s : State) (idx : Nat) (sub : Nat),
    let k := key idx sub
    Gives (.tableRestore idx sub) s (
      { s with fab := { s.fab with fold := { s.fab.fold with
      damaged := s.fab.fold.damaged.filter (· != k)
      gtpDamaged := s.fab.fold.gtpDamaged.filter (fun e => K.GTP_REGION_ENTRY e != k) } } })) ∧
  (∀ (s : State) (n : Nat) (entry : Nat),
    s.mayWrite n K.GTP_LOCK_REQUEST (wire K.GTP_LOCK_REQUEST entry) →
    ∀ e, s.gtpLock (carried K.GTP_LOCK_REQUEST entry) = (Status.ok, e) →
    Gives (.gtpLockRequest n entry) s (s.written n K.GTP_LOCK_REQUEST (wire K.GTP_LOCK_REQUEST entry) e)) ∧
  (∀ (s : State) (e : Nat) (k : EccKind),
    e < 4096 →
    Gives (.gtpTableEcc e k) s (
      match k with
      | .corrected => ((s.bump K.GTP_TABLE_ECC_CORRECTED).raiseD F.GTP_TABLE_ECC (elemSub 5) e 0 0).cicRaise 0x118
      | .uncorrectable =>
        let s1 : State := { s with fab := { s.fab with fold := { s.fab.fold with gtpDamaged := e :: s.fab.fold.gtpDamaged } } }
        (s1.raiseGraveD F.GTP_TABLE_ECC (elemSub 5) e 0 0).cicRaise 0x118))

/-- A host request on an upstream CXL link is taken, or waits where no tracker is free (R277).  Each clause concludes that exec answers a next
state, which it names (Gives: exec c s = .next (settle e)), so it states the completion of its constructor: memrdSnpdata, memrdSnpinv,
meminv, memrdSnpcur, memwr, memwrptl, memclnevct. -/
def Obligations.HostRequests : Prop :=
  (∀ (s : State) (port : Nat) (r : HostReq),
    s.takesRequest port r = true →
    let s1 := s.requested port r .rdShared
    Gives (.memrdSnpdata port r) s (
      if s1.noTracker true || !s1.fab.waitHost.isEmpty then { s1 with fab := { s1.fab with waitHost := s1.fab.waitHost ++ [(port, r, .rdShared)] } }
      else s1.hostTake port r .rdShared)) ∧
  (∀ (s : State) (port : Nat) (r : HostReq),
    s.takesRequest port r = true →
    let s1 := s.requested port r .rdOwn
    Gives (.memrdSnpinv port r) s (
      if s1.noTracker true || !s1.fab.waitHost.isEmpty then { s1 with fab := { s1.fab with waitHost := s1.fab.waitHost ++ [(port, r, .rdOwn)] } }
      else s1.hostTake port r .rdOwn)) ∧
  (∀ (s : State) (port : Nat) (r : HostReq),
    s.takesRequest port r = true →
    let s1 := s.requested port r .memInv
    Gives (.meminv port r) s (
      if s1.noTracker true || !s1.fab.waitHost.isEmpty then { s1 with fab := { s1.fab with waitHost := s1.fab.waitHost ++ [(port, r, .memInv)] } }
      else s1.hostTake port r .memInv)) ∧
  (∀ (s : State) (port : Nat) (r : HostReq),
    s.takesRequest port r = true →
    let s1 := s.requested port r .rdCur
    Gives (.memrdSnpcur port r) s (
      if s1.noTracker true || !s1.fab.waitHost.isEmpty then { s1 with fab := { s1.fab with waitHost := s1.fab.waitHost ++ [(port, r, .rdCur)] } }
      else s1.hostTake port r .rdCur)) ∧
  (∀ (s : State) (port : Nat) (r : HostReq),
    s.takesRequest port r = true →
    let s1 := s.requested port r .write
    Gives (.memwr port r) s (
      if s1.noTracker true || !s1.fab.waitHost.isEmpty then { s1 with fab := { s1.fab with waitHost := s1.fab.waitHost ++ [(port, r, .write)] } }
      else s1.hostTake port r .write)) ∧
  (∀ (s : State) (port : Nat) (r : HostReq),
    s.takesRequest port r = true →
    let s1 := s.requested port r .partialWrite
    Gives (.memwrptl port r) s (
      if s1.noTracker true || !s1.fab.waitHost.isEmpty then { s1 with fab := { s1.fab with waitHost := s1.fab.waitHost ++ [(port, r, .partialWrite)] } }
      else s1.hostTake port r .partialWrite)) ∧
  (∀ (s : State) (port : Nat) (r : HostReq),
    s.takesRequest port r = true →
    let s1 := s.requested port r .evict
    Gives (.memclnevct port r) s (
      if s1.noTracker true || !s1.fab.waitHost.isEmpty then { s1 with fab := { s1.fab with waitHost := s1.fab.waitHost ++ [(port, r, .evict)] } }
      else s1.hostTake port r .evict))

/-- Answers to back-invalidates, their conflicts and timeouts, and the requests of devices act on the open transaction of the line (R277, R278,
R301).  Each clause concludes that exec answers a next state, which it names (Gives: exec c s = .next (settle e)), so it states the
completion of its constructor: birspi, birsps, birspe, biconflict, blwBisnpTimeout, bisnp. -/
def Obligations.BackInvalidateCommands : Prop :=
  (∀ (s : State) (port : Nat) (a : BiAnswer),
    let l := a.dpa / 64
    port < 64 →
    ∀ x, s.waitingOn port a.target l = some x →
    let s1 := s.onLine a.target l (fun e => { e with hvec := e.hvec.filter (· != port), owned := e.owned && e.hvec.any (· != port) })
    Gives (.birspi port a) s (s1.progress { x with hosts := x.hosts.filter (fun h => h.1 != port), data := if a.dirty then some (fit 64 a.data) else x.data })) ∧
  (∀ (s : State) (port : Nat) (a : BiAnswer),
    let l := a.dpa / 64
    port < 64 →
    ∀ x, s.waitingOn port a.target l = some x →
    let kind := ((x.hosts.find? (fun h => h.1 == port)).map (·.2.1)).getD 0
    kind ≠ 0 →
    let s1 := s.onLine a.target l (fun e => { e with owned := false })
    Gives (.birsps port a) s (s1.progress { x with hosts := x.hosts.filter (fun h => h.1 != port), data := if a.dirty then some (fit 64 a.data) else x.data })) ∧
  (∀ (s : State) (port : Nat) (a : BiAnswer),
    let l := a.dpa / 64
    port < 64 →
    ∀ x, s.waitingOn port a.target l = some x →
    let kind := ((x.hosts.find? (fun h => h.1 == port)).map (·.2.1)).getD 0
    kind ≠ 0 →
    kind ≠ 1 →
    let s1 := s.onLine a.target l (fun e => e)
    Gives (.birspe port a) s (s1.progress { x with hosts := x.hosts.filter (fun h => h.1 != port), data := if a.dirty then some (fit 64 a.data) else x.data })) ∧
  (∀ (s : State) (p : Nat) (t : Nat) (a : Nat),
    ∀ y1, s.waitingOn p t (a / 64) = some y1 →
    Gives (.biconflict p t a) s (s.emit (.biRsp p 2 t a))) ∧
  (∀ (s : State) (p : Nat) (t : Nat) (a : Nat),
    ∀ x, s.waitingOn p t (a / 64) = some x →
    s.linkUp p = true →
    (x.hosts.any (fun h => h.1 == p && decide (h.2.2 + s.rd K.BLW_BISNP_TIMEOUT ≤ s.clk.dtc))) = true →
    Gives (.blwBisnpTimeout p t a) s (((s.bump (K.PRT_VIOLATIONS p)).raise F.BLW_BISNP_TIMEOUT (elemPort p)).cicRaise 0x124)) ∧
  (∀ (s : State) (p : Nat) (ld : Nat) (a : Nat),
    p < 64 →
    s.role p = 2 →
    ld < 16 →
    s.rd (K.PRT_LD_FEID p ld) ≠ 0 →
    Gives (.bisnp p ld a) s (s.blwAccept (s.device * 256 + s.rd (K.PRT_LD_FEID p ld)) (a / 64) p (.bisnp p ld)))

/-- A Bellwether message that a Twill link takes is delivered here or passed on (R282, R283, R284, R285, R289, R290).  Each clause concludes
that exec answers a next state, which it names (Gives: exec c s = .next (settle e)), so it states the completion of its constructor:
rdShared, rdOwn, upgrade, rdCur, wrInv, wrInvPartial, atomicCoh, evict, fwdShared, fwdOwn, snpInv, snpData, snpCur, dataS, dataF, dataE,
dataM, dataCur, wbM, snpDataI, snpDataS, snpDataKeep, bwCmp, gntOwn, snpI, snpS, snpIWb, fwdDone, fwdMissS, fwdMissI. -/
def Obligations.CoherenceMessagesOverTwill : Prop :=
  (∀ (s : State) (port : Nat) (m : TwillMsg),
    s.takesMsg port (twillRow m 4 0x40) = true →
    Gives (.rdShared port m) s (s.receives port (twillRow m 4 0x40))) ∧
  (∀ (s : State) (port : Nat) (m : TwillMsg),
    s.takesMsg port (twillRow m 4 0x41) = true →
    Gives (.rdOwn port m) s (s.receives port (twillRow m 4 0x41))) ∧
  (∀ (s : State) (port : Nat) (m : TwillMsg),
    s.takesMsg port (twillRow m 4 0x42) = true →
    Gives (.upgrade port m) s (s.receives port (twillRow m 4 0x42))) ∧
  (∀ (s : State) (port : Nat) (m : TwillMsg),
    s.takesMsg port (twillRow m 4 0x43) = true →
    Gives (.rdCur port m) s (s.receives port (twillRow m 4 0x43))) ∧
  (∀ (s : State) (port : Nat) (m : TwillMsg),
    s.takesMsg port (twillRow m 4 0x44) = true →
    Gives (.wrInv port m) s (s.receives port (twillRow m 4 0x44))) ∧
  (∀ (s : State) (port : Nat) (m : TwillMsg),
    s.takesMsg port (twillRow m 4 0x45) = true →
    Gives (.wrInvPartial port m) s (s.receives port (twillRow m 4 0x45))) ∧
  (∀ (s : State) (port : Nat) (m : TwillMsg),
    s.takesMsg port (twillRow m 4 0x46) = true →
    Gives (.atomicCoh port m) s (s.receives port (twillRow m 4 0x46))) ∧
  (∀ (s : State) (port : Nat) (m : TwillMsg),
    s.takesMsg port (twillRow m 4 0x47) = true →
    Gives (.evict port m) s (s.receives port (twillRow m 4 0x47))) ∧
  (∀ (s : State) (port : Nat) (m : TwillMsg),
    s.takesMsg port (twillRow m 1 0x01) = true →
    Gives (.fwdShared port m) s (s.receives port (twillRow m 1 0x01))) ∧
  (∀ (s : State) (port : Nat) (m : TwillMsg),
    s.takesMsg port (twillRow m 1 0x02) = true →
    Gives (.fwdOwn port m) s (s.receives port (twillRow m 1 0x02))) ∧
  (∀ (s : State) (port : Nat) (m : TwillMsg),
    s.takesMsg port (twillRow m 1 0x03) = true →
    Gives (.snpInv port m) s (s.receives port (twillRow m 1 0x03))) ∧
  (∀ (s : State) (port : Nat) (m : TwillMsg),
    s.takesMsg port (twillRow m 1 0x04) = true →
    Gives (.snpData port m) s (s.receives port (twillRow m 1 0x04))) ∧
  (∀ (s : State) (port : Nat) (m : TwillMsg),
    s.takesMsg port (twillRow m 1 0x05) = true →
    Gives (.snpCur port m) s (s.receives port (twillRow m 1 0x05))) ∧
  (∀ (s : State) (port : Nat) (m : TwillMsg),
    s.takesMsg port (twillRow m 3 0x40) = true →
    Gives (.dataS port m) s (s.receives port (twillRow m 3 0x40))) ∧
  (∀ (s : State) (port : Nat) (m : TwillMsg),
    s.takesMsg port (twillRow m 3 0x41) = true →
    Gives (.dataF port m) s (s.receives port (twillRow m 3 0x41))) ∧
  (∀ (s : State) (port : Nat) (m : TwillMsg),
    s.takesMsg port (twillRow m 3 0x42) = true →
    Gives (.dataE port m) s (s.receives port (twillRow m 3 0x42))) ∧
  (∀ (s : State) (port : Nat) (m : TwillMsg),
    s.takesMsg port (twillRow m 3 0x43) = true →
    Gives (.dataM port m) s (s.receives port (twillRow m 3 0x43))) ∧
  (∀ (s : State) (port : Nat) (m : TwillMsg),
    s.takesMsg port (twillRow m 3 0x44) = true →
    Gives (.dataCur port m) s (s.receives port (twillRow m 3 0x44))) ∧
  (∀ (s : State) (port : Nat) (m : TwillMsg),
    s.takesMsg port (twillRow m 3 0x48) = true →
    Gives (.wbM port m) s (s.receives port (twillRow m 3 0x48))) ∧
  (∀ (s : State) (port : Nat) (m : TwillMsg),
    s.takesMsg port (twillRow m 3 0x49) = true →
    Gives (.snpDataI port m) s (s.receives port (twillRow m 3 0x49))) ∧
  (∀ (s : State) (port : Nat) (m : TwillMsg),
    s.takesMsg port (twillRow m 3 0x4A) = true →
    Gives (.snpDataS port m) s (s.receives port (twillRow m 3 0x4A))) ∧
  (∀ (s : State) (port : Nat) (m : TwillMsg),
    s.takesMsg port (twillRow m 3 0x4B) = true →
    Gives (.snpDataKeep port m) s (s.receives port (twillRow m 3 0x4B))) ∧
  (∀ (s : State) (port : Nat) (m : TwillMsg),
    s.takesMsg port (twillRow m 2 0x40) = true →
    Gives (.bwCmp port m) s (s.receives port (twillRow m 2 0x40))) ∧
  (∀ (s : State) (port : Nat) (m : TwillMsg),
    s.takesMsg port (twillRow m 2 0x41) = true →
    Gives (.gntOwn port m) s (s.receives port (twillRow m 2 0x41))) ∧
  (∀ (s : State) (port : Nat) (m : TwillMsg),
    s.takesMsg port (twillRow m 2 0x42) = true →
    Gives (.snpI port m) s (s.receives port (twillRow m 2 0x42))) ∧
  (∀ (s : State) (port : Nat) (m : TwillMsg),
    s.takesMsg port (twillRow m 2 0x43) = true →
    Gives (.snpS port m) s (s.receives port (twillRow m 2 0x43))) ∧
  (∀ (s : State) (port : Nat) (m : TwillMsg),
    s.takesMsg port (twillRow m 2 0x44) = true →
    Gives (.snpIWb port m) s (s.receives port (twillRow m 2 0x44))) ∧
  (∀ (s : State) (port : Nat) (m : TwillMsg),
    s.takesMsg port (twillRow m 2 0x45) = true →
    Gives (.fwdDone port m) s (s.receives port (twillRow m 2 0x45))) ∧
  (∀ (s : State) (port : Nat) (m : TwillMsg),
    s.takesMsg port (twillRow m 2 0x46) = true →
    Gives (.fwdMissS port m) s (s.receives port (twillRow m 2 0x46))) ∧
  (∀ (s : State) (port : Nat) (m : TwillMsg),
    s.takesMsg port (twillRow m 2 0x47) = true →
    Gives (.fwdMissI port m) s (s.receives port (twillRow m 2 0x47)))

/-- Queued requests, writebacks, flushes and errors of the directory are carried out (R273, R276, R287, R288, R292, R297, R298, R299, R300).
Each clause concludes that exec answers a next state, which it names (Gives: exec c s = .next (settle e)), so it states the completion of
its constructor: retrySlotAllocate, conflictQueueProcess, wbMReissue, blwLookupLine, blwFlushFold, bulkFlushGrant, flushEnd, blwSetEcc,
setRebuildTimeout, blwNearEcc. -/
def Obligations.DirectoryCommands : Prop :=
  (∀ (s : State) (bank : Nat) (dev : Bool),
    ∀ r, s.blw.retry.find? (fun r => r.1 == 2 * bank + b2n dev) = some r →
    s.slotsFull = false →
    (allocates s r.2.1 && (s.allocate r.2.2.1 r.2.2.2 r.2.1.ofHost).isNone) = false →
    let s1 := State.retryTurn { s with blw := { s.blw with retry := s.blw.retry.erase r } } bank (2 * bank + b2n dev)
    let begins := fun (u : State) (q : List BlwReq) =>
          if allocates u r.2.1 = false then u.openTxn r.2.2.1 r.2.2.2 r.2.1 q
          else match u.allocate r.2.2.1 r.2.2.2 r.2.1.ofHost with
            | none => s
            | some v => v.openTxn r.2.2.1 r.2.2.2 r.2.1 q
    Gives (.retrySlotAllocate bank dev) s (
      match s1.txnOf r.2.2.1 r.2.2.2 with
      | some y =>
        if y.waiting then begins { s1 with blw := { s1.blw with txns := s1.blw.txns.filter (fun z => !sameTxn y z) } } y.queue
        else s1.putTxn_ { y with queue := y.queue ++ [r.2.1] }
      | none => begins s1 [])) ∧
  (∀ (s : State) (t : Nat) (a : Nat),
    ∀ x, s.txnOf t (a / 64) = some x →
    x.waiting = true →
    s.blw.retry.any (fun r => r.2.2.1 == t && r.2.2.2 == a / 64) = false →
    Gives (.conflictQueueProcess t a) s (
      match x.queue with
      | [] => { s with blw := { s.blw with txns := s.blw.txns.filter (fun y => !sameTxn x y) } }
      | r :: q =>
        let s1 : State := { s with blw := { s.blw with txns := s.blw.txns.filter (fun y => !sameTxn x y) } }
        s1.work t (a / 64) r q)) ∧
  (∀ (s : State) (target : Nat) (dpa : Nat),
    ∀ e, s.lineEntry target (dpa / 64) = some e →
    e.held = true →
    e.dirty = true →
    s.homed target = false →
    Gives (.wbMReissue target dpa) s (s.writeback e false e.poisoned)) ∧
  (∀ (s : State) (n : Nat) (target : Nat) (dpa : Nat),
    s.mayWrite n K.BLW_LOOKUP_LINE (leBytes 2 target ++ leBytes 8 dpa) →
    Gives (.blwLookupLine n target dpa) s (s.written n K.BLW_LOOKUP_LINE (leBytes 2 target ++ leBytes 8 dpa) (s.lookupLine (field (leBytes 2 target ++ leBytes 8 dpa) 0 2) (field (leBytes 2 target ++ leBytes 8 dpa) 2 8)))) ∧
  (∀ (s : State) (n : Nat) (fold : Nat),
    s.mayWrite n K.BLW_FLUSH_FOLD (wire K.BLW_FLUSH_FOLD fold) →
    ∀ e, s.flushFold (carried K.BLW_FLUSH_FOLD fold) = (Status.ok, e) →
    Gives (.blwFlushFold n fold) s (s.written n K.BLW_FLUSH_FOLD (wire K.BLW_FLUSH_FOLD fold) e)) ∧
  (∀ (s : State),
    4 * ((s.blw.flushes.filter (·.running)).length + 1) ≤ s.granted 81 →
    ∀ f, s.blw.flushes.find? (fun f => !f.running) = some f →
    let g : BulkFlush := { f with running := true, since := s.clk.dtc }
    let s1 : State := { s with
      blw := { s.blw with flushes := s.blw.flushes.replace f g }
      gov := { s.gov with answers := match s.gov.answers.find? (fun a => a.requester == 81) with
        | some a => s.gov.answers.erase a
        | none => s.gov.answers } }
    Gives (.bulkFlushGrant) s (
      match f.kind with
      | 0 =>
        let s2 := forEach (s1.blw.lines.filter (fun e => e.hvec.contains f.port)) (fun s e => s.blwAccept e.target e.line 79 (.sweep f.port)) s1
        s2.forgetHost f.port
      | 1 =>
        forEach (s1.blw.lines.filter (fun e => e.hvec.contains f.port && !e.l2 && (e.fold == f.fold || s1.lineShared e))) (fun s e =>
          s.blwAccept e.target e.line 79 (.flush f.port)) s1
      | _ =>
        forEach (s1.blw.lines.filter (fun e => !e.l2 && e.way < 16 && lineBank e.target e.line == f.port && lineSet e.target e.line == f.fold))
          (fun s e => s.blwAccept e.target e.line 79 .rebuild) s1)) ∧
  (∀ (s : State),
    ∀ f, s.blw.flushes.find? (fun f => f.running && !flushOpen s f) = some f →
    let s1 : State := { s with blw := { s.blw with flushes := s.blw.flushes.erase f } }
    let s3 := s1.setGrant 81 (s.granted 81 - 4)
    Gives (.flushEnd) s (
      match f.kind with
      | 0 => (s3.putPort f.port { s3.port f.port with sweeping := false }).startTraining f.port |>.cicRaise 0x126
      | 1 =>
        let s4 : State := { s3 with fab := { s3.fab with fold := { s3.fab.fold with flushed := f.fold :: s3.fab.fold.flushed.filter (· != f.fold) } } }
        (s4.wr K.BLW_FLUSH_STATE (2 * 2 ^ 30 + f.fold)).cicRaise 0x126
      | _ => s3.cicRaise 0x120)) ∧
  (∀ (s : State) (bank : Nat) (set : Nat) (k : EccKind) (both : Bool),
    bank < 16 →
    set < 16384 →
    Gives (.blwSetEcc bank set k both) s (
      match k with
      | .corrected => s.raiseD F.BLW_SET_ECC (elemSub 6) (16384 * bank + set) 0 0
      | .uncorrectable =>
        if both then (s.raiseD F.BLW_SET_LOST (elemSub 6) (16384 * bank + set) 0 0).cicRaise 0x121
        else ((s.raiseGraveD F.BLW_SET_ECC (elemSub 6) (16384 * bank + set) 0 0).cicRaise 0x120).askFlush
          { kind := 2, port := bank, fold := set, running := false, since := s.clk.dtc })) ∧
  (∀ (s : State) (bank : Nat) (set : Nat),
    ∀ f, s.blw.flushes.find? (fun f => f.kind == 2 && f.running && f.port == bank && f.fold == set) = some f →
    f.since + 200000 ≤ s.clk.dtc →
    let mine := fun (t l : Nat) => lineBank t l == bank && lineSet t l == set
    let s1 := forEach (s.blw.txns.filter (fun x => x.req == .rebuild && !x.waiting && mine x.target x.line)) (fun s x =>
      ((s.spoil x.target x.line).rebuilt { x with data := none }).closeTxn x) s
    let late := s1.blw.txns.filter (fun x => x.queue.contains .rebuild && mine x.target x.line)
    Gives (.setRebuildTimeout bank set) s (
      forEach late (fun s x => match s.blw.txns.find? (sameTxn x) with
      | some y => (s.spoil x.target x.line).putTxn_ { y with queue := y.queue.filter (· != .rebuild), poison := true }
      | none => s) s1)) ∧
  (∀ (s : State) (target : Nat) (dpa : Nat),
    ∀ e, s.lineEntry target (dpa / 64) = some e →
    e.near.isSome = true →
    e.dirty = true →
    Gives (.blwNearEcc target dpa) s (((s.raiseGraveD F.BLW_NEAR_ECC (elemSub 6) dpa 0 0).cicRaise 0x125).writeback { e with poisoned := true } false true)) ∧
  (∀ (s : State) (target : Nat) (dpa : Nat),
    ∀ e, s.lineEntry target (dpa / 64) = some e →
    e.near.isSome = true →
    e.dirty = false →
    Gives (.blwNearEcc target dpa) s (((s.raiseD F.BLW_NEAR_ECC (elemSub 6) dpa 0 0).cicRaise 0x125).nearEvict e))

/-- Reference clocks, PLLs, re-equalisation, alignment and SKIP blocks act on the lanes (R119, R120, R124, R128, R129).  Each clause concludes
that exec answers a next state, which it names (Gives: exec c s = .next (settle e)), so it states the completion of its constructor:
selRefclkLoss, selRefclkRestore, selPllUnlock, pllRelock, selReeq, partnerEqualization, reeqGrant, reeqGrantTimeout, reeqEnd,
alignmentMarker, skipBlock. -/
def Obligations.LaneReferenceCommands : Prop :=
  (∀ (s : State) (g : Nat) (c1 : Nat) (c2 : Nat),
    g < 16 →
    refInRange c1 = false →
    refInRange c2 = false →
    s.sel.lost.contains g = false →
    let s1 := (s.wr (K.SEL_REFCLK_COUNT g) (c2 % 65536)).bump (K.SEL_REFCLK_LOSSES g)
    let s2 : State := { s1 with sel := { s1.sel with lost := g :: s1.sel.lost, refAt := Sparse.insert g s1.clk.dtc s1.sel.refAt } }
    let quads := [4 * g, 4 * g + 1, 4 * g + 2, 4 * g + 3]
    let s3 := forEach quads (fun s q =>
      ((s.wrBits (K.SEL_QUAD_STATE q) 1 0 0).wrBits (K.SEL_QUAD_STATE q) 7 4 0).cicRaise (0xC0 + q)) s2
    let ports := (quads.map s.portOfQuad).eraseDups
    Gives (.selRefclkLoss g c1 c2) s ((forEach ports (fun s p => s.dropLink p) s3).raise F.SEL_REFCLK_LOSS (elem 5 g))) ∧
  (∀ (s : State) (g : Nat) (ref : RefMeasure),
    g < 16 →
    let c := ref.count
    let spread := ref.spread
    refInRange c = true →
    s.sel.lost.contains g = true →
    let s0 : State := { s with sel := { s.sel with spread := s.sel.spread.filter (· != g) } }
    let s1 := (when spread (·.spreadFound g) s0).wr (K.SEL_REFCLK_COUNT g) c
    let s2 : State := { s1 with sel := { s1.sel with
      lost := s1.sel.lost.filter (· != g), refAt := Sparse.insert g s1.clk.dtc s1.sel.refAt } }
    let quads := [4 * g, 4 * g + 1, 4 * g + 2, 4 * g + 3]
    let s3 := forEach quads (fun s q => if bit (s.rd K.HRD_FENCED_QUADS) q then s.wrBit (K.SEL_QUAD_STATE q) 1 true
      else s.wrBits (K.SEL_QUAD_STATE q) 1 0 3) s2
    Gives (.selRefclkRestore g ref) s (forEach ((quads.map s.portOfQuad).eraseDups) (fun s p => (s.startTraining p).testStart p) s3)) ∧
  (∀ (s : State) (q : Nat),
    q < 64 →
    s.sel.lost.contains (q / 4) = false →
    bit (s.rd (K.SEL_QUAD_STATE q)) 0 = true →
    let x := s.selQuad q
    let times := s.clk.dtc :: x.unlocks.filter (fun t => s.clk.dtc < t + 60 * 10 ^ 9)
    let s1 := (s.bump (K.SEL_PLL_UNLOCKS q)).wrBits (K.SEL_QUAD_STATE q) 7 4 0 |>.wrBit (K.SEL_QUAD_STATE q) 0 false
    let s2 := (s1.putSelQuad q { x with unlocks := times, relocking := true }).cicRaise (0xC0 + q)
    let s3 := (s2.dropLink (s.portOfQuad q)).raise F.SEL_PLL_UNLOCK (elem 3 q)
    Gives (.selPllUnlock q) s (if 3 ≤ times.length then s3.fenceQuad q else s3)) ∧
  (∀ (s : State) (q : Nat) (locked : Bool),
    q < 64 →
    let x := s.selQuad q
    x.relocking = true →
    let s1 := s.putSelQuad q { x with relocking := false }
    Gives (.pllRelock q locked) s (
      if bit (s.rd K.HRD_FENCED_QUADS) q then s1
      else if locked then ((s1.wrBit (K.SEL_QUAD_STATE q) 0 true).startTraining (s.portOfQuad q)).testStart q
      else s1.fenceQuad q)) ∧
  (∀ (s : State) (n : Nat) (quad : Nat) (value : Nat),
    quad < 64 →
    carried (K.SEL_REEQ quad) value = 1 →
    s.mayWrite n (K.SEL_REEQ quad) (wire (K.SEL_REEQ quad) value) →
    Gives (.selReeq n quad value) s (s.written n (K.SEL_REEQ quad) (wire (K.SEL_REEQ quad) value) (if s.role (s.portOfQuad quad) = 3 then (s.retrainWrite (s.portOfQuad quad) 0x1F).2 else s.reeqAsk (s.portOfQuad quad) true []))) ∧
  (∀ (s : State) (partner : PartnerEq),
    partner.port < 64 →
    let p := partner.port
    let own := false
    let l := partner.requests
    s.sel.reeqs.any (fun r => r.port == p) = false →
    s.linkUp p = true →
    let s1 : State := { s with sel := { s.sel with
      reeqs := s.sel.reeqs ++ [{ port := p, own := own, since := s.now, running := false, requests := l }] } }
    Gives (.partnerEqualization partner) s (s1.govRequest (16 + p) (2 * (s.portQuads p).length))) ∧
  (∀ (s : State) (p : Nat),
    p < 64 →
    (s.sel.reeqs.any (fun r => r.port == p && !r.running)) = true →
    (s.gov.answers.any (fun a => a.requester == 16 + p && a.given != 0)) = true →
    let s1 : State := { s with
      gov := { s.gov with answers := s.gov.answers.filter (fun a => a.requester != 16 + p) }
      sel := { s.sel with reeqs := s.sel.reeqs.map (fun r => if r.port = p then { r with running := true } else r) } }
    let asked := (s.sel.reeqs.filter (fun r => r.port == p)).flatMap (·.requests)
    Gives (.reeqGrant p) s (when (s1.role p != 3) (fun s => s.equalise p (bits (s.rd (K.PRT_LINK_STATE p)) 11 8) asked) (s1.abortMargins p))) ∧
  (∀ (s : State) (p : Nat),
    p < 64 →
    ∀ r, s.sel.reeqs.find? (fun r => r.port == p && !r.running) = some r →
    r.own = false →
    r.since + 2 ≤ s.now →
    let s1 : State := { s with sel := { s.sel with reeqs := s.sel.reeqs.filter (fun r => r.port != p) } }
    Gives (.reeqGrantTimeout p) s (((s1.govRelease (16 + p)).bump (K.SEL_EQ_DEFERRED p)).retrainAfterEq p)) ∧
  (∀ (s : State) (p : Nat),
    p < 64 →
    s.reequalising p = true →
    let s1 := (s.reeqDrop p).rxTrained p
    Gives (.reeqEnd p) s ((when (!s1.equalising p) (·.startWaiting p) s1).retrainAfterEq p)) ∧
  (∀ (s : State) (p : Nat) (lane : Nat) (am : Option (BitVec 128)) (skew : Nat),
    p < 64 →
    s.role p = 3 →
    lane < 4 * (s.portQuads p).length →
    ∀ inv x, (am.map BitVec.toNat).bind (readAm (s.rd (K.SEL_QUAD_RATE p) - 8)) = some (inv, x) →
    let a := s.alignment p
    let q := p + lane / 4
    let lanes := Sparse.insert lane (bits x 79 76) a.lanes
    let ok := if skew ≤ 1024 then laneOrder lanes (4 * (s.portQuads p).length) else none
    let a1 : LaneAlignment := {
      lanes := lanes, counts := Sparse.insert lane (bits x 71 48) a.counts
      bad := Sparse.set (fun _ => 0) a.bad lane 0, aligned := ok.isSome, reversed := ok.getD a.reversed }
    Gives (.alignmentMarker p lane am skew) s ((((s.putAlignment p a1).wrBit (K.SEL_QUAD_STATE q) (12 + lane % 4) inv).wrBit (K.SEL_QUAD_STATE q) (4 + lane % 4) true).trainAligned p)) ∧
  (∀ (s : State) (p : Nat) (lane : Nat) (am : Option (BitVec 128)) (skew : Nat),
    p < 64 →
    s.role p = 3 →
    lane < 4 * (s.portQuads p).length →
    (am.map BitVec.toNat).bind (readAm (s.rd (K.SEL_QUAD_RATE p) - 8)) = none →
    let n := Sparse.get (fun _ => 0) (s.alignment p).bad lane + 1
    let s1 := (s.putAlignment p { s.alignment p with bad := Sparse.set (fun _ => 0) (s.alignment p).bad lane (if 3 ≤ n then 0 else n) }).bump (K.SEL_AM_LOSSES (p + lane / 4))
    Gives (.alignmentMarker p lane am skew) s ((if 3 ≤ n then s1.framingLoss p else s1).trainAligned p)) ∧
  (∀ (s : State) (p : Nat) (fill : Nat),
    p < 64 →
    s.role p = 3 →
    let k := skipAdjust fill
    let s1 : State := { s with sel := { s.sel with fill := Sparse.set (fun _ => 64) s.sel.fill p ((fill : Int) - 16 * k).toNat } }
    Gives (.skipBlock p fill) s (forEach (s.portQuads p) (fun s q => s.countN 0x1003 q k.natAbs) s1))

/-- Buffer errors, loss of signal, injection, checkers and margin runs act on the quads (R130, R131, R135, R136, R139, R140).  Each clause
concludes that exec answers a next state, which it names (Gives: exec c s = .next (settle e)), so it states the completion of its
constructor: selElasticErrors, losAssert, losRelease, selInject, selPrbsClear, marginRunStart, marginRunDone, partnerMarginCommand,
checkerLock, checkerLockLoss. -/
def Obligations.LaneTestCommands : Prop :=
  (∀ (s : State) (q : Nat),
    q < 64 →
    Gives (.selElasticErrors q) s ((s.bump (K.SEL_ELASTIC_ERRORS q)).framingLoss (s.portOfQuad q))) ∧
  (∀ (s : State) (lane : Nat),
    lane < 256 →
    let q := lane / 4
    bit (s.rd (K.SEL_QUAD_STATE q)) (8 + lane % 4) = false →
    let s1 := ((s.wrBit (K.SEL_QUAD_STATE q) (8 + lane % 4) true).bump (K.SEL_LOS_EVENTS q)).count 0x1002 lane
    let p := s.portOfQuad q
    Gives (.losAssert lane) s (if s.role p = 3 ∧ s.linkUp p ∧ lane - 4 * p < s.txLanes p then s1.framingLoss p else s1)) ∧
  (∀ (s : State) (lane : Nat),
    lane < 256 →
    Gives (.losRelease lane) s (s.wrBit (K.SEL_QUAD_STATE (lane / 4)) (8 + lane % 4) false)) ∧
  (∀ (s : State) (n : Nat) (quad : Nat) (mask : Nat),
    quad < 64 →
    s.mayWrite n (K.SEL_INJECT quad) (wire (K.SEL_INJECT quad) mask) →
    Gives (.selInject n quad mask) s (s.written n (K.SEL_INJECT quad) (wire (K.SEL_INJECT quad) mask) (s.injectErrors quad (carried (K.SEL_INJECT quad) mask)))) ∧
  (∀ (s : State) (n : Nat) (quad : Nat) (mask : Nat),
    quad < 64 →
    s.mayWrite n (K.SEL_PRBS_CLEAR quad) (wire (K.SEL_PRBS_CLEAR quad) mask) →
    Gives (.selPrbsClear n quad mask) s (s.written n (K.SEL_PRBS_CLEAR quad) (wire (K.SEL_PRBS_CLEAR quad) mask) (s.prbsClear quad (carried (K.SEL_PRBS_CLEAR quad) mask)))) ∧
  (∀ (s : State) (n : Nat) (quad : Nat) (ctrl : BitVec 32),
    quad < 64 →
    let c := carried (K.SEL_MARGIN_CTRL quad) ctrl.toNat
    bit c 31 = true →
    marginFits c = true →
    let x := s.selQuad quad
    x.run = none →
    x.runWaits = none →
    s.sel.partner.contains (4 * quad + marginLane c) = false →
    let e := if s.equalising (s.portOfQuad quad) then s.putSelQuad quad { x with runWaits := some c } else s.marginBegin quad c
    s.mayWrite n (K.SEL_MARGIN_CTRL quad) (wire (K.SEL_MARGIN_CTRL quad) ctrl.toNat) →
    Gives (.marginRunStart n quad ctrl) s (s.written n (K.SEL_MARGIN_CTRL quad) (wire (K.SEL_MARGIN_CTRL quad) ctrl.toNat) (e))) ∧
  (∀ (s : State) (q : Nat) (errors : Nat),
    q < 64 →
    ∀ c, (s.selQuad q).run = some c →
    Gives (.marginRunDone q errors) s (((s.putSelQuad q { s.selQuad q with run := none }).putMargin q (marginLane c) 2 errors).cicRaise (0xC0 + q))) ∧
  (∀ (s : State) (lane : Nat) (command : MarginCommand),
    lane < 256 →
    let kind := command.kind
    let payload := command.payload
    let q := lane / 4
    let r := s.role (s.portOfQuad q)
    (1 ≤ kind ∧ kind ≤ 4) →
    (r = 1 ∨ r = 2) →
    s.linkUp (s.portOfQuad q) = true →
    let s1 := match (s.selQuad q).run with
      | some c => if marginLane c = lane % 4 then s.marginAbort q else s
      | none => s
    let others := s1.sel.partner.filter (· != lane)
    let now := if 3 ≤ kind then lane :: others else if kind = 2 ∧ payload = 0x0F then others else s1.sel.partner
    let s2 : State := { s1 with sel := { s1.sel with partner := now } }
    Gives (.partnerMarginCommand lane command) s ((s2.emit (.marginReply lane kind (marginPayload kind payload s2.fresh))).tick)) ∧
  (∀ (s : State) (lane : Nat) (rx : List Bool),
    lane < 256 →
    let q := lane / 4
    s.checkerOn q = true →
    let b := s.generated q s.clk.dtc
    let heard := if s.nearLoop q then s.testBits q (lane % 4) (b - rx.length) b else rx
    let s1 := when (s.rd (K.SEL_TEST_MODE q) == 4)
      (·.emit (.laneLoop lane (coeffWord (twillPresets.getD (s.rd (K.SEL_TWILL_PRESET q)) (0, 0, 63, 0))) rx)) s
    let s2 := when (s.rd (K.SEL_TEST_MODE q) != 2) (·.wrBit (K.SEL_QUAD_STATE q) (4 + lane % 4) true) s1
    Gives (.checkerLock lane rx) s (
      when (patternLocks (s.testPattern q) (s.rd (K.SEL_USER_PATTERN q)) (ratePam4 (s.rd (K.SEL_TEST_RATE q))) heard)
      (·.wrBit (K.SEL_PRBS_LOCK q) (lane % 4) true) s2)) ∧
  (∀ (s : State) (lane : Nat) (n : Nat) (errors : Nat),
    lane < 256 →
    let q := lane / 4
    bit (s.rd (K.SEL_PRBS_LOCK q)) (lane % 4) = true →
    let b := s.generated q s.clk.dtc
    let injected := ((s.selQuad q).flips.filter (fun e => e.1 == lane % 4 && decide (b - n ≤ e.2) && decide (e.2 < b))).length
      + (s.periodicIn q (b - n) b).length
    let wrong := if s.nearLoop q then injected else errors
    let s1 := if s.nearLoop q then s else s.prbsErrors lane errors
    Gives (.checkerLockLoss lane n errors) s (if 64 ≤ wrong ∧ n ≤ 1024 then s1.wrBit (K.SEL_PRBS_LOCK q) (lane % 4) false else s1))

/-- Messages move through the switch: reserve, start, transmission, sequence points, refill and samples (R201, R205, R214, R216, R219, R221).
Each clause concludes that exec answers a next state, which it names (Gives: exec c s = .next (settle e)), so it states the completion of
its constructor: onChipReserveWait, messageStart, messageTransmit, lomReseqSkip, flowIdle, refill, sampleCapture, lomSlice. -/
def Obligations.LoomCommands : Prop :=
  (∀ (s : State) (g : Nat),
    g < 81 →
    ∀ x, (s.fab.loom.msgs.filter (fun x => x.place == .source && x.ingress == g)).find? (fun x => s.chargeFor x != .reserve || !s.reserveFull x) = some x →
    let ch := s.chargeFor x
    let a := s.allocCells { x with charge := ch, at_ := s.clk.dtc, place := .queue }
    let x1 := a.1
    let s1 := when (ch == .shared) (·.creditBack x1) ((a.2.moveMsg x1).sample 0 x1)
    Gives (.onChipReserveWait g) s (
      match x.track.bind s1.tracker with
      | some t => if x.response ∨ t.need = 0 ∨ t.passed then s1.linkNew x1 else s1.pass x1 t
      | none => s1.linkQueue x1)) ∧
  (∀ (s : State) (g : Nat) (c : Nat),
    g < 81 →
    c < 8 →
    (s.matched true).done.any (fun a => a.gang == g && a.cls == c && a.idx == 0) = true →
    Gives (.messageStart g c) s ((s.cellTime true).crossOn (s.fab.loom.msgs.foldl (fun n x => n + x.cells) 0))) ∧
  (∀ (s : State) (g : Nat) (c : Nat) (f : Finding),
    g < 81 →
    c < 8 →
    ∀ x y1, s.queueOf .staged g c = x :: y1 →
    x.written = true →
    let twill := g < 64 && s.role g == 3
    let n := ceilDiv ((headerBytes x.m).length + 64 * (twillForm x).dcnt) 232
    (twill && (!s.linkUp g || bit (s.rd (K.TWL_STATE g)) 3 || decide (1024 < (s.link g).replay.length + n))) = false →
    (g < 64 && !s.linkUp g) = false →
    let r := s.cellFound x f
    let s1 := r.2.dropMsg x.id
    Gives (.messageTransmit g c f) s (
      match r.1 with
      | none => s1
      | some y => if twill then s1.twillSend g y else s1.deliver g y f)) ∧
  (∀ (s : State) (src : Nat) (ep : Nat) (c : Nat),
    ∀ f, s.flowAt (flowKey src ep c) = some f →
    ∀ a, f.gapAt = some a →
    a + s.rd K.LOM_RESEQ_SKIP ≤ s.clk.dtc →
    Gives (.lomReseqSkip src ep c) s (s.reseqSkip (flowKey src ep c))) ∧
  (∀ (s : State) (src : Nat) (ep : Nat) (c : Nat),
    let k := flowKey src ep c
    ∀ f, s.flowAt k = some f →
    (s.heldOf k).isEmpty = true →
    f.usedAt + 1000000 ≤ s.clk.dtc →
    Gives (.flowIdle src ep c) s ({ s with fab := { s.fab with loom := { s.fab.loom with flows := Sparse.erase k s.fab.loom.flows } } })) ∧
  (∀ (s : State) (g : Nat),
    g < 81 →
    s.refillTurn = some g →
    ∀ x, s.refillHead g = some x →
    let parts := s.chainParts (s.chain g) x.chainAt x.cells
    Gives (.refill g) s (
      match s.storeDenied parts permRead 1 with
      | some s1 => s1
      | none =>
        let r := parts.foldl (fun (r : List Byte × Bool × State) e =>
          let v := r.2.2.cmnRead e.1 (64 * e.2)
          (r.1 ++ v.1, r.2.1 || v.2.1, v.2.2)) ([], false, s)
        let s1 : State := { r.2.2 with fab := { r.2.2.fab with loom := { r.2.2.fab.loom with refillPtr := (g + 1) % 80 } } }
        let y : LMsg := { x with m := { x.m with data := (r.1.drop 64).take x.m.data.length, poisoned := x.m.poisoned || r.2.1 }, charge := .shared }
        let a := (s1.unchain x).allocCells { y with place := .queue }
        a.2.enqueue a.1)) ∧
  (∀ (s : State) (n : Nat),
    n < 64 →
    ∀ e rest, s.fab.loom.captures = e :: rest →
    e.1 = n →
    s.fab.loom.msgs.any (fun x => x.id == e.2.1 && !x.written) = false →
    let s0 : State := { s with fab := { s.fab with loom := { s.fab.loom with captures := rest } } }
    let w := s.rd K.LOM_SAMPLE_WRITE
    let a := s.carveAt 5 + s.carve 5 / 2 + s.carve 5 / 4 + 160 * w
    let i : Initiator := { device := s.device }
    Gives (.sampleCapture n) s (
      if ringFull s.sampleSlots w (s.rd K.LOM_SAMPLE_READ) then (s0.bump K.LOM_SAMPLE_DROPPED).cicRaise 0x107
      else match s.gtpDenied i (s.device * 256 + 1) a 160 permWrite with
        | some d => ((s0.gtpViolation i (s.device * 256 + 1) a 160 2 permWrite false d).bump K.LOM_SAMPLE_DROPPED).cicRaise 0x107
        | none =>
          ((((s0.cmnWrite a e.2.2 allBytes).2.wr K.LOM_SAMPLE_WRITE ((w + 1) % s.sampleSlots)).bump (K.LOM_SAMPLER_TAKEN n)).cicRaise 0x106))) ∧
  (∀ (s : State) (n : Nat),
    n < 8 →
    bit (s.rd K.LOM_SLICES_FENCED) n = false →
    Gives (.lomSlice n) s ((s.sliceFence n).raise F.LOM_SLICE (elem 11 n)))

/-- SPDM requests move the connection of a management channel on and are answered (R156).  Each clause concludes that exec answers a next state,
which it names (Gives: exec c s = .next (settle e)), so it states the completion of its constructor: getVersion, getCapabilities,
negotiateAlgorithms, getDigests, getCertificate, challenge, getMeasurements, keyExchange, finish, heartbeat, keyUpdate, endSession. -/
def Obligations.SpdmCommands : Prop :=
  (∀ (s : State) (ch : MgmtChannel) (r : SpdmReq),
    s.channelUp ch = true →
    r.malformed = false →
    Gives (.getVersion ch r) s ((s.putSpdm ch { version := true }).spdmSay ch 0x04)) ∧
  (∀ (s : State) (ch : MgmtChannel) (r : SpdmReq),
    s.channelUp ch = true →
    r.malformed = false →
    (s.spdm ch).version = true →
    Gives (.getCapabilities ch r) s ((s.putSpdm ch { s.spdm ch with capabilities := true }).spdmSay ch 0x61)) ∧
  (∀ (s : State) (ch : MgmtChannel) (r : SpdmReq),
    s.channelUp ch = true →
    r.malformed = false →
    (s.spdm ch).capabilities = true →
    Gives (.negotiateAlgorithms ch r) s ((s.putSpdm ch { s.spdm ch with algorithms := [1, 2, 3, 4].all r.algorithms.contains }).spdmSay ch 0x63)) ∧
  (∀ (s : State) (ch : MgmtChannel) (r : SpdmReq),
    s.channelUp ch = true →
    r.malformed = false →
    (s.spdm ch).algorithms = true →
    Gives (.getDigests ch r) s (s.spdmSay ch 0x01)) ∧
  (∀ (s : State) (ch : MgmtChannel) (r : SpdmReq),
    s.channelUp ch = true →
    r.malformed = false →
    (s.spdm ch).algorithms = true →
    r.slot = 0 →
    Gives (.getCertificate ch r) s (s.spdmSay ch 0x02)) ∧
  (∀ (s : State) (ch : MgmtChannel) (r : SpdmReq),
    s.channelUp ch = true →
    r.malformed = false →
    (s.spdm ch).algorithms = true →
    r.slot = 0 →
    Gives (.challenge ch r) s (s.spdmSay ch 0x03)) ∧
  (∀ (s : State) (ch : MgmtChannel) (r : SpdmReq),
    s.channelUp ch = true →
    r.malformed = false →
    (s.spdm ch).algorithms = true →
    (r.index ≤ 4 ∨ r.index = 0xFF) →
    let blocks := if r.index = 0 then [4] else if r.index = 0xFF then [1, 2, 3, 4].flatMap s.measurement else s.measurement r.index
    Gives (.getMeasurements ch r) s (s.tick.emit (.spdm ch 0x60 (blocks ++ Config.spdmBody 0x60 s.fresh)))) ∧
  (∀ (s : State) (ch : MgmtChannel) (r : SpdmReq),
    s.channelUp ch = true →
    r.malformed = false →
    (s.spdm ch).algorithms = true →
    let x := s.spdm ch
    r.slot = 0 →
    (ch = .i3c ∨ x.sessions.length < 4) →
    ∀ n, ((List.range (x.sessions.length + 1)).map (· + 1)).find? (fun n => !(x.sessions.any (fun y => y.num == n))) = some n →
    Gives (.keyExchange ch r) s ((s.putSpdm ch { x with sessions := x.sessions ++ [{ num := n, established := false, updates := 0 }] }).spdmSay ch 0x64)) ∧
  (∀ (s : State) (ch : MgmtChannel) (r : SpdmReq),
    s.channelUp ch = true →
    r.malformed = false →
    (s.spdm ch).sessions.any (fun y => y.num == r.session && !y.established) = true →
    let x := s.spdm ch
    Gives (.finish ch r) s ((s.putSpdm ch { x with sessions := x.sessions.map (fun y => if y.num = r.session then { y with established := true } else y) }).spdmSay ch 0x65)) ∧
  (∀ (s : State) (ch : MgmtChannel) (r : SpdmReq),
    s.channelUp ch = true →
    r.malformed = false →
    (s.spdm ch).live r.session = true →
    Gives (.heartbeat ch r) s (s.spdmSay ch 0x68)) ∧
  (∀ (s : State) (ch : MgmtChannel) (r : SpdmReq),
    s.channelUp ch = true →
    r.malformed = false →
    (s.spdm ch).live r.session = true →
    let x := s.spdm ch
    Gives (.keyUpdate ch r) s ((s.putSpdm ch { x with sessions := x.sessions.map (fun y => if y.num = r.session then { y with updates := y.updates + 1 } else y) }).spdmSay ch 0x69)) ∧
  (∀ (s : State) (ch : MgmtChannel) (r : SpdmReq),
    s.channelUp ch = true →
    r.malformed = false →
    (s.spdm ch).live r.session = true →
    let x := s.spdm ch
    Gives (.endSession ch r) s ((s.putSpdm ch { x with sessions := x.sessions.filter (fun y => y.num != r.session) }).spdmSay ch 0x6C))

/-- FM API commands and IDE key management act, and a failed integrity check makes a stream insecure (R155, R157, R158).  Each clause concludes
that exec answers a next state, which it names (Gives: exec c s = .next (settle e)), so it states the completion of its constructor:
fmApiCommand, ideKm, prtIdeFail. -/
def Obligations.ManagementCommands : Prop :=
  (∀ (s : State) (ch : MgmtChannel) (command : FmCommand),
    let k := command.kind
    let w := command.writes
    s.channelUp ch = true →
    Gives (.fmApiCommand ch command) s (
      if !s.fmPlace k ∨ !w.all (fmWrites k) then s.emit (.fmApi ch 2 [])
      else if fmQuery k then s.emit (.fmApi ch 0 (s.fmContent k))
      else { s with fab := { s.fab with fold := { s.fab.fold with internal := s.fab.fold.internal ++ [{
        tick := s.now, job := .fm ch k (w.map (fun x => if x.expected = 0xFFFFFFFF then { x with expected := s.version (key x.index x.sub) } else x)) }] } } })) ∧
  (∀ (s : State) (p : Nat) (session : Nat) (go : Bool) (half : IdeHalf) (inSequence : Bool),
    let stream := half.stream
    let tx := half.tx
    p < 64 →
    (s.role p = 1 ∨ s.role p = 2) →
    s.linkUp p = true →
    inSequence = true →
    stream ≤ 1 →
    (stream = 1 → s.rd (K.PRT_IDE_MODE p) ≠ 0) →
    (s.role p = 2 ∨ (s.spdm (.vdm p)).live session = true) →
    (go = true → s.ideState p stream tx = 1) →
    let s1 := if s.ideStream p stream = 3 then s.putIde p stream (!tx) 0 else s
    Gives (.ideKm p session go half inSequence) s ((s1.putIde p stream tx (if go then 2 else 1)).emit (.ideKm p 0))) ∧
  (∀ (s : State) (p : Nat) (stream : Nat),
    p < 64 →
    stream ≤ 1 →
    s.ideState p stream false = 2 →
    Gives (.prtIdeFail p stream) s (((s.putIde p stream false 3).bump (K.PRT_VIOLATIONS p)).raiseGraveD F.PRT_IDE_FAIL (elemPort p) (s.rd (K.PRT_LINK_STATE p)) 0 0))

/-- The commands of PF_VFC_CMD freeze, save, restore and resume a function (R393, R394, R397).  Each clause concludes that exec answers a next
state, which it names (Gives: exec c s = .next (settle e)), so it states the completion of its constructor: freeze, freezeDone, save,
saveDone, restore, restoreDone, resume. -/
def Obligations.VfMigrationCommands : Prop :=
  (∀ (s : State) (p : Nat) (i : Nat),
    ∀ v, s.entryVf p i = some v →
    (s.vf v).state = 1 →
    Gives (.freeze p i) s ((s.cicRaise (0x300 + v)).onVf v (fun x => { x with state := 2 }))) ∧
  (∀ (s : State) (p : Nat) (i : Nat),
    ∀ v, s.poolVf p i = some v →
    let x := s.vf v
    x.state = 2 →
    x.running.isEmpty = true →
    x.descs.any (fun d => !d.here) = false →
    s.funcWrites (.vf p i) = false →
    Gives (.freezeDone p i) s (s.vfcEnd v 3 1)) ∧
  (∀ (s : State) (p : Nat) (i : Nat),
    ∀ v, s.entryVf p i = some v →
    (s.vf v).state = 3 →
    let s1 := s.cicRaise (0x300 + v)
    let x := s1.vf v
    let b := s1.vfImage p i v
    b.length ≤ x.imageLen →
    s1.linkUp p = true →
    s1.tfbDenied (s1.tfbWho v) p x.imageAddr b.length permWrite = none →
    Gives (.save p i) s ((s1.onVf v (fun x => { x with state := 4 })).hostSend (.vf p i) (.hostWrite p (s1.routingId (.vf p i)) x.imageAddr b))) ∧
  (∀ (s : State) (p : Nat) (i : Nat) (status : Nat),
    ∀ v, s.poolVf p i = some v →
    (s.vf v).state = 4 →
    s.funcWrites (.vf p i) = false →
    Gives (.saveDone p i status) s (s.vfcEnd v 3 (if status = 0 then 1 else 4))) ∧
  (∀ (s : State) (p : Nat) (i : Nat),
    ∀ v, s.entryVf p i = some v →
    (s.vf v).state = 1 →
    s.vfFold v ≠ 0 →
    (s.vf v).inflight = 0 →
    (s.vf v).sqs.all (fun q => !q.enable) = true →
    (s.vf v).cqs.all (fun q => !q.enable) = true →
    let s1 := s.cicRaise (0x300 + v)
    let x := s1.vf v
    s1.linkUp p = true →
    s1.tfbDenied (s1.tfbWho v) p x.imageAddr (max 1 x.imageLen) permRead = none →
    s1.noTracker false = false →
    Gives (.restore p i) s ((s1.onVf v (fun x => { x with state := 5 })).hostFetch (.vf p i) v none x.imageAddr x.imageLen)) ∧
  (∀ (s : State) (p : Nat) (i : Nat) (status : Nat) (b : List Byte),
    ∀ v, s.poolVf p i = some v →
    ∀ t u, s.fetchTracker (.vf p i) true = some (t, u) →
    let s1 := s.releaseTracker t
    (s1.vf v).state = 5 →
    Gives (.restoreDone p i status b) s (
      if status ≠ 0 then s1.vfcEnd v 1 4
      else if s1.imageValid p v b then (s1.imageLoad v b).vfcEnd v 3 1
      else s1.vfcEnd v 1 3)) ∧
  (∀ (s : State) (p : Nat) (i : Nat),
    ∀ v, s.entryVf p i = some v →
    (s.vf v).state = 3 →
    Gives (.resume p i) s (((((s.cicRaise (0x300 + v)).onVf v (fun x => { x with descs := x.descs.map (fun d => { d with carried := true }) })).vfcEnd v 1 1).sendPending (.vf p i))))

/-- Rebinding changes the owner and ends, and a dirty bitmap is harvested (R399, R404, R405).  Each clause concludes that exec answers a next
state, which it names (Gives: exec c s = .next (settle e)), so it states the completion of its constructor: rebindOwnerChange,
rebindRelease, harvestStart, harvestStop, harvestDone. -/
def Obligations.RebindAndHarvestCommands : Prop :=
  (∀ (s : State),
    let l := wireWrites s.rbWrites
    s.rbActive = true →
    s.rbPhase = 2 →
    s.mig.phaseAt < s.now * 1000 →
    Gives (.rebindOwnerChange) s (
      if s.writesBlocked l then s.rebindDefer else
      let s0 : State := { s with mig := { s.mig with internal := true } }
      let s1 := forEach s.rbWrites (fun s e => (s.wr e.1 e.2).bumpVersion e.1) s0
      if !s.rbSourcesFrozen ∨ !(commitRules s0 s1 (l.map (·.1))).all (·.holds) then s.rbFail 2 else
      let s2 := (State.internalApply s0 s1 true l).rbSources
      State.setPhase { s2 with mig := { s2.mig with internal := false } } 3)) ∧
  (∀ (s : State),
    let k := K.FLD_FLAGS s.rbFold
    let v := putBit (s.rd k) 2 false
    let l := wireWrites [(k, v)]
    s.rbActive = true →
    s.rbPhase = 4 →
    s.mig.phaseAt ≤ s.now * 1000 →
    Gives (.rebindRelease) s (
      if s.writesBlocked l then s.rebindDefer
      else (State.internalApply s ((s.wr k v).bumpVersion k) true l).rbDone)) ∧
  (∀ (s : State) (session : Nat),
    let f := s.rd K.MIG_HV_FOLD
    let o := s.rd K.MIG_HV_OFFSET
    let n := s.rd K.MIG_HV_LENGTH
    s.mig.harvest = none →
    s.foldInUse f = true →
    f ≠ 0 →
    o % 64 = 0 →
    n % 64 = 0 →
    n ≠ 0 →
    o + n ≤ s.bitmapSize f →
    s.rd K.MIG_HV_ADDR % 64 = 0 →
    s.pfExists s.hvPort = true →
    s.zeroingWaits f = false →
    let h : Harvest := { fold := f, port := s.hvPort, addr := s.rd K.MIG_HV_ADDR, offset := o, len := n, since := s.clk.dtc }
    s.mayWrite session K.MIG_HV_CTRL (wire K.MIG_HV_CTRL 1) →
    Gives (.harvestStart session) s (s.written session K.MIG_HV_CTRL (wire K.MIG_HV_CTRL 1) (((({ s with mig := { s.mig with harvest := some h } } : State).wr K.MIG_HV_STATE (1 * 2 ^ 30)).wr K.MIG_HV_PAGES 0).wr K.MIG_HV_BYTES 0))) ∧
  (∀ (s : State) (n : Nat),
    s.mayWrite n K.MIG_HV_CTRL (wire K.MIG_HV_CTRL 2) →
    Gives (.harvestStop n) s (
      s.written n K.MIG_HV_CTRL (wire K.MIG_HV_CTRL 2) (match s.mig.harvest with
      | none => s
      | some h => s.tick.hvCopy h (s.hvReached h + 1) 2 0))) ∧
  (∀ (s : State) (status : Nat),
    ∀ h, s.mig.harvest = some h →
    Gives (.harvestDone status) s (if status = 0 then s.hvCopy h (h.len / 64) 2 0 else s.tick.hvCopy h (s.hvReached h) 3 (status % 256)))

/-- PCIe and CXL links come up, go down, recover, sleep and turn off as the manual says (R36, R100, R145, R160, R162, R205, R386).  Each clause
concludes that exec answers a next state, which it names (Gives: exec c s = .next (settle e)), so it states the completion of its
constructor: linkUp, linkDown, dpcRelease, pmeTurnOff, pmeToAck, pmeToAckTimeout, powerControllerControl, prtController, aspmL1Entry,
l1ExitComplete, updateFc. -/
def Obligations.LinkCommands : Prop :=
  (∀ (s : State) (p : Nat) (i : LinkInfo),
    p < 64 →
    Gives (.linkUp p i) s (
      if s.linkUp p ∧ (s.role p = 1 ∨ s.role p = 2) then s.retrainNarrow p i else
      if 64 ≤ p ∨ ¬(s.role p = 1 ∨ s.role p = 2) ∨ s.linkUp p ∨ s.trainingBarred p ∨ bit (s.rd (K.PRT_LINK_STATE p)) 2
          ∨ bit (s.rd (K.PRT_LINK_STATE p)) 1 ∨ s.rd (K.PRT_MAX_RATE p) < i.rate ∨ 4 * (s.portQuads p).length < i.width then s else
      let cxl := i.cxl && bit (s.rd (K.PRT_CXL_ENABLE p)) 0 && cxlRate i.flit256 i.rate (s.rd (K.PRT_CXL_ENABLE p))
      let w := 1 + 16 * b2n cxl + 32 * b2n (cxl && i.flit256) + 64 * b2n i.reversed
        + 256 * i.rate + 4096 * log2w i.width + 65536 * 0x13
      let s1 := (s.wr (K.PRT_LINK_STATE p) (w % 2 ^ 24)).putPort p { s.port p with
        lds := i.lds, cxl := cxl, credits := [], flit := i.flit || 6 ≤ i.rate || (cxl && i.flit256), linkFeature := i.linkFeature
        cacheDevice := i.cacheDevice, sris := s.sris p, subVendor := s.rd K.CRF_SUBSYS_VENDOR_ID, subId := s.rd K.CRF_SUBSYS_ID }
      let s2 : State := { s1 with
        fab := { s1.fab with loom := { s1.fab.loom with allotted := Sparse.insert p (s1.reserveCommitted p) s1.fab.loom.allotted } } }
      let s3 := when (s2.role p == 2 && decide (16 < i.lds)) (fun s => (s.bump (K.PRT_VIOLATIONS p)).raiseD F.PRT_LD_RANGE (elemPort p)
        (s.rd (K.PRT_LINK_STATE p)) 0 0) s2
      let s4 := (((s3.advertise p).loomSync.setQuadRate p i.rate).setCdr p i.width).rxTrained p |>.cicRaise (0x40 + p)
      let s5 := when (i.ide && s4.role p == 2) (·.ideStart p i.doe) s4
      when i.sscPresent (·.spreadFound (p / 4)) (s5.equalise p i.rate i.eq))) ∧
  (∀ (s : State) (p : Nat) (fatal : Bool),
    p < 64 →
    (fatal && !(s.role p == 2 && s.rd (K.PRT_DPC_ENABLE p) == 1)) = false →
    s.role p ≠ 3 →
    s.linkUp p = true →
    Gives (.linkDown p fatal) s (when (s.role p == 2) (·.aerLog p 5 []) ((s.portDown p).triggerDpc p))) ∧
  (∀ (s : State) (p : Nat),
    p < 64 →
    bit (s.rd (K.PRT_LINK_STATE p)) 2 = true →
    ¬((s.boundTo p).isNone ∧ s.clk.dtc < (s.port p).downAt + 10000) →
    Gives (.dpcRelease p) s (((s.wrBit (K.PRT_LINK_STATE p) 2 false).setLtssm p 0x00).startTraining p)) ∧
  (∀ (s : State) (p : Nat),
    p < 64 →
    s.pfExists p = true →
    s.linkUp p = true →
    Gives (.pmeTurnOff p) s ((s.putPort p { s.port p with pmeSince := some s.clk.dtc }).pmeSettle p)) ∧
  (∀ (s : State) (p : Nat),
    p < 64 →
    (s.port p).pmeSince.isSome = true →
    Gives (.pmeToAck p) s (when (s.linkUp p) (·.setLtssm p 0x16) (s.pmeDone p))) ∧
  (∀ (s : State) (p : Nat),
    p < 64 →
    ∀ t, (s.port p).pmeSince = some t →
    t + 10000000 ≤ s.clk.dtc →
    Gives (.pmeToAckTimeout p) s (s.pmeDone p)) ∧
  (∀ (s : State) (p : Nat) (on : Bool),
    p < 64 →
    let n := s.rd (K.PRT_SLOT p)
    s.role p = 2 →
    n < 16 →
    (s.boundTo p).isNone = false →
    Gives (.powerControllerControl p on) s (
      { s with fab := { s.fab with fold := { s.fab.fold with internal := s.fab.fold.internal ++
      [{ job := .slot n on, tick := s.now, version := s.version (K.HRD_SLOT_ENABLE n) }] } } })) ∧
  (∀ (s : State) (p : Nat),
    p < 64 →
    Gives (.prtController p) s (s.raise F.PRT_CONTROLLER (elemPort p))) ∧
  (∀ (s : State) (p : Nat),
    p < 64 →
    s.role p ≠ 0 →
    s.role p ≠ 3 →
    s.linkUp p = true →
    bits (s.rd (K.PRT_LINK_STATE p)) 23 16 = 0x13 →
    Gives (.aspmL1Entry p) s (s.setLtssm p 0x15)) ∧
  (∀ (s : State) (p : Nat),
    p < 64 →
    s.inL1 p = true →
    let mine := s.tfb.asleep.filter (fun e => e.1 == p)
    let s1 : State := { s with
      tfb := { s.tfb with asleep := s.tfb.asleep.filter (fun e => e.1 != p) }
      fab := { s.fab with trackers := s.fab.trackers.map (fun t =>
        if t.isFunc ∧ t.egress = p ∧ t.sentAt.isNone then { t with sentAt := some s.clk.dtc } else t) } }
    Gives (.l1ExitComplete p) s (forEach mine (fun s e => s.emit e.2.2) (s1.setLtssm p 0x13))) ∧
  (∀ (s : State) (p : Nat) (ch : Nat) (hdr : Nat) (data : Nat),
    p < 64 →
    s.role p ≠ 3 →
    s.linkUp p = true →
    let x := s.port p
    let c := Sparse.get (fun _ => (0, 0)) x.credits ch
    Gives (.updateFc p ch hdr data) s (s.putPort p { x with credits := Sparse.set (fun _ => (0, 0)) x.credits ch (c.1 + hdr, c.2 + data) }))

/-- Responses, CXL.io TLPs, CXL.cache messages, tracker timeouts, decoders and debug accesses act on the ports (R20, R150, R159, R226, R232,
R261).  Each clause concludes that exec answers a next state, which it names (Gives: exec c s = .next (settle e)), so it states the
completion of its constructor: trackerTimeout, portResponse, cxlIoTlp, hdmDecoderCommit, cxlCacheMessage, debugMasterAccess. -/
def Obligations.PortTransactionCommands : Prop :=
  (∀ (s : State) (p : Nat) (tag : Nat),
    p < 64 →
    ∀ t, s.tracker tag = some t →
    ∀ at_, t.sentAt = some at_ →
    t.egress = p →
    ¬(s.role p = 3 ∧ !t.stale) →
    at_ + s.rd (K.PRT_TRACKER_TIMEOUT p) ≤ s.clk.dtc →
    let s1 := s.bump (K.PRT_TRACKER_TIMEOUTS p)
    let s2 := when (t.writes && t.op != .atomic && t.op != .io) (·.bump (K.PRT_POSTED_DROPPED p)) s1
    let s3 := match t.origin with
      | .func _ _ | .ats _ _ => s2.aerFunc p 10 14 []
      | _ => s2
    Gives (.trackerTimeout p tag) s (s3.completeError t 7)) ∧
  (∀ (s : State) (p : Nat) (r : PortResp),
    p < 64 →
    s.role p ≠ 3 →
    s.linkUp p = true →
    s.insecure p = false →
    Gives (.portResponse p r) s (s.answered p r.tag r.ok r.poisoned r.lengthOk r.data [])) ∧
  (∀ (s : State) (p : Nat) (t : Tlp),
    p < 64 →
    Gives (.cxlIoTlp p t) s (
      if s.role p ≠ 1 ∨ !s.linkUp p ∨ s.insecure p ∨ t.flaw != .none then s.ioTlp p t else
      match t.kind with
      | .cfgRd f r =>
        if f = .device then s.ioTlp p t
        else if s.funcThere p f then (s.count 0x2003 p).emit (.ioCompletion p t.tag 0 (leBytes 4 (s.cfgRead p f r)))
        else (s.count 0x2003 p).ioRefused p t
      | .cfgWr f r v =>
        if f = .device then s.ioTlp p t
        else if s.funcThere p f then ((s.count 0x2003 p).cfgWrite p f r v).emit (.ioCompletion p t.tag 0 [])
        else (s.count 0x2003 p).ioRefused p t
      | .barRd f off => match tenantOf p f with
        | some g => if s.funcThere p f then (s.count 0x2003 p).barReadTlp p t g off else (s.count 0x2003 p).ioRefused p t
        | none => (s.count 0x2003 p).ioRefused p t
      | _ => s.ioTlp p t)) ∧
  (∀ (s : State) (p : Nat) (n : Nat) (d : HdmDecoder),
    p < 64 →
    s.pfExists p = true →
    s.linkUp p = true →
    (s.port p).cxl = true →
    n < 8 →
    d.size ≠ 0 →
    d.size % 2 ^ 28 = 0 →
    d.base % 2 ^ 28 = 0 →
    [1, 2, 4, 8].contains d.ways = true →
    [256, 512, 1024, 2048, 4096, 8192, 16384].contains d.granularity = true →
    d.position < d.ways →
    Gives (.hdmDecoderCommit p n d) s (s.putPort p { s.port p with hdm := Sparse.insert n d (s.port p).hdm })) ∧
  (∀ (s : State) (p : Nat) (message : CacheMsg),
    let vppb := message.vppb
    let payload := message.payload
    p < 64 →
    s.role p ≠ 0 →
    s.role p ≠ 3 →
    s.linkUp p = true →
    s.insecure p = false →
    let q := if s.role p = 2 then ((s.boundTo p).map (·.1)).getD 64 else if 2 ≤ vppb ∧ vppb ≤ 7 then s.rd (K.PRT_VPPB_BIND p (vppb - 2)) else 64
    let device := if s.role p = 2 then p else q
    q < 64 →
    (s.port device).cacheDevice = true →
    bit (s.rd (K.PRT_CXL_ENABLE p)) 2 = true →
    s.linkUp q = true →
    s.insecure q = false →
    Gives (.cxlCacheMessage p message) s (s.emit (.ioTlp q { kind := .message, address := 0, length := payload.length, tag := 0, header := [], payload := payload, flaw := .none, ld := 0 }))) ∧
  (∀ (s : State) (write : Bool) (target : Nat) (a : Nat) (len : Nat) (data : List Byte),
    let n := if write then data.length else len
    let who : Initiator := { debug := true, device := s.device }
    let need := if write then permWrite else permRead
    n ≠ 0 →
    s.inPinfold = false →
    s.rd K.HRD_PADS_HELD = 0 →
    s.gtpDenied who target a n need = none →
    Gives (.debugMasterAccess write target a len data) s (
      forEach (debugPieces write (n / 64 + 2) a n) (fun s e =>
        if s.noTracker false then s else
        let at_ := e.1 / 64 * 64
        let lines := 64 * ceilDiv (e.1 % 64 + e.2) 64
        let part := write && e.2 % 64 != 0
        let be := (2 ^ e.2 - 1) * 2 ^ (e.1 % 64)
        s.submit { tag := 0, origin := .debug (e.1 % 64) e.2, op := if !write then .read else if part then .partialWrite else .write, target := target
                   addr := if write then e.1 else at_, len := if write then e.2 else lines, data := if write then slice data (e.1 - a) e.2 else []
                   be := if part then be else 2 ^ 64 - 1, who := who, need := need, kind := if part then 3 else if write then 2 else 1
                   wire := if !write then 0x401 else if part then 0x403 else 0x402
                   extension := if !write then lines else if part then be else 0, coherent := true, shared := s.sharedAt target e.1 } false) s)) ∧
  (∀ (s : State) (write : Bool) (target : Nat) (a : Nat) (len : Nat) (data : List Byte),
    let n := if write then data.length else len
    let who : Initiator := { debug := true, device := s.device }
    let need := if write then permWrite else permRead
    let kind := if !write then 1 else if a % 64 = 0 ∧ n % 64 = 0 then 2 else 3
    n ≠ 0 →
    s.inPinfold = false →
    s.rd K.HRD_PADS_HELD = 0 →
    ∀ d, s.gtpDenied who target a n need = some d →
    Gives (.debugMasterAccess write target a len data) s ((s.gtpViolation who target a n kind need false d).emit (.debugData [] true)))

/-- Hosts answer and release dynamic capacity, and devices add and remove it (R153, R154, R238).  Each clause concludes that exec answers a next
state, which it names (Gives: exec c s = .next (settle e)), so it states the completion of its constructor: addCapacityResponse,
prtDcResponse, releaseDynamicCapacity, clearEventRecords, deviceDcAdd, deviceForcedRemoval. -/
def Obligations.DynamicCapacityCommands : Prop :=
  (∀ (s : State) (p : Nat) (accepted : List Nat),
    p < 64 →
    s.role p = 1 →
    let x := s.port p
    let offered := x.log.filter (fun r => r.kind == 0 && !r.answered)
    let bad := (accepted.filter (fun e => !(offered.any (fun r => r.extent == e)))).length + (accepted.length - accepted.eraseDups.length)
    let s1 := s.putPort p { x with log := (x.log.filter (fun r => !r.cleared)).map (fun r =>
      if r.kind = 0 ∧ !r.answered then { r with answered := true, accepted := accepted.contains r.extent } else r) }
    let s2 := forEach (List.range bad) (fun s _ => s.portViolation p F.PRT_DC_RESPONSE [])
      (forEach (offered.filter (fun r => !accepted.contains r.extent)) (fun s r => s.emit (.fmReport p r.extent)) s1)
    Gives (.addCapacityResponse p accepted) s ((s2.emit (.dcReply p (if bad = 0 then 0 else 1))).cicRaise (0x40 + p))) ∧
  (∀ (s : State) (p : Nat) (e : Nat),
    p < 64 →
    let x := s.port p
    let due := fun (r : DcRecord) => r.kind == 0 && !r.answered && !r.late && r.extent == e
      && decide (max r.at_ s.boot.upTick + s.rd (K.PRT_DC_RESPONSE_TIMEOUT p) ≤ s.clk.dtc)
    x.log.any due = true →
    Gives (.prtDcResponse p e) s ((s.putPort p { x with log := x.log.map (fun r => if due r then { r with late := true } else r) }).raise F.PRT_DC_RESPONSE (elemPort p))) ∧
  (∀ (s : State) (p : Nat) (e : Nat),
    e < 131072 →
    p < 64 →
    s.role p = 1 →
    let x := s.extent e
    x.fold ≠ 0 →
    s.rd (K.FLD_OWNER_PORT x.fold) = p →
    s.releaseAnswered e = false →
    let asked := s.fab.fold.posted.contains e || s.fab.fold.asked.any (fun a => a.1 == e)
    let s1 : State := { s with fab := { s.fab with fold := { s.fab.fold with
      asked := s.fab.fold.asked.filter (fun a => a.1 != e), posted := s.fab.fold.posted.filter (· != e)
      internal := s.fab.fold.internal ++ [{ job := .release e x.fold p asked, tick := s.now, version := s.version (K.FLD_EXTENT_ENTRY e) }] } } }
    Gives (.releaseDynamicCapacity p e) s ((s1.cicRaise 0x115).releaseSync)) ∧
  (∀ (s : State) (p : Nat) (handles : List Nat),
    p < 64 →
    let x := s.port p
    Gives (.clearEventRecords p handles) s (
      s.putPort p { x with log := (x.log.filter (fun r => !handles.contains r.handle || (r.kind == 0 && !r.answered))).map (fun r =>
      if handles.contains r.handle then { r with cleared := true } else r) })) ∧
  (∀ (s : State) (p : Nat) (ld : Nat) (base : Nat) (size : Nat),
    p < 64 →
    s.role p = 2 →
    s.linkUp p = true →
    ld < 16 →
    let x := s.port p
    let c := (ld, base, size, true)
    Gives (.deviceDcAdd p ld base size) s (((s.putPort p { x with capacity := x.capacity.filter (· != c) ++ [c] }).capacitySync p).emit (.dcAccept p ld base size))) ∧
  (∀ (s : State) (p : Nat) (ld : Nat) (base : Nat) (size : Nat),
    p < 64 →
    s.role p = 2 →
    let x := s.port p
    Gives (.deviceForcedRemoval p ld base size) s (s.putPort p { x with capacity := x.capacity.filter (fun c => !(c.1 == ld && c.2.1 == base)) ++ [(ld, base, size, false)] } |>.capacitySync p))

/-- The brake, hot regions, temperatures, supplies and the power reading act on the governor (R37, R446, R471, R472, R473, R475, R476).  Each
clause concludes that exec answers a next state, which it names (Gives: exec c s = .next (settle e)), so it states the completion of its
constructor: pwrBrakeN, pwrBrakeRelease, hrdRegion, regionThrottleRelease, hrdThermal, budgetStepdown, thermalRelease, hrdThermalCritical,
hrdRefclkLoss, hrdSupply, pmbusPoll, governorBaseUpdate. -/
def Obligations.ThrottleCommands : Prop :=
  (∀ (s : State),
    let s0 : State := { s with gov := { s.gov with brake := true, brakeLifted := false } }
    let s1 := forEach ((List.range 16).reverse) (fun s c =>
      if s.held ≤ s.brakeRoom then s else s.withdrawSteps c (min (s.granted c) (s.held - s.brakeRoom))) s0
    let s2 := if s1.held ≤ s1.brakeRoom ∨ s1.granted 80 = 0 then s1
      else
        let s3 : State := s1.setGrant 80 0
        { s3 with gov := { s3.gov with scrubHold := true } }
    Gives (.pwrBrakeN) s s2.govSync.scrubBraked) ∧
  (∀ (s : State),
    s.gov.brake = true →
    Gives (.pwrBrakeRelease) s ({ s with gov := { s.gov with brakeLifted := true } })) ∧
  (∀ (s : State) (r : RegionSample),
    regionOver r = true →
    r.region ≠ 0 →
    r.region ≤ 12 →
    s.gov.throttled.contains (r.region, r.quantity) = false →
    Gives (.hrdRegion r) s (
      ({ s with gov := { s.gov with throttled := (r.region, r.quantity) :: s.gov.throttled } }.wrBit K.HRD_THROTTLE_STATE
      (3 + r.region) true).raise F.HRD_REGION (elemSub r.region))) ∧
  (∀ (s : State) (region : Nat),
    region ≠ 0 →
    region ≤ 12 →
    Gives (.regionThrottleRelease region) s (
      { s with gov := { s.gov with throttled := s.gov.throttled.filter (fun e => e.1 != region) } }.wrBit K.HRD_THROTTLE_STATE
      (3 + region) false)) ∧
  (∀ (s : State) (sensor : Nat) (temp : Int),
    sensor < 32 →
    bit s.boot.sensorsOut sensor = false →
    let s1 := s.wr (K.HRD_TEMP sensor) (ofInt 32 temp)
    let s2 := if s.throttleAt ≤ temp ∧ !s.gov.thermal then
        ({ s1 with gov := { s1.gov with thermal := true } }.wrBit K.HRD_THROTTLE_STATE 0 true |>.cicRaise 7).raise F.HRD_THERMAL elemDevice
      else s1
    Gives (.hrdThermal sensor temp) s (if s.throttleAt + 50 ≤ temp then s2.wrBit K.HRD_THROTTLE_STATE 1 true else s2)) ∧
  (∀ (s : State) (temp : Int),
    s.gov.thermal = true →
    s.throttleAt - 50 < temp →
    Gives (.budgetStepdown temp) s (
      { s with gov := { s.gov with
          stepDown := min (s.gov.stepDown + 64) (s.rd K.HRD_GOV_BUDGET - s.rd K.HRD_GOV_FLOOR) } })) ∧
  (∀ (s : State) (temp : Int),
    s.gov.thermal = true →
    temp ≤ s.throttleAt - 50 →
    let s1 : State := { s with gov := { s.gov with thermal := false } }
    Gives (.thermalRelease temp) s (s1.wrBit K.HRD_THROTTLE_STATE 1 false)) ∧
  (∀ (s : State) (sensor : Nat) (temp : Int),
    1150 ≤ temp →
    sensor < 32 →
    bit s.boot.sensorsOut sensor = false →
    Gives (.hrdThermalCritical sensor temp) s ((s.wr (K.HRD_TEMP sensor) (ofInt 32 temp)).raise F.HRD_THERMAL_CRITICAL elemDevice)) ∧
  (∀ (s : State),
    s.boot.refclkEn = true →
    s.boot.step ≠ .reset →
    s.boot.step ≠ .strapped →
    Gives (.hrdRefclkLoss) s (s.raise F.HRD_REFCLK_LOSS elemDevice)) ∧
  (∀ (s : State) (rail : Nat),
    rail < 3 →
    bit s.boot.vrEn rail = true →
    bit s.boot.vrPg rail = true →
    Gives (.hrdSupply rail) s (State.raise { s with boot := { s.boot with vrPg := putBit s.boot.vrPg rail false } } F.HRD_SUPPLY elemDevice)) ∧
  (∀ (s : State) (powers : List (Option Nat)),
    let named := (List.range 3).filter (fun j => s.rd (K.HRD_PMBUS_ADDR j) != 0)
    let got := named.map (fun j => powers.getD j none)
    let p := if named.isEmpty ∨ got.any (·.isNone) then none else some (got.foldl (fun n o => n + o.getD 0) 0)
    Gives (.pmbusPoll powers) s ({ s with gov := { s.gov with pout := p } })) ∧
  (∀ (s : State),
    Gives (.governorBaseUpdate) s (
      match s.gov.pout with
      | none => s.wr K.HRD_GOV_BASE (s.rd K.HRD_GOV_BASE_DEFAULT)
      | some p => s.wr K.HRD_GOV_BASE (ceilDiv p 250 + s.rd K.HRD_GOV_UNMETERED - s.held)))

/-- Fallow, wintering and waking act as the manual says (R478, R479, R480, R481, R482).  Each clause concludes that exec answers a next state,
which it names (Gives: exec c s = .next (settle e)), so it states the completion of its constructor: fallowRequest, fallowGate, fallowWake,
winteringRequest, wakeTimer, wakeEvent, wakeRetry, wakeComplete, hrdPadRelease. -/
def Obligations.SleepCommands : Prop :=
  (∀ (s : State) (n : Nat),
    s.mayWrite n K.HRD_PSTATE_REQUEST (wire K.HRD_PSTATE_REQUEST 2) →
    Gives (.fallowRequest n) s (s.written n K.HRD_PSTATE_REQUEST (wire K.HRD_PSTATE_REQUEST 2) ({ s with pwr := { s.pwr with mode := 2, fallowAsked := true } }))) ∧
  (∀ (s : State) (r : Nat),
    r < 19 →
    s.isReady = true →
    s.pwr.fallowAsked = true →
    bit (s.rd K.HRD_FALLOW_SET) r = true →
    bit (s.rd K.HRD_FALLOWED) r = false →
    s.fallowReady r = true →
    Gives (.fallowGate r) s ((s.wrBit K.HRD_FALLOWED r true).fallowSync)) ∧
  (∀ (s : State) (r : Nat),
    r < 19 →
    bit (s.rd K.HRD_FALLOWED) r = true →
    (!bit (s.rd K.HRD_FALLOW_SET) r ∨ s.fallowNeed = some r ∨ (16 ≤ r ∧ !(s.cicRequests (r - 15)).isEmpty)) →
    Gives (.fallowWake r) s ((s.wrBit K.HRD_FALLOWED r false).fallowSync)) ∧
  (∀ (s : State) (n : Nat),
    s.winterOk = true →
    let s1 : State := { s with
      boot := { s.boot with sysReady := false, lanesIdle := true, vrEn := 0, vrPg := 0, refclkEn := s.rd K.HRD_P3_REFCLK_OFF == 0 }
      clk := { s.clk with running := false, bothy := s.clk.dtc }
      pwr := { s.pwr with mode := 3, sleep := .asleep, attempt := 0, sleepFrom := boundaryAfter s.clk.dtc, warmAfter := false, sleepSeq := s.mram.lastSeq } }
    s.mayWrite n K.HRD_PSTATE_REQUEST (wire K.HRD_PSTATE_REQUEST 3) →
    Gives (.winteringRequest n) s (s.written n K.HRD_PSTATE_REQUEST (wire K.HRD_PSTATE_REQUEST 3) (((s1.selfRefresh true).wr K.HRD_PADS_HELD 1).wr K.HRD_PSTATE 3))) ∧
  (∀ (s : State),
    let cause := 3
    s.pwr.sleep = .asleep →
    s.wakeSource cause = true →
    Gives (.wakeTimer) s ((State.wakeRails { s with pwr := { s.pwr with attempt := 1 } }).wr K.HRD_WAKE_CAUSE cause)) ∧
  (∀ (s : State) (cause : Nat),
    s.pwr.sleep = .asleep →
    s.wakeSource cause = true →
    Gives (.wakeEvent cause) s ((State.wakeRails { s with pwr := { s.pwr with attempt := 1 } }).wr K.HRD_WAKE_CAUSE cause)) ∧
  (∀ (s : State),
    let booting := s.boot.step == .strapped || s.boot.step == .clocked || s.boot.step == .pllSupply || s.boot.step == .coreSupply
      || ((s.boot.step == .phaseA || s.boot.step == .uartRecovery) && !bit s.boot.vrPg 1)
    ¬(s.pwr.sleep ≠ .waking ∧ !booting) →
    let n := max 1 s.pwr.attempt
    Gives (.wakeRetry) s (
      if 3 ≤ n then
        let s1 := s.railsDown
        State.raise { s1 with pwr := {} } F.HRD_WAKE_FAIL elemDevice
      else
        let s1 := (s.railsDown.bump K.HRD_WAKE_RETRIES)
        let s2 : State := { s1 with pwr := { s1.pwr with attempt := n + 1 } }
        if booting then State.bootAgain s2 else s2.wakeRails)) ∧
  (∀ (s : State),
    s.pwr.sleep = .waking →
    s.boot.boundary < s.now →
    Gives (.wakeComplete) s (s.wakeComplete.heldMessages hooks)) ∧
  (∀ (s : State) (n : Nat) (value : Nat),
    carried K.HRD_PAD_RELEASE value = 1 →
    s.mayWrite n K.HRD_PAD_RELEASE (wire K.HRD_PAD_RELEASE value) →
    Gives (.hrdPadRelease n value) s (s.written n K.HRD_PAD_RELEASE (wire K.HRD_PAD_RELEASE value) (s.padRelease)))

/-- Slot channels ask for their grant, ramp, turn on, trip and turn off as the manual says (R487, R488, R489, R490, R491, R492, R494, R496,
R497, R498).  Each clause concludes that exec answers a next state, which it names (Gives: exec c s = .next (settle e)), so it states the
completion of its constructor: slotGrantRequest, slotGrant, slotOn, powerGoodAssert, powerGoodRelease, currentLimit, faultTimerExpiry,
shortCircuit, fetOvertemp, thermistorOutOfRange, rampTimeout, hrdSlotFet, pwrfailAssert, pwrfailRelease, slotGateOff, faultTimerStop. -/
def Obligations.SlotCommands : Prop :=
  (∀ (s : State) (n : Nat),
    n < 16 →
    s.slotCode n = 1 →
    (s.chan n).asked = false →
    bit (s.rd (K.HRD_SLOT_STATE n)) 5 = false →
    Gives (.slotGrantRequest n) s ((s.putChan n { s.chan n with asked := true }).govRequest (82 + n) (s.rd K.HRD_SLOT_GRANT))) ∧
  (∀ (s : State) (n : Nat),
    n < 16 →
    s.slotCode n = 1 →
    s.granted (82 + n) ≠ 0 →
    let s1 := (s.setSlotCode n 2).wrBit (K.HRD_SLOT_STATE n) 8 true
    let s2 : State := { s1 with gov := { s1.gov with answers := s1.gov.answers.filter (fun a => a.requester != 82 + n) } }
    Gives (.slotGrant n) s ((s2.putChan n { s2.chan n with asked := false, rampAt := s2.clk.dtc, timerEnd := s2.clk.dtc }).emit (.slotPin n 0 true))) ∧
  (∀ (s : State) (n : Nat) (vout : Nat) (vin : Nat),
    n < 16 →
    s.slotCode n = 2 →
    vin ≤ vout + 200 →
    Gives (.slotOn n vout vin) s (((s.setSlotCode n 3).wr (K.HRD_SLOT_VOUT n) (vout % 65536)).wr (K.HRD_SLOT_VIN n) (vin % 65536))) ∧
  (∀ (s : State) (n : Nat),
    n < 16 →
    let c := s.chan n
    s.slotLive n = true →
    bit (s.rd (K.HRD_SLOT_STATE n)) 4 = false →
    bit (s.rd (K.HRD_SLOT_STATE n)) 7 = false →
    c.timerEnd + 1000000 ≤ s.clk.dtc →
    Gives (.powerGoodAssert n) s (((s.wrBit (K.HRD_SLOT_STATE n) 4 true).emit (.slotPin n 1 true)).slotRelease n)) ∧
  (∀ (s : State) (n : Nat) (vout : Nat),
    n < 16 →
    vout < 10800 →
    bit (s.rd (K.HRD_SLOT_STATE n)) 7 = false →
    bit (s.rd (K.HRD_SLOT_STATE n)) 4 = true →
    Gives (.powerGoodRelease n vout) s ((s.wr (K.HRD_SLOT_VOUT n) vout).slotPgOff n)) ∧
  (∀ (s : State) (n : Nat) (current : Nat),
    n < 16 →
    s.slotLive n = true →
    s.rd (K.HRD_SLOT_ILIMIT n) ≤ current →
    bit (s.rd (K.HRD_SLOT_STATE n)) 7 = false →
    Gives (.currentLimit n current) s (((s.wr (K.HRD_SLOT_CURRENT n) (sat 16 current)).wrBits (K.HRD_SLOT_STATE n) 7 6 3).putChan n { s.chan n with timerAt := s.clk.dtc })) ∧
  (∀ (s : State) (n : Nat),
    n < 16 →
    s.slotLive n = true →
    bit (s.rd (K.HRD_SLOT_STATE n)) 7 = true →
    (s.chan n).timerAt + s.rd (K.HRD_SLOT_FAULT_TIME n) ≤ s.clk.dtc →
    Gives (.faultTimerExpiry n) s (s.slotTrip n 1)) ∧
  (∀ (s : State) (n : Nat) (sense : Nat),
    n < 16 →
    s.slotLive n = true →
    4 * s.rd (K.HRD_SLOT_ILIMIT n) ≤ sense →
    Gives (.shortCircuit n sense) s (s.slotTrip n 2)) ∧
  (∀ (s : State) (n : Nat) (modelled : Int) (therm : Int),
    n < 16 →
    let on := s.rd (K.HRD_SLOT_THERM_ENABLE n) = 1 ∧ therm = 1500
    s.slotLive n = true →
    ¬(modelled < 1500 ∧ ¬on) →
    Gives (.fetOvertemp n modelled therm) s (
      ((s.wr (K.HRD_SLOT_FET_TEMP n) (ofInt 32 modelled)).wr (K.HRD_SLOT_THERM_TEMP n)
      (if s.rd (K.HRD_SLOT_THERM_ENABLE n) = 1 then ofInt 32 therm else 0)).slotTrip n 3)) ∧
  (∀ (s : State) (n : Nat) (reading : Int),
    n < 16 →
    s.rd (K.HRD_SLOT_THERM_ENABLE n) = 1 →
    ¬(-400 ≤ reading ∧ reading ≤ 1500) →
    Gives (.thermistorOutOfRange n reading) s ((s.wr (K.HRD_SLOT_THERM_TEMP n) (ofInt 32 reading)).slotIrq n)) ∧
  (∀ (s : State) (n : Nat),
    n < 16 →
    let limit := 24000 * 1000000 / max 1 (s.rd (K.HRD_SLOT_DVDT n)) + s.rd (K.HRD_SLOT_FAULT_TIME n)
    s.slotCode n = 2 →
    bit (s.rd (K.HRD_SLOT_STATE n)) 4 = false →
    (s.chan n).rampAt + limit ≤ s.clk.dtc →
    Gives (.rampTimeout n) s (s.slotTrip n 4)) ∧
  (∀ (s : State) (n : Nat) (vout : Nat) (held : Nat),
    n < 16 →
    s.slotLive n = false →
    1000 < vout →
    5000000 < held →
    (s.chan n).offAt + s.rd (K.HRD_SLOT_FET_BLANK n) ≤ s.clk.dtc →
    Gives (.hrdSlotFet n vout held) s ((s.wr (K.HRD_SLOT_VOUT n) (vout % 65536)).slotTrip n 5)) ∧
  (∀ (s : State) (n : Nat) (vin : Nat),
    n < 16 →
    vin < 10500 →
    bit (s.rd (K.HRD_SLOT_STATE n)) 5 = false →
    Gives (.pwrfailAssert n vin) s ((((s.wr (K.HRD_SLOT_VIN n) vin).wrBit (K.HRD_SLOT_STATE n) 5 true).emit (.slotPin n 2 false)).slotIrq n)) ∧
  (∀ (s : State) (n : Nat) (vin : Nat),
    n < 16 →
    10700 < vin →
    bit (s.rd (K.HRD_SLOT_STATE n)) 5 = true →
    Gives (.pwrfailRelease n vin) s (((s.wr (K.HRD_SLOT_VIN n) (vin % 65536)).wrBit (K.HRD_SLOT_STATE n) 5 false).emit (.slotPin n 2 true))) ∧
  (∀ (s : State) (n : Nat),
    n < 16 →
    ∀ t, (s.chan n).stopAt = some t →
    s.slotCode n = 4 →
    t + 100000 ≤ s.clk.dtc →
    Gives (.slotGateOff n) s ((s.slotGate n).setSlotCode n 0)) ∧
  (∀ (s : State) (n : Nat),
    n < 16 →
    bit (s.rd (K.HRD_SLOT_STATE n)) 7 = true →
    Gives (.faultTimerStop n) s ((s.wrBits (K.HRD_SLOT_STATE n) 7 6 0).putChan n { s.chan n with timerEnd := s.clk.dtc }))

/-- Hosts write doorbells, queue controls, error bits and causes of a function (R366, R367, R372, R373, R380, R383).  Each clause concludes that
exec answers a next state, which it names (Gives: exec c s = .next (settle e)), so it states the completion of its constructor: vfSqTail,
vfCqHead, sqEnable, sqDisable, cqEnable, cqDisable, vfErr, pfIntCause, pfVfEvent, msixUnmask. -/
def Obligations.QueueRegisterCommands : Prop :=
  (∀ (s : State) (p : Nat) (i : Nat) (q : Nat) (value : Nat),
    ∀ v, s.poolVf p i = some v →
    q < 4 →
    s.vfBells v = true →
    let t := value % 65536
    let sq := (s.vf v).sqs.getD q {}
    let n := queueEntries sq.size
    sq.enable = true →
    t < n →
    (t + n - sq.tail) % n + (sq.tail + n - sq.head) % n < n →
    Gives (.vfSqTail p i q value) s (s.onVf v (fun x => { x with sqs := x.sqs.set q { sq with tail := t } }))) ∧
  (∀ (s : State) (p : Nat) (i : Nat) (q : Nat) (value : Nat),
    ∀ v, s.poolVf p i = some v →
    q < 4 →
    s.vfBells v = true →
    let h := value % 65536
    let c := (s.vf v).cqs.getD q {}
    let n := queueEntries c.size
    c.enable = true →
    h < n →
    (h + n - c.head) % n ≤ (c.tail + n - c.head) % n →
    Gives (.vfCqHead p i q value) s (s.onVf v (fun x => { x with cqs := x.cqs.set q { c with head := h } }))) ∧
  (∀ (s : State) (p : Nat) (i : Nat) (q : Nat),
    ∀ v, s.poolVf p i = some v →
    q < 4 →
    s.vfOpen v = true →
    s.flt.isolated.contains (elemVf v) = false →
    let x := s.vf v
    let sq := x.sqs.getD q {}
    (sq.enable = false ∨ sq.stopped = true) →
    sq.err = false →
    s.sqActive v q = false →
    (x.cqs.getD (bits sq.size 9 8) {}).enable = true →
    Gives (.sqEnable p i q) s (s.putVf v { x with sqs := x.sqs.set q { sq with enable := true, stopped := false, head := 0, tail := 0, bad := false } })) ∧
  (∀ (s : State) (p : Nat) (i : Nat) (q : Nat),
    ∀ v, s.poolVf p i = some v →
    q < 4 →
    s.vfOpen v = true →
    let s1 := s.onVf v (fun x => { x with sqs := x.sqs.set q { x.sqs.getD q {} with enable := false } })
    Gives (.sqDisable p i q) s ((s1.onVf v (fun x => { x with descs := x.descs.map (fun d => if (d.sq == q) = true then { d with aborted := true } else d) })).abortHeads v)) ∧
  (∀ (s : State) (p : Nat) (i : Nat) (q : Nat) (value : Nat),
    ∀ v, s.poolVf p i = some v →
    q < 4 →
    s.vfOpen v = true →
    s.flt.isolated.contains (elemVf v) = false →
    let w := putBit value 0 true
    let x := s.vf v
    let c := x.cqs.getD q {}
    let irq := bit w 1
    let c1 : CplQ := { c with irq := irq, vector := bits w 6 4, u := if irq then c.u else 0, timer := if irq then c.timer else none }
    let c2 : CplQ := if (c.enable && !c.stopped) ∨ c.err then c1
      else { c1 with enable := true, stopped := false, tail := 0, head := 0, phase := true }
    Gives (.cqEnable p i q value) s (s.putVf v { x with cqs := x.cqs.set q c2 })) ∧
  (∀ (s : State) (p : Nat) (i : Nat) (q : Nat) (value : Nat),
    ∀ v, s.poolVf p i = some v →
    q < 4 →
    s.vfOpen v = true →
    let w := putBit value 0 false
    let x := s.vf v
    let c := x.cqs.getD q {}
    let irq := bit w 1
    let c1 : CplQ := { c with irq := irq, vector := bits w 6 4, u := if irq then c.u else 0, timer := if irq then c.timer else none }
    let named := x.sqs.any (fun sq => sq.enable && bits sq.size 9 8 == q)
    Gives (.cqDisable p i q value) s (s.putVf v { x with cqs := x.cqs.set q (if named then c1 else { c1 with enable := false }) })) ∧
  (∀ (s : State) (p : Nat) (i : Nat) (value : Nat),
    ∀ v, s.poolVf p i = some v →
    s.vfOpen v = true →
    Gives (.vfErr p i value) s (
      s.onVf v (fun x => { x with
        sqs := (List.range 4).map (fun q => let sq := x.sqs.getD q {}; if bit value (4 + q) then { sq with err := false } else sq)
        cqs := (List.range 4).map (fun q => let c := x.cqs.getD q {}; if bit value q then { c with err := false } else c) }))) ∧
  (∀ (s : State) (p : Nat) (value : Nat),
    s.pfExists p = true →
    Gives (.pfIntCause p value) s (s.putPf p { s.pf p with intCause := (s.pf p).intCause - (s.pf p).intCause.land (value % 16) })) ∧
  (∀ (s : State) (p : Nat) (off : Nat) (size : Nat) (value : Nat),
    0x100 ≤ off →
    off < 0x120 →
    Gives (.pfVfEvent p off size value) s (s.barWrite mbxGo (.pf p) off size value)) ∧
  (∀ (s : State) (f : Func) (n : Nat),
    s.hasFunc f = true →
    n < (funcVectors f) →
    let t := s.msixTable f
    Gives (.msixUnmask f n) s ((s.onFcfg f (fun c => { c with table := patch t (16 * n + 12) [BitVec.ofNat 8 (putBit (field t (16 * n + 12) 1) 0 false)] })).sendPending f))

/-- Descriptors are fetched, executed and completed (R375, R376, R377, R378, R380, R382, R383, R391).  Each clause concludes that exec answers a
next state, which it names (Gives: exec c s = .next (settle e)), so it states the completion of its constructor: descriptorFetch,
descriptorFetched, nop, run, fence, tfbCplWrite, cqModTimer, tfbQueueEcc. -/
def Obligations.DescriptorCommands : Prop :=
  (∀ (s : State),
    s.awaiting < 16384 →
    s.noTracker false = false →
    ∀ v, s.turn s.tfb.fetchPtr (fun v => s.vfFetches v && (List.range 4).any (fun q => (s.vf v).sqFetches q)) = some v →
    Gives (.descriptorFetch) s s.descriptorFetch) ∧
  (∀ (s0 : State) (v : Nat) (status : Nat) (bytes : List Byte),
    Gives (.descriptorFetched v status bytes) s0 (s0.descriptorFetched v status bytes)) ∧
  (∀ (s : State) (v : Nat) (q : Nat),
    v < 1024 →
    q < 4 →
    s.vfDispatches v = true →
    ∀ d, s.headDesc v q = some d →
    field d.bytes 0 1 = 0 →
    (s.descFault v d.bytes).isSome = false →
    Gives (.nop v q) s (s.descEnd v d 0 0)) ∧
  (∀ (s : State) (v : Nat) (q : Nat),
    v < 1024 →
    q < 4 →
    s.vfDispatches v = true →
    ∀ d, s.headDesc v q = some d →
    field d.bytes 0 1 = 6 →
    (s.descFault v d.bytes).isSome = false →
    Gives (.run v q) s (
      if (s.runSlot v d.bytes).isNone then s.descEnd v d 0x13 0
      else match s.placeFor v d.bytes with
        | some w => s.dispatchDesc v d w
        | none => s)) ∧
  (∀ (s : State) (v : Nat) (q : Nat),
    v < 1024 →
    q < 4 →
    s.vfDispatches v = true →
    ∀ d, s.headDesc v q = some d →
    field d.bytes 0 1 = 7 →
    (s.descFault v d.bytes).isSome = false →
    (s.vf v).running.any (fun r => r.2 == q) = false →
    let bad := ((s.vf v).sqs.getD q {}).bad
    Gives (.fence v q) s ((s.descEnd v d 0 (b2n bad)).onVf v (fun x => { x with sqs := x.sqs.set q { x.sqs.getD q {} with bad := false } }))) ∧
  (∀ (s : State) (v : Nat) (q : Nat),
    v < 1024 →
    q < 4 →
    ((s.vf v).cqs.getD q {}).enable = true →
    Gives (.tfbCplWrite v q) s (s.cplFail v q)) ∧
  (∀ (s : State) (v : Nat) (q : Nat),
    v < 1024 →
    q < 4 →
    ((s.vf v).cqs.getD q {}).timer = some 0 →
    Gives (.cqModTimer v q) s (s.cqSignal v q)) ∧
  (∀ (s : State) (v : Nat) (k : EccKind),
    v < 1024 →
    Gives (.tfbQueueEcc v k) s (
      match k with
      | .corrected => s.raise F.TFB_QUEUE_ECC (elemVf v)
      | .uncorrectable =>
        let s1 := s.abortDescs v (fun _ => true)
        let s2 := forEach (List.range 4) (fun s q => if ((s.vf v).sqs.getD q {}).enable then s.queueStop v q true 6 else s) s1
        let s3 := forEach (List.range 4) (fun s q => if ((s.vf v).cqs.getD q {}).enable then s.queueStop v q false 6 else s) s2
        s3.raiseGrave F.TFB_QUEUE_ECC (elemVf v)))

/-- Functions are enabled, reset, put to sleep and configured, and translations are answered and invalidated (R362, R365, R376, R385, R387,
R389).  Each clause concludes that exec answers a next state, which it names (Gives: exec c s = .next (settle e)), so it states the
completion of its constructor: vfEnable, majorSelect, initiateFlr, flrComplete, d3hotEntry, d0Return, translationCompletion,
invalidateRequest, configurationWrite. -/
def Obligations.FunctionCommands : Prop :=
  (∀ (s : State) (p : Nat) (on : Bool),
    s.pfExists p = true →
    let x := s.pf p
    Gives (.vfEnable p on) s (
      if on then
        if x.vfEnable then s
        else if x.numVfs = 0 ∨ s.rd (K.TFB_PF_TOTAL_VFS p) < x.numVfs then s.bump K.TFB_BAR_ERRORS
        else forEach (List.range x.numVfs) (fun s i =>
          let v := s.rd (K.TFB_PF_VF_BASE p) + i
          if (s.vf v).state = 0 then s.onVf v (fun y => { y with state := 1 }) else s) (s.putPf p { x with vfEnable := true })
      else forEach (s.funcs p) (fun s f => match f with
        | .pf _ => s
        | .vf p i => match s.poolVf p i with
          | some v => s.vfReset v
          | none => s) (s.putPf p { x with vfEnable := false }))) ∧
  (∀ (s : State) (p : Nat) (value : Nat),
    let m := value % 256
    s.pfExists p = true →
    (s.pf p).vfEnable = false →
    m ≤ 3 →
    Gives (.majorSelect p value) s (s.putPf p { s.pf p with majorSelect := m })) ∧
  (∀ (s : State) (f : Func),
    s.hasFunc f = true →
    Gives (.initiateFlr f) s (
      match f with
      | .pf p => s.pfReset p
      | .vf p i => match s.poolVf p i with
        | some v => s.vfReset v
        | none => s)) ∧
  (∀ (s : State) (v : Nat),
    let x := s.vf v
    let left := s.vfTrackers v
    x.state = 6 →
    (!left.isEmpty && s.clk.dtc < x.resetAt + 100000) = false →
    let s1 := if left.isEmpty then s else
      (forEach left (fun s t => s.putTracker { t with origin := .own, who := { t.who with vf := none } }) (s.add K.TFB_FLR_DETACHED left.length)).raise
        F.TFB_FLR_DETACHED (elemVf v)
    let s2 := forEach ((s1.drv.threads.filter (fun e => e.2.busy && e.2.vf == v)).map (·.1)) (fun s u => s.endThread u 0xC0000001 0) s1
    let on := match s2.vfFunc v with
      | some (p, i) => (s2.pf p).vfEnable && decide (i ≤ (s2.pf p).numVfs)
      | none => false
    let s3 := (s2.putVf v { state := b2n on, result := x.result }).bump K.TFB_FLRS
    let s4 := match s3.vfFunc v with
      | some (p, i) =>
        let s4 := forEach x.later (fun s c => s.cfgApply (.vf p i) c) s3
        match x.laterD3 with
        | some d => s4.setD3 (.vf p i) d
        | none => s4
      | none => s3
    Gives (.flrComplete v) s ((s4.vfEvent v).cicRaise (0x300 + v))) ∧
  (∀ (s : State) (f : Func),
    s.hasFunc f = true →
    let on := true
    Gives (.d3hotEntry f) s (if s.resetting f then s.defer f (fun x => { x with laterD3 := some on }) else s.setD3 f on)) ∧
  (∀ (s : State) (f : Func),
    s.hasFunc f = true →
    let on := false
    Gives (.d0Return f) s (if s.resetting f then s.defer f (fun x => { x with laterD3 := some on }) else s.setD3 f on)) ∧
  (∀ (s : State) (f : Func) (a : Nat) (t : Nat) (granted : Bool),
    s.atsTracker f (a / s.atsUnit f) = none →
    Gives (.translationCompletion f a t granted) s (s.lateResponse (funcPort f) [])) ∧
  (∀ (s : State) (f : Func) (a : Nat) (t : Nat) (granted : Bool),
    let page := a / s.atsUnit f
    ∀ k, s.atsTracker f page = some k →
    (s.releaseTracker k).tfb.waits.any (fun w => w.f == f && w.addr / s.atsUnit f == page) = false →
    Gives (.translationCompletion f a t granted) s (s.releaseTracker k)) ∧
  (∀ (s : State) (f : Func) (a : Nat) (t : Nat) (granted : Bool),
    let page := a / s.atsUnit f
    ∀ k, s.atsTracker f page = some k →
    (s.releaseTracker k).tfb.waits.any (fun w => w.f == f && w.addr / s.atsUnit f == page) = true →
    granted = false →
    Gives (.translationCompletion f a t granted) s ((s.releaseTracker k).atsFails f page)) ∧
  (∀ (s : State) (f : Func) (a : Nat) (t : Nat) (granted : Bool),
    let u := s.atsUnit f
    let page := a / u
    let here := fun (w : AtsWait) => w.f == f && w.addr / u == page
    ∀ k, s.atsTracker f page = some k →
    let s1 := s.releaseTracker k
    s1.tfb.waits.any here = true →
    granted = true →
    let kept := s1.tfb.atc.filter (fun e => !(e.1 == f && e.2.1 == page))
    let mine := s1.tfb.waits.filter (fun w => here w && !w.posted)
    let left := s1.tfb.waits.filter (fun w => !(here w && !w.posted))
    let s2 : State := { s1 with tfb := { s1.tfb with
      atc := (if 4096 ≤ kept.length then kept.drop 1 else kept) ++ [(f, page, t / u)], waits := left } }
    let s3 := forEach mine (fun s w =>
      let b := t / u * u + w.addr % u
      if w.kind = 0 then s.hostFetch f (match f with
        | .vf p i => (s.poolVf p i).getD 0
        | .pf _ => 0) (some w.a) b 64
      else s.atsEngine w b) s2
    let s4 := iter (State.atsNext f) s3.tfb.waits.length s3
    Gives (.translationCompletion f a t granted) s (
      match s4.tfb.waits.find? (fun w => w.f == f && w.posted) with
      | some w => if s4.tfb.waits.any (fun x => x.f == f && x != w && x.addr / u == w.addr / u) then s4 else s4.atsSend f (w.addr / u)
      | none => s4)) ∧
  (∀ (s : State) (f : Func) (a : Nat) (size : Nat),
    s.hasFunc f = true →
    let u := s.atsUnit f
    let hit := fun (e : Func × Nat × Nat) => e.1 == f && a / u ≤ e.2.1 && e.2.1 * u < a + max 1 size
    let pages := (s.tfb.atc.filter hit).map (·.2.2)
    Gives (.invalidateRequest f a size) s (State.invalidateSync { s with tfb := { s.tfb with atc := s.tfb.atc.filter (fun e => !hit e), inval := s.tfb.inval ++ [(f, a, pages)] } })) ∧
  (∀ (s : State) (f : Func) (c : CfgChange),
    s.hasFunc f = true →
    Gives (.configurationWrite f c) s (if s.resetting f then s.defer f (fun x => { x with later := x.later ++ [c] }) else s.cfgApply f c))

/-- Tick boundaries, overruns, lanes, samples, Tally blocks, histograms and bucket errors act on Paddock (R29, R31, R311, R314, R316, R320,
R323).  Each clause concludes that exec answers a next state, which it names (Gives: exec c s = .next (settle e)), so it states the
completion of its constructor: tickBoundary, tickJobOverrun, laneEvaluate, qsampleCapture, tallyBlock, pdkHistClear, pdkBucketEcc,
pdkMeterEcc. -/
def Obligations.TickCommands : Prop :=
  (∀ (s : State),
    s.clk.running = true →
    Gives (.tickBoundary) s (State.tickJobs { s with clk := { s.clk with dtc := boundaryAfter s.clk.dtc, frac := 0 } })) ∧
  (∀ (s : State) (job : Nat) (late : Nat),
    job ≠ 0 →
    job ≤ 6 →
    s.ticking = true →
    let s1 : State := if job = 2 then s else { s with clk := { s.clk with overruns := job :: s.clk.overruns.filter (· != job) } }
    Gives (.tickJobOverrun job late) s (
      if job = 1 ∨ job = 4 then s1.pdkOverrun job late
      else if job = 3 ∨ job = 6 then s1.raiseD F.HRD_TICK_OVERRUN (elemSub 12) job late 0
      else s1.raiseD F.CRF_TICK_OVERRUN (elemSub 11) job late 0)) ∧
  (∀ (s : State) (g : Nat),
    g < 81 →
    let ptr := Sparse.get (fun _ => 0) s.fab.pdk.foldPtr g
    let folds := (sortBy (fun f => (f + 1024 - ptr) % 1024) (s.lanesAt g)).filter (fun f => (s.nextLane g f).isSome)
    Gives (.laneEvaluate g) s (
      forEach folds (fun s f =>
      let s1 := (s.putDeficit g f (s.deficit g f + 256 * s.rd (K.PDK_WEIGHT f))).count 0x7002 g
      let s2 := iter (State.foldTurn g f) s1.fab.loom.msgs.length s1
      let s3 : State := { s2 with fab := { s2.fab with pdk := { s2.fab.pdk with foldPtr := Sparse.set (fun _ => 0) s2.fab.pdk.foldPtr g ((f + 1) % 1024) } } }
      if (s3.nextLane g f).isSome then s3 else s3.putDeficit g f 0) s)) ∧
  (∀ (s : State) (overrun : Bool),
    let told := s.clk.overruns.contains 4
    let s1 : State := { s with clk := { s.clk with overruns := s.clk.overruns.filter (· != 4) } }
    let s2 := s1.qsample (overrun || told)
    Gives (.qsampleCapture overrun) s (if overrun && !told && s2.fab.pdk.captures != s.fab.pdk.captures then (s2.pdkOverrun 4 (Config.overrunNs s2.fresh)).tick else s2)) ∧
  (∀ (s : State),
    s.ticking = true →
    s.tallyDue = true →
    s.fab.pdk.startAt < s.now * 1000 →
    s.isReady = true →
    let w := s.rd K.PDK_TALLY_WRITE
    let slots := s.rd K.PDK_TALLY_SLOTS
    Gives (.tallyBlock) s (
      if ringFull slots w (s.rd K.PDK_TALLY_READ) then
        let s1 : State := { s with fab := { s.fab with pdk := { s.fab.pdk with merged := s.fab.pdk.merged + 1 } } }
        ((s1.bump K.PDK_TALLY_MERGED).raise F.PDK_TALLY_FULL (elemSub 7)).cicRaise 0x134
      else
        let s1 := (s.cmnWrite (s.carveAt 5 + 65536 * w) s.tallyBytes allBytes).2
        let s2 := ((s1.wr K.PDK_TALLY_WRITE ((w + 1) % slots)).bump K.PDK_TALLY_SEQUENCE).cicRaise 0x133
        State.tallyStart (s.now * 1000) { s2 with fab := { s2.fab with pdk := { s2.fab.pdk with firstBlock := false } } })) ∧
  (∀ (s : State) (n : Nat) (value : Nat),
    let x := carried K.PDK_HIST_CLEAR value
    x ≤ 1023 →
    s.mayWrite n K.PDK_HIST_CLEAR (wire K.PDK_HIST_CLEAR value) →
    Gives (.pdkHistClear n value) s (s.written n K.PDK_HIST_CLEAR (wire K.PDK_HIST_CLEAR value) (forEach (List.range 16) (fun s k => s.wr (K.PDK_HIST_BIN x k) 0) s))) ∧
  (∀ (s : State) (n : Nat) (value : Nat),
    carried K.PDK_HIST_CLEAR value = 0xFFFF →
    s.mayWrite n K.PDK_HIST_CLEAR (wire K.PDK_HIST_CLEAR value) →
    Gives (.pdkHistClear n value) s (
      s.written n K.PDK_HIST_CLEAR (wire K.PDK_HIST_CLEAR value) ({ s with dict := { s.dict with nums := s.dict.nums.filter (fun e =>
        !(0x6000 ≤ keyIdx e.1 && keyIdx e.1 < 0x6400 && 0x14 ≤ keySub e.1 && keySub e.1 ≤ 0x23)) } }))) ∧
  (∀ (s : State) (f : Nat) (b : Nat) (k : EccKind),
    f < 1024 →
    b < 6 →
    ¬(4 ≤ b ∧ 64 ≤ f) →
    let n := if b < 4 then foldBucket f b else portBucket f (b - 4)
    let e := if b < 4 then elem 6 f else elemPort f
    Gives (.pdkBucketEcc f b k) s (
      match k with
      | .corrected => (s.raiseD F.PDK_BUCKET_ECC e b 0 0).cicRaise 0x135
      | .uncorrectable =>
        (when ((s.bucketRate n).1 != 0) (fun s => s.putBucket n 0 s.fab.pdk.stamp) (s.raiseGraveD F.PDK_BUCKET_ECC e b 0 0)).cicRaise 0x135)) ∧
  (∀ (s : State) (f : Nat) (n : Nat) (k : EccKind) (both : Bool),
    f < 1024 →
    n < 7 →
    Gives (.pdkMeterEcc f n k both) s (
      match k, both with
      | .uncorrectable, true =>
        let m := s.meter f
        let p := Sparse.get (fun _ => {}) s.fab.pdk.snaps f
        let m1 : Meter := match n with
          | 0 => { m with readBytes := p.readBytes }
          | 1 => { m with writeBytes := p.writeBytes }
          | 2 => { m with requests := p.requests }
          | 3 => { m with engineNs := p.engineNs }
          | 4 => { m with capacity := p.capacity }
          | 5 => { m with shapingNs := p.shapingNs }
          | _ => { m with violations := p.violations }
        let s1 := s.putMeter f m1
        let s2 : State := { s1 with fab := { s1.fab with pdk := { s1.fab.pdk with restored := f :: s1.fab.pdk.restored.filter (· != f) } } }
        (s2.raiseGraveD F.PDK_METER_ECC (elem 6 f) n 0 0).cicRaise 0x136
      | _, _ => (s.raiseD F.PDK_METER_ECC (elem 6 f) n 0 0).cicRaise 0x136))

/-- Flits, acknowledgements, credits, training messages and retraining act on a Twill link (R175, R177, R178, R179, R188, R190, R191).  Each
clause concludes that exec answers a next state, which it names (Gives: exec c s = .next (settle e)), so it states the completion of its
constructor: dataFlit, ctrlFlit, ack, credit, config, initMsg, eq, retrain. -/
def Obligations.TwillFlitCommands : Prop :=
  (∀ (s : State) (p : Nat) (f : List Byte),
    s.isTwill p = true →
    s.linkUp p = true →
    Gives (.dataFlit p f) s (s.dataFlitRx p f)) ∧
  (∀ (s : State) (p : Nat) (f : List Byte),
    s.isTwill p = true →
    s.twillState p ≠ 0 →
    Gives (.ctrlFlit p f) s (
      match s.flitCheck p f with
      | (none, s1) => s1
      | (some b, s1) =>
        let h := field b 0 4
        if bits h 31 30 = 1 then s1
        else if bits h 31 30 ≠ 0 ∨ bits h 17 10 ≠ 0 ∨ bits h 4 0 ≠ 0 ∨ 29 < bits h 9 5 then (s1.twillViolation p F.TWL_CTRL none).askReplay p
        else
          let s2 := State.ctrlMessages p 29 (slice b 4 (8 * bits h 9 5)) s1
          if s2.linkUp p ∧ bits h 29 18 ≠ (s2.link p).expected then s2.askReplay p else s2)) ∧
  (∀ (s : State) (p : Nat) (nak : Bool) (n : Nat),
    s.isTwill p = true →
    s.linkUp p = true →
    let l := s.link p
    let base := (l.seq + 8192 - l.replay.length - 1) % 4096
    let d := (n + 4096 - base) % 4096
    d ≤ l.replay.length →
    Gives (.ack p nak n) s (
      let s1 := s.putLink p { l with replay := l.replay.drop d, ackedAt := if d = 0 then l.ackedAt else s.clk.dtc }
      if nak ∧ !(s1.link p).replay.isEmpty then s1.replayAll p else s1)) ∧
  (∀ (s : State) (p : Nat) (words : List Nat),
    s.isTwill p = true →
    s.linkUp p = true →
    Gives (.credit p words) s (
      forEach (List.range 8) (fun s c =>
      let l := s.link p
      let w := words.getD c 0
      let one := fun (s : State) (mod r' : Nat) (cs rs : List Nat) =>
        let used := (cs.getD c 0 + mod - rs.getD c 0) % mod
        let f := (r' + mod - rs.getD c 0) % mod
        if f ≤ used then (r', s)
        else (cs.getD c 0, (s.bump (K.TWL_CREDIT_CLAMPS p)).twillViolation p F.TWL_CREDIT_CLAMP none)
      let a := one s 4096 (bits w 15 4) l.consumedH l.returnedH
      let b := one a.2 65536 (bits w 31 16) l.consumedD l.returnedD
      b.2.putLink p { b.2.link p with returnedH := l.returnedH.set c a.1, returnedD := l.returnedD.set c b.1 }) s)) ∧
  (∀ (s : State) (p : Nat) (c : TwillConfig),
    s.isTwill p = true →
    Gives (.config p c) s (s.configRx p c)) ∧
  (∀ (s : State) (p : Nat) (ack : Bool) (hdr : List Nat) (data : List Nat),
    s.isTwill p = true →
    s.twillState p = 5 →
    (List.range 8).any (fun c => decide (hdr.getD c 0 < (creditMin c).1) || decide (data.getD c 0 < (creditMin c).2)) = false →
    Gives (.initMsg p ack hdr data) s (
      let s0 := if (s.link p).initSent then s else s.enterInit p
      let l := s0.link p
      let s1 := s0.putLink p { l with txAdvH := hdr, txAdvD := data, initAck := true }
      let s2 := if l.initAck then s1 else
        s1.sendCtrl p 4 6 ([1] ++ zeros 2 ++ l.rxAdvH.flatMap (leBytes 2) ++ l.rxAdvD.flatMap (leBytes 2))
      if ack then s2.enterActive p else s2)) ∧
  (∀ (s : State) (p : Nat) (lane : Nat) (kind : Nat) (preset : Nat) (coeffs : List Int) (_result : Nat),
    s.isTwill p = true →
    Gives (.eq p lane kind preset coeffs _result) s (s.eqRx p lane kind preset coeffs _result)) ∧
  (∀ (s : State) (p : Nat) (width : Nat) (eq : Bool) (answer : Bool) (device : Nat),
    s.isTwill p = true →
    s.linkUp p = true →
    (s.link p).retrain = none →
    answer = false →
    Gives (.retrain p width eq answer device) s ((s.sendRetrain p width eq true).retrainHold p width eq false)) ∧
  (∀ (s : State) (p : Nat) (width : Nat) (eq : Bool) (answer : Bool) (device : Nat),
    s.isTwill p = true →
    s.linkUp p = true →
    ∀ r, (s.link p).retrain = some r →
    r.answered = false →
    Gives (.retrain p width eq answer device) s (
      if answer then s.retrainHold p (min r.width width) (r.eq || eq) true
      else if s.device < device then
        s.putLink p { s.link p with retrain := some { r with width := min r.width width, eq := r.eq || eq } }
      else (s.sendRetrain p (min r.width width) (r.eq || eq) true).retrainHold p (min r.width width) (r.eq || eq) false))

/-- The timers of a Twill link, its training, its retraining and its trackers act as the manual says (R177, R178, R180, R181, R184, R188, R191).
Each clause concludes that exec answers a next state, which it names (Gives: exec c s = .next (settle e)), so it states the completion of
its constructor: ackTimer, creditTimer, twlReplayTimer, twlLinkDown, trainingTimeout, trainingRestart, twlRetrain, replayBufferEmpty,
retrainHoldTimeout, twlReenable, twlTrackerTimeout. -/
def Obligations.TwillTimerCommands : Prop :=
  (∀ (s : State) (p : Nat),
    s.isTwill p = true →
    s.linkUp p = true →
    (s.link p).unacked ≠ 0 →
    (s.link p).unackedAt + 128 ≤ s.clk.dtc →
    Gives (.ackTimer p) s (s.sendAck p false)) ∧
  (∀ (s : State) (p : Nat),
    s.isTwill p = true →
    s.linkUp p = true →
    let l := s.link p
    let due := match l.creditAt with
      | some a => decide (a + 128 ≤ s.clk.dtc)
      | none => false
    (due || decide (l.creditSent + 1000 ≤ s.clk.dtc)) = true →
    Gives (.creditTimer p) s (s.sendCredit p)) ∧
  (∀ (s : State) (p : Nat),
    s.isTwill p = true →
    s.linkUp p = true →
    (s.link p).replay.isEmpty = false →
    (s.link p).ackedAt + s.rd (K.TWL_REPLAY_TIMER p) ≤ s.clk.dtc →
    Gives (.twlReplayTimer p) s (s.replayAll p)) ∧
  (∀ (s : State) (p : Nat),
    s.isTwill p = true →
    s.linkUp p = true →
    let s1 := ((s.twillDown p).bump (K.TWL_LINKDOWNS p)).raiseD F.TWL_LINK_DOWN (elemPort p) (s.rd (K.TWL_STATE p)) 0 0
    let x := s1.link p
    let downs := s1.clk.dtc :: x.downs.filter (fun t => s1.clk.dtc < t + 60 * 10 ^ 9)
    let s2 := s1.putLink p { x with downs := downs }
    Gives (.twlLinkDown p) s (
      if 3 ≤ downs.length then
        (((s2.putLink p { x with downs := [] }).wrBit (K.TWL_STATE p) 1 true).raise F.TWL_LINK_DISABLED (elemPort p)).cicRaise (0x80 + p)
      else s2.startTraining p)) ∧
  (∀ (s : State) (p : Nat),
    s.isTwill p = true →
    let st := s.twillState p
    st ≠ 0 →
    st < 6 →
    let limit := if st = 1 ∨ st = 3 then 2000000 else if st = 4 then 8000000 else 1000000
    (s.link p).stateAt + limit ≤ s.clk.dtc →
    Gives (.trainingTimeout p) s (
      if st = 4 then
        (match (s.link p).retrain with
          | some _ => (s.reeqDrop p).retrainDone p
          | none => s.enterInit p)
      else s.trainFail p)) ∧
  (∀ (s : State) (p : Nat),
    s.isTwill p = true →
    s.twillState p = 0 →
    ∀ a, (s.link p).restartAt = some a →
    a ≤ s.clk.dtc →
    Gives (.trainingRestart p) s (s.startTraining p)) ∧
  (∀ (s : State) (n : Nat) (port : Nat) (value : Nat),
    port < 64 →
    let r := carried (K.TWL_RETRAIN port) value
    r < 32 →
    (r % 16 = 15 ∨ r % 16 ≤ log2w (4 * (s.portQuads port).length)) →
    s.role port = 3 →
    s.linkUp port = true →
    (s.link port).retrain = none →
    s.mayWrite n (K.TWL_RETRAIN port) (wire (K.TWL_RETRAIN port) value) →
    Gives (.twlRetrain n port value) s (
      s.written n (K.TWL_RETRAIN port) (wire (K.TWL_RETRAIN port) value) ((s.putLink port { s.link port with
        retrain := some { width := s.retrainWidth port (r % 16), eq := bit r 4, own := true, answered := false, since := 0, equalising := false } }).sendRetrain
        port (s.retrainWidth port (r % 16)) (bit r 4) false))) ∧
  (∀ (s : State) (p : Nat),
    s.isTwill p = true →
    (s.link p).replay.isEmpty = true →
    ∀ r, (s.link p).retrain = some r →
    r.answered = true →
    r.equalising = false →
    Gives (.replayBufferEmpty p) s (
      if r.eq then
        let s1 := s.putLink p { s.link p with retrain := some { r with equalising := true }, eqDone := 0, stateAt := s.clk.dtc }
        ((s1.wrBits (K.TWL_STATE p) 7 4 4).switchMarker p).reeqAsk p r.own []
      else s.retrainDone p)) ∧
  (∀ (s : State) (p : Nat),
    s.isTwill p = true →
    ∀ r, (s.link p).retrain = some r →
    r.answered = true →
    r.since + 10000000 < s.clk.dtc →
    Gives (.retrainHoldTimeout p) s (((s.wrBit (K.TWL_STATE p) 3 false).twillDown p).startTraining p)) ∧
  (∀ (s : State) (n : Nat) (port : Nat) (value : Nat),
    port < 64 →
    carried (K.TWL_REENABLE port) value = 1 →
    bit (s.rd (K.TWL_STATE port)) 1 = true →
    s.mayWrite n (K.TWL_REENABLE port) (wire (K.TWL_REENABLE port) value) →
    Gives (.twlReenable n port value) s (s.written n (K.TWL_REENABLE port) (wire (K.TWL_REENABLE port) value) ((s.wrBit (K.TWL_STATE port) 1 false).startTraining port))) ∧
  (∀ (s : State) (device : Nat) (tag : Nat),
    device = s.device →
    ∀ t, s.tracker tag = some t →
    t.egress < 64 →
    s.role t.egress = 3 →
    t.stale = false →
    ∀ a, t.sentAt = some a →
    let hold := ((s.link t.egress).retrain.map (fun r => if r.since = 0 then 0 else s.clk.dtc - r.since)).getD 0
    a + s.rd (K.TWL_TRACKER_TIMEOUT t.egress) + hold ≤ s.clk.dtc →
    Gives (.twlTrackerTimeout device tag) s ((when t.isHostWrite (·.bump (K.PRT_POSTED_DROPPED (t.who.port.getD 0))) s).completeError t 7))

/-- A management, memory, CXL.io or bulk message that a Twill link takes is delivered here or passed on (R172, R173, R185, R336).  Each clause
concludes that exec answers a next state, which it names (Gives: exec c s = .next (settle e)), so it states the completion of its
constructor: mgmtReq, mgmtRsp, cmp, ioCpl, data, ioCpld, memRd, memWr, memWrPartial, atomic, io, bulkRd, bulkWr. -/
def Obligations.TransactionsOverTwill : Prop :=
  (∀ (s : State) (port : Nat) (m : TwillMsg),
    s.takesMsg port (twillRow m 0 0x01) = true →
    Gives (.mgmtReq port m) s (s.receives port (twillRow m 0 0x01))) ∧
  (∀ (s : State) (port : Nat) (m : TwillMsg),
    s.takesMsg port (twillRow m 0 0x02) = true →
    Gives (.mgmtRsp port m) s (s.receives port (twillRow m 0 0x02))) ∧
  (∀ (s : State) (port : Nat) (m : TwillMsg),
    s.takesMsg port (twillRow m 2 0x01) = true →
    Gives (.cmp port m) s (s.receives port (twillRow m 2 0x01))) ∧
  (∀ (s : State) (port : Nat) (m : TwillMsg),
    s.takesMsg port (twillRow m 2 0x02) = true →
    Gives (.ioCpl port m) s (s.receives port (twillRow m 2 0x02))) ∧
  (∀ (s : State) (port : Nat) (m : TwillMsg),
    s.takesMsg port (twillRow m 3 0x01) = true →
    Gives (.data port m) s (s.receives port (twillRow m 3 0x01))) ∧
  (∀ (s : State) (port : Nat) (m : TwillMsg),
    s.takesMsg port (twillRow m 3 0x02) = true →
    Gives (.ioCpld port m) s (s.receives port (twillRow m 3 0x02))) ∧
  (∀ (s : State) (port : Nat) (m : TwillMsg),
    s.takesMsg port (twillRow m 4 0x01) = true →
    Gives (.memRd port m) s (s.receives port (twillRow m 4 0x01))) ∧
  (∀ (s : State) (port : Nat) (m : TwillMsg),
    s.takesMsg port (twillRow m 4 0x02) = true →
    Gives (.memWr port m) s (s.receives port (twillRow m 4 0x02))) ∧
  (∀ (s : State) (port : Nat) (m : TwillMsg),
    s.takesMsg port (twillRow m 4 0x03) = true →
    Gives (.memWrPartial port m) s (s.receives port (twillRow m 4 0x03))) ∧
  (∀ (s : State) (port : Nat) (m : TwillMsg),
    s.takesMsg port (twillRow m 4 0x04) = true →
    Gives (.atomic port m) s (s.receives port (twillRow m 4 0x04))) ∧
  (∀ (s : State) (port : Nat) (m : TwillMsg),
    s.takesMsg port (twillRow m 5 0x01) = true →
    Gives (.io port m) s (s.receives port (twillRow m 5 0x01))) ∧
  (∀ (s : State) (port : Nat) (m : TwillMsg),
    let x := twillRow m (if m.tc = 7 then 7 else 6) 0x01
    s.takesMsg port x = true →
    Gives (.bulkRd port m) s (s.receives port x)) ∧
  (∀ (s : State) (port : Nat) (m : TwillMsg),
    let x := twillRow m (if m.tc = 7 then 7 else 6) 0x02
    s.takesMsg port x = true →
    Gives (.bulkWr port m) s (s.receives port x))
end

