-- ==== Sys2Proof/Laws/Sparse.lean ====
section
/-! SUPPORT. Sparse tables: reading after writing, and the canonical form kept by every operation. -/

namespace Sys2Proof.Machine

variable {α : Type}

theorem Sparse.get_insert (d : Nat → α) (k : Nat) (v : α) (m : List (Nat × α)) (j : Nat) :
    Sparse.get d (Sparse.insert k v m) j = if j = k then v else Sparse.get d m j := by
  induction m with
  | nil => simp only [Sparse.insert, Sparse.get]; split <;> split <;> simp_all
  | cons e r ih =>
    simp only [Sparse.insert]
    split
    · simp only [Sparse.get, ih]; split
      · split
        · omega
        · rfl
      · rfl
    · split <;> grind [Sparse.get]

theorem Sparse.get_erase (d : Nat → α) (k : Nat) (m : List (Nat × α)) (j : Nat) (h : j ≠ k) :
    Sparse.get d (Sparse.erase k m) j = Sparse.get d m j := by
  induction m with
  | nil => rfl
  | cons e r ih =>
    simp only [Sparse.erase] at ih ⊢
    by_cases hk : e.1 = k
    · rw [List.filter_cons_of_neg (by simp [hk]), ih, Sparse.get, if_neg (by omega)]
    · rw [List.filter_cons_of_pos (by simp [hk]), Sparse.get, Sparse.get, ih]

theorem Sparse.get_erase_self (d : Nat → α) (k : Nat) (m : List (Nat × α)) : Sparse.get d (Sparse.erase k m) k = d k := by
  induction m with
  | nil => rfl
  | cons e r ih =>
    simp only [Sparse.erase] at ih ⊢
    by_cases hk : e.1 = k
    · rw [List.filter_cons_of_neg (by simp [hk]), ih]
    · rw [List.filter_cons_of_pos (by simp [hk]), Sparse.get, if_neg hk, ih]

/-- Reading after writing. -/
theorem Sparse.get_set [DecidableEq α] (d : Nat → α) (m : List (Nat × α)) (k : Nat) (v : α) (j : Nat) :
    Sparse.get d (Sparse.set d m k v) j = if j = k then v else Sparse.get d m j := by
  unfold Sparse.set
  split
  · split
    · subst_vars; exact Sparse.get_erase_self d _ m
    · exact Sparse.get_erase d k m j ‹_›
  · exact Sparse.get_insert d k v m j

/-- The canonical form as two facts: the keys rise, and no value is its key's default. -/
theorem Sparse.wf_iff [DecidableEq α] (d : Nat → α) (m : List (Nat × α)) :
    Sparse.wf d m = true ↔ m.Pairwise (fun a b => a.1 < b.1) ∧ ∀ e ∈ m, e.2 ≠ d e.1 := by
  induction m with
  | nil => simp [Sparse.wf]
  | cons e r ih =>
    cases r with
    | nil => simp [Sparse.wf]
    | cons f r =>
      simp only [Sparse.wf, Bool.and_eq_true, Bool.not_eq_true', decide_eq_false_iff_not, decide_eq_true_eq, ih, List.pairwise_cons,
        List.mem_cons, forall_eq_or_imp]
      constructor
      · rintro ⟨⟨h1, h2⟩, ⟨h3, h4⟩, h5, h6⟩
        exact ⟨⟨⟨h2, fun x hx => Nat.lt_trans h2 (h3 x hx)⟩, h3, h4⟩, h1, h5, h6⟩
      · rintro ⟨⟨⟨h1, _⟩, h3, h4⟩, h5, h6, h7⟩
        exact ⟨⟨h5, h1⟩, ⟨h3, h4⟩, h6, h7⟩

theorem Sparse.mem_insert (k : Nat) (v : α) (m : List (Nat × α)) (e : Nat × α) : e ∈ Sparse.insert k v m → e = (k, v) ∨ e ∈ m := by
  induction m with
  | nil => simp [Sparse.insert]
  | cons f r ih =>
    simp only [Sparse.insert]
    split
    · simp only [List.mem_cons]; rintro (h | h)
      · exact .inr (.inl h)
      · exact (ih h).imp id .inr
    · split
      · simp only [List.mem_cons]; rintro (h | h)
        · exact .inl h
        · exact .inr (.inr h)
      · simp only [List.mem_cons]; exact id

theorem Sparse.wf_insert [DecidableEq α] (d : Nat → α) (k : Nat) (v : α) (m : List (Nat × α)) (hv : v ≠ d k) (h : Sparse.wf d m = true) :
    Sparse.wf d (Sparse.insert k v m) = true := by
  rw [Sparse.wf_iff] at h ⊢
  refine ⟨?_, fun e he => ?_⟩
  · obtain ⟨h, -⟩ := h
    induction m with
    | nil => simp [Sparse.insert]
    | cons f r ih =>
      rw [List.pairwise_cons] at h
      simp only [Sparse.insert]
      split
      · refine List.pairwise_cons.2 ⟨fun x hx => ?_, ih h.2⟩
        rcases Sparse.mem_insert k v r x hx with rfl | hx
        · assumption
        · exact h.1 x hx
      · split
        · refine List.pairwise_cons.2 ⟨fun x hx => ?_, h.2⟩
          have := h.1 x hx; simp only; omega
        · refine List.pairwise_cons.2 ⟨fun x hx => ?_, List.pairwise_cons.2 h⟩
          rcases List.mem_cons.1 hx with rfl | hx
          · simp only; omega
          · have := h.1 x hx; simp only; omega
  · rcases Sparse.mem_insert k v m e he with rfl | he
    · exact hv
    · exact h.2 e he

/-- A part of a canonical table is canonical. -/
theorem Sparse.wf_filter [DecidableEq α] (d : Nat → α) (p : Nat × α → Bool) (m : List (Nat × α)) (h : Sparse.wf d m = true) :
    Sparse.wf d (m.filter p) = true := by
  rw [Sparse.wf_iff] at h ⊢
  exact ⟨h.1.sublist List.filter_sublist, fun e he => h.2 e (List.mem_filter.1 he).1⟩

/-- Writing keeps the canonical form. -/
theorem Sparse.wf_set [DecidableEq α] (d : Nat → α) (m : List (Nat × α)) (k : Nat) (v : α) (h : Sparse.wf d m = true) :
    Sparse.wf d (Sparse.set d m k v) = true := by
  unfold Sparse.set
  split
  · exact Sparse.wf_filter d _ m h
  · exact Sparse.wf_insert d k v m ‹_› h

end Sys2Proof.Machine
end

