-- ==== Sys2Proof/Laws/State.lean ====
section
/-! SUPPORT. What the updates of the state leave: one lemma for each field that an update does not write, and what is read after a write. -/

namespace Sys2Proof.Machine

variable (s : State)

/-! ### wr -/

@[simp] theorem State.wr_mram (k v : Nat) : (s.wr k v).mram = s.mram := rfl
@[simp] theorem State.wr_crf (k v : Nat) : (s.wr k v).crf = s.crf := rfl
@[simp] theorem State.wr_boot (k v : Nat) : (s.wr k v).boot = s.boot := rfl
@[simp] theorem State.wr_flt (k v : Nat) : (s.wr k v).flt = s.flt := rfl
@[simp] theorem State.wr_cic (k v : Nat) : (s.wr k v).cic = s.cic := rfl
@[simp] theorem State.wr_tally (k v : Nat) : (s.wr k v).tally = s.tally := rfl
@[simp] theorem State.wr_clk (k v : Nat) : (s.wr k v).clk = s.clk := rfl
@[simp] theorem State.wr_gov (k v : Nat) : (s.wr k v).gov = s.gov := rfl
@[simp] theorem State.wr_pwr (k v : Nat) : (s.wr k v).pwr = s.pwr := rfl
@[simp] theorem State.wr_sel (k v : Nat) : (s.wr k v).sel = s.sel := rfl
@[simp] theorem State.wr_fab (k v : Nat) : (s.wr k v).fab = s.fab := rfl
@[simp] theorem State.wr_blw (k v : Nat) : (s.wr k v).blw = s.blw := rfl
@[simp] theorem State.wr_cmn (k v : Nat) : (s.wr k v).cmn = s.cmn := rfl
@[simp] theorem State.wr_drv (k v : Nat) : (s.wr k v).drv = s.drv := rfl
@[simp] theorem State.wr_tfb (k v : Nat) : (s.wr k v).tfb = s.tfb := rfl
@[simp] theorem State.wr_mig (k v : Nat) : (s.wr k v).mig = s.mig := rfl
@[simp] theorem State.wr_slots (k v : Nat) : (s.wr k v).slots = s.slots := rfl
@[simp] theorem State.wr_pending (k v : Nat) : (s.wr k v).pending = s.pending := rfl
@[simp] theorem State.wr_out (k v : Nat) : (s.wr k v).out = s.out := rfl
@[simp] theorem State.wr_fresh (k v : Nat) : (s.wr k v).fresh = s.fresh := rfl

/-! ### wro -/

@[simp] theorem State.wro_mram (k : Nat) (v : List Byte) : (s.wro k v).mram = s.mram := rfl
@[simp] theorem State.wro_crf (k : Nat) (v : List Byte) : (s.wro k v).crf = s.crf := rfl
@[simp] theorem State.wro_boot (k : Nat) (v : List Byte) : (s.wro k v).boot = s.boot := rfl
@[simp] theorem State.wro_flt (k : Nat) (v : List Byte) : (s.wro k v).flt = s.flt := rfl
@[simp] theorem State.wro_cic (k : Nat) (v : List Byte) : (s.wro k v).cic = s.cic := rfl
@[simp] theorem State.wro_tally (k : Nat) (v : List Byte) : (s.wro k v).tally = s.tally := rfl
@[simp] theorem State.wro_clk (k : Nat) (v : List Byte) : (s.wro k v).clk = s.clk := rfl
@[simp] theorem State.wro_gov (k : Nat) (v : List Byte) : (s.wro k v).gov = s.gov := rfl
@[simp] theorem State.wro_pwr (k : Nat) (v : List Byte) : (s.wro k v).pwr = s.pwr := rfl
@[simp] theorem State.wro_sel (k : Nat) (v : List Byte) : (s.wro k v).sel = s.sel := rfl
@[simp] theorem State.wro_fab (k : Nat) (v : List Byte) : (s.wro k v).fab = s.fab := rfl
@[simp] theorem State.wro_blw (k : Nat) (v : List Byte) : (s.wro k v).blw = s.blw := rfl
@[simp] theorem State.wro_cmn (k : Nat) (v : List Byte) : (s.wro k v).cmn = s.cmn := rfl
@[simp] theorem State.wro_drv (k : Nat) (v : List Byte) : (s.wro k v).drv = s.drv := rfl
@[simp] theorem State.wro_tfb (k : Nat) (v : List Byte) : (s.wro k v).tfb = s.tfb := rfl
@[simp] theorem State.wro_mig (k : Nat) (v : List Byte) : (s.wro k v).mig = s.mig := rfl
@[simp] theorem State.wro_slots (k : Nat) (v : List Byte) : (s.wro k v).slots = s.slots := rfl
@[simp] theorem State.wro_pending (k : Nat) (v : List Byte) : (s.wro k v).pending = s.pending := rfl
@[simp] theorem State.wro_out (k : Nat) (v : List Byte) : (s.wro k v).out = s.out := rfl
@[simp] theorem State.wro_fresh (k : Nat) (v : List Byte) : (s.wro k v).fresh = s.fresh := rfl

/-! ### add -/

@[simp] theorem State.add_mram (k n : Nat) : (s.add k n).mram = s.mram := rfl
@[simp] theorem State.add_crf (k n : Nat) : (s.add k n).crf = s.crf := rfl
@[simp] theorem State.add_boot (k n : Nat) : (s.add k n).boot = s.boot := rfl
@[simp] theorem State.add_flt (k n : Nat) : (s.add k n).flt = s.flt := rfl
@[simp] theorem State.add_cic (k n : Nat) : (s.add k n).cic = s.cic := rfl
@[simp] theorem State.add_tally (k n : Nat) : (s.add k n).tally = s.tally := rfl
@[simp] theorem State.add_clk (k n : Nat) : (s.add k n).clk = s.clk := rfl
@[simp] theorem State.add_gov (k n : Nat) : (s.add k n).gov = s.gov := rfl
@[simp] theorem State.add_pwr (k n : Nat) : (s.add k n).pwr = s.pwr := rfl
@[simp] theorem State.add_sel (k n : Nat) : (s.add k n).sel = s.sel := rfl
@[simp] theorem State.add_fab (k n : Nat) : (s.add k n).fab = s.fab := rfl
@[simp] theorem State.add_blw (k n : Nat) : (s.add k n).blw = s.blw := rfl
@[simp] theorem State.add_cmn (k n : Nat) : (s.add k n).cmn = s.cmn := rfl
@[simp] theorem State.add_drv (k n : Nat) : (s.add k n).drv = s.drv := rfl
@[simp] theorem State.add_tfb (k n : Nat) : (s.add k n).tfb = s.tfb := rfl
@[simp] theorem State.add_mig (k n : Nat) : (s.add k n).mig = s.mig := rfl
@[simp] theorem State.add_slots (k n : Nat) : (s.add k n).slots = s.slots := rfl
@[simp] theorem State.add_pending (k n : Nat) : (s.add k n).pending = s.pending := rfl
@[simp] theorem State.add_out (k n : Nat) : (s.add k n).out = s.out := rfl
@[simp] theorem State.add_fresh (k n : Nat) : (s.add k n).fresh = s.fresh := rfl

/-! ### bump -/

@[simp] theorem State.bump_mram (k : Nat) : (s.bump k).mram = s.mram := rfl
@[simp] theorem State.bump_crf (k : Nat) : (s.bump k).crf = s.crf := rfl
@[simp] theorem State.bump_boot (k : Nat) : (s.bump k).boot = s.boot := rfl
@[simp] theorem State.bump_flt (k : Nat) : (s.bump k).flt = s.flt := rfl
@[simp] theorem State.bump_cic (k : Nat) : (s.bump k).cic = s.cic := rfl
@[simp] theorem State.bump_tally (k : Nat) : (s.bump k).tally = s.tally := rfl
@[simp] theorem State.bump_clk (k : Nat) : (s.bump k).clk = s.clk := rfl
@[simp] theorem State.bump_gov (k : Nat) : (s.bump k).gov = s.gov := rfl
@[simp] theorem State.bump_pwr (k : Nat) : (s.bump k).pwr = s.pwr := rfl
@[simp] theorem State.bump_sel (k : Nat) : (s.bump k).sel = s.sel := rfl
@[simp] theorem State.bump_fab (k : Nat) : (s.bump k).fab = s.fab := rfl
@[simp] theorem State.bump_blw (k : Nat) : (s.bump k).blw = s.blw := rfl
@[simp] theorem State.bump_cmn (k : Nat) : (s.bump k).cmn = s.cmn := rfl
@[simp] theorem State.bump_drv (k : Nat) : (s.bump k).drv = s.drv := rfl
@[simp] theorem State.bump_tfb (k : Nat) : (s.bump k).tfb = s.tfb := rfl
@[simp] theorem State.bump_mig (k : Nat) : (s.bump k).mig = s.mig := rfl
@[simp] theorem State.bump_slots (k : Nat) : (s.bump k).slots = s.slots := rfl
@[simp] theorem State.bump_pending (k : Nat) : (s.bump k).pending = s.pending := rfl
@[simp] theorem State.bump_out (k : Nat) : (s.bump k).out = s.out := rfl
@[simp] theorem State.bump_fresh (k : Nat) : (s.bump k).fresh = s.fresh := rfl

/-! ### sub -/

@[simp] theorem State.sub_mram (k n : Nat) : (s.sub k n).mram = s.mram := rfl
@[simp] theorem State.sub_crf (k n : Nat) : (s.sub k n).crf = s.crf := rfl
@[simp] theorem State.sub_boot (k n : Nat) : (s.sub k n).boot = s.boot := rfl
@[simp] theorem State.sub_flt (k n : Nat) : (s.sub k n).flt = s.flt := rfl
@[simp] theorem State.sub_cic (k n : Nat) : (s.sub k n).cic = s.cic := rfl
@[simp] theorem State.sub_tally (k n : Nat) : (s.sub k n).tally = s.tally := rfl
@[simp] theorem State.sub_clk (k n : Nat) : (s.sub k n).clk = s.clk := rfl
@[simp] theorem State.sub_gov (k n : Nat) : (s.sub k n).gov = s.gov := rfl
@[simp] theorem State.sub_pwr (k n : Nat) : (s.sub k n).pwr = s.pwr := rfl
@[simp] theorem State.sub_sel (k n : Nat) : (s.sub k n).sel = s.sel := rfl
@[simp] theorem State.sub_fab (k n : Nat) : (s.sub k n).fab = s.fab := rfl
@[simp] theorem State.sub_blw (k n : Nat) : (s.sub k n).blw = s.blw := rfl
@[simp] theorem State.sub_cmn (k n : Nat) : (s.sub k n).cmn = s.cmn := rfl
@[simp] theorem State.sub_drv (k n : Nat) : (s.sub k n).drv = s.drv := rfl
@[simp] theorem State.sub_tfb (k n : Nat) : (s.sub k n).tfb = s.tfb := rfl
@[simp] theorem State.sub_mig (k n : Nat) : (s.sub k n).mig = s.mig := rfl
@[simp] theorem State.sub_slots (k n : Nat) : (s.sub k n).slots = s.slots := rfl
@[simp] theorem State.sub_pending (k n : Nat) : (s.sub k n).pending = s.pending := rfl
@[simp] theorem State.sub_out (k n : Nat) : (s.sub k n).out = s.out := rfl
@[simp] theorem State.sub_fresh (k n : Nat) : (s.sub k n).fresh = s.fresh := rfl

/-! ### wrBit -/

@[simp] theorem State.wrBit_mram (k n : Nat) (b : Bool) : (s.wrBit k n b).mram = s.mram := rfl
@[simp] theorem State.wrBit_crf (k n : Nat) (b : Bool) : (s.wrBit k n b).crf = s.crf := rfl
@[simp] theorem State.wrBit_boot (k n : Nat) (b : Bool) : (s.wrBit k n b).boot = s.boot := rfl
@[simp] theorem State.wrBit_flt (k n : Nat) (b : Bool) : (s.wrBit k n b).flt = s.flt := rfl
@[simp] theorem State.wrBit_cic (k n : Nat) (b : Bool) : (s.wrBit k n b).cic = s.cic := rfl
@[simp] theorem State.wrBit_tally (k n : Nat) (b : Bool) : (s.wrBit k n b).tally = s.tally := rfl
@[simp] theorem State.wrBit_clk (k n : Nat) (b : Bool) : (s.wrBit k n b).clk = s.clk := rfl
@[simp] theorem State.wrBit_gov (k n : Nat) (b : Bool) : (s.wrBit k n b).gov = s.gov := rfl
@[simp] theorem State.wrBit_pwr (k n : Nat) (b : Bool) : (s.wrBit k n b).pwr = s.pwr := rfl
@[simp] theorem State.wrBit_sel (k n : Nat) (b : Bool) : (s.wrBit k n b).sel = s.sel := rfl
@[simp] theorem State.wrBit_fab (k n : Nat) (b : Bool) : (s.wrBit k n b).fab = s.fab := rfl
@[simp] theorem State.wrBit_blw (k n : Nat) (b : Bool) : (s.wrBit k n b).blw = s.blw := rfl
@[simp] theorem State.wrBit_cmn (k n : Nat) (b : Bool) : (s.wrBit k n b).cmn = s.cmn := rfl
@[simp] theorem State.wrBit_drv (k n : Nat) (b : Bool) : (s.wrBit k n b).drv = s.drv := rfl
@[simp] theorem State.wrBit_tfb (k n : Nat) (b : Bool) : (s.wrBit k n b).tfb = s.tfb := rfl
@[simp] theorem State.wrBit_mig (k n : Nat) (b : Bool) : (s.wrBit k n b).mig = s.mig := rfl
@[simp] theorem State.wrBit_slots (k n : Nat) (b : Bool) : (s.wrBit k n b).slots = s.slots := rfl
@[simp] theorem State.wrBit_pending (k n : Nat) (b : Bool) : (s.wrBit k n b).pending = s.pending := rfl
@[simp] theorem State.wrBit_out (k n : Nat) (b : Bool) : (s.wrBit k n b).out = s.out := rfl
@[simp] theorem State.wrBit_fresh (k n : Nat) (b : Bool) : (s.wrBit k n b).fresh = s.fresh := rfl

/-! ### wrBits -/

@[simp] theorem State.wrBits_mram (k hi lo v : Nat) : (s.wrBits k hi lo v).mram = s.mram := rfl
@[simp] theorem State.wrBits_crf (k hi lo v : Nat) : (s.wrBits k hi lo v).crf = s.crf := rfl
@[simp] theorem State.wrBits_boot (k hi lo v : Nat) : (s.wrBits k hi lo v).boot = s.boot := rfl
@[simp] theorem State.wrBits_flt (k hi lo v : Nat) : (s.wrBits k hi lo v).flt = s.flt := rfl
@[simp] theorem State.wrBits_cic (k hi lo v : Nat) : (s.wrBits k hi lo v).cic = s.cic := rfl
@[simp] theorem State.wrBits_tally (k hi lo v : Nat) : (s.wrBits k hi lo v).tally = s.tally := rfl
@[simp] theorem State.wrBits_clk (k hi lo v : Nat) : (s.wrBits k hi lo v).clk = s.clk := rfl
@[simp] theorem State.wrBits_gov (k hi lo v : Nat) : (s.wrBits k hi lo v).gov = s.gov := rfl
@[simp] theorem State.wrBits_pwr (k hi lo v : Nat) : (s.wrBits k hi lo v).pwr = s.pwr := rfl
@[simp] theorem State.wrBits_sel (k hi lo v : Nat) : (s.wrBits k hi lo v).sel = s.sel := rfl
@[simp] theorem State.wrBits_fab (k hi lo v : Nat) : (s.wrBits k hi lo v).fab = s.fab := rfl
@[simp] theorem State.wrBits_blw (k hi lo v : Nat) : (s.wrBits k hi lo v).blw = s.blw := rfl
@[simp] theorem State.wrBits_cmn (k hi lo v : Nat) : (s.wrBits k hi lo v).cmn = s.cmn := rfl
@[simp] theorem State.wrBits_drv (k hi lo v : Nat) : (s.wrBits k hi lo v).drv = s.drv := rfl
@[simp] theorem State.wrBits_tfb (k hi lo v : Nat) : (s.wrBits k hi lo v).tfb = s.tfb := rfl
@[simp] theorem State.wrBits_mig (k hi lo v : Nat) : (s.wrBits k hi lo v).mig = s.mig := rfl
@[simp] theorem State.wrBits_slots (k hi lo v : Nat) : (s.wrBits k hi lo v).slots = s.slots := rfl
@[simp] theorem State.wrBits_pending (k hi lo v : Nat) : (s.wrBits k hi lo v).pending = s.pending := rfl
@[simp] theorem State.wrBits_out (k hi lo v : Nat) : (s.wrBits k hi lo v).out = s.out := rfl
@[simp] theorem State.wrBits_fresh (k hi lo v : Nat) : (s.wrBits k hi lo v).fresh = s.fresh := rfl

/-! ### bumpVersion -/

@[simp] theorem State.bumpVersion_mram (k : Nat) : (s.bumpVersion k).mram = s.mram := rfl
@[simp] theorem State.bumpVersion_crf (k : Nat) : (s.bumpVersion k).crf = s.crf := rfl
@[simp] theorem State.bumpVersion_boot (k : Nat) : (s.bumpVersion k).boot = s.boot := rfl
@[simp] theorem State.bumpVersion_flt (k : Nat) : (s.bumpVersion k).flt = s.flt := rfl
@[simp] theorem State.bumpVersion_cic (k : Nat) : (s.bumpVersion k).cic = s.cic := rfl
@[simp] theorem State.bumpVersion_tally (k : Nat) : (s.bumpVersion k).tally = s.tally := rfl
@[simp] theorem State.bumpVersion_clk (k : Nat) : (s.bumpVersion k).clk = s.clk := rfl
@[simp] theorem State.bumpVersion_gov (k : Nat) : (s.bumpVersion k).gov = s.gov := rfl
@[simp] theorem State.bumpVersion_pwr (k : Nat) : (s.bumpVersion k).pwr = s.pwr := rfl
@[simp] theorem State.bumpVersion_sel (k : Nat) : (s.bumpVersion k).sel = s.sel := rfl
@[simp] theorem State.bumpVersion_fab (k : Nat) : (s.bumpVersion k).fab = s.fab := rfl
@[simp] theorem State.bumpVersion_blw (k : Nat) : (s.bumpVersion k).blw = s.blw := rfl
@[simp] theorem State.bumpVersion_cmn (k : Nat) : (s.bumpVersion k).cmn = s.cmn := rfl
@[simp] theorem State.bumpVersion_drv (k : Nat) : (s.bumpVersion k).drv = s.drv := rfl
@[simp] theorem State.bumpVersion_tfb (k : Nat) : (s.bumpVersion k).tfb = s.tfb := rfl
@[simp] theorem State.bumpVersion_mig (k : Nat) : (s.bumpVersion k).mig = s.mig := rfl
@[simp] theorem State.bumpVersion_slots (k : Nat) : (s.bumpVersion k).slots = s.slots := rfl
@[simp] theorem State.bumpVersion_pending (k : Nat) : (s.bumpVersion k).pending = s.pending := rfl
@[simp] theorem State.bumpVersion_out (k : Nat) : (s.bumpVersion k).out = s.out := rfl
@[simp] theorem State.bumpVersion_fresh (k : Nat) : (s.bumpVersion k).fresh = s.fresh := rfl

/-! ### emit -/

@[simp] theorem State.emit_dict (o : Output) : (s.emit o).dict = s.dict := rfl
@[simp] theorem State.emit_mram (o : Output) : (s.emit o).mram = s.mram := rfl
@[simp] theorem State.emit_crf (o : Output) : (s.emit o).crf = s.crf := rfl
@[simp] theorem State.emit_boot (o : Output) : (s.emit o).boot = s.boot := rfl
@[simp] theorem State.emit_flt (o : Output) : (s.emit o).flt = s.flt := rfl
@[simp] theorem State.emit_cic (o : Output) : (s.emit o).cic = s.cic := rfl
@[simp] theorem State.emit_tally (o : Output) : (s.emit o).tally = s.tally := rfl
@[simp] theorem State.emit_clk (o : Output) : (s.emit o).clk = s.clk := rfl
@[simp] theorem State.emit_gov (o : Output) : (s.emit o).gov = s.gov := rfl
@[simp] theorem State.emit_pwr (o : Output) : (s.emit o).pwr = s.pwr := rfl
@[simp] theorem State.emit_sel (o : Output) : (s.emit o).sel = s.sel := rfl
@[simp] theorem State.emit_fab (o : Output) : (s.emit o).fab = s.fab := rfl
@[simp] theorem State.emit_blw (o : Output) : (s.emit o).blw = s.blw := rfl
@[simp] theorem State.emit_cmn (o : Output) : (s.emit o).cmn = s.cmn := rfl
@[simp] theorem State.emit_drv (o : Output) : (s.emit o).drv = s.drv := rfl
@[simp] theorem State.emit_tfb (o : Output) : (s.emit o).tfb = s.tfb := rfl
@[simp] theorem State.emit_mig (o : Output) : (s.emit o).mig = s.mig := rfl
@[simp] theorem State.emit_slots (o : Output) : (s.emit o).slots = s.slots := rfl
@[simp] theorem State.emit_pending (o : Output) : (s.emit o).pending = s.pending := rfl
@[simp] theorem State.emit_fresh (o : Output) : (s.emit o).fresh = s.fresh := rfl

/-! ### tick -/

@[simp] theorem State.tick_dict : (s.tick).dict = s.dict := rfl
@[simp] theorem State.tick_mram : (s.tick).mram = s.mram := rfl
@[simp] theorem State.tick_crf : (s.tick).crf = s.crf := rfl
@[simp] theorem State.tick_boot : (s.tick).boot = s.boot := rfl
@[simp] theorem State.tick_flt : (s.tick).flt = s.flt := rfl
@[simp] theorem State.tick_cic : (s.tick).cic = s.cic := rfl
@[simp] theorem State.tick_tally : (s.tick).tally = s.tally := rfl
@[simp] theorem State.tick_clk : (s.tick).clk = s.clk := rfl
@[simp] theorem State.tick_gov : (s.tick).gov = s.gov := rfl
@[simp] theorem State.tick_pwr : (s.tick).pwr = s.pwr := rfl
@[simp] theorem State.tick_sel : (s.tick).sel = s.sel := rfl
@[simp] theorem State.tick_fab : (s.tick).fab = s.fab := rfl
@[simp] theorem State.tick_blw : (s.tick).blw = s.blw := rfl
@[simp] theorem State.tick_cmn : (s.tick).cmn = s.cmn := rfl
@[simp] theorem State.tick_drv : (s.tick).drv = s.drv := rfl
@[simp] theorem State.tick_tfb : (s.tick).tfb = s.tfb := rfl
@[simp] theorem State.tick_mig : (s.tick).mig = s.mig := rfl
@[simp] theorem State.tick_slots : (s.tick).slots = s.slots := rfl
@[simp] theorem State.tick_pending : (s.tick).pending = s.pending := rfl
@[simp] theorem State.tick_out : (s.tick).out = s.out := rfl

/-! ### cicPut -/

@[simp] theorem State.cicPut_dict (i : Nat) (c : CicSource) : (s.cicPut i c).dict = s.dict := rfl
@[simp] theorem State.cicPut_mram (i : Nat) (c : CicSource) : (s.cicPut i c).mram = s.mram := rfl
@[simp] theorem State.cicPut_crf (i : Nat) (c : CicSource) : (s.cicPut i c).crf = s.crf := rfl
@[simp] theorem State.cicPut_boot (i : Nat) (c : CicSource) : (s.cicPut i c).boot = s.boot := rfl
@[simp] theorem State.cicPut_flt (i : Nat) (c : CicSource) : (s.cicPut i c).flt = s.flt := rfl
@[simp] theorem State.cicPut_tally (i : Nat) (c : CicSource) : (s.cicPut i c).tally = s.tally := rfl
@[simp] theorem State.cicPut_clk (i : Nat) (c : CicSource) : (s.cicPut i c).clk = s.clk := rfl
@[simp] theorem State.cicPut_gov (i : Nat) (c : CicSource) : (s.cicPut i c).gov = s.gov := rfl
@[simp] theorem State.cicPut_pwr (i : Nat) (c : CicSource) : (s.cicPut i c).pwr = s.pwr := rfl
@[simp] theorem State.cicPut_sel (i : Nat) (c : CicSource) : (s.cicPut i c).sel = s.sel := rfl
@[simp] theorem State.cicPut_fab (i : Nat) (c : CicSource) : (s.cicPut i c).fab = s.fab := rfl
@[simp] theorem State.cicPut_blw (i : Nat) (c : CicSource) : (s.cicPut i c).blw = s.blw := rfl
@[simp] theorem State.cicPut_cmn (i : Nat) (c : CicSource) : (s.cicPut i c).cmn = s.cmn := rfl
@[simp] theorem State.cicPut_drv (i : Nat) (c : CicSource) : (s.cicPut i c).drv = s.drv := rfl
@[simp] theorem State.cicPut_tfb (i : Nat) (c : CicSource) : (s.cicPut i c).tfb = s.tfb := rfl
@[simp] theorem State.cicPut_mig (i : Nat) (c : CicSource) : (s.cicPut i c).mig = s.mig := rfl
@[simp] theorem State.cicPut_slots (i : Nat) (c : CicSource) : (s.cicPut i c).slots = s.slots := rfl
@[simp] theorem State.cicPut_pending (i : Nat) (c : CicSource) : (s.cicPut i c).pending = s.pending := rfl
@[simp] theorem State.cicPut_out (i : Nat) (c : CicSource) : (s.cicPut i c).out = s.out := rfl
@[simp] theorem State.cicPut_fresh (i : Nat) (c : CicSource) : (s.cicPut i c).fresh = s.fresh := rfl

/-! ### tallyPut -/

@[simp] theorem State.tallyPut_dict (k v : Nat) : (s.tallyPut k v).dict = s.dict := rfl
@[simp] theorem State.tallyPut_mram (k v : Nat) : (s.tallyPut k v).mram = s.mram := rfl
@[simp] theorem State.tallyPut_crf (k v : Nat) : (s.tallyPut k v).crf = s.crf := rfl
@[simp] theorem State.tallyPut_boot (k v : Nat) : (s.tallyPut k v).boot = s.boot := rfl
@[simp] theorem State.tallyPut_flt (k v : Nat) : (s.tallyPut k v).flt = s.flt := rfl
@[simp] theorem State.tallyPut_cic (k v : Nat) : (s.tallyPut k v).cic = s.cic := rfl
@[simp] theorem State.tallyPut_clk (k v : Nat) : (s.tallyPut k v).clk = s.clk := rfl
@[simp] theorem State.tallyPut_gov (k v : Nat) : (s.tallyPut k v).gov = s.gov := rfl
@[simp] theorem State.tallyPut_pwr (k v : Nat) : (s.tallyPut k v).pwr = s.pwr := rfl
@[simp] theorem State.tallyPut_sel (k v : Nat) : (s.tallyPut k v).sel = s.sel := rfl
@[simp] theorem State.tallyPut_fab (k v : Nat) : (s.tallyPut k v).fab = s.fab := rfl
@[simp] theorem State.tallyPut_blw (k v : Nat) : (s.tallyPut k v).blw = s.blw := rfl
@[simp] theorem State.tallyPut_cmn (k v : Nat) : (s.tallyPut k v).cmn = s.cmn := rfl
@[simp] theorem State.tallyPut_drv (k v : Nat) : (s.tallyPut k v).drv = s.drv := rfl
@[simp] theorem State.tallyPut_tfb (k v : Nat) : (s.tallyPut k v).tfb = s.tfb := rfl
@[simp] theorem State.tallyPut_mig (k v : Nat) : (s.tallyPut k v).mig = s.mig := rfl
@[simp] theorem State.tallyPut_slots (k v : Nat) : (s.tallyPut k v).slots = s.slots := rfl
@[simp] theorem State.tallyPut_pending (k v : Nat) : (s.tallyPut k v).pending = s.pending := rfl
@[simp] theorem State.tallyPut_out (k v : Nat) : (s.tallyPut k v).out = s.out := rfl
@[simp] theorem State.tallyPut_fresh (k v : Nat) : (s.tallyPut k v).fresh = s.fresh := rfl

/-! ### memSet -/

@[simp] theorem State.memSet_dict (a : Nat) (b : Byte) : (s.memSet a b).dict = s.dict := rfl
@[simp] theorem State.memSet_mram (a : Nat) (b : Byte) : (s.memSet a b).mram = s.mram := rfl
@[simp] theorem State.memSet_crf (a : Nat) (b : Byte) : (s.memSet a b).crf = s.crf := rfl
@[simp] theorem State.memSet_boot (a : Nat) (b : Byte) : (s.memSet a b).boot = s.boot := rfl
@[simp] theorem State.memSet_flt (a : Nat) (b : Byte) : (s.memSet a b).flt = s.flt := rfl
@[simp] theorem State.memSet_cic (a : Nat) (b : Byte) : (s.memSet a b).cic = s.cic := rfl
@[simp] theorem State.memSet_tally (a : Nat) (b : Byte) : (s.memSet a b).tally = s.tally := rfl
@[simp] theorem State.memSet_clk (a : Nat) (b : Byte) : (s.memSet a b).clk = s.clk := rfl
@[simp] theorem State.memSet_gov (a : Nat) (b : Byte) : (s.memSet a b).gov = s.gov := rfl
@[simp] theorem State.memSet_pwr (a : Nat) (b : Byte) : (s.memSet a b).pwr = s.pwr := rfl
@[simp] theorem State.memSet_sel (a : Nat) (b : Byte) : (s.memSet a b).sel = s.sel := rfl
@[simp] theorem State.memSet_fab (a : Nat) (b : Byte) : (s.memSet a b).fab = s.fab := rfl
@[simp] theorem State.memSet_blw (a : Nat) (b : Byte) : (s.memSet a b).blw = s.blw := rfl
@[simp] theorem State.memSet_drv (a : Nat) (b : Byte) : (s.memSet a b).drv = s.drv := rfl
@[simp] theorem State.memSet_tfb (a : Nat) (b : Byte) : (s.memSet a b).tfb = s.tfb := rfl
@[simp] theorem State.memSet_mig (a : Nat) (b : Byte) : (s.memSet a b).mig = s.mig := rfl
@[simp] theorem State.memSet_slots (a : Nat) (b : Byte) : (s.memSet a b).slots = s.slots := rfl
@[simp] theorem State.memSet_pending (a : Nat) (b : Byte) : (s.memSet a b).pending = s.pending := rfl
@[simp] theorem State.memSet_out (a : Nat) (b : Byte) : (s.memSet a b).out = s.out := rfl
@[simp] theorem State.memSet_fresh (a : Nat) (b : Byte) : (s.memSet a b).fresh = s.fresh := rfl

/-! ### putSession -/

@[simp] theorem State.putSession_dict (n : Nat) (x : Session) : (s.putSession n x).dict = s.dict := rfl
@[simp] theorem State.putSession_mram (n : Nat) (x : Session) : (s.putSession n x).mram = s.mram := rfl
@[simp] theorem State.putSession_boot (n : Nat) (x : Session) : (s.putSession n x).boot = s.boot := rfl
@[simp] theorem State.putSession_flt (n : Nat) (x : Session) : (s.putSession n x).flt = s.flt := rfl
@[simp] theorem State.putSession_cic (n : Nat) (x : Session) : (s.putSession n x).cic = s.cic := rfl
@[simp] theorem State.putSession_tally (n : Nat) (x : Session) : (s.putSession n x).tally = s.tally := rfl
@[simp] theorem State.putSession_clk (n : Nat) (x : Session) : (s.putSession n x).clk = s.clk := rfl
@[simp] theorem State.putSession_gov (n : Nat) (x : Session) : (s.putSession n x).gov = s.gov := rfl
@[simp] theorem State.putSession_pwr (n : Nat) (x : Session) : (s.putSession n x).pwr = s.pwr := rfl
@[simp] theorem State.putSession_sel (n : Nat) (x : Session) : (s.putSession n x).sel = s.sel := rfl
@[simp] theorem State.putSession_fab (n : Nat) (x : Session) : (s.putSession n x).fab = s.fab := rfl
@[simp] theorem State.putSession_blw (n : Nat) (x : Session) : (s.putSession n x).blw = s.blw := rfl
@[simp] theorem State.putSession_cmn (n : Nat) (x : Session) : (s.putSession n x).cmn = s.cmn := rfl
@[simp] theorem State.putSession_drv (n : Nat) (x : Session) : (s.putSession n x).drv = s.drv := rfl
@[simp] theorem State.putSession_tfb (n : Nat) (x : Session) : (s.putSession n x).tfb = s.tfb := rfl
@[simp] theorem State.putSession_mig (n : Nat) (x : Session) : (s.putSession n x).mig = s.mig := rfl
@[simp] theorem State.putSession_slots (n : Nat) (x : Session) : (s.putSession n x).slots = s.slots := rfl
@[simp] theorem State.putSession_pending (n : Nat) (x : Session) : (s.putSession n x).pending = s.pending := rfl
@[simp] theorem State.putSession_out (n : Nat) (x : Session) : (s.putSession n x).out = s.out := rfl
@[simp] theorem State.putSession_fresh (n : Nat) (x : Session) : (s.putSession n x).fresh = s.fresh := rfl

/-! ### putMailbox -/

@[simp] theorem State.putMailbox_dict (p : Nat) (x : Mailbox) : (s.putMailbox p x).dict = s.dict := rfl
@[simp] theorem State.putMailbox_mram (p : Nat) (x : Mailbox) : (s.putMailbox p x).mram = s.mram := rfl
@[simp] theorem State.putMailbox_boot (p : Nat) (x : Mailbox) : (s.putMailbox p x).boot = s.boot := rfl
@[simp] theorem State.putMailbox_flt (p : Nat) (x : Mailbox) : (s.putMailbox p x).flt = s.flt := rfl
@[simp] theorem State.putMailbox_cic (p : Nat) (x : Mailbox) : (s.putMailbox p x).cic = s.cic := rfl
@[simp] theorem State.putMailbox_tally (p : Nat) (x : Mailbox) : (s.putMailbox p x).tally = s.tally := rfl
@[simp] theorem State.putMailbox_clk (p : Nat) (x : Mailbox) : (s.putMailbox p x).clk = s.clk := rfl
@[simp] theorem State.putMailbox_gov (p : Nat) (x : Mailbox) : (s.putMailbox p x).gov = s.gov := rfl
@[simp] theorem State.putMailbox_pwr (p : Nat) (x : Mailbox) : (s.putMailbox p x).pwr = s.pwr := rfl
@[simp] theorem State.putMailbox_sel (p : Nat) (x : Mailbox) : (s.putMailbox p x).sel = s.sel := rfl
@[simp] theorem State.putMailbox_fab (p : Nat) (x : Mailbox) : (s.putMailbox p x).fab = s.fab := rfl
@[simp] theorem State.putMailbox_blw (p : Nat) (x : Mailbox) : (s.putMailbox p x).blw = s.blw := rfl
@[simp] theorem State.putMailbox_cmn (p : Nat) (x : Mailbox) : (s.putMailbox p x).cmn = s.cmn := rfl
@[simp] theorem State.putMailbox_drv (p : Nat) (x : Mailbox) : (s.putMailbox p x).drv = s.drv := rfl
@[simp] theorem State.putMailbox_tfb (p : Nat) (x : Mailbox) : (s.putMailbox p x).tfb = s.tfb := rfl
@[simp] theorem State.putMailbox_mig (p : Nat) (x : Mailbox) : (s.putMailbox p x).mig = s.mig := rfl
@[simp] theorem State.putMailbox_slots (p : Nat) (x : Mailbox) : (s.putMailbox p x).slots = s.slots := rfl
@[simp] theorem State.putMailbox_pending (p : Nat) (x : Mailbox) : (s.putMailbox p x).pending = s.pending := rfl
@[simp] theorem State.putMailbox_out (p : Nat) (x : Mailbox) : (s.putMailbox p x).out = s.out := rfl
@[simp] theorem State.putMailbox_fresh (p : Nat) (x : Mailbox) : (s.putMailbox p x).fresh = s.fresh := rfl

/-! ### putThread -/

@[simp] theorem State.putThread_dict (u : Nat) (t : Thread) : (s.putThread u t).dict = s.dict := rfl
@[simp] theorem State.putThread_mram (u : Nat) (t : Thread) : (s.putThread u t).mram = s.mram := rfl
@[simp] theorem State.putThread_crf (u : Nat) (t : Thread) : (s.putThread u t).crf = s.crf := rfl
@[simp] theorem State.putThread_boot (u : Nat) (t : Thread) : (s.putThread u t).boot = s.boot := rfl
@[simp] theorem State.putThread_flt (u : Nat) (t : Thread) : (s.putThread u t).flt = s.flt := rfl
@[simp] theorem State.putThread_cic (u : Nat) (t : Thread) : (s.putThread u t).cic = s.cic := rfl
@[simp] theorem State.putThread_tally (u : Nat) (t : Thread) : (s.putThread u t).tally = s.tally := rfl
@[simp] theorem State.putThread_clk (u : Nat) (t : Thread) : (s.putThread u t).clk = s.clk := rfl
@[simp] theorem State.putThread_gov (u : Nat) (t : Thread) : (s.putThread u t).gov = s.gov := rfl
@[simp] theorem State.putThread_pwr (u : Nat) (t : Thread) : (s.putThread u t).pwr = s.pwr := rfl
@[simp] theorem State.putThread_sel (u : Nat) (t : Thread) : (s.putThread u t).sel = s.sel := rfl
@[simp] theorem State.putThread_fab (u : Nat) (t : Thread) : (s.putThread u t).fab = s.fab := rfl
@[simp] theorem State.putThread_blw (u : Nat) (t : Thread) : (s.putThread u t).blw = s.blw := rfl
@[simp] theorem State.putThread_cmn (u : Nat) (t : Thread) : (s.putThread u t).cmn = s.cmn := rfl
@[simp] theorem State.putThread_tfb (u : Nat) (t : Thread) : (s.putThread u t).tfb = s.tfb := rfl
@[simp] theorem State.putThread_mig (u : Nat) (t : Thread) : (s.putThread u t).mig = s.mig := rfl
@[simp] theorem State.putThread_slots (u : Nat) (t : Thread) : (s.putThread u t).slots = s.slots := rfl
@[simp] theorem State.putThread_pending (u : Nat) (t : Thread) : (s.putThread u t).pending = s.pending := rfl
@[simp] theorem State.putThread_out (u : Nat) (t : Thread) : (s.putThread u t).out = s.out := rfl
@[simp] theorem State.putThread_fresh (u : Nat) (t : Thread) : (s.putThread u t).fresh = s.fresh := rfl

/-! ### putPort -/

@[simp] theorem State.putPort_dict (p : Nat) (x : Port) : (s.putPort p x).dict = s.dict := rfl
@[simp] theorem State.putPort_mram (p : Nat) (x : Port) : (s.putPort p x).mram = s.mram := rfl
@[simp] theorem State.putPort_crf (p : Nat) (x : Port) : (s.putPort p x).crf = s.crf := rfl
@[simp] theorem State.putPort_boot (p : Nat) (x : Port) : (s.putPort p x).boot = s.boot := rfl
@[simp] theorem State.putPort_flt (p : Nat) (x : Port) : (s.putPort p x).flt = s.flt := rfl
@[simp] theorem State.putPort_cic (p : Nat) (x : Port) : (s.putPort p x).cic = s.cic := rfl
@[simp] theorem State.putPort_tally (p : Nat) (x : Port) : (s.putPort p x).tally = s.tally := rfl
@[simp] theorem State.putPort_clk (p : Nat) (x : Port) : (s.putPort p x).clk = s.clk := rfl
@[simp] theorem State.putPort_gov (p : Nat) (x : Port) : (s.putPort p x).gov = s.gov := rfl
@[simp] theorem State.putPort_pwr (p : Nat) (x : Port) : (s.putPort p x).pwr = s.pwr := rfl
@[simp] theorem State.putPort_sel (p : Nat) (x : Port) : (s.putPort p x).sel = s.sel := rfl
@[simp] theorem State.putPort_blw (p : Nat) (x : Port) : (s.putPort p x).blw = s.blw := rfl
@[simp] theorem State.putPort_cmn (p : Nat) (x : Port) : (s.putPort p x).cmn = s.cmn := rfl
@[simp] theorem State.putPort_drv (p : Nat) (x : Port) : (s.putPort p x).drv = s.drv := rfl
@[simp] theorem State.putPort_tfb (p : Nat) (x : Port) : (s.putPort p x).tfb = s.tfb := rfl
@[simp] theorem State.putPort_mig (p : Nat) (x : Port) : (s.putPort p x).mig = s.mig := rfl
@[simp] theorem State.putPort_slots (p : Nat) (x : Port) : (s.putPort p x).slots = s.slots := rfl
@[simp] theorem State.putPort_pending (p : Nat) (x : Port) : (s.putPort p x).pending = s.pending := rfl
@[simp] theorem State.putPort_out (p : Nat) (x : Port) : (s.putPort p x).out = s.out := rfl
@[simp] theorem State.putPort_fresh (p : Nat) (x : Port) : (s.putPort p x).fresh = s.fresh := rfl

/-! ### putLink -/

@[simp] theorem State.putLink_dict (p : Nat) (x : TwillLink) : (s.putLink p x).dict = s.dict := rfl
@[simp] theorem State.putLink_mram (p : Nat) (x : TwillLink) : (s.putLink p x).mram = s.mram := rfl
@[simp] theorem State.putLink_crf (p : Nat) (x : TwillLink) : (s.putLink p x).crf = s.crf := rfl
@[simp] theorem State.putLink_boot (p : Nat) (x : TwillLink) : (s.putLink p x).boot = s.boot := rfl
@[simp] theorem State.putLink_flt (p : Nat) (x : TwillLink) : (s.putLink p x).flt = s.flt := rfl
@[simp] theorem State.putLink_cic (p : Nat) (x : TwillLink) : (s.putLink p x).cic = s.cic := rfl
@[simp] theorem State.putLink_tally (p : Nat) (x : TwillLink) : (s.putLink p x).tally = s.tally := rfl
@[simp] theorem State.putLink_clk (p : Nat) (x : TwillLink) : (s.putLink p x).clk = s.clk := rfl
@[simp] theorem State.putLink_gov (p : Nat) (x : TwillLink) : (s.putLink p x).gov = s.gov := rfl
@[simp] theorem State.putLink_pwr (p : Nat) (x : TwillLink) : (s.putLink p x).pwr = s.pwr := rfl
@[simp] theorem State.putLink_sel (p : Nat) (x : TwillLink) : (s.putLink p x).sel = s.sel := rfl
@[simp] theorem State.putLink_blw (p : Nat) (x : TwillLink) : (s.putLink p x).blw = s.blw := rfl
@[simp] theorem State.putLink_cmn (p : Nat) (x : TwillLink) : (s.putLink p x).cmn = s.cmn := rfl
@[simp] theorem State.putLink_drv (p : Nat) (x : TwillLink) : (s.putLink p x).drv = s.drv := rfl
@[simp] theorem State.putLink_tfb (p : Nat) (x : TwillLink) : (s.putLink p x).tfb = s.tfb := rfl
@[simp] theorem State.putLink_mig (p : Nat) (x : TwillLink) : (s.putLink p x).mig = s.mig := rfl
@[simp] theorem State.putLink_slots (p : Nat) (x : TwillLink) : (s.putLink p x).slots = s.slots := rfl
@[simp] theorem State.putLink_pending (p : Nat) (x : TwillLink) : (s.putLink p x).pending = s.pending := rfl
@[simp] theorem State.putLink_out (p : Nat) (x : TwillLink) : (s.putLink p x).out = s.out := rfl
@[simp] theorem State.putLink_fresh (p : Nat) (x : TwillLink) : (s.putLink p x).fresh = s.fresh := rfl

/-! ### putTracker -/

@[simp] theorem State.putTracker_dict (t : Tracker) : (s.putTracker t).dict = s.dict := rfl
@[simp] theorem State.putTracker_mram (t : Tracker) : (s.putTracker t).mram = s.mram := rfl
@[simp] theorem State.putTracker_crf (t : Tracker) : (s.putTracker t).crf = s.crf := rfl
@[simp] theorem State.putTracker_boot (t : Tracker) : (s.putTracker t).boot = s.boot := rfl
@[simp] theorem State.putTracker_flt (t : Tracker) : (s.putTracker t).flt = s.flt := rfl
@[simp] theorem State.putTracker_cic (t : Tracker) : (s.putTracker t).cic = s.cic := rfl
@[simp] theorem State.putTracker_tally (t : Tracker) : (s.putTracker t).tally = s.tally := rfl
@[simp] theorem State.putTracker_clk (t : Tracker) : (s.putTracker t).clk = s.clk := rfl
@[simp] theorem State.putTracker_gov (t : Tracker) : (s.putTracker t).gov = s.gov := rfl
@[simp] theorem State.putTracker_pwr (t : Tracker) : (s.putTracker t).pwr = s.pwr := rfl
@[simp] theorem State.putTracker_sel (t : Tracker) : (s.putTracker t).sel = s.sel := rfl
@[simp] theorem State.putTracker_blw (t : Tracker) : (s.putTracker t).blw = s.blw := rfl
@[simp] theorem State.putTracker_cmn (t : Tracker) : (s.putTracker t).cmn = s.cmn := rfl
@[simp] theorem State.putTracker_drv (t : Tracker) : (s.putTracker t).drv = s.drv := rfl
@[simp] theorem State.putTracker_tfb (t : Tracker) : (s.putTracker t).tfb = s.tfb := rfl
@[simp] theorem State.putTracker_mig (t : Tracker) : (s.putTracker t).mig = s.mig := rfl
@[simp] theorem State.putTracker_slots (t : Tracker) : (s.putTracker t).slots = s.slots := rfl
@[simp] theorem State.putTracker_pending (t : Tracker) : (s.putTracker t).pending = s.pending := rfl
@[simp] theorem State.putTracker_out (t : Tracker) : (s.putTracker t).out = s.out := rfl
@[simp] theorem State.putTracker_fresh (t : Tracker) : (s.putTracker t).fresh = s.fresh := rfl

/-! ### putSelQuad -/

@[simp] theorem State.putSelQuad_dict (q : Nat) (x : SelQuad) : (s.putSelQuad q x).dict = s.dict := rfl
@[simp] theorem State.putSelQuad_mram (q : Nat) (x : SelQuad) : (s.putSelQuad q x).mram = s.mram := rfl
@[simp] theorem State.putSelQuad_crf (q : Nat) (x : SelQuad) : (s.putSelQuad q x).crf = s.crf := rfl
@[simp] theorem State.putSelQuad_boot (q : Nat) (x : SelQuad) : (s.putSelQuad q x).boot = s.boot := rfl
@[simp] theorem State.putSelQuad_flt (q : Nat) (x : SelQuad) : (s.putSelQuad q x).flt = s.flt := rfl
@[simp] theorem State.putSelQuad_cic (q : Nat) (x : SelQuad) : (s.putSelQuad q x).cic = s.cic := rfl
@[simp] theorem State.putSelQuad_tally (q : Nat) (x : SelQuad) : (s.putSelQuad q x).tally = s.tally := rfl
@[simp] theorem State.putSelQuad_clk (q : Nat) (x : SelQuad) : (s.putSelQuad q x).clk = s.clk := rfl
@[simp] theorem State.putSelQuad_gov (q : Nat) (x : SelQuad) : (s.putSelQuad q x).gov = s.gov := rfl
@[simp] theorem State.putSelQuad_pwr (q : Nat) (x : SelQuad) : (s.putSelQuad q x).pwr = s.pwr := rfl
@[simp] theorem State.putSelQuad_fab (q : Nat) (x : SelQuad) : (s.putSelQuad q x).fab = s.fab := rfl
@[simp] theorem State.putSelQuad_blw (q : Nat) (x : SelQuad) : (s.putSelQuad q x).blw = s.blw := rfl
@[simp] theorem State.putSelQuad_cmn (q : Nat) (x : SelQuad) : (s.putSelQuad q x).cmn = s.cmn := rfl
@[simp] theorem State.putSelQuad_drv (q : Nat) (x : SelQuad) : (s.putSelQuad q x).drv = s.drv := rfl
@[simp] theorem State.putSelQuad_tfb (q : Nat) (x : SelQuad) : (s.putSelQuad q x).tfb = s.tfb := rfl
@[simp] theorem State.putSelQuad_mig (q : Nat) (x : SelQuad) : (s.putSelQuad q x).mig = s.mig := rfl
@[simp] theorem State.putSelQuad_slots (q : Nat) (x : SelQuad) : (s.putSelQuad q x).slots = s.slots := rfl
@[simp] theorem State.putSelQuad_pending (q : Nat) (x : SelQuad) : (s.putSelQuad q x).pending = s.pending := rfl
@[simp] theorem State.putSelQuad_out (q : Nat) (x : SelQuad) : (s.putSelQuad q x).out = s.out := rfl
@[simp] theorem State.putSelQuad_fresh (q : Nat) (x : SelQuad) : (s.putSelQuad q x).fresh = s.fresh := rfl

/-! ### putVf -/

@[simp] theorem State.putVf_dict (v : Nat) (x : Vf) : (s.putVf v x).dict = s.dict := rfl
@[simp] theorem State.putVf_mram (v : Nat) (x : Vf) : (s.putVf v x).mram = s.mram := rfl
@[simp] theorem State.putVf_crf (v : Nat) (x : Vf) : (s.putVf v x).crf = s.crf := rfl
@[simp] theorem State.putVf_boot (v : Nat) (x : Vf) : (s.putVf v x).boot = s.boot := rfl
@[simp] theorem State.putVf_flt (v : Nat) (x : Vf) : (s.putVf v x).flt = s.flt := rfl
@[simp] theorem State.putVf_cic (v : Nat) (x : Vf) : (s.putVf v x).cic = s.cic := rfl
@[simp] theorem State.putVf_tally (v : Nat) (x : Vf) : (s.putVf v x).tally = s.tally := rfl
@[simp] theorem State.putVf_clk (v : Nat) (x : Vf) : (s.putVf v x).clk = s.clk := rfl
@[simp] theorem State.putVf_gov (v : Nat) (x : Vf) : (s.putVf v x).gov = s.gov := rfl
@[simp] theorem State.putVf_pwr (v : Nat) (x : Vf) : (s.putVf v x).pwr = s.pwr := rfl
@[simp] theorem State.putVf_sel (v : Nat) (x : Vf) : (s.putVf v x).sel = s.sel := rfl
@[simp] theorem State.putVf_fab (v : Nat) (x : Vf) : (s.putVf v x).fab = s.fab := rfl
@[simp] theorem State.putVf_blw (v : Nat) (x : Vf) : (s.putVf v x).blw = s.blw := rfl
@[simp] theorem State.putVf_cmn (v : Nat) (x : Vf) : (s.putVf v x).cmn = s.cmn := rfl
@[simp] theorem State.putVf_drv (v : Nat) (x : Vf) : (s.putVf v x).drv = s.drv := rfl
@[simp] theorem State.putVf_mig (v : Nat) (x : Vf) : (s.putVf v x).mig = s.mig := rfl
@[simp] theorem State.putVf_slots (v : Nat) (x : Vf) : (s.putVf v x).slots = s.slots := rfl
@[simp] theorem State.putVf_pending (v : Nat) (x : Vf) : (s.putVf v x).pending = s.pending := rfl
@[simp] theorem State.putVf_out (v : Nat) (x : Vf) : (s.putVf v x).out = s.out := rfl
@[simp] theorem State.putVf_fresh (v : Nat) (x : Vf) : (s.putVf v x).fresh = s.fresh := rfl

/-! ### putPf -/

@[simp] theorem State.putPf_dict (p : Nat) (x : Pf) : (s.putPf p x).dict = s.dict := rfl
@[simp] theorem State.putPf_mram (p : Nat) (x : Pf) : (s.putPf p x).mram = s.mram := rfl
@[simp] theorem State.putPf_crf (p : Nat) (x : Pf) : (s.putPf p x).crf = s.crf := rfl
@[simp] theorem State.putPf_boot (p : Nat) (x : Pf) : (s.putPf p x).boot = s.boot := rfl
@[simp] theorem State.putPf_flt (p : Nat) (x : Pf) : (s.putPf p x).flt = s.flt := rfl
@[simp] theorem State.putPf_cic (p : Nat) (x : Pf) : (s.putPf p x).cic = s.cic := rfl
@[simp] theorem State.putPf_tally (p : Nat) (x : Pf) : (s.putPf p x).tally = s.tally := rfl
@[simp] theorem State.putPf_clk (p : Nat) (x : Pf) : (s.putPf p x).clk = s.clk := rfl
@[simp] theorem State.putPf_gov (p : Nat) (x : Pf) : (s.putPf p x).gov = s.gov := rfl
@[simp] theorem State.putPf_pwr (p : Nat) (x : Pf) : (s.putPf p x).pwr = s.pwr := rfl
@[simp] theorem State.putPf_sel (p : Nat) (x : Pf) : (s.putPf p x).sel = s.sel := rfl
@[simp] theorem State.putPf_fab (p : Nat) (x : Pf) : (s.putPf p x).fab = s.fab := rfl
@[simp] theorem State.putPf_blw (p : Nat) (x : Pf) : (s.putPf p x).blw = s.blw := rfl
@[simp] theorem State.putPf_cmn (p : Nat) (x : Pf) : (s.putPf p x).cmn = s.cmn := rfl
@[simp] theorem State.putPf_drv (p : Nat) (x : Pf) : (s.putPf p x).drv = s.drv := rfl
@[simp] theorem State.putPf_mig (p : Nat) (x : Pf) : (s.putPf p x).mig = s.mig := rfl
@[simp] theorem State.putPf_slots (p : Nat) (x : Pf) : (s.putPf p x).slots = s.slots := rfl
@[simp] theorem State.putPf_pending (p : Nat) (x : Pf) : (s.putPf p x).pending = s.pending := rfl
@[simp] theorem State.putPf_out (p : Nat) (x : Pf) : (s.putPf p x).out = s.out := rfl
@[simp] theorem State.putPf_fresh (p : Nat) (x : Pf) : (s.putPf p x).fresh = s.fresh := rfl

/-! ### putChan -/

@[simp] theorem State.putChan_dict (n : Nat) (c : SlotCh) : (s.putChan n c).dict = s.dict := rfl
@[simp] theorem State.putChan_mram (n : Nat) (c : SlotCh) : (s.putChan n c).mram = s.mram := rfl
@[simp] theorem State.putChan_crf (n : Nat) (c : SlotCh) : (s.putChan n c).crf = s.crf := rfl
@[simp] theorem State.putChan_boot (n : Nat) (c : SlotCh) : (s.putChan n c).boot = s.boot := rfl
@[simp] theorem State.putChan_flt (n : Nat) (c : SlotCh) : (s.putChan n c).flt = s.flt := rfl
@[simp] theorem State.putChan_cic (n : Nat) (c : SlotCh) : (s.putChan n c).cic = s.cic := rfl
@[simp] theorem State.putChan_tally (n : Nat) (c : SlotCh) : (s.putChan n c).tally = s.tally := rfl
@[simp] theorem State.putChan_clk (n : Nat) (c : SlotCh) : (s.putChan n c).clk = s.clk := rfl
@[simp] theorem State.putChan_gov (n : Nat) (c : SlotCh) : (s.putChan n c).gov = s.gov := rfl
@[simp] theorem State.putChan_pwr (n : Nat) (c : SlotCh) : (s.putChan n c).pwr = s.pwr := rfl
@[simp] theorem State.putChan_sel (n : Nat) (c : SlotCh) : (s.putChan n c).sel = s.sel := rfl
@[simp] theorem State.putChan_fab (n : Nat) (c : SlotCh) : (s.putChan n c).fab = s.fab := rfl
@[simp] theorem State.putChan_blw (n : Nat) (c : SlotCh) : (s.putChan n c).blw = s.blw := rfl
@[simp] theorem State.putChan_cmn (n : Nat) (c : SlotCh) : (s.putChan n c).cmn = s.cmn := rfl
@[simp] theorem State.putChan_drv (n : Nat) (c : SlotCh) : (s.putChan n c).drv = s.drv := rfl
@[simp] theorem State.putChan_tfb (n : Nat) (c : SlotCh) : (s.putChan n c).tfb = s.tfb := rfl
@[simp] theorem State.putChan_mig (n : Nat) (c : SlotCh) : (s.putChan n c).mig = s.mig := rfl
@[simp] theorem State.putChan_pending (n : Nat) (c : SlotCh) : (s.putChan n c).pending = s.pending := rfl
@[simp] theorem State.putChan_out (n : Nat) (c : SlotCh) : (s.putChan n c).out = s.out := rfl
@[simp] theorem State.putChan_fresh (n : Nat) (c : SlotCh) : (s.putChan n c).fresh = s.fresh := rfl

/-! ### withQueue -/

@[simp] theorem State.withQueue_dict (q : List Instr) : (s.withQueue q).dict = s.dict := rfl
@[simp] theorem State.withQueue_mram (q : List Instr) : (s.withQueue q).mram = s.mram := rfl
@[simp] theorem State.withQueue_crf (q : List Instr) : (s.withQueue q).crf = s.crf := rfl
@[simp] theorem State.withQueue_boot (q : List Instr) : (s.withQueue q).boot = s.boot := rfl
@[simp] theorem State.withQueue_flt (q : List Instr) : (s.withQueue q).flt = s.flt := rfl
@[simp] theorem State.withQueue_cic (q : List Instr) : (s.withQueue q).cic = s.cic := rfl
@[simp] theorem State.withQueue_tally (q : List Instr) : (s.withQueue q).tally = s.tally := rfl
@[simp] theorem State.withQueue_clk (q : List Instr) : (s.withQueue q).clk = s.clk := rfl
@[simp] theorem State.withQueue_gov (q : List Instr) : (s.withQueue q).gov = s.gov := rfl
@[simp] theorem State.withQueue_pwr (q : List Instr) : (s.withQueue q).pwr = s.pwr := rfl
@[simp] theorem State.withQueue_sel (q : List Instr) : (s.withQueue q).sel = s.sel := rfl
@[simp] theorem State.withQueue_fab (q : List Instr) : (s.withQueue q).fab = s.fab := rfl
@[simp] theorem State.withQueue_blw (q : List Instr) : (s.withQueue q).blw = s.blw := rfl
@[simp] theorem State.withQueue_cmn (q : List Instr) : (s.withQueue q).cmn = s.cmn := rfl
@[simp] theorem State.withQueue_drv (q : List Instr) : (s.withQueue q).drv = s.drv := rfl
@[simp] theorem State.withQueue_tfb (q : List Instr) : (s.withQueue q).tfb = s.tfb := rfl
@[simp] theorem State.withQueue_mig (q : List Instr) : (s.withQueue q).mig = s.mig := rfl
@[simp] theorem State.withQueue_slots (q : List Instr) : (s.withQueue q).slots = s.slots := rfl
@[simp] theorem State.withQueue_out (q : List Instr) : (s.withQueue q).out = s.out := rfl
@[simp] theorem State.withQueue_fresh (q : List Instr) : (s.withQueue q).fresh = s.fresh := rfl

/-! ### Reading after writing -/

@[simp] theorem State.rd_wr (k v j : Nat) : (s.wr k v).rd j = if j = k then v else s.rd j := Sparse.get_set _ _ _ _ _

@[simp] theorem State.rdo_wro (k : Nat) (v : List Byte) (j : Nat) : (s.wro k v).rdo j = if j = k then v else s.rdo j := Sparse.get_set _ _ _ _ _

@[simp] theorem State.rdo_wr (k v j : Nat) : (s.wr k v).rdo j = s.rdo j := rfl

@[simp] theorem State.rd_wro (k : Nat) (v : List Byte) (j : Nat) : (s.wro k v).rd j = s.rd j := rfl

@[simp] theorem State.version_wr (k v j : Nat) : (s.wr k v).version j = s.version j := rfl

@[simp] theorem State.version_bumpVersion (k j : Nat) :
    (s.bumpVersion k).version j = if j = k then (s.version k + 1) % 0xFFFFFFFF else s.version j := Sparse.get_set _ _ _ _ _

@[simp] theorem State.rd_bumpVersion (k j : Nat) : (s.bumpVersion k).rd j = s.rd j := rfl

@[simp] theorem State.memGet_memSet (a : Nat) (b : Byte) (j : Nat) : (s.memSet a b).memGet j = if j = a then b else s.memGet j :=
  Sparse.get_set _ _ _ _ _

/-- The bytes that a write of Commons stores, and no others. -/
theorem State.memGet_memWrite (d : List Byte) : ∀ (s : State) (a j : Nat),
    (s.memWrite a d).memGet j = if a ≤ j ∧ j < a + d.length then d.getD (j - a) 0 else s.memGet j := by
  induction d with
  | nil => intro s a j; rw [if_neg (by simp)]; rfl
  | cons b d ih =>
    intro s a j
    show ((s.memSet a b).memWrite (a + 1) d).memGet j = _
    rw [ih, State.memGet_memSet]
    by_cases h1 : j = a
    · subst h1; rw [if_neg (by omega), if_pos rfl, if_pos ⟨Nat.le_refl _, by simp⟩]; simp
    · by_cases h2 : a + 1 ≤ j ∧ j < a + 1 + d.length
      · rw [if_pos h2, if_pos ⟨by omega, by simp; omega⟩]
        obtain ⟨c, hc⟩ : ∃ c, j - a = c + 1 := ⟨j - a - 1, by omega⟩
        rw [hc, show j - (a + 1) = c by omega]; rfl
      · rw [if_neg h2, if_neg h1, if_neg (by simp; omega)]

/-- What is written is read back. -/
theorem State.memRead_memWrite (a : Nat) (d : List Byte) : (s.memWrite a d).memRead a d.length = d := by
  apply List.ext_getElem
  · simp [State.memRead]
  · intro i h1 h2
    simp [State.memRead, State.memGet_memWrite, h2]

/-- A write of Commons keeps the canonical form of its memory. -/
theorem State.memWrite_wf (d : List Byte) : ∀ (s : State) (a : Nat), s.memWf = true → (s.memWrite a d).memWf = true := by
  induction d with
  | nil => exact fun _ _ h => h
  | cons b d ih => exact fun s a h => ih (s.memSet a b) (a + 1) (Sparse.wf_set _ _ a b h)

end Sys2Proof.Machine
end

