-- ==== Sys2Proof/Laws/Complete.lean ====
section
/-! SUPPORT. When a command completes: what exec answers where nothing waits, and what the shared operations do where their conditions hold. -/

namespace Sys2Proof.Machine

/-- A quiet state settles into itself. -/
theorem settle_quiet {s : State} (q : s.Quiet) : settle s = s := by
  have d : s.drain = s := by simp only [State.drain, workMax, iter, q.work]
  simp only [settle, d, q.follow]

/-- A command completes with the effect that exec settles. -/
theorem gives_of {c : Instr} {s e : State} (h : exec c s = .next (settle e)) : Gives c s e := ⟨h, fun q => by rw [h, settle_quiet q]⟩

/-- An instruction that a unit may issue runs on the issued state (R326, R334, R337). -/
theorem instr_of_mayIssue {s : State} {x : ExecUnit} {f : Nat → Thread → State → State} (h : s.mayIssue x = true) :
    s.instr x f = f (unitNum x) (s.issuer x) (s.issued x) := by
  simp only [State.mayIssue, Bool.and_eq_true, Bool.not_eq_true', Bool.and_eq_false_iff, Bool.or_eq_false_iff, decide_eq_false_iff_not] at h
  obtain ⟨⟨⟨h1, h2⟩, h3⟩, h5⟩ := h
  have g : ¬(unitNum x < 512 ∧ (s.thread (unitNum x)).prog < 64 ∧
      ((s.thread (unitNum x)).pc % 4 ≠ 0 ∨ s.codeSize (s.thread (unitNum x)).prog ≤ (s.thread (unitNum x)).pc)) := by
    rintro ⟨a, b, c⟩
    rcases h3 with (h3 | h3) | ⟨h3, h4⟩
    · exact h3 a
    · exact h3 b
    · rcases c with c | c
      · simp at h3; exact c h3
      · exact h4 c
  simp only [State.instr, h1, h2, h5, State.issuer, State.issued, Bool.not_true, Bool.false_eq_true, or_self, if_false, if_neg g]

/-- An ALU instruction that a unit may issue puts its result into `rd` (R335). -/
theorem alu_of_mayIssue {s : State} {x : ExecUnit} {rd : Reg} {v : Thread → BitVec 64} (h : s.mayIssue x = true) :
    s.alu x rd v = s.gets x rd (v (s.issuer x)) := by simp only [State.alu, instr_of_mayIssue h, State.gets]

/-- As above, with its reserved fields 0. -/
theorem aluIf_of_mayIssue {s : State} {x : ExecUnit} {rd : Reg} {v : Thread → BitVec 64} {ok : Bool} (h : s.mayIssue x = true)
    (k : ok = true) : s.aluIf x ok rd v = s.gets x rd (v (s.issuer x)) := by
  simp only [State.aluIf, instr_of_mayIssue h, State.gets, k, if_true]

/-- A write that a session may make, with the chapter's effect `e` (R40, R60, R71). -/
theorem actionWrite_of_mayWrite {s e : State} {n k : Nat} {v : List Byte} (h : s.mayWrite n k v) (g : hooks.write n k v s = (Status.ok, e)) :
    actionWrite hooks n k v s = s.written n k v e := by
  obtain ⟨h1, h2, h3, h4⟩ := h
  have h5 : ((decide (1 ≤ n) && decide (n ≤ 8) && (s.session n).opened)) = true := by simp [h1, h2, h3]
  simp only [actionWrite, h5, writeNow, h4, writeEffect, g, State.written, Bool.not_true, Bool.false_eq_true, if_false, if_true, ne_eq,
    not_true_eq_false]

/-- A message of a row that a Twill link takes is delivered here or passed on (R168, R172, R176, R185). -/
theorem rowMessage_of_takes {s : State} {p tc op : Nat} {m : TwillMsg} (h : s.takesMsg p (twillRow m tc op) = true) :
    s.rowMessage p m tc op = s.receives p (twillRow m tc op) := by
  show s.twillMessage p tc (twillRow m tc op) = _
  have e : (twillRow m tc op).tc = tc := rfl
  generalize twillRow m tc op = x at h e ⊢
  subst e
  simp only [State.takesMsg, Bool.and_eq_true, decide_eq_true_eq, beq_iff_eq, Bool.not_eq_true'] at h
  obtain ⟨⟨⟨⟨⟨⟨⟨h1, h2⟩, h3⟩, h4⟩, h5⟩, h6⟩, h7⟩, h8⟩ := h
  simp only [State.creditUse] at h5 h6
  have a1 : ¬(64 ≤ p ∨ s.role p ≠ 3 ∨ (!s.linkUp p) = true) := by simp [h1, h2, h3]
  have a2 : ¬128 < x.dcnt := by omega
  obtain ⟨⟨y, lo, hi⟩, hm⟩ : ∃ t, msgShape x.tc x.opcode = some t := by
    cases hm : msgShape x.tc x.opcode with
    | none => simp [hm] at h7
    | some t => exact ⟨t, rfl⟩
  simp only [hm, Bool.and_eq_true, beq_iff_eq, decide_eq_true_eq] at h7
  obtain ⟨⟨e1, e2⟩, e3⟩ := h7
  have b : ¬((x.tc != x.tc || (y != x.ext || decide (x.dcnt < lo) || decide (hi < x.dcnt))) = true) := by
    have f1 : ¬x.dcnt < lo := by omega
    have f2 : ¬hi < x.dcnt := by omega
    simp [e1, f1, f2]
  have c : ¬((s.link p).rxAdvH.getD x.tc 0 < (((s.link p).rxUsedH.getD x.tc 0 + 1) % 4096 + 4096 - (s.link p).rxBackH.getD x.tc 0) % 4096 ∨
      (s.link p).rxAdvD.getD x.tc 0 < (((s.link p).rxUsedD.getD x.tc 0 + x.dcnt) % 65536 + 65536 - (s.link p).rxBackD.getD x.tc 0) % 65536) := by
    omega
  have d : ¬((msgNonPosted (ioCut x) && decide (4 ≤ x.tc) && (s.credited p x).noTracker false) = true) := by rw [h8]; decide
  obtain ⟨u, hu⟩ : ∃ u, ioCut x = { x with data := u } := by unfold ioCut; split <;> exact ⟨_, rfl⟩
  rw [hu] at d
  simp only [State.receives, State.twillMessage, hu]
  rw [if_neg a1, if_neg a2, if_neg c]
  simp only [hm]
  rw [if_neg b]
  exact if_neg d

/-- The state of a Crook message that Croft takes up (R44 to R46). -/
theorem crookEvent_of_hears {s : State} {tr : Transport} {src op : Nat} {m : CrookMsg} (h : s.hears tr src op m = true) :
    crookEvent tr src op m s = crookReceive hooks tr src op m (s.submitted tr op m) := by
  simp only [State.hears, Bool.and_eq_true] at h
  obtain ⟨⟨⟨⟨⟨h1, h2⟩, -⟩, -⟩, -⟩, -⟩ := h
  cases tr with
  | udp p => rfl
  | i3c => rfl
  | mbx p =>
    simp only [Bool.and_eq_true, decide_eq_true_eq, beq_iff_eq, Bool.not_eq_true'] at h1
    obtain ⟨⟨⟨⟨⟨⟨h3, h4⟩, h5⟩, h6⟩, h7⟩, h8⟩, h9⟩ := h1
    subst h7
    have g : ∀ x : Mailbox, (s.putMailbox p x).mailbox p = x := fun x => by
      simp only [State.mailbox, State.putMailbox, Sparse.get_set, if_true]
    have v : ∀ x : Mailbox, (s.putMailbox p x).serves (.mbx p) = true := fun x => h2
    simp only [crookEvent, h3, h4, h5, Nat.not_le.2 h6, Bool.not_true, Bool.false_eq_true, or_self, if_false, mbxGo, g, v, h8, h9, State.submitted]

/-- A level of a source leaves Croft as it is. -/
theorem cicLevel_crf (s : State) (i : Nat) (b : Bool) : (s.cicLevel i b).crf = s.crf := by
  unfold State.cicLevel
  split
  · rfl
  · dsimp only
    (repeat' split) <;> simp

/-- A Tally counter that runs over leaves Croft as it is. -/
theorem tallyOver_crf (s : State) (k z times : Nat) :
    ((let s1 := s.tallyPut k z
      let b := k / 16
      if bit (s.rd (K.CRF_TALLY_OVF b)) (k % 16) then s1.add K.CRF_TALLY_OVERFLOWS times
      else when (times != 1) (·.add K.CRF_TALLY_OVERFLOWS (times - 1)) ((s1.wrBit (K.CRF_TALLY_OVF b) (k % 16) true).cicTally b) : State)).crf = s.crf := by
  dsimp only [when]
  split
  · simp only [State.add_crf, State.tallyPut_crf]
  · split <;> simp only [State.add_crf, State.cicTally, cicLevel_crf, State.wrBit_crf, State.tallyPut_crf]

/-- A Tally counter's addition leaves Croft as it is. -/
theorem tallyAdd_crf (s : State) (k n : Nat) : (s.tallyAdd k n).crf = s.crf := by
  rw [State.tallyAdd]
  by_cases h : s.tallyLive k + n < 2 ^ 48
  · rw [if_pos h]; exact State.tallyPut_crf _ _ _
  · rw [if_neg h]; exact tallyOver_crf _ _ _ _

/-- Counting Tally events leaves Croft as it is. -/
theorem countN_crf (s : State) (code inst n : Nat) : (s.countN code inst n).crf = s.crf := by
  unfold State.countN forEach
  generalize s.tallySelected.filter _ = l
  induction l generalizing s with
  | nil => rfl
  | cons e l ih => rw [List.foldl_cons, ih, tallyAdd_crf]

/-- A new request of an open session is carried out (R55). -/
theorem crookReceive_of_asks {s : State} {tr : Transport} {src op : Nat} {m : CrookMsg} (h : s.asks tr src op m = true) (h1 : s.serves tr = true)
    (h0 : addressed s tr op m = true) (h2 : s.pwr.sleep = .awake) (h3 : lengthOk m = true) (h4 : op ≠ 1) :
    crookReceive hooks tr src op m s = execute hooks (s.atRequest tr m) m.session op m (msgBytes op m) := by
  simp only [State.asks, Bool.and_eq_true, decide_eq_true_eq, beq_iff_eq, Bool.not_eq_true', Option.isNone_iff_eq_none] at h
  obtain ⟨⟨⟨⟨⟨⟨⟨⟨⟨⟨a1, a2⟩, a3⟩, a4⟩, a6⟩, a7⟩, a8⟩, a9⟩, b1⟩, b2⟩, b3⟩ := h
  have c : (s.count 0xB001 (transportNum tr)).session m.session = s.session m.session := by
    simp only [State.session, State.count, countN_crf]
  have r : ¬((s.session m.session).lastSeq ≠ 0 ∧ m.sequence = (s.session m.session).lastSeq ∧ msgBytes op m = (s.session m.session).lastReq) := by
    rintro ⟨d1, d2, d3⟩; simp [d1, d2, d3] at a8
  unfold crookReceive
  rw [h1, h0, h2, h3]
  simp only [Bool.not_true, Bool.or_self, Bool.false_eq_true, if_false, ne_eq, not_true_eq_false, if_neg h4]
  rw [if_pos ⟨a1, a2, a3, a4, a6⟩]
  simp only [sessionRequest, c, a7]
  rw [if_neg r, if_pos a9]
  simp only [State.atRequest, c, a7]

end Sys2Proof.Machine
end

