-- ==== Sys2Proof/Laws/Keeps.lean ====
section
/-! SUPPORT. What every command keeps: the rules by which `Keeps` is built along a definition, and the few operations that write the fields it
speaks of. -/

namespace Sys2Proof.Machine

set_option Elab.async false

theorem Keeps.refl (s : State) : Keeps s s := ⟨rfl, List.prefix_rfl, Nat.le_refl _, id, id⟩

theorem Keeps.trans {r s t : State} (h : Keeps r s) (g : Keeps s t) : Keeps r t :=
  ⟨g.queue.trans h.queue, h.sent.trans g.sent, Nat.le_trans h.fresh g.fresh, fun i => g.latch (h.latch i), fun i => g.inv (h.inv i)⟩

/-- An update of the fields that `Keeps` does not speak of. -/
theorem Keeps.upd {r s : State} {d : Dict} {m : Mram} {c : Croft} {b : Boot} {f : Collector} {ci : Cic} {ta : Tally} {ck : Clock} {g : Governor}
    {p : Power} {se : Sel} {fa : Fabric} {bl : Blw} {cm : Commons} {dr : Drv} {tf : Tfb} {mi : Mig} {sl : Slots}
    (h : Keeps r s) (h1 : d.nums = s.dict.nums) (h2 : d.octs = s.dict.octs) (h3 : d.vers = s.dict.vers) (h4 : cm.cells = s.cmn.cells)
    (h5 : dr.scratch = s.drv.scratch) (h6 : dr.segs = s.drv.segs) (h7 : c.sessions = s.crf.sessions)
    (h8 : s.flt.latch = true → f.latch = true := by first | exact id | exact fun _ => rfl) :
    Keeps r (State.mk d m c b f ci ta ck g p se fa bl cm dr tf mi sl s.pending s.out s.fresh) :=
  ⟨h.queue, h.sent, h.fresh, fun i => h8 (h.latch i), fun i => by
    obtain ⟨a1, a2, a3, a4, a5, a6, a7⟩ := h.inv i
    exact ⟨by rw [h1]; exact a1, by rw [h2]; exact a2, by rw [h3]; exact a3, by rw [h4]; exact a4, by rw [h5]; exact a5, by rw [h6]; exact a6,
      by rw [h7]; exact a7⟩⟩

/-- An update that gives the tables new contents, which are canonical where the old ones are. -/
theorem Keeps.tables {r s : State} {d : Dict} {m : Mram} {c : Croft} {b : Boot} {f : Collector} {ci : Cic} {ta : Tally} {ck : Clock} {g : Governor}
    {p : Power} {se : Sel} {fa : Fabric} {bl : Blw} {cm : Commons} {dr : Drv} {tf : Tfb} {mi : Mig} {sl : Slots}
    (h : Keeps r s) (hi : s.Inv → State.Inv (State.mk d m c b f ci ta ck g p se fa bl cm dr tf mi sl s.pending s.out s.fresh))
    (h8 : s.flt.latch = true → f.latch = true := by first | exact id | exact fun _ => rfl) :
    Keeps r (State.mk d m c b f ci ta ck g p se fa bl cm dr tf mi sl s.pending s.out s.fresh) :=
  ⟨h.queue, h.sent, h.fresh, fun i => h8 (h.latch i), fun i => hi (h.inv i)⟩

theorem Keeps.cut {r x : State} {G : Prop} (h : Keeps r x) (k : Keeps r x → G) : G := k h

theorem Keeps.of_snd {α : Type} {r t : State} {a : α} {p : α × State} (e : p = (a, t)) (h : Keeps r p.2) : Keeps r t := by rw [e] at h; exact h

theorem Keeps.of_fst {α : Type} {r t : State} {a : α} {p : State × α} (e : p = (t, a)) (h : Keeps r p.1) : Keeps r t := by rw [e] at h; exact h

theorem Keeps.of_thd {α β : Type} {r t : State} {a : α} {b : β} {p : α × β × State} (e : p = (a, b, t)) (h : Keeps r p.2.2) : Keeps r t := by
  rw [e] at h; exact h

theorem Keeps.foldl {α : Type} {r : State} {f : State → α → State} (hf : ∀ s a, Keeps r s → Keeps r (f s a)) :
    ∀ (l : List α) (s : State), Keeps r s → Keeps r (l.foldl f s)
  | [], _, h => h
  | a :: l, s, h => Keeps.foldl hf l (f s a) (hf s a h)

theorem Keeps.foldl_snd {α β : Type} {r : State} {f : β × State → α → β × State} (hf : ∀ s a, Keeps r s.2 → Keeps r (f s a).2) :
    ∀ (l : List α) (s : β × State), Keeps r s.2 → Keeps r (l.foldl f s).2
  | [], _, h => h
  | a :: l, s, h => Keeps.foldl_snd hf l (f s a) (hf s a h)

theorem Keeps.foldl_fst {α β : Type} {r : State} {f : State × β → α → State × β} (hf : ∀ s a, Keeps r s.1 → Keeps r (f s a).1) :
    ∀ (l : List α) (s : State × β), Keeps r s.1 → Keeps r (l.foldl f s).1
  | [], _, h => h
  | a :: l, s, h => Keeps.foldl_fst hf l (f s a) (hf s a h)

theorem Keeps.iter {r : State} {f : State → Option State} (hf : ∀ s t, Keeps r s → f s = some t → Keeps r t) :
    ∀ (n : Nat) (s : State), Keeps r s → Keeps r (iter f n s)
  | 0, _, h => h
  | n + 1, s, h => by
    unfold Sys2Proof.Machine.iter
    split
    · exact h
    · exact Keeps.iter hf n _ (hf _ _ h ‹_›)

theorem forEach_keeps {r : State} {α : Type} {l : List α} {f : State → α → State} {s : State} (hf : ∀ s a, Keeps r s → Keeps r (f s a))
    (h : Keeps r s) : Keeps r (forEach l f s) := Keeps.foldl hf l s h

theorem when_keeps {r : State} {c : Bool} {f : State → State} {s : State} (hf : ∀ s, Keeps r s → Keeps r (f s)) (h : Keeps r s) :
    Keeps r (when c f s) := by
  unfold when; split
  · exact hf s h
  · exact h

theorem State.wr_keeps {r s : State} {k v : Nat} (h : Keeps r s) : Keeps r (s.wr k v) :=
  Keeps.tables h fun i => { i with nums := Sparse.wf_set _ _ k v i.nums }

theorem State.wro_keeps {r s : State} {k : Nat} {v : List Byte} (h : Keeps r s) : Keeps r (s.wro k v) :=
  Keeps.tables h fun i => { i with octs := Sparse.wf_set _ _ k v i.octs }

theorem State.bumpVersion_keeps {r s : State} {k : Nat} (h : Keeps r s) : Keeps r (s.bumpVersion k) :=
  Keeps.tables h fun i => { i with vers := Sparse.wf_set _ _ k _ i.vers }

theorem State.memSet_keeps {r s : State} {a : Nat} {b : Byte} (h : Keeps r s) : Keeps r (s.memSet a b) :=
  Keeps.tables h fun i => { i with cells := Sparse.wf_set _ _ a b i.cells }

theorem State.emit_keeps {r s : State} {o : Output} (h : Keeps r s) : Keeps r (s.emit o) :=
  ⟨h.queue, h.sent.trans (List.prefix_append _ _), h.fresh, h.latch, fun i => let j := h.inv i; ⟨j.nums, j.octs, j.vers, j.cells, j.scratch, j.segs, j.sessions⟩⟩

theorem State.tick_keeps {r s : State} (h : Keeps r s) : Keeps r s.tick :=
  ⟨h.queue, h.sent, Nat.le_succ_of_le h.fresh, h.latch, fun i => let j := h.inv i; ⟨j.nums, j.octs, j.vers, j.cells, j.scratch, j.segs, j.sessions⟩⟩

theorem State.putSession_keeps {r s : State} {n : Nat} {x : Session} (h : Keeps r s) : Keeps r (s.putSession n x) :=
  Keeps.tables h fun i => { i with sessions := by rw [List.length_set]; exact i.sessions }

theorem cellsPut_wf (d : List Byte) : ∀ (l : List Host.Cell) (k : Nat), Sparse.wf memDefault l = true → Sparse.wf memDefault (cellsPut l k d) = true := by
  induction d with
  | nil => exact fun _ _ h => h
  | cons b r ih => exact fun l k h => ih _ _ (Sparse.wf_set _ l k b h)

/-- An operation that may not answer keeps what `Keeps` speaks of where it answers. -/
structure KeepsO (r : State) (o : Option State) : Prop where
  get : ∀ t, o = some t → Keeps r t
/-- The same for an answer with a value. -/
structure KeepsP {α : Type} (r : State) (o : Option (α × State)) : Prop where
  get : ∀ t, o = some t → Keeps r t.2
/-- The same for an answer that may be an error. -/
structure KeepsE {α : Type} (r : State) (o : Except α State) : Prop where
  get : ∀ t, o = .ok t → Keeps r t

theorem KeepsO.none {r} : KeepsO r none := ⟨fun _ e => (Option.some_ne_none _ e.symm).elim⟩

theorem KeepsO.some {r t} (h : Keeps r t) : KeepsO r (some t) := ⟨fun _ e => by cases e; exact h⟩

theorem KeepsP.none {r} {α : Type} : KeepsP r (none : Option (α × State)) := ⟨fun _ e => (Option.some_ne_none _ e.symm).elim⟩

theorem KeepsP.some {r} {α : Type} {t : α × State} (h : Keeps r t.2) : KeepsP r (some t) := ⟨fun _ e => by cases e; exact h⟩

theorem KeepsE.error {r} {α : Type} {a : α} : KeepsE r (.error a) := ⟨fun _ e => by simp at e⟩

theorem KeepsE.ok {r t} {α : Type} (h : Keeps r t) : KeepsE (α := α) r (.ok t) := ⟨fun _ e => by cases e; exact h⟩

theorem KeepsO.elim {r t o} (e : o = Option.some t) (h : KeepsO r o) : Keeps r t := h.get t e

theorem KeepsP.elim {r t} {α : Type} {a : α} {o} (e : o = Option.some (a, t)) (h : KeepsP r o) : Keeps r t := h.get (a, t) e

theorem KeepsE.elim {r t} {α : Type} {o : Except α State} (e : o = .ok t) (h : KeepsE r o) : Keeps r t := h.get t e
/-- What the chapters give the protocol keeps what `Keeps` speaks of. -/
structure Hooks.Keeps (H : Hooks) : Prop where
  write : ∀ {r n k b s}, Sys2Proof.Machine.Keeps r s → Sys2Proof.Machine.Keeps r (H.write n k b s).2
  applied : ∀ {r o k s}, Sys2Proof.Machine.Keeps r o → Sys2Proof.Machine.Keeps r s → Sys2Proof.Machine.Keeps r (H.applied o k s)
  mailbox : ∀ {r p n s}, Sys2Proof.Machine.Keeps r s → Sys2Proof.Machine.Keeps r (H.mailbox p n s)

theorem KeepsO.getD {r s o} (h : KeepsO r o) (g : Keeps r s) : Keeps r (o.getD s) := by
  cases o with
  | none => exact g
  | some t => exact h.get t rfl

theorem KeepsP.getD {r} {α : Type} {s : α × State} {o} (h : KeepsP r o) (g : Keeps r s.2) : Keeps r (o.getD s).2 := by
  cases o with
  | none => exact g
  | some t => exact h.get t rfl

theorem Keeps.mapD {r s : State} {α : Type} {f : α → State} {o : Option α} (hf : ∀ a, Keeps r (f a)) (g : Keeps r s) :
    Keeps r ((o.map f).getD s) := by
  cases o with
  | none => exact g
  | some a => exact hf a

theorem Keeps.iter_snd {α : Type} {r : State} {f : α × State → Option (α × State)} (hf : ∀ s t, Keeps r s.2 → f s = some t → Keeps r t.2) :
    ∀ (n : Nat) (s : α × State), Keeps r s.2 → Keeps r (Sys2Proof.Machine.iter f n s).2
  | 0, _, h => h
  | n + 1, s, h => by
    unfold Sys2Proof.Machine.iter
    split
    · exact h
    · exact Keeps.iter_snd hf n _ (hf _ _ h ‹_›)

theorem KeepsO.ite {r c} [Decidable c] {a b} (h : KeepsO r a) (g : KeepsO r b) : KeepsO r (if c then a else b) := by
  split
  · exact h
  · exact g

theorem Keeps.ite {r c} [Decidable c] {a b} (h : Keeps r a) (g : Keeps r b) : Keeps r (if c then a else b) := by
  split
  · exact h
  · exact g

theorem Keeps.ite_snd {r c} [Decidable c] {α : Type} {a b : α × State} (h : Keeps r a.2) (g : Keeps r b.2) : Keeps r (if c then a else b).2 := by
  split
  · exact h
  · exact g

theorem Keeps.ite_thd {r c} [Decidable c] {α β : Type} {a b : α × β × State} (h : Keeps r a.2.2) (g : Keeps r b.2.2) :
    Keeps r (if c then a else b).2.2 := by
  split
  · exact h
  · exact g

end Sys2Proof.Machine
end

