-- ==== Sys2Proof/Laws/KeepsCroft.lean ====
section
/-! SUPPORT. What every command keeps, for the operations of Croft: the dictionary, the collector, the interrupt controller, Hurdle and Crook: one lemma for each operation, which says that
it keeps what `Keeps` speaks of. -/

namespace Sys2Proof.Machine

set_option Elab.async false

theorem State.ptpDelay_keeps {r s : State} {a1} (h_s : Keeps r s) :
    Keeps r (State.ptpDelay s a1) := by
  unfold State.ptpDelay
  repeat' first
    | with_reducible assumption
    | (extract_lets +onlyGivenNames x; clear_value x)
    | split
    | with_reducible refine Keeps.upd ?_ rfl rfl rfl rfl rfl rfl rfl

theorem doRead_keeps {r s : State} {H a2 a3} (_h_H : Hooks.Keeps H) (h_s : Keeps r s) :
    Keeps r (doRead H s a2 a3).2.2 := by
  unfold doRead
  repeat' first
    | with_reducible assumption
    | (extract_lets +onlyGivenNames x; clear_value x)
    | split

theorem State.baseUpdate_keeps {r s : State} (h_s : Keeps r s) :
    Keeps r (State.baseUpdate s) := by
  unfold State.baseUpdate
  repeat' first
    | with_reducible assumption
    | with_reducible apply State.wr_keeps
    | split

theorem State.enterMode_keeps {r s : State} (h_s : Keeps r s) :
    Keeps r (State.enterMode s) := by
  unfold State.enterMode
  repeat' first
    | with_reducible assumption
    | (extract_lets +onlyGivenNames x; clear_value x)
    | split
    | with_reducible refine Keeps.upd ?_ rfl rfl rfl rfl rfl rfl rfl

theorem State.wrBit_keeps {r s : State} {a1 a2 a3} (h_s : Keeps r s) :
    Keeps r (State.wrBit s a1 a2 a3) := by
  unfold State.wrBit
  repeat' first
    | with_reducible assumption
    | with_reducible apply State.wr_keeps

theorem State.cicPut_keeps {r s : State} {a1 a2} (h_s : Keeps r s) :
    Keeps r (State.cicPut s a1 a2) := by
  unfold State.cicPut
  repeat' first
    | with_reducible assumption
    | (extract_lets +onlyGivenNames x; clear_value x)
    | with_reducible refine Keeps.upd ?_ rfl rfl rfl rfl rfl rfl rfl

theorem State.regionRelease_keeps {r s : State} {a1} (h_s : Keeps r s) :
    Keeps r (State.regionRelease s a1) := by
  unfold State.regionRelease
  repeat' first
    | with_reducible assumption
    | (extract_lets +onlyGivenNames x; clear_value x)
    | with_reducible apply State.wrBit_keeps
    | split
    | with_reducible refine Keeps.upd ?_ rfl rfl rfl rfl rfl rfl rfl

theorem State.keepPerm_keeps {r s : State} {a1 a2} (h_s : Keeps r s) :
    Keeps r (State.keepPerm s a1 a2) := by
  unfold State.keepPerm
  repeat' first
    | with_reducible assumption
    | (extract_lets +onlyGivenNames x; clear_value x)
    | split
    | with_reducible refine Keeps.upd ?_ rfl rfl rfl rfl rfl rfl rfl

theorem doBlockRead_keeps {r s : State} {H a2 a3} (_h_H : Hooks.Keeps H) (h_s : Keeps r s) :
    Keeps r (doBlockRead H s a2 a3).2.2 := by
  unfold doBlockRead
  repeat' first
    | with_reducible assumption
    | (extract_lets +onlyGivenNames x; clear_value x)
    | split

theorem State.putWindow_keeps {r s : State} {a1 a2} (h_s : Keeps r s) :
    Keeps r (State.putWindow s a1 a2) := by
  unfold State.putWindow
  repeat' first
    | with_reducible assumption
    | (extract_lets +onlyGivenNames x; (have _ : Collector := x; unfold x; clear x))
    | with_reducible refine Keeps.upd ?_ rfl rfl rfl rfl rfl rfl rfl

theorem State.cicFinish_keeps {r s : State} {a1 a2} (h_s : Keeps r s) :
    Keeps r (State.cicFinish s a1 a2) := by
  unfold State.cicFinish
  repeat' first
    | with_reducible assumption
    | (extract_lets +onlyGivenNames x; clear_value x)
    | with_reducible apply State.cicPut_keeps
    | split

theorem State.pmbusPoll_keeps {r s : State} {a1} (h_s : Keeps r s) :
    Keeps r (State.pmbusPoll s a1) := by
  unfold State.pmbusPoll
  repeat' first
    | with_reducible assumption
    | (extract_lets +onlyGivenNames x; clear_value x)
    | with_reducible refine Keeps.upd ?_ rfl rfl rfl rfl rfl rfl rfl

theorem State.cicUnfence_keeps {r s : State} {a1} (h_s : Keeps r s) :
    Keeps r (State.cicUnfence s a1) := by
  unfold State.cicUnfence
  repeat' first
    | with_reducible assumption
    | (extract_lets +onlyGivenNames x; clear_value x)
    | with_reducible refine Keeps.upd ?_ rfl rfl rfl rfl rfl rfl rfl

theorem State.alignStep_keeps {r s : State} (h_s : Keeps r s) :
    Keeps r (State.alignStep s) := by
  unfold State.alignStep
  repeat' first
    | with_reducible assumption
    | (extract_lets +onlyGivenNames x; clear_value x)
    | with_reducible apply State.wrBit_keeps
    | with_reducible apply State.wr_keeps
    | split
    | with_reducible refine Keeps.upd ?_ rfl rfl rfl rfl rfl rfl rfl

theorem State.putMailbox_keeps {r s : State} {a1 a2} (h_s : Keeps r s) :
    Keeps r (State.putMailbox s a1 a2) := by
  unfold State.putMailbox
  repeat' first
    | with_reducible assumption
    | (extract_lets +onlyGivenNames x; (have _ : Croft := x; unfold x; clear x))
    | with_reducible refine Keeps.upd ?_ rfl rfl rfl rfl rfl rfl rfl

theorem State.moverSync_keeps {r s : State} {a1} (h_s : Keeps r s) :
    Keeps r (State.moverSync s a1) := by
  unfold State.moverSync
  repeat' first
    | with_reducible assumption
    | with_reducible apply State.wr_keeps

theorem State.journalWrite_keeps {r s s1 : State} {a2} (h_s : Keeps r s) (_h_s1 : Keeps r s1) :
    Keeps r (State.journalWrite s s1 a2) := by
  unfold State.journalWrite
  repeat' first
    | with_reducible assumption
    | (extract_lets +onlyGivenNames x
       first
       | (have _ : Croft := x; unfold x; clear x)
       | clear_value x)
    | split
    | with_reducible refine Keeps.upd ?_ rfl rfl rfl rfl rfl rfl rfl

theorem crookSend_keeps {r s : State} {H a2 a3 a4} (h_H : Hooks.Keeps H) (h_s : Keeps r s) :
    Keeps r (crookSend H s a2 a3 a4) := by
  unfold crookSend
  repeat' first
    | with_reducible assumption
    | (extract_lets +onlyGivenNames x; clear_value x)
    | with_reducible apply State.putMailbox_keeps
    | with_reducible apply State.emit_keeps
    | with_reducible apply h_H.mailbox
    | split

theorem State.ppsOut_keeps {r s : State} (h_s : Keeps r s) :
    Keeps r (State.ppsOut s) := by
  unfold State.ppsOut
  repeat' first
    | with_reducible assumption
    | (extract_lets +onlyGivenNames x
       first
       | clear_value x
       | (unfold x; clear x))
    | with_reducible apply State.emit_keeps
    | split
    | with_reducible refine Keeps.upd ?_ rfl rfl rfl rfl rfl rfl rfl

theorem State.tallyPut_keeps {r s : State} {a1 a2} (h_s : Keeps r s) :
    Keeps r (State.tallyPut s a1 a2) := by
  unfold State.tallyPut
  repeat' first
    | with_reducible assumption
    | (extract_lets +onlyGivenNames x; clear_value x)
    | with_reducible refine Keeps.upd ?_ rfl rfl rfl rfl rfl rfl rfl

theorem State.stepdown_keeps {r s : State} {a1} (h_s : Keeps r s) :
    Keeps r (State.stepdown s a1) := by
  unfold State.stepdown
  repeat' first
    | with_reducible assumption
    | (extract_lets +onlyGivenNames x; clear_value x)
    | split
    | with_reducible refine Keeps.upd ?_ rfl rfl rfl rfl rfl rfl rfl

theorem State.ptpAnnounce_keeps {r s : State} {a1} (h_s : Keeps r s) :
    Keeps r (State.ptpAnnounce s a1) := by
  unfold State.ptpAnnounce
  repeat' first
    | with_reducible assumption
    | (extract_lets +onlyGivenNames x; clear_value x)
    | split
    | with_reducible refine Keeps.upd ?_ rfl rfl rfl rfl rfl rfl rfl

theorem State.sub_keeps {r s : State} {a1 a2} (h_s : Keeps r s) :
    Keeps r (State.sub s a1 a2) := by
  unfold State.sub
  repeat' first
    | with_reducible assumption
    | with_reducible apply State.wr_keeps

theorem helloReply_keeps {r s : State} {H a2 a3 a4 a5 a6 a7 a8 a9 a10 a11} (h_H : Hooks.Keeps H) (h_s : Keeps r s) :
    Keeps r (helloReply H s a2 a3 a4 a5 a6 a7 a8 a9 a10 a11) := by
  unfold helloReply
  repeat' first
    | with_reducible assumption
    | (extract_lets +onlyGivenNames x; clear_value x)
    | with_reducible apply crookSend_keeps

theorem State.cicFence_keeps {r s : State} {a1} (h_s : Keeps r s) :
    Keeps r (State.cicFence s a1) := by
  unfold State.cicFence
  repeat' first
    | with_reducible assumption
    | intro _
    | (extract_lets +onlyGivenNames x
       first
       | (refine Keeps.cut (r := r) (x := x) ?_ ?_ <;> first | (intro _; clear_value x) | (unfold x; clear x))
       | clear_value x)
    | with_reducible apply forEach_keeps
    | with_reducible apply State.cicFinish_keeps
    | split
    | with_reducible refine Keeps.upd ?_ rfl rfl rfl rfl rfl rfl rfl

theorem State.react_keeps {r s : State} {a1 a2 a3} (h_s : Keeps r s) :
    Keeps r (State.react s a1 a2 a3) := by
  unfold State.react
  repeat' first
    | with_reducible assumption
    | (extract_lets +onlyGivenNames x
       first
       | (refine Keeps.cut (r := r) (x := x) ?_ ?_ <;> first | (intro _; clear_value x) | (unfold x; clear x))
       | (have _ : Collector := x; unfold x; clear x)
       | (have _ := (x : _ → State); unfold x; clear x))
    | split
    | with_reducible refine Keeps.upd ?_ rfl rfl rfl rfl rfl rfl rfl

theorem State.add_keeps {r s : State} {a1 a2} (h_s : Keeps r s) :
    Keeps r (State.add s a1 a2) := by
  unfold State.add
  repeat' first
    | with_reducible assumption
    | with_reducible apply State.wr_keeps

theorem State.brakeOff_keeps {r s : State} (h_s : Keeps r s) :
    Keeps r (State.brakeOff s) := by
  unfold State.brakeOff
  repeat' first
    | with_reducible assumption
    | (extract_lets +onlyGivenNames x; clear_value x)
    | split
    | with_reducible refine Keeps.upd ?_ rfl rfl rfl rfl rfl rfl rfl

theorem State.closeSession_keeps {r s : State} {a1} (h_s : Keeps r s) :
    Keeps r (State.closeSession s a1) := by
  unfold State.closeSession
  repeat' first
    | with_reducible assumption
    | with_reducible apply State.putSession_keeps

theorem State.servoUpdate_keeps {r s : State} {a1 a2 a3 a4} (h_s : Keeps r s) :
    Keeps r (State.servoUpdate s a1 a2 a3 a4) := by
  unfold State.servoUpdate
  repeat' first
    | with_reducible assumption
    | (extract_lets +onlyGivenNames x
       first
       | (refine Keeps.cut (r := r) (x := x) ?_ ?_ <;> first | (intro _; clear_value x) | (unfold x; clear x))
       | clear_value x)
    | with_reducible apply State.tick_keeps
    | with_reducible apply State.wr_keeps
    | with_reducible refine Keeps.upd ?_ rfl rfl rfl rfl rfl rfl rfl

theorem txnIdle_keeps {r s : State} {a0} (h_s : Keeps r s) :
    Keeps r (txnIdle a0 s) := by
  unfold txnIdle
  repeat' first
    | with_reducible assumption
    | (extract_lets +onlyGivenNames x; clear_value x)
    | with_reducible apply State.putSession_keeps
    | split

theorem State.windowTick_keeps {r s : State} (h_s : Keeps r s) :
    Keeps r (State.windowTick s) := by
  unfold State.windowTick
  repeat' first
    | with_reducible assumption
    | intro _
    | (extract_lets +onlyGivenNames x
       first
       | (have _ : Collector := x; unfold x; clear x)
       | clear_value x)
    | with_reducible apply forEach_keeps
    | with_reducible apply State.putWindow_keeps
    | split
    | with_reducible refine Keeps.upd ?_ rfl rfl rfl rfl rfl rfl rfl

theorem State.wrBits_keeps {r s : State} {a1 a2 a3 a4} (h_s : Keeps r s) :
    Keeps r (State.wrBits s a1 a2 a3 a4) := by
  unfold State.wrBits
  repeat' first
    | with_reducible assumption
    | with_reducible apply State.wr_keeps

theorem State.ptpUnlock_keeps {r s : State} (h_s : Keeps r s) :
    Keeps r (State.ptpUnlock s) := by
  unfold State.ptpUnlock
  repeat' first
    | with_reducible assumption
    | (extract_lets +onlyGivenNames x; clear_value x)
    | with_reducible apply State.wr_keeps
    | split
    | with_reducible refine Keeps.upd ?_ rfl rfl rfl rfl rfl rfl rfl

theorem crookDrop_keeps {r s : State} {a1} (h_s : Keeps r s) :
    Keeps r (crookDrop s a1) := by
  unfold crookDrop
  repeat' first
    | with_reducible assumption
    | (extract_lets +onlyGivenNames x; clear_value x)
    | with_reducible apply State.putMailbox_keeps
    | split

theorem State.ptpSync_keeps {r s : State} {a1} (h_s : Keeps r s) :
    Keeps r (State.ptpSync s a1) := by
  unfold State.ptpSync
  repeat' first
    | with_reducible assumption
    | (extract_lets +onlyGivenNames x
       first
       | (refine Keeps.cut (r := r) (x := x) ?_ ?_ <;> first | (intro _; clear_value x) | (unfold x; clear x))
       | clear_value x)
    | with_reducible apply State.emit_keeps
    | with_reducible apply State.servoUpdate_keeps
    | split
    | with_reducible refine Keeps.upd ?_ rfl rfl rfl rfl rfl rfl rfl

theorem storeWire_keeps {r s : State} {a1 a2} (h_s : Keeps r s) :
    Keeps r (storeWire s a1 a2) := by
  unfold storeWire
  repeat' first
    | with_reducible assumption
    | with_reducible apply State.wro_keeps
    | with_reducible apply State.keepPerm_keeps
    | with_reducible apply State.wr_keeps
    | split

theorem answer_keeps {r s : State} {H a2 a3 a4 a5 a6 a7} (h_H : Hooks.Keeps H) (h_s : Keeps r s) :
    Keeps r (answer H s a2 a3 a4 a5 a6 a7) := by
  unfold answer
  repeat' first
    | with_reducible assumption
    | (extract_lets +onlyGivenNames x; clear_value x)
    | with_reducible apply crookSend_keeps
    | with_reducible apply State.putSession_keeps

theorem doRollback_keeps {r s : State} {H a2 a3 a4} (h_H : Hooks.Keeps H) (h_s : Keeps r s) :
    Keeps r (doRollback H s a2 a3 a4) := by
  unfold doRollback
  repeat' first
    | with_reducible assumption
    | (extract_lets +onlyGivenNames x
       first
       | (have _ := (x : _ → State); unfold x; clear x)
       | clear_value x)
    | with_reducible apply State.closeSession_keeps
    | with_reducible apply answer_keeps
    | with_reducible apply State.putSession_keeps
    | split

theorem State.thermalRelease_keeps {r s : State} {a1} (h_s : Keeps r s) :
    Keeps r (State.thermalRelease s a1) := by
  unfold State.thermalRelease
  repeat' first
    | with_reducible assumption
    | (extract_lets +onlyGivenNames x; clear_value x)
    | with_reducible apply State.wrBit_keeps
    | split
    | with_reducible refine Keeps.upd ?_ rfl rfl rfl rfl rfl rfl rfl

theorem State.ptpHoldover_keeps {r s : State} (h_s : Keeps r s) :
    Keeps r (State.ptpHoldover s) := by
  unfold State.ptpHoldover
  repeat' first
    | with_reducible assumption
    | (extract_lets +onlyGivenNames x; clear_value x)
    | with_reducible apply State.wrBit_keeps
    | split
    | with_reducible refine Keeps.upd ?_ rfl rfl rfl rfl rfl rfl rfl

theorem notifySend_keeps {r s : State} {H a2 a3 a4} (h_H : Hooks.Keeps H) (h_s : Keeps r s) :
    KeepsO r (notifySend H s a2 a3 a4) := by
  unfold notifySend
  repeat' first
    | with_reducible assumption
    | (extract_lets +onlyGivenNames x
       first
       | (refine Keeps.cut (r := r) (x := x) ?_ ?_ <;> first | (intro _; clear_value x) | (unfold x; clear x))
       | clear_value x)
    | with_reducible apply State.putSession_keeps
    | with_reducible apply State.emit_keeps
    | with_reducible apply State.putMailbox_keeps
    | with_reducible apply h_H.mailbox
    | split
    | with_reducible apply KeepsO.none
    | with_reducible apply KeepsO.some

theorem doSubscribe_keeps {r s : State} {H a2 a3} (_h_H : Hooks.Keeps H) (h_s : Keeps r s) :
    Keeps r (doSubscribe H s a2 a3).2.2 := by
  unfold doSubscribe
  repeat' first
    | with_reducible assumption
    | (extract_lets +onlyGivenNames x; clear_value x)
    | with_reducible apply State.putSession_keeps
    | split

theorem answerOnly_keeps {r s : State} {H a2 a3 a4 a5 a6} (h_H : Hooks.Keeps H) (h_s : Keeps r s) :
    Keeps r (answerOnly H s a2 a3 a4 a5 a6) := by
  unfold answerOnly
  repeat' first
    | with_reducible assumption
    | (extract_lets +onlyGivenNames x; clear_value x)
    | with_reducible apply crookSend_keeps

theorem notifyOne_keeps {r s : State} {H a1 a2 a3 a4 a6} (h_H : Hooks.Keeps H) (h_s : Keeps r s) :
    Keeps r (notifyOne H a1 a2 a3 a4 s a6) := by
  unfold notifyOne
  repeat' first
    | with_reducible assumption
    | (extract_lets +onlyGivenNames x; clear_value x)
    | with_reducible apply notifySend_keeps
    | with_reducible apply State.putSession_keeps
    | split
    | (with_reducible refine KeepsO.elim (by with_reducible assumption) ?_)

theorem sessionIdle_keeps {r s : State} {a0} (h_s : Keeps r s) :
    Keeps r (sessionIdle a0 s) := by
  unfold sessionIdle
  repeat' first
    | with_reducible assumption
    | (extract_lets +onlyGivenNames x; clear_value x)
    | with_reducible apply State.closeSession_keeps
    | split

theorem State.faultWindowAdvance_keeps {r s : State} {a1} (h_s : Keeps r s) : Keeps r (State.faultWindowAdvance s a1) := by
  unfold State.faultWindowAdvance
  split
  · exact Keeps.upd h_s rfl rfl rfl rfl rfl rfl rfl
  · exact Keeps.iter_snd (fun p q h e => by
      split at e
      · cases e
      · cases e; exact State.windowTick_keeps h) _ _ (Keeps.upd h_s rfl rfl rfl rfl rfl rfl rfl)

theorem State.bump_keeps {r s : State} {a1} (h_s : Keeps r s) :
    Keeps r (State.bump s a1) := by
  unfold State.bump
  repeat' first
    | with_reducible assumption
    | with_reducible apply State.add_keeps

theorem State.putTxn_keeps {r s : State} {a1 a2} (h_s : Keeps r s) :
    Keeps r (State.putTxn s a1 a2) := by
  unfold State.putTxn
  repeat' first
    | with_reducible assumption
    | (extract_lets +onlyGivenNames x; clear_value x)
    | with_reducible apply State.putSession_keeps

theorem State.closeWhere_keeps {r s : State} {a1} (h_s : Keeps r s) :
    Keeps r (State.closeWhere s a1) := by
  unfold State.closeWhere
  repeat' first
    | with_reducible assumption
    | intro _
    | with_reducible apply forEach_keeps
    | with_reducible apply State.closeSession_keeps

theorem State.cicComplete_keeps {r s : State} {a1 a2} (h_s : Keeps r s) :
    Keeps r (State.cicComplete s a1 a2) := by
  unfold State.cicComplete
  repeat' first
    | with_reducible assumption
    | (extract_lets +onlyGivenNames x
       first
       | (refine Keeps.cut (r := r) (x := x) ?_ ?_ <;> first | (intro _; clear_value x) | (unfold x; clear x))
       | clear_value x)
    | with_reducible apply State.cicFinish_keeps
    | with_reducible apply State.bump_keeps
    | split

theorem State.tallyCollect_keeps {r s : State} {a1} (h_s : Keeps r s) :
    Keeps r (State.tallyCollect s a1) := by
  unfold State.tallyCollect
  repeat' first
    | with_reducible assumption
    | intro _
    | (extract_lets +onlyGivenNames x
       first
       | (refine Keeps.cut (r := r) (x := x) ?_ ?_ <;> first | (intro _; clear_value x) | (unfold x; clear x))
       | clear_value x)
    | with_reducible apply forEach_keeps
    | with_reducible apply State.wr_keeps
    | with_reducible apply State.tick_keeps
    | with_reducible apply State.bump_keeps
    | split
    | with_reducible refine Keeps.upd ?_ rfl rfl rfl rfl rfl rfl rfl

theorem State.ptpFollowUp_keeps {r s : State} {a1} (h_s : Keeps r s) :
    Keeps r (State.ptpFollowUp s a1) := by
  unfold State.ptpFollowUp
  repeat' first
    | with_reducible assumption
    | with_reducible apply State.servoUpdate_keeps
    | split

theorem endCommit_keeps {r s : State} {H a2 a3 a4} (h_H : Hooks.Keeps H) (h_s : Keeps r s) :
    Keeps r (endCommit H s a2 a3 a4) := by
  unfold endCommit
  repeat' first
    | with_reducible assumption
    | (extract_lets +onlyGivenNames x; clear_value x)
    | with_reducible apply answer_keeps
    | with_reducible apply State.putSession_keeps
    | split

theorem writeEffect_keeps {r s : State} {H a2 a3 a4} (h_H : Hooks.Keeps H) (h_s : Keeps r s) :
    Keeps r (writeEffect H s a2 a3 a4).2 := by
  unfold writeEffect
  repeat' first
    | with_reducible assumption
    | with_reducible apply State.bumpVersion_keeps
    | with_reducible apply storeWire_keeps
    | with_reducible apply h_H.write
    | split
    | (with_reducible refine Keeps.of_snd (by with_reducible assumption) ?_)

theorem notifyAll_keeps {r s : State} {H} (h_H : Hooks.Keeps H) (h_s : Keeps r s) :
    Keeps r (notifyAll H s) := by
  unfold notifyAll
  repeat' first
    | with_reducible assumption
    | intro _
    | with_reducible apply forEach_keeps
    | with_reducible apply notifyOne_keeps

theorem applyStaged_keeps {r s : State} {H a1 a2} (h_H : Hooks.Keeps H) (h_s : Keeps r s) : KeepsE r (applyStaged H a1 a2 s) := by
  fun_induction applyStaged H a1 a2 s with
  | case1 => exact KeepsE.ok h_s
  | case2 => exact KeepsE.error
  | case3 s w l _ _ ih => exact ih h_s
  | case4 s w l _ b s1 e ih =>
    refine ih (State.bumpVersion_keeps (storeWire_keeps (Keeps.of_snd e ?_)))
    split
    · exact h_s
    · exact h_H.write h_s
  | case5 => exact KeepsE.error

theorem writeNow_keeps {r s : State} {H a2 a3 a4 a5} (h_H : Hooks.Keeps H) (h_s : Keeps r s) :
    Keeps r (writeNow H s a2 a3 a4 a5).2 := by
  unfold writeNow
  repeat' first
    | with_reducible assumption
    | (extract_lets +onlyGivenNames x; clear_value x)
    | with_reducible apply writeEffect_keeps
    | with_reducible apply State.journalWrite_keeps
    | split
    | (with_reducible refine Keeps.of_snd (by with_reducible assumption) ?_)

theorem rollbackWaiting_keeps {r s : State} {H a2 a3 a4} (h_H : Hooks.Keeps H) (h_s : Keeps r s) :
    Keeps r (rollbackWaiting H s a2 a3 a4) := by
  unfold rollbackWaiting
  repeat' first
    | with_reducible assumption
    | (extract_lets +onlyGivenNames x
       first
       | (refine Keeps.cut (r := r) (x := x) ?_ ?_ <;> first | (intro _; clear_value x) | (unfold x; clear x))
       | clear_value x)
    | with_reducible apply answerOnly_keeps
    | with_reducible apply endCommit_keeps
    | with_reducible apply answer_keeps
    | with_reducible apply State.closeSession_keeps
    | split

theorem State.ppsIn_keeps {r s : State} {a1} (h_s : Keeps r s) :
    Keeps r (State.ppsIn s a1) := by
  unfold State.ppsIn
  repeat' first
    | with_reducible assumption
    | (extract_lets +onlyGivenNames x
       first
       | (refine Keeps.cut (r := r) (x := x) ?_ ?_ <;> first | (intro _; clear_value x) | (unfold x; clear x))
       | clear_value x)
    | with_reducible apply State.tick_keeps
    | with_reducible apply State.wrBit_keeps
    | with_reducible apply State.wr_keeps
    | with_reducible apply State.bump_keeps
    | split
    | with_reducible refine Keeps.upd ?_ rfl rfl rfl rfl rfl rfl rfl

theorem commitTimeout_keeps {r s : State} {H a1} (h_H : Hooks.Keeps H) (h_s : Keeps r s) :
    Keeps r (commitTimeout H a1 s) := by
  unfold commitTimeout
  repeat' first
    | with_reducible assumption
    | with_reducible apply endCommit_keeps
    | with_reducible apply State.bump_keeps
    | split

theorem State.cicClaim_keeps {r s : State} {a1} (h_s : Keeps r s) :
    Keeps r (State.cicClaim s a1).2 := by
  unfold State.cicClaim
  repeat' first
    | with_reducible assumption
    | (extract_lets +onlyGivenNames x
       first
       | (refine Keeps.cut (r := r) (x := x) ?_ ?_ <;> first | (intro _; clear_value x) | (unfold x; clear x))
       | clear_value x)
    | with_reducible apply State.bump_keeps
    | with_reducible apply State.cicPut_keeps
    | split
    | with_reducible refine Keeps.upd ?_ rfl rfl rfl rfl rfl rfl rfl

theorem State.cicLevel_keeps {r s : State} {a1 a2} (h_s : Keeps r s) :
    Keeps r (State.cicLevel s a1 a2) := by
  unfold State.cicLevel
  repeat' first
    | with_reducible assumption
    | (extract_lets +onlyGivenNames x; clear_value x)
    | with_reducible apply State.cicPut_keeps
    | with_reducible apply State.bump_keeps
    | split

theorem doBegin_keeps {r s : State} {a1 a2} (h_s : Keeps r s) :
    Keeps r (doBegin s a1 a2).2.2 := by
  unfold doBegin
  repeat' first
    | with_reducible assumption
    | (extract_lets +onlyGivenNames x
       first
       | (refine Keeps.cut (r := r) (x := x) ?_ ?_ <;> first | (intro _; clear_value x) | (unfold x; clear x))
       | (have _ : Croft := x; unfold x; clear x)
       | clear_value x)
    | with_reducible apply State.putTxn_keeps
    | split
    | with_reducible refine Keeps.upd ?_ rfl rfl rfl rfl rfl rfl rfl

theorem State.cicRead_keeps {r s : State} {a1 a2} (h_s : Keeps r s) :
    KeepsP r (State.cicRead s a1 a2) := by
  unfold State.cicRead
  repeat' first
    | with_reducible assumption
    | (extract_lets +onlyGivenNames x; clear_value x)
    | with_reducible apply State.cicClaim_keeps
    | split
    | with_reducible apply KeepsP.none
    | with_reducible apply KeepsP.some

theorem doWrite_keeps {r s : State} {H a2 a3} (h_H : Hooks.Keeps H) (h_s : Keeps r s) :
    Keeps r (doWrite H s a2 a3).2.2 := by
  unfold doWrite
  repeat' first
    | with_reducible assumption
    | (extract_lets +onlyGivenNames x; clear_value x)
    | with_reducible apply State.putTxn_keeps
    | with_reducible apply writeNow_keeps
    | split
    | (with_reducible refine Keeps.of_snd (by with_reducible assumption) ?_)

theorem validate_keeps {r s : State} {H a2 a3} (h_H : Hooks.Keeps H) (h_s : Keeps r s) :
    KeepsE r (validate H s a2 a3) := by
  unfold validate
  repeat' first
    | with_reducible assumption
    | (extract_lets +onlyGivenNames x; clear_value x)
    | with_reducible apply applyStaged_keeps
    | split
    | with_reducible apply KeepsE.ok
    | with_reducible apply KeepsE.error
    | (with_reducible refine KeepsE.elim (by with_reducible assumption) ?_)

theorem State.externalLine_keeps {r s : State} {a1 a2 a3} (h_s : Keeps r s) :
    Keeps r (State.externalLine s a1 a2 a3) := by
  unfold State.externalLine
  repeat' first
    | with_reducible assumption
    | (extract_lets +onlyGivenNames x
       first
       | (refine Keeps.cut (r := r) (x := x) ?_ ?_ <;> first | (intro _; clear_value x) | (unfold x; clear x))
       | clear_value x)
    | with_reducible apply State.cicLevel_keeps
    | with_reducible apply State.bump_keeps
    | split

theorem actionWrite_keeps {r s : State} {H a1 a2 a3} (h_H : Hooks.Keeps H) (h_s : Keeps r s) :
    Keeps r (actionWrite H a1 a2 a3 s) := by
  unfold actionWrite
  repeat' first
    | with_reducible assumption
    | with_reducible apply writeNow_keeps
    | with_reducible apply State.emit_keeps
    | split

theorem writeAll_keeps {r s0 s : State} {H a1 a2} (h_H : Hooks.Keeps H) (h_s : Keeps r s) : Keeps r (writeAll H s0 a1 a2 s).1 := by
  fun_induction writeAll H s0 a1 a2 s with
  | case1 => exact h_s
  | case2 => exact h_s
  | case3 _ _ _ _ _ _ _ e ih => exact ih (Keeps.of_snd e (writeEffect_keeps h_H h_s))
  | case4 => exact h_s

theorem State.cicRaise_keeps {r s : State} {a1} (h_s : Keeps r s) :
    Keeps r (State.cicRaise s a1) := by
  unfold State.cicRaise
  repeat' first
    | with_reducible assumption
    | with_reducible apply State.cicLevel_keeps

theorem State.cicPolarity_keeps {r s : State} {a1 a2} (h_s : Keeps r s) :
    Keeps r (State.cicPolarity s a1 a2) := by
  unfold State.cicPolarity
  repeat' first
    | with_reducible assumption
    | with_reducible apply State.cicLevel_keeps
    | split

theorem State.govSync_keeps {r s : State} (h_s : Keeps r s) :
    Keeps r (State.govSync s) := by
  unfold State.govSync
  repeat' first
    | with_reducible assumption
    | with_reducible apply State.cicLevel_keeps
    | with_reducible apply State.wr_keeps

theorem State.cicTally_keeps {r s : State} {a1} (h_s : Keeps r s) :
    Keeps r (State.cicTally s a1) := by
  unfold State.cicTally
  repeat' first
    | with_reducible assumption
    | with_reducible apply State.cicLevel_keeps

theorem doBlockWrite_keeps {r s : State} {H a2 a3} (h_H : Hooks.Keeps H) (h_s : Keeps r s) : Keeps r (doBlockWrite H s a2 a3).2.2 := by
  unfold doBlockWrite
  refine Keeps.ite_thd h_s (Keeps.ite_thd h_s ?_)
  extract_lets idx first count off last d k staged dom t x s0 lastKey
  refine Keeps.ite_thd h_s (Keeps.ite_thd h_s (Keeps.ite_thd h_s (Keeps.ite_thd h_s ?_)))
  have h0 : Keeps r s0 := State.putSession_keeps h_s
  clear_value s0 t dom lastKey k staged
  refine Keeps.ite_thd ?_ ?_
  · refine Keeps.ite_thd h_s ?_
    split
    · exact State.putSession_keeps h_s
    · refine Keeps.ite_thd (State.putSession_keeps h_s) (Keeps.ite_thd ?_ ?_)
      · split
        exact Keeps.ite_thd (State.putTxn_keeps h0) h0
      · split
        exact Keeps.ite_thd (Keeps.of_snd ‹_› (writeNow_keeps h_H h0)) h0
  · split
    · exact h_s
    · refine Keeps.ite_thd ?_ ?_
      · split
        · exact State.putTxn_keeps h_s
        · exact h_s
      · split
        · exact State.journalWrite_keeps (Keeps.of_fst ‹_› (writeAll_keeps h_H h_s)) h_s
        · exact h_s

theorem State.setGrant_keeps {r s : State} {a1 a2} (h_s : Keeps r s) :
    Keeps r (State.setGrant s a1 a2) := by
  unfold State.setGrant
  repeat' first
    | with_reducible assumption
    | (extract_lets +onlyGivenNames x
       first
       | (refine Keeps.cut (r := r) (x := x) ?_ ?_ <;> first | (intro _; clear_value x) | (unfold x; clear x))
       | clear_value x)
    | with_reducible apply State.govSync_keeps
    | with_reducible apply State.moverSync_keeps
    | split
    | with_reducible refine Keeps.upd ?_ rfl rfl rfl rfl rfl rfl rfl

theorem State.cicConfigure_keeps {r s : State} {a1 a2} (h_s : Keeps r s) :
    Keeps r (State.cicConfigure s a1 a2) := by
  unfold State.cicConfigure
  repeat' first
    | with_reducible assumption
    | intro _
    | (extract_lets +onlyGivenNames x; clear_value x)
    | with_reducible apply when_keeps
    | with_reducible apply State.cicPolarity_keeps
    | with_reducible apply State.wr_keeps
    | split

theorem doCommit_keeps {r s : State} {H a2 a3 a4} (_h_H : Hooks.Keeps H) (h_s : Keeps r s) :
    Keeps r (doCommit H s a2 a3 a4).2 := by
  unfold doCommit
  repeat' first
    | with_reducible assumption
    | (extract_lets +onlyGivenNames x; clear_value x)
    | with_reducible apply State.putSession_keeps
    | split

theorem State.withdrawSteps_keeps {r s : State} {a1 a2} (h_s : Keeps r s) :
    Keeps r (State.withdrawSteps s a1 a2) := by
  unfold State.withdrawSteps
  repeat' first
    | with_reducible assumption
    | (extract_lets +onlyGivenNames x
       first
       | (have _ : Drv := x; unfold x; clear x)
       | clear_value x)
    | with_reducible apply State.setGrant_keeps
    | with_reducible refine Keeps.upd ?_ rfl rfl rfl rfl rfl rfl rfl

theorem execute_keeps {r s : State} {H a2 a3 a4 a5} (h_H : Hooks.Keeps H) (h_s : Keeps r s) :
    Keeps r (execute H s a2 a3 a4 a5) := by
  unfold execute
  repeat' first
    | with_reducible assumption
    | (extract_lets +onlyGivenNames x
       first
       | (have _ := (x : _ → State); unfold x; clear x)
       | clear_value x)
    | with_reducible apply answer_keeps
    | with_reducible apply crookSend_keeps
    | with_reducible apply doRead_keeps
    | with_reducible apply doWrite_keeps
    | with_reducible apply doBlockRead_keeps
    | with_reducible apply doBlockWrite_keeps
    | with_reducible apply doBegin_keeps
    | with_reducible apply doCommit_keeps
    | with_reducible apply crookDrop_keeps
    | with_reducible apply doRollback_keeps
    | with_reducible apply doSubscribe_keeps
    | split
    | (with_reducible refine Keeps.of_snd (by with_reducible assumption) ?_)

theorem govAnswer_keeps {r : State} {w : State × Int × Bool × List GovRequest} {q : GovRequest} (h : Keeps r w.1) :
    Keeps r (govAnswer w q).1 := by
  obtain ⟨s, avail, blocked, stay⟩ := w
  have ans : ∀ give, Keeps r (let s1 : State := s.setGrant q.requester (s.granted q.requester + give)
      let s2 : State := { s1 with gov := { s1.gov with
        answers := s1.gov.answers ++ [{ requester := q.requester, given := give, unit_ := q.unit_ }]
        pointer := if give = 0 then s1.gov.pointer else (q.requester + 1) % 98 } }
      if give = 0 then s2 else s2.bump K.HRD_GOV_GRANTS) := fun give => by
    extract_lets s1 g s2
    have h2 : Keeps r s2 := Keeps.upd (s := s1) (State.setGrant_keeps h) rfl rfl rfl rfl rfl rfl rfl
    exact Keeps.ite h2 (State.bump_keeps h2)
  unfold govAnswer
  simp only []
  split
  · exact ans _
  · split
    · exact h
    · split
      · exact ans _
      · split
        · exact h
        · exact h

theorem State.govBoundary_keeps {r s : State} (h_s : Keeps r s) :
    Keeps r (State.govBoundary s) := by
  unfold State.govBoundary
  repeat' first
    | with_reducible assumption
    | (extract_lets +onlyGivenNames x
       first
       | (refine Keeps.cut (r := r) (x := x) ?_ ?_ <;> first | (intro _; clear_value x) | (unfold x; clear x))
       | clear_value x)
    | with_reducible apply State.wrBit_keeps
    | with_reducible apply State.govSync_keeps
    | split
    | with_reducible refine Keeps.upd ?_ rfl rfl rfl rfl rfl rfl rfl

theorem State.tallyOvfClear_keeps {r s : State} {a1} (h_s : Keeps r s) :
    Keeps r (State.tallyOvfClear s a1) := by
  unfold State.tallyOvfClear
  repeat' first
    | with_reducible assumption
    | with_reducible apply State.cicTally_keeps
    | with_reducible apply State.wrBit_keeps
    | split

theorem State.cicWrite_keeps {r s : State} {a1 a2 a3} (h_s : Keeps r s) : KeepsO r (State.cicWrite s a1 a2 a3) := by
  unfold State.cicWrite
  refine KeepsO.ite KeepsO.none (KeepsO.ite (KeepsO.some (State.cicConfigure_keeps h_s)) (KeepsO.ite (KeepsO.some (State.wr_keeps h_s))
    (KeepsO.ite (KeepsO.some (Keeps.upd h_s rfl rfl rfl rfl rfl rfl rfl)) (KeepsO.ite ?_ KeepsO.none))))
  generalize (a2 - 0x4000) % 0x100 = o
  split
  · exact KeepsO.some (Keeps.upd h_s rfl rfl rfl rfl rfl rfl rfl)
  · exact KeepsO.some (State.cicComplete_keeps h_s)
  · exact KeepsO.none

theorem sessionRequest_keeps {r s : State} {H a2 a3 a4 a5} (h_H : Hooks.Keeps H) (h_s : Keeps r s) :
    Keeps r (sessionRequest H s a2 a3 a4 a5) := by
  unfold sessionRequest
  repeat' first
    | with_reducible assumption
    | (extract_lets +onlyGivenNames x
       first
       | (refine Keeps.cut (r := r) (x := x) ?_ ?_ <;> first | (intro _; clear_value x) | (unfold x; clear x))
       | clear_value x)
    | with_reducible apply State.putSession_keeps
    | with_reducible apply crookDrop_keeps
    | with_reducible apply rollbackWaiting_keeps
    | with_reducible apply answerOnly_keeps
    | with_reducible apply crookSend_keeps
    | with_reducible apply execute_keeps
    | split

theorem State.tallyAdd_keeps {r s : State} {a1 a2} (h_s : Keeps r s) :
    Keeps r (State.tallyAdd s a1 a2) := by
  unfold State.tallyAdd
  repeat' first
    | with_reducible assumption
    | intro _
    | (extract_lets +onlyGivenNames x
       first
       | (refine Keeps.cut (r := r) (x := x) ?_ ?_ <;> first | (intro _; clear_value x) | (unfold x; clear x))
       | clear_value x)
    | with_reducible apply State.tallyPut_keeps
    | with_reducible apply State.add_keeps
    | with_reducible apply when_keeps
    | with_reducible apply State.cicTally_keeps
    | with_reducible apply State.wrBit_keeps
    | split

theorem State.govRelease_keeps {r s : State} {a1} (h_s : Keeps r s) :
    Keeps r (State.govRelease s a1) := by
  unfold State.govRelease
  repeat' first
    | with_reducible assumption
    | (extract_lets +onlyGivenNames x; clear_value x)
    | with_reducible apply State.setGrant_keeps
    | with_reducible refine Keeps.upd ?_ rfl rfl rfl rfl rfl rfl rfl

theorem State.rebalance_keeps {r s : State} (h_s : Keeps r s) : Keeps r (State.rebalance s) := by
  unfold State.rebalance
  extract_lets due new rot ordered avail w s1 again
  have h1 : Keeps r s1 := Keeps.foldl_fst (fun _ _ h => govAnswer_keeps h) ordered _ h_s
  clear_value s1
  exact State.govSync_keeps (Keeps.upd h1 rfl rfl rfl rfl rfl rfl rfl)

theorem State.brakeOn_keeps {r s : State} (h_s : Keeps r s) :
    Keeps r (State.brakeOn s) := by
  unfold State.brakeOn
  repeat' first
    | with_reducible assumption
    | intro _
    | (extract_lets +onlyGivenNames x
       first
       | (refine Keeps.cut (r := r) (x := x) ?_ ?_ <;> first | (intro _; clear_value x) | (unfold x; clear x))
       | clear_value x)
    | with_reducible apply forEach_keeps
    | with_reducible apply State.withdrawSteps_keeps
    | with_reducible apply State.setGrant_keeps
    | with_reducible apply State.govSync_keeps
    | split
    | with_reducible refine Keeps.upd ?_ rfl rfl rfl rfl rfl rfl rfl

theorem State.countN_keeps {r s : State} {a1 a2 a3} (h_s : Keeps r s) :
    Keeps r (State.countN s a1 a2 a3) := by
  unfold State.countN
  repeat' first
    | with_reducible assumption
    | intro _
    | with_reducible apply forEach_keeps
    | with_reducible apply State.tallyAdd_keeps

theorem State.count_keeps {r s : State} {a1 a2} (h_s : Keeps r s) :
    Keeps r (State.count s a1 a2) := by
  unfold State.count
  repeat' first
    | with_reducible assumption
    | with_reducible apply State.countN_keeps

theorem State.govRequest_keeps {r s : State} {a1 a2 a3} (h_s : Keeps r s) :
    Keeps r (State.govRequest s a1 a2 a3) := by
  unfold State.govRequest
  repeat' first
    | with_reducible assumption
    | (extract_lets +onlyGivenNames x
       first
       | (refine Keeps.cut (r := r) (x := x) ?_ ?_ <;> first | (intro _; clear_value x) | (unfold x; clear x))
       | clear_value x)
    | with_reducible apply State.govSync_keeps
    | with_reducible apply State.count_keeps
    | with_reducible refine Keeps.upd ?_ rfl rfl rfl rfl rfl rfl rfl

theorem commitOne_keeps {r s : State} {H a2} (h_H : Hooks.Keeps H) (h_s : Keeps r s) :
    Keeps r (commitOne H s a2) := by
  unfold commitOne
  repeat' first
    | with_reducible assumption
    | intro _
    | (extract_lets +onlyGivenNames x
       first
       | (refine Keeps.cut (r := r) (x := x) ?_ ?_ <;> first | (intro _; clear_value x) | (unfold x; clear x))
       | clear_value x)
    | with_reducible apply endCommit_keeps
    | with_reducible apply State.bump_keeps
    | with_reducible apply State.putSession_keeps
    | with_reducible apply validate_keeps
    | with_reducible apply State.count_keeps
    | with_reducible apply State.journalWrite_keeps
    | with_reducible apply when_keeps
    | with_reducible apply State.cicRaise_keeps
    | with_reducible apply crookSend_keeps
    | with_reducible apply h_H.applied
    | split
    | (with_reducible refine KeepsE.elim (by with_reducible assumption) ?_)

theorem commitApplyAll_keeps {r s : State} {H} (h_H : Hooks.Keeps H) (h_s : Keeps r s) :
    Keeps r (commitApplyAll H s) := by
  unfold commitApplyAll
  repeat' first
    | with_reducible assumption
    | intro _
    | with_reducible apply forEach_keeps
    | with_reducible apply commitOne_keeps

theorem State.writeRecord_keeps {r s : State} {a1} (h_s : Keeps r s) :
    Keeps r (State.writeRecord s a1) := by
  unfold State.writeRecord
  repeat' first
    | with_reducible assumption
    | intro _
    | (extract_lets +onlyGivenNames x
       first
       | (refine Keeps.cut (r := r) (x := x) ?_ ?_ <;> first | (intro _; clear_value x) | (unfold x; clear x))
       | (have _ : Collector := x; unfold x; clear x)
       | clear_value x)
    | with_reducible apply State.count_keeps
    | with_reducible apply State.cicRaise_keeps
    | with_reducible apply when_keeps
    | with_reducible apply State.bump_keeps
    | split
    | with_reducible refine Keeps.upd ?_ rfl rfl rfl rfl rfl rfl rfl

theorem State.record_keeps {r s : State} {a1} (h_s : Keeps r s) :
    Keeps r (State.record s a1) := by
  unfold State.record
  repeat' first
    | with_reducible assumption
    | (extract_lets +onlyGivenNames x
       first
       | (have _ : Collector := x; unfold x; clear x)
       | clear_value x)
    | with_reducible apply State.writeRecord_keeps
    | with_reducible apply State.bump_keeps
    | split
    | with_reducible refine Keeps.upd ?_ rfl rfl rfl rfl rfl rfl rfl

theorem State.raiseAt_keeps {r s : State} {a1 a2 a3 a4 a5 a6 a7} (h_s : Keeps r s) :
    Keeps r (State.raiseAt s a1 a2 a3 a4 a5 a6 a7) := by
  unfold State.raiseAt
  repeat' first
    | with_reducible assumption
    | (extract_lets +onlyGivenNames x
       first
       | (refine Keeps.cut (r := r) (x := x) ?_ ?_ <;> first | (intro _; clear_value x) | (unfold x; clear x))
       | clear_value x)
    | with_reducible apply State.bump_keeps
    | with_reducible apply State.putWindow_keeps
    | with_reducible apply State.react_keeps
    | with_reducible apply State.record_keeps

theorem State.raise_keeps {r s : State} {a1 a2} (h_s : Keeps r s) :
    Keeps r (State.raise s a1 a2) := by
  unfold State.raise
  repeat' first
    | with_reducible assumption
    | with_reducible apply State.raiseAt_keeps

theorem State.raiseGrave_keeps {r s : State} {a1 a2} (h_s : Keeps r s) :
    Keeps r (State.raiseGrave s a1 a2) := by
  unfold State.raiseGrave
  repeat' first
    | with_reducible assumption
    | with_reducible apply State.raiseAt_keeps

theorem State.regionSample_keeps {r s : State} {a1} (h_s : Keeps r s) :
    Keeps r (State.regionSample s a1) := by
  unfold State.regionSample
  repeat' first
    | with_reducible assumption
    | (extract_lets +onlyGivenNames x; clear_value x)
    | with_reducible apply State.raise_keeps
    | with_reducible apply State.wrBit_keeps
    | split
    | with_reducible refine Keeps.upd ?_ rfl rfl rfl rfl rfl rfl rfl

theorem State.thermalCritical_keeps {r s : State} {a1 a2} (h_s : Keeps r s) :
    Keeps r (State.thermalCritical s a1 a2) := by
  unfold State.thermalCritical
  repeat' first
    | with_reducible assumption
    | with_reducible apply State.raise_keeps
    | with_reducible apply State.wr_keeps
    | split

theorem State.raiseD_keeps {r s : State} {a1 a2 a3 a4 a5} (h_s : Keeps r s) :
    Keeps r (State.raiseD s a1 a2 a3 a4 a5) := by
  unfold State.raiseD
  repeat' first
    | with_reducible assumption
    | with_reducible apply State.raiseAt_keeps

theorem State.raiseGraveD_keeps {r s : State} {a1 a2 a3 a4 a5} (h_s : Keeps r s) :
    Keeps r (State.raiseGraveD s a1 a2 a3 a4 a5) := by
  unfold State.raiseGraveD
  repeat' first
    | with_reducible assumption
    | with_reducible apply State.raiseAt_keeps

theorem State.thermal_keeps {r s : State} {a1 a2} (h_s : Keeps r s) :
    Keeps r (State.thermal s a1 a2) := by
  unfold State.thermal
  repeat' first
    | with_reducible assumption
    | (extract_lets +onlyGivenNames x
       first
       | (refine Keeps.cut (r := r) (x := x) ?_ ?_ <;> first | (intro _; clear_value x) | (unfold x; clear x))
       | clear_value x)
    | with_reducible apply State.wr_keeps
    | with_reducible apply State.raise_keeps
    | with_reducible apply State.cicRaise_keeps
    | with_reducible apply State.wrBit_keeps
    | split
    | with_reducible refine Keeps.upd ?_ rfl rfl rfl rfl rfl rfl rfl

theorem State.badMessage_keeps {r s : State} {a1} (h_s : Keeps r s) :
    Keeps r (State.badMessage s a1) := by
  unfold State.badMessage
  repeat' first
    | with_reducible assumption
    | (extract_lets +onlyGivenNames x
       first
       | (refine Keeps.cut (r := r) (x := x) ?_ ?_ <;> first | (intro _; clear_value x) | (unfold x; clear x))
       | clear_value x)
    | with_reducible apply State.bump_keeps
    | with_reducible apply State.raiseD_keeps
    | with_reducible apply State.closeSession_keeps
    | with_reducible apply State.putSession_keeps
    | split

theorem crookHello_keeps {r s : State} {H a2 a3 a4} (h_H : Hooks.Keeps H) (h_s : Keeps r s) :
    Keeps r (crookHello H s a2 a3 a4) := by
  unfold crookHello
  repeat' first
    | with_reducible assumption
    | (extract_lets +onlyGivenNames x
       first
       | (refine Keeps.cut (r := r) (x := x) ?_ ?_ <;> first | (intro _; clear_value x) | (unfold x; clear x))
       | (have _ := (x : _ → State); unfold x; clear x)
       | clear_value x)
    | with_reducible apply crookDrop_keeps
    | with_reducible apply State.badMessage_keeps
    | with_reducible apply State.countN_keeps
    | with_reducible apply helloReply_keeps
    | with_reducible apply State.tick_keeps
    | with_reducible apply State.putSession_keeps
    | split

theorem crookReceive_keeps {r s : State} {H a1 a2 a3 a4} (h_H : Hooks.Keeps H) (h_s : Keeps r s) :
    Keeps r (crookReceive H a1 a2 a3 a4 s) := by
  unfold crookReceive
  repeat' first
    | with_reducible assumption
    | (extract_lets +onlyGivenNames x
       first
       | (refine Keeps.cut (r := r) (x := x) ?_ ?_ <;> first | (intro _; clear_value x) | (unfold x; clear x))
       | (have _ : Croft := x; unfold x; clear x)
       | clear_value x)
    | with_reducible apply State.cicRaise_keeps
    | with_reducible apply State.bump_keeps
    | with_reducible apply State.putMailbox_keeps
    | with_reducible apply crookHello_keeps
    | with_reducible apply sessionRequest_keeps
    | with_reducible apply State.count_keeps
    | with_reducible apply crookDrop_keeps
    | with_reducible apply State.badMessage_keeps
    | split
    | with_reducible refine Keeps.upd ?_ rfl rfl rfl rfl rfl rfl rfl

end Sys2Proof.Machine
end

