-- ==== Sys2Proof/Laws/KeepsPath.lean ====
section
/-! SUPPORT. What every command keeps, for the operations of Commons, Gatepost, the fabric, links and lanes: one lemma for each operation, which says that
it keeps what `Keeps` speaks of. -/

namespace Sys2Proof.Machine

set_option Elab.async false

theorem State.putPort_keeps {r s : State} {a1 a2} (h_s : Keeps r s) :
    Keeps r (State.putPort s a1 a2) := by
  unfold State.putPort
  repeat' first
    | with_reducible assumption
    | (extract_lets +onlyGivenNames x; clear_value x)
    | with_reducible refine Keeps.upd ?_ rfl rfl rfl rfl rfl rfl rfl

theorem State.streamCells_keeps {r s : State} {a1} (h_s : Keeps r s) :
    Keeps r (State.streamCells s a1).2 := by
  unfold State.streamCells
  repeat' first
    | with_reducible assumption
    | (extract_lets +onlyGivenNames x; clear_value x)
    | dsimp -zeta only
    | with_reducible refine Keeps.upd ?_ rfl rfl rfl rfl rfl rfl rfl

theorem State.putPoison_keeps {r s : State} {a1 a2} (h_s : Keeps r s) :
    Keeps r (State.putPoison s a1 a2) := by
  unfold State.putPoison
  repeat' first
    | with_reducible assumption
    | (extract_lets +onlyGivenNames x; (have _ : Commons := x; unfold x; clear x))
    | with_reducible refine Keeps.upd ?_ rfl rfl rfl rfl rfl rfl rfl

theorem State.putTracker_keeps {r s : State} {a1} (h_s : Keeps r s) :
    Keeps r (State.putTracker s a1) := by
  unfold State.putTracker
  repeat' first
    | with_reducible assumption
    | (extract_lets +onlyGivenNames x; clear_value x)
    | with_reducible refine Keeps.upd ?_ rfl rfl rfl rfl rfl rfl rfl

theorem State.putMeter_keeps {r s : State} {a1 a2} (h_s : Keeps r s) :
    Keeps r (State.putMeter s a1 a2) := by
  unfold State.putMeter
  repeat' first
    | with_reducible assumption
    | (extract_lets +onlyGivenNames x; clear_value x)
    | with_reducible refine Keeps.upd ?_ rfl rfl rfl rfl rfl rfl rfl

theorem State.sendLanes_keeps {r s : State} {a1 a2} (h_s : Keeps r s) :
    Keeps r (State.sendLanes s a1 a2) := by
  unfold State.sendLanes
  repeat' first
    | with_reducible assumption
    | with_reducible apply State.emit_keeps

theorem State.drainSync_keeps {r s : State} (h_s : Keeps r s) :
    Keeps r (State.drainSync s) := by
  unfold State.drainSync
  repeat' first
    | with_reducible assumption
    | (extract_lets +onlyGivenNames x
       first
       | (refine Keeps.cut (r := r) (x := x) ?_ ?_ <;> first | (intro _; clear_value x) | (unfold x; clear x))
       | clear_value x)
    | with_reducible apply State.wr_keeps
    | with_reducible refine Keeps.upd ?_ rfl rfl rfl rfl rfl rfl rfl

theorem State.ideStart_keeps {r s : State} {a1 a2} (h_s : Keeps r s) : Keeps r (State.ideStart s a1 a2) := by
  unfold State.ideStart
  refine State.emit_keeps ⟨h_s.queue, h_s.sent, Nat.le_trans h_s.fresh (Nat.le_add_right _ _), h_s.latch, fun i => ?_⟩
  have j := h_s.inv i
  exact ⟨j.nums, j.octs, j.vers, j.cells, j.scratch, j.segs, j.sessions⟩

theorem State.updateFc_keeps {r s : State} {a1 a2 a3 a4} (h_s : Keeps r s) :
    Keeps r (State.updateFc s a1 a2 a3 a4) := by
  unfold State.updateFc
  repeat' first
    | with_reducible assumption
    | (extract_lets +onlyGivenNames x; clear_value x)
    | with_reducible apply State.putPort_keeps
    | split

theorem State.putFraming_keeps {r s : State} {a1 a2} (h_s : Keeps r s) :
    Keeps r (State.putFraming s a1 a2) := by
  unfold State.putFraming
  repeat' first
    | with_reducible assumption
    | (extract_lets +onlyGivenNames x; clear_value x)
    | with_reducible refine Keeps.upd ?_ rfl rfl rfl rfl rfl rfl rfl

theorem State.ringRead_keeps {r s : State} {a1 a2 a3 a4} (h_s : Keeps r s) :
    Keeps r (State.ringRead s a1 a2 a3 a4).2 := by
  unfold State.ringRead
  repeat' first
    | with_reducible assumption
    | (extract_lets +onlyGivenNames x; clear_value x)
    | with_reducible apply State.wr_keeps
    | split

theorem State.losRelease_keeps {r s : State} {a1} (h_s : Keeps r s) :
    Keeps r (State.losRelease s a1) := by
  unfold State.losRelease
  repeat' first
    | with_reducible assumption
    | with_reducible apply State.wrBit_keeps
    | split

theorem State.putSelQuad_keeps {r s : State} {a1 a2} (h_s : Keeps r s) :
    Keeps r (State.putSelQuad s a1 a2) := by
  unfold State.putSelQuad
  repeat' first
    | with_reducible assumption
    | (extract_lets +onlyGivenNames x; clear_value x)
    | with_reducible refine Keeps.upd ?_ rfl rfl rfl rfl rfl rfl rfl

theorem State.layoutSync_keeps {r s : State} (h_s : Keeps r s) :
    Keeps r (State.layoutSync s) := by
  unfold State.layoutSync
  repeat' first
    | with_reducible assumption
    | with_reducible apply State.wrBit_keeps

theorem State.stampRs_keeps {r s : State} {a1} (h_s : Keeps r s) :
    Keeps r (State.stampRs s a1).2 := by
  unfold State.stampRs
  repeat' first
    | with_reducible assumption
    | (extract_lets +onlyGivenNames x; clear_value x)
    | split
    | dsimp -zeta only
    | with_reducible refine Keeps.upd ?_ rfl rfl rfl rfl rfl rfl rfl

theorem State.putChain_keeps {r s : State} {a1 a2} (h_s : Keeps r s) :
    Keeps r (State.putChain s a1 a2) := by
  unfold State.putChain
  repeat' first
    | with_reducible assumption
    | (extract_lets +onlyGivenNames x; clear_value x)
    | with_reducible refine Keeps.upd ?_ rfl rfl rfl rfl rfl rfl rfl

theorem State.putFlow_keeps {r s : State} {a1 a2} (h_s : Keeps r s) :
    Keeps r (State.putFlow s a1 a2) := by
  unfold State.putFlow
  repeat' first
    | with_reducible assumption
    | (extract_lets +onlyGivenNames x; clear_value x)
    | with_reducible refine Keeps.upd ?_ rfl rfl rfl rfl rfl rfl rfl

theorem State.capture_keeps {r s : State} {a1 a2 a3} (h_s : Keeps r s) :
    Keeps r (State.capture s a1 a2 a3) := by
  unfold State.capture
  repeat' first
    | with_reducible assumption
    | (extract_lets +onlyGivenNames x
       first
       | (refine Keeps.cut (r := r) (x := x) ?_ ?_ <;> first | (intro _; clear_value x) | (unfold x; clear x))
       | (have _ : Drv := x; unfold x; clear x)
       | clear_value x)
    | split
    | with_reducible refine Keeps.upd ?_ rfl rfl rfl rfl rfl rfl rfl

theorem State.unlist_keeps {r s : State} {a1} (h_s : Keeps r s) :
    Keeps r (State.unlist s a1) := by
  unfold State.unlist
  repeat' first
    | with_reducible assumption
    | (extract_lets +onlyGivenNames x; clear_value x)
    | with_reducible refine Keeps.upd ?_ rfl rfl rfl rfl rfl rfl rfl

theorem State.putLink_keeps {r s : State} {a1 a2} (h_s : Keeps r s) :
    Keeps r (State.putLink s a1 a2) := by
  unfold State.putLink
  repeat' first
    | with_reducible assumption
    | (extract_lets +onlyGivenNames x; clear_value x)
    | with_reducible refine Keeps.upd ?_ rfl rfl rfl rfl rfl rfl rfl

theorem State.memWrite_keeps {r s : State} {a1 a2} (h_s : Keeps r s) : Keeps r (State.memWrite s a1 a2) := by
  induction a2 generalizing s a1 with
  | nil => exact h_s
  | cons b l ih => exact ih (State.memSet_keeps h_s)

theorem State.mediaEvent_keeps {r s : State} {a1 a2} (h_s : Keeps r s) :
    Keeps r (State.mediaEvent s a1 a2) := by
  unfold State.mediaEvent
  repeat' first
    | with_reducible assumption
    | (extract_lets +onlyGivenNames x; clear_value x)
    | with_reducible apply State.putPort_keeps
    | split

theorem State.addMsg_keeps {r s : State} {a1} (h_s : Keeps r s) :
    Keeps r (State.addMsg s a1) := by
  unfold State.addMsg
  repeat' first
    | with_reducible assumption
    | (extract_lets +onlyGivenNames x; clear_value x)
    | with_reducible refine Keeps.upd ?_ rfl rfl rfl rfl rfl rfl rfl

theorem State.allocCells_keeps {r s : State} {a1} (h_s : Keeps r s) :
    Keeps r (State.allocCells s a1).2 := by
  unfold State.allocCells
  repeat' first
    | with_reducible assumption
    | (extract_lets +onlyGivenNames x; clear_value x)
    | split
    | dsimp -zeta only
    | with_reducible refine Keeps.upd ?_ rfl rfl rfl rfl rfl rfl rfl

theorem State.prbsClear_keeps {r s : State} {a1 a2} (h_s : Keeps r s) :
    Keeps r (State.prbsClear s a1 a2) := by
  unfold State.prbsClear
  repeat' first
    | with_reducible assumption
    | intro _
    | with_reducible apply forEach_keeps
    | with_reducible apply State.wr_keeps

theorem State.sendMarker_keeps {r s : State} {a1} (h_s : Keeps r s) :
    Keeps r (State.sendMarker s a1) := by
  unfold State.sendMarker
  repeat' first
    | with_reducible assumption
    | (extract_lets +onlyGivenNames x; clear_value x)
    | with_reducible apply State.sendLanes_keeps
    | with_reducible apply State.putFraming_keeps

theorem State.sample_keeps {r s : State} {a1 a2} (h_s : Keeps r s) :
    Keeps r (State.sample s a1 a2) := by
  unfold State.sample
  repeat' first
    | with_reducible assumption
    | intro _
    | (extract_lets +onlyGivenNames x
       first
       | (have _ := (x : _ → _ → State); unfold x; clear x)
       | clear_value x)
    | with_reducible apply forEach_keeps
    | with_reducible apply State.capture_keeps
    | split
    | with_reducible refine Keeps.upd ?_ rfl rfl rfl rfl rfl rfl rfl

theorem State.switchMarker_keeps {r s : State} {a1} (h_s : Keeps r s) :
    Keeps r (State.switchMarker s a1) := by
  unfold State.switchMarker
  repeat' first
    | with_reducible assumption
    | (extract_lets +onlyGivenNames x; clear_value x)
    | with_reducible apply State.sendLanes_keeps
    | with_reducible apply State.sendMarker_keeps
    | with_reducible apply State.putFraming_keeps

theorem State.putAlignment_keeps {r s : State} {a1 a2} (h_s : Keeps r s) :
    Keeps r (State.putAlignment s a1 a2) := by
  unfold State.putAlignment
  repeat' first
    | with_reducible assumption
    | (extract_lets +onlyGivenNames x; clear_value x)
    | with_reducible refine Keeps.upd ?_ rfl rfl rfl rfl rfl rfl rfl

theorem State.gtpLock_keeps {r s : State} {a1} (h_s : Keeps r s) :
    Keeps r (State.gtpLock s a1).2 := by
  unfold State.gtpLock
  repeat' first
    | with_reducible assumption
    | with_reducible apply State.bumpVersion_keeps
    | with_reducible apply State.wro_keeps
    | split

theorem State.refund_keeps {r s : State} {a1} (h_s : Keeps r s) :
    Keeps r (State.refund s a1) := by
  unfold State.refund
  repeat' first
    | with_reducible assumption
    | (extract_lets +onlyGivenNames x; clear_value x)
    | with_reducible apply State.putLink_keeps
    | with_reducible apply State.putPort_keeps
    | split

theorem State.putMargin_keeps {r s : State} {a1 a2 a3 a4} (h_s : Keeps r s) :
    Keeps r (State.putMargin s a1 a2 a3 a4) := by
  unfold State.putMargin
  repeat' first
    | with_reducible assumption
    | with_reducible apply State.wr_keeps

theorem State.checkerLock_keeps {r s : State} {a1 a2} (h_s : Keeps r s) :
    Keeps r (State.checkerLock s a1 a2) := by
  unfold State.checkerLock
  repeat' first
    | with_reducible assumption
    | intro _
    | (extract_lets +onlyGivenNames x
       first
       | (refine Keeps.cut (r := r) (x := x) ?_ ?_ <;> first | (intro _; clear_value x) | (unfold x; clear x))
       | clear_value x)
    | with_reducible apply when_keeps
    | with_reducible apply State.emit_keeps
    | with_reducible apply State.wrBit_keeps
    | split

theorem State.loomSync_keeps {r s : State} (h_s : Keeps r s) :
    Keeps r (State.loomSync s) := by
  unfold State.loomSync
  repeat' first
    | with_reducible assumption
    | with_reducible apply State.wr_keeps

theorem State.cmnZero_keeps {r s : State} (h_s : Keeps r s) : Keeps r (State.cmnZero s) := by
  refine forEach_keeps (fun _ _ h => State.wr_keeps h) (State.wrBits_keeps (Keeps.tables h_s fun i => ?_))
  exact ⟨i.nums, i.octs, i.vers, rfl, i.scratch, i.segs, i.sessions⟩

theorem State.unchain_keeps {r s : State} {a1} (h_s : Keeps r s) :
    Keeps r (State.unchain s a1) := by
  unfold State.unchain
  repeat' first
    | with_reducible assumption
    | (extract_lets +onlyGivenNames x; clear_value x)
    | with_reducible apply State.putChain_keeps
    | split

theorem State.advertise_keeps {r s : State} {a1} (h_s : Keeps r s) :
    Keeps r (State.advertise s a1) := by
  unfold State.advertise
  repeat' first
    | with_reducible assumption
    | intro _
    | (extract_lets +onlyGivenNames x; clear_value x)
    | with_reducible apply forEach_keeps
    | with_reducible apply State.emit_keeps

theorem State.rxTrained_keeps {r s : State} {a1} (h_s : Keeps r s) :
    Keeps r (State.rxTrained s a1) := by
  unfold State.rxTrained
  repeat' first
    | with_reducible assumption
    | intro _
    | (extract_lets +onlyGivenNames x; clear_value x)
    | with_reducible apply forEach_keeps
    | with_reducible apply State.putSelQuad_keeps

theorem State.sendScrambled_keeps {r s : State} {a1 a2} (h_s : Keeps r s) :
    Keeps r (State.sendScrambled s a1 a2) := by
  unfold State.sendScrambled
  repeat' first
    | with_reducible assumption
    | (extract_lets +onlyGivenNames x; clear_value x)
    | with_reducible apply State.sendLanes_keeps
    | with_reducible apply State.putFraming_keeps

theorem State.marginAbort_keeps {r s : State} {a1} (h_s : Keeps r s) :
    Keeps r (State.marginAbort s a1) := by
  unfold State.marginAbort
  repeat' first
    | with_reducible assumption
    | (extract_lets +onlyGivenNames x; clear_value x)
    | with_reducible apply State.putMargin_keeps
    | with_reducible apply State.putSelQuad_keeps
    | split

theorem State.setLtssm_keeps {r s : State} {a1 a2} (h_s : Keeps r s) :
    Keeps r (State.setLtssm s a1 a2) := by
  unfold State.setLtssm
  repeat' first
    | with_reducible assumption
    | with_reducible apply State.wrBits_keeps

theorem State.presetTx_keeps {r s : State} {a1} (h_s : Keeps r s) :
    Keeps r (State.presetTx s a1) := by
  unfold State.presetTx
  repeat' first
    | with_reducible assumption
    | intro _
    | with_reducible apply forEach_keeps
    | with_reducible apply State.wr_keeps

theorem State.reclaim_keeps {r s : State} {a1} (h_s : Keeps r s) :
    Keeps r (State.reclaim s a1) := by
  unfold State.reclaim
  repeat' first
    | with_reducible assumption
    | (extract_lets +onlyGivenNames x
       first
       | (refine Keeps.cut (r := r) (x := x) ?_ ?_ <;> first | (intro _; clear_value x) | (unfold x; clear x))
       | clear_value x)
    | with_reducible apply State.putChain_keeps
    | with_reducible apply State.add_keeps
    | with_reducible refine Keeps.upd ?_ rfl rfl rfl rfl rfl rfl rfl

theorem State.layoutApply_keeps {r s : State} (h_s : Keeps r s) :
    Keeps r (State.layoutApply s) := by
  unfold State.layoutApply
  repeat' first
    | with_reducible assumption
    | intro _
    | (extract_lets +onlyGivenNames x
       first
       | (refine Keeps.cut (r := r) (x := x) ?_ ?_ <;> first | (intro _; clear_value x) | (unfold x; clear x))
       | clear_value x)
    | with_reducible apply forEach_keeps
    | with_reducible apply State.wr_keeps
    | with_reducible apply State.wrBit_keeps

theorem State.eqRequest_keeps {r s : State} {a1 a2 a3} (h_s : Keeps r s) :
    Keeps r (State.eqRequest s a1 a2 a3) := by
  unfold State.eqRequest
  repeat' first
    | with_reducible assumption
    | intro _
    | (extract_lets +onlyGivenNames x; clear_value x)
    | with_reducible apply State.emit_keeps
    | with_reducible apply when_keeps
    | with_reducible apply State.wr_keeps

theorem State.marginBegin_keeps {r s : State} {a1 a2} (h_s : Keeps r s) :
    Keeps r (State.marginBegin s a1 a2) := by
  unfold State.marginBegin
  repeat' first
    | with_reducible assumption
    | (extract_lets +onlyGivenNames x; clear_value x)
    | with_reducible apply State.putMargin_keeps
    | with_reducible apply State.putSelQuad_keeps

theorem State.skipDue_keeps {r s : State} {a1} (h_s : Keeps r s) :
    Keeps r (State.skipDue s a1) := by
  unfold State.skipDue
  repeat' first
    | with_reducible assumption
    | intro _
    | (extract_lets +onlyGivenNames x
       first
       | (refine Keeps.cut (r := r) (x := x) ?_ ?_ <;> first | (intro _; clear_value x) | (unfold x; clear x))
       | clear_value x)
    | with_reducible apply State.putFraming_keeps
    | with_reducible apply State.sendLanes_keeps
    | with_reducible apply when_keeps
    | with_reducible apply State.sendMarker_keeps
    | split

theorem State.creditBack_keeps {r s : State} {a1} (h_s : Keeps r s) :
    Keeps r (State.creditBack s a1) := by
  unfold State.creditBack
  repeat' first
    | with_reducible assumption
    | (extract_lets +onlyGivenNames x; clear_value x)
    | with_reducible apply State.putLink_keeps
    | with_reducible apply State.emit_keeps
    | split

theorem State.sendOwn_keeps {r s : State} {a1 a2} (h_s : Keeps r s) :
    Keeps r (State.sendOwn s a1 a2) := by
  unfold State.sendOwn
  repeat' first
    | with_reducible assumption
    | intro _
    | (extract_lets +onlyGivenNames x
       first
       | (refine Keeps.cut (r := r) (x := x) ?_ ?_ <;> first | (intro _; clear_value x) | (unfold x; clear x))
       | clear_value x)
    | with_reducible apply State.sendScrambled_keeps
    | with_reducible apply forEach_keeps
    | with_reducible apply State.emit_keeps
    | with_reducible apply State.skipDue_keeps
    | with_reducible apply State.putFraming_keeps

theorem State.startWaiting_keeps {r s : State} {a1} (h_s : Keeps r s) :
    Keeps r (State.startWaiting s a1) := by
  unfold State.startWaiting
  repeat' first
    | with_reducible assumption
    | intro _
    | with_reducible apply forEach_keeps
    | with_reducible apply State.marginBegin_keeps
    | split

theorem State.setQuadFence_keeps {r s : State} {a1} (h_s : Keeps r s) :
    Keeps r (State.setQuadFence s a1) := by
  unfold State.setQuadFence
  repeat' first
    | with_reducible assumption
    | (extract_lets +onlyGivenNames x
       first
       | (refine Keeps.cut (r := r) (x := x) ?_ ?_ <;> first | (intro _; clear_value x) | (unfold x; clear x))
       | clear_value x)
    | with_reducible apply State.wrBit_keeps
    | with_reducible apply State.setLtssm_keeps
    | split

theorem State.equalise_keeps {r s : State} {a1 a2 a3} (h_s : Keeps r s) :
    Keeps r (State.equalise s a1 a2 a3) := by
  unfold State.equalise
  repeat' first
    | with_reducible assumption
    | intro _
    | (extract_lets +onlyGivenNames x
       first
       | (refine Keeps.cut (r := r) (x := x) ?_ ?_ <;> first | (intro _; clear_value x) | (unfold x; clear x))
       | (have _ := (x : _ → State); unfold x; clear x)
       | clear_value x)
    | with_reducible apply when_keeps
    | with_reducible apply State.emit_keeps
    | with_reducible apply forEach_keeps
    | with_reducible apply State.eqRequest_keeps
    | split

theorem State.admitMsg_keeps {r s : State} {a1} (h_s : Keeps r s) :
    Keeps r (State.admitMsg s a1).2 := by
  unfold State.admitMsg
  repeat' first
    | with_reducible assumption
    | intro _
    | (extract_lets +onlyGivenNames x
       first
       | (refine Keeps.cut (r := r) (x := x.2) ?_ ?_ <;> first | (intro _; clear_value x) | (unfold x; clear x))
       | clear_value x)
    | with_reducible apply State.streamCells_keeps
    | with_reducible apply State.addMsg_keeps
    | with_reducible apply State.allocCells_keeps
    | with_reducible apply when_keeps
    | with_reducible apply State.creditBack_keeps
    | with_reducible apply State.sample_keeps
    | split
    | with_reducible refine Keeps.upd ?_ rfl rfl rfl rfl rfl rfl rfl

theorem State.setCdr_keeps {r s : State} {a1 a2} (h_s : Keeps r s) :
    Keeps r (State.setCdr s a1 a2) := by
  unfold State.setCdr
  repeat' first
    | with_reducible assumption
    | intro _
    | with_reducible apply forEach_keeps
    | with_reducible apply State.wrBits_keeps

theorem State.setTwillState_keeps {r s : State} {a1 a2} (h_s : Keeps r s) :
    Keeps r (State.setTwillState s a1 a2) := by
  unfold State.setTwillState
  repeat' first
    | with_reducible assumption
    | (extract_lets +onlyGivenNames x
       first
       | (refine Keeps.cut (r := r) (x := x) ?_ ?_ <;> first | (intro _; clear_value x) | (unfold x; clear x))
       | clear_value x)
    | with_reducible apply State.wrBit_keeps
    | with_reducible apply State.wrBits_keeps
    | with_reducible apply State.putLink_keeps

theorem State.dropWaiting_keeps {r s : State} {a1} (h_s : Keeps r s) :
    Keeps r (State.dropWaiting s a1) := by
  unfold State.dropWaiting
  repeat' first
    | with_reducible assumption
    | intro _
    | (extract_lets +onlyGivenNames x; clear_value x)
    | with_reducible apply forEach_keeps
    | with_reducible apply State.putMargin_keeps
    | with_reducible apply State.putSelQuad_keeps
    | split

theorem State.testStart_keeps {r s : State} {a1} (h_s : Keeps r s) :
    Keeps r (State.testStart s a1) := by
  unfold State.testStart
  repeat' first
    | with_reducible assumption
    | (extract_lets +onlyGivenNames x; clear_value x)
    | with_reducible apply State.wr_keeps
    | with_reducible apply State.wrBits_keeps
    | with_reducible apply State.putSelQuad_keeps
    | split

theorem State.marginCtrl_keeps {r s : State} {a1 a2} (h_s : Keeps r s) :
    Keeps r (State.marginCtrl s a1 a2).2 := by
  unfold State.marginCtrl
  repeat' first
    | with_reducible assumption
    | (extract_lets +onlyGivenNames x; clear_value x)
    | with_reducible apply State.putSelQuad_keeps
    | with_reducible apply State.marginBegin_keeps
    | split

theorem State.cellsOut_keeps {r s : State} {a1} (h_s : Keeps r s) :
    Keeps r (State.cellsOut s a1) := by
  unfold State.cellsOut
  repeat' first
    | with_reducible assumption
    | with_reducible apply State.creditBack_keeps
    | split

theorem State.dropMsg_keeps {r s : State} {a1} (h_s : Keeps r s) :
    Keeps r (State.dropMsg s a1) := by
  unfold State.dropMsg
  repeat' first
    | with_reducible assumption
    | with_reducible apply State.cellsOut_keeps
    | with_reducible apply State.unlist_keeps
    | split

theorem State.histogram_keeps {r s : State} {a1} (h_s : Keeps r s) :
    Keeps r (State.histogram s a1) := by
  unfold State.histogram
  repeat' first
    | with_reducible assumption
    | (extract_lets +onlyGivenNames x; clear_value x)
    | with_reducible apply State.bump_keeps

theorem State.abortMargins_keeps {r s : State} {a1} (h_s : Keeps r s) :
    Keeps r (State.abortMargins s a1) := by
  unfold State.abortMargins
  repeat' first
    | with_reducible assumption
    | intro _
    | with_reducible apply forEach_keeps
    | with_reducible apply State.marginAbort_keeps

theorem State.triggerDpc_keeps {r s : State} {a1} (h_s : Keeps r s) :
    Keeps r (State.triggerDpc s a1) := by
  unfold State.triggerDpc
  repeat' first
    | with_reducible assumption
    | with_reducible apply State.setLtssm_keeps
    | with_reducible apply State.wrBit_keeps
    | split

theorem State.releaseTracker_keeps {r s : State} {a1} (h_s : Keeps r s) :
    Keeps r (State.releaseTracker s a1) := by
  unfold State.releaseTracker
  repeat' first
    | with_reducible assumption
    | (extract_lets +onlyGivenNames x
       first
       | (refine Keeps.cut (r := r) (x := x) ?_ ?_ <;> first | (intro _; clear_value x) | (unfold x; clear x))
       | clear_value x)
    | with_reducible apply State.drainSync_keeps
    | with_reducible apply State.sub_keeps
    | with_reducible apply State.histogram_keeps
    | split
    | with_reducible refine Keeps.upd ?_ rfl rfl rfl rfl rfl rfl rfl

theorem State.sendFlit_keeps {r s : State} {a1 a2} (h_s : Keeps r s) :
    Keeps r (State.sendFlit s a1 a2) := by
  unfold State.sendFlit
  repeat' first
    | with_reducible assumption
    | (extract_lets +onlyGivenNames x
       first
       | (refine Keeps.cut (r := r) (x := x) ?_ ?_ <;> first | (intro _; clear_value x) | (unfold x; clear x))
       | clear_value x)
    | with_reducible apply State.emit_keeps
    | with_reducible apply State.sendScrambled_keeps
    | with_reducible apply State.skipDue_keeps
    | with_reducible apply State.putFraming_keeps

theorem State.partnerMargin_keeps {r s : State} {a1 a2 a3} (h_s : Keeps r s) :
    Keeps r (State.partnerMargin s a1 a2 a3) := by
  unfold State.partnerMargin
  repeat' first
    | with_reducible assumption
    | (extract_lets +onlyGivenNames x
       first
       | (refine Keeps.cut (r := r) (x := x) ?_ ?_ <;> first | (intro _; clear_value x) | (unfold x; clear x))
       | clear_value x)
    | with_reducible apply State.marginAbort_keeps
    | with_reducible apply State.tick_keeps
    | with_reducible apply State.emit_keeps
    | split
    | with_reducible refine Keeps.upd ?_ rfl rfl rfl rfl rfl rfl rfl

theorem State.moveMsg_keeps {r s : State} {a1} (h_s : Keeps r s) :
    Keeps r (State.moveMsg s a1) := by
  unfold State.moveMsg
  repeat' first
    | with_reducible assumption
    | (extract_lets +onlyGivenNames x; (refine Keeps.cut (r := r) (x := x) ?_ ?_ <;> first | (intro _; clear_value x) | (unfold x; clear x)))
    | with_reducible apply State.cellsOut_keeps
    | with_reducible apply State.addMsg_keeps
    | with_reducible apply State.unlist_keeps
    | split

theorem State.fromReseq_keeps {r s : State} {a1} (h_s : Keeps r s) :
    Keeps r (State.fromReseq s a1) := by
  unfold State.fromReseq
  repeat' first
    | with_reducible assumption
    | (extract_lets +onlyGivenNames x
       first
       | (refine Keeps.cut (r := r) (x := x) ?_ ?_ <;> first | (intro _; clear_value x) | (unfold x; clear x))
       | clear_value x)
    | with_reducible apply State.unlist_keeps
    | with_reducible apply State.moveMsg_keeps
    | split
    | with_reducible refine Keeps.upd ?_ rfl rfl rfl rfl rfl rfl rfl

theorem State.truncate_keeps {r s : State} {a1} (h_s : Keeps r s) :
    Keeps r (State.truncate s a1) := by
  unfold State.truncate
  repeat' first
    | with_reducible assumption
    | intro _
    | (extract_lets +onlyGivenNames x
       first
       | (refine Keeps.cut (r := r) (x := x) ?_ ?_ <;> first | (intro _; clear_value x) | (unfold x; clear x))
       | clear_value x)
    | with_reducible apply forEach_keeps
    | with_reducible apply State.unlist_keeps
    | with_reducible apply when_keeps
    | with_reducible apply State.unchain_keeps
    | with_reducible apply State.refund_keeps
    | with_reducible apply State.releaseTracker_keeps
    | split
    | with_reducible refine Keeps.upd ?_ rfl rfl rfl rfl rfl rfl rfl

theorem State.reeqGrant_keeps {r s : State} {a1} (h_s : Keeps r s) :
    Keeps r (State.reeqGrant s a1) := by
  unfold State.reeqGrant
  repeat' first
    | with_reducible assumption
    | intro _
    | (extract_lets +onlyGivenNames x
       first
       | (refine Keeps.cut (r := r) (x := x) ?_ ?_ <;> first | (intro _; clear_value x) | (unfold x; clear x))
       | clear_value x)
    | with_reducible apply when_keeps
    | with_reducible apply State.equalise_keeps
    | with_reducible apply State.abortMargins_keeps
    | split
    | with_reducible refine Keeps.upd ?_ rfl rfl rfl rfl rfl rfl rfl

theorem State.newTracker_keeps {r s : State} {a1} (h_s : Keeps r s) :
    Keeps r (State.newTracker s a1).2 := by
  unfold State.newTracker
  repeat' first
    | with_reducible assumption
    | intro _
    | (extract_lets +onlyGivenNames x
       first
       | (refine Keeps.cut (r := r) (x := x) ?_ ?_ <;> first | (intro _; clear_value x) | (unfold x; clear x))
       | clear_value x)
    | with_reducible apply when_keeps
    | with_reducible apply State.bump_keeps
    | with_reducible refine Keeps.upd ?_ rfl rfl rfl rfl rfl rfl rfl

theorem State.reseqRun_keeps {r s : State} {a1} (h_s : Keeps r s) :
    Keeps r (State.reseqRun s a1) := by
  unfold State.reseqRun
  repeat' first
    | with_reducible assumption
    | intro _
    | (extract_lets +onlyGivenNames x
       first
       | (refine Keeps.cut (r := r) (x := x) ?_ ?_ <;> first | (intro _; clear_value x) | (unfold x; clear x))
       | (have _ := (x : _ → Option State); unfold x; clear x))
    | with_reducible apply State.fromReseq_keeps
    | with_reducible apply State.putFlow_keeps
    | split
    | with_reducible apply Keeps.iter
    | with_reducible apply KeepsO.none
    | with_reducible apply KeepsO.some
    | (with_reducible refine KeepsO.elim (by with_reducible assumption) ?_)

theorem State.testApplied_keeps {r s : State} {a1} (h_s : Keeps r s) :
    Keeps r (State.testApplied s a1) := by
  unfold State.testApplied
  repeat' first
    | with_reducible assumption
    | with_reducible apply State.testStart_keeps
    | with_reducible apply State.wr_keeps
    | with_reducible apply State.marginAbort_keeps

theorem State.setQuadRate_keeps {r s : State} {a1 a2} (h_s : Keeps r s) :
    Keeps r (State.setQuadRate s a1 a2) := by
  unfold State.setQuadRate
  repeat' first
    | with_reducible assumption
    | intro _
    | with_reducible apply forEach_keeps
    | with_reducible apply State.wr_keeps
    | with_reducible apply State.abortMargins_keeps

theorem State.aerLog_keeps {r s : State} {a1 a2 a3} (h_s : Keeps r s) :
    Keeps r (State.aerLog s a1 a2 a3) := by
  unfold State.aerLog
  repeat' first
    | with_reducible assumption
    | (extract_lets +onlyGivenNames x
       first
       | (refine Keeps.cut (r := r) (x := x) ?_ ?_ <;> first | (intro _; clear_value x) | (unfold x; clear x))
       | clear_value x)
    | with_reducible apply State.putPort_keeps
    | with_reducible apply State.cicRaise_keeps
    | with_reducible apply State.emit_keeps
    | split

theorem State.aerFunc_keeps {r s : State} {a1 a2 a3 a4} (h_s : Keeps r s) :
    Keeps r (State.aerFunc s a1 a2 a3 a4) := by
  unfold State.aerFunc
  repeat' first
    | with_reducible assumption
    | (extract_lets +onlyGivenNames x
       first
       | (refine Keeps.cut (r := r) (x := x) ?_ ?_ <;> first | (intro _; clear_value x) | (unfold x; clear x))
       | clear_value x)
    | with_reducible apply State.putPort_keeps
    | with_reducible apply State.cicRaise_keeps
    | with_reducible apply State.emit_keeps
    | split

theorem State.lateResponse_keeps {r s : State} {a1 a2} (h_s : Keeps r s) :
    Keeps r (State.lateResponse s a1 a2) := by
  unfold State.lateResponse
  repeat' first
    | with_reducible assumption
    | (extract_lets +onlyGivenNames x; (refine Keeps.cut (r := r) (x := x) ?_ ?_ <;> first | (intro _; clear_value x) | (unfold x; clear x)))
    | with_reducible apply State.bump_keeps
    | with_reducible apply State.aerLog_keeps
    | split

theorem State.scrubAdvance_keeps {r s : State} {a1} (h_s : Keeps r s) :
    Keeps r (State.scrubAdvance s a1) := by
  unfold State.scrubAdvance
  repeat' first
    | with_reducible assumption
    | (extract_lets +onlyGivenNames x
       first
       | (refine Keeps.cut (r := r) (x := x) ?_ ?_ <;> first | (intro _; clear_value x) | (unfold x; clear x))
       | (have _ : Commons := x; unfold x; clear x)
       | clear_value x)
    | with_reducible apply State.wr_keeps
    | with_reducible apply State.cicRaise_keeps
    | with_reducible apply State.bump_keeps
    | split
    | with_reducible refine Keeps.upd ?_ rfl rfl rfl rfl rfl rfl rfl

theorem State.retrainNarrow_keeps {r s : State} {a1 a2} (h_s : Keeps r s) :
    Keeps r (State.retrainNarrow s a1 a2) := by
  unfold State.retrainNarrow
  repeat' first
    | with_reducible assumption
    | (extract_lets +onlyGivenNames x; clear_value x)
    | with_reducible apply State.cicRaise_keeps
    | with_reducible apply State.setCdr_keeps
    | with_reducible apply State.setQuadRate_keeps
    | with_reducible apply State.wrBits_keeps
    | split

theorem State.cmnRangeError_keeps {r s : State} (h_s : Keeps r s) :
    Keeps r (State.cmnRangeError s) := by
  unfold State.cmnRangeError
  repeat' first
    | with_reducible assumption
    | with_reducible apply State.cicRaise_keeps
    | with_reducible apply State.bump_keeps

theorem State.marginDone_keeps {r s : State} {a1 a2} (h_s : Keeps r s) :
    Keeps r (State.marginDone s a1 a2) := by
  unfold State.marginDone
  repeat' first
    | with_reducible assumption
    | (extract_lets +onlyGivenNames x; clear_value x)
    | with_reducible apply State.cicRaise_keeps
    | with_reducible apply State.putMargin_keeps
    | with_reducible apply State.putSelQuad_keeps
    | split

theorem State.reeqTimeout_keeps {r s : State} {a1} (h_s : Keeps r s) :
    Keeps r (State.reeqTimeout s a1) := by
  unfold State.reeqTimeout
  repeat' first
    | with_reducible assumption
    | (extract_lets +onlyGivenNames x
       first
       | (refine Keeps.cut (r := r) (x := x) ?_ ?_ <;> first | (intro _; clear_value x) | (unfold x; clear x))
       | clear_value x)
    | with_reducible apply State.bump_keeps
    | with_reducible apply State.govRelease_keeps
    | split
    | with_reducible refine Keeps.upd ?_ rfl rfl rfl rfl rfl rfl rfl

theorem State.reeqDrop_keeps {r s : State} {a1} (h_s : Keeps r s) :
    Keeps r (State.reeqDrop s a1) := by
  unfold State.reeqDrop
  repeat' first
    | with_reducible assumption
    | (extract_lets +onlyGivenNames x; clear_value x)
    | with_reducible apply State.govRelease_keeps
    | split
    | with_reducible refine Keeps.upd ?_ rfl rfl rfl rfl rfl rfl rfl

theorem State.scrubStop_keeps {r s : State} {a1} (h_s : Keeps r s) :
    Keeps r (State.scrubStop s a1) := by
  unfold State.scrubStop
  repeat' first
    | with_reducible assumption
    | (extract_lets +onlyGivenNames x
       first
       | (refine Keeps.cut (r := r) (x := x) ?_ ?_ <;> first | (intro _; clear_value x) | (unfold x; clear x))
       | (have _ : Commons := x; unfold x; clear x))
    | with_reducible apply State.wrBit_keeps
    | with_reducible apply State.govRelease_keeps
    | with_reducible apply State.scrubAdvance_keeps
    | with_reducible refine Keeps.upd ?_ rfl rfl rfl rfl rfl rfl rfl

theorem State.lanesOff_keeps {r s : State} {a1} (h_s : Keeps r s) :
    Keeps r (State.lanesOff s a1) := by
  unfold State.lanesOff
  repeat' first
    | with_reducible assumption
    | (extract_lets +onlyGivenNames x
       first
       | (refine Keeps.cut (r := r) (x := x) ?_ ?_ <;> first | (intro _; clear_value x) | (unfold x; clear x))
       | clear_value x)
    | with_reducible apply State.dropWaiting_keeps
    | with_reducible apply State.reeqDrop_keeps
    | with_reducible apply State.setCdr_keeps
    | with_reducible apply State.setQuadRate_keeps
    | with_reducible refine Keeps.upd ?_ rfl rfl rfl rfl rfl rfl rfl

theorem State.prbsErrors_keeps {r s : State} {a1 a2} (h_s : Keeps r s) :
    Keeps r (State.prbsErrors s a1 a2) := by
  unfold State.prbsErrors
  repeat' first
    | with_reducible assumption
    | with_reducible apply State.countN_keeps
    | with_reducible apply State.wr_keeps

theorem State.reeqEnd_keeps {r s : State} {a1} (h_s : Keeps r s) :
    Keeps r (State.reeqEnd s a1) := by
  unfold State.reeqEnd
  repeat' first
    | with_reducible assumption
    | intro _
    | (extract_lets +onlyGivenNames x; (refine Keeps.cut (r := r) (x := x) ?_ ?_ <;> first | (intro _; clear_value x) | (unfold x; clear x)))
    | with_reducible apply State.rxTrained_keeps
    | with_reducible apply State.reeqDrop_keeps
    | with_reducible apply when_keeps
    | with_reducible apply State.startWaiting_keeps
    | split

theorem State.checkerLoss_keeps {r s : State} {a1 a2 a3} (h_s : Keeps r s) :
    Keeps r (State.checkerLoss s a1 a2 a3) := by
  unfold State.checkerLoss
  repeat' first
    | with_reducible assumption
    | (extract_lets +onlyGivenNames x
       first
       | (refine Keeps.cut (r := r) (x := x) ?_ ?_ <;> first | (intro _; clear_value x) | (unfold x; clear x))
       | clear_value x)
    | with_reducible apply State.prbsErrors_keeps
    | with_reducible apply State.wrBit_keeps
    | split

theorem State.scrubEnd_keeps {r s : State} (h_s : Keeps r s) :
    Keeps r (State.scrubEnd s) := by
  unfold State.scrubEnd
  repeat' first
    | with_reducible assumption
    | with_reducible apply State.scrubStop_keeps
    | split

theorem State.scrubBreak_keeps {r s : State} (h_s : Keeps r s) :
    Keeps r (State.scrubBreak s) := by
  unfold State.scrubBreak
  repeat' first
    | with_reducible assumption
    | with_reducible apply State.scrubStop_keeps
    | split

theorem State.skipBlock_keeps {r s : State} {a1 a2} (h_s : Keeps r s) :
    Keeps r (State.skipBlock s a1 a2) := by
  unfold State.skipBlock
  repeat' first
    | with_reducible assumption
    | intro _
    | (extract_lets +onlyGivenNames x
       first
       | (refine Keeps.cut (r := r) (x := x) ?_ ?_ <;> first | (intro _; clear_value x) | (unfold x; clear x))
       | clear_value x)
    | with_reducible apply forEach_keeps
    | with_reducible apply State.countN_keeps
    | split
    | with_reducible refine Keeps.upd ?_ rfl rfl rfl rfl rfl rfl rfl

theorem State.injectErrors_keeps {r s : State} {a1 a2} (h_s : Keeps r s) :
    Keeps r (State.injectErrors s a1 a2) := by
  unfold State.injectErrors
  repeat' first
    | with_reducible assumption
    | intro _
    | (extract_lets +onlyGivenNames x; clear_value x)
    | with_reducible apply forEach_keeps
    | with_reducible apply when_keeps
    | with_reducible apply State.prbsErrors_keeps
    | with_reducible apply State.putSelQuad_keeps
    | split

theorem State.scrubBraked_keeps {r s : State} (h_s : Keeps r s) :
    Keeps r (State.scrubBraked s) := by
  unfold State.scrubBraked
  repeat' first
    | with_reducible assumption
    | with_reducible apply State.scrubBreak_keeps
    | split

theorem State.selfRefresh_keeps {r s : State} {a1} (h_s : Keeps r s) :
    Keeps r (State.selfRefresh s a1) := by
  unfold State.selfRefresh
  repeat' first
    | with_reducible assumption
    | intro _
    | with_reducible apply forEach_keeps
    | with_reducible apply State.wrBit_keeps
    | with_reducible apply when_keeps
    | with_reducible apply State.scrubBreak_keeps

theorem State.cmnWriteLine_keeps {r s : State} {a1 a2 a3 a4} (h_s : Keeps r s) :
    Keeps r (State.cmnWriteLine s a1 a2 a3 a4).2 := by
  unfold State.cmnWriteLine
  repeat' first
    | with_reducible assumption
    | intro _
    | (extract_lets +onlyGivenNames x
       first
       | (refine Keeps.cut (r := r) (x := x) ?_ ?_ <;> first | (intro _; clear_value x) | (unfold x; clear x))
       | clear_value x)
    | with_reducible apply State.count_keeps
    | with_reducible apply forEach_keeps
    | with_reducible apply State.memSet_keeps
    | with_reducible apply State.putPoison_keeps
    | with_reducible apply State.bump_keeps
    | split

theorem State.generatorTick_keeps {r s : State} {a1} (h_s : Keeps r s) :
    Keeps r (State.generatorTick s a1) := by
  unfold State.generatorTick
  repeat' first
    | with_reducible assumption
    | intro _
    | (extract_lets +onlyGivenNames x
       first
       | (refine Keeps.cut (r := r) (x := x) ?_ ?_ <;> first | (intro _; clear_value x) | (unfold x; clear x))
       | clear_value x)
    | with_reducible apply when_keeps
    | with_reducible apply forEach_keeps
    | with_reducible apply State.emit_keeps
    | with_reducible apply State.prbsErrors_keeps
    | with_reducible apply State.putSelQuad_keeps

theorem State.checkLines_keeps {r s : State} {a1} (h_s : Keeps r s) :
    Keeps r (State.checkLines s a1) := by
  unfold State.checkLines
  repeat' first
    | with_reducible assumption
    | intro _
    | with_reducible apply forEach_keeps
    | with_reducible apply State.tick_keeps
    | with_reducible apply when_keeps
    | with_reducible apply State.count_keeps

theorem State.cmnWrite_keeps {r s : State} {a1 a2 a3} (h_s : Keeps r s) :
    Keeps r (State.cmnWrite s a1 a2 a3).2 := by
  unfold State.cmnWrite
  repeat' first
    | with_reducible assumption
    | intro _
    | (extract_lets +onlyGivenNames x; (refine Keeps.cut (r := r) (x := x.2) ?_ ?_ <;> first | (intro _; clear_value x) | (unfold x; clear x)))
    | with_reducible apply State.cmnWriteLine_keeps
    | with_reducible apply State.checkLines_keeps
    | with_reducible apply Keeps.foldl_snd

theorem State.reeqAsk_keeps {r s : State} {a1 a2 a3} (h_s : Keeps r s) :
    Keeps r (State.reeqAsk s a1 a2 a3) := by
  unfold State.reeqAsk
  repeat' first
    | with_reducible assumption
    | (extract_lets +onlyGivenNames x
       first
       | (refine Keeps.cut (r := r) (x := x) ?_ ?_ <;> first | (intro _; clear_value x) | (unfold x; clear x))
       | clear_value x)
    | with_reducible apply State.govRequest_keeps
    | split
    | with_reducible refine Keeps.upd ?_ rfl rfl rfl rfl rfl rfl rfl

theorem State.gtpViolation_keeps {r s : State} {a1 a2 a3 a4 a5 a6 a7 a8} (h_s : Keeps r s) :
    Keeps r (State.gtpViolation s a1 a2 a3 a4 a5 a6 a7 a8) := by
  unfold State.gtpViolation
  repeat' first
    | with_reducible assumption
    | intro _
    | (extract_lets +onlyGivenNames x
       first
       | (refine Keeps.cut (r := r) (x := x) ?_ ?_ <;> first | (intro _; clear_value x) | (unfold x; clear x))
       | clear_value x)
    | with_reducible apply State.cicRaise_keeps
    | with_reducible apply State.wr_keeps
    | with_reducible apply State.wro_keeps
    | with_reducible apply when_keeps
    | with_reducible apply State.bump_keeps
    | with_reducible apply State.count_keeps
    | with_reducible refine Keeps.upd ?_ rfl rfl rfl rfl rfl rfl rfl

theorem State.askFlush_keeps {r s : State} {a1} (h_s : Keeps r s) :
    Keeps r (State.askFlush s a1) := by
  unfold State.askFlush
  repeat' first
    | with_reducible assumption
    | (extract_lets +onlyGivenNames x
       first
       | (refine Keeps.cut (r := r) (x := x) ?_ ?_ <;> first | (intro _; clear_value x) | (unfold x; clear x))
       | clear_value x)
    | with_reducible apply State.govRequest_keeps
    | with_reducible refine Keeps.upd ?_ rfl rfl rfl rfl rfl rfl rfl

theorem State.storeDenied_keeps {r s : State} {a1 a2 a3} (h_s : Keeps r s) : KeepsO r (State.storeDenied s a1 a2 a3) := by
  refine ⟨fun t e => ?_⟩
  unfold State.storeDenied at e
  extract_lets i at e
  obtain ⟨x, -, e⟩ := List.exists_of_findSome?_eq_some e
  obtain ⟨d, -, e⟩ := Option.map_eq_some_iff.1 e
  exact e ▸ State.gtpViolation_keeps h_s

theorem State.prbsTick_keeps {r s : State} (h_s : Keeps r s) :
    Keeps r (State.prbsTick s) := by
  unfold State.prbsTick
  repeat' first
    | with_reducible assumption
    | intro _
    | (extract_lets +onlyGivenNames x; clear_value x)
    | with_reducible apply forEach_keeps
    | with_reducible apply State.wr_keeps
    | with_reducible apply State.generatorTick_keeps

theorem State.scrubTick_keeps {r s : State} (h_s : Keeps r s) :
    Keeps r (State.scrubTick s) := by
  unfold State.scrubTick
  repeat' first
    | with_reducible assumption
    | (extract_lets +onlyGivenNames x; clear_value x)
    | with_reducible apply State.govRequest_keeps
    | split

theorem State.captureWrite_keeps {r s : State} {a1} (h_s : Keeps r s) :
    Keeps r (State.captureWrite s a1) := by
  unfold State.captureWrite
  repeat' first
    | with_reducible assumption
    | (extract_lets +onlyGivenNames x
       first
       | (refine Keeps.cut (r := r) (x := x) ?_ ?_ <;> first | (intro _; clear_value x) | (unfold x; clear x))
       | clear_value x)
    | with_reducible apply State.cicRaise_keeps
    | with_reducible apply State.bump_keeps
    | with_reducible apply State.gtpViolation_keeps
    | with_reducible apply State.wr_keeps
    | with_reducible apply State.cmnWrite_keeps
    | split
    | with_reducible refine Keeps.upd ?_ rfl rfl rfl rfl rfl rfl rfl

theorem State.spill_keeps {r s : State} {a1 a2 a3} (h_s : Keeps r s) :
    Keeps r (State.spill s a1 a2 a3) := by
  unfold State.spill
  repeat' first
    | with_reducible assumption
    | intro _
    | (extract_lets +onlyGivenNames x
       first
       | (refine Keeps.cut (r := r) (x := x.2) ?_ ?_ <;> first | (intro _; clear_value x) | (unfold x; clear x))
       | clear_value x)
    | with_reducible apply State.cmnWrite_keeps
    | with_reducible apply State.putChain_keeps
    | with_reducible apply State.moveMsg_keeps
    | with_reducible apply Keeps.foldl_snd

theorem State.cmnRead_keeps {r s : State} {a1 a2} (h_s : Keeps r s) :
    Keeps r (State.cmnRead s a1 a2).2.2 := by
  unfold State.cmnRead
  repeat' first
    | with_reducible assumption
    | intro _
    | (extract_lets +onlyGivenNames x; clear_value x)
    | with_reducible apply forEach_keeps
    | with_reducible apply State.bump_keeps
    | with_reducible apply State.count_keeps
    | with_reducible apply State.checkLines_keeps

theorem State.storeData_keeps {r s : State} {a1} (h_s : Keeps r s) :
    Keeps r (State.storeData s a1) := by
  unfold State.storeData
  repeat' first
    | with_reducible assumption
    | intro _
    | (extract_lets +onlyGivenNames x; clear_value x)
    | with_reducible apply State.cmnWrite_keeps
    | with_reducible apply Keeps.foldl_snd

theorem State.cmnChannel_keeps {r s : State} {a1} (h_s : Keeps r s) :
    Keeps r (State.cmnChannel s a1) := by
  unfold State.cmnChannel
  repeat' first
    | with_reducible assumption
    | with_reducible apply State.raise_keeps
    | with_reducible apply State.cicRaise_keeps
    | with_reducible apply State.wrBit_keeps
    | split

theorem State.scrubBehind_keeps {r s : State} (h_s : Keeps r s) :
    Keeps r (State.scrubBehind s) := by
  unfold State.scrubBehind
  repeat' first
    | with_reducible assumption
    | (extract_lets +onlyGivenNames x
       first
       | (refine Keeps.cut (r := r) (x := x) ?_ ?_ <;> first | (intro _; clear_value x) | (unfold x; clear x))
       | (have _ : Commons := x; unfold x; clear x)
       | clear_value x)
    | with_reducible apply State.cicRaise_keeps
    | with_reducible apply State.raise_keeps
    | with_reducible apply State.bump_keeps
    | split
    | with_reducible refine Keeps.upd ?_ rfl rfl rfl rfl rfl rfl rfl

theorem State.controllerFault_keeps {r s : State} {a1} (h_s : Keeps r s) :
    Keeps r (State.controllerFault s a1) := by
  unfold State.controllerFault
  repeat' first
    | with_reducible assumption
    | with_reducible apply State.raise_keeps
    | split

theorem State.cmnTemp_keeps {r s : State} {a1 a2 a3} (h_s : Keeps r s) :
    Keeps r (State.cmnTemp s a1 a2 a3) := by
  unfold State.cmnTemp
  repeat' first
    | with_reducible assumption
    | (extract_lets +onlyGivenNames x
       first
       | (refine Keeps.cut (r := r) (x := x) ?_ ?_ <;> first | (intro _; clear_value x) | (unfold x; clear x))
       | (have _ : Commons := x; unfold x; clear x)
       | clear_value x)
    | with_reducible apply State.wrBits_keeps
    | with_reducible apply State.wrBit_keeps
    | with_reducible apply State.cicRaise_keeps
    | with_reducible apply State.raise_keeps
    | split
    | with_reducible refine Keeps.upd ?_ rfl rfl rfl rfl rfl rfl rfl

theorem State.retire_keeps {r s : State} {a1} (h_s : Keeps r s) :
    Keeps r (State.retire s a1) := by
  unfold State.retire
  repeat' first
    | with_reducible assumption
    | (extract_lets +onlyGivenNames x; clear_value x)
    | with_reducible apply State.cicRaise_keeps
    | with_reducible apply State.raise_keeps
    | split
    | with_reducible refine Keeps.upd ?_ rfl rfl rfl rfl rfl rfl rfl

theorem State.portViolation_keeps {r s : State} {a1 a2 a3} (h_s : Keeps r s) :
    Keeps r (State.portViolation s a1 a2 a3) := by
  unfold State.portViolation
  repeat' first
    | with_reducible assumption
    | with_reducible apply State.raiseD_keeps
    | with_reducible apply State.bump_keeps

theorem State.cmnEcc_keeps {r s : State} {a1 a2} (h_s : Keeps r s) :
    Keeps r (State.cmnEcc s a1 a2) := by
  unfold State.cmnEcc
  repeat' first
    | with_reducible assumption
    | (extract_lets +onlyGivenNames x
       first
       | (refine Keeps.cut (r := r) (x := x) ?_ ?_ <;> first | (intro _; clear_value x) | (unfold x; clear x))
       | (have _ : Commons := x; unfold x; clear x)
       | clear_value x)
    | with_reducible apply State.cicRaise_keeps
    | with_reducible apply State.raiseD_keeps
    | with_reducible apply State.bump_keeps
    | with_reducible apply State.retire_keeps
    | with_reducible apply State.putPoison_keeps
    | with_reducible apply State.raiseGraveD_keeps
    | split
    | with_reducible refine Keeps.upd ?_ rfl rfl rfl rfl rfl rfl rfl

theorem State.reseqSkip_keeps {r s : State} {a1} (h_s : Keeps r s) :
    Keeps r (State.reseqSkip s a1) := by
  unfold State.reseqSkip
  repeat' first
    | with_reducible assumption
    | (extract_lets +onlyGivenNames x
       first
       | (refine Keeps.cut (r := r) (x := x) ?_ ?_ <;> first | (intro _; clear_value x) | (unfold x; clear x))
       | clear_value x)
    | with_reducible apply State.raiseD_keeps
    | with_reducible apply State.add_keeps
    | with_reducible apply State.putFlow_keeps
    | with_reducible apply State.reseqRun_keeps
    | with_reducible apply State.cicRaise_keeps
    | split

theorem State.gtpEcc_keeps {r s : State} {a1 a2} (h_s : Keeps r s) :
    Keeps r (State.gtpEcc s a1 a2) := by
  unfold State.gtpEcc
  repeat' first
    | with_reducible assumption
    | (extract_lets +onlyGivenNames x
       first
       | (refine Keeps.cut (r := r) (x := x) ?_ ?_ <;> first | (intro _; clear_value x) | (unfold x; clear x))
       | clear_value x)
    | with_reducible apply State.cicRaise_keeps
    | with_reducible apply State.raiseD_keeps
    | with_reducible apply State.bump_keeps
    | with_reducible apply State.raiseGraveD_keeps
    | split
    | with_reducible refine Keeps.upd ?_ rfl rfl rfl rfl rfl rfl rfl

theorem State.gtpFaults_keeps {r s : State} (h_s : Keeps r s) :
    Keeps r (State.gtpFaults s) := by
  unfold State.gtpFaults
  repeat' first
    | with_reducible assumption
    | intro _
    | (extract_lets +onlyGivenNames x
       first
       | (refine Keeps.cut (r := r) (x := x) ?_ ?_ <;> first | (intro _; clear_value x) | (unfold x; clear x))
       | clear_value x)
    | with_reducible apply forEach_keeps
    | with_reducible apply State.raiseD_keeps
    | with_reducible refine Keeps.upd ?_ rfl rfl rfl rfl rfl rfl rfl

theorem State.startTraining_keeps {r s : State} {a1} (h_s : Keeps r s) :
    Keeps r (State.startTraining s a1) := by
  unfold State.startTraining
  repeat' first
    | with_reducible assumption
    | intro _
    | (extract_lets +onlyGivenNames x
       first
       | (refine Keeps.cut (r := r) (x := x) ?_ ?_ <;> first | (intro _; clear_value x) | (unfold x; clear x))
       | clear_value x)
    | with_reducible apply State.setQuadRate_keeps
    | with_reducible apply State.presetTx_keeps
    | with_reducible apply State.setTwillState_keeps
    | with_reducible apply State.putAlignment_keeps
    | with_reducible apply State.putLink_keeps
    | with_reducible apply when_keeps
    | with_reducible apply State.raise_keeps
    | with_reducible apply State.sendMarker_keeps
    | with_reducible apply State.putFraming_keeps
    | with_reducible apply State.setLtssm_keeps
    | split

theorem State.poisonLine_keeps {r s : State} {a1} (h_s : Keeps r s) :
    Keeps r (State.poisonLine s a1) := by
  unfold State.poisonLine
  repeat' first
    | with_reducible assumption
    | with_reducible apply State.cicRaise_keeps
    | with_reducible apply State.raiseD_keeps
    | with_reducible apply State.bump_keeps
    | with_reducible apply State.putPoison_keeps

theorem State.dpcRelease_keeps {r s : State} {a1} (h_s : Keeps r s) :
    Keeps r (State.dpcRelease s a1) := by
  unfold State.dpcRelease
  repeat' first
    | with_reducible assumption
    | with_reducible apply State.startTraining_keeps
    | with_reducible apply State.setLtssm_keeps
    | with_reducible apply State.wrBit_keeps
    | split

theorem State.holdLimit_keeps {r s : State} (h_s : Keeps r s) : Keeps r (State.holdLimit s) := by
  unfold State.holdLimit
  refine Keeps.iter (fun s t h e => ?_) _ _ h_s
  split at e
  · exact (Option.some_ne_none _ e.symm).elim
  · obtain ⟨c, -, e⟩ := Option.map_eq_some_iff.1 e
    exact e ▸ State.reseqSkip_keeps h

theorem State.scrubBurst_keeps {r s : State} {a1} (h_s : Keeps r s) :
    Keeps r (State.scrubBurst s a1) := by
  unfold State.scrubBurst
  repeat' first
    | with_reducible assumption
    | intro _
    | (extract_lets +onlyGivenNames x
       first
       | (refine Keeps.cut (r := r) (x := x) ?_ ?_ <;> first | (intro _; clear_value x) | (unfold x; clear x))
       | (have _ : Commons := x; unfold x; clear x)
       | clear_value x)
    | with_reducible apply State.wrBit_keeps
    | with_reducible apply forEach_keeps
    | with_reducible apply State.cmnEcc_keeps
    | split
    | with_reducible refine Keeps.upd ?_ rfl rfl rfl rfl rfl rfl rfl

theorem State.reseq_keeps {r s : State} {a1} (h_s : Keeps r s) :
    Keeps r (State.reseq s a1) := by
  unfold State.reseq
  repeat' first
    | with_reducible assumption
    | intro _
    | (extract_lets +onlyGivenNames x
       first
       | (refine Keeps.cut (r := r) (x := x) ?_ ?_ <;> first | (intro _; clear_value x) | (unfold x; clear x))
       | clear_value x)
    | with_reducible apply State.fromReseq_keeps
    | with_reducible apply State.putFlow_keeps
    | with_reducible apply State.bump_keeps
    | with_reducible apply State.reseqRun_keeps
    | with_reducible apply State.holdLimit_keeps
    | with_reducible apply State.count_keeps
    | with_reducible apply State.moveMsg_keeps
    | with_reducible apply forEach_keeps
    | split

theorem State.enqueue_keeps {r s : State} {a1} (h_s : Keeps r s) :
    Keeps r (State.enqueue s a1) := by
  unfold State.enqueue
  repeat' first
    | with_reducible assumption
    | with_reducible apply State.reseq_keeps
    | with_reducible apply State.moveMsg_keeps
    | split

theorem State.linkQueue_keeps {r s : State} {a1} (h_s : Keeps r s) :
    Keeps r (State.linkQueue s a1) := by
  unfold State.linkQueue
  repeat' first
    | with_reducible assumption
    | intro _
    | (extract_lets +onlyGivenNames x
       first
       | (refine Keeps.cut (r := r) (x := x) ?_ ?_ <;> first | (intro _; clear_value x) | (unfold x; clear x))
       | (have _ := (x : _ → State); unfold x; clear x)
       | clear_value x)
    | with_reducible apply State.enqueue_keeps
    | with_reducible apply State.cicRaise_keeps
    | with_reducible apply State.raise_keeps
    | with_reducible apply State.bump_keeps
    | with_reducible apply State.storeDenied_keeps
    | with_reducible apply State.count_keeps
    | with_reducible apply State.spill_keeps
    | with_reducible apply when_keeps
    | split
    | (with_reducible refine KeepsO.elim (by with_reducible assumption) ?_)

theorem State.sendMsg_keeps {r s : State} {a1} (h_s : Keeps r s) :
    Keeps r (State.sendMsg s a1) := by
  unfold State.sendMsg
  repeat' first
    | with_reducible assumption
    | (extract_lets +onlyGivenNames x; (refine Keeps.cut (r := r) (x := x.2) ?_ ?_ <;> first | (intro _; clear_value x) | (unfold x; clear x)))
    | with_reducible apply State.admitMsg_keeps
    | with_reducible apply State.linkQueue_keeps
    | split

theorem State.failTransit_keeps {r s : State} {a1 a2} (h_s : Keeps r s) :
    Keeps r (State.failTransit s a1 a2) := by
  unfold State.failTransit
  repeat' first
    | with_reducible assumption
    | (extract_lets +onlyGivenNames x
       first
       | (refine Keeps.cut (r := r) (x := x) ?_ ?_ <;> first | (intro _; clear_value x) | (unfold x; clear x))
       | (refine Keeps.cut (r := r) (x := x.2) ?_ ?_ <;> first | (intro _; clear_value x) | (unfold x; clear x))
       | clear_value x)
    | with_reducible apply State.stampRs_keeps
    | with_reducible apply State.sendMsg_keeps
    | with_reducible apply State.bump_keeps
    | split
    | with_reducible refine Keeps.upd ?_ rfl rfl rfl rfl rfl rfl rfl

theorem State.answerOrigin_keeps {r s : State} {a1 a2 a3 a4} (h_s : Keeps r s) :
    Keeps r (State.answerOrigin s a1 a2 a3 a4) := by
  unfold State.answerOrigin
  repeat' first
    | with_reducible assumption
    | (extract_lets +onlyGivenNames x
       first
       | (refine Keeps.cut (r := r) (x := x) ?_ ?_ <;> first | (intro _; clear_value x) | (unfold x; clear x))
       | (refine Keeps.cut (r := r) (x := x.2) ?_ ?_ <;> first | (intro _; clear_value x) | (unfold x; clear x))
       | (have _ := (x : _ → State); unfold x; clear x)
       | clear_value x)
    | with_reducible apply State.creditBack_keeps
    | with_reducible apply State.emit_keeps
    | with_reducible apply State.stampRs_keeps
    | with_reducible apply State.sendMsg_keeps
    | split
    | with_reducible refine Keeps.upd ?_ rfl rfl rfl rfl rfl rfl rfl

theorem State.completeError_keeps {r s : State} {a1 a2} (h_s : Keeps r s) :
    Keeps r (State.completeError s a1 a2) := by
  unfold State.completeError
  repeat' first
    | with_reducible assumption
    | (extract_lets +onlyGivenNames x
       first
       | (refine Keeps.cut (r := r) (x := x) ?_ ?_ <;> first | (intro _; clear_value x) | (unfold x; clear x))
       | clear_value x)
    | with_reducible apply State.releaseTracker_keeps
    | with_reducible apply State.answerOrigin_keeps
    | split
    | with_reducible refine Keeps.upd ?_ rfl rfl rfl rfl rfl rfl rfl

theorem State.unrouted_keeps {r s : State} {a1} (h_s : Keeps r s) :
    Keeps r (State.unrouted s a1) := by
  unfold State.unrouted
  repeat' first
    | with_reducible assumption
    | intro _
    | (extract_lets +onlyGivenNames x; (refine Keeps.cut (r := r) (x := x) ?_ ?_ <;> first | (intro _; clear_value x) | (unfold x; clear x)))
    | with_reducible apply when_keeps
    | with_reducible apply State.cmnRangeError_keeps
    | with_reducible apply State.bump_keeps
    | with_reducible apply State.completeError_keeps
    | with_reducible apply State.mediaEvent_keeps
    | split

theorem State.completeCmp_keeps {r s : State} {a1} (h_s : Keeps r s) :
    Keeps r (State.completeCmp s a1) := by
  unfold State.completeCmp
  repeat' first
    | with_reducible assumption
    | with_reducible apply State.answerOrigin_keeps
    | with_reducible apply State.releaseTracker_keeps

theorem State.trackerTimeout_keeps {r s : State} {a1 a2} (h_s : Keeps r s) :
    Keeps r (State.trackerTimeout s a1 a2) := by
  unfold State.trackerTimeout
  repeat' first
    | with_reducible assumption
    | intro _
    | (extract_lets +onlyGivenNames x; (refine Keeps.cut (r := r) (x := x) ?_ ?_ <;> first | (intro _; clear_value x) | (unfold x; clear x)))
    | with_reducible apply State.bump_keeps
    | with_reducible apply when_keeps
    | with_reducible apply State.aerFunc_keeps
    | with_reducible apply State.completeError_keeps
    | split

theorem State.completeOk_keeps {r s : State} {a1 a2 a3} (h_s : Keeps r s) :
    Keeps r (State.completeOk s a1 a2 a3) := by
  unfold State.completeOk
  repeat' first
    | with_reducible assumption
    | (extract_lets +onlyGivenNames x
       first
       | (refine Keeps.cut (r := r) (x := x) ?_ ?_ <;> first | (intro _; clear_value x) | (unfold x; clear x))
       | clear_value x)
    | with_reducible apply State.releaseTracker_keeps
    | with_reducible apply State.putMeter_keeps
    | with_reducible apply State.answerOrigin_keeps
    | split

theorem State.answerDown_keeps {r s : State} {a1 a2} (h_s : Keeps r s) :
    Keeps r (State.answerDown s a1 a2) := by
  unfold State.answerDown
  repeat' first
    | with_reducible assumption
    | (extract_lets +onlyGivenNames x
       first
       | (refine Keeps.cut (r := r) (x := x) ?_ ?_ <;> first | (intro _; clear_value x) | (unfold x; clear x))
       | clear_value x)
    | with_reducible apply State.dropMsg_keeps
    | with_reducible apply State.bump_keeps
    | with_reducible apply State.completeError_keeps
    | with_reducible apply State.releaseTracker_keeps
    | with_reducible apply State.completeCmp_keeps
    | with_reducible apply State.mediaEvent_keeps
    | split
    | with_reducible refine Keeps.upd ?_ rfl rfl rfl rfl rfl rfl rfl

theorem State.twillTrackerTimeout_keeps {r s : State} {a1 a2} (h_s : Keeps r s) :
    Keeps r (State.twillTrackerTimeout s a1 a2) := by
  unfold State.twillTrackerTimeout
  repeat' first
    | with_reducible assumption
    | intro _
    | (extract_lets +onlyGivenNames x
       first
       | (refine Keeps.cut (r := r) (x := x) ?_ ?_ <;> first | (intro _; clear_value x) | (unfold x; clear x))
       | clear_value x)
    | with_reducible apply State.completeError_keeps
    | with_reducible apply when_keeps
    | with_reducible apply State.bump_keeps
    | split
    | with_reducible refine Keeps.upd ?_ rfl rfl rfl rfl rfl rfl rfl

theorem State.failSource_keeps {r s : State} {a1 a2} (h_s : Keeps r s) :
    Keeps r (State.failSource s a1 a2) := by
  unfold State.failSource
  repeat' first
    | with_reducible assumption
    | intro _
    | (extract_lets +onlyGivenNames x
       first
       | (refine Keeps.cut (r := r) (x := x) ?_ ?_ <;> first | (intro _; clear_value x) | (unfold x; clear x))
       | (refine Keeps.cut (r := r) (x := x.2) ?_ ?_ <;> first | (intro _; clear_value x) | (unfold x; clear x))
       | (have _ := (x : _ → State); unfold x; clear x)
       | clear_value x)
    | with_reducible apply when_keeps
    | with_reducible apply State.bump_keeps
    | with_reducible apply State.gtpViolation_keeps
    | with_reducible apply State.completeError_keeps
    | with_reducible apply State.putMeter_keeps
    | with_reducible apply State.unrouted_keeps
    | with_reducible apply State.admitMsg_keeps
    | with_reducible apply State.moveMsg_keeps
    | with_reducible apply State.stampRs_keeps
    | with_reducible apply State.linkQueue_keeps
    | with_reducible apply State.mediaEvent_keeps
    | split
    | with_reducible refine Keeps.upd ?_ rfl rfl rfl rfl rfl rfl rfl

theorem State.linkNew_keeps {r s : State} {a1} (h_s : Keeps r s) :
    Keeps r (State.linkNew s a1) := by
  unfold State.linkNew
  repeat' first
    | with_reducible assumption
    | (extract_lets +onlyGivenNames x; (refine Keeps.cut (r := r) (x := x.2) ?_ ?_ <;> first | (intro _; clear_value x) | (unfold x; clear x)))
    | with_reducible apply State.answerDown_keeps
    | with_reducible apply State.linkQueue_keeps
    | with_reducible apply State.stampRs_keeps
    | split

theorem State.portDown_keeps {r s : State} {a1} (h_s : Keeps r s) :
    Keeps r (State.portDown s a1) := by
  unfold State.portDown
  repeat' first
    | with_reducible assumption
    | intro _
    | (extract_lets +onlyGivenNames x
       first
       | (refine Keeps.cut (r := r) (x := x) ?_ ?_ <;> first | (intro _; clear_value x) | (unfold x; clear x))
       | clear_value x)
    | with_reducible apply State.lanesOff_keeps
    | with_reducible apply State.cicRaise_keeps
    | with_reducible apply State.bump_keeps
    | with_reducible apply State.setLtssm_keeps
    | with_reducible apply State.wrBit_keeps
    | with_reducible apply State.putPort_keeps
    | with_reducible apply State.reclaim_keeps
    | with_reducible apply forEach_keeps
    | with_reducible apply State.answerDown_keeps
    | with_reducible apply when_keeps
    | with_reducible apply State.askFlush_keeps
    | split
    | with_reducible refine Keeps.upd ?_ rfl rfl rfl rfl rfl rfl rfl

theorem State.fatalError_keeps {r s : State} {a1} (h_s : Keeps r s) :
    Keeps r (State.fatalError s a1) := by
  unfold State.fatalError
  repeat' first
    | with_reducible assumption
    | with_reducible apply State.triggerDpc_keeps
    | with_reducible apply State.portDown_keeps
    | split

theorem State.failMsg_keeps {r s : State} {a1 a2} (h_s : Keeps r s) :
    Keeps r (State.failMsg s a1 a2) := by
  unfold State.failMsg
  repeat' first
    | with_reducible assumption
    | (extract_lets +onlyGivenNames x
       first
       | (refine Keeps.cut (r := r) (x := x) ?_ ?_ <;> first | (intro _; clear_value x) | (unfold x; clear x))
       | clear_value x)
    | with_reducible apply State.dropMsg_keeps
    | with_reducible apply State.bump_keeps
    | with_reducible apply State.failSource_keeps
    | with_reducible apply State.failTransit_keeps
    | split
    | with_reducible refine Keeps.upd ?_ rfl rfl rfl rfl rfl rfl rfl

theorem State.twillDown_keeps {r s : State} {a1} (h_s : Keeps r s) :
    Keeps r (State.twillDown s a1) := by
  unfold State.twillDown
  repeat' first
    | with_reducible assumption
    | intro _
    | (extract_lets +onlyGivenNames x
       first
       | (refine Keeps.cut (r := r) (x := x) ?_ ?_ <;> first | (intro _; clear_value x) | (unfold x; clear x))
       | clear_value x)
    | with_reducible apply State.lanesOff_keeps
    | with_reducible apply State.setTwillState_keeps
    | with_reducible apply State.cicRaise_keeps
    | with_reducible apply State.wrBit_keeps
    | with_reducible apply forEach_keeps
    | with_reducible apply State.raise_keeps
    | with_reducible apply State.bump_keeps
    | with_reducible apply State.putPort_keeps
    | with_reducible apply State.putLink_keeps
    | with_reducible apply State.truncate_keeps
    | with_reducible apply State.reclaim_keeps
    | with_reducible apply State.failMsg_keeps
    | with_reducible apply State.failSource_keeps
    | with_reducible apply State.failTransit_keeps
    | split

theorem State.linkDownEvent_keeps {r s : State} {a1} (h_s : Keeps r s) :
    Keeps r (State.linkDownEvent s a1) := by
  unfold State.linkDownEvent
  repeat' first
    | with_reducible assumption
    | intro _
    | with_reducible apply when_keeps
    | with_reducible apply State.aerLog_keeps
    | with_reducible apply State.triggerDpc_keeps
    | with_reducible apply State.portDown_keeps
    | split

theorem State.spreadFound_keeps {r s : State} {a1} (h_s : Keeps r s) :
    Keeps r (State.spreadFound s a1) := by
  unfold State.spreadFound
  repeat' first
    | with_reducible assumption
    | intro _
    | (extract_lets +onlyGivenNames x
       first
       | (refine Keeps.cut (r := r) (x := x) ?_ ?_ <;> first | (intro _; clear_value x) | (unfold x; clear x))
       | clear_value x)
    | with_reducible apply forEach_keeps
    | with_reducible apply State.startTraining_keeps
    | with_reducible apply State.twillDown_keeps
    | split
    | with_reducible refine Keeps.upd ?_ rfl rfl rfl rfl rfl rfl rfl

theorem State.linkUpEvent_keeps {r s : State} {a1 a2} (h_s : Keeps r s) :
    Keeps r (State.linkUpEvent s a1 a2) := by
  unfold State.linkUpEvent
  repeat' first
    | with_reducible assumption
    | intro _
    | (extract_lets +onlyGivenNames x
       first
       | (refine Keeps.cut (r := r) (x := x) ?_ ?_ <;> first | (intro _; clear_value x) | (unfold x; clear x))
       | clear_value x)
    | with_reducible apply State.retrainNarrow_keeps
    | with_reducible apply State.putPort_keeps
    | with_reducible apply State.wr_keeps
    | with_reducible apply when_keeps
    | with_reducible apply State.raiseD_keeps
    | with_reducible apply State.bump_keeps
    | with_reducible apply State.cicRaise_keeps
    | with_reducible apply State.rxTrained_keeps
    | with_reducible apply State.setCdr_keeps
    | with_reducible apply State.setQuadRate_keeps
    | with_reducible apply State.loomSync_keeps
    | with_reducible apply State.advertise_keeps
    | with_reducible apply State.ideStart_keeps
    | with_reducible apply State.spreadFound_keeps
    | with_reducible apply State.equalise_keeps
    | split
    | with_reducible refine Keeps.upd ?_ rfl rfl rfl rfl rfl rfl rfl

theorem State.healthDown_keeps {r s : State} {a1} (h_s : Keeps r s) :
    Keeps r (State.healthDown s a1) := by
  unfold State.healthDown
  repeat' first
    | with_reducible assumption
    | (extract_lets +onlyGivenNames x
       first
       | (refine Keeps.cut (r := r) (x := x) ?_ ?_ <;> first | (intro _; clear_value x) | (unfold x; clear x))
       | clear_value x)
    | with_reducible apply State.raiseD_keeps
    | with_reducible apply State.bump_keeps
    | with_reducible apply State.twillDown_keeps
    | with_reducible apply State.putLink_keeps
    | with_reducible apply State.cicRaise_keeps
    | with_reducible apply State.raise_keeps
    | with_reducible apply State.wrBit_keeps
    | with_reducible apply State.startTraining_keeps
    | split

theorem State.framingLoss_keeps {r s : State} {a1} (h_s : Keeps r s) :
    Keeps r (State.framingLoss s a1) := by
  unfold State.framingLoss
  repeat' first
    | with_reducible assumption
    | with_reducible apply State.healthDown_keeps
    | split

theorem State.refRestore_keeps {r s : State} {a1 a2 a3} (h_s : Keeps r s) :
    Keeps r (State.refRestore s a1 a2 a3) := by
  unfold State.refRestore
  repeat' first
    | with_reducible assumption
    | intro _
    | (extract_lets +onlyGivenNames x
       first
       | (refine Keeps.cut (r := r) (x := x) ?_ ?_ <;> first | (intro _; clear_value x) | (unfold x; clear x))
       | clear_value x)
    | with_reducible apply State.wr_keeps
    | with_reducible apply when_keeps
    | with_reducible apply State.spreadFound_keeps
    | with_reducible apply forEach_keeps
    | with_reducible apply State.wrBit_keeps
    | with_reducible apply State.wrBits_keeps
    | with_reducible apply State.testStart_keeps
    | with_reducible apply State.startTraining_keeps
    | split
    | with_reducible refine Keeps.upd ?_ rfl rfl rfl rfl rfl rfl rfl

theorem State.elasticError_keeps {r s : State} {a1} (h_s : Keeps r s) :
    Keeps r (State.elasticError s a1) := by
  unfold State.elasticError
  repeat' first
    | with_reducible assumption
    | with_reducible apply State.framingLoss_keeps
    | with_reducible apply State.bump_keeps
    | split

theorem State.losAssert_keeps {r s : State} {a1} (h_s : Keeps r s) :
    Keeps r (State.losAssert s a1) := by
  unfold State.losAssert
  repeat' first
    | with_reducible assumption
    | (extract_lets +onlyGivenNames x
       first
       | (refine Keeps.cut (r := r) (x := x) ?_ ?_ <;> first | (intro _; clear_value x) | (unfold x; clear x))
       | clear_value x)
    | with_reducible apply State.count_keeps
    | with_reducible apply State.bump_keeps
    | with_reducible apply State.wrBit_keeps
    | with_reducible apply State.framingLoss_keeps
    | split

theorem State.dropLink_keeps {r s : State} {a1} (h_s : Keeps r s) :
    Keeps r (State.dropLink s a1) := by
  unfold State.dropLink
  repeat' first
    | with_reducible assumption
    | with_reducible apply State.healthDown_keeps
    | with_reducible apply State.twillDown_keeps
    | with_reducible apply State.wr_keeps
    | with_reducible apply State.lanesOff_keeps
    | with_reducible apply State.portDown_keeps
    | split

theorem State.alignmentMarker_keeps {r s : State} {a1 a2 a3 a4} (h_s : Keeps r s) :
    Keeps r (State.alignmentMarker s a1 a2 a3 a4) := by
  unfold State.alignmentMarker
  repeat' first
    | with_reducible assumption
    | (extract_lets +onlyGivenNames x
       first
       | (refine Keeps.cut (r := r) (x := x) ?_ ?_ <;> first | (intro _; clear_value x) | (unfold x; clear x))
       | clear_value x)
    | with_reducible apply State.wrBit_keeps
    | with_reducible apply State.putAlignment_keeps
    | with_reducible apply State.bump_keeps
    | with_reducible apply State.framingLoss_keeps
    | split

theorem State.refLoss_keeps {r s : State} {a1 a2 a3} (h_s : Keeps r s) :
    Keeps r (State.refLoss s a1 a2 a3) := by
  unfold State.refLoss
  repeat' first
    | with_reducible assumption
    | intro _
    | (extract_lets +onlyGivenNames x
       first
       | (refine Keeps.cut (r := r) (x := x) ?_ ?_ <;> first | (intro _; clear_value x) | (unfold x; clear x))
       | clear_value x)
    | with_reducible apply State.bump_keeps
    | with_reducible apply State.wr_keeps
    | with_reducible apply forEach_keeps
    | with_reducible apply State.cicRaise_keeps
    | with_reducible apply State.wrBits_keeps
    | with_reducible apply State.raise_keeps
    | with_reducible apply State.dropLink_keeps
    | split
    | with_reducible refine Keeps.upd ?_ rfl rfl rfl rfl rfl rfl rfl

theorem State.fenceQuad_keeps {r s : State} {a1} (h_s : Keeps r s) :
    Keeps r (State.fenceQuad s a1) := by
  unfold State.fenceQuad
  repeat' first
    | with_reducible assumption
    | with_reducible apply State.raise_keeps
    | with_reducible apply State.dropLink_keeps
    | with_reducible apply State.setQuadFence_keeps

theorem State.pllUnlock_keeps {r s : State} {a1} (h_s : Keeps r s) :
    Keeps r (State.pllUnlock s a1) := by
  unfold State.pllUnlock
  repeat' first
    | with_reducible assumption
    | (extract_lets +onlyGivenNames x
       first
       | (refine Keeps.cut (r := r) (x := x) ?_ ?_ <;> first | (intro _; clear_value x) | (unfold x; clear x))
       | clear_value x)
    | with_reducible apply State.wrBit_keeps
    | with_reducible apply State.wrBits_keeps
    | with_reducible apply State.bump_keeps
    | with_reducible apply State.cicRaise_keeps
    | with_reducible apply State.putSelQuad_keeps
    | with_reducible apply State.raise_keeps
    | with_reducible apply State.dropLink_keeps
    | with_reducible apply State.fenceQuad_keeps
    | split

theorem State.pllRelock_keeps {r s : State} {a1 a2} (h_s : Keeps r s) :
    Keeps r (State.pllRelock s a1 a2) := by
  unfold State.pllRelock
  repeat' first
    | with_reducible assumption
    | (extract_lets +onlyGivenNames x
       first
       | (refine Keeps.cut (r := r) (x := x) ?_ ?_ <;> first | (intro _; clear_value x) | (unfold x; clear x))
       | clear_value x)
    | with_reducible apply State.putSelQuad_keeps
    | with_reducible apply State.testStart_keeps
    | with_reducible apply State.startTraining_keeps
    | with_reducible apply State.wrBit_keeps
    | with_reducible apply State.fenceQuad_keeps
    | split

end Sys2Proof.Machine
end

