-- ==== Sys2Proof/Laws/KeepsFold.lean ====
section
/-! SUPPORT. What every command keeps, for the operations of folds, Bellwether and Paddock: one lemma for each operation, which says that
it keeps what `Keeps` speaks of. -/

namespace Sys2Proof.Machine

set_option Elab.async false

theorem State.tallyStart_keeps {r s : State} {a0} (h_s : Keeps r s) :
    Keeps r (State.tallyStart a0 s) := by
  unfold State.tallyStart
  repeat' first
    | with_reducible assumption
    | (extract_lets +onlyGivenNames x; clear_value x)
    | with_reducible refine Keeps.upd ?_ rfl rfl rfl rfl rfl rfl rfl

theorem State.putTxn__keeps {r s : State} {a1} (h_s : Keeps r s) :
    Keeps r (State.putTxn_ s a1) := by
  unfold State.putTxn_
  repeat' first
    | with_reducible assumption
    | (extract_lets +onlyGivenNames x; clear_value x)
    | with_reducible refine Keeps.upd ?_ rfl rfl rfl rfl rfl rfl rfl

theorem State.blwRetag_keeps {r s : State} {a1 a2} (h_s : Keeps r s) :
    Keeps r (State.blwRetag s a1 a2) := by
  unfold State.blwRetag
  repeat' first
    | with_reducible assumption
    | (extract_lets +onlyGivenNames x; clear_value x)
    | with_reducible refine Keeps.upd ?_ rfl rfl rfl rfl rfl rfl rfl

theorem State.retryTurn_keeps {r s : State} {a1 a2} (h_s : Keeps r s) :
    Keeps r (State.retryTurn s a1 a2) := by
  unfold State.retryTurn
  repeat' first
    | with_reducible assumption
    | (extract_lets +onlyGivenNames x; clear_value x)
    | split
    | with_reducible refine Keeps.upd ?_ rfl rfl rfl rfl rfl rfl rfl

theorem State.putDeficit_keeps {r s : State} {a1 a2 a3} (h_s : Keeps r s) :
    Keeps r (State.putDeficit s a1 a2 a3) := by
  unfold State.putDeficit
  repeat' first
    | with_reducible assumption
    | (extract_lets +onlyGivenNames x; clear_value x)
    | with_reducible refine Keeps.upd ?_ rfl rfl rfl rfl rfl rfl rfl

theorem State.nameWrite_keeps {r s : State} {a1 a2 a3} (h_s : Keeps r s) :
    Keeps r (State.nameWrite s a1 a2 a3) := by
  unfold State.nameWrite
  repeat' first
    | with_reducible assumption
    | (extract_lets +onlyGivenNames x; clear_value x)
    | with_reducible apply State.putTracker_keeps
    | split

theorem State.putLine_keeps {r s : State} {a1} (h_s : Keeps r s) :
    Keeps r (State.putLine s a1) := by
  unfold State.putLine
  repeat' first
    | with_reducible assumption
    | (extract_lets +onlyGivenNames x; clear_value x)
    | split
    | with_reducible refine Keeps.upd ?_ rfl rfl rfl rfl rfl rfl rfl

theorem State.closeTxn_keeps {r s : State} {a1} (h_s : Keeps r s) :
    Keeps r (State.closeTxn s a1) := by
  unfold State.closeTxn
  repeat' first
    | with_reducible assumption
    | (extract_lets +onlyGivenNames x; clear_value x)
    | split
    | with_reducible refine Keeps.upd ?_ rfl rfl rfl rfl rfl rfl rfl

theorem State.releaseSync_keeps {r s : State} (h_s : Keeps r s) :
    Keeps r (State.releaseSync s) := by
  unfold State.releaseSync
  repeat' first
    | with_reducible assumption
    | with_reducible apply State.wr_keeps

theorem State.gatherLine_keeps {r s : State} {a1 a2 a3 a4} (h_s : Keeps r s) :
    Keeps r (State.gatherLine s a1 a2 a3 a4) := by
  unfold State.gatherLine
  repeat' first
    | with_reducible assumption
    | with_reducible apply State.putTracker_keeps

theorem State.histClear_keeps {r s : State} {a1} (h_s : Keeps r s) :
    Keeps r (State.histClear s a1).2 := by
  unfold State.histClear
  split
  · exact forEach_keeps (fun _ _ h => State.wr_keeps h) h_s
  · split
    · exact Keeps.tables h_s fun i => { i with nums := Sparse.wf_filter _ _ _ i.nums }
    · exact h_s

theorem State.settleLine_keeps {r s : State} {a1 a2} (h_s : Keeps r s) :
    Keeps r (State.settleLine s a1 a2) := by
  unfold State.settleLine
  repeat' first
    | with_reducible assumption
    | with_reducible apply State.putLine_keeps
    | split

theorem State.zeroBitmap_keeps {r s : State} {a1} (h_s : Keeps r s) :
    Keeps r (State.zeroBitmap s a1) :=
  Keeps.tables h_s fun i => { i with cells := Sparse.wf_filter _ _ _ i.cells }

theorem State.restoreEntry_keeps {r s : State} {a1 a2} (h_s : Keeps r s) :
    Keeps r (State.restoreEntry s a1 a2) := by
  unfold State.restoreEntry
  repeat' first
    | with_reducible assumption
    | (extract_lets +onlyGivenNames x; clear_value x)
    | with_reducible refine Keeps.upd ?_ rfl rfl rfl rfl rfl rfl rfl

theorem State.putBucket_keeps {r s : State} {a1 a2 a3} (h_s : Keeps r s) :
    Keeps r (State.putBucket s a1 a2 a3) := by
  unfold State.putBucket
  repeat' first
    | with_reducible assumption
    | (extract_lets +onlyGivenNames x; clear_value x)
    | with_reducible refine Keeps.upd ?_ rfl rfl rfl rfl rfl rfl rfl

theorem State.clearEvents_keeps {r s : State} {a1 a2} (h_s : Keeps r s) :
    Keeps r (State.clearEvents s a1 a2) := by
  unfold State.clearEvents
  repeat' first
    | with_reducible assumption
    | (extract_lets +onlyGivenNames x; clear_value x)
    | with_reducible apply State.putPort_keeps
    | split

theorem State.capacitySync_keeps {r s : State} {a1} (h_s : Keeps r s) :
    Keeps r (State.capacitySync s a1) := by
  unfold State.capacitySync
  repeat' first
    | with_reducible assumption
    | (extract_lets +onlyGivenNames x; clear_value x)
    | with_reducible apply State.putPort_keeps
    | split

theorem State.rebucket_keeps {r s s1 : State} {a2} (h_s : Keeps r s) (_h_s1 : Keeps r s1) :
    Keeps r (State.rebucket s s1 a2) := by
  unfold State.rebucket
  repeat' first
    | with_reducible assumption
    | (extract_lets +onlyGivenNames x; clear_value x)
    | with_reducible apply State.putBucket_keeps
    | split
    | with_reducible refine Keeps.upd ?_ rfl rfl rfl rfl rfl rfl rfl

theorem State.boundarySeen_keeps {r s : State} (h_s : Keeps r s) :
    Keeps r (State.boundarySeen s) := by
  unfold State.boundarySeen
  repeat' first
    | with_reducible assumption
    | (extract_lets +onlyGivenNames x; clear_value x)
    | split
    | with_reducible refine Keeps.upd ?_ rfl rfl rfl rfl rfl rfl rfl

theorem State.postDc_keeps {r s : State} {a1 a2 a3 a4 a5 a6} (h_s : Keeps r s) :
    Keeps r (State.postDc s a1 a2 a3 a4 a5 a6) := by
  unfold State.postDc
  repeat' first
    | with_reducible assumption
    | (extract_lets +onlyGivenNames x
       first
       | (refine Keeps.cut (r := r) (x := x) ?_ ?_ <;> first | (intro _; clear_value x) | (unfold x; clear x))
       | clear_value x)
    | with_reducible apply State.putPort_keeps
    | with_reducible apply State.emit_keeps
    | split

theorem State.deviceRemove_keeps {r s : State} {a1 a2 a3 a4} (h_s : Keeps r s) :
    Keeps r (State.deviceRemove s a1 a2 a3 a4) := by
  unfold State.deviceRemove
  repeat' first
    | with_reducible assumption
    | (extract_lets +onlyGivenNames x; clear_value x)
    | with_reducible apply State.capacitySync_keeps
    | with_reducible apply State.putPort_keeps
    | split

theorem State.writePathAdd_keeps {r s : State} {a1} (h_s : Keeps r s) :
    Keeps r (State.writePathAdd s a1) := by
  unfold State.writePathAdd
  repeat' first
    | with_reducible assumption
    | (extract_lets +onlyGivenNames x; clear_value x)
    | with_reducible apply State.addMsg_keeps
    | with_reducible refine Keeps.upd ?_ rfl rfl rfl rfl rfl rfl rfl

theorem State.onLine_keeps {r s : State} {a1 a2 a3} (h_s : Keeps r s) :
    Keeps r (State.onLine s a1 a2 a3) := by
  unfold State.onLine
  repeat' first
    | with_reducible assumption
    | with_reducible apply State.putLine_keeps

theorem State.biConflict_keeps {r s : State} {a1 a2 a3} (h_s : Keeps r s) :
    Keeps r (State.biConflict s a1 a2 a3) := by
  unfold State.biConflict
  repeat' first
    | with_reducible assumption
    | with_reducible apply State.emit_keeps
    | split

theorem State.grantHost_keeps {r s : State} {a1 a2 a3 a4 a5 a6} (h_s : Keeps r s) :
    Keeps r (State.grantHost s a1 a2 a3 a4 a5 a6) := by
  unfold State.grantHost
  repeat' first
    | with_reducible assumption
    | (extract_lets +onlyGivenNames x; (refine Keeps.cut (r := r) (x := x) ?_ ?_ <;> first | (intro _; clear_value x) | (unfold x; clear x)))
    | with_reducible apply State.putTracker_keeps
    | with_reducible apply State.onLine_keeps
    | split

theorem State.refillBucket_keeps {r s : State} {a1} (h_s : Keeps r s) :
    Keeps r (State.refillBucket s a1) := by
  unfold State.refillBucket
  repeat' first
    | with_reducible assumption
    | (extract_lets +onlyGivenNames x; clear_value x)
    | with_reducible apply State.putBucket_keeps
    | split

theorem State.writebackFailed_keeps {r s : State} {a1 a2 a3} (h_s : Keeps r s) :
    Keeps r (State.writebackFailed s a1 a2 a3) := by
  unfold State.writebackFailed
  repeat' first
    | with_reducible assumption
    | (extract_lets +onlyGivenNames x
       first
       | (refine Keeps.cut (r := r) (x := x) ?_ ?_ <;> first | (intro _; clear_value x) | (unfold x; clear x))
       | clear_value x)
    | with_reducible apply State.onLine_keeps
    | with_reducible refine Keeps.upd ?_ rfl rfl rfl rfl rfl rfl rfl

theorem State.markDirty_keeps {r s : State} {a1 a2 a3} (h_s : Keeps r s) :
    Keeps r (State.markDirty s a1 a2 a3) := by
  unfold State.markDirty
  repeat' first
    | with_reducible assumption
    | intro _
    | (extract_lets +onlyGivenNames x; clear_value x)
    | with_reducible apply forEach_keeps
    | with_reducible apply State.memSet_keeps
    | split

theorem State.releaseRequest_keeps {r s : State} {a1} (h_s : Keeps r s) :
    Keeps r (State.releaseRequest s a1).2 := by
  unfold State.releaseRequest
  repeat' first
    | with_reducible assumption
    | (extract_lets +onlyGivenNames x
       first
       | (refine Keeps.cut (r := r) (x := x) ?_ ?_ <;> first | (intro _; clear_value x) | (unfold x; clear x))
       | clear_value x)
    | with_reducible apply State.releaseSync_keeps
    | split
    | with_reducible refine Keeps.upd ?_ rfl rfl rfl rfl rfl rfl rfl

theorem State.meterTick_keeps {r s : State} {a1} (h_s : Keeps r s) :
    Keeps r (State.meterTick s a1) := by
  unfold State.meterTick
  repeat' first
    | with_reducible assumption
    | intro _
    | (extract_lets +onlyGivenNames x
       first
       | (refine Keeps.cut (r := r) (x := x) ?_ ?_ <;> first | (intro _; clear_value x) | (unfold x; clear x))
       | clear_value x)
    | with_reducible apply forEach_keeps
    | with_reducible apply State.putMeter_keeps
    | with_reducible apply State.wr_keeps
    | split
    | with_reducible refine Keeps.upd ?_ rfl rfl rfl rfl rfl rfl rfl

theorem State.releasePost_keeps {r s : State} (h_s : Keeps r s) :
    Keeps r (State.releasePost s) := by
  unfold State.releasePost
  repeat' first
    | with_reducible assumption
    | intro _
    | (extract_lets +onlyGivenNames x
       first
       | (refine Keeps.cut (r := r) (x := x) ?_ ?_ <;> first | (intro _; clear_value x) | (unfold x; clear x))
       | clear_value x)
    | with_reducible apply forEach_keeps
    | with_reducible apply State.releaseSync_keeps
    | with_reducible apply State.postDc_keeps
    | split
    | with_reducible refine Keeps.upd ?_ rfl rfl rfl rfl rfl rfl rfl

theorem State.postAll_keeps {r s : State} {a1 a2} (h_s : Keeps r s) : Keeps r (State.postAll s a1 a2) := by
  fun_induction State.postAll s a1 a2 with
  | case1 => exact h_s
  | case2 => exact State.postDc_keeps h_s
  | case3 _ _ _ _ _ _ _ ih => exact ih (State.postDc_keeps h_s)

theorem State.deviceAdd_keeps {r s : State} {a1 a2 a3 a4} (h_s : Keeps r s) :
    Keeps r (State.deviceAdd s a1 a2 a3 a4) := by
  unfold State.deviceAdd
  repeat' first
    | with_reducible assumption
    | (extract_lets +onlyGivenNames x; clear_value x)
    | with_reducible apply State.emit_keeps
    | with_reducible apply State.capacitySync_keeps
    | with_reducible apply State.putPort_keeps
    | split

theorem State.chargeReq_keeps {r s : State} {a1} (h_s : Keeps r s) :
    Keeps r (State.chargeReq s a1) := by
  unfold State.chargeReq
  repeat' first
    | with_reducible assumption
    | intro _
    | (extract_lets +onlyGivenNames x
       first
       | (refine Keeps.cut (r := r) (x := x) ?_ ?_ <;> first | (intro _; clear_value x) | (unfold x; clear x))
       | clear_value x)
    | with_reducible apply forEach_keeps
    | with_reducible apply State.refillBucket_keeps
    | with_reducible apply State.putBucket_keeps
    | with_reducible apply State.putTracker_keeps
    | with_reducible apply State.putMeter_keeps
    | split

theorem State.dropRun_keeps {r s : State} {a1} (h_s : Keeps r s) :
    Keeps r (State.dropRun s a1) := by
  unfold State.dropRun
  repeat' first
    | with_reducible assumption
    | intro _
    | with_reducible apply forEach_keeps
    | with_reducible apply State.onLine_keeps
    | split

theorem State.granting_keeps {r s : State} {a1 a2 a3 a4} (h_s : Keeps r s) :
    Keeps r (State.granting s a1 a2 a3 a4).2 := by
  unfold State.granting
  repeat' first
    | with_reducible assumption
    | with_reducible apply State.bump_keeps
    | split

theorem State.lookupLine_keeps {r s : State} {a1 a2} (h_s : Keeps r s) :
    Keeps r (State.lookupLine s a1 a2) := by
  unfold State.lookupLine
  repeat' first
    | with_reducible assumption
    | (extract_lets +onlyGivenNames x; clear_value x)
    | with_reducible apply State.cicRaise_keeps
    | with_reducible apply State.wro_keeps

theorem State.biSnp_keeps {r s : State} {a1 a2 a3 a4} (h_s : Keeps r s) :
    Keeps r (State.biSnp s a1 a2 a3 a4) := by
  unfold State.biSnp
  repeat' first
    | with_reducible assumption
    | with_reducible apply State.emit_keeps
    | with_reducible apply State.count_keeps
    | with_reducible apply State.bump_keeps

theorem State.biSnps_keeps {r s : State} {a1 a2 a3 a4} (h_s : Keeps r s) :
    Keeps r (State.biSnps s a1 a2 a3 a4).2 := by
  unfold State.biSnps
  repeat' first
    | with_reducible assumption
    | intro _
    | with_reducible apply forEach_keeps
    | with_reducible apply State.biSnp_keeps

theorem State.recallLine_keeps {r s : State} {a1} (h_s : Keeps r s) :
    Keeps r (State.recallLine s a1) := by
  unfold State.recallLine
  repeat' first
    | with_reducible assumption
    | (extract_lets +onlyGivenNames x; (refine Keeps.cut (r := r) (x := x.2) ?_ ?_ <;> first | (intro _; clear_value x) | (unfold x; clear x)))
    | with_reducible apply State.biSnps_keeps
    | with_reducible apply State.putTxn__keeps
    | with_reducible apply State.putLine_keeps

theorem State.startRecall_keeps {r s : State} {a1} (h_s : Keeps r s) :
    Keeps r (State.startRecall s a1) := by
  unfold State.startRecall
  repeat' first
    | with_reducible assumption
    | with_reducible apply State.bump_keeps
    | with_reducible apply State.recallLine_keeps

theorem State.flushFold_keeps {r s : State} {a1} (h_s : Keeps r s) :
    Keeps r (State.flushFold s a1).2 := by
  unfold State.flushFold
  repeat' first
    | with_reducible assumption
    | (extract_lets +onlyGivenNames x
       first
       | (refine Keeps.cut (r := r) (x := x) ?_ ?_ <;> first | (intro _; clear_value x) | (unfold x; clear x))
       | clear_value x)
    | with_reducible apply State.wr_keeps
    | with_reducible apply State.askFlush_keeps
    | split
    | with_reducible refine Keeps.upd ?_ rfl rfl rfl rfl rfl rfl rfl

theorem State.takeWay_keeps {r s : State} {a1} (h_s : Keeps r s) :
    KeepsO r (State.takeWay s a1) := by
  unfold State.takeWay
  repeat' first
    | with_reducible assumption
    | (extract_lets +onlyGivenNames x
       first
       | (refine Keeps.cut (r := r) (x := x) ?_ ?_ <;> first | (intro _; clear_value x) | (unfold x; clear x))
       | clear_value x)
    | with_reducible apply State.putLine_keeps
    | with_reducible apply State.startRecall_keeps
    | split
    | with_reducible apply KeepsO.none
    | with_reducible apply KeepsO.some
    | with_reducible refine Keeps.upd ?_ rfl rfl rfl rfl rfl rfl rfl

theorem State.allocate_keeps {r s : State} {a1 a2 a3} (h_s : Keeps r s) :
    KeepsO r (State.allocate s a1 a2 a3) := by
  unfold State.allocate
  repeat' first
    | with_reducible assumption
    | with_reducible apply State.takeWay_keeps
    | split
    | with_reducible apply KeepsO.some

theorem State.dirtyFail_keeps {r s : State} {a1} (h_s : Keeps r s) :
    Keeps r (State.dirtyFail s a1) := by
  unfold State.dirtyFail
  repeat' first
    | with_reducible assumption
    | with_reducible apply State.cicRaise_keeps
    | with_reducible apply State.raise_keeps
    | split

theorem State.strayWriteback_keeps {r s : State} {a1} (h_s : Keeps r s) :
    Keeps r (State.strayWriteback s a1) := by
  unfold State.strayWriteback
  repeat' first
    | with_reducible assumption
    | (extract_lets +onlyGivenNames x; clear_value x)
    | with_reducible apply State.raiseD_keeps
    | with_reducible apply State.bump_keeps
    | split

theorem State.poisonNote_keeps {r s : State} {a1} (h_s : Keeps r s) :
    Keeps r (State.poisonNote s a1) := by
  unfold State.poisonNote
  repeat' first
    | with_reducible assumption
    | with_reducible apply State.cicRaise_keeps
    | with_reducible apply State.raiseD_keeps
    | with_reducible apply State.bump_keeps

theorem State.tallyBlock_keeps {r s : State} (h_s : Keeps r s) :
    Keeps r (State.tallyBlock s) := by
  unfold State.tallyBlock
  repeat' first
    | with_reducible assumption
    | (extract_lets +onlyGivenNames x
       first
       | (refine Keeps.cut (r := r) (x := x) ?_ ?_ <;> first | (intro _; clear_value x) | (unfold x; clear x))
       | clear_value x)
    | with_reducible apply State.cicRaise_keeps
    | with_reducible apply State.raise_keeps
    | with_reducible apply State.bump_keeps
    | with_reducible apply State.cmnWrite_keeps
    | with_reducible apply State.wr_keeps
    | with_reducible apply State.tallyStart_keeps
    | split
    | with_reducible refine Keeps.upd ?_ rfl rfl rfl rfl rfl rfl rfl

theorem State.addResponse_keeps {r s : State} {a1 a2} (h_s : Keeps r s) :
    Keeps r (State.addResponse s a1 a2) := by
  unfold State.addResponse
  repeat' first
    | with_reducible assumption
    | intro _
    | (extract_lets +onlyGivenNames x
       first
       | (refine Keeps.cut (r := r) (x := x) ?_ ?_ <;> first | (intro _; clear_value x) | (unfold x; clear x))
       | clear_value x)
    | with_reducible apply State.putPort_keeps
    | with_reducible apply forEach_keeps
    | with_reducible apply State.portViolation_keeps
    | with_reducible apply State.emit_keeps
    | with_reducible apply State.cicRaise_keeps
    | split

theorem State.bucketEcc_keeps {r s : State} {a1 a2 a3} (h_s : Keeps r s) :
    Keeps r (State.bucketEcc s a1 a2 a3) := by
  unfold State.bucketEcc
  repeat' first
    | with_reducible assumption
    | intro _
    | (extract_lets +onlyGivenNames x; clear_value x)
    | with_reducible apply State.cicRaise_keeps
    | with_reducible apply State.raiseD_keeps
    | with_reducible apply when_keeps
    | with_reducible apply State.putBucket_keeps
    | with_reducible apply State.raiseGraveD_keeps
    | split

theorem State.extentEcc_keeps {r s : State} {a1 a2} (h_s : Keeps r s) :
    Keeps r (State.extentEcc s a1 a2) := by
  unfold State.extentEcc
  repeat' first
    | with_reducible assumption
    | (extract_lets +onlyGivenNames x
       first
       | (refine Keeps.cut (r := r) (x := x) ?_ ?_ <;> first | (intro _; clear_value x) | (unfold x; clear x))
       | clear_value x)
    | with_reducible apply State.cicRaise_keeps
    | with_reducible apply State.raiseD_keeps
    | split
    | with_reducible refine Keeps.upd ?_ rfl rfl rfl rfl rfl rfl rfl

theorem State.tableEcc_keeps {r s : State} {a1 a2} (h_s : Keeps r s) :
    Keeps r (State.tableEcc s a1 a2) := by
  unfold State.tableEcc
  repeat' first
    | with_reducible assumption
    | with_reducible apply State.cicRaise_keeps
    | with_reducible apply State.raiseD_keeps
    | with_reducible apply State.bump_keeps

theorem State.setEcc_keeps {r s : State} {a1 a2 a3 a4} (h_s : Keeps r s) :
    Keeps r (State.setEcc s a1 a2 a3 a4) := by
  unfold State.setEcc
  repeat' first
    | with_reducible assumption
    | with_reducible apply State.raiseD_keeps
    | with_reducible apply State.cicRaise_keeps
    | with_reducible apply State.askFlush_keeps
    | with_reducible apply State.raiseGraveD_keeps
    | split

theorem State.hostRelease_keeps {r s : State} {a1 a2} (h_s : Keeps r s) :
    Keeps r (State.hostRelease s a1 a2) := by
  unfold State.hostRelease
  repeat' first
    | with_reducible assumption
    | (extract_lets +onlyGivenNames x
       first
       | (refine Keeps.cut (r := r) (x := x) ?_ ?_ <;> first | (intro _; clear_value x) | (unfold x; clear x))
       | clear_value x)
    | with_reducible apply State.emit_keeps
    | with_reducible apply State.portViolation_keeps
    | with_reducible apply State.releaseSync_keeps
    | with_reducible apply State.cicRaise_keeps
    | split
    | with_reducible refine Keeps.upd ?_ rfl rfl rfl rfl rfl rfl rfl

theorem State.routeEcc_keeps {r s : State} {a1 a2} (h_s : Keeps r s) :
    Keeps r (State.routeEcc s a1 a2) := by
  unfold State.routeEcc
  repeat' first
    | with_reducible assumption
    | (extract_lets +onlyGivenNames x
       first
       | (refine Keeps.cut (r := r) (x := x) ?_ ?_ <;> first | (intro _; clear_value x) | (unfold x; clear x))
       | clear_value x)
    | with_reducible apply State.cicRaise_keeps
    | with_reducible apply State.raiseD_keeps
    | with_reducible refine Keeps.upd ?_ rfl rfl rfl rfl rfl rfl rfl

theorem State.blwViolation_keeps {r s : State} {a1 a2 a3 a4} (h_s : Keeps r s) :
    Keeps r (State.blwViolation s a1 a2 a3 a4) := by
  unfold State.blwViolation
  repeat' first
    | with_reducible assumption
    | (extract_lets +onlyGivenNames x; clear_value x)
    | with_reducible apply State.cicRaise_keeps
    | with_reducible apply State.raiseD_keeps
    | with_reducible apply State.bump_keeps

theorem State.meterEcc_keeps {r s : State} {a1 a2 a3 a4} (h_s : Keeps r s) :
    Keeps r (State.meterEcc s a1 a2 a3 a4) := by
  unfold State.meterEcc
  repeat' first
    | with_reducible assumption
    | (extract_lets +onlyGivenNames x
       first
       | (refine Keeps.cut (r := r) (x := x) ?_ ?_ <;> first | (intro _; clear_value x) | (unfold x; clear x))
       | clear_value x)
    | with_reducible apply State.putMeter_keeps
    | with_reducible apply State.cicRaise_keeps
    | with_reducible apply State.raiseGraveD_keeps
    | with_reducible apply State.raiseD_keeps
    | split
    | with_reducible refine Keeps.upd ?_ rfl rfl rfl rfl rfl rfl rfl

theorem State.qsample_keeps {r s : State} {a1} (h_s : Keeps r s) :
    Keeps r (State.qsample s a1) := by
  unfold State.qsample
  repeat' first
    | with_reducible assumption
    | intro _
    | (extract_lets +onlyGivenNames x
       first
       | (refine Keeps.cut (r := r) (x := x) ?_ ?_ <;> first | (intro _; clear_value x) | (unfold x; clear x))
       | clear_value x)
    | with_reducible apply when_keeps
    | with_reducible apply State.bump_keeps
    | with_reducible apply State.cicRaise_keeps
    | with_reducible apply State.raise_keeps
    | with_reducible apply State.wr_keeps
    | with_reducible apply State.cmnWrite_keeps
    | split
    | with_reducible refine Keeps.upd ?_ rfl rfl rfl rfl rfl rfl rfl

theorem State.decodeMiss_keeps {r s : State} {a1} (h_s : Keeps r s) :
    Keeps r (State.decodeMiss s a1) := by
  unfold State.decodeMiss
  repeat' first
    | with_reducible assumption
    | (extract_lets +onlyGivenNames x; (refine Keeps.cut (r := r) (x := x) ?_ ?_ <;> first | (intro _; clear_value x) | (unfold x; clear x)))
    | with_reducible apply State.cicRaise_keeps
    | with_reducible apply State.bump_keeps
    | with_reducible apply State.raise_keeps
    | with_reducible apply State.count_keeps
    | split

theorem State.dcLate_keeps {r s : State} {a1 a2} (h_s : Keeps r s) :
    Keeps r (State.dcLate s a1 a2) := by
  unfold State.dcLate
  repeat' first
    | with_reducible assumption
    | (extract_lets +onlyGivenNames x; clear_value x)
    | with_reducible apply State.raise_keeps
    | with_reducible apply State.putPort_keeps
    | split

theorem State.bisnpTimeout_keeps {r s : State} {a1 a2 a3} (h_s : Keeps r s) :
    Keeps r (State.bisnpTimeout s a1 a2 a3) := by
  unfold State.bisnpTimeout
  repeat' first
    | with_reducible assumption
    | with_reducible apply State.cicRaise_keeps
    | with_reducible apply State.raise_keeps
    | with_reducible apply State.bump_keeps
    | split

theorem State.pdkOverrun_keeps {r s : State} {a1 a2} (h_s : Keeps r s) :
    Keeps r (State.pdkOverrun s a1 a2) := by
  unfold State.pdkOverrun
  repeat' first
    | with_reducible assumption
    | with_reducible apply State.cicRaise_keeps
    | with_reducible apply State.raiseD_keeps
    | with_reducible apply State.bump_keeps

theorem State.flushEnd_keeps {r s : State} (h_s : Keeps r s) :
    Keeps r (State.flushEnd s) := by
  unfold State.flushEnd
  repeat' first
    | with_reducible assumption
    | (extract_lets +onlyGivenNames x
       first
       | (refine Keeps.cut (r := r) (x := x) ?_ ?_ <;> first | (intro _; clear_value x) | (unfold x; clear x))
       | clear_value x)
    | with_reducible apply State.setGrant_keeps
    | with_reducible apply State.cicRaise_keeps
    | with_reducible apply State.startTraining_keeps
    | with_reducible apply State.putPort_keeps
    | with_reducible apply State.wr_keeps
    | split
    | with_reducible refine Keeps.upd ?_ rfl rfl rfl rfl rfl rfl rfl

theorem State.blwProtocol_keeps {r s : State} {a1 a2} (h_s : Keeps r s) :
    Keeps r (State.blwProtocol s a1 a2) := by
  unfold State.blwProtocol
  repeat' first
    | with_reducible assumption
    | (extract_lets +onlyGivenNames x; clear_value x)
    | with_reducible apply State.cicRaise_keeps
    | with_reducible apply State.raiseGraveD_keeps
    | with_reducible apply State.bump_keeps

theorem State.sendEvict_keeps {r s : State} {a1 a2} (h_s : Keeps r s) :
    Keeps r (State.sendEvict s a1 a2) := by
  unfold State.sendEvict
  repeat' first
    | with_reducible assumption
    | (extract_lets +onlyGivenNames x
       first
       | (refine Keeps.cut (r := r) (x := x.2) ?_ ?_ <;> first | (intro _; clear_value x) | (unfold x; clear x))
       | clear_value x)
    | with_reducible apply State.gtpViolation_keeps
    | with_reducible apply State.newTracker_keeps
    | with_reducible apply State.releaseTracker_keeps
    | with_reducible apply State.stampRs_keeps
    | with_reducible apply State.putTracker_keeps
    | with_reducible apply State.sendMsg_keeps
    | split

theorem State.toDevice_keeps {r s : State} {a1 a2 a3 a4 a5} (h_s : Keeps r s) :
    Keeps r (State.toDevice s a1 a2 a3 a4 a5) := by
  unfold State.toDevice
  repeat' first
    | with_reducible assumption
    | (extract_lets +onlyGivenNames x
       first
       | (refine Keeps.cut (r := r) (x := x.2) ?_ ?_ <;> first | (intro _; clear_value x) | (unfold x; clear x))
       | clear_value x)
    | with_reducible apply State.stampRs_keeps
    | with_reducible apply State.sendMsg_keeps
    | split

theorem State.snoop_keeps {r s : State} {a1 a2 a3 a4 a5} (h_s : Keeps r s) :
    Keeps r (State.snoop s a1 a2 a3 a4 a5).2.2 := by
  unfold State.snoop
  repeat' first
    | with_reducible assumption
    | (extract_lets +onlyGivenNames x
       first
       | (refine Keeps.cut (r := r) (x := x) ?_ ?_ <;> first | (intro _; clear_value x) | (unfold x; clear x))
       | (refine Keeps.cut (r := r) (x := x.2) ?_ ?_ <;> first | (intro _; clear_value x) | (unfold x; clear x))
       | clear_value x)
    | with_reducible apply State.newTracker_keeps
    | with_reducible apply State.releaseTracker_keeps
    | with_reducible apply State.putTracker_keeps
    | with_reducible apply State.stampRs_keeps
    | with_reducible apply State.sendMsg_keeps
    | with_reducible apply State.count_keeps
    | with_reducible apply State.bump_keeps
    | split

theorem State.writeback_keeps {r s : State} {a1 a2 a3} (h_s : Keeps r s) :
    Keeps r (State.writeback s a1 a2 a3) := by
  unfold State.writeback
  repeat' first
    | with_reducible assumption
    | (extract_lets +onlyGivenNames x
       first
       | (refine Keeps.cut (r := r) (x := x) ?_ ?_ <;> first | (intro _; clear_value x) | (unfold x; clear x))
       | (refine Keeps.cut (r := r) (x := x.2) ?_ ?_ <;> first | (intro _; clear_value x) | (unfold x; clear x))
       | clear_value x)
    | with_reducible apply State.newTracker_keeps
    | with_reducible apply State.putLine_keeps
    | with_reducible apply State.releaseTracker_keeps
    | with_reducible apply State.putTracker_keeps
    | with_reducible apply State.stampRs_keeps
    | with_reducible apply State.sendMsg_keeps
    | split
    | with_reducible refine Keeps.upd ?_ rfl rfl rfl rfl rfl rfl rfl

theorem State.dataTo_keeps {r s : State} {a1 a2 a3 a4 a5} (h_s : Keeps r s) :
    Keeps r (State.dataTo s a1 a2 a3 a4 a5) := by
  unfold State.dataTo
  repeat' first
    | with_reducible assumption
    | with_reducible apply State.toDevice_keeps

theorem State.bwCmpTo_keeps {r s : State} {a1 a2} (h_s : Keeps r s) :
    Keeps r (State.bwCmpTo s a1 a2) := by
  unfold State.bwCmpTo
  repeat' first
    | with_reducible assumption
    | with_reducible apply State.toDevice_keeps

theorem State.advanceEpoch_keeps {r s : State} {a1} (h_s : Keeps r s) :
    Keeps r (State.advanceEpoch s a1) := by
  unfold State.advanceEpoch
  repeat' first
    | with_reducible assumption
    | intro _
    | (extract_lets +onlyGivenNames x
       first
       | (refine Keeps.cut (r := r) (x := x) ?_ ?_ <;> first | (intro _; clear_value x) | (unfold x; clear x))
       | clear_value x)
    | with_reducible apply State.wr_keeps
    | with_reducible apply forEach_keeps
    | with_reducible apply State.completeError_keeps
    | with_reducible apply State.bump_keeps
    | with_reducible apply State.dropMsg_keeps
    | split

theorem State.grantDevice_keeps {r s : State} {a1 a2 a3 a4} (h_s : Keeps r s) :
    Keeps r (State.grantDevice s a1 a2 a3 a4) := by
  unfold State.grantDevice
  repeat' first
    | with_reducible assumption
    | (extract_lets +onlyGivenNames x; clear_value x)
    | with_reducible apply State.dataTo_keeps
    | with_reducible apply State.putLine_keeps
    | split

theorem State.sendRuns_keeps {r s : State} {a1 a2} (h_s : Keeps r s) :
    Keeps r (State.sendRuns s a1 a2) := by
  unfold State.sendRuns
  repeat' first
    | with_reducible assumption
    | intro _
    | (extract_lets +onlyGivenNames x
       first
       | (refine Keeps.cut (r := r) (x := x) ?_ ?_ <;> first | (intro _; clear_value x) | (unfold x; clear x))
       | (refine Keeps.cut (r := r) (x := x.2) ?_ ?_ <;> first | (intro _; clear_value x) | (unfold x; clear x))
       | clear_value x)
    | with_reducible apply State.dropMsg_keeps
    | with_reducible apply forEach_keeps
    | with_reducible apply State.newTracker_keeps
    | with_reducible apply State.completeError_keeps
    | with_reducible apply State.stampRs_keeps
    | with_reducible apply State.putTracker_keeps
    | with_reducible apply State.sendMsg_keeps
    | split
    | with_reducible refine Keeps.upd ?_ rfl rfl rfl rfl rfl rfl rfl

theorem State.blwAnswer_keeps {r s : State} {a1 a2 a3} (h_s : Keeps r s) :
    Keeps r (State.blwAnswer s a1 a2 a3) := by
  unfold State.blwAnswer
  repeat' first
    | with_reducible assumption
    | (extract_lets +onlyGivenNames x; (refine Keeps.cut (r := r) (x := x) ?_ ?_ <;> first | (intro _; clear_value x) | (unfold x; clear x)))
    | with_reducible apply State.dropMsg_keeps
    | with_reducible apply State.completeOk_keeps
    | split

theorem State.wbReissue_keeps {r s : State} {a1 a2} (h_s : Keeps r s) :
    Keeps r (State.wbReissue s a1 a2) := by
  unfold State.wbReissue
  repeat' first
    | with_reducible assumption
    | with_reducible apply State.writeback_keeps
    | split

theorem State.sendNew_keeps {r s : State} {a1 a2} (h_s : Keeps r s) :
    Keeps r (State.sendNew s a1 a2) := by
  unfold State.sendNew
  repeat' first
    | with_reducible assumption
    | intro _
    | (extract_lets +onlyGivenNames x; clear_value x)
    | with_reducible apply State.sendMsg_keeps
    | with_reducible apply State.writePathAdd_keeps
    | with_reducible apply State.answerDown_keeps
    | with_reducible apply when_keeps
    | with_reducible apply forEach_keeps
    | with_reducible apply State.mediaEvent_keeps
    | split

theorem State.finishAttached_keeps {r s : State} {a1} (h_s : Keeps r s) :
    Keeps r (State.finishAttached s a1) := by
  unfold State.finishAttached
  repeat' first
    | with_reducible assumption
    | intro _
    | with_reducible apply forEach_keeps
    | with_reducible apply State.bwCmpTo_keeps

theorem State.extentsApplied_keeps {r s s1 : State} {a2 a3} (h_s : Keeps r s) (_h_s1 : Keeps r s1) :
    Keeps r (State.extentsApplied s s1 a2 a3) := by
  unfold State.extentsApplied
  repeat' first
    | with_reducible assumption
    | intro _
    | (extract_lets +onlyGivenNames x
       first
       | (refine Keeps.cut (r := r) (x := x) ?_ ?_ <;> first | (intro _; clear_value x) | (unfold x; clear x))
       | clear_value x)
    | with_reducible apply forEach_keeps
    | with_reducible apply State.advanceEpoch_keeps
    | with_reducible apply State.releaseSync_keeps
    | with_reducible apply State.drainSync_keeps
    | with_reducible apply State.postAll_keeps
    | with_reducible apply State.capacitySync_keeps
    | split
    | with_reducible refine Keeps.upd ?_ rfl rfl rfl rfl rfl rfl rfl

theorem State.toHome_keeps {r s : State} {a1 a2 a3} (h_s : Keeps r s) :
    Keeps r (State.toHome s a1 a2 a3) := by
  unfold State.toHome
  repeat' first
    | with_reducible assumption
    | (extract_lets +onlyGivenNames x
       first
       | (refine Keeps.cut (r := r) (x := x) ?_ ?_ <;> first | (intro _; clear_value x) | (unfold x; clear x))
       | (refine Keeps.cut (r := r) (x := x.2) ?_ ?_ <;> first | (intro _; clear_value x) | (unfold x; clear x))
       | clear_value x)
    | with_reducible apply State.dropMsg_keeps
    | with_reducible apply State.unrouted_keeps
    | with_reducible apply State.stampRs_keeps
    | with_reducible apply State.putTracker_keeps
    | with_reducible apply State.sendMsg_keeps
    | split

theorem State.nearEvict_keeps {r s : State} {a1} (h_s : Keeps r s) :
    Keeps r (State.nearEvict s a1) := by
  unfold State.nearEvict
  repeat' first
    | with_reducible assumption
    | (extract_lets +onlyGivenNames x; clear_value x)
    | with_reducible apply State.recallLine_keeps
    | with_reducible apply State.writeback_keeps
    | with_reducible apply State.sendEvict_keeps
    | with_reducible apply State.putLine_keeps
    | split

theorem State.homeEvict_keeps {r s : State} {a1} (h_s : Keeps r s) :
    Keeps r (State.homeEvict s a1) := by
  unfold State.homeEvict
  repeat' first
    | with_reducible assumption
    | (extract_lets +onlyGivenNames x
       first
       | (refine Keeps.cut (r := r) (x := x) ?_ ?_ <;> first | (intro _; clear_value x) | (unfold x; clear x))
       | clear_value x)
    | with_reducible apply State.putLine_keeps
    | with_reducible apply State.bwCmpTo_keeps
    | split

theorem State.blwForward_keeps {r s : State} {a1} (h_s : Keeps r s) :
    Keeps r (State.blwForward s a1) := by
  unfold State.blwForward
  repeat' first
    | with_reducible assumption
    | with_reducible apply State.linkNew_keeps
    | split

theorem State.nearFill_keeps {r s : State} {a1 a2 a3 a4} (h_s : Keeps r s) :
    Keeps r (State.nearFill s a1 a2 a3 a4) := by
  unfold State.nearFill
  repeat' first
    | with_reducible assumption
    | intro _
    | (extract_lets +onlyGivenNames x
       first
       | (refine Keeps.cut (r := r) (x := x) ?_ ?_ <;> first | (intro _; clear_value x) | (unfold x; clear x))
       | (have _ := (x : _ → _ → State); unfold x; clear x)
       | clear_value x)
    | with_reducible apply State.onLine_keeps
    | with_reducible apply forEach_keeps
    | with_reducible apply State.nearEvict_keeps
    | split
    | with_reducible refine Keeps.upd ?_ rfl rfl rfl rfl rfl rfl rfl

theorem State.nearMerge_keeps {r s : State} {a1 a2 a3 a4} (h_s : Keeps r s) :
    Keeps r (State.nearMerge s a1 a2 a3 a4) := by
  unfold State.nearMerge
  repeat' first
    | with_reducible assumption
    | (extract_lets +onlyGivenNames x; (refine Keeps.cut (r := r) (x := x) ?_ ?_ <;> first | (intro _; clear_value x) | (unfold x; clear x)))
    | with_reducible apply State.onLine_keeps
    | with_reducible apply State.nearFill_keeps
    | with_reducible apply State.writeback_keeps
    | split

theorem State.upgradeFailed_keeps {r s : State} {a1} (h_s : Keeps r s) :
    Keeps r (State.upgradeFailed s a1) := by
  unfold State.upgradeFailed
  repeat' first
    | with_reducible assumption
    | (extract_lets +onlyGivenNames x
       first
       | (refine Keeps.cut (r := r) (x := x) ?_ ?_ <;> first | (intro _; clear_value x) | (unfold x; clear x))
       | clear_value x)
    | with_reducible apply State.toHome_keeps
    | split
    | with_reducible refine Keeps.upd ?_ rfl rfl rfl rfl rfl rfl rfl

theorem State.finishForward_keeps {r s : State} {a1 a2} (h_s : Keeps r s) :
    Keeps r (State.finishForward s a1 a2) := by
  unfold State.finishForward
  repeat' first
    | with_reducible assumption
    | (extract_lets +onlyGivenNames x
       first
       | (refine Keeps.cut (r := r) (x := x) ?_ ?_ <;> first | (intro _; clear_value x) | (unfold x; clear x))
       | (have _ := (x : _ → State); unfold x; clear x)
       | (have _ := (x : _ → _ → _ → _ → State); unfold x; clear x)
       | clear_value x)
    | with_reducible apply State.onLine_keeps
    | with_reducible apply State.toDevice_keeps
    | with_reducible apply State.putLine_keeps
    | with_reducible apply State.nearFill_keeps
    | with_reducible apply State.bump_keeps
    | with_reducible apply State.dataTo_keeps
    | split

theorem State.homeRead_keeps {r s : State} {a1 a2} (h_s : Keeps r s) :
    Keeps r (State.homeRead s a1 a2).2 := by
  unfold State.homeRead
  repeat' first
    | with_reducible assumption
    | (extract_lets +onlyGivenNames x
       first
       | (refine Keeps.cut (r := r) (x := x.2) ?_ ?_ <;> first | (intro _; clear_value x) | (unfold x; clear x))
       | (refine Keeps.cut (r := r) (x := x.2.2) ?_ ?_ <;> first | (intro _; clear_value x) | (unfold x; clear x))
       | clear_value x)
    | with_reducible apply State.cmnRead_keeps
    | with_reducible apply State.newTracker_keeps
    | with_reducible apply State.sendNew_keeps
    | split

theorem State.homeWrite_keeps {r s : State} {a1 a2 a3 a4 a5} (h_s : Keeps r s) :
    Keeps r (State.homeWrite s a1 a2 a3 a4 a5) := by
  unfold State.homeWrite
  repeat' first
    | with_reducible assumption
    | intro _
    | (extract_lets +onlyGivenNames x
       first
       | (refine Keeps.cut (r := r) (x := x) ?_ ?_ <;> first | (intro _; clear_value x) | (unfold x; clear x))
       | (refine Keeps.cut (r := r) (x := x.2) ?_ ?_ <;> first | (intro _; clear_value x) | (unfold x; clear x))
       | clear_value x)
    | with_reducible apply State.cmnWrite_keeps
    | with_reducible apply State.poisonLine_keeps
    | with_reducible apply State.newTracker_keeps
    | with_reducible apply when_keeps
    | with_reducible apply State.poisonNote_keeps
    | with_reducible apply State.sendNew_keeps
    | split

theorem State.lineWrite_keeps {r s : State} {a1 a2 a3 a4} (h_s : Keeps r s) :
    Keeps r (State.lineWrite s a1 a2 a3 a4) := by
  unfold State.lineWrite
  repeat' first
    | with_reducible assumption
    | (extract_lets +onlyGivenNames x
       first
       | (refine Keeps.cut (r := r) (x := x.2) ?_ ?_ <;> first | (intro _; clear_value x) | (unfold x; clear x))
       | clear_value x)
    | with_reducible apply State.homeWrite_keeps
    | with_reducible apply State.newTracker_keeps
    | with_reducible apply State.releaseTracker_keeps
    | with_reducible apply State.stampRs_keeps
    | with_reducible apply State.putTracker_keeps
    | with_reducible apply State.sendMsg_keeps
    | split

theorem State.nearEcc_keeps {r s : State} {a1 a2} (h_s : Keeps r s) :
    Keeps r (State.nearEcc s a1 a2) := by
  unfold State.nearEcc
  repeat' first
    | with_reducible assumption
    | with_reducible apply State.writeback_keeps
    | with_reducible apply State.cicRaise_keeps
    | with_reducible apply State.raiseGraveD_keeps
    | with_reducible apply State.nearEvict_keeps
    | with_reducible apply State.raiseD_keeps
    | split

theorem State.lineDone_keeps {r s : State} {a1 a2} (h_s : Keeps r s) :
    Keeps r (State.lineDone s a1 a2) := by
  unfold State.lineDone
  repeat' first
    | with_reducible assumption
    | (extract_lets +onlyGivenNames x
       first
       | (refine Keeps.cut (r := r) (x := x) ?_ ?_ <;> first | (intro _; clear_value x) | (unfold x; clear x))
       | clear_value x)
    | with_reducible apply State.blwForward_keeps
    | with_reducible apply State.blwAnswer_keeps
    | split
    | with_reducible refine Keeps.upd ?_ rfl rfl rfl rfl rfl rfl rfl

theorem State.poisonHome_keeps {r s : State} {a1 a2} (h_s : Keeps r s) :
    Keeps r (State.poisonHome s a1 a2) := by
  unfold State.poisonHome
  repeat' first
    | with_reducible assumption
    | with_reducible apply State.poisonLine_keeps
    | with_reducible apply State.homeWrite_keeps
    | split

theorem State.crossing_keeps {r s : State} {a1 a2 a3 a4} (h_s : Keeps r s) :
    KeepsO r (State.crossing s a1 a2 a3 a4) := by
  unfold State.crossing
  repeat' first
    | with_reducible assumption
    | intro _
    | (extract_lets +onlyGivenNames x
       first
       | (refine Keeps.cut (r := r) (x := x) ?_ ?_ <;> first | (intro _; clear_value x) | (unfold x; clear x))
       | clear_value x)
    | with_reducible apply State.nameWrite_keeps
    | with_reducible apply when_keeps
    | with_reducible apply State.count_keeps
    | with_reducible apply State.bump_keeps
    | with_reducible apply State.onLine_keeps
    | with_reducible apply State.putTxn__keeps
    | with_reducible apply State.homeWrite_keeps
    | with_reducible apply State.nearFill_keeps
    | with_reducible apply State.lineWrite_keeps
    | with_reducible apply State.blwAnswer_keeps
    | split
    | with_reducible apply KeepsO.none
    | with_reducible apply KeepsO.some

theorem State.partDone_keeps {r s : State} {a1} (h_s : Keeps r s) :
    Keeps r (State.partDone s a1) := by
  unfold State.partDone
  repeat' first
    | with_reducible assumption
    | (extract_lets +onlyGivenNames x
       first
       | (refine Keeps.cut (r := r) (x := x) ?_ ?_ <;> first | (intro _; clear_value x) | (unfold x; clear x))
       | clear_value x)
    | with_reducible apply State.lineDone_keeps
    | with_reducible apply State.blwAnswer_keeps
    | split
    | with_reducible refine Keeps.upd ?_ rfl rfl rfl rfl rfl rfl rfl

theorem State.keepData_keeps {r s : State} {a1} (h_s : Keeps r s) :
    Keeps r (State.keepData s a1) := by
  unfold State.keepData
  repeat' first
    | with_reducible assumption
    | with_reducible apply State.lineWrite_keeps
    | split

theorem State.proxyRead_keeps {r s : State} {a1 a2 a3} (h_s : Keeps r s) :
    Keeps r (State.proxyRead s a1 a2 a3) := by
  unfold State.proxyRead
  repeat' first
    | with_reducible assumption
    | intro _
    | (extract_lets +onlyGivenNames x
       first
       | (refine Keeps.cut (r := r) (x := x) ?_ ?_ <;> first | (intro _; clear_value x) | (unfold x; clear x))
       | clear_value x
       | (unfold x; clear x))
    | with_reducible apply when_keeps
    | with_reducible apply State.count_keeps
    | with_reducible apply State.bump_keeps
    | with_reducible apply State.blwAnswer_keeps
    | with_reducible apply State.toHome_keeps
    | with_reducible apply State.sendRuns_keeps
    | with_reducible apply State.gatherLine_keeps
    | with_reducible apply State.partDone_keeps
    | split
    | with_reducible refine Keeps.upd ?_ rfl rfl rfl rfl rfl rfl rfl

theorem State.keepHere_keeps {r s : State} {a1} (h_s : Keeps r s) :
    Keeps r (State.keepHere s a1) := by
  unfold State.keepHere
  repeat' first
    | with_reducible assumption
    | with_reducible apply State.keepData_keeps
    | with_reducible apply State.onLine_keeps
    | with_reducible apply State.nearFill_keeps
    | split

theorem State.finishDevice_keeps {r s : State} {a1 a2} (h_s : Keeps r s) :
    Keeps r (State.finishDevice s a1 a2).1 := by
  unfold State.finishDevice
  repeat' first
    | with_reducible assumption
    | (extract_lets +onlyGivenNames x
       first
       | (refine Keeps.cut (r := r) (x := x) ?_ ?_ <;> first | (intro _; clear_value x) | (unfold x; clear x))
       | (have _ := (x : _ → State × _); unfold x; clear x)
       | clear_value x)
    | with_reducible apply State.keepData_keeps
    | with_reducible apply State.grantDevice_keeps
    | with_reducible apply State.homeRead_keeps
    | with_reducible apply State.putTxn__keeps
    | with_reducible apply State.putLine_keeps
    | with_reducible apply State.dataTo_keeps
    | with_reducible apply State.poisonHome_keeps
    | with_reducible apply State.homeEvict_keeps
    | with_reducible apply State.toDevice_keeps
    | split
    | (with_reducible refine Keeps.of_snd (by with_reducible assumption) ?_)

theorem State.peerLost_keeps {r s : State} {a1 a2 a3} (h_s : Keeps r s) :
    Keeps r (State.peerLost s a1 a2 a3) := by
  unfold State.peerLost
  repeat' first
    | with_reducible assumption
    | intro _
    | (extract_lets +onlyGivenNames x
       first
       | (refine Keeps.cut (r := r) (x := x) ?_ ?_ <;> first | (intro _; clear_value x) | (unfold x; clear x))
       | clear_value x)
    | with_reducible apply State.cicRaise_keeps
    | with_reducible apply State.raise_keeps
    | with_reducible apply State.onLine_keeps
    | with_reducible apply when_keeps
    | with_reducible apply State.poisonHome_keeps

theorem State.spoil_keeps {r s : State} {a1 a2} (h_s : Keeps r s) :
    Keeps r (State.spoil s a1 a2) := by
  unfold State.spoil
  repeat' first
    | with_reducible assumption
    | with_reducible apply State.poisonHome_keeps
    | with_reducible apply State.poisonNote_keeps
    | with_reducible apply State.lineWrite_keeps
    | with_reducible apply State.onLine_keeps
    | with_reducible apply State.nearFill_keeps
    | split

theorem State.rebuilt_keeps {r s : State} {a1} (h_s : Keeps r s) :
    Keeps r (State.rebuilt s a1) := by
  unfold State.rebuilt
  repeat' first
    | with_reducible assumption
    | (extract_lets +onlyGivenNames x; clear_value x)
    | with_reducible apply State.onLine_keeps
    | with_reducible apply State.keepData_keeps
    | with_reducible apply State.writeback_keeps
    | with_reducible apply State.sendEvict_keeps
    | with_reducible apply State.putLine_keeps
    | split

theorem State.snoops_keeps {r s : State} {a1 a2 a3 a4} (h_s : Keeps r s) :
    Keeps r (State.snoops s a1 a2 a3 a4).2 := by
  unfold State.snoops
  repeat' first
    | with_reducible assumption
    | intro _
    | (extract_lets +onlyGivenNames x; (refine Keeps.cut (r := r) (x := x.2.2) ?_ ?_ <;> first | (intro _; clear_value x) | (unfold x; clear x)))
    | with_reducible apply State.snoop_keeps
    | with_reducible apply State.peerLost_keeps
    | split
    | with_reducible apply Keeps.foldl_snd

theorem State.runDone_keeps {r s : State} {a1 a2 a3 a4} (h_s : Keeps r s) :
    Keeps r (State.runDone s a1 a2 a3 a4) := by
  unfold State.runDone
  repeat' first
    | with_reducible assumption
    | (extract_lets +onlyGivenNames x; clear_value x)
    | with_reducible apply State.completeError_keeps
    | with_reducible apply State.partDone_keeps
    | with_reducible apply State.putTracker_keeps
    | split
    | with_reducible refine Keeps.upd ?_ rfl rfl rfl rfl rfl rfl rfl

theorem State.finishHome_keeps {r s : State} {a1 a2} (h_s : Keeps r s) :
    Keeps r (State.finishHome s a1 a2) := by
  unfold State.finishHome
  repeat' first
    | with_reducible assumption
    | (extract_lets +onlyGivenNames x
       first
       | (refine Keeps.cut (r := r) (x := x) ?_ ?_ <;> first | (intro _; clear_value x) | (unfold x; clear x))
       | (refine Keeps.cut (r := r) (x := x.2) ?_ ?_ <;> first | (intro _; clear_value x) | (unfold x; clear x))
       | (have _ := (x : _ → State); unfold x; clear x)
       | clear_value x)
    | with_reducible apply State.keepData_keeps
    | with_reducible apply State.blwAnswer_keeps
    | with_reducible apply State.blwForward_keeps
    | with_reducible apply State.putLine_keeps
    | with_reducible apply State.granting_keeps
    | with_reducible apply State.grantHost_keeps
    | with_reducible apply State.onLine_keeps
    | with_reducible apply State.lineDone_keeps
    | with_reducible apply State.gatherLine_keeps
    | split

theorem State.finishProxy_keeps {r s : State} {a1 a2} (h_s : Keeps r s) :
    Keeps r (State.finishProxy s a1 a2) := by
  unfold State.finishProxy
  repeat' first
    | with_reducible assumption
    | (extract_lets +onlyGivenNames x
       first
       | (refine Keeps.cut (r := r) (x := x) ?_ ?_ <;> first | (intro _; clear_value x) | (unfold x; clear x))
       | (refine Keeps.cut (r := r) (x := x.2) ?_ ?_ <;> first | (intro _; clear_value x) | (unfold x; clear x))
       | (have _ := (x : _ → State); unfold x; clear x)
       | clear_value x
       | (unfold x; clear x))
    | with_reducible apply State.onLine_keeps
    | with_reducible apply State.nearFill_keeps
    | with_reducible apply State.count_keeps
    | with_reducible apply State.bump_keeps
    | with_reducible apply State.toHome_keeps
    | with_reducible apply State.granting_keeps
    | with_reducible apply State.blwAnswer_keeps
    | with_reducible apply State.grantHost_keeps
    | with_reducible apply State.proxyRead_keeps
    | with_reducible apply State.writeback_keeps
    | with_reducible apply State.completeError_keeps
    | with_reducible apply State.dropMsg_keeps
    | with_reducible apply State.nearMerge_keeps
    | with_reducible apply State.lineDone_keeps
    | with_reducible apply State.sendRuns_keeps
    | split
    | with_reducible refine Keeps.upd ?_ rfl rfl rfl rfl rfl rfl rfl

theorem State.rebuildTimeout_keeps {r s : State} {a1 a2} (h_s : Keeps r s) :
    Keeps r (State.rebuildTimeout s a1 a2) := by
  unfold State.rebuildTimeout
  repeat' first
    | with_reducible assumption
    | intro _
    | (extract_lets +onlyGivenNames x
       first
       | (refine Keeps.cut (r := r) (x := x) ?_ ?_ <;> first | (intro _; clear_value x) | (unfold x; clear x))
       | clear_value x)
    | with_reducible apply forEach_keeps
    | with_reducible apply State.closeTxn_keeps
    | with_reducible apply State.rebuilt_keeps
    | with_reducible apply State.spoil_keeps
    | with_reducible apply State.putTxn__keeps
    | split

theorem State.sweepLine_keeps {r s : State} {a1 a2 a3} (h_s : Keeps r s) :
    Keeps r (State.sweepLine s a1 a2 a3) := by
  unfold State.sweepLine
  repeat' first
    | with_reducible assumption
    | intro _
    | (extract_lets +onlyGivenNames x; clear_value x)
    | with_reducible apply State.onLine_keeps
    | with_reducible apply when_keeps
    | with_reducible apply State.spoil_keeps

theorem State.finishTxn_keeps {r s : State} {a1} (h_s : Keeps r s) :
    Keeps r (State.finishTxn s a1) := by
  unfold State.finishTxn
  repeat' first
    | with_reducible assumption
    | (extract_lets +onlyGivenNames x
       first
       | (refine Keeps.cut (r := r) (x := x) ?_ ?_ <;> first | (intro _; clear_value x) | (unfold x; clear x))
       | (refine Keeps.cut (r := r) (x := x.2) ?_ ?_ <;> first | (intro _; clear_value x) | (unfold x; clear x))
       | (have _ := (x : _ → State); unfold x; clear x)
       | clear_value x)
    | with_reducible apply State.closeTxn_keeps
    | with_reducible apply State.settleLine_keeps
    | with_reducible apply State.finishAttached_keeps
    | with_reducible apply State.finishHome_keeps
    | with_reducible apply State.finishProxy_keeps
    | with_reducible apply State.putTxn__keeps
    | with_reducible apply State.keepData_keeps
    | with_reducible apply State.finishDevice_keeps
    | with_reducible apply State.biSnps_keeps
    | with_reducible apply State.finishForward_keeps
    | with_reducible apply State.onLine_keeps
    | with_reducible apply State.emit_keeps
    | with_reducible apply State.keepHere_keeps
    | with_reducible apply State.putLine_keeps
    | with_reducible apply State.snoops_keeps
    | with_reducible apply State.writeback_keeps
    | with_reducible apply State.sendEvict_keeps
    | with_reducible apply State.rebuilt_keeps
    | with_reducible apply State.sweepLine_keeps
    | split
    | (with_reducible refine Keeps.of_fst (by with_reducible assumption) ?_)

theorem State.progress_keeps {r s : State} {a1} (h_s : Keeps r s) :
    Keeps r (State.progress s a1) := by
  unfold State.progress
  repeat' first
    | with_reducible assumption
    | with_reducible apply State.finishTxn_keeps
    | with_reducible apply State.putTxn__keeps
    | split

theorem State.homeWriteback_keeps {r s : State} {a1 a2} (h_s : Keeps r s) :
    Keeps r (State.homeWriteback s a1 a2) := by
  unfold State.homeWriteback
  repeat' first
    | with_reducible assumption
    | (extract_lets +onlyGivenNames x
       first
       | (refine Keeps.cut (r := r) (x := x) ?_ ?_ <;> first | (intro _; clear_value x) | (unfold x; clear x))
       | clear_value x)
    | with_reducible apply State.toDevice_keeps
    | with_reducible apply State.blwViolation_keeps
    | with_reducible apply State.bwCmpTo_keeps
    | with_reducible apply State.bump_keeps
    | with_reducible apply State.homeWrite_keeps
    | with_reducible apply State.putLine_keeps
    | with_reducible apply State.count_keeps
    | with_reducible apply State.putTxn__keeps
    | with_reducible apply State.progress_keeps
    | with_reducible apply State.onLine_keeps
    | split

theorem State.openTxn_keeps {r s : State} {a1 a2 a3 a4} (h_s : Keeps r s) :
    Keeps r (State.openTxn s a1 a2 a3 a4) := by
  unfold State.openTxn
  repeat' first
    | with_reducible assumption
    | (extract_lets +onlyGivenNames x
       first
       | (refine Keeps.cut (r := r) (x := x) ?_ ?_ <;> first | (intro _; clear_value x) | (unfold x; clear x))
       | (refine Keeps.cut (r := r) (x := x.2) ?_ ?_ <;> first | (intro _; clear_value x) | (unfold x; clear x))
       | clear_value x)
    | with_reducible apply State.strayWriteback_keeps
    | with_reducible apply State.nameWrite_keeps
    | with_reducible apply State.biSnps_keeps
    | with_reducible apply State.snoops_keeps
    | with_reducible apply State.progress_keeps

theorem State.forgetHost_keeps {r s : State} {a1} (h_s : Keeps r s) :
    Keeps r (State.forgetHost s a1) := by
  unfold State.forgetHost
  repeat' first
    | with_reducible assumption
    | intro _
    | (extract_lets +onlyGivenNames x; clear_value x)
    | with_reducible apply forEach_keeps
    | with_reducible apply State.progress_keeps
    | with_reducible apply State.sweepLine_keeps
    | split

theorem State.work_keeps {r s : State} {a1 a2 a3 a4} (h_s : Keeps r s) :
    Keeps r (State.work s a1 a2 a3 a4) := by
  unfold State.work
  repeat' first
    | with_reducible assumption
    | (extract_lets +onlyGivenNames x
       first
       | (refine Keeps.cut (r := r) (x := x) ?_ ?_ <;> first | (intro _; clear_value x) | (unfold x; clear x))
       | (have _ := (x : _ → State); unfold x; clear x)
       | clear_value x)
    | with_reducible apply State.putTxn__keeps
    | with_reducible apply State.allocate_keeps
    | with_reducible apply State.bump_keeps
    | with_reducible apply State.openTxn_keeps
    | split
    | (with_reducible refine KeepsO.elim (by with_reducible assumption) ?_)
    | with_reducible refine Keeps.upd ?_ rfl rfl rfl rfl rfl rfl rfl

theorem State.snoopFailed_keeps {r s : State} {a1 a2 a3 a4} (h_s : Keeps r s) :
    Keeps r (State.snoopFailed s a1 a2 a3 a4) := by
  unfold State.snoopFailed
  repeat' first
    | with_reducible assumption
    | (extract_lets +onlyGivenNames x; (refine Keeps.cut (r := r) (x := x.2.2) ?_ ?_ <;> first | (intro _; clear_value x) | (unfold x; clear x)))
    | with_reducible apply State.snoop_keeps
    | with_reducible apply State.putTxn__keeps
    | with_reducible apply State.progress_keeps
    | with_reducible apply State.peerLost_keeps
    | split

theorem State.blwMemory_keeps {r s : State} {a1 a2 a3 a4 a5} (h_s : Keeps r s) :
    Keeps r (State.blwMemory s a1 a2 a3 a4 a5) := by
  unfold State.blwMemory
  repeat' first
    | with_reducible assumption
    | (extract_lets +onlyGivenNames x; (refine Keeps.cut (r := r) (x := x) ?_ ?_ <;> first | (intro _; clear_value x) | (unfold x; clear x)))
    | with_reducible apply State.writebackFailed_keeps
    | with_reducible apply State.snoopFailed_keeps
    | with_reducible apply State.grantDevice_keeps
    | with_reducible apply State.closeTxn_keeps
    | with_reducible apply State.settleLine_keeps
    | with_reducible apply State.finishAttached_keeps
    | split

theorem State.snoopAnswer_keeps {r s : State} {a1 a2} (h_s : Keeps r s) :
    Keeps r (State.snoopAnswer s a1 a2) := by
  unfold State.snoopAnswer
  repeat' first
    | with_reducible assumption
    | (extract_lets +onlyGivenNames x
       first
       | (refine Keeps.cut (r := r) (x := x) ?_ ?_ <;> first | (intro _; clear_value x) | (unfold x; clear x))
       | clear_value x
       | (unfold x; clear x))
    | with_reducible apply State.blwProtocol_keeps
    | with_reducible apply State.releaseTracker_keeps
    | with_reducible apply State.onLine_keeps
    | with_reducible apply State.putTxn__keeps
    | with_reducible apply State.progress_keeps
    | split

theorem State.sweepTxns_keeps {r s : State} (h_s : Keeps r s) :
    Keeps r (State.sweepTxns s) := by
  unfold State.sweepTxns
  repeat' first
    | with_reducible assumption
    | intro _
    | with_reducible apply forEach_keeps
    | with_reducible apply State.progress_keeps
    | split

theorem State.hostAnswer_keeps {r s : State} {a1 a2 a3} (h_s : Keeps r s) :
    Keeps r (State.hostAnswer s a1 a2 a3) := by
  unfold State.hostAnswer
  repeat' first
    | with_reducible assumption
    | intro _
    | (extract_lets +onlyGivenNames x
       first
       | (refine Keeps.cut (r := r) (x := x) ?_ ?_ <;> first | (intro _; clear_value x) | (unfold x; clear x))
       | clear_value x
       | (unfold x; clear x))
    | with_reducible apply State.portViolation_keeps
    | with_reducible apply when_keeps
    | with_reducible apply State.raiseGraveD_keeps
    | with_reducible apply State.bump_keeps
    | with_reducible apply State.onLine_keeps
    | with_reducible apply State.progress_keeps
    | split

theorem State.blwAccept_keeps {r s : State} {a1 a2 a3 a4} (h_s : Keeps r s) :
    Keeps r (State.blwAccept s a1 a2 a3 a4) := by
  unfold State.blwAccept
  repeat' first
    | with_reducible assumption
    | (extract_lets +onlyGivenNames x
       first
       | (refine Keeps.cut (r := r) (x := x) ?_ ?_ <;> first | (intro _; clear_value x) | (unfold x; clear x))
       | clear_value x)
    | with_reducible apply State.bump_keeps
    | with_reducible apply State.crossing_keeps
    | with_reducible apply State.putTxn__keeps
    | with_reducible apply State.work_keeps
    | split
    | (with_reducible refine KeepsO.elim (by with_reducible assumption) ?_)
    | with_reducible refine Keeps.upd ?_ rfl rfl rfl rfl rfl rfl rfl

theorem State.loseHomes_keeps {r s : State} (h_s : Keeps r s) :
    Keeps r (State.loseHomes s) := by
  unfold State.loseHomes
  repeat' first
    | with_reducible assumption
    | intro _
    | (extract_lets +onlyGivenNames x
       first
       | (refine Keeps.cut (r := r) (x := x) ?_ ?_ <;> first | (intro _; clear_value x) | (unfold x; clear x))
       | clear_value x)
    | with_reducible apply forEach_keeps
    | with_reducible apply State.putLine_keeps
    | with_reducible apply State.blwAccept_keeps
    | split

theorem State.retryNext_keeps {r s : State} {a1 a2} (h_s : Keeps r s) :
    Keeps r (State.retryNext s a1 a2) := by
  unfold State.retryNext
  repeat' first
    | with_reducible assumption
    | (extract_lets +onlyGivenNames x
       first
       | (refine Keeps.cut (r := r) (x := x) ?_ ?_ <;> first | (intro _; clear_value x) | (unfold x; clear x))
       | (have _ := (x : _ → _ → State); unfold x; clear x)
       | clear_value x)
    | with_reducible apply State.allocate_keeps
    | with_reducible apply State.retryTurn_keeps
    | with_reducible apply State.openTxn_keeps
    | with_reducible apply State.putTxn__keeps
    | split
    | (with_reducible refine KeepsO.elim (by with_reducible assumption) ?_)
    | with_reducible refine Keeps.upd ?_ rfl rfl rfl rfl rfl rfl rfl

theorem State.deviceBisnp_keeps {r s : State} {a1 a2 a3} (h_s : Keeps r s) :
    Keeps r (State.deviceBisnp s a1 a2 a3) := by
  unfold State.deviceBisnp
  repeat' first
    | with_reducible assumption
    | with_reducible apply State.blwAccept_keeps
    | split

theorem State.closeServed_keeps {r s : State} (h_s : Keeps r s) :
    Keeps r (State.closeServed s) := by
  unfold State.closeServed
  repeat' first
    | with_reducible assumption
    | intro _
    | (extract_lets +onlyGivenNames x
       first
       | (refine Keeps.cut (r := r) (x := x) ?_ ?_ <;> first | (intro _; clear_value x) | (unfold x; clear x))
       | clear_value x)
    | with_reducible apply forEach_keeps
    | with_reducible apply State.emit_keeps
    | with_reducible apply State.closeTxn_keeps
    | with_reducible apply State.settleLine_keeps
    | with_reducible apply State.sweepTxns_keeps
    | with_reducible apply State.openTxn_keeps
    | split
    | with_reducible refine Keeps.upd ?_ rfl rfl rfl rfl rfl rfl rfl

theorem State.proxyForward_keeps {r s : State} {a1 a2 a3} (h_s : Keeps r s) :
    Keeps r (State.proxyForward s a1 a2 a3) := by
  unfold State.proxyForward
  repeat' first
    | with_reducible assumption
    | (extract_lets +onlyGivenNames x
       first
       | (refine Keeps.cut (r := r) (x := x) ?_ ?_ <;> first | (intro _; clear_value x) | (unfold x; clear x))
       | clear_value x)
    | with_reducible apply State.toDevice_keeps
    | with_reducible apply State.blwProtocol_keeps
    | with_reducible apply State.bump_keeps
    | with_reducible apply State.openTxn_keeps
    | split
    | with_reducible refine Keeps.upd ?_ rfl rfl rfl rfl rfl rfl rfl

theorem State.conflictNext_keeps {r s : State} {a1 a2} (h_s : Keeps r s) :
    Keeps r (State.conflictNext s a1 a2) := by
  unfold State.conflictNext
  repeat' first
    | with_reducible assumption
    | (extract_lets +onlyGivenNames x
       first
       | (refine Keeps.cut (r := r) (x := x) ?_ ?_ <;> first | (intro _; clear_value x) | (unfold x; clear x))
       | clear_value x)
    | with_reducible apply State.work_keeps
    | split
    | with_reducible refine Keeps.upd ?_ rfl rfl rfl rfl rfl rfl rfl

theorem State.release_keeps {r s : State} {a1 a2} (h_s : Keeps r s) :
    Keeps r (State.release s a1 a2) := by
  unfold State.release
  repeat' first
    | with_reducible assumption
    | intro _
    | (extract_lets +onlyGivenNames x
       first
       | (refine Keeps.cut (r := r) (x := x) ?_ ?_ <;> first | (intro _; clear_value x) | (unfold x; clear x))
       | clear_value x)
    | with_reducible apply State.putTracker_keeps
    | with_reducible apply State.linkNew_keeps
    | with_reducible apply State.moveMsg_keeps
    | with_reducible apply forEach_keeps
    | with_reducible apply State.blwAccept_keeps
    | split
    | with_reducible refine Keeps.upd ?_ rfl rfl rfl rfl rfl rfl rfl

theorem State.flushGrant_keeps {r s : State} (h_s : Keeps r s) :
    Keeps r (State.flushGrant s) := by
  unfold State.flushGrant
  repeat' first
    | with_reducible assumption
    | intro _
    | (extract_lets +onlyGivenNames x
       first
       | (refine Keeps.cut (r := r) (x := x) ?_ ?_ <;> first | (intro _; clear_value x) | (unfold x; clear x))
       | clear_value x)
    | with_reducible apply forEach_keeps
    | with_reducible apply State.blwAccept_keeps
    | with_reducible apply State.forgetHost_keeps
    | split
    | with_reducible refine Keeps.upd ?_ rfl rfl rfl rfl rfl rfl rfl

theorem State.passLane_keeps {r s : State} {a1 a2} (h_s : Keeps r s) :
    Keeps r (State.passLane s a1 a2) := by
  unfold State.passLane
  repeat' first
    | with_reducible assumption
    | (extract_lets +onlyGivenNames x
       first
       | (refine Keeps.cut (r := r) (x := x) ?_ ?_ <;> first | (intro _; clear_value x) | (unfold x; clear x))
       | clear_value x)
    | with_reducible apply State.chargeReq_keeps
    | with_reducible apply State.putMeter_keeps
    | with_reducible apply State.release_keeps

theorem State.paddock_keeps {r s : State} {a1 a2} (h_s : Keeps r s) :
    Keeps r (State.paddock s a1 a2) := by
  unfold State.paddock
  repeat' first
    | with_reducible assumption
    | intro _
    | (extract_lets +onlyGivenNames x
       first
       | (refine Keeps.cut (r := r) (x := x) ?_ ?_ <;> first | (intro _; clear_value x) | (unfold x; clear x))
       | clear_value x)
    | with_reducible apply State.release_keeps
    | with_reducible apply State.passLane_keeps
    | with_reducible apply when_keeps
    | with_reducible apply State.count_keeps
    | with_reducible apply State.moveMsg_keeps
    | split

theorem State.proxyGrant_keeps {r s : State} {a1 a2} (h_s : Keeps r s) :
    Keeps r (State.proxyGrant s a1 a2) := by
  unfold State.proxyGrant
  repeat' first
    | with_reducible assumption
    | intro _
    | (extract_lets +onlyGivenNames x
       first
       | (refine Keeps.cut (r := r) (x := x) ?_ ?_ <;> first | (intro _; clear_value x) | (unfold x; clear x))
       | (refine Keeps.cut (r := r) (x := x.2) ?_ ?_ <;> first | (intro _; clear_value x) | (unfold x; clear x))
       | clear_value x
       | (unfold x; clear x))
    | with_reducible apply State.bump_keeps
    | with_reducible apply State.blwProtocol_keeps
    | with_reducible apply State.closeServed_keeps
    | with_reducible apply State.completeError_keeps
    | with_reducible apply when_keeps
    | with_reducible apply State.putMeter_keeps
    | with_reducible apply State.onLine_keeps
    | with_reducible apply State.nearFill_keeps
    | with_reducible apply State.finishProxy_keeps
    | with_reducible apply State.granting_keeps
    | with_reducible apply State.grantHost_keeps
    | with_reducible apply State.dropRun_keeps
    | with_reducible apply State.blwAnswer_keeps
    | split
    | with_reducible refine Keeps.upd ?_ rfl rfl rfl rfl rfl rfl rfl

theorem State.foldTurn_keeps {r s : State} {a0 a1} (h_s : Keeps r s) :
    KeepsO r (State.foldTurn a0 a1 s) := by
  unfold State.foldTurn
  repeat' first
    | with_reducible assumption
    | (extract_lets +onlyGivenNames x
       first
       | (refine Keeps.cut (r := r) (x := x) ?_ ?_ <;> first | (intro _; clear_value x) | (unfold x; clear x))
       | clear_value x)
    | with_reducible apply State.putDeficit_keeps
    | with_reducible apply State.passLane_keeps
    | split
    | with_reducible apply KeepsO.none
    | with_reducible apply KeepsO.some
    | with_reducible refine Keeps.upd ?_ rfl rfl rfl rfl rfl rfl rfl

theorem State.proxyCmp_keeps {r s : State} {a1 a2} (h_s : Keeps r s) :
    Keeps r (State.proxyCmp s a1 a2) := by
  unfold State.proxyCmp
  repeat' first
    | with_reducible assumption
    | (extract_lets +onlyGivenNames x
       first
       | (refine Keeps.cut (r := r) (x := x) ?_ ?_ <;> first | (intro _; clear_value x) | (unfold x; clear x))
       | clear_value x)
    | with_reducible apply State.blwProtocol_keeps
    | with_reducible apply State.releaseTracker_keeps
    | with_reducible apply State.onLine_keeps
    | with_reducible apply State.proxyGrant_keeps
    | split
    | with_reducible refine Keeps.upd ?_ rfl rfl rfl rfl rfl rfl rfl

theorem State.laneEvaluate_keeps {r s : State} {a1} (h_s : Keeps r s) :
    Keeps r (State.laneEvaluate s a1) := by
  unfold State.laneEvaluate
  repeat' first
    | with_reducible assumption
    | intro _
    | (extract_lets +onlyGivenNames x
       first
       | (refine Keeps.cut (r := r) (x := x) ?_ ?_ <;> first | (intro _; clear_value x) | (unfold x; clear x))
       | clear_value x)
    | with_reducible apply forEach_keeps
    | with_reducible apply State.count_keeps
    | with_reducible apply State.putDeficit_keeps
    | with_reducible apply State.foldTurn_keeps
    | split
    | with_reducible apply Keeps.iter
    | (with_reducible refine KeepsO.elim (by with_reducible assumption) ?_)
    | with_reducible refine Keeps.upd ?_ rfl rfl rfl rfl rfl rfl rfl

theorem State.laneRound_keeps {r s : State} (h_s : Keeps r s) : KeepsO r (State.laneRound s) := by
  refine ⟨fun t e => ?_⟩
  unfold State.laneRound at e
  obtain ⟨g, -, e⟩ := Option.map_eq_some_iff.1 e
  exact e ▸ State.laneEvaluate_keeps (Keeps.upd h_s rfl rfl rfl rfl rfl rfl rfl)

theorem State.laneSweep_keeps {r s : State} (h_s : Keeps r s) :
    Keeps r (State.laneSweep s) := by
  unfold State.laneSweep
  repeat' first
    | with_reducible assumption
    | intro _
    | with_reducible apply State.laneRound_keeps
    | split
    | with_reducible apply Keeps.iter
    | (with_reducible refine KeepsO.elim (by with_reducible assumption) ?_)

end Sys2Proof.Machine
end

