-- ==== Sys2Proof/Laws/KeepsTwill.lean ====
section
/-! SUPPORT. What every command keeps, for the operations of requests and Twill: one lemma for each operation, which says that
it keeps what `Keeps` speaks of. -/

namespace Sys2Proof.Machine

set_option Elab.async false

theorem State.flowIdle_keeps {r s : State} {a1 a2 a3} (h_s : Keeps r s) :
    Keeps r (State.flowIdle s a1 a2 a3) := by
  unfold State.flowIdle
  repeat' first
    | with_reducible assumption
    | (extract_lets +onlyGivenNames x; clear_value x)
    | split
    | with_reducible refine Keeps.upd ?_ rfl rfl rfl rfl rfl rfl rfl

theorem State.retireCell_keeps {r s : State} {a1} (h_s : Keeps r s) :
    Keeps r (State.retireCell s a1) := by
  unfold State.retireCell
  repeat' first
    | with_reducible assumption
    | (extract_lets +onlyGivenNames x; clear_value x)
    | with_reducible refine Keeps.upd ?_ rfl rfl rfl rfl rfl rfl rfl

theorem State.revive_keeps {r s : State} {a1} (h_s : Keeps r s) :
    Keeps r (State.revive s a1) := by
  unfold State.revive
  repeat' first
    | with_reducible assumption
    | (extract_lets +onlyGivenNames x; clear_value x)
    | split
    | with_reducible refine Keeps.upd ?_ rfl rfl rfl rfl rfl rfl rfl

theorem State.portAnswer_keeps {r s : State} {a1 a2} (h_s : Keeps r s) :
    Keeps r (State.portAnswer s a1 a2) := by
  unfold State.portAnswer
  repeat' first
    | with_reducible assumption
    | (extract_lets +onlyGivenNames x; clear_value x)
    | with_reducible apply State.emit_keeps
    | split

theorem State.healthTick_keeps {r s : State} (h_s : Keeps r s) :
    Keeps r (State.healthTick s) := by
  unfold State.healthTick
  repeat' first
    | with_reducible assumption
    | intro _
    | (extract_lets +onlyGivenNames x; clear_value x)
    | with_reducible apply forEach_keeps
    | with_reducible apply State.putLink_keeps
    | split

theorem State.takeCredit_keeps {r s : State} {a1 a2} (h_s : Keeps r s) :
    KeepsO r (State.takeCredit s a1 a2) := by
  unfold State.takeCredit
  repeat' first
    | with_reducible assumption
    | (extract_lets +onlyGivenNames x; clear_value x)
    | with_reducible apply State.putLink_keeps
    | with_reducible apply State.putPort_keeps
    | split
    | with_reducible apply KeepsO.none
    | with_reducible apply KeepsO.some

theorem State.creditless_keeps {r s : State} {a1 f} (h_s : Keeps r s) (h_f : ∀ x0, Keeps r x0 → Keeps r (f x0)) :
    Keeps r (State.creditless s a1 f) := by
  unfold State.creditless
  repeat' first
    | with_reducible assumption
    | (extract_lets +onlyGivenNames x
       first
       | (refine Keeps.cut (r := r) (x := x) ?_ ?_ <;> first | (intro _; clear_value x) | (unfold x; clear x))
       | clear_value x)
    | with_reducible apply State.putLink_keeps
    | with_reducible apply h_f
    | with_reducible refine Keeps.upd ?_ rfl rfl rfl rfl rfl rfl rfl

theorem State.sendConfigs_keeps {r s : State} {a1 a2} (h_s : Keeps r s) :
    Keeps r (State.sendConfigs s a1 a2) := by
  unfold State.sendConfigs
  repeat' first
    | with_reducible assumption
    | with_reducible apply State.sendOwn_keeps

theorem State.retrainHold_keeps {r s : State} {a1 a2 a3 a4} (h_s : Keeps r s) :
    Keeps r (State.retrainHold s a1 a2 a3 a4) := by
  unfold State.retrainHold
  repeat' first
    | with_reducible assumption
    | (extract_lets +onlyGivenNames x
       first
       | (refine Keeps.cut (r := r) (x := x) ?_ ?_ <;> first | (intro _; clear_value x) | (unfold x; clear x))
       | clear_value x)
    | with_reducible apply State.wrBit_keeps
    | with_reducible apply State.abortMargins_keeps
    | with_reducible apply State.putLink_keeps

theorem State.passBy_keeps {r s : State} {a1 a2} (h_s : Keeps r s) :
    Keeps r (State.passBy s a1 a2) := by
  unfold State.passBy
  repeat' first
    | with_reducible assumption
    | (extract_lets +onlyGivenNames x; (refine Keeps.cut (r := r) (x := x.2) ?_ ?_ <;> first | (intro _; clear_value x) | (unfold x; clear x)))
    | with_reducible apply State.admitMsg_keeps
    | with_reducible apply State.creditBack_keeps
    | with_reducible apply State.unlist_keeps
    | with_reducible apply State.dropMsg_keeps
    | split

theorem State.mark_keeps {r s : State} {a1 a2 a3} (h_s : Keeps r s) :
    Keeps r (State.mark s a1 a2 a3).2 := by
  unfold State.mark
  repeat' first
    | with_reducible assumption
    | (extract_lets +onlyGivenNames x; clear_value x)
    | with_reducible apply State.bump_keeps
    | split

theorem State.retrainDone_keeps {r s : State} {a1} (h_s : Keeps r s) :
    Keeps r (State.retrainDone s a1) := by
  unfold State.retrainDone
  repeat' first
    | with_reducible assumption
    | (extract_lets +onlyGivenNames x
       first
       | (refine Keeps.cut (r := r) (x := x) ?_ ?_ <;> first | (intro _; clear_value x) | (unfold x; clear x))
       | clear_value x)
    | with_reducible apply State.wrBits_keeps
    | with_reducible apply State.wrBit_keeps
    | with_reducible apply State.startWaiting_keeps
    | with_reducible apply State.switchMarker_keeps
    | with_reducible apply State.putLink_keeps
    | split
    | with_reducible refine Keeps.upd ?_ rfl rfl rfl rfl rfl rfl rfl

theorem State.writePathSweep_keeps {r s : State} (h_s : Keeps r s) :
    Keeps r (State.writePathSweep s) := by
  unfold State.writePathSweep
  repeat' first
    | with_reducible assumption
    | intro _
    | with_reducible apply forEach_keeps
    | with_reducible apply State.takeCredit_keeps
    | with_reducible apply State.moveMsg_keeps
    | split
    | (with_reducible refine KeepsO.elim (by with_reducible assumption) ?_)

theorem State.sendCtrl_keeps {r s : State} {a1 a2 a3 a4} (h_s : Keeps r s) :
    Keeps r (State.sendCtrl s a1 a2 a3 a4) := by
  unfold State.sendCtrl
  repeat' first
    | with_reducible assumption
    | with_reducible apply State.sendFlit_keeps

theorem State.sendCredit_keeps {r s : State} {a1} (h_s : Keeps r s) :
    Keeps r (State.sendCredit s a1) := by
  unfold State.sendCredit
  repeat' first
    | with_reducible assumption
    | (extract_lets +onlyGivenNames x; clear_value x)
    | with_reducible apply State.sendCtrl_keeps
    | with_reducible apply State.putLink_keeps

theorem State.creditTimer_keeps {r s : State} {a1} (h_s : Keeps r s) :
    Keeps r (State.creditTimer s a1) := by
  unfold State.creditTimer
  repeat' first
    | with_reducible assumption
    | (extract_lets +onlyGivenNames x; clear_value x)
    | with_reducible apply State.sendCredit_keeps
    | split

theorem State.sendEqDone_keeps {r s : State} {a1} (h_s : Keeps r s) :
    Keeps r (State.sendEqDone s a1) := by
  unfold State.sendEqDone
  repeat' first
    | with_reducible assumption
    | intro _
    | with_reducible apply forEach_keeps
    | with_reducible apply State.sendCtrl_keeps

theorem State.sendRetrain_keeps {r s : State} {a1 a2 a3 a4} (h_s : Keeps r s) :
    Keeps r (State.sendRetrain s a1 a2 a3 a4) := by
  unfold State.sendRetrain
  repeat' first
    | with_reducible assumption
    | with_reducible apply State.sendCtrl_keeps

theorem State.ioRefused_keeps {r s : State} {a1 a2} (h_s : Keeps r s) :
    Keeps r (State.ioRefused s a1 a2) := by
  unfold State.ioRefused
  repeat' first
    | with_reducible assumption
    | (extract_lets +onlyGivenNames x; (refine Keeps.cut (r := r) (x := x) ?_ ?_ <;> first | (intro _; clear_value x) | (unfold x; clear x)))
    | with_reducible apply State.aerLog_keeps
    | with_reducible apply State.emit_keeps
    | with_reducible apply State.bump_keeps
    | split

theorem State.sendAck_keeps {r s : State} {a1 a2} (h_s : Keeps r s) :
    Keeps r (State.sendAck s a1 a2) := by
  unfold State.sendAck
  repeat' first
    | with_reducible assumption
    | (extract_lets +onlyGivenNames x; clear_value x)
    | with_reducible apply State.sendCtrl_keeps
    | with_reducible apply State.putLink_keeps

theorem State.enterActive_keeps {r s : State} {a1} (h_s : Keeps r s) :
    Keeps r (State.enterActive s a1) := by
  unfold State.enterActive
  repeat' first
    | with_reducible assumption
    | (extract_lets +onlyGivenNames x
       first
       | (refine Keeps.cut (r := r) (x := x) ?_ ?_ <;> first | (intro _; clear_value x) | (unfold x; clear x))
       | clear_value x)
    | with_reducible apply State.putLink_keeps
    | with_reducible apply State.cicRaise_keeps
    | with_reducible apply State.loomSync_keeps
    | with_reducible apply State.setTwillState_keeps
    | with_reducible refine Keeps.upd ?_ rfl rfl rfl rfl rfl rfl rfl

theorem State.retrainAfterEq_keeps {r s : State} {a1} (h_s : Keeps r s) :
    Keeps r (State.retrainAfterEq s a1) := by
  unfold State.retrainAfterEq
  repeat' first
    | with_reducible assumption
    | intro _
    | (extract_lets +onlyGivenNames x
       first
       | (refine Keeps.cut (r := r) (x := x) ?_ ?_ <;> first | (intro _; clear_value x) | (unfold x; clear x))
       | clear_value x)
    | with_reducible apply State.sendEqDone_keeps
    | with_reducible apply State.putLink_keeps
    | with_reducible apply when_keeps
    | with_reducible apply State.retrainDone_keeps
    | split

theorem State.enterEq_keeps {r s : State} {a1} (h_s : Keeps r s) :
    Keeps r (State.enterEq s a1) := by
  unfold State.enterEq
  repeat' first
    | with_reducible assumption
    | with_reducible apply State.sendEqDone_keeps
    | with_reducible apply State.rxTrained_keeps
    | with_reducible apply State.setTwillState_keeps

theorem State.retrainWrite_keeps {r s : State} {a1 a2} (h_s : Keeps r s) :
    Keeps r (State.retrainWrite s a1 a2).2 := by
  unfold State.retrainWrite
  repeat' first
    | with_reducible assumption
    | (extract_lets +onlyGivenNames x; clear_value x)
    | with_reducible apply State.sendRetrain_keeps
    | with_reducible apply State.putLink_keeps
    | split

theorem State.enterInit_keeps {r s : State} {a1} (h_s : Keeps r s) :
    Keeps r (State.enterInit s a1) := by
  unfold State.enterInit
  repeat' first
    | with_reducible assumption
    | (extract_lets +onlyGivenNames x
       first
       | (refine Keeps.cut (r := r) (x := x) ?_ ?_ <;> first | (intro _; clear_value x) | (unfold x; clear x))
       | clear_value x)
    | with_reducible apply State.startWaiting_keeps
    | with_reducible apply State.switchMarker_keeps
    | with_reducible apply State.setTwillState_keeps
    | with_reducible apply State.putLink_keeps
    | with_reducible apply State.sendCtrl_keeps

theorem State.ackTimer_keeps {r s : State} {a1} (h_s : Keeps r s) :
    Keeps r (State.ackTimer s a1) := by
  unfold State.ackTimer
  repeat' first
    | with_reducible assumption
    | with_reducible apply State.sendAck_keeps
    | split

theorem State.enterRate_keeps {r s : State} {a1 a2} (h_s : Keeps r s) :
    Keeps r (State.enterRate s a1 a2) := by
  unfold State.enterRate
  repeat' first
    | with_reducible assumption
    | (extract_lets +onlyGivenNames x; (refine Keeps.cut (r := r) (x := x) ?_ ?_ <;> first | (intro _; clear_value x) | (unfold x; clear x)))
    | with_reducible apply State.setQuadRate_keeps
    | with_reducible apply State.setTwillState_keeps
    | with_reducible apply State.putAlignment_keeps
    | with_reducible apply State.switchMarker_keeps
    | with_reducible apply State.enterEq_keeps
    | split

theorem State.askReplay_keeps {r s : State} {a1} (h_s : Keeps r s) :
    Keeps r (State.askReplay s a1) := by
  unfold State.askReplay
  repeat' first
    | with_reducible assumption
    | with_reducible apply State.sendAck_keeps
    | split

theorem State.trainAligned_keeps {r s : State} {a1} (h_s : Keeps r s) :
    Keeps r (State.trainAligned s a1) := by
  unfold State.trainAligned
  repeat' first
    | with_reducible assumption
    | with_reducible apply State.sendConfigs_keeps
    | with_reducible apply State.enterEq_keeps
    | split

theorem State.trainFail_keeps {r s : State} {a1} (h_s : Keeps r s) :
    Keeps r (State.trainFail s a1) := by
  unfold State.trainFail
  repeat' first
    | with_reducible assumption
    | (extract_lets +onlyGivenNames x
       first
       | (refine Keeps.cut (r := r) (x := x) ?_ ?_ <;> first | (intro _; clear_value x) | (unfold x; clear x))
       | clear_value x)
    | with_reducible apply State.bump_keeps
    | with_reducible apply State.setTwillState_keeps
    | with_reducible apply State.lanesOff_keeps
    | with_reducible apply State.putLink_keeps

theorem State.cross_keeps {r s : State} {a1 a2} (h_s : Keeps r s) : Keeps r (State.cross s a1 a2) := by
  unfold State.cross
  extract_lets start
  have k : KeepsP r start := by
    refine ⟨fun t e => ?_⟩
    unfold start at e
    split at e
    · obtain ⟨u, k, e⟩ := Option.map_eq_some_iff.1 e
      exact e ▸ State.mark_keeps (KeepsO.elim k (State.takeCredit_keeps h_s))
    · cases e
      exact h_s
  clear_value start
  split
  · exact h_s
  · extract_lets s2 z
    have h2 : Keeps r s2 := State.countN_keeps (when_keeps (fun _ h => State.sample_keeps h) (KeepsP.elim rfl k))
    exact Keeps.ite (State.moveMsg_keeps h2) (Keeps.upd h2 rfl rfl rfl rfl rfl rfl rfl)

theorem State.trainingTimeout_keeps {r s : State} {a1} (h_s : Keeps r s) :
    Keeps r (State.trainingTimeout s a1) := by
  unfold State.trainingTimeout
  repeat' first
    | with_reducible assumption
    | (extract_lets +onlyGivenNames x; clear_value x)
    | with_reducible apply State.retrainDone_keeps
    | with_reducible apply State.reeqDrop_keeps
    | with_reducible apply State.enterInit_keeps
    | with_reducible apply State.trainFail_keeps
    | split

theorem State.cellTime_keeps {r s : State} {a1} (h_s : Keeps r s) :
    Keeps r (State.cellTime s a1) := by
  unfold State.cellTime
  repeat' first
    | with_reducible assumption
    | intro _
    | (extract_lets +onlyGivenNames x
       first
       | (refine Keeps.cut (r := r) (x := x) ?_ ?_ <;> first | (intro _; clear_value x) | (unfold x; clear x))
       | clear_value x)
    | with_reducible apply forEach_keeps
    | with_reducible apply State.cross_keeps
    | split
    | with_reducible refine Keeps.upd ?_ rfl rfl rfl rfl rfl rfl rfl

theorem State.sendData_keeps {r s : State} {a1 a2} (h_s : Keeps r s) :
    Keeps r (State.sendData s a1 a2) := by
  unfold State.sendData
  repeat' first
    | with_reducible assumption
    | intro _
    | (extract_lets +onlyGivenNames x
       first
       | (refine Keeps.cut (r := r) (x := x) ?_ ?_ <;> first | (intro _; clear_value x) | (unfold x; clear x))
       | (refine Keeps.cut (r := r) (x := x.2) ?_ ?_ <;> first | (intro _; clear_value x) | (unfold x; clear x))
       | clear_value x)
    | with_reducible apply State.putLink_keeps
    | with_reducible apply State.count_keeps
    | with_reducible apply State.sendFlit_keeps
    | with_reducible apply State.emit_keeps
    | with_reducible apply Keeps.foldl_snd

theorem State.markRx_keeps {r s : State} {a1} (h_s : Keeps r s) :
    Keeps r (State.markRx s a1) := by
  unfold State.markRx
  repeat' first
    | with_reducible assumption
    | intro _
    | with_reducible apply when_keeps
    | with_reducible apply State.count_keeps
    | with_reducible apply State.bump_keeps

theorem State.replayEmpty_keeps {r s : State} {a1} (h_s : Keeps r s) :
    Keeps r (State.replayEmpty s a1) := by
  unfold State.replayEmpty
  repeat' first
    | with_reducible assumption
    | (extract_lets +onlyGivenNames x
       first
       | (refine Keeps.cut (r := r) (x := x) ?_ ?_ <;> first | (intro _; clear_value x) | (unfold x; clear x))
       | clear_value x)
    | with_reducible apply State.putLink_keeps
    | with_reducible apply State.reeqAsk_keeps
    | with_reducible apply State.switchMarker_keeps
    | with_reducible apply State.wrBits_keeps
    | with_reducible apply State.retrainDone_keeps
    | split

theorem State.crossOn_keeps {r s : State} {a1} (h_s : Keeps r s) : Keeps r (State.crossOn s a1) := by
  induction a1 generalizing s with
  | zero => exact h_s
  | succ n ih =>
    unfold State.crossOn
    split
    · exact h_s
    · exact ih (State.cellTime_keeps h_s)

theorem State.reeqWrite_keeps {r s : State} {a1 a2} (h_s : Keeps r s) :
    Keeps r (State.reeqWrite s a1 a2).2 := by
  unfold State.reeqWrite
  repeat' first
    | with_reducible assumption
    | (extract_lets +onlyGivenNames x; clear_value x)
    | with_reducible apply State.retrainWrite_keeps
    | with_reducible apply State.reeqAsk_keeps
    | split

theorem State.messageStart_keeps {r s : State} {a1 a2} (h_s : Keeps r s) :
    Keeps r (State.messageStart s a1 a2) := by
  unfold State.messageStart
  repeat' first
    | with_reducible assumption
    | with_reducible apply State.crossOn_keeps
    | with_reducible apply State.cellTime_keeps
    | split

theorem State.cellLost_keeps {r s : State} {a1} (h_s : Keeps r s) :
    Keeps r (State.cellLost s a1) := by
  unfold State.cellLost
  repeat' first
    | with_reducible assumption
    | with_reducible apply State.retireCell_keeps
    | with_reducible apply State.cicRaise_keeps
    | with_reducible apply State.raiseGrave_keeps
    | with_reducible apply State.bump_keeps

theorem State.gapSkip_keeps {r s : State} {a1 a2 a3} (h_s : Keeps r s) :
    Keeps r (State.gapSkip s a1 a2 a3) := by
  unfold State.gapSkip
  repeat' first
    | with_reducible assumption
    | with_reducible apply State.reseqSkip_keeps
    | split

theorem State.twillViolation_keeps {r s : State} {a1 a2 a3} (h_s : Keeps r s) :
    Keeps r (State.twillViolation s a1 a2 a3) := by
  unfold State.twillViolation
  repeat' first
    | with_reducible assumption
    | (extract_lets +onlyGivenNames x; clear_value x)
    | with_reducible apply State.raiseD_keeps
    | with_reducible apply State.bump_keeps

theorem State.creditRx_keeps {r s : State} {a1 a2} (h_s : Keeps r s) : Keeps r (State.creditRx s a1 a2) := by
  unfold State.creditRx
  refine Keeps.ite h_s (forEach_keeps (fun s c h => ?_) h_s)
  have one : ∀ (s : State), Keeps r s → ∀ (mod r' : Nat) (cs rs : List Nat), Keeps r (
      let used := (cs.getD c 0 + mod - rs.getD c 0) % mod
      let f := (r' + mod - rs.getD c 0) % mod
      if f ≤ used then (r', s)
      else (cs.getD c 0, (s.bump (K.TWL_CREDIT_CLAMPS a1)).twillViolation a1 F.TWL_CREDIT_CLAMP none)).2 :=
    fun s h _ _ _ _ => Keeps.ite_snd h (State.twillViolation_keeps (State.bump_keeps h))
  exact State.putLink_keeps (one _ (one _ h _ _ _ _) _ _ _ _)

theorem State.eqRx_keeps {r s : State} {a1 a2 a3 a4 a5 a6} (h_s : Keeps r s) :
    Keeps r (State.eqRx s a1 a2 a3 a4 a5 a6) := by
  unfold State.eqRx
  repeat' first
    | with_reducible assumption
    | (extract_lets +onlyGivenNames x
       first
       | (refine Keeps.cut (r := r) (x := x) ?_ ?_ <;> first | (intro _; clear_value x) | (unfold x; clear x))
       | (have _ := (x : _ → _ → State); unfold x; clear x)
       | clear_value x)
    | with_reducible apply State.twillViolation_keeps
    | with_reducible apply State.sendCtrl_keeps
    | with_reducible apply State.wr_keeps
    | with_reducible apply State.putLink_keeps
    | with_reducible apply State.retrainDone_keeps
    | with_reducible apply State.enterInit_keeps
    | split

theorem State.configRx_keeps {r s : State} {a1 a2} (h_s : Keeps r s) :
    Keeps r (State.configRx s a1 a2) := by
  unfold State.configRx
  repeat' first
    | with_reducible assumption
    | (extract_lets +onlyGivenNames x
       first
       | (refine Keeps.cut (r := r) (x := x) ?_ ?_ <;> first | (intro _; clear_value x) | (unfold x; clear x))
       | clear_value x)
    | with_reducible apply State.twillViolation_keeps
    | with_reducible apply State.putLink_keeps
    | with_reducible apply State.sendConfigs_keeps
    | with_reducible apply State.setTwillState_keeps
    | with_reducible apply State.raise_keeps
    | with_reducible apply State.trainFail_keeps
    | with_reducible apply State.wr_keeps
    | with_reducible apply State.wrBits_keeps
    | with_reducible apply State.enterRate_keeps
    | split

theorem State.cxlCache_keeps {r s : State} {a1 a2 a3} (h_s : Keeps r s) :
    Keeps r (State.cxlCache s a1 a2 a3) := by
  unfold State.cxlCache
  repeat' first
    | with_reducible assumption
    | (extract_lets +onlyGivenNames x; clear_value x)
    | with_reducible apply State.portViolation_keeps
    | with_reducible apply State.bump_keeps
    | with_reducible apply State.emit_keeps
    | split

theorem State.initRx_keeps {r s : State} {a1 a2 a3 a4} (h_s : Keeps r s) :
    Keeps r (State.initRx s a1 a2 a3 a4) := by
  unfold State.initRx
  repeat' first
    | with_reducible assumption
    | (extract_lets +onlyGivenNames x
       first
       | (refine Keeps.cut (r := r) (x := x) ?_ ?_ <;> first | (intro _; clear_value x) | (unfold x; clear x))
       | clear_value x)
    | with_reducible apply State.twillViolation_keeps
    | with_reducible apply State.enterInit_keeps
    | with_reducible apply State.putLink_keeps
    | with_reducible apply State.sendCtrl_keeps
    | with_reducible apply State.enterActive_keeps
    | split

theorem State.retrainRx_keeps {r s : State} {a1 a2 a3 a4 a5} (h_s : Keeps r s) :
    Keeps r (State.retrainRx s a1 a2 a3 a4 a5) := by
  unfold State.retrainRx
  repeat' first
    | with_reducible assumption
    | (extract_lets +onlyGivenNames x; clear_value x)
    | with_reducible apply State.twillViolation_keeps
    | with_reducible apply State.retrainHold_keeps
    | with_reducible apply State.putLink_keeps
    | with_reducible apply State.sendRetrain_keeps
    | split

theorem State.trainingRestart_keeps {r s : State} {a1} (h_s : Keeps r s) :
    Keeps r (State.trainingRestart s a1) := by
  unfold State.trainingRestart
  repeat' first
    | with_reducible assumption
    | with_reducible apply State.startTraining_keeps
    | split

theorem State.reenable_keeps {r s : State} {a1 a2} (h_s : Keeps r s) :
    Keeps r (State.reenable s a1 a2).2 := by
  unfold State.reenable
  repeat' first
    | with_reducible assumption
    | with_reducible apply State.startTraining_keeps
    | with_reducible apply State.wrBit_keeps
    | split

theorem State.refill_keeps {r s : State} {a1} (h_s : Keeps r s) : Keeps r (State.refill s a1) := by
  have hw : ∀ (l : List (Nat × Nat)) (z : List Byte × Bool × State), Keeps r z.2.2 → Keeps r (l.foldl (fun (r : List Byte × Bool × State) e =>
      let v := r.2.2.cmnRead e.1 (64 * e.2)
      (r.1 ++ v.1, r.2.1 || v.2.1, v.2.2)) z).2.2 := by
    intro l
    induction l with
    | nil => exact fun _ h => h
    | cons e l ih => exact fun _ h => ih _ (State.cmnRead_keeps h)
  unfold State.refill
  refine Keeps.ite h_s ?_
  split
  · exact h_s
  · extract_lets parts
    split
    · exact KeepsO.elim ‹_› (State.storeDenied_keeps h_s)
    · exact State.enqueue_keeps (State.allocCells_keeps (State.unchain_keeps (Keeps.upd (hw parts _ h_s) rfl rfl rfl rfl rfl rfl rfl)))

theorem State.transitLost_keeps {r s : State} {a1} (h_s : Keeps r s) :
    Keeps r (State.transitLost s a1) := by
  unfold State.transitLost
  repeat' first
    | with_reducible assumption
    | (extract_lets +onlyGivenNames x
       first
       | (refine Keeps.cut (r := r) (x := x) ?_ ?_ <;> first | (intro _; clear_value x) | (unfold x; clear x))
       | (refine Keeps.cut (r := r) (x := x.2) ?_ ?_ <;> first | (intro _; clear_value x) | (unfold x; clear x))
       | clear_value x)
    | with_reducible apply State.stampRs_keeps
    | with_reducible apply State.sendMsg_keeps
    | split
    | with_reducible refine Keeps.upd ?_ rfl rfl rfl rfl rfl rfl rfl

theorem State.mgmtAnswer_keeps {r s : State} {a1 a2} (h_s : Keeps r s) :
    Keeps r (State.mgmtAnswer s a1 a2) := by
  unfold State.mgmtAnswer
  repeat' first
    | with_reducible assumption
    | (extract_lets +onlyGivenNames x; clear_value x)
    | with_reducible apply State.sendMsg_keeps
    | with_reducible apply State.tick_keeps

theorem State.msgStatus_keeps {r s : State} {a1 a2 a3} (h_s : Keeps r s) :
    Keeps r (State.msgStatus s a1 a2 a3) := by
  unfold State.msgStatus
  repeat' first
    | with_reducible assumption
    | (extract_lets +onlyGivenNames x
       first
       | (refine Keeps.cut (r := r) (x := x.2) ?_ ?_ <;> first | (intro _; clear_value x) | (unfold x; clear x))
       | clear_value x)
    | with_reducible apply State.stampRs_keeps
    | with_reducible apply State.sendMsg_keeps
    | split

theorem State.cellFound_keeps {r s : State} {a1 a2} (h_s : Keeps r s) :
    Keeps r (State.cellFound s a1 a2).2 := by
  unfold State.cellFound
  repeat' first
    | with_reducible assumption
    | intro _
    | (extract_lets +onlyGivenNames x
       first
       | (refine Keeps.cut (r := r) (x := x) ?_ ?_ <;> first | (intro _; clear_value x) | (unfold x; clear x))
       | clear_value x)
    | with_reducible apply State.cicRaise_keeps
    | with_reducible apply State.raise_keeps
    | with_reducible apply State.bump_keeps
    | with_reducible apply State.cellLost_keeps
    | with_reducible apply when_keeps
    | with_reducible apply State.releaseTracker_keeps
    | with_reducible apply State.completeError_keeps
    | with_reducible apply State.mediaEvent_keeps
    | with_reducible apply State.transitLost_keeps
    | with_reducible apply State.revive_keeps
    | with_reducible apply State.putTracker_keeps
    | split
    | dsimp -zeta only
    | with_reducible refine Keeps.upd ?_ rfl rfl rfl rfl rfl rfl rfl

theorem State.noEndpoint_keeps {r s : State} {a1 a2} (h_s : Keeps r s) :
    Keeps r (State.noEndpoint s a1 a2) := by
  unfold State.noEndpoint
  repeat' first
    | with_reducible assumption
    | (extract_lets +onlyGivenNames x; (refine Keeps.cut (r := r) (x := x) ?_ ?_ <;> first | (intro _; clear_value x) | (unfold x; clear x)))
    | with_reducible apply State.decodeMiss_keeps
    | with_reducible apply State.bump_keeps
    | with_reducible apply State.msgStatus_keeps
    | split

theorem State.twillSend_keeps {r s : State} {a1 a2} (h_s : Keeps r s) :
    Keeps r (State.twillSend s a1 a2) := by
  unfold State.twillSend
  repeat' first
    | with_reducible assumption
    | (extract_lets +onlyGivenNames x
       first
       | (refine Keeps.cut (r := r) (x := x) ?_ ?_ <;> first | (intro _; clear_value x) | (unfold x; clear x))
       | clear_value x)
    | with_reducible apply State.sendData_keeps
    | with_reducible apply State.completeOk_keeps
    | with_reducible apply State.putTracker_keeps
    | split
    | with_reducible refine Keeps.upd ?_ rfl rfl rfl rfl rfl rfl rfl

theorem State.sliceFence_keeps {r s : State} {a1} (h_s : Keeps r s) :
    Keeps r (State.sliceFence s a1) := by
  unfold State.sliceFence
  repeat' first
    | with_reducible assumption
    | intro _
    | (extract_lets +onlyGivenNames x
       first
       | (refine Keeps.cut (r := r) (x := x) ?_ ?_ <;> first | (intro _; clear_value x) | (unfold x; clear x))
       | (refine Keeps.cut (r := r) (x := x.2) ?_ ?_ <;> first | (intro _; clear_value x) | (unfold x; clear x))
       | clear_value x)
    | with_reducible apply State.cicRaise_keeps
    | with_reducible apply State.loomSync_keeps
    | with_reducible apply State.wrBit_keeps
    | with_reducible apply forEach_keeps
    | with_reducible apply State.cellFound_keeps
    | with_reducible apply State.dropMsg_keeps
    | split
    | with_reducible refine Keeps.upd ?_ rfl rfl rfl rfl rfl rfl rfl

theorem State.transit_keeps {r s : State} {a1 a2} (h_s : Keeps r s) :
    Keeps r (State.transit s a1 a2) := by
  unfold State.transit
  repeat' first
    | with_reducible assumption
    | (extract_lets +onlyGivenNames x
       first
       | (refine Keeps.cut (r := r) (x := x) ?_ ?_ <;> first | (intro _; clear_value x) | (unfold x; clear x))
       | (have _ := (x : _ → State); unfold x; clear x)
       | clear_value x)
    | with_reducible apply State.passBy_keeps
    | with_reducible apply State.msgStatus_keeps
    | with_reducible apply State.twillViolation_keeps
    | with_reducible apply State.noEndpoint_keeps
    | with_reducible apply State.sendMsg_keeps
    | with_reducible apply State.failTransit_keeps
    | split
    | with_reducible refine Keeps.upd ?_ rfl rfl rfl rfl rfl rfl rfl

theorem State.deny_keeps {r s : State} {a1 a2} (h_s : Keeps r s) :
    Keeps r (State.deny s a1 a2) := by
  unfold State.deny
  repeat' first
    | with_reducible assumption
    | intro _
    | (extract_lets +onlyGivenNames x
       first
       | (refine Keeps.cut (r := r) (x := x) ?_ ?_ <;> first | (intro _; clear_value x) | (unfold x; clear x))
       | clear_value x)
    | with_reducible apply State.gtpViolation_keeps
    | with_reducible apply State.completeError_keeps
    | with_reducible apply when_keeps
    | with_reducible apply State.putMeter_keeps

theorem State.sliceFail_keeps {r s : State} {a1} (h_s : Keeps r s) :
    Keeps r (State.sliceFail s a1) := by
  unfold State.sliceFail
  repeat' first
    | with_reducible assumption
    | with_reducible apply State.raise_keeps
    | with_reducible apply State.sliceFence_keeps
    | split

theorem State.croftAccess_keeps {r s : State} {a1} (h_s : Keeps r s) : Keeps r (State.croftAccess s a1) := by
  unfold State.croftAccess
  extract_lets base bad
  have hb : ∀ s, Keeps r s → Keeps r (bad s) := fun _ h => State.completeOk_keeps (State.bump_keeps h)
  clear_value bad base
  split
  · extract_lets off
    clear_value off
    refine Keeps.ite (hb s h_s) (Keeps.ite ?_ ?_)
    · split
      · exact State.completeOk_keeps (KeepsO.elim ‹_› (State.cicWrite_keeps h_s))
      · exact hb s h_s
    · split
      · exact State.completeOk_keeps (KeepsP.elim ‹_› (State.cicRead_keeps h_s))
      · exact hb s h_s
  · exact hb s h_s

theorem State.mgmtMessage_keeps {r s : State} {a1 a2} (h_s : Keeps r s) :
    Keeps r (State.mgmtMessage s a1 a2) := by
  unfold State.mgmtMessage
  repeat' first
    | with_reducible assumption
    | (extract_lets +onlyGivenNames x; (have _ := (x : _ → State); unfold x; clear x))
    | with_reducible apply State.passBy_keeps
    | with_reducible apply State.markRx_keeps
    | with_reducible apply State.bump_keeps
    | with_reducible apply State.msgStatus_keeps
    | with_reducible apply State.noEndpoint_keeps
    | with_reducible apply State.sendMsg_keeps
    | split

theorem State.twillAnswer_keeps {r s : State} {a1 a2 a3} (h_s : Keeps r s) :
    Keeps r (State.twillAnswer s a1 a2 a3) := by
  unfold State.twillAnswer
  repeat' first
    | with_reducible assumption
    | intro _
    | (extract_lets +onlyGivenNames x
       first
       | (refine Keeps.cut (r := r) (x := x) ?_ ?_ <;> first | (intro _; clear_value x) | (unfold x; clear x))
       | (have _ := (x : _ → State); unfold x; clear x)
       | clear_value x)
    | with_reducible apply State.creditBack_keeps
    | with_reducible apply State.bump_keeps
    | with_reducible apply State.completeOk_keeps
    | with_reducible apply State.completeError_keeps
    | with_reducible apply when_keeps
    | with_reducible apply State.mediaEvent_keeps
    | with_reducible apply State.failSource_keeps
    | with_reducible apply State.putMeter_keeps
    | split

theorem State.commonsAccess_keeps {r s : State} {a1 a2} (h_s : Keeps r s) :
    Keeps r (State.commonsAccess s a1 a2) := by
  unfold State.commonsAccess
  repeat' first
    | with_reducible assumption
    | intro _
    | (extract_lets +onlyGivenNames x
       first
       | (refine Keeps.cut (r := r) (x := x) ?_ ?_ <;> first | (intro _; clear_value x) | (unfold x; clear x))
       | (refine Keeps.cut (r := r) (x := x.2) ?_ ?_ <;> first | (intro _; clear_value x) | (unfold x; clear x))
       | (refine Keeps.cut (r := r) (x := x.2.2) ?_ ?_ <;> first | (intro _; clear_value x) | (unfold x; clear x))
       | clear_value x)
    | with_reducible apply State.completeError_keeps
    | with_reducible apply State.cmnRangeError_keeps
    | with_reducible apply State.cmnRead_keeps
    | with_reducible apply State.bump_keeps
    | with_reducible apply State.completeOk_keeps
    | with_reducible apply State.cmnWrite_keeps
    | with_reducible apply forEach_keeps
    | with_reducible apply State.poisonLine_keeps
    | with_reducible apply when_keeps
    | with_reducible apply State.mediaEvent_keeps
    | split

theorem State.portSend_keeps {r s : State} {a1 a2} (h_s : Keeps r s) :
    Keeps r (State.portSend s a1 a2) := by
  unfold State.portSend
  repeat' first
    | with_reducible assumption
    | (extract_lets +onlyGivenNames x; (refine Keeps.cut (r := r) (x := x) ?_ ?_ <;> first | (intro _; clear_value x) | (unfold x; clear x)))
    | with_reducible apply State.emit_keeps
    | with_reducible apply State.completeOk_keeps
    | with_reducible apply State.putTracker_keeps
    | split

theorem State.answered_keeps {r s : State} {a1 a2 a3 a4 a5 a6 a7} (h_s : Keeps r s) :
    Keeps r (State.answered s a1 a2 a3 a4 a5 a6 a7) := by
  unfold State.answered
  repeat' first
    | with_reducible assumption
    | intro _
    | (extract_lets +onlyGivenNames x; (refine Keeps.cut (r := r) (x := x) ?_ ?_ <;> first | (intro _; clear_value x) | (unfold x; clear x)))
    | with_reducible apply State.lateResponse_keeps
    | with_reducible apply State.portViolation_keeps
    | with_reducible apply State.aerLog_keeps
    | with_reducible apply when_keeps
    | with_reducible apply State.completeOk_keeps
    | with_reducible apply State.completeError_keeps
    | split

theorem State.deliver_keeps {r s : State} {a1 a2 a3} (h_s : Keeps r s) :
    Keeps r (State.deliver s a1 a2 a3) := by
  unfold State.deliver
  repeat' first
    | with_reducible assumption
    | intro _
    | (extract_lets +onlyGivenNames x
       first
       | (refine Keeps.cut (r := r) (x := x) ?_ ?_ <;> first | (intro _; clear_value x) | (unfold x; clear x))
       | clear_value x)
    | with_reducible apply when_keeps
    | with_reducible apply State.count_keeps
    | with_reducible apply State.bump_keeps
    | with_reducible apply State.portAnswer_keeps
    | with_reducible apply State.portSend_keeps
    | with_reducible apply State.cmnEcc_keeps
    | with_reducible apply State.commonsAccess_keeps
    | with_reducible apply State.croftAccess_keeps
    | with_reducible apply State.completeError_keeps
    | split
    | with_reducible refine Keeps.upd ?_ rfl rfl rfl rfl rfl rfl rfl

theorem State.messageTransmit_keeps {r s : State} {a1 a2 a3} (h_s : Keeps r s) :
    Keeps r (State.messageTransmit s a1 a2 a3) := by
  unfold State.messageTransmit
  repeat' first
    | with_reducible assumption
    | (extract_lets +onlyGivenNames x
       first
       | (refine Keeps.cut (r := r) (x := x) ?_ ?_ <;> first | (intro _; clear_value x) | (unfold x; clear x))
       | (refine Keeps.cut (r := r) (x := x.2) ?_ ?_ <;> first | (intro _; clear_value x) | (unfold x; clear x))
       | clear_value x)
    | with_reducible apply State.cellFound_keeps
    | with_reducible apply State.dropMsg_keeps
    | with_reducible apply State.twillSend_keeps
    | with_reducible apply State.deliver_keeps
    | split

theorem State.portResponse_keeps {r s : State} {a1 a2} (h_s : Keeps r s) :
    Keeps r (State.portResponse s a1 a2) := by
  unfold State.portResponse
  repeat' first
    | with_reducible assumption
    | with_reducible apply State.answered_keeps
    | split

theorem State.cplData_keeps {r s : State} {a1 a2} (h_s : Keeps r s) :
    Keeps r (State.cplData s a1 a2) := by
  unfold State.cplData
  repeat' first
    | with_reducible assumption
    | (extract_lets +onlyGivenNames x; clear_value x)
    | with_reducible apply State.lateResponse_keeps
    | with_reducible apply State.putTracker_keeps
    | with_reducible apply State.answered_keeps
    | split

theorem State.holdTimeout_keeps {r s : State} {a1} (h_s : Keeps r s) :
    Keeps r (State.holdTimeout s a1) := by
  unfold State.holdTimeout
  repeat' first
    | with_reducible assumption
    | with_reducible apply State.startTraining_keeps
    | with_reducible apply State.twillDown_keeps
    | with_reducible apply State.wrBit_keeps
    | split

theorem State.flitCheck_keeps {r s : State} {a1 a2} (h_s : Keeps r s) :
    Keeps r (State.flitCheck s a1 a2).2 := by
  unfold State.flitCheck
  repeat' first
    | with_reducible assumption
    | (extract_lets +onlyGivenNames x
       first
       | (refine Keeps.cut (r := r) (x := x) ?_ ?_ <;> first | (intro _; clear_value x) | (unfold x; clear x))
       | clear_value x)
    | with_reducible apply State.countN_keeps
    | with_reducible apply State.add_keeps
    | with_reducible apply State.putLink_keeps
    | with_reducible apply State.bump_keeps
    | with_reducible apply State.healthDown_keeps
    | split

theorem State.replayAll_keeps {r s : State} {a1} (h_s : Keeps r s) :
    Keeps r (State.replayAll s a1) := by
  unfold State.replayAll
  repeat' first
    | with_reducible assumption
    | intro _
    | (extract_lets +onlyGivenNames x
       first
       | (refine Keeps.cut (r := r) (x := x) ?_ ?_ <;> first | (intro _; clear_value x) | (unfold x; clear x))
       | clear_value x)
    | with_reducible apply forEach_keeps
    | with_reducible apply State.sendFlit_keeps
    | with_reducible apply State.putLink_keeps
    | with_reducible apply State.count_keeps
    | with_reducible apply State.bump_keeps
    | with_reducible apply State.healthDown_keeps
    | split

theorem State.twillFraming_keeps {r s : State} {a1 a2} (h_s : Keeps r s) :
    Keeps r (State.twillFraming s a1 a2) := by
  unfold State.twillFraming
  repeat' first
    | with_reducible assumption
    | with_reducible apply State.healthDown_keeps
    | with_reducible apply State.twillViolation_keeps

theorem State.ackRx_keeps {r s : State} {a1 a2 a3} (h_s : Keeps r s) :
    Keeps r (State.ackRx s a1 a2 a3) := by
  unfold State.ackRx
  repeat' first
    | with_reducible assumption
    | (extract_lets +onlyGivenNames x
       first
       | (refine Keeps.cut (r := r) (x := x) ?_ ?_ <;> first | (intro _; clear_value x) | (unfold x; clear x))
       | clear_value x)
    | with_reducible apply State.twillViolation_keeps
    | with_reducible apply State.putLink_keeps
    | with_reducible apply State.replayAll_keeps
    | split

theorem State.replayTimer_keeps {r s : State} {a1} (h_s : Keeps r s) :
    Keeps r (State.replayTimer s a1) := by
  unfold State.replayTimer
  repeat' first
    | with_reducible assumption
    | with_reducible apply State.replayAll_keeps
    | split

theorem State.ctrlMessage_keeps {r s : State} {a1 a2} (h_s : Keeps r s) :
    Keeps r (State.ctrlMessage s a1 a2) := by
  unfold State.ctrlMessage
  repeat' first
    | with_reducible assumption
    | with_reducible apply State.ackRx_keeps
    | with_reducible apply State.creditRx_keeps
    | with_reducible apply State.configRx_keeps
    | with_reducible apply State.initRx_keeps
    | with_reducible apply State.eqRx_keeps
    | with_reducible apply State.retrainRx_keeps
    | split

theorem State.ctrlMessages_keeps {r s : State} {a0 a1 a2} (h_s : Keeps r s) : Keeps r (State.ctrlMessages a0 a1 a2 s) := by
  fun_induction State.ctrlMessages a0 a1 a2 s with
  | case1 => exact h_s
  | case2 => exact h_s
  | case3 => exact State.twillViolation_keeps h_s
  | case4 => exact State.twillFraming_keeps h_s
  | case5 _ _ _ _ _ _ _ ih => exact ih (State.ctrlMessage_keeps h_s)

theorem State.ctrlFlitRx_keeps {r s : State} {a1 a2} (h_s : Keeps r s) :
    Keeps r (State.ctrlFlitRx s a1 a2) := by
  unfold State.ctrlFlitRx
  repeat' first
    | with_reducible assumption
    | (extract_lets +onlyGivenNames x
       first
       | (refine Keeps.cut (r := r) (x := x) ?_ ?_ <;> first | (intro _; clear_value x) | (unfold x; clear x))
       | clear_value x)
    | with_reducible apply State.flitCheck_keeps
    | with_reducible apply State.askReplay_keeps
    | with_reducible apply State.twillViolation_keeps
    | with_reducible apply State.ctrlMessages_keeps
    | split
    | (with_reducible refine Keeps.of_snd (by with_reducible assumption) ?_)

theorem State.localRequest_keeps {r s : State} {a1 a2 a3} (h_s : Keeps r s) :
    Keeps r (State.localRequest s a1 a2 a3) := by
  unfold State.localRequest
  repeat' first
    | with_reducible assumption
    | intro _
    | (extract_lets +onlyGivenNames x
       first
       | (refine Keeps.cut (r := r) (x := x) ?_ ?_ <;> first | (intro _; clear_value x) | (unfold x; clear x))
       | (refine Keeps.cut (r := r) (x := x.2) ?_ ?_ <;> first | (intro _; clear_value x) | (unfold x; clear x))
       | (have _ := (x : _ → State); unfold x; clear x)
       | clear_value x)
    | with_reducible apply State.passBy_keeps
    | with_reducible apply State.msgStatus_keeps
    | with_reducible apply State.blwViolation_keeps
    | with_reducible apply State.gtpViolation_keeps
    | with_reducible apply State.blwAccept_keeps
    | with_reducible apply when_keeps
    | with_reducible apply State.cmnRangeError_keeps
    | with_reducible apply State.noEndpoint_keeps
    | with_reducible apply State.bump_keeps
    | with_reducible apply State.newTracker_keeps
    | with_reducible apply State.admitMsg_keeps
    | with_reducible apply State.release_keeps
    | with_reducible apply State.linkNew_keeps
    | split

theorem State.gate_keeps {r s : State} {a1 a2} (h_s : Keeps r s) :
    Keeps r (State.gate s a1 a2) := by
  unfold State.gate
  repeat' first
    | with_reducible assumption
    | intro _
    | (extract_lets +onlyGivenNames x
       first
       | (refine Keeps.cut (r := r) (x := x) ?_ ?_ <;> first | (intro _; clear_value x) | (unfold x; clear x))
       | clear_value x)
    | with_reducible apply State.deny_keeps
    | with_reducible apply State.dropMsg_keeps
    | with_reducible apply when_keeps
    | with_reducible apply State.markDirty_keeps
    | with_reducible apply State.unrouted_keeps
    | with_reducible apply State.paddock_keeps
    | with_reducible apply State.putTracker_keeps
    | split

theorem State.pass_keeps {r s : State} {a1 a2} (h_s : Keeps r s) :
    Keeps r (State.pass s a1 a2) := by
  unfold State.pass
  repeat' first
    | with_reducible assumption
    | with_reducible apply State.moveMsg_keeps
    | with_reducible apply State.gate_keeps
    | split

theorem State.reissue_keeps {r s : State} {a1} (h_s : Keeps r s) :
    Keeps r (State.reissue s a1) := by
  unfold State.reissue
  repeat' first
    | with_reducible assumption
    | intro _
    | with_reducible apply State.pass_keeps
    | with_reducible apply when_keeps
    | with_reducible apply State.markDirty_keeps
    | split

theorem State.reserveWait_keeps {r s : State} {a1} (h_s : Keeps r s) :
    Keeps r (State.reserveWait s a1) := by
  unfold State.reserveWait
  repeat' first
    | with_reducible assumption
    | intro _
    | (extract_lets +onlyGivenNames x
       first
       | (refine Keeps.cut (r := r) (x := x) ?_ ?_ <;> first | (intro _; clear_value x) | (unfold x; clear x))
       | (refine Keeps.cut (r := r) (x := x.2) ?_ ?_ <;> first | (intro _; clear_value x) | (unfold x; clear x))
       | clear_value x)
    | with_reducible apply State.allocCells_keeps
    | with_reducible apply when_keeps
    | with_reducible apply State.creditBack_keeps
    | with_reducible apply State.sample_keeps
    | with_reducible apply State.moveMsg_keeps
    | with_reducible apply State.linkNew_keeps
    | with_reducible apply State.pass_keeps
    | with_reducible apply State.linkQueue_keeps
    | split

theorem State.localMessage_keeps {r s : State} {a1 a2 a3} (h_s : Keeps r s) :
    Keeps r (State.localMessage s a1 a2 a3) := by
  unfold State.localMessage
  repeat' first
    | with_reducible assumption
    | with_reducible apply State.proxyForward_keeps
    | with_reducible apply State.proxyCmp_keeps
    | with_reducible apply State.snoopAnswer_keeps
    | with_reducible apply State.failSource_keeps
    | with_reducible apply State.blwMemory_keeps
    | with_reducible apply State.releaseTracker_keeps
    | with_reducible apply State.twillAnswer_keeps
    | with_reducible apply State.proxyGrant_keeps
    | with_reducible apply State.homeWriteback_keeps
    | split

theorem State.thaw_keeps {r s : State} {a1} (h_s : Keeps r s) :
    Keeps r (State.thaw s a1) := by
  unfold State.thaw
  repeat' first
    | with_reducible assumption
    | intro _
    | (extract_lets +onlyGivenNames x
       first
       | (refine Keeps.cut (r := r) (x := x) ?_ ?_ <;> first | (intro _; clear_value x) | (unfold x; clear x))
       | clear_value x)
    | with_reducible apply forEach_keeps
    | with_reducible apply State.gate_keeps
    | with_reducible apply State.dropMsg_keeps
    | split
    | with_reducible refine Keeps.upd ?_ rfl rfl rfl rfl rfl rfl rfl

theorem State.submit_keeps {r s : State} {a1 a2} (h_s : Keeps r s) :
    Keeps r (State.submit s a1 a2) := by
  unfold State.submit
  repeat' first
    | with_reducible assumption
    | (extract_lets +onlyGivenNames x
       first
       | (refine Keeps.cut (r := r) (x := x.2) ?_ ?_ <;> first | (intro _; clear_value x) | (unfold x; clear x))
       | clear_value x)
    | with_reducible apply State.newTracker_keeps
    | with_reducible apply State.admitMsg_keeps
    | with_reducible apply State.putTracker_keeps
    | with_reducible apply State.pass_keeps
    | split

theorem State.localDeliver_keeps {r s : State} {a1 a2} (h_s : Keeps r s) :
    Keeps r (State.localDeliver s a1 a2) := by
  unfold State.localDeliver
  repeat' first
    | with_reducible assumption
    | (extract_lets +onlyGivenNames x
       first
       | (refine Keeps.cut (r := r) (x := x) ?_ ?_ <;> first | (intro _; clear_value x) | (unfold x; clear x))
       | (refine Keeps.cut (r := r) (x := x.2) ?_ ?_ <;> first | (intro _; clear_value x) | (unfold x; clear x))
       | clear_value x)
    | with_reducible apply State.mgmtMessage_keeps
    | with_reducible apply State.markRx_keeps
    | with_reducible apply State.admitMsg_keeps
    | with_reducible apply State.reseq_keeps
    | with_reducible apply State.localMessage_keeps
    | with_reducible apply State.passBy_keeps
    | with_reducible apply State.localRequest_keeps
    | split

theorem State.twillMessage_keeps {r s : State} {a1 a2 a3} (h_s : Keeps r s) :
    Keeps r (State.twillMessage s a1 a2 a3) := by
  unfold State.twillMessage
  repeat' first
    | with_reducible assumption
    | (extract_lets +onlyGivenNames x
       first
       | (refine Keeps.cut (r := r) (x := x) ?_ ?_ <;> first | (intro _; clear_value x) | (unfold x; clear x))
       | clear_value x)
    | with_reducible apply State.twillFraming_keeps
    | with_reducible apply State.putLink_keeps
    | with_reducible apply State.msgStatus_keeps
    | with_reducible apply State.twillViolation_keeps
    | with_reducible apply State.passBy_keeps
    | with_reducible apply State.localDeliver_keeps
    | with_reducible apply State.transit_keeps
    | split
    | with_reducible refine Keeps.upd ?_ rfl rfl rfl rfl rfl rfl rfl

theorem State.debugAccess_keeps {r s : State} {a1 a2 a3 a4 a5} (h_s : Keeps r s) :
    Keeps r (State.debugAccess s a1 a2 a3 a4 a5) := by
  unfold State.debugAccess
  repeat' first
    | with_reducible assumption
    | intro _
    | (extract_lets +onlyGivenNames x; clear_value x)
    | with_reducible apply State.emit_keeps
    | with_reducible apply State.gtpViolation_keeps
    | with_reducible apply forEach_keeps
    | with_reducible apply State.submit_keeps
    | split

theorem State.hostTake_keeps {r s : State} {a1 a2 a3} (h_s : Keeps r s) :
    Keeps r (State.hostTake s a1 a2 a3) := by
  unfold State.hostTake
  repeat' first
    | with_reducible assumption
    | (extract_lets +onlyGivenNames x
       first
       | (refine Keeps.cut (r := r) (x := x) ?_ ?_ <;> first | (intro _; clear_value x) | (unfold x; clear x))
       | (refine Keeps.cut (r := r) (x := x.2) ?_ ?_ <;> first | (intro _; clear_value x) | (unfold x; clear x))
       | (have _ := (x : _ → _ → State); unfold x; clear x)
       | clear_value x)
    | with_reducible apply State.newTracker_keeps
    | with_reducible apply State.completeError_keeps
    | with_reducible apply State.decodeMiss_keeps
    | with_reducible apply State.count_keeps
    | with_reducible apply State.submit_keeps
    | split

theorem State.rowMessage_keeps {r s : State} {a1 a2 a3 a4} (h_s : Keeps r s) :
    Keeps r (State.rowMessage s a1 a2 a3 a4) := by
  unfold State.rowMessage
  repeat' first
    | with_reducible assumption
    | with_reducible apply State.twillMessage_keeps

theorem State.arrivedMsg_keeps {r s : State} {a1} (h_s : Keeps r s) :
    Keeps r (State.arrivedMsg s a1) := by
  unfold State.arrivedMsg
  repeat' first
    | with_reducible assumption
    | intro _
    | (extract_lets +onlyGivenNames x; (refine Keeps.cut (r := r) (x := x) ?_ ?_ <;> first | (intro _; clear_value x) | (unfold x; clear x)))
    | with_reducible apply State.mgmtAnswer_keeps
    | with_reducible apply State.localMessage_keeps
    | with_reducible apply when_keeps
    | with_reducible apply State.creditBack_keeps
    | with_reducible apply State.localRequest_keeps
    | split

theorem State.hostWaiting_keeps {r s : State} (h_s : Keeps r s) :
    KeepsO r (State.hostWaiting s) := by
  unfold State.hostWaiting
  repeat' first
    | with_reducible assumption
    | (extract_lets +onlyGivenNames x; clear_value x)
    | with_reducible apply State.hostTake_keeps
    | split
    | with_reducible apply KeepsO.none
    | with_reducible apply KeepsO.some
    | with_reducible refine Keeps.upd ?_ rfl rfl rfl rfl rfl rfl rfl

theorem State.hostRequest_keeps {r s : State} {a1 a2 a3} (h_s : Keeps r s) :
    Keeps r (State.hostRequest s a1 a2 a3) := by
  unfold State.hostRequest
  repeat' first
    | with_reducible assumption
    | intro _
    | (extract_lets +onlyGivenNames x
       first
       | (refine Keeps.cut (r := r) (x := x) ?_ ?_ <;> first | (intro _; clear_value x) | (unfold x; clear x))
       | clear_value x)
    | with_reducible apply State.count_keeps
    | with_reducible apply State.portViolation_keeps
    | with_reducible apply State.emit_keeps
    | with_reducible apply when_keeps
    | with_reducible apply State.hostTake_keeps
    | split
    | with_reducible refine Keeps.upd ?_ rfl rfl rfl rfl rfl rfl rfl

theorem State.messageWhole_keeps {r s : State} {a1 a2 a3} (h_s : Keeps r s) :
    Keeps r (State.messageWhole s a1 a2 a3) := by
  unfold State.messageWhole
  repeat' first
    | with_reducible assumption
    | intro _
    | (extract_lets +onlyGivenNames x
       first
       | (refine Keeps.cut (r := r) (x := x) ?_ ?_ <;> first | (intro _; clear_value x) | (unfold x; clear x))
       | clear_value x)
    | with_reducible apply State.twillMessage_keeps
    | with_reducible apply forEach_keeps
    | with_reducible apply State.storeData_keeps
    | with_reducible apply State.putLink_keeps
    | split
    | with_reducible refine Keeps.upd ?_ rfl rfl rfl rfl rfl rfl rfl

theorem State.ioSubmit_keeps {r s : State} {a1 a2} (h_s : Keeps r s) :
    Keeps r (State.ioSubmit s a1 a2) := by
  unfold State.ioSubmit
  repeat' first
    | with_reducible assumption
    | (extract_lets +onlyGivenNames x; clear_value x)
    | with_reducible apply State.ioRefused_keeps
    | with_reducible apply State.decodeMiss_keeps
    | with_reducible apply State.submit_keeps
    | split

theorem State.twillWaiting_keeps {r s : State} (h_s : Keeps r s) :
    KeepsO r (State.twillWaiting s) := by
  unfold State.twillWaiting
  repeat' first
    | with_reducible assumption
    | intro _
    | (extract_lets +onlyGivenNames x
       first
       | (refine Keeps.cut (r := r) (x := x) ?_ ?_ <;> first | (intro _; clear_value x) | (unfold x; clear x))
       | (have _ := (x : _ → State); unfold x; clear x)
       | clear_value x)
    | with_reducible apply State.localDeliver_keeps
    | with_reducible apply State.transit_keeps
    | with_reducible apply State.creditless_keeps
    | split
    | with_reducible apply KeepsO.none
    | with_reducible apply KeepsO.some
    | with_reducible refine Keeps.upd ?_ rfl rfl rfl rfl rfl rfl rfl

theorem State.ioTlp_keeps {r s : State} {a1 a2} (h_s : Keeps r s) :
    Keeps r (State.ioTlp s a1 a2) := by
  unfold State.ioTlp
  repeat' first
    | with_reducible assumption
    | intro _
    | (extract_lets +onlyGivenNames x
       first
       | (refine Keeps.cut (r := r) (x := x) ?_ ?_ <;> first | (intro _; clear_value x) | (unfold x; clear x))
       | (have _ := (x : _ → State); unfold x; clear x)
       | (have _ := (x : _ → _ → State); unfold x; clear x)
       | clear_value x)
    | with_reducible apply State.count_keeps
    | with_reducible apply State.emit_keeps
    | with_reducible apply State.aerLog_keeps
    | with_reducible apply State.portViolation_keeps
    | with_reducible apply State.fatalError_keeps
    | with_reducible apply State.triggerDpc_keeps
    | with_reducible apply State.portDown_keeps
    | with_reducible apply State.answered_keeps
    | with_reducible apply State.cplData_keeps
    | with_reducible apply when_keeps
    | with_reducible apply State.bump_keeps
    | with_reducible apply State.ioSubmit_keeps
    | split
    | with_reducible refine Keeps.upd ?_ rfl rfl rfl rfl rfl rfl rfl

theorem State.headerEarly_keeps {r s : State} {a1 a2 a3} (h_s : Keeps r s) :
    Keeps r (State.headerEarly s a1 a2 a3) := by
  unfold State.headerEarly
  repeat' first
    | with_reducible assumption
    | (extract_lets +onlyGivenNames x
       first
       | (refine Keeps.cut (r := r) (x := x) ?_ ?_ <;> first | (intro _; clear_value x) | (unfold x; clear x))
       | clear_value x)
    | with_reducible apply State.twillMessage_keeps
    | with_reducible apply State.putLink_keeps
    | split
    | with_reducible refine Keeps.upd ?_ rfl rfl rfl rfl rfl rfl rfl

theorem State.ioWaiting_keeps {r s : State} (h_s : Keeps r s) :
    KeepsO r (State.ioWaiting s) := by
  unfold State.ioWaiting
  repeat' first
    | with_reducible assumption
    | (extract_lets +onlyGivenNames x; clear_value x)
    | with_reducible apply State.ioSubmit_keeps
    | split
    | with_reducible apply KeepsO.none
    | with_reducible apply KeepsO.some
    | with_reducible refine Keeps.upd ?_ rfl rfl rfl rfl rfl rfl rfl

theorem State.takeSlots_keeps {r s : State} {a1 a2 a3 a4 a5} (h_s : Keeps r s) :
    Keeps r (State.takeSlots s a1 a2 a3 a4 a5) := by
  unfold State.takeSlots
  repeat' first
    | with_reducible assumption
    | intro _
    | (extract_lets +onlyGivenNames x
       first
       | (refine Keeps.cut (r := r) (x := x) ?_ ?_ <;> first | (intro _; clear_value x) | (unfold x; clear x))
       | clear_value x)
    | with_reducible apply State.twillFraming_keeps
    | with_reducible apply State.putLink_keeps
    | with_reducible apply State.headerEarly_keeps
    | with_reducible apply forEach_keeps
    | with_reducible apply State.messageWhole_keeps
    | split

theorem State.dataFlitRx_keeps {r s : State} {a1 a2} (h_s : Keeps r s) :
    Keeps r (State.dataFlitRx s a1 a2) := by
  unfold State.dataFlitRx
  repeat' first
    | with_reducible assumption
    | (extract_lets +onlyGivenNames x
       first
       | (refine Keeps.cut (r := r) (x := x) ?_ ?_ <;> first | (intro _; clear_value x) | (unfold x; clear x))
       | clear_value x)
    | with_reducible apply State.flitCheck_keeps
    | with_reducible apply State.askReplay_keeps
    | with_reducible apply State.twillViolation_keeps
    | with_reducible apply State.count_keeps
    | with_reducible apply State.putLink_keeps
    | with_reducible apply State.sendAck_keeps
    | with_reducible apply State.takeSlots_keeps
    | split
    | (with_reducible refine Keeps.of_snd (by with_reducible assumption) ?_)

end Sys2Proof.Machine
end

