-- ==== Sys2Proof/Laws/KeepsEngine.lean ====
section
/-! SUPPORT. What every command keeps, for the operations of slot channels, engines and Drover: one lemma for each operation, which says that
it keeps what `Keeps` speaks of. -/

namespace Sys2Proof.Machine

set_option Elab.async false

theorem State.putThread_keeps {r s : State} {a1 a2} (h_s : Keeps r s) :
    Keeps r (State.putThread s a1 a2) := by
  unfold State.putThread
  repeat' first
    | with_reducible assumption
    | (extract_lets +onlyGivenNames x; (have _ : Drv := x; unfold x; clear x))
    | with_reducible refine Keeps.upd ?_ rfl rfl rfl rfl rfl rfl rfl

theorem State.perstLow_keeps {r s : State} {a1} (h_s : Keeps r s) :
    Keeps r (State.perstLow s a1) := by
  unfold State.perstLow
  repeat' first
    | with_reducible assumption
    | (extract_lets +onlyGivenNames x
       first
       | (refine Keeps.cut (r := r) (x := x) ?_ ?_ <;> first | (intro _; clear_value x) | (unfold x; clear x))
       | clear_value x)
    | with_reducible apply State.emit_keeps
    | split
    | with_reducible refine Keeps.upd ?_ rfl rfl rfl rfl rfl rfl rfl

theorem State.pwrfailEnd_keeps {r s : State} {a1 a2} (h_s : Keeps r s) :
    Keeps r (State.pwrfailEnd s a1 a2) := by
  unfold State.pwrfailEnd
  repeat' first
    | with_reducible assumption
    | with_reducible apply State.emit_keeps
    | with_reducible apply State.wrBit_keeps
    | with_reducible apply State.wr_keeps
    | split

theorem State.hostSend_keeps {r s : State} {a1 a2} (h_s : Keeps r s) :
    Keeps r (State.hostSend s a1 a2) := by
  unfold State.hostSend
  repeat' first
    | with_reducible assumption
    | (extract_lets +onlyGivenNames x; clear_value x)
    | with_reducible apply State.emit_keeps
    | split
    | with_reducible refine Keeps.upd ?_ rfl rfl rfl rfl rfl rfl rfl

theorem State.putChan_keeps {r s : State} {a1 a2} (h_s : Keeps r s) :
    Keeps r (State.putChan s a1 a2) := by
  unfold State.putChan
  repeat' first
    | with_reducible assumption
    | (extract_lets +onlyGivenNames x; clear_value x)
    | with_reducible refine Keeps.upd ?_ rfl rfl rfl rfl rfl rfl rfl

theorem State.zeroRetry_keeps {r s : State} {a1} (h_s : Keeps r s) :
    Keeps r (State.zeroRetry s a1).2 := by
  unfold State.zeroRetry
  repeat' first
    | with_reducible assumption
    | (extract_lets +onlyGivenNames x; (have _ : Drv := x; unfold x; clear x))
    | split
    | dsimp -zeta only
    | with_reducible refine Keeps.upd ?_ rfl rfl rfl rfl rfl rfl rfl

theorem State.onThread_keeps {r s : State} {a1 a2} (h_s : Keeps r s) :
    Keeps r (State.onThread s a1 a2) := by
  unfold State.onThread
  repeat' first
    | with_reducible assumption
    | with_reducible apply State.putThread_keeps

theorem State.perstFree_keeps {r s : State} {a1} (h_s : Keeps r s) :
    Keeps r (State.perstFree s a1) := by
  unfold State.perstFree
  repeat' first
    | with_reducible assumption
    | (extract_lets +onlyGivenNames x; clear_value x)
    | with_reducible refine Keeps.upd ?_ rfl rfl rfl rfl rfl rfl rfl

theorem State.hotpageFold_keeps {r s : State} {a1} (h_s : Keeps r s) :
    Keeps r (State.hotpageFold s a1).2 := by
  unfold State.hotpageFold
  repeat' first
    | with_reducible assumption
    | (extract_lets +onlyGivenNames x
       first
       | (refine Keeps.cut (r := r) (x := x) ?_ ?_ <;> first | (intro _; clear_value x) | (unfold x; clear x))
       | (have _ : Drv := x; unfold x; clear x))
    | with_reducible apply State.wr_keeps
    | split
    | with_reducible refine Keeps.upd ?_ rfl rfl rfl rfl rfl rfl rfl

theorem State.segWrite_keeps {r s : State} {a1 a2} (h_s : Keeps r s) :
    Keeps r (State.segWrite s a1 a2) := by
  unfold State.segWrite
  split
  · exact Keeps.tables h_s fun i => { i with scratch := cellsPut_wf _ _ _ i.scratch }
  · exact h_s
  · exact Keeps.tables h_s fun i => { i with segs := cellsPut_wf _ _ _ i.segs }

theorem State.powerControl_keeps {r s : State} {a1 a2} (h_s : Keeps r s) :
    Keeps r (State.powerControl s a1 a2) := by
  unfold State.powerControl
  repeat' first
    | with_reducible assumption
    | (extract_lets +onlyGivenNames x; clear_value x)
    | split
    | with_reducible refine Keeps.upd ?_ rfl rfl rfl rfl rfl rfl rfl

theorem State.perstSync_keeps {r s : State} (h_s : Keeps r s) :
    Keeps r (State.perstSync s) := by
  unfold State.perstSync
  repeat' first
    | with_reducible assumption
    | intro _
    | (extract_lets +onlyGivenNames x
       first
       | (refine Keeps.cut (r := r) (x := x) ?_ ?_ <;> first | (intro _; clear_value x) | (unfold x; clear x))
       | clear_value x)
    | with_reducible apply forEach_keeps
    | with_reducible apply State.perstLow_keeps
    | split
    | with_reducible refine Keeps.upd ?_ rfl rfl rfl rfl rfl rfl rfl

theorem State.report_keeps {r s : State} {a1 a2 a3} (h_s : Keeps r s) :
    Keeps r (State.report s a1 a2 a3) := by
  unfold State.report
  repeat' first
    | with_reducible assumption
    | (extract_lets +onlyGivenNames x; (have _ : Drv := x; unfold x; clear x))
    | with_reducible apply State.onThread_keeps
    | split
    | with_reducible refine Keeps.upd ?_ rfl rfl rfl rfl rfl rfl rfl

theorem State.hotpagePublish_keeps {r s : State} (h_s : Keeps r s) :
    Keeps r (State.hotpagePublish s) := by
  unfold State.hotpagePublish
  repeat' first
    | with_reducible assumption
    | (extract_lets +onlyGivenNames x
       first
       | (have _ : Drv := x; unfold x; clear x)
       | clear_value x)
    | with_reducible apply State.wro_keeps
    | split
    | with_reducible refine Keeps.upd ?_ rfl rfl rfl rfl rfl rfl rfl

theorem State.loadChunk_keeps {r s : State} {a1} (h_s : Keeps r s) :
    Keeps r (State.loadChunk s a1).2 := by
  unfold State.loadChunk
  repeat' first
    | with_reducible assumption
    | (extract_lets +onlyGivenNames x; (have _ : Drv := x; unfold x; clear x))
    | with_reducible apply State.wr_keeps
    | split
    | with_reducible refine Keeps.upd ?_ rfl rfl rfl rfl rfl rfl rfl

theorem State.slotPgOff_keeps {r s : State} {a1} (h_s : Keeps r s) :
    Keeps r (State.slotPgOff s a1) := by
  unfold State.slotPgOff
  repeat' first
    | with_reducible assumption
    | with_reducible apply State.emit_keeps
    | with_reducible apply State.wrBit_keeps
    | split

theorem State.account_keeps {r s : State} {a1} (h_s : Keeps r s) :
    Keeps r (State.account s a1) := by
  unfold State.account
  repeat' first
    | with_reducible assumption
    | (extract_lets +onlyGivenNames x
       first
       | (refine Keeps.cut (r := r) (x := x) ?_ ?_ <;> first | (intro _; clear_value x) | (unfold x; clear x))
       | (have _ : Drv := x; unfold x; clear x)
       | clear_value x)
    | with_reducible apply State.onThread_keeps
    | with_reducible apply State.add_keeps
    | split
    | with_reducible refine Keeps.upd ?_ rfl rfl rfl rfl rfl rfl rfl

theorem State.setSlotCode_keeps {r s : State} {a1 a2} (h_s : Keeps r s) :
    Keeps r (State.setSlotCode s a1 a2) := by
  unfold State.setSlotCode
  repeat' first
    | with_reducible assumption
    | with_reducible apply State.wrBits_keeps

theorem State.perstDeassert_keeps {r s : State} {a1} (h_s : Keeps r s) :
    Keeps r (State.perstDeassert s a1) := by
  unfold State.perstDeassert
  repeat' first
    | with_reducible assumption
    | (extract_lets +onlyGivenNames x
       first
       | (refine Keeps.cut (r := r) (x := x) ?_ ?_ <;> first | (intro _; clear_value x) | (unfold x; clear x))
       | clear_value x)
    | with_reducible apply State.perstFree_keeps
    | with_reducible apply State.emit_keeps
    | split
    | with_reducible refine Keeps.upd ?_ rfl rfl rfl rfl rfl rfl rfl

theorem State.engineTick_keeps {r s : State} (h_s : Keeps r s) :
    Keeps r (State.engineTick s) := by
  unfold State.engineTick
  repeat' first
    | with_reducible assumption
    | intro _
    | (extract_lets +onlyGivenNames x
       first
       | (refine Keeps.cut (r := r) (x := x) ?_ ?_ <;> first | (intro _; clear_value x) | (unfold x; clear x))
       | (have _ : Drv := x; unfold x; clear x)
       | clear_value x)
    | with_reducible apply forEach_keeps
    | with_reducible apply State.account_keeps
    | with_reducible apply State.putMeter_keeps
    | split
    | with_reducible refine Keeps.upd ?_ rfl rfl rfl rfl rfl rfl rfl

theorem State.timerStop_keeps {r s : State} {a1} (h_s : Keeps r s) :
    Keeps r (State.timerStop s a1) := by
  unfold State.timerStop
  repeat' first
    | with_reducible assumption
    | (extract_lets +onlyGivenNames x; clear_value x)
    | with_reducible apply State.putChan_keeps
    | with_reducible apply State.wrBits_keeps
    | split

theorem State.pmeDone_keeps {r s : State} {a1} (h_s : Keeps r s) :
    Keeps r (State.pmeDone s a1) := by
  unfold State.pmeDone
  repeat' first
    | with_reducible assumption
    | (extract_lets +onlyGivenNames x
       first
       | (refine Keeps.cut (r := r) (x := x) ?_ ?_ <;> first | (intro _; clear_value x) | (unfold x; clear x))
       | clear_value x)
    | with_reducible apply State.perstLow_keeps
    | with_reducible apply State.putPort_keeps
    | with_reducible apply State.putChan_keeps
    | split

theorem State.pmeTimeout_keeps {r s : State} {a1} (h_s : Keeps r s) :
    Keeps r (State.pmeTimeout s a1) := by
  unfold State.pmeTimeout
  repeat' first
    | with_reducible assumption
    | with_reducible apply State.pmeDone_keeps
    | split

theorem State.perstRole_keeps {r s : State} {a1 a2} (h_s : Keeps r s) :
    Keeps r (State.perstRole s a1 a2) := by
  unfold State.perstRole
  repeat' first
    | with_reducible assumption
    | intro _
    | with_reducible apply State.perstFree_keeps
    | with_reducible apply when_keeps
    | with_reducible apply State.perstLow_keeps
    | split

theorem State.pmeToAck_keeps {r s : State} {a1} (h_s : Keeps r s) :
    Keeps r (State.pmeToAck s a1) := by
  unfold State.pmeToAck
  repeat' first
    | with_reducible assumption
    | intro _
    | with_reducible apply when_keeps
    | with_reducible apply State.setLtssm_keeps
    | with_reducible apply State.pmeDone_keeps
    | split

theorem State.currentLimit_keeps {r s : State} {a1 a2} (h_s : Keeps r s) :
    Keeps r (State.currentLimit s a1 a2) := by
  unfold State.currentLimit
  repeat' first
    | with_reducible assumption
    | (extract_lets +onlyGivenNames x; clear_value x)
    | with_reducible apply State.putChan_keeps
    | with_reducible apply State.wrBits_keeps
    | with_reducible apply State.wr_keeps
    | split

theorem State.busySync_keeps {r s : State} {a1} (h_s : Keeps r s) :
    Keeps r (State.busySync s a1) := by
  unfold State.busySync
  repeat' first
    | with_reducible assumption
    | (extract_lets +onlyGivenNames x; clear_value x)
    | with_reducible apply State.wrBits_keeps
    | split

theorem State.pgRelease_keeps {r s : State} {a1 a2} (h_s : Keeps r s) :
    Keeps r (State.pgRelease s a1 a2) := by
  unfold State.pgRelease
  repeat' first
    | with_reducible assumption
    | with_reducible apply State.slotPgOff_keeps
    | with_reducible apply State.wr_keeps
    | split

theorem State.slotGrant_keeps {r s : State} {a1} (h_s : Keeps r s) :
    Keeps r (State.slotGrant s a1) := by
  unfold State.slotGrant
  repeat' first
    | with_reducible assumption
    | (extract_lets +onlyGivenNames x
       first
       | (refine Keeps.cut (r := r) (x := x) ?_ ?_ <;> first | (intro _; clear_value x) | (unfold x; clear x))
       | clear_value x)
    | with_reducible apply State.wrBit_keeps
    | with_reducible apply State.setSlotCode_keeps
    | with_reducible apply State.emit_keeps
    | with_reducible apply State.putChan_keeps
    | split
    | with_reducible refine Keeps.upd ?_ rfl rfl rfl rfl rfl rfl rfl

theorem State.slotOn_keeps {r s : State} {a1 a2 a3} (h_s : Keeps r s) :
    Keeps r (State.slotOn s a1 a2 a3) := by
  unfold State.slotOn
  repeat' first
    | with_reducible assumption
    | with_reducible apply State.wr_keeps
    | with_reducible apply State.setSlotCode_keeps
    | split

theorem State.wake_keeps {r s : State} {a1 a2} (h_s : Keeps r s) :
    Keeps r (State.wake s a1 a2) := by
  unfold State.wake
  repeat' first
    | with_reducible assumption
    | with_reducible apply State.onThread_keeps
    | with_reducible apply State.account_keeps

theorem State.sleep_keeps {r s : State} {a1 a2} (h_s : Keeps r s) :
    Keeps r (State.sleep s a1 a2) := by
  unfold State.sleep
  repeat' first
    | with_reducible assumption
    | with_reducible apply State.onThread_keeps
    | with_reducible apply State.account_keeps

theorem State.leaveGrant_keeps {r s : State} {a1} (h_s : Keeps r s) :
    Keeps r (State.leaveGrant s a1) := by
  unfold State.leaveGrant
  repeat' first
    | with_reducible assumption
    | (extract_lets +onlyGivenNames x; clear_value x)
    | with_reducible apply State.wake_keeps
    | split
    | with_reducible refine Keeps.upd ?_ rfl rfl rfl rfl rfl rfl rfl

theorem State.waitWake_keeps {r s : State} {a1} (h_s : Keeps r s) :
    Keeps r (State.waitWake s a1) := by
  unfold State.waitWake
  repeat' first
    | with_reducible assumption
    | (extract_lets +onlyGivenNames x; clear_value x)
    | with_reducible apply State.wake_keeps
    | split

theorem State.serviceAwait_keeps {r s : State} {a1} (h_s : Keeps r s) :
    Keeps r (State.serviceAwait s a1) := by
  unfold State.serviceAwait
  repeat' first
    | with_reducible assumption
    | with_reducible apply State.sleep_keeps
    | split

theorem State.atsSend_keeps {r s : State} {a1 a2} (h_s : Keeps r s) :
    Keeps r (State.atsSend s a1 a2) := by
  unfold State.atsSend
  repeat' first
    | with_reducible assumption
    | (extract_lets +onlyGivenNames x; clear_value x)
    | with_reducible apply State.hostSend_keeps
    | with_reducible apply State.newTracker_keeps

theorem State.atsAsk_keeps {r s : State} {a1} (h_s : Keeps r s) :
    Keeps r (State.atsAsk s a1) := by
  unfold State.atsAsk
  repeat' first
    | with_reducible assumption
    | (extract_lets +onlyGivenNames x
       first
       | (refine Keeps.cut (r := r) (x := x) ?_ ?_ <;> first | (intro _; clear_value x) | (unfold x; clear x))
       | clear_value x)
    | with_reducible apply State.atsSend_keeps
    | split
    | with_reducible refine Keeps.upd ?_ rfl rfl rfl rfl rfl rfl rfl

theorem State.dropLeave_keeps {r s : State} {a1} (h_s : Keeps r s) :
    Keeps r (State.dropLeave s a1) := by
  unfold State.dropLeave
  repeat' first
    | with_reducible assumption
    | (extract_lets +onlyGivenNames x
       first
       | (refine Keeps.cut (r := r) (x := x) ?_ ?_ <;> first | (intro _; clear_value x) | (unfold x; clear x))
       | clear_value x)
    | with_reducible apply State.setGrant_keeps
    | with_reducible apply State.onThread_keeps
    | with_reducible apply State.govSync_keeps
    | split
    | with_reducible refine Keeps.upd ?_ rfl rfl rfl rfl rfl rfl rfl

theorem State.slotIrq_keeps {r s : State} {a1} (h_s : Keeps r s) :
    Keeps r (State.slotIrq s a1) := by
  unfold State.slotIrq
  repeat' first
    | with_reducible assumption
    | with_reducible apply State.cicRaise_keeps

theorem State.endThread_keeps {r s : State} {a1 a2 a3} (h_s : Keeps r s) :
    Keeps r (State.endThread s a1 a2 a3) := by
  unfold State.endThread
  repeat' first
    | with_reducible assumption
    | (extract_lets +onlyGivenNames x
       first
       | (refine Keeps.cut (r := r) (x := x) ?_ ?_ <;> first | (intro _; clear_value x) | (unfold x; clear x))
       | (have _ : Drv := x; unfold x; clear x)
       | clear_value x)
    | with_reducible apply State.busySync_keeps
    | with_reducible apply State.putThread_keeps
    | with_reducible apply State.report_keeps
    | with_reducible apply State.account_keeps
    | with_reducible apply State.dropLeave_keeps
    | with_reducible refine Keeps.upd ?_ rfl rfl rfl rfl rfl rfl rfl

theorem State.pwrfail_keeps {r s : State} {a1 a2} (h_s : Keeps r s) :
    Keeps r (State.pwrfail s a1 a2) := by
  unfold State.pwrfail
  repeat' first
    | with_reducible assumption
    | with_reducible apply State.slotIrq_keeps
    | with_reducible apply State.emit_keeps
    | with_reducible apply State.wrBit_keeps
    | with_reducible apply State.wr_keeps
    | split

theorem State.thermistorOut_keeps {r s : State} {a1 a2} (h_s : Keeps r s) :
    Keeps r (State.thermistorOut s a1 a2) := by
  unfold State.thermistorOut
  repeat' first
    | with_reducible assumption
    | with_reducible apply State.slotIrq_keeps
    | with_reducible apply State.wr_keeps
    | split

theorem State.threadCheck_keeps {r s : State} {a1} (h_s : Keeps r s) :
    Keeps r (State.threadCheck s a1) := by
  unfold State.threadCheck
  repeat' first
    | with_reducible assumption
    | (extract_lets +onlyGivenNames x; clear_value x)
    | with_reducible apply State.endThread_keeps
    | split

theorem State.slotRelease_keeps {r s : State} {a1} (h_s : Keeps r s) :
    Keeps r (State.slotRelease s a1) := by
  unfold State.slotRelease
  repeat' first
    | with_reducible assumption
    | with_reducible apply State.wrBit_keeps
    | with_reducible apply State.govRelease_keeps
    | split

theorem State.slotGate_keeps {r s : State} {a1} (h_s : Keeps r s) :
    Keeps r (State.slotGate s a1) := by
  unfold State.slotGate
  repeat' first
    | with_reducible assumption
    | (extract_lets +onlyGivenNames x
       first
       | (refine Keeps.cut (r := r) (x := x) ?_ ?_ <;> first | (intro _; clear_value x) | (unfold x; clear x))
       | clear_value x)
    | with_reducible apply State.slotRelease_keeps
    | with_reducible apply State.wrBits_keeps
    | with_reducible apply State.slotPgOff_keeps
    | with_reducible apply State.emit_keeps
    | with_reducible apply State.putChan_keeps

theorem State.slotsOff_keeps {r s : State} (h_s : Keeps r s) :
    Keeps r (State.slotsOff s) := by
  unfold State.slotsOff
  repeat' first
    | with_reducible assumption
    | intro _
    | (extract_lets +onlyGivenNames x; clear_value x)
    | with_reducible apply forEach_keeps
    | with_reducible apply State.setSlotCode_keeps
    | with_reducible apply State.slotGate_keeps
    | split

theorem State.serviceEnd_keeps {r s : State} {a1 a2 a3} (h_s : Keeps r s) :
    Keeps r (State.serviceEnd s a1 a2 a3) := by
  unfold State.serviceEnd
  repeat' first
    | with_reducible assumption
    | with_reducible apply State.threadCheck_keeps
    | with_reducible apply State.sleep_keeps
    | with_reducible apply State.onThread_keeps

theorem State.slotApply_keeps {r s : State} {a1} (h_s : Keeps r s) :
    Keeps r (State.slotApply s a1) := by
  unfold State.slotApply
  repeat' first
    | with_reducible assumption
    | (extract_lets +onlyGivenNames x
       first
       | (refine Keeps.cut (r := r) (x := x) ?_ ?_ <;> first | (intro _; clear_value x) | (unfold x; clear x))
       | clear_value x)
    | with_reducible apply State.wr_keeps
    | with_reducible apply State.setSlotCode_keeps
    | with_reducible apply State.putChan_keeps
    | with_reducible apply State.slotRelease_keeps
    | with_reducible apply State.emit_keeps
    | with_reducible apply State.putPort_keeps
    | with_reducible apply State.perstLow_keeps
    | split

theorem State.pgAssert_keeps {r s : State} {a1} (h_s : Keeps r s) :
    Keeps r (State.pgAssert s a1) := by
  unfold State.pgAssert
  repeat' first
    | with_reducible assumption
    | (extract_lets +onlyGivenNames x; clear_value x)
    | with_reducible apply State.slotRelease_keeps
    | with_reducible apply State.emit_keeps
    | with_reducible apply State.wrBit_keeps
    | split

theorem State.slotGateOff_keeps {r s : State} {a1} (h_s : Keeps r s) :
    Keeps r (State.slotGateOff s a1) := by
  unfold State.slotGateOff
  repeat' first
    | with_reducible assumption
    | with_reducible apply State.setSlotCode_keeps
    | with_reducible apply State.slotGate_keeps
    | split

theorem State.slotAsk_keeps {r s : State} {a1} (h_s : Keeps r s) :
    Keeps r (State.slotAsk s a1) := by
  unfold State.slotAsk
  repeat' first
    | with_reducible assumption
    | (extract_lets +onlyGivenNames x; clear_value x)
    | with_reducible apply State.govRequest_keeps
    | with_reducible apply State.putChan_keeps
    | split

theorem State.clusterFault_keeps {r s : State} {a1} (h_s : Keeps r s) :
    Keeps r (State.clusterFault s a1) := by
  unfold State.clusterFault
  repeat' first
    | with_reducible assumption
    | with_reducible apply State.raise_keeps
    | split

theorem State.loadVerified_keeps {r s : State} (h_s : Keeps r s) :
    Keeps r (State.loadVerified s) := by
  unfold State.loadVerified
  repeat' first
    | with_reducible assumption
    | (extract_lets +onlyGivenNames x
       first
       | (refine Keeps.cut (r := r) (x := x) ?_ ?_ <;> first | (intro _; clear_value x) | (unfold x; clear x))
       | (have _ : Drv := x; unfold x; clear x)
       | clear_value x)
    | with_reducible apply State.cmnWrite_keeps
    | with_reducible apply State.wr_keeps
    | with_reducible apply State.wro_keeps
    | with_reducible apply State.raise_keeps
    | split
    | with_reducible refine Keeps.upd ?_ rfl rfl rfl rfl rfl rfl rfl

theorem State.sramEcc_keeps {r s : State} {a1 a2 a3} (h_s : Keeps r s) :
    Keeps r (State.sramEcc s a1 a2 a3) := by
  unfold State.sramEcc
  repeat' first
    | with_reducible assumption
    | (extract_lets +onlyGivenNames x
       first
       | (refine Keeps.cut (r := r) (x := x) ?_ ?_ <;> first | (intro _; clear_value x) | (unfold x; clear x))
       | (have _ : Drv := x; unfold x; clear x)
       | clear_value x)
    | with_reducible apply State.raise_keeps
    | with_reducible apply State.raiseGrave_keeps
    | split
    | with_reducible refine Keeps.upd ?_ rfl rfl rfl rfl rfl rfl rfl

theorem State.zeroFail_keeps {r s : State} {a1} (h_s : Keeps r s) :
    Keeps r (State.zeroFail s a1) := by
  unfold State.zeroFail
  repeat' first
    | with_reducible assumption
    | (extract_lets +onlyGivenNames x; (have _ : Drv := x; unfold x; clear x))
    | with_reducible apply State.raise_keeps
    | with_reducible refine Keeps.upd ?_ rfl rfl rfl rfl rfl rfl rfl

theorem State.stopThread_keeps {r s : State} {a1 a2 a3} (h_s : Keeps r s) :
    Keeps r (State.stopThread s a1 a2 a3) := by
  unfold State.stopThread
  repeat' first
    | with_reducible assumption
    | intro _
    | (extract_lets +onlyGivenNames x
       first
       | (refine Keeps.cut (r := r) (x := x) ?_ ?_ <;> first | (intro _; clear_value x) | (unfold x; clear x))
       | clear_value x)
    | with_reducible apply State.onThread_keeps
    | with_reducible apply State.report_keeps
    | with_reducible apply State.account_keeps
    | with_reducible apply State.dropLeave_keeps
    | with_reducible apply State.threadCheck_keeps
    | with_reducible apply when_keeps
    | with_reducible apply State.zeroFail_keeps
    | split
    | with_reducible refine Keeps.upd ?_ rfl rfl rfl rfl rfl rfl rfl

theorem State.exception_keeps {r s : State} {a1 a2} (h_s : Keeps r s) :
    Keeps r (State.exception s a1 a2) := by
  unfold State.exception
  repeat' first
    | with_reducible assumption
    | (extract_lets +onlyGivenNames x
       first
       | (refine Keeps.cut (r := r) (x := x) ?_ ?_ <;> first | (intro _; clear_value x) | (unfold x; clear x))
       | clear_value x)
    | with_reducible apply State.onThread_keeps
    | with_reducible apply State.cicRaise_keeps
    | with_reducible apply State.raise_keeps
    | with_reducible apply State.count_keeps
    | with_reducible apply State.bump_keeps
    | with_reducible apply State.stopThread_keeps
    | split

theorem State.timeLimitHit_keeps {r s : State} {a1} (h_s : Keeps r s) :
    Keeps r (State.timeLimitHit s a1) := by
  unfold State.timeLimitHit
  repeat' first
    | with_reducible assumption
    | (extract_lets +onlyGivenNames x; clear_value x)
    | with_reducible apply State.exception_keeps
    | split

theorem State.stopWhere_keeps {r s : State} {a1 a2} (h_s : Keeps r s) :
    Keeps r (State.stopWhere s a1 a2) := by
  unfold State.stopWhere
  repeat' first
    | with_reducible assumption
    | intro _
    | with_reducible apply forEach_keeps
    | with_reducible apply State.stopThread_keeps

theorem State.fenceEngine_keeps {r s : State} {a1} (h_s : Keeps r s) :
    Keeps r (State.fenceEngine s a1) := by
  unfold State.fenceEngine
  repeat' first
    | with_reducible assumption
    | (extract_lets +onlyGivenNames x
       first
       | (refine Keeps.cut (r := r) (x := x) ?_ ?_ <;> first | (intro _; clear_value x) | (unfold x; clear x))
       | clear_value x)
    | with_reducible apply State.wrBit_keeps
    | with_reducible apply State.wro_keeps
    | with_reducible apply State.stopWhere_keeps

theorem State.loadCtrl_keeps {r s : State} {a1 a2} (h_s : Keeps r s) :
    Keeps r (State.loadCtrl s a1 a2).2 := by
  unfold State.loadCtrl
  repeat' first
    | with_reducible assumption
    | (extract_lets +onlyGivenNames x
       first
       | (refine Keeps.cut (r := r) (x := x) ?_ ?_ <;> first | (intro _; clear_value x) | (unfold x; clear x))
       | (have _ : Drv := x; unfold x; clear x)
       | clear_value x)
    | with_reducible apply State.wr_keeps
    | with_reducible apply State.stopWhere_keeps
    | split
    | with_reducible refine Keeps.upd ?_ rfl rfl rfl rfl rfl rfl rfl

theorem State.isolateCluster_keeps {r s : State} {a1} (h_s : Keeps r s) :
    Keeps r (State.isolateCluster s a1) := by
  unfold State.isolateCluster
  repeat' first
    | with_reducible assumption
    | with_reducible apply State.stopWhere_keeps
    | with_reducible apply State.cicRaise_keeps
    | with_reducible apply State.cicFence_keeps
    | with_reducible apply State.wrBit_keeps

theorem State.engineFault_keeps {r s : State} {a1} (h_s : Keeps r s) :
    Keeps r (State.engineFault s a1) := by
  unfold State.engineFault
  repeat' first
    | with_reducible assumption
    | with_reducible apply State.raise_keeps
    | with_reducible apply State.fenceEngine_keeps
    | split

theorem State.instr_keeps {r s : State} {a1 f} (h_s : Keeps r s) (h_f : ∀ x0 x1 x2, Keeps r x2 → Keeps r (f x0 x1 x2)) :
    Keeps r (State.instr s a1 f) := by
  unfold State.instr
  repeat' first
    | with_reducible assumption
    | (extract_lets +onlyGivenNames x
       first
       | (refine Keeps.cut (r := r) (x := x) ?_ ?_ <;> first | (intro _; clear_value x) | (unfold x; clear x))
       | clear_value x)
    | with_reducible apply State.exception_keeps
    | with_reducible apply State.count_keeps
    | with_reducible apply State.putThread_keeps
    | with_reducible apply h_f
    | split

theorem State.ffence_keeps {r s : State} {a1 a2} (h_s : Keeps r s) :
    Keeps r (State.ffence s a1 a2) := by
  unfold State.ffence
  repeat' first
    | with_reducible assumption
    | intro _
    | with_reducible apply State.instr_keeps
    | with_reducible apply State.putThread_keeps
    | with_reducible apply State.sleep_keeps
    | split

theorem State.fenceWrite_keeps {r s : State} {a1 a2} (h_s : Keeps r s) :
    Keeps r (State.fenceWrite s a1 a2).2 := by
  unfold State.fenceWrite
  repeat' first
    | with_reducible assumption
    | with_reducible apply State.fenceEngine_keeps
    | split

theorem State.residencyApplied_keeps {r s : State} (h_s : Keeps r s) : Keeps r (State.residencyApplied s) := by
  unfold State.residencyApplied
  extract_lets s1 d s2 s3
  have h1 : Keeps r s1 := State.stopWhere_keeps h_s
  clear_value s1
  have h2 : Keeps r s2 := Keeps.tables h1 fun i => { i with segs := Sparse.wf_filter _ _ _ i.segs }
  have h3 : Keeps r s3 := forEach_keeps (fun _ _ h => Keeps.ite h (State.wr_keeps h)) h2
  exact forEach_keeps (fun _ _ h => State.wr_keeps h) h3

theorem State.aluIf_keeps {r s : State} {a1 a2 a3 a4} (h_s : Keeps r s) :
    Keeps r (State.aluIf s a1 a2 a3 a4) := by
  unfold State.aluIf
  repeat' first
    | with_reducible assumption
    | intro _
    | with_reducible apply State.instr_keeps
    | with_reducible apply State.putThread_keeps
    | with_reducible apply State.exception_keeps
    | split

theorem State.startThread_keeps {r s : State} {a1 a2 a3 a4 a5 a6 a7} (h_s : Keeps r s) :
    Keeps r (State.startThread s a1 a2 a3 a4 a5 a6 a7) := by
  unfold State.startThread
  extract_lets clear sc t c d s1 s2
  have h1 : Keeps r s1 := by
    refine Keeps.tables h_s fun i => ⟨i.nums, i.octs, i.vers, i.cells, cellsPut_wf _ _ _ ?_, i.segs, i.sessions⟩
    show Sparse.wf memDefault (if clear then s.drv.scratch.filter (fun e => e.1 / 16384 != a1) else s.drv.scratch) = true
    split
    · exact Sparse.wf_filter _ _ _ i.scratch
    · exact i.scratch
  have h2 : Keeps r s2 := State.bump_keeps (State.busySync_keeps (State.putThread_keeps h1))
  exact Keeps.ite (State.stopThread_keeps h2) h2

theorem State.unloadDone_keeps {r s : State} {a1} (h_s : Keeps r s) :
    Keeps r (State.unloadDone s a1) := by
  unfold State.unloadDone
  repeat' first
    | with_reducible assumption
    | (extract_lets +onlyGivenNames x
       first
       | (refine Keeps.cut (r := r) (x := x) ?_ ?_ <;> first | (intro _; clear_value x) | (unfold x; clear x))
       | (have _ : Drv := x; unfold x; clear x))
    | with_reducible apply State.residencyApplied_keeps
    | with_reducible apply State.wro_keeps
    | with_reducible apply State.wr_keeps
    | split
    | with_reducible refine Keeps.upd ?_ rfl rfl rfl rfl rfl rfl rfl

theorem State.fenceCluster_keeps {r s : State} {a1} (h_s : Keeps r s) :
    Keeps r (State.fenceCluster s a1) := by
  unfold State.fenceCluster
  repeat' first
    | with_reducible assumption
    | intro _
    | (extract_lets +onlyGivenNames x; (refine Keeps.cut (r := r) (x := x) ?_ ?_ <;> first | (intro _; clear_value x) | (unfold x; clear x)))
    | with_reducible apply State.cicRaise_keeps
    | with_reducible apply State.cicFence_keeps
    | with_reducible apply State.wrBits_keeps
    | with_reducible apply State.wrBit_keeps
    | with_reducible apply State.stopWhere_keeps
    | with_reducible apply forEach_keeps
    | with_reducible apply State.wro_keeps

theorem State.alu_keeps {r s : State} {a1 a2 a3} (h_s : Keeps r s) :
    Keeps r (State.alu s a1 a2 a3) := by
  unfold State.alu
  repeat' first
    | with_reducible assumption
    | intro _
    | with_reducible apply State.instr_keeps
    | with_reducible apply State.putThread_keeps

theorem State.halt_keeps {r s : State} {a1} (h_s : Keeps r s) :
    Keeps r (State.halt s a1) := by
  unfold State.halt
  repeat' first
    | with_reducible assumption
    | intro _
    | with_reducible apply State.instr_keeps
    | with_reducible apply State.threadCheck_keeps
    | with_reducible apply State.sleep_keeps

theorem State.wait_keeps {r s : State} {a1 a2 a3 a4} (h_s : Keeps r s) :
    Keeps r (State.wait s a1 a2 a3 a4) := by
  unfold State.wait
  repeat' first
    | with_reducible assumption
    | intro _
    | (extract_lets +onlyGivenNames x
       first
       | (refine Keeps.cut (r := r) (x := x) ?_ ?_ <;> first | (intro _; clear_value x) | (unfold x; clear x))
       | clear_value x)
    | with_reducible apply State.instr_keeps
    | with_reducible apply State.putThread_keeps
    | with_reducible apply State.exception_keeps
    | with_reducible apply State.sleep_keeps
    | with_reducible apply State.enterMode_keeps
    | split

theorem State.branch_keeps {r s : State} {a1 a2 a3} (h_s : Keeps r s) :
    Keeps r (State.branch s a1 a2 a3) := by
  unfold State.branch
  repeat' first
    | with_reducible assumption
    | intro _
    | with_reducible apply State.instr_keeps
    | with_reducible apply State.putThread_keeps

theorem State.store_keeps {r s : State} {a1 a2 a3 a4 a5} (h_s : Keeps r s) : Keeps r (State.store s a1 a2 a3 a4 a5) := by
  unfold State.store
  refine State.instr_keeps h_s (fun u t s h => ?_)
  extract_lets a
  refine Keeps.ite (State.exception_keeps h) ?_
  split
  · exact State.putThread_keeps (KeepsO.getD (State.cicWrite_keeps h) h)
  · exact State.exception_keeps h
  · exact Keeps.ite (State.exception_keeps h) (State.putThread_keeps (State.segWrite_keeps h))

theorem State.fwaith_keeps {r s : State} {a1 a2} (h_s : Keeps r s) :
    Keeps r (State.fwaith s a1 a2) := by
  unfold State.fwaith
  repeat' first
    | with_reducible assumption
    | intro _
    | (extract_lets +onlyGivenNames x; clear_value x)
    | with_reducible apply State.instr_keeps
    | with_reducible apply State.exception_keeps
    | with_reducible apply State.putThread_keeps
    | with_reducible apply State.sleep_keeps
    | split

theorem State.load_keeps {r s : State} {a1 a2 a3 a4 a5 a6} (h_s : Keeps r s) : Keeps r (State.load s a1 a2 a3 a4 a5 a6) := by
  unfold State.load
  refine State.instr_keeps h_s (fun u t s h => ?_)
  extract_lets a word
  refine Keeps.ite (State.exception_keeps h) ?_
  split
  · extract_lets x
    exact State.putThread_keeps (KeepsP.getD (State.cicRead_keeps h) h)
  · exact State.exception_keeps h
  · exact Keeps.ite (State.exception_keeps h) (State.putThread_keeps h)

theorem State.latom_keeps {r s : State} {a1 a2 a3 a4 a5 a6} (h_s : Keeps r s) :
    Keeps r (State.latom s a1 a2 a3 a4 a5 a6) := by
  unfold State.latom
  repeat' first
    | with_reducible assumption
    | intro _
    | (extract_lets +onlyGivenNames x; clear_value x)
    | with_reducible apply State.instr_keeps
    | with_reducible apply State.exception_keeps
    | with_reducible apply State.putThread_keeps
    | with_reducible apply State.segWrite_keeps
    | split

theorem State.jalr_keeps {r s : State} {a1 a2 a3 a4} (h_s : Keeps r s) :
    Keeps r (State.jalr s a1 a2 a3 a4) := by
  unfold State.jalr
  repeat' first
    | with_reducible assumption
    | intro _
    | (extract_lets +onlyGivenNames x; clear_value x)
    | with_reducible apply State.instr_keeps
    | with_reducible apply State.putThread_keeps

theorem State.csrr_keeps {r s : State} {a1 a2 a3 a4} (h_s : Keeps r s) :
    Keeps r (State.csrr s a1 a2 a3 a4) := by
  unfold State.csrr
  repeat' first
    | with_reducible assumption
    | intro _
    | with_reducible apply State.instr_keeps
    | with_reducible apply State.exception_keeps
    | with_reducible apply State.putThread_keeps
    | split

theorem State.jal_keeps {r s : State} {a1 a2 a3} (h_s : Keeps r s) :
    Keeps r (State.jal s a1 a2 a3) := by
  unfold State.jal
  repeat' first
    | with_reducible assumption
    | intro _
    | (extract_lets +onlyGivenNames x; clear_value x)
    | with_reducible apply State.instr_keeps
    | with_reducible apply State.putThread_keeps

theorem State.leave_keeps {r s : State} {a1 a2} (h_s : Keeps r s) :
    Keeps r (State.leave s a1 a2) := by
  unfold State.leave
  repeat' first
    | with_reducible assumption
    | intro _
    | (extract_lets +onlyGivenNames x
       first
       | (refine Keeps.cut (r := r) (x := x) ?_ ?_ <;> first | (intro _; clear_value x) | (unfold x; clear x))
       | clear_value x)
    | with_reducible apply State.instr_keeps
    | with_reducible apply State.dropLeave_keeps
    | with_reducible apply State.onThread_keeps
    | with_reducible apply State.govRequest_keeps
    | with_reducible apply State.sleep_keeps
    | split

theorem State.eret_keeps {r s : State} {a1} (h_s : Keeps r s) :
    Keeps r (State.eret s a1) := by
  unfold State.eret
  repeat' first
    | with_reducible assumption
    | intro _
    | with_reducible apply State.instr_keeps
    | with_reducible apply State.exception_keeps
    | with_reducible apply State.putThread_keeps
    | split

theorem State.fpoll_keeps {r s : State} {a1 a2} (h_s : Keeps r s) :
    Keeps r (State.fpoll s a1 a2) := by
  unfold State.fpoll
  repeat' first
    | with_reducible assumption
    | intro _
    | (extract_lets +onlyGivenNames x; clear_value x)
    | with_reducible apply State.instr_keeps
    | with_reducible apply State.putThread_keeps
    | with_reducible apply State.exception_keeps
    | split

theorem State.csrw_keeps {r s : State} {a1 a2 a3 a4} (h_s : Keeps r s) :
    Keeps r (State.csrw s a1 a2 a3 a4) := by
  unfold State.csrw
  repeat' first
    | with_reducible assumption
    | intro _
    | (extract_lets +onlyGivenNames x; clear_value x)
    | with_reducible apply State.instr_keeps
    | with_reducible apply State.exception_keeps
    | with_reducible apply State.putThread_keeps
    | split

theorem State.clusterRetest_keeps {r s : State} {a1 a2} (h_s : Keeps r s) :
    Keeps r (State.clusterRetest s a1 a2) := by
  unfold State.clusterRetest
  repeat' first
    | with_reducible assumption
    | (extract_lets +onlyGivenNames x
       first
       | (refine Keeps.cut (r := r) (x := x) ?_ ?_ <;> first | (intro _; clear_value x) | (unfold x; clear x))
       | (have _ : Collector := x; unfold x; clear x))
    | with_reducible apply State.cicUnfence_keeps
    | with_reducible apply State.wrBit_keeps
    | with_reducible apply State.raiseD_keeps
    | with_reducible apply State.fenceCluster_keeps
    | split
    | with_reducible refine Keeps.upd ?_ rfl rfl rfl rfl rfl rfl rfl

theorem State.slotTrip_keeps {r s : State} {a1 a2} (h_s : Keeps r s) :
    Keeps r (State.slotTrip s a1 a2) := by
  unfold State.slotTrip
  repeat' first
    | with_reducible assumption
    | (extract_lets +onlyGivenNames x; (refine Keeps.cut (r := r) (x := x) ?_ ?_ <;> first | (intro _; clear_value x) | (unfold x; clear x)))
    | with_reducible apply State.bump_keeps
    | with_reducible apply State.wrBits_keeps
    | with_reducible apply State.setSlotCode_keeps
    | with_reducible apply State.slotGate_keeps
    | with_reducible apply State.slotIrq_keeps
    | with_reducible apply State.raise_keeps
    | with_reducible apply State.perstLow_keeps
    | with_reducible apply State.linkDownEvent_keeps
    | split

theorem State.timerExpiry_keeps {r s : State} {a1} (h_s : Keeps r s) :
    Keeps r (State.timerExpiry s a1) := by
  unfold State.timerExpiry
  repeat' first
    | with_reducible assumption
    | with_reducible apply State.slotTrip_keeps
    | split

theorem State.fetOvertemp_keeps {r s : State} {a1 a2 a3} (h_s : Keeps r s) :
    Keeps r (State.fetOvertemp s a1 a2 a3) := by
  unfold State.fetOvertemp
  repeat' first
    | with_reducible assumption
    | (extract_lets +onlyGivenNames x; (unfold x; clear x))
    | with_reducible apply State.slotTrip_keeps
    | with_reducible apply State.wr_keeps
    | split

theorem State.slotFet_keeps {r s : State} {a1 a2 a3} (h_s : Keeps r s) :
    Keeps r (State.slotFet s a1 a2 a3) := by
  unfold State.slotFet
  repeat' first
    | with_reducible assumption
    | with_reducible apply State.slotTrip_keeps
    | with_reducible apply State.wr_keeps
    | split

theorem State.rampTimeout_keeps {r s : State} {a1} (h_s : Keeps r s) :
    Keeps r (State.rampTimeout s a1) := by
  unfold State.rampTimeout
  repeat' first
    | with_reducible assumption
    | (extract_lets +onlyGivenNames x; clear_value x)
    | with_reducible apply State.slotTrip_keeps
    | split

theorem State.shortCircuit_keeps {r s : State} {a1 a2} (h_s : Keeps r s) :
    Keeps r (State.shortCircuit s a1 a2) := by
  unfold State.shortCircuit
  repeat' first
    | with_reducible assumption
    | with_reducible apply State.slotTrip_keeps
    | split

theorem State.engSend_keeps {r s : State} {a1 a2 a3 a4 a5 a6 a7 a8} (h_s : Keeps r s) :
    Keeps r (State.engSend s a1 a2 a3 a4 a5 a6 a7 a8).2 := by
  unfold State.engSend
  repeat' first
    | with_reducible assumption
    | (extract_lets +onlyGivenNames x; clear_value x)
    | with_reducible apply State.decodeMiss_keeps
    | with_reducible apply State.submit_keeps
    | with_reducible apply State.count_keeps
    | split

theorem State.engIssue_keeps {r s : State} {a1 a2 a3 a4 a5 a6 a7} (h_s : Keeps r s) :
    Keeps r (State.engIssue s a1 a2 a3 a4 a5 a6 a7).2 := by
  unfold State.engIssue
  repeat' first
    | with_reducible assumption
    | (extract_lets +onlyGivenNames x; clear_value x)
    | with_reducible apply State.engSend_keeps
    | with_reducible apply State.atsAsk_keeps
    | split

theorem State.engMsgs_keeps {r s : State} {a1 a2 a3 a4 a5 a6 a7} (h_s : Keeps r s) :
    Keeps r (State.engMsgs s a1 a2 a3 a4 a5 a6 a7) := by
  unfold State.engMsgs
  repeat' first
    | with_reducible assumption
    | intro _
    | (extract_lets +onlyGivenNames x; (refine Keeps.cut (r := r) (x := x.2) ?_ ?_ <;> first | (intro _; clear_value x) | (unfold x; clear x)))
    | with_reducible apply State.engIssue_keeps
    | with_reducible apply State.onThread_keeps
    | split
    | with_reducible apply Keeps.foldl_snd

theorem State.moveWrite_keeps {r s : State} {a1 a2 a3} (h_s : Keeps r s) :
    Keeps r (State.moveWrite s a1 a2 a3) := by
  unfold State.moveWrite
  repeat' first
    | with_reducible assumption
    | (extract_lets +onlyGivenNames x
       first
       | (refine Keeps.cut (r := r) (x := x) ?_ ?_ <;> first | (intro _; clear_value x) | (unfold x; clear x))
       | clear_value x)
    | with_reducible apply State.onThread_keeps
    | with_reducible apply State.engMsgs_keeps

theorem State.opIssue_keeps {r s : State} {a1 a2} (h_s : Keeps r s) :
    Keeps r (State.opIssue s a1 a2) := by
  unfold State.opIssue
  repeat' first
    | with_reducible assumption
    | (extract_lets +onlyGivenNames x; clear_value x)
    | with_reducible apply State.engMsgs_keeps
    | with_reducible apply State.onThread_keeps
    | with_reducible apply State.moveWrite_keeps
    | split

theorem State.engAnswer_keeps {r s : State} {a1 a2 a3 a4} (h_s : Keeps r s) :
    Keeps r (State.engAnswer s a1 a2 a3 a4) := by
  unfold State.engAnswer
  repeat' first
    | with_reducible assumption
    | (extract_lets +onlyGivenNames x
       first
       | (refine Keeps.cut (r := r) (x := x) ?_ ?_ <;> first | (intro _; clear_value x) | (unfold x; clear x))
       | clear_value x)
    | with_reducible apply State.onThread_keeps
    | with_reducible apply State.threadCheck_keeps
    | with_reducible apply State.moveWrite_keeps
    | split

theorem State.serviceOp_keeps {r s : State} {a1 a2} (h_s : Keeps r s) :
    Keeps r (State.serviceOp s a1 a2) := by
  unfold State.serviceOp
  repeat' first
    | with_reducible assumption
    | (extract_lets +onlyGivenNames x; clear_value x)
    | with_reducible apply State.opIssue_keeps
    | with_reducible apply State.onThread_keeps
    | split

theorem State.zeroRelease_keeps {r s : State} {a1 a2} (h_s : Keeps r s) :
    Keeps r (State.zeroRelease s a1 a2) := by
  unfold State.zeroRelease
  repeat' first
    | with_reducible assumption
    | (extract_lets +onlyGivenNames x
       first
       | (refine Keeps.cut (r := r) (x := x) ?_ ?_ <;> first | (intro _; clear_value x) | (unfold x; clear x))
       | clear_value x)
    | with_reducible apply State.govRequest_keeps
    | with_reducible apply State.sleep_keeps
    | with_reducible apply State.onThread_keeps
    | with_reducible apply State.startThread_keeps
    | with_reducible apply State.serviceAwait_keeps
    | with_reducible apply State.serviceOp_keeps
    | with_reducible apply State.serviceEnd_keeps
    | with_reducible apply State.drainSync_keeps
    | with_reducible apply State.zeroFail_keeps
    | split
    | with_reducible refine Keeps.upd ?_ rfl rfl rfl rfl rfl rfl rfl

theorem State.fatom_keeps {r s : State} {a1 a2 a3} (h_s : Keeps r s) :
    Keeps r (State.fatom s a1 a2 a3) := by
  unfold State.fatom
  repeat' first
    | with_reducible assumption
    | intro _
    | (extract_lets +onlyGivenNames x; clear_value x)
    | with_reducible apply State.instr_keeps
    | with_reducible apply State.exception_keeps
    | with_reducible apply State.putThread_keeps
    | with_reducible apply State.opIssue_keeps
    | with_reducible apply State.sleep_keeps
    | split

theorem State.opStart_keeps {r s : State} {a1 a2 a3 a4} (h_s : Keeps r s) :
    Keeps r (State.opStart s a1 a2 a3 a4) := by
  unfold State.opStart
  repeat' first
    | with_reducible assumption
    | (extract_lets +onlyGivenNames x
       first
       | (refine Keeps.cut (r := r) (x := x) ?_ ?_ <;> first | (intro _; clear_value x) | (unfold x; clear x))
       | clear_value x)
    | with_reducible apply State.exception_keeps
    | with_reducible apply State.putThread_keeps
    | with_reducible apply State.opIssue_keeps
    | split

theorem State.releaseOrd_keeps {r s : State} {a1} (h_s : Keeps r s) :
    Keeps r (State.releaseOrd s a1) := by
  unfold State.releaseOrd
  repeat' first
    | with_reducible assumption
    | (extract_lets +onlyGivenNames x; clear_value x)
    | with_reducible apply State.opIssue_keeps
    | split

theorem State.serviceCompare_keeps {r s : State} {a1} (h_s : Keeps r s) :
    Keeps r (State.serviceCompare s a1) := by
  unfold State.serviceCompare
  repeat' first
    | with_reducible assumption
    | (extract_lets +onlyGivenNames x
       first
       | (have _ := (x : _ → _ → State); unfold x; clear x)
       | clear_value x)
    | with_reducible apply State.serviceAwait_keeps
    | with_reducible apply State.serviceOp_keeps
    | with_reducible apply State.serviceEnd_keeps
    | with_reducible apply State.exception_keeps
    | with_reducible apply State.onThread_keeps
    | split

theorem State.serviceMove_keeps {r s : State} {a1 a2 a3} (h_s : Keeps r s) :
    Keeps r (State.serviceMove s a1 a2 a3) := by
  unfold State.serviceMove
  repeat' first
    | with_reducible assumption
    | intro _
    | (extract_lets +onlyGivenNames x
       first
       | clear_value x
       | (unfold x; clear x))
    | with_reducible apply State.serviceEnd_keeps
    | with_reducible apply State.govRequest_keeps
    | with_reducible apply State.sleep_keeps
    | with_reducible apply State.onThread_keeps
    | with_reducible apply State.serviceAwait_keeps
    | with_reducible apply State.serviceOp_keeps
    | with_reducible apply forEach_keeps
    | split

theorem State.fabricOp_keeps {r s : State} {a1 a2 a3} (h_s : Keeps r s) :
    Keeps r (State.fabricOp s a1 a2 a3) := by
  unfold State.fabricOp
  repeat' first
    | with_reducible assumption
    | intro _
    | (extract_lets +onlyGivenNames x; clear_value x)
    | with_reducible apply State.instr_keeps
    | with_reducible apply State.exception_keeps
    | with_reducible apply State.opStart_keeps
    | split

theorem State.opDone_keeps {r s : State} {a1 a2 a3 a4} (h_s : Keeps r s) :
    Keeps r (State.opDone s a1 a2 a3 a4) := by
  unfold State.opDone
  repeat' first
    | with_reducible assumption
    | (extract_lets +onlyGivenNames x
       first
       | (refine Keeps.cut (r := r) (x := x) ?_ ?_ <;> first | (intro _; clear_value x) | (unfold x; clear x))
       | clear_value x)
    | with_reducible apply State.raise_keeps
    | with_reducible apply State.onThread_keeps
    | with_reducible apply State.wake_keeps
    | with_reducible apply State.threadCheck_keeps
    | with_reducible apply State.releaseOrd_keeps
    | split

theorem State.serviceCrc_keeps {r s : State} {a1} (h_s : Keeps r s) :
    Keeps r (State.serviceCrc s a1) := by
  unfold State.serviceCrc
  repeat' first
    | with_reducible assumption
    | (extract_lets +onlyGivenNames x
       first
       | (have _ := (x : _ → _ → State); unfold x; clear x)
       | clear_value x)
    | with_reducible apply State.serviceAwait_keeps
    | with_reducible apply State.serviceOp_keeps
    | with_reducible apply State.onThread_keeps
    | with_reducible apply State.serviceEnd_keeps
    | with_reducible apply State.exception_keeps
    | split

theorem State.move_keeps {r s : State} {a1 a2 a3} (h_s : Keeps r s) :
    Keeps r (State.move s a1 a2 a3) := by
  unfold State.move
  repeat' first
    | with_reducible assumption
    | intro _
    | (extract_lets +onlyGivenNames x
       first
       | clear_value x
       | (unfold x; clear x))
    | with_reducible apply State.instr_keeps
    | with_reducible apply State.exception_keeps
    | with_reducible apply State.putThread_keeps
    | with_reducible apply State.opStart_keeps
    | split

theorem State.chunkComplete_keeps {r s : State} {a1 a2 a3} (h_s : Keeps r s) :
    Keeps r (State.chunkComplete s a1 a2 a3) := by
  unfold State.chunkComplete
  repeat' first
    | with_reducible assumption
    | (extract_lets +onlyGivenNames x
       first
       | (refine Keeps.cut (r := r) (x := x) ?_ ?_ <;> first | (intro _; clear_value x) | (unfold x; clear x))
       | clear_value x)
    | with_reducible apply State.opDone_keeps
    | with_reducible apply State.countN_keeps
    | with_reducible apply State.add_keeps
    | with_reducible apply State.onThread_keeps
    | with_reducible apply State.opIssue_keeps
    | split

theorem State.opComplete_keeps {r s : State} {a1 a2} (h_s : Keeps r s) :
    Keeps r (State.opComplete s a1 a2) := by
  unfold State.opComplete
  repeat' first
    | with_reducible assumption
    | (extract_lets +onlyGivenNames x
       first
       | (refine Keeps.cut (r := r) (x := x) ?_ ?_ <;> first | (intro _; clear_value x) | (unfold x; clear x))
       | clear_value x)
    | with_reducible apply State.segWrite_keeps
    | with_reducible apply State.opDone_keeps
    | with_reducible apply State.onThread_keeps
    | with_reducible apply State.wake_keeps
    | split

end Sys2Proof.Machine
end

