-- ==== Sys2Proof/Laws/KeepsTfb.lean ====
section
/-! SUPPORT. What every command keeps, for the operations of the Tenant Function Block and migration: one lemma for each operation, which says that
it keeps what `Keeps` speaks of. -/

namespace Sys2Proof.Machine

set_option Elab.async false

theorem State.dropFunc_keeps {r s : State} {a1} (h_s : Keeps r s) :
    Keeps r (State.dropFunc s a1) := by
  unfold State.dropFunc
  repeat' first
    | with_reducible assumption
    | (extract_lets +onlyGivenNames x; clear_value x)
    | with_reducible refine Keeps.upd ?_ rfl rfl rfl rfl rfl rfl rfl

theorem State.putPf_keeps {r s : State} {a1 a2} (h_s : Keeps r s) :
    Keeps r (State.putPf s a1 a2) := by
  unfold State.putPf
  repeat' first
    | with_reducible assumption
    | (extract_lets +onlyGivenNames x; clear_value x)
    | with_reducible refine Keeps.upd ?_ rfl rfl rfl rfl rfl rfl rfl

theorem State.putVf_keeps {r s : State} {a1 a2} (h_s : Keeps r s) :
    Keeps r (State.putVf s a1 a2) := by
  unfold State.putVf
  repeat' first
    | with_reducible assumption
    | (extract_lets +onlyGivenNames x; clear_value x)
    | with_reducible refine Keeps.upd ?_ rfl rfl rfl rfl rfl rfl rfl

theorem State.cqDisable_keeps {r s : State} {a1 a2 a3} (h_s : Keeps r s) :
    Keeps r (State.cqDisable s a1 a2 a3) := by
  unfold State.cqDisable
  repeat' first
    | with_reducible assumption
    | (extract_lets +onlyGivenNames x; clear_value x)
    | with_reducible apply State.putVf_keeps
    | split

theorem State.majorSelect_keeps {r s : State} {a1 a2} (h_s : Keeps r s) :
    Keeps r (State.majorSelect s a1 a2) := by
  unfold State.majorSelect
  repeat' first
    | with_reducible assumption
    | (extract_lets +onlyGivenNames x; clear_value x)
    | with_reducible apply State.putPf_keeps
    | split

theorem State.hvStart_keeps {r s : State} (h_s : Keeps r s) :
    Keeps r (State.hvStart s).2 := by
  unfold State.hvStart
  repeat' first
    | with_reducible assumption
    | (extract_lets +onlyGivenNames x; clear_value x)
    | with_reducible apply State.wr_keeps
    | split
    | with_reducible refine Keeps.upd ?_ rfl rfl rfl rfl rfl rfl rfl

theorem State.invalidateSync_keeps {r s : State} (h_s : Keeps r s) :
    Keeps r (State.invalidateSync s) := by
  unfold State.invalidateSync
  repeat' first
    | with_reducible assumption
    | intro _
    | (extract_lets +onlyGivenNames x; clear_value x)
    | with_reducible apply forEach_keeps
    | with_reducible apply State.emit_keeps
    | split
    | with_reducible refine Keeps.upd ?_ rfl rfl rfl rfl rfl rfl rfl

theorem State.atsNext_keeps {r s : State} {a0} (h_s : Keeps r s) :
    KeepsO r (State.atsNext a0 s) := by
  unfold State.atsNext
  repeat' first
    | with_reducible assumption
    | (extract_lets +onlyGivenNames x; clear_value x)
    | with_reducible apply State.hostSend_keeps
    | split
    | with_reducible apply KeepsO.none
    | with_reducible apply KeepsO.some
    | with_reducible refine Keeps.upd ?_ rfl rfl rfl rfl rfl rfl rfl

theorem State.pfIntCause_keeps {r s : State} {a1 a2} (h_s : Keeps r s) :
    Keeps r (State.pfIntCause s a1 a2) := by
  unfold State.pfIntCause
  repeat' first
    | with_reducible assumption
    | (extract_lets +onlyGivenNames x; clear_value x)
    | with_reducible apply State.putPf_keeps
    | split

theorem State.invalidate_keeps {r s : State} {a1 a2 a3} (h_s : Keeps r s) :
    Keeps r (State.invalidate s a1 a2 a3) := by
  unfold State.invalidate
  repeat' first
    | with_reducible assumption
    | (extract_lets +onlyGivenNames x; clear_value x)
    | with_reducible apply State.invalidateSync_keeps
    | with_reducible refine Keeps.upd ?_ rfl rfl rfl rfl rfl rfl rfl

theorem State.pfEventWrite_keeps {r s : State} {a1 a2 a3} (h_s : Keeps r s) :
    Keeps r (State.pfEventWrite s a1 a2 a3) := by
  unfold State.pfEventWrite
  repeat' first
    | with_reducible assumption
    | (extract_lets +onlyGivenNames x; clear_value x)
    | with_reducible apply State.putPf_keeps
    | split

theorem State.onVf_keeps {r s : State} {a1 a2} (h_s : Keeps r s) :
    Keeps r (State.onVf s a1 a2) := by
  unfold State.onVf
  repeat' first
    | with_reducible assumption
    | with_reducible apply State.putVf_keeps

theorem State.setPhase_keeps {r s : State} {a1} (h_s : Keeps r s) :
    Keeps r (State.setPhase s a1) := by
  unfold State.setPhase
  repeat' first
    | with_reducible assumption
    | (extract_lets +onlyGivenNames x
       first
       | (refine Keeps.cut (r := r) (x := x) ?_ ?_ <;> first | (intro _; clear_value x) | (unfold x; clear x))
       | clear_value x)
    | with_reducible apply State.wrBits_keeps
    | with_reducible refine Keeps.upd ?_ rfl rfl rfl rfl rfl rfl rfl

theorem State.vfErrWrite_keeps {r s : State} {a1 a2} (h_s : Keeps r s) :
    Keeps r (State.vfErrWrite s a1 a2) := by
  unfold State.vfErrWrite
  repeat' first
    | with_reducible assumption
    | with_reducible apply State.onVf_keeps
    | split

theorem State.l1Enter_keeps {r s : State} {a1} (h_s : Keeps r s) :
    Keeps r (State.l1Enter s a1) := by
  unfold State.l1Enter
  repeat' first
    | with_reducible assumption
    | with_reducible apply State.setLtssm_keeps
    | split

theorem State.vfCause_keeps {r s : State} {a1 a2} (h_s : Keeps r s) :
    Keeps r (State.vfCause s a1 a2) := by
  unfold State.vfCause
  repeat' first
    | with_reducible assumption
    | with_reducible apply State.onVf_keeps

theorem State.rbFail_keeps {r s : State} {a1} (h_s : Keeps r s) :
    Keeps r (State.rbFail s a1) := by
  unfold State.rbFail
  repeat' first
    | with_reducible assumption
    | with_reducible apply State.wr_keeps
    | with_reducible apply State.setPhase_keeps

theorem State.cqEnable_keeps {r s : State} {a1 a2 a3} (h_s : Keeps r s) :
    Keeps r (State.cqEnable s a1 a2 a3) := by
  unfold State.cqEnable
  repeat' first
    | with_reducible assumption
    | (extract_lets +onlyGivenNames x; clear_value x)
    | with_reducible apply State.putVf_keeps
    | split

theorem State.sqEnable_keeps {r s : State} {a1 a2} (h_s : Keeps r s) :
    Keeps r (State.sqEnable s a1 a2) := by
  unfold State.sqEnable
  repeat' first
    | with_reducible assumption
    | (extract_lets +onlyGivenNames x; clear_value x)
    | with_reducible apply State.putVf_keeps
    | split

theorem State.moderationTick_keeps {r s : State} (h_s : Keeps r s) :
    Keeps r (State.moderationTick s) := by
  unfold State.moderationTick
  repeat' first
    | with_reducible assumption
    | intro _
    | with_reducible apply forEach_keeps
    | with_reducible apply State.onVf_keeps

theorem State.l1Exit_keeps {r s : State} {a1} (h_s : Keeps r s) :
    Keeps r (State.l1Exit s a1) := by
  unfold State.l1Exit
  repeat' first
    | with_reducible assumption
    | intro _
    | (extract_lets +onlyGivenNames x
       first
       | (refine Keeps.cut (r := r) (x := x) ?_ ?_ <;> first | (intro _; clear_value x) | (unfold x; clear x))
       | clear_value x)
    | with_reducible apply forEach_keeps
    | with_reducible apply State.emit_keeps
    | with_reducible apply State.setLtssm_keeps
    | split
    | with_reducible refine Keeps.upd ?_ rfl rfl rfl rfl rfl rfl rfl

theorem State.onFcfg_keeps {r s : State} {a1 a2} (h_s : Keeps r s) :
    Keeps r (State.onFcfg s a1 a2) := by
  unfold State.onFcfg
  repeat' first
    | with_reducible assumption
    | (extract_lets +onlyGivenNames x; clear_value x)
    | with_reducible apply State.putPf_keeps
    | with_reducible apply State.onVf_keeps
    | split

theorem State.defer_keeps {r s : State} {a1 a2} (h_s : Keeps r s) :
    Keeps r (State.defer s a1 a2) := by
  unfold State.defer
  repeat' first
    | with_reducible assumption
    | with_reducible apply State.onVf_keeps
    | split

theorem State.rbSources_keeps {r s : State} (h_s : Keeps r s) :
    Keeps r (State.rbSources s) := by
  unfold State.rbSources
  repeat' first
    | with_reducible assumption
    | intro _
    | with_reducible apply forEach_keeps
    | with_reducible apply State.onVf_keeps

theorem State.pmeSettle_keeps {r s : State} {a1} (h_s : Keeps r s) :
    Keeps r (State.pmeSettle s a1) := by
  unfold State.pmeSettle
  repeat' first
    | with_reducible assumption
    | (extract_lets +onlyGivenNames x; clear_value x)
    | with_reducible apply State.emit_keeps
    | with_reducible apply State.setLtssm_keeps
    | with_reducible apply State.putPort_keeps
    | split

theorem State.imageLoad_keeps {r s : State} {a1 a2} (h_s : Keeps r s) :
    Keeps r (State.imageLoad s a1 a2) := by
  unfold State.imageLoad
  repeat' first
    | with_reducible assumption
    | (extract_lets +onlyGivenNames x
       first
       | (refine Keeps.cut (r := r) (x := x) ?_ ?_ <;> first | (intro _; clear_value x) | (unfold x; clear x))
       | clear_value x)
    | with_reducible apply State.onVf_keeps
    | with_reducible refine Keeps.upd ?_ rfl rfl rfl rfl rfl rfl rfl

theorem State.rbDone_keeps {r s : State} (h_s : Keeps r s) :
    Keeps r (State.rbDone s) := by
  unfold State.rbDone
  repeat' first
    | with_reducible assumption
    | with_reducible apply State.bump_keeps
    | with_reducible apply State.wr_keeps
    | with_reducible apply State.setPhase_keeps

theorem State.pmeTurnOff_keeps {r s : State} {a1} (h_s : Keeps r s) :
    Keeps r (State.pmeTurnOff s a1) := by
  unfold State.pmeTurnOff
  repeat' first
    | with_reducible assumption
    | (extract_lets +onlyGivenNames x; clear_value x)
    | with_reducible apply State.pmeSettle_keeps
    | with_reducible apply State.putPort_keeps
    | split

theorem State.hostFetch_keeps {r s : State} {a1 a2 a3 a4 a5} (h_s : Keeps r s) :
    Keeps r (State.hostFetch s a1 a2 a3 a4 a5) := by
  unfold State.hostFetch
  repeat' first
    | with_reducible assumption
    | (extract_lets +onlyGivenNames x; clear_value x)
    | with_reducible apply State.hostSend_keeps
    | with_reducible apply State.newTracker_keeps

theorem State.tfbPost_keeps {r s : State} {a1} (h_s : Keeps r s) :
    Keeps r (State.tfbPost s a1) := by
  unfold State.tfbPost
  repeat' first
    | with_reducible assumption
    | with_reducible apply State.hostSend_keeps
    | with_reducible apply State.atsAsk_keeps
    | split

theorem State.hvEnd_keeps {r s : State} {a1 a2} (h_s : Keeps r s) :
    Keeps r (State.hvEnd s a1 a2) := by
  unfold State.hvEnd
  repeat' first
    | with_reducible assumption
    | (extract_lets +onlyGivenNames x
       first
       | (refine Keeps.cut (r := r) (x := x) ?_ ?_ <;> first | (intro _; clear_value x) | (unfold x; clear x))
       | clear_value x)
    | with_reducible apply State.cicRaise_keeps
    | with_reducible apply State.wr_keeps
    | with_reducible refine Keeps.upd ?_ rfl rfl rfl rfl rfl rfl rfl

theorem State.hvDenied_keeps {r s : State} {a1 a2} (h_s : Keeps r s) :
    Keeps r (State.hvDenied s a1 a2) := by
  unfold State.hvDenied
  repeat' first
    | with_reducible assumption
    | (extract_lets +onlyGivenNames x; clear_value x)
    | with_reducible apply State.hvEnd_keeps
    | with_reducible apply State.gtpViolation_keeps
    | split

theorem State.tfbDenied_keeps {r s : State} {a1 a2 a3 a4 a5} (h_s : Keeps r s) :
    KeepsO r (State.tfbDenied s a1 a2 a3 a4 a5) := by
  unfold State.tfbDenied
  repeat' first
    | with_reducible assumption
    | intro _
    | (extract_lets +onlyGivenNames x
       first
       | (refine Keeps.cut (r := r) (x := x) ?_ ?_ <;> first | (intro _; clear_value x) | (unfold x; clear x))
       | clear_value x)
    | with_reducible apply State.gtpViolation_keeps
    | with_reducible apply when_keeps
    | with_reducible apply State.putMeter_keeps
    | split
    | with_reducible apply KeepsO.none
    | with_reducible apply KeepsO.some

theorem State.rbStart_keeps {r s : State} (h_s : Keeps r s) :
    Keeps r (State.rbStart s) := by
  unfold State.rbStart
  repeat' first
    | with_reducible assumption
    | (extract_lets +onlyGivenNames x
       first
       | (refine Keeps.cut (r := r) (x := x) ?_ ?_ <;> first | (intro _; clear_value x) | (unfold x; clear x))
       | clear_value x)
    | with_reducible apply State.flushFold_keeps
    | with_reducible apply State.wr_keeps
    | with_reducible apply State.setPhase_keeps
    | with_reducible refine Keeps.upd ?_ rfl rfl rfl rfl rfl rfl rfl

theorem State.hvLine_keeps {r s : State} {a1 a2} (h_s : Keeps r s) :
    KeepsO r (State.hvLine s a1 a2) := by
  unfold State.hvLine
  repeat' first
    | with_reducible assumption
    | (extract_lets +onlyGivenNames x
       first
       | (refine Keeps.cut (r := r) (x := x.2.2) ?_ ?_ <;> first | (intro _; clear_value x) | (unfold x; clear x))
       | clear_value x)
    | with_reducible apply State.cmnRead_keeps
    | with_reducible apply State.add_keeps
    | with_reducible apply State.hostSend_keeps
    | with_reducible apply State.cmnWrite_keeps
    | split
    | with_reducible apply KeepsO.none
    | with_reducible apply KeepsO.some

theorem State.msixSend_keeps {r s : State} {a1 a2} (h_s : Keeps r s) :
    Keeps r (State.msixSend s a1 a2) := by
  unfold State.msixSend
  repeat' first
    | with_reducible assumption
    | (extract_lets +onlyGivenNames x
       first
       | (refine Keeps.cut (r := r) (x := x) ?_ ?_ <;> first | (intro _; clear_value x) | (unfold x; clear x))
       | clear_value x)
    | with_reducible apply State.tfbDenied_keeps
    | with_reducible apply State.count_keeps
    | with_reducible apply State.tfbPost_keeps
    | split
    | (with_reducible refine KeepsO.elim (by with_reducible assumption) ?_)

theorem State.sendPending_keeps {r s : State} {a1} (h_s : Keeps r s) :
    Keeps r (State.sendPending s a1) := by
  unfold State.sendPending
  repeat' first
    | with_reducible assumption
    | intro _
    | with_reducible apply forEach_keeps
    | with_reducible apply State.msixSend_keeps
    | with_reducible apply State.onFcfg_keeps
    | split

theorem State.signal_keeps {r s : State} {a1 a2} (h_s : Keeps r s) :
    Keeps r (State.signal s a1 a2) := by
  unfold State.signal
  repeat' first
    | with_reducible assumption
    | (extract_lets +onlyGivenNames x
       first
       | (refine Keeps.cut (r := r) (x := x) ?_ ?_ <;> first | (intro _; clear_value x) | (unfold x; clear x))
       | clear_value x)
    | with_reducible apply State.msixSend_keeps
    | with_reducible apply State.onFcfg_keeps
    | with_reducible apply State.hostSend_keeps
    | split

theorem State.rbSync_keeps {r s : State} (h_s : Keeps r s) :
    Keeps r (State.rbSync s) := by
  unfold State.rbSync
  repeat' first
    | with_reducible assumption
    | (extract_lets +onlyGivenNames x; clear_value x)
    | with_reducible apply State.flushFold_keeps
    | with_reducible apply State.setPhase_keeps
    | with_reducible apply State.rbFail_keeps
    | split

theorem State.cfgApply_keeps {r s : State} {a1 a2} (h_s : Keeps r s) :
    Keeps r (State.cfgApply s a1 a2) := by
  unfold State.cfgApply
  repeat' first
    | with_reducible assumption
    | (extract_lets +onlyGivenNames x
       first
       | (refine Keeps.cut (r := r) (x := x) ?_ ?_ <;> first | (intro _; clear_value x) | (unfold x; clear x))
       | clear_value x)
    | with_reducible apply State.sendPending_keeps
    | with_reducible apply State.onFcfg_keeps
    | with_reducible apply State.putPf_keeps
    | split
    | with_reducible refine Keeps.upd ?_ rfl rfl rfl rfl rfl rfl rfl

theorem State.pfCause_keeps {r s : State} {a1 a2} (h_s : Keeps r s) :
    Keeps r (State.pfCause s a1 a2) := by
  unfold State.pfCause
  repeat' first
    | with_reducible assumption
    | (extract_lets +onlyGivenNames x
       first
       | (refine Keeps.cut (r := r) (x := x) ?_ ?_ <;> first | (intro _; clear_value x) | (unfold x; clear x))
       | clear_value x)
    | with_reducible apply State.putPf_keeps
    | with_reducible apply State.signal_keeps
    | split

theorem State.msixWrite_keeps {r s : State} {a1 a2 a3} (h_s : Keeps r s) :
    Keeps r (State.msixWrite s a1 a2 a3) := by
  unfold State.msixWrite
  repeat' first
    | with_reducible assumption
    | (extract_lets +onlyGivenNames x; clear_value x)
    | with_reducible apply State.sendPending_keeps
    | with_reducible apply State.onFcfg_keeps

theorem State.hvLines_keeps {r s : State} {a0 a1 a2} (h_s : Keeps r s) : Keeps r (State.hvLines a0 a1 a2 s).2.2 := by
  fun_induction State.hvLines a0 a1 a2 s with
  | case1 => exact h_s
  | case2 _ _ _ _ e ih => exact ih (KeepsO.elim e (State.hvLine_keeps h_s))
  | case3 => exact h_s

theorem State.cqSignal_keeps {r s : State} {a1 a2} (h_s : Keeps r s) :
    Keeps r (State.cqSignal s a1 a2) := by
  unfold State.cqSignal
  repeat' first
    | with_reducible assumption
    | (extract_lets +onlyGivenNames x
       first
       | (refine Keeps.cut (r := r) (x := x) ?_ ?_ <;> first | (intro _; clear_value x) | (unfold x; clear x))
       | clear_value x)
    | with_reducible apply State.putVf_keeps
    | with_reducible apply State.signal_keeps
    | split

theorem State.setD3_keeps {r s : State} {a1 a2} (h_s : Keeps r s) :
    Keeps r (State.setD3 s a1 a2) := by
  unfold State.setD3
  repeat' first
    | with_reducible assumption
    | intro _
    | (extract_lets +onlyGivenNames x; (refine Keeps.cut (r := r) (x := x) ?_ ?_ <;> first | (intro _; clear_value x) | (unfold x; clear x)))
    | with_reducible apply State.onFcfg_keeps
    | with_reducible apply forEach_keeps
    | with_reducible apply State.sendPending_keeps
    | split

theorem State.moderate_keeps {r s : State} {a1 a2 a3} (h_s : Keeps r s) :
    Keeps r (State.moderate s a1 a2 a3) := by
  unfold State.moderate
  repeat' first
    | with_reducible assumption
    | (extract_lets +onlyGivenNames x
       first
       | (refine Keeps.cut (r := r) (x := x) ?_ ?_ <;> first | (intro _; clear_value x) | (unfold x; clear x))
       | clear_value x)
    | with_reducible apply State.putVf_keeps
    | with_reducible apply State.cqSignal_keeps
    | split

theorem State.msixUnmask_keeps {r s : State} {a1 a2} (h_s : Keeps r s) :
    Keeps r (State.msixUnmask s a1 a2) := by
  unfold State.msixUnmask
  repeat' first
    | with_reducible assumption
    | (extract_lets +onlyGivenNames x; clear_value x)
    | with_reducible apply State.sendPending_keeps
    | with_reducible apply State.onFcfg_keeps
    | split

theorem State.configWrite_keeps {r s : State} {a1 a2} (h_s : Keeps r s) :
    Keeps r (State.configWrite s a1 a2) := by
  unfold State.configWrite
  repeat' first
    | with_reducible assumption
    | with_reducible apply State.defer_keeps
    | with_reducible apply State.cfgApply_keeps
    | split

theorem State.cqModTimer_keeps {r s : State} {a1 a2} (h_s : Keeps r s) :
    Keeps r (State.cqModTimer s a1 a2) := by
  unfold State.cqModTimer
  repeat' first
    | with_reducible assumption
    | with_reducible apply State.cqSignal_keeps
    | split

theorem State.hvCopy_keeps {r s : State} {a1 a2 a3 a4} (h_s : Keeps r s) :
    Keeps r (State.hvCopy s a1 a2 a3 a4) := by
  unfold State.hvCopy
  repeat' first
    | with_reducible assumption
    | (extract_lets +onlyGivenNames x; (refine Keeps.cut (r := r) (x := x.2.2) ?_ ?_ <;> first | (intro _; clear_value x) | (unfold x; clear x)))
    | with_reducible apply State.hvEnd_keeps
    | with_reducible apply State.hvLines_keeps
    | with_reducible apply State.hvDenied_keeps
    | split

theorem State.mbxRelease_keeps {r s : State} {a1 a2} (h_s : Keeps r s) :
    Keeps r (State.mbxRelease s a1 a2) := by
  unfold State.mbxRelease
  repeat' first
    | with_reducible assumption
    | (extract_lets +onlyGivenNames x; clear_value x)
    | with_reducible apply State.pfCause_keeps
    | with_reducible apply State.emit_keeps
    | with_reducible apply State.putMailbox_keeps
    | split

theorem State.queueStop_keeps {r s : State} {a1 a2 a3 a4} (h_s : Keeps r s) :
    Keeps r (State.queueStop s a1 a2 a3 a4) := by
  unfold State.queueStop
  repeat' first
    | with_reducible assumption
    | intro _
    | (extract_lets +onlyGivenNames x
       first
       | (refine Keeps.cut (r := r) (x := x) ?_ ?_ <;> first | (intro _; clear_value x) | (unfold x; clear x))
       | clear_value x)
    | with_reducible apply State.putVf_keeps
    | with_reducible apply State.bump_keeps
    | with_reducible apply when_keeps
    | with_reducible apply State.signal_keeps
    | with_reducible apply State.pfCause_keeps
    | split

theorem State.hvStop_keeps {r s : State} (h_s : Keeps r s) :
    Keeps r (State.hvStop s).2 := by
  unfold State.hvStop
  repeat' first
    | with_reducible assumption
    | with_reducible apply State.hvCopy_keeps
    | with_reducible apply State.tick_keeps
    | split

theorem State.powerWrite_keeps {r s : State} {a1 a2} (h_s : Keeps r s) :
    Keeps r (State.powerWrite s a1 a2) := by
  unfold State.powerWrite
  repeat' first
    | with_reducible assumption
    | with_reducible apply State.defer_keeps
    | with_reducible apply State.setD3_keeps
    | split

theorem State.vfEvent_keeps {r s : State} {a1} (h_s : Keeps r s) :
    Keeps r (State.vfEvent s a1) := by
  unfold State.vfEvent
  repeat' first
    | with_reducible assumption
    | (extract_lets +onlyGivenNames x; clear_value x)
    | with_reducible apply State.pfCause_keeps
    | with_reducible apply State.putPf_keeps
    | split

theorem State.flrComplete_keeps {r s : State} {a1} (h_s : Keeps r s) :
    Keeps r (State.flrComplete s a1) := by
  unfold State.flrComplete
  repeat' first
    | with_reducible assumption
    | intro _
    | (extract_lets +onlyGivenNames x
       first
       | (refine Keeps.cut (r := r) (x := x) ?_ ?_ <;> first | (intro _; clear_value x) | (unfold x; clear x))
       | clear_value x)
    | with_reducible apply State.raise_keeps
    | with_reducible apply forEach_keeps
    | with_reducible apply State.putTracker_keeps
    | with_reducible apply State.add_keeps
    | with_reducible apply State.endThread_keeps
    | with_reducible apply State.bump_keeps
    | with_reducible apply State.putVf_keeps
    | with_reducible apply State.cfgApply_keeps
    | with_reducible apply State.setD3_keeps
    | with_reducible apply State.cicRaise_keeps
    | with_reducible apply State.vfEvent_keeps
    | split

theorem State.cqHead_keeps {r s : State} {a1 a2 a3} (h_s : Keeps r s) :
    Keeps r (State.cqHead s a1 a2 a3) := by
  unfold State.cqHead
  repeat' first
    | with_reducible assumption
    | (extract_lets +onlyGivenNames x; clear_value x)
    | with_reducible apply State.raise_keeps
    | with_reducible apply State.vfCause_keeps
    | with_reducible apply State.queueStop_keeps
    | with_reducible apply State.onVf_keeps
    | split

theorem State.hvDone_keeps {r s : State} {a1} (h_s : Keeps r s) :
    Keeps r (State.hvDone s a1) := by
  unfold State.hvDone
  repeat' first
    | with_reducible assumption
    | with_reducible apply State.hvCopy_keeps
    | with_reducible apply State.tick_keeps
    | split

theorem State.sqTail_keeps {r s : State} {a1 a2 a3} (h_s : Keeps r s) :
    Keeps r (State.sqTail s a1 a2 a3) := by
  unfold State.sqTail
  repeat' first
    | with_reducible assumption
    | (extract_lets +onlyGivenNames x; clear_value x)
    | with_reducible apply State.raise_keeps
    | with_reducible apply State.vfCause_keeps
    | with_reducible apply State.queueStop_keeps
    | with_reducible apply State.onVf_keeps
    | split

theorem State.hvCtrl_keeps {r s : State} {a1} (h_s : Keeps r s) :
    Keeps r (State.hvCtrl s a1).2 := by
  unfold State.hvCtrl
  repeat' first
    | with_reducible assumption
    | with_reducible apply State.hvStart_keeps
    | with_reducible apply State.hvStop_keeps
    | split

theorem State.dispatchDesc_keeps {r s : State} {a1 a2 a3} (h_s : Keeps r s) :
    Keeps r (State.dispatchDesc s a1 a2 a3) := by
  unfold State.dispatchDesc
  repeat' first
    | with_reducible assumption
    | (extract_lets +onlyGivenNames x
       first
       | (refine Keeps.cut (r := r) (x := x) ?_ ?_ <;> first | (intro _; clear_value x) | (unfold x; clear x))
       | clear_value x)
    | with_reducible apply State.onVf_keeps
    | with_reducible apply State.count_keeps
    | with_reducible apply State.bump_keeps
    | with_reducible apply State.startThread_keeps
    | with_reducible refine Keeps.upd ?_ rfl rfl rfl rfl rfl rfl rfl

theorem State.vfcEnd_keeps {r s : State} {a1 a2 a3} (h_s : Keeps r s) :
    Keeps r (State.vfcEnd s a1 a2 a3) := by
  unfold State.vfcEnd
  repeat' first
    | with_reducible assumption
    | with_reducible apply State.vfEvent_keeps
    | with_reducible apply State.onVf_keeps

theorem State.cplFail_keeps {r s : State} {a1 a2} (h_s : Keeps r s) :
    Keeps r (State.cplFail s a1 a2) := by
  unfold State.cplFail
  repeat' first
    | with_reducible assumption
    | with_reducible apply State.raise_keeps
    | with_reducible apply State.bump_keeps
    | with_reducible apply State.queueStop_keeps

theorem State.vfCommand_keeps {r s : State} {a1 a2 a3 f} (h_s : Keeps r s) (h_f : ∀ x0 x1, Keeps r x1 → Keeps r (f x0 x1)) :
    Keeps r (State.vfCommand s a1 a2 a3 f) := by
  unfold State.vfCommand
  repeat' first
    | with_reducible assumption
    | (extract_lets +onlyGivenNames x
       first
       | (refine Keeps.cut (r := r) (x := x) ?_ ?_ <;> first | (intro _; clear_value x) | (unfold x; clear x))
       | clear_value x)
    | with_reducible apply State.bump_keeps
    | with_reducible apply State.cicRaise_keeps
    | with_reducible apply State.vfcEnd_keeps
    | with_reducible apply h_f
    | split

theorem State.restoreDone_keeps {r s : State} {a1 a2 a3 a4} (h_s : Keeps r s) :
    Keeps r (State.restoreDone s a1 a2 a3 a4) := by
  unfold State.restoreDone
  repeat' first
    | with_reducible assumption
    | (extract_lets +onlyGivenNames x; (refine Keeps.cut (r := r) (x := x) ?_ ?_ <;> first | (intro _; clear_value x) | (unfold x; clear x)))
    | with_reducible apply State.lateResponse_keeps
    | with_reducible apply State.releaseTracker_keeps
    | with_reducible apply State.vfcEnd_keeps
    | with_reducible apply State.imageLoad_keeps
    | split

theorem State.freezeDone_keeps {r s : State} {a1 a2} (h_s : Keeps r s) :
    Keeps r (State.freezeDone s a1 a2) := by
  unfold State.freezeDone
  repeat' first
    | with_reducible assumption
    | (extract_lets +onlyGivenNames x; clear_value x)
    | with_reducible apply State.vfcEnd_keeps
    | split

theorem State.complete_keeps {r s : State} {a1 a2 a3 a4 a5 a6 a7} (h_s : Keeps r s) :
    Keeps r (State.complete s a1 a2 a3 a4 a5 a6 a7) := by
  unfold State.complete
  repeat' first
    | with_reducible assumption
    | (extract_lets +onlyGivenNames x
       first
       | (refine Keeps.cut (r := r) (x := x) ?_ ?_ <;> first | (intro _; clear_value x) | (unfold x; clear x))
       | clear_value x)
    | with_reducible apply State.putVf_keeps
    | with_reducible apply State.cplFail_keeps
    | with_reducible apply State.tfbDenied_keeps
    | with_reducible apply State.onVf_keeps
    | with_reducible apply State.moderate_keeps
    | with_reducible apply State.tfbPost_keeps
    | split
    | (with_reducible refine KeepsO.elim (by with_reducible assumption) ?_)

theorem State.descEnd_keeps {r s : State} {a1 a2 a3 a4} (h_s : Keeps r s) :
    Keeps r (State.descEnd s a1 a2 a3 a4) := by
  unfold State.descEnd
  repeat' first
    | with_reducible assumption
    | with_reducible apply State.complete_keeps
    | with_reducible apply State.onVf_keeps

theorem State.vfSave_keeps {r s : State} {a1 a2} (h_s : Keeps r s) :
    Keeps r (State.vfSave s a1 a2) := by
  unfold State.vfSave
  repeat' first
    | with_reducible assumption
    | intro _
    | (extract_lets +onlyGivenNames x; clear_value x)
    | with_reducible apply State.vfCommand_keeps
    | with_reducible apply State.vfcEnd_keeps
    | with_reducible apply State.tfbDenied_keeps
    | with_reducible apply State.hostSend_keeps
    | with_reducible apply State.onVf_keeps
    | split
    | (with_reducible refine KeepsO.elim (by with_reducible assumption) ?_)

theorem State.dispatch_keeps {r s : State} (h_s : Keeps r s) :
    Keeps r (State.dispatch s) := by
  unfold State.dispatch
  repeat' first
    | with_reducible assumption
    | with_reducible apply State.descEnd_keeps
    | with_reducible apply State.dispatchDesc_keeps
    | split

theorem State.fenceDesc_keeps {r s : State} {a1 a2} (h_s : Keeps r s) :
    Keeps r (State.fenceDesc s a1 a2) := by
  unfold State.fenceDesc
  repeat' first
    | with_reducible assumption
    | (extract_lets +onlyGivenNames x; clear_value x)
    | with_reducible apply State.onVf_keeps
    | with_reducible apply State.descEnd_keeps
    | split

theorem State.saveDone_keeps {r s : State} {a1 a2 a3} (h_s : Keeps r s) :
    Keeps r (State.saveDone s a1 a2 a3) := by
  unfold State.saveDone
  repeat' first
    | with_reducible assumption
    | with_reducible apply State.vfcEnd_keeps
    | split

theorem State.vfFreeze_keeps {r s : State} {a1 a2} (h_s : Keeps r s) :
    Keeps r (State.vfFreeze s a1 a2) := by
  unfold State.vfFreeze
  repeat' first
    | with_reducible assumption
    | intro _
    | with_reducible apply State.vfCommand_keeps
    | with_reducible apply State.onVf_keeps

theorem State.vfResume_keeps {r s : State} {a1 a2} (h_s : Keeps r s) :
    Keeps r (State.vfResume s a1 a2) := by
  unfold State.vfResume
  repeat' first
    | with_reducible assumption
    | intro _
    | with_reducible apply State.vfCommand_keeps
    | with_reducible apply State.sendPending_keeps
    | with_reducible apply State.vfcEnd_keeps
    | with_reducible apply State.onVf_keeps

theorem State.workEnded_keeps {r s : State} {a1 a2 a3} (h_s : Keeps r s) :
    Keeps r (State.workEnded s a1 a2 a3) := by
  unfold State.workEnded
  repeat' first
    | with_reducible assumption
    | (extract_lets +onlyGivenNames x
       first
       | (refine Keeps.cut (r := r) (x := x) ?_ ?_ <;> first | (intro _; clear_value x) | (unfold x; clear x))
       | clear_value x)
    | with_reducible apply State.putVf_keeps
    | with_reducible apply State.complete_keeps
    | split

theorem State.runDesc_keeps {r s : State} {a1 a2} (h_s : Keeps r s) :
    Keeps r (State.runDesc s a1 a2) := by
  unfold State.runDesc
  repeat' first
    | with_reducible assumption
    | with_reducible apply State.descEnd_keeps
    | with_reducible apply State.dispatchDesc_keeps
    | split

theorem State.vfRestore_keeps {r s : State} {a1 a2} (h_s : Keeps r s) :
    Keeps r (State.vfRestore s a1 a2) := by
  unfold State.vfRestore
  repeat' first
    | with_reducible assumption
    | intro _
    | (extract_lets +onlyGivenNames x; clear_value x)
    | with_reducible apply State.vfCommand_keeps
    | with_reducible apply State.vfcEnd_keeps
    | with_reducible apply State.tfbDenied_keeps
    | with_reducible apply State.hostFetch_keeps
    | with_reducible apply State.onVf_keeps
    | split
    | (with_reducible refine KeepsO.elim (by with_reducible assumption) ?_)

theorem State.cplWriteFail_keeps {r s : State} {a1 a2} (h_s : Keeps r s) :
    Keeps r (State.cplWriteFail s a1 a2) := by
  unfold State.cplWriteFail
  repeat' first
    | with_reducible assumption
    | with_reducible apply State.cplFail_keeps
    | split

theorem State.abortHeads_keeps {r s : State} {a1} (h_s : Keeps r s) :
    Keeps r (State.abortHeads s a1) := by
  unfold State.abortHeads
  repeat' first
    | with_reducible assumption
    | intro _
    | with_reducible apply forEach_keeps
    | with_reducible apply State.descEnd_keeps

theorem State.nopDesc_keeps {r s : State} {a1 a2} (h_s : Keeps r s) :
    Keeps r (State.nopDesc s a1 a2) := by
  unfold State.nopDesc
  repeat' first
    | with_reducible assumption
    | with_reducible apply State.descEnd_keeps
    | split

theorem State.vfcCmd_keeps {r s : State} {a1 a2 a3} (h_s : Keeps r s) :
    Keeps r (State.vfcCmd s a1 a2 a3) := by
  unfold State.vfcCmd
  repeat' first
    | with_reducible assumption
    | with_reducible apply State.vfFreeze_keeps
    | with_reducible apply State.vfSave_keeps
    | with_reducible apply State.vfRestore_keeps
    | with_reducible apply State.vfResume_keeps
    | with_reducible apply State.bump_keeps
    | split

theorem State.abortDescs_keeps {r s : State} {a1 a2} (h_s : Keeps r s) :
    Keeps r (State.abortDescs s a1 a2) := by
  unfold State.abortDescs
  repeat' first
    | with_reducible assumption
    | with_reducible apply State.abortHeads_keeps
    | with_reducible apply State.onVf_keeps

theorem State.fetchFail_keeps {r s : State} {a1 a2 a3} (h_s : Keeps r s) :
    Keeps r (State.fetchFail s a1 a2 a3) := by
  unfold State.fetchFail
  repeat' first
    | with_reducible assumption
    | (extract_lets +onlyGivenNames x; (refine Keeps.cut (r := r) (x := x) ?_ ?_ <;> first | (intro _; clear_value x) | (unfold x; clear x)))
    | with_reducible apply State.onVf_keeps
    | with_reducible apply State.abortHeads_keeps
    | with_reducible apply State.complete_keeps
    | with_reducible apply State.raise_keeps
    | with_reducible apply State.queueStop_keeps

theorem State.fetchEnded_keeps {r s : State} {a1 a2} (h_s : Keeps r s) :
    Keeps r (State.fetchEnded s a1 a2) := by
  unfold State.fetchEnded
  repeat' first
    | with_reducible assumption
    | with_reducible apply State.vfcEnd_keeps
    | with_reducible apply State.fetchFail_keeps
    | split

theorem State.pfBar_keeps {r s : State} {f a2 a3 a4} (h_s : Keeps r s) (h_f : ∀ x0 x1, Keeps r x1 → Keeps r (f x0 x1)) :
    Keeps r (State.pfBar s f a2 a3 a4) := by
  unfold State.pfBar
  repeat' first
    | with_reducible assumption
    | intro _
    | (extract_lets +onlyGivenNames x
       first
       | (refine Keeps.cut (r := r) (x := x) ?_ ?_ <;> first | (intro _; clear_value x) | (unfold x; clear x))
       | clear_value x)
    | with_reducible apply State.pfIntCause_keeps
    | with_reducible apply State.putPf_keeps
    | with_reducible apply State.pfEventWrite_keeps
    | with_reducible apply when_keeps
    | with_reducible apply State.mbxRelease_keeps
    | with_reducible apply State.putMailbox_keeps
    | with_reducible apply State.msixWrite_keeps
    | with_reducible apply State.vfcCmd_keeps
    | with_reducible apply State.onVf_keeps
    | with_reducible apply h_f
    | split

theorem State.sqDisable_keeps {r s : State} {a1 a2} (h_s : Keeps r s) :
    Keeps r (State.sqDisable s a1 a2) := by
  unfold State.sqDisable
  repeat' first
    | with_reducible assumption
    | (extract_lets +onlyGivenNames x; (refine Keeps.cut (r := r) (x := x) ?_ ?_ <;> first | (intro _; clear_value x) | (unfold x; clear x)))
    | with_reducible apply State.onVf_keeps
    | with_reducible apply State.abortDescs_keeps
    | split

theorem State.vfReset_keeps {r s : State} {a1} (h_s : Keeps r s) :
    Keeps r (State.vfReset s a1) := by
  unfold State.vfReset
  repeat' first
    | with_reducible assumption
    | intro _
    | (extract_lets +onlyGivenNames x
       first
       | (refine Keeps.cut (r := r) (x := x) ?_ ?_ <;> first | (intro _; clear_value x) | (unfold x; clear x))
       | clear_value x)
    | with_reducible apply when_keeps
    | with_reducible apply State.vfEvent_keeps
    | with_reducible apply State.putVf_keeps
    | with_reducible apply State.dropFunc_keeps
    | with_reducible apply State.stopWhere_keeps
    | with_reducible apply State.cicRaise_keeps
    | with_reducible apply forEach_keeps
    | with_reducible apply State.bump_keeps
    | with_reducible apply State.completeError_keeps
    | with_reducible apply State.dropMsg_keeps
    | split

theorem State.descriptorFetch_keeps {r s : State} (h_s : Keeps r s) :
    Keeps r (State.descriptorFetch s) := by
  unfold State.descriptorFetch
  repeat' first
    | with_reducible assumption
    | (extract_lets +onlyGivenNames x
       first
       | (refine Keeps.cut (r := r) (x := x) ?_ ?_ <;> first | (intro _; clear_value x) | (unfold x; clear x))
       | clear_value x)
    | with_reducible apply State.putVf_keeps
    | with_reducible apply State.fetchFail_keeps
    | with_reducible apply State.tfbDenied_keeps
    | with_reducible apply State.hostFetch_keeps
    | with_reducible apply State.atsAsk_keeps
    | split
    | (with_reducible refine KeepsO.elim (by with_reducible assumption) ?_)
    | with_reducible refine Keeps.upd ?_ rfl rfl rfl rfl rfl rfl rfl

theorem State.descriptorFetched_keeps {r s : State} {a1 a2 a3} (h_s : Keeps r s) :
    Keeps r (State.descriptorFetched s a1 a2 a3) := by
  unfold State.descriptorFetched
  repeat' first
    | with_reducible assumption
    | (extract_lets +onlyGivenNames x
       first
       | (refine Keeps.cut (r := r) (x := x) ?_ ?_ <;> first | (intro _; clear_value x) | (unfold x; clear x))
       | clear_value x)
    | with_reducible apply State.lateResponse_keeps
    | with_reducible apply State.releaseTracker_keeps
    | with_reducible apply State.fetchFail_keeps
    | with_reducible apply State.onVf_keeps
    | with_reducible apply State.abortHeads_keeps
    | with_reducible apply State.descEnd_keeps
    | split

theorem State.queueEcc_keeps {r s : State} {a1 a2} (h_s : Keeps r s) :
    Keeps r (State.queueEcc s a1 a2) := by
  unfold State.queueEcc
  repeat' first
    | with_reducible assumption
    | intro _
    | (extract_lets +onlyGivenNames x; (refine Keeps.cut (r := r) (x := x) ?_ ?_ <;> first | (intro _; clear_value x) | (unfold x; clear x)))
    | with_reducible apply State.raise_keeps
    | with_reducible apply State.abortDescs_keeps
    | with_reducible apply forEach_keeps
    | with_reducible apply State.queueStop_keeps
    | with_reducible apply State.raiseGrave_keeps
    | split

theorem State.vfEnable_keeps {r s : State} {a1 a2} (h_s : Keeps r s) :
    Keeps r (State.vfEnable s a1 a2) := by
  unfold State.vfEnable
  repeat' first
    | with_reducible assumption
    | intro _
    | (extract_lets +onlyGivenNames x; clear_value x)
    | with_reducible apply State.bump_keeps
    | with_reducible apply forEach_keeps
    | with_reducible apply State.onVf_keeps
    | with_reducible apply State.putPf_keeps
    | with_reducible apply State.vfReset_keeps
    | split

theorem State.vfBar_keeps {r s : State} {a1 a2 a3 a4} (h_s : Keeps r s) : Keeps r (State.vfBar s a1 a2 a3 a4) := by
  unfold State.vfBar
  refine Keeps.ite (State.sqTail_keeps h_s) (Keeps.ite (State.cqHead_keeps h_s) (Keeps.ite (Keeps.ite (State.msixWrite_keeps h_s) h_s)
    (Keeps.ite h_s (Keeps.ite (State.vfErrWrite_keeps h_s) (Keeps.ite (State.onVf_keeps h_s) (Keeps.ite ?_ (Keeps.ite ?_ h_s)))))))
  · extract_lets q sq put
    have hp : ∀ y, Keeps r (put y) := fun _ => State.onVf_keeps h_s
    clear_value put
    generalize (a3 - 64) % 16 = o
    split
    · exact Keeps.ite h_s (hp _)
    · exact Keeps.ite h_s (hp _)
    · exact Keeps.ite h_s (hp _)
    · exact Keeps.ite (State.sqEnable_keeps h_s) (State.sqDisable_keeps h_s)
  · extract_lets q c put
    have hp : ∀ y, Keeps r (put y) := fun _ => State.onVf_keeps h_s
    clear_value put
    generalize (a3 - 128) % 32 = o
    split
    · exact Keeps.ite h_s (hp _)
    · exact Keeps.ite h_s (hp _)
    · exact Keeps.ite h_s (hp _)
    · exact Keeps.ite (State.cqEnable_keeps h_s) (State.cqDisable_keeps h_s)
    · exact hp _
    · exact h_s

theorem State.pfReset_keeps {r s : State} {a1} (h_s : Keeps r s) :
    Keeps r (State.pfReset s a1) := by
  unfold State.pfReset
  repeat' first
    | with_reducible assumption
    | intro _
    | (extract_lets +onlyGivenNames x; (refine Keeps.cut (r := r) (x := x) ?_ ?_ <;> first | (intro _; clear_value x) | (unfold x; clear x)))
    | with_reducible apply forEach_keeps
    | with_reducible apply State.vfReset_keeps
    | with_reducible apply State.bump_keeps
    | with_reducible apply State.putMailbox_keeps
    | with_reducible apply State.putPf_keeps
    | with_reducible apply State.dropFunc_keeps
    | split

theorem State.initiateFlr_keeps {r s : State} {a1} (h_s : Keeps r s) :
    Keeps r (State.initiateFlr s a1) := by
  unfold State.initiateFlr
  repeat' first
    | with_reducible assumption
    | with_reducible apply State.pfReset_keeps
    | with_reducible apply State.vfReset_keeps
    | split

theorem State.barDword_keeps {r s : State} {f a2 a3 a4} (h_s : Keeps r s) (h_f : ∀ x0 x1, Keeps r x1 → Keeps r (f x0 x1)) :
    Keeps r (State.barDword s f a2 a3 a4) := by
  unfold State.barDword
  repeat' first
    | with_reducible assumption
    | with_reducible apply State.pfBar_keeps
    | with_reducible apply State.vfBar_keeps
    | split

theorem State.barWrite_keeps {r s : State} {f a2 a3 a4 a5} (h_s : Keeps r s) (h_f : ∀ x0 x1, Keeps r x1 → Keeps r (f x0 x1)) :
    Keeps r (State.barWrite s f a2 a3 a4 a5) := by
  unfold State.barWrite
  repeat' first
    | with_reducible assumption
    | with_reducible apply State.bump_keeps
    | with_reducible apply State.barDword_keeps
    | split

theorem State.portFuncReset_keeps {r s : State} {a1} (h_s : Keeps r s) :
    Keeps r (State.portFuncReset s a1) := by
  unfold State.portFuncReset
  repeat' first
    | with_reducible assumption
    | (extract_lets +onlyGivenNames x; clear_value x)
    | with_reducible apply State.putPort_keeps
    | with_reducible apply State.pfReset_keeps

theorem State.atsEngine_keeps {r s : State} {a1 a2} (h_s : Keeps r s) :
    Keeps r (State.atsEngine s a1 a2) := by
  unfold State.atsEngine
  repeat' first
    | with_reducible assumption
    | (extract_lets +onlyGivenNames x; clear_value x)
    | with_reducible apply State.engSend_keeps
    | split

theorem State.atsRefused_keeps {r s : State} {a1} (h_s : Keeps r s) :
    Keeps r (State.atsRefused s a1) := by
  unfold State.atsRefused
  repeat' first
    | with_reducible assumption
    | with_reducible apply State.fetchFail_keeps
    | with_reducible apply State.cplFail_keeps
    | with_reducible apply State.engAnswer_keeps
    | split

theorem State.atsFails_keeps {r s : State} {a1 a2} (h_s : Keeps r s) :
    Keeps r (State.atsFails s a1 a2) := by
  unfold State.atsFails
  repeat' first
    | with_reducible assumption
    | intro _
    | (extract_lets +onlyGivenNames x; clear_value x)
    | with_reducible apply forEach_keeps
    | with_reducible apply State.atsRefused_keeps
    | with_reducible refine Keeps.upd ?_ rfl rfl rfl rfl rfl rfl rfl

theorem State.translationDone_keeps {r s : State} {a1 a2 a3 a4} (h_s : Keeps r s) :
    Keeps r (State.translationDone s a1 a2 a3 a4) := by
  unfold State.translationDone
  repeat' first
    | with_reducible assumption
    | intro _
    | (extract_lets +onlyGivenNames x
       first
       | (refine Keeps.cut (r := r) (x := x) ?_ ?_ <;> first | (intro _; clear_value x) | (unfold x; clear x))
       | clear_value x)
    | with_reducible apply State.lateResponse_keeps
    | with_reducible apply State.releaseTracker_keeps
    | with_reducible apply State.atsFails_keeps
    | with_reducible apply forEach_keeps
    | with_reducible apply State.hostFetch_keeps
    | with_reducible apply State.atsEngine_keeps
    | with_reducible apply State.atsNext_keeps
    | with_reducible apply State.atsSend_keeps
    | split
    | with_reducible apply Keeps.iter
    | (with_reducible refine KeepsO.elim (by with_reducible assumption) ?_)
    | with_reducible refine Keeps.upd ?_ rfl rfl rfl rfl rfl rfl rfl

end Sys2Proof.Machine
end

