-- ==== Sys2Proof/Laws/KeepsBoot.lean ====
section
/-! SUPPORT. What every command keeps, for the operations of the management function, power-up, power states and the hooks: one lemma for each operation, which says that
it keeps what `Keeps` speaks of. -/

namespace Sys2Proof.Machine

set_option Elab.async false

theorem State.railUp_keeps {r s : State} {a1} (h_s : Keeps r s) :
    Keeps r (State.railUp s a1) := by
  unfold State.railUp
  repeat' first
    | with_reducible assumption
    | (extract_lets +onlyGivenNames x; clear_value x)
    | split
    | with_reducible refine Keeps.upd ?_ rfl rfl rfl rfl rfl rfl rfl

theorem only_keeps {r s : State} {a0} (h_s : Keeps r s) :
    Keeps r (only a0 s).2 := by
  unfold only
  repeat' first
    | with_reducible assumption
    | split

theorem State.putInactive_keeps {r s : State} {a1} (h_s : Keeps r s) :
    Keeps r (State.putInactive s a1) := by
  unfold State.putInactive
  repeat' first
    | with_reducible assumption
    | (extract_lets +onlyGivenNames x; clear_value x)
    | split
    | with_reducible refine Keeps.upd ?_ rfl rfl rfl rfl rfl rfl rfl

theorem State.fallowSync_keeps {r s : State} (h_s : Keeps r s) :
    Keeps r (State.fallowSync s) := by
  unfold State.fallowSync
  repeat' first
    | with_reducible assumption
    | (extract_lets +onlyGivenNames x; clear_value x)
    | with_reducible apply State.wr_keeps
    | split
    | with_reducible refine Keeps.upd ?_ rfl rfl rfl rfl rfl rfl rfl

theorem State.fallowWake_keeps {r s : State} {a1} (h_s : Keeps r s) :
    Keeps r (State.fallowWake s a1) := by
  unfold State.fallowWake
  repeat' first
    | with_reducible assumption
    | with_reducible apply State.fallowSync_keeps
    | with_reducible apply State.wrBit_keeps
    | split

theorem State.logBoot_keeps {r s : State} (h_s : Keeps r s) :
    Keeps r (State.logBoot s) := by
  unfold State.logBoot
  repeat' first
    | with_reducible assumption
    | (extract_lets +onlyGivenNames x; clear_value x)
    | with_reducible refine Keeps.upd ?_ rfl rfl rfl rfl rfl rfl rfl

theorem State.hdmCommit_keeps {r s : State} {a1 a2 a3} (h_s : Keeps r s) :
    Keeps r (State.hdmCommit s a1 a2 a3) := by
  unfold State.hdmCommit
  repeat' first
    | with_reducible assumption
    | (extract_lets +onlyGivenNames x; clear_value x)
    | with_reducible apply State.putPort_keeps
    | split

theorem State.fwVerified_keeps {r s : State} (h_s : Keeps r s) :
    Keeps r (State.fwVerified s) := by
  unfold State.fwVerified
  repeat' first
    | with_reducible assumption
    | with_reducible apply State.wr_keeps
    | split

theorem State.uartReport_keeps {r s : State} (h_s : Keeps r s) :
    Keeps r (State.uartReport s) := by
  unfold State.uartReport
  repeat' first
    | with_reducible assumption
    | (extract_lets +onlyGivenNames x; clear_value x)
    | with_reducible apply State.emit_keeps
    | split

theorem State.alertEnd_keeps {r s : State} (h_s : Keeps r s) :
    Keeps r (State.alertEnd s) := by
  unfold State.alertEnd
  repeat' first
    | with_reducible assumption
    | (extract_lets +onlyGivenNames x; clear_value x)
    | with_reducible refine Keeps.upd ?_ rfl rfl rfl rfl rfl rfl rfl

theorem State.fwCtrl_keeps {r s : State} {a1} (h_s : Keeps r s) :
    Keeps r (State.fwCtrl s a1).2 := by
  unfold State.fwCtrl
  repeat' first
    | with_reducible assumption
    | (extract_lets +onlyGivenNames x; clear_value x)
    | with_reducible apply State.wr_keeps
    | with_reducible apply State.putInactive_keeps
    | split
    | with_reducible refine Keeps.upd ?_ rfl rfl rfl rfl rfl rfl rfl

theorem State.wakeRails_keeps {r s : State} (h_s : Keeps r s) :
    Keeps r (State.wakeRails s) := by
  unfold State.wakeRails
  repeat' first
    | with_reducible assumption
    | (extract_lets +onlyGivenNames x; clear_value x)
    | with_reducible refine Keeps.upd ?_ rfl rfl rfl rfl rfl rfl rfl

theorem State.fallowRequest_keeps {r s : State} (h_s : Keeps r s) :
    Keeps r (State.fallowRequest s) := by
  unfold State.fallowRequest
  repeat' first
    | with_reducible assumption
    | (extract_lets +onlyGivenNames x; clear_value x)
    | with_reducible apply State.enterMode_keeps
    | with_reducible refine Keeps.upd ?_ rfl rfl rfl rfl rfl rfl rfl

theorem State.wearLimit_keeps {r s : State} (h_s : Keeps r s) :
    Keeps r (State.wearLimit s) := by
  unfold State.wearLimit
  repeat' first
    | with_reducible assumption
    | with_reducible apply State.wr_keeps
    | split

theorem State.spdmSay_keeps {r s : State} {a1 a2} (h_s : Keeps r s) :
    Keeps r (State.spdmSay s a1 a2) := by
  unfold State.spdmSay
  repeat' first
    | with_reducible assumption
    | with_reducible apply State.emit_keeps
    | with_reducible apply State.tick_keeps

theorem State.rbReset_keeps {r s s1 : State} (h_s : Keeps r s) (_h_s1 : Keeps r s1) :
    Keeps r (State.rbReset s s1) := by
  unfold State.rbReset
  repeat' first
    | with_reducible assumption
    | with_reducible apply State.wr_keeps
    | split

theorem State.putAer_keeps {r s : State} {a1 a2 a3} (h_s : Keeps r s) :
    Keeps r (State.putAer s a1 a2 a3) := by
  unfold State.putAer
  repeat' first
    | with_reducible assumption
    | (extract_lets +onlyGivenNames x; clear_value x)
    | with_reducible apply State.putPort_keeps
    | split

theorem State.refclkValid_keeps {r s : State} (h_s : Keeps r s) :
    Keeps r (State.refclkValid s) := by
  unfold State.refclkValid
  repeat' first
    | with_reducible assumption
    | (extract_lets +onlyGivenNames x; clear_value x)
    | split
    | with_reducible refine Keeps.upd ?_ rfl rfl rfl rfl rfl rfl rfl

theorem State.railsDown_keeps {r s : State} (h_s : Keeps r s) :
    Keeps r (State.railsDown s) := by
  unfold State.railsDown
  repeat' first
    | with_reducible assumption
    | (extract_lets +onlyGivenNames x; clear_value x)
    | split
    | with_reducible refine Keeps.upd ?_ rfl rfl rfl rfl rfl rfl rfl

theorem State.putSpdm_keeps {r s : State} {a1 a2} (h_s : Keeps r s) :
    Keeps r (State.putSpdm s a1 a2) := by
  unfold State.putSpdm
  repeat' first
    | with_reducible assumption
    | (extract_lets +onlyGivenNames x; clear_value x)
    | with_reducible apply State.putPort_keeps

theorem State.countBoot_keeps {r s : State} (h_s : Keeps r s) :
    Keeps r (State.countBoot s) := by
  unfold State.countBoot
  repeat' first
    | with_reducible assumption
    | (extract_lets +onlyGivenNames x; clear_value x)
    | with_reducible refine Keeps.upd ?_ rfl rfl rfl rfl rfl rfl rfl

theorem State.testRan_keeps {r s : State} {a1 a2} (h_s : Keeps r s) :
    Keeps r (State.testRan s a1 a2) := by
  unfold State.testRan
  repeat' first
    | with_reducible assumption
    | (extract_lets +onlyGivenNames x
       first
       | (refine Keeps.cut (r := r) (x := x) ?_ ?_ <;> first | (intro _; clear_value x) | (unfold x; clear x))
       | clear_value x)
    | with_reducible apply State.wrBit_keeps
    | with_reducible refine Keeps.upd ?_ rfl rfl rfl rfl rfl rfl rfl

theorem State.fmApi_keeps {r s : State} {a1 a2 a3} (h_s : Keeps r s) :
    Keeps r (State.fmApi s a1 a2 a3) := by
  unfold State.fmApi
  repeat' first
    | with_reducible assumption
    | (extract_lets +onlyGivenNames x; clear_value x)
    | with_reducible apply State.emit_keeps
    | split
    | with_reducible refine Keeps.upd ?_ rfl rfl rfl rfl rfl rfl rfl

theorem State.faultAck_keeps {r s : State} {a1} (h_s : Keeps r s) :
    Keeps r (State.faultAck s a1).2 := by
  unfold State.faultAck
  repeat' first
    | with_reducible assumption
    | (extract_lets +onlyGivenNames x
       first
       | (refine Keeps.cut (r := r) (x := x) ?_ ?_ <;> first | (intro _; clear_value x) | (unfold x; clear x))
       | (have _ : Collector := x; unfold x; clear x)
       | clear_value x)
    | split
    | dsimp -zeta only
    | with_reducible refine Keeps.upd ?_ rfl rfl rfl rfl rfl rfl rfl

theorem State.fwChunk_keeps {r s : State} {a1} (h_s : Keeps r s) :
    Keeps r (State.fwChunk s a1).2 := by
  unfold State.fwChunk
  repeat' first
    | with_reducible assumption
    | (extract_lets +onlyGivenNames x; clear_value x)
    | with_reducible apply State.wr_keeps
    | with_reducible apply State.putInactive_keeps
    | split

theorem State.spdmError_keeps {r s : State} {a1 a2} (h_s : Keeps r s) :
    Keeps r (State.spdmError s a1 a2) := by
  unfold State.spdmError
  repeat' first
    | with_reducible assumption
    | with_reducible apply State.emit_keeps

theorem State.fallowGate_keeps {r s : State} {a1} (h_s : Keeps r s) :
    Keeps r (State.fallowGate s a1) := by
  unfold State.fallowGate
  repeat' first
    | with_reducible assumption
    | with_reducible apply State.fallowSync_keeps
    | with_reducible apply State.wrBit_keeps
    | split

theorem State.putIde_keeps {r s : State} {a1 a2 a3 a4} (h_s : Keeps r s) :
    Keeps r (State.putIde s a1 a2 a3 a4) := by
  unfold State.putIde
  repeat' first
    | with_reducible assumption
    | (extract_lets +onlyGivenNames x
       first
       | (refine Keeps.cut (r := r) (x := x) ?_ ?_ <;> first | (intro _; clear_value x) | (unfold x; clear x))
       | clear_value x)
    | with_reducible apply State.putPort_keeps
    | with_reducible apply State.wr_keeps

theorem State.slotKeep_keeps {r s s1 : State} (h_s : Keeps r s) (_h_s1 : Keeps r s1) :
    Keeps r (State.slotKeep s s1) := by
  unfold State.slotKeep
  repeat' first
    | with_reducible assumption
    | intro _
    | (extract_lets +onlyGivenNames x; (refine Keeps.cut (r := r) (x := x) ?_ ?_ <;> first | (intro _; clear_value x) | (unfold x; clear x)))
    | with_reducible apply forEach_keeps
    | with_reducible apply State.wr_keeps
    | with_reducible refine Keeps.upd ?_ rfl rfl rfl rfl rfl rfl rfl

theorem State.coldBoot_keeps {r s : State} {a1 a2 a3} (h_s : Keeps r s) :
    Keeps r (State.coldBoot s a1 a2 a3) := by
  unfold State.coldBoot
  repeat' first
    | with_reducible assumption
    | (extract_lets +onlyGivenNames x
       first
       | (refine Keeps.cut (r := r) (x := x) ?_ ?_ <;> first | (intro _; clear_value x) | (unfold x; clear x))
       | clear_value x)
    | with_reducible apply State.wr_keeps
    | split
    | with_reducible refine Keeps.upd ?_ rfl rfl rfl rfl rfl rfl rfl

theorem State.wakeEvent_keeps {r s : State} {a1} (h_s : Keeps r s) :
    Keeps r (State.wakeEvent s a1) := by
  unfold State.wakeEvent
  repeat' first
    | with_reducible assumption
    | (extract_lets +onlyGivenNames x; clear_value x)
    | with_reducible apply State.wr_keeps
    | with_reducible apply State.wakeRails_keeps
    | split
    | with_reducible refine Keeps.upd ?_ rfl rfl rfl rfl rfl rfl rfl

theorem State.fenceCore_keeps {r s : State} {a1} (h_s : Keeps r s) :
    Keeps r (State.fenceCore s a1) := by
  unfold State.fenceCore
  repeat' first
    | with_reducible assumption
    | (extract_lets +onlyGivenNames x
       first
       | (refine Keeps.cut (r := r) (x := x) ?_ ?_ <;> first | (intro _; clear_value x) | (unfold x; clear x))
       | clear_value x)
    | with_reducible apply State.cicFence_keeps
    | with_reducible apply State.putThread_keeps
    | with_reducible refine Keeps.upd ?_ rfl rfl rfl rfl rfl rfl rfl

theorem bucketsApplied_keeps {r s s1 : State} {a1} (h_s : Keeps r s) (h_s1 : Keeps r s1) :
    Keeps r (bucketsApplied s a1 s1) := by
  unfold bucketsApplied
  repeat' first
    | with_reducible assumption
    | intro _
    | with_reducible apply forEach_keeps
    | with_reducible apply State.rebucket_keeps

theorem State.enterUart_keeps {r s : State} (h_s : Keeps r s) :
    Keeps r (State.enterUart s) := by
  unfold State.enterUart
  repeat' first
    | with_reducible assumption
    | (extract_lets +onlyGivenNames x; clear_value x)
    | with_reducible apply State.logBoot_keeps
    | with_reducible refine Keeps.upd ?_ rfl rfl rfl rfl rfl rfl rfl

theorem State.bothyWindow_keeps {r s : State} (h_s : Keeps r s) :
    Keeps r (State.bothyWindow s) := by
  unfold State.bothyWindow
  repeat' first
    | with_reducible assumption
    | (extract_lets +onlyGivenNames x; clear_value x)
    | with_reducible apply State.windowTick_keeps
    | split
    | with_reducible refine Keeps.upd ?_ rfl rfl rfl rfl rfl rfl rfl

theorem State.bootAgain_keeps {r s : State} (h_s : Keeps r s) :
    Keeps r (State.bootAgain s) := by
  unfold State.bootAgain
  repeat' first
    | with_reducible assumption
    | (extract_lets +onlyGivenNames x
       first
       | (refine Keeps.cut (r := r) (x := x) ?_ ?_ <;> first | (intro _; clear_value x) | (unfold x; clear x))
       | (have _ : Drv := x; unfold x; clear x)
       | clear_value x)
    | with_reducible apply State.closeWhere_keeps
    | with_reducible apply State.wr_keeps
    | with_reducible refine Keeps.upd ?_ rfl rfl rfl rfl rfl rfl rfl

theorem State.transportWrite_keeps {r s : State} {a1} (h_s : Keeps r s) :
    Keeps r (State.transportWrite s a1) := by
  unfold State.transportWrite
  repeat' first
    | with_reducible assumption
    | with_reducible apply State.closeWhere_keeps

theorem State.barReadTlp_keeps {r s : State} {a1 a2 a3 a4} (h_s : Keeps r s) :
    Keeps r (State.barReadTlp s a1 a2 a3 a4) := by
  unfold State.barReadTlp
  repeat' first
    | with_reducible assumption
    | intro _
    | with_reducible apply State.emit_keeps
    | with_reducible apply when_keeps
    | with_reducible apply State.bump_keeps

theorem State.keyWrite_keeps {r s : State} {a1 a2} (h_s : Keeps r s) :
    Keeps r (State.keyWrite s a1 a2) := by
  unfold State.keyWrite
  repeat' first
    | with_reducible assumption
    | (extract_lets +onlyGivenNames x
       first
       | (refine Keeps.cut (r := r) (x := x) ?_ ?_ <;> first | (intro _; clear_value x) | (unfold x; clear x))
       | clear_value x)
    | with_reducible apply State.closeWhere_keeps
    | split
    | with_reducible refine Keeps.upd ?_ rfl rfl rfl rfl rfl rfl rfl

theorem State.cicCfgApplied_keeps {r s s1 : State} {a2} (_h_s : Keeps r s) (h_s1 : Keeps r s1) :
    Keeps r (State.cicCfgApplied s s1 a2) := by
  unfold State.cicCfgApplied
  repeat' first
    | with_reducible assumption
    | (extract_lets +onlyGivenNames x; clear_value x)
    | with_reducible apply State.cicPolarity_keeps
    | with_reducible apply State.wrBits_keeps
    | split

theorem State.replay_keeps {r s : State} {H} (h_H : Hooks.Keeps H) (h_s : Keeps r s) :
    KeepsO r (State.replay H s) := by
  unfold State.replay
  repeat' first
    | with_reducible assumption
    | (extract_lets +onlyGivenNames x; clear_value x)
    | with_reducible apply validate_keeps
    | with_reducible apply h_H.applied
    | split
    | with_reducible apply KeepsO.none
    | with_reducible apply KeepsO.some
    | (with_reducible refine KeepsE.elim (by with_reducible assumption) ?_)

theorem State.tallyApplied_keeps {r s : State} {a1} (h_s : Keeps r s) :
    Keeps r (State.tallyApplied s a1) := by
  unfold State.tallyApplied
  repeat' first
    | with_reducible assumption
    | with_reducible apply State.cicTally_keeps
    | with_reducible apply State.wrBit_keeps
    | with_reducible apply State.tallyPut_keeps

theorem croftWrite_keeps {r s : State} {a0 a1 a2} (h_s : Keeps r s) :
    KeepsP r (croftWrite a0 a1 a2 s) := by
  unfold croftWrite
  repeat' first
    | with_reducible assumption
    | (extract_lets +onlyGivenNames x
       first
       | (have _ : Dict := x; unfold x; clear x)
       | clear_value x)
    | with_reducible apply State.keyWrite_keeps
    | with_reducible apply only_keeps
    | with_reducible apply State.transportWrite_keeps
    | with_reducible apply State.fwCtrl_keeps
    | with_reducible apply State.fwChunk_keeps
    | with_reducible apply State.tallyOvfClear_keeps
    | split
    | with_reducible apply KeepsP.none
    | with_reducible apply KeepsP.some
    | dsimp -zeta only
    | with_reducible refine Keeps.upd ?_ rfl rfl rfl rfl rfl rfl rfl

theorem State.coldState_keeps {r s : State} {a1 a3} (h_s : Keeps r s) : Keeps r (State.coldState s a1 false a3) := by
  unfold State.coldState
  extract_lets s0 latch m s1
  have h0 : Keeps r s0 := State.slotsOff_keeps h_s
  have h1 : Keeps r s1 := by
    refine Keeps.tables h0 (fun i => ⟨rfl, rfl, rfl, ?_, rfl, rfl, rfl⟩) (fun h => ?_)
    · cases a3
      · rfl
      · exact i.cells
    · exact (Bool.and_true _).trans h
  clear_value s1
  exact State.govSync_keeps (State.wr_keeps (State.wearLimit_keeps (when_keeps (fun _ h => State.rbReset_keeps h h0) h1)))

theorem deviceApplied_keeps {r s s1 : State} {a1} (h_s : Keeps r s) (h_s1 : Keeps r s1) :
    Keeps r (deviceApplied s a1 s1) := by
  unfold deviceApplied
  repeat' first
    | with_reducible assumption
    | intro _
    | (extract_lets +onlyGivenNames x
       first
       | (refine Keeps.cut (r := r) (x := x) ?_ ?_ <;> first | (intro _; clear_value x) | (unfold x; clear x))
       | clear_value x)
    | with_reducible apply forEach_keeps
    | with_reducible apply State.cicCfgApplied_keeps
    | with_reducible apply State.tallyApplied_keeps
    | with_reducible apply State.putWindow_keeps
    | with_reducible apply when_keeps
    | with_reducible apply State.layoutSync_keeps
    | with_reducible apply State.slotApply_keeps
    | with_reducible apply State.govSync_keeps
    | split

theorem State.phaseBEnd_keeps {r s : State} (h_s : Keeps r s) :
    Keeps r (State.phaseBEnd s) := by
  unfold State.phaseBEnd
  repeat' first
    | with_reducible assumption
    | intro _
    | (extract_lets +onlyGivenNames x; (refine Keeps.cut (r := r) (x := x) ?_ ?_ <;> first | (intro _; clear_value x) | (unfold x; clear x)))
    | with_reducible apply forEach_keeps
    | with_reducible apply State.wrBits_keeps
    | with_reducible apply State.wrBit_keeps
    | with_reducible apply State.selfRefresh_keeps
    | with_reducible apply State.cmnZero_keeps
    | with_reducible apply State.loomSync_keeps
    | with_reducible apply State.wr_keeps
    | split

theorem State.fabricStop_keeps {r s : State} (h_s : Keeps r s) :
    Keeps r (State.fabricStop s) := by
  unfold State.fabricStop
  repeat' first
    | with_reducible assumption
    | intro _
    | (extract_lets +onlyGivenNames x
       first
       | (refine Keeps.cut (r := r) (x := x) ?_ ?_ <;> first | (intro _; clear_value x) | (unfold x; clear x))
       | (have _ : Drv := x; unfold x; clear x)
       | clear_value x)
    | with_reducible apply forEach_keeps
    | with_reducible apply State.lanesOff_keeps
    | with_reducible apply State.wrBit_keeps
    | with_reducible apply State.setTwillState_keeps
    | with_reducible refine Keeps.upd ?_ rfl rfl rfl rfl rfl rfl rfl

theorem State.warmState_keeps {r s : State} {a1} (h_s : Keeps r s) : Keeps r (State.warmState s a1) := by
  unfold State.warmState
  extract_lets s0 b c m s1 s2
  have h0 : Keeps r s0 := State.scrubBreak_keeps h_s
  clear_value s0
  have h1 : Keeps r s1 := Keeps.tables h0 fun i =>
    ⟨Sparse.wf_filter _ _ _ i.nums, Sparse.wf_filter _ _ _ i.octs, Sparse.wf_filter _ _ _ i.vers, i.cells, rfl, rfl, rfl⟩
  clear_value s1
  have h2 : Keeps r s2 := forEach_keeps (fun _ _ h => State.wr_keeps h) h1
  clear_value s2
  exact State.govSync_keeps (State.wrBits_keeps (State.selfRefresh_keeps (State.wr_keeps (State.wearLimit_keeps
    (State.rbReset_keeps (State.slotKeep_keeps h2 h0) h0)))))

theorem State.brownOut_keeps {r s : State} (h_s : Keeps r s) :
    Keeps r (State.brownOut s) := by
  unfold State.brownOut
  repeat' first
    | with_reducible assumption
    | with_reducible apply State.coldState_keeps

theorem State.coldReset_keeps {r s : State} (h_s : Keeps r s) :
    Keeps r (State.coldReset s) := by
  unfold State.coldReset
  repeat' first
    | with_reducible assumption
    | with_reducible apply State.coldState_keeps

theorem State.winter_keeps {r s : State} (h_s : Keeps r s) :
    Keeps r (State.winter s).2 := by
  unfold State.winter
  repeat' first
    | with_reducible assumption
    | (extract_lets +onlyGivenNames x
       first
       | (refine Keeps.cut (r := r) (x := x) ?_ ?_ <;> first | (intro _; clear_value x) | (unfold x; clear x))
       | clear_value x)
    | with_reducible apply State.wr_keeps
    | with_reducible apply State.selfRefresh_keeps
    | split
    | with_reducible refine Keeps.upd ?_ rfl rfl rfl rfl rfl rfl rfl

theorem State.pinfoldRestart_keeps {r s : State} {a1} (h_s : Keeps r s) :
    Keeps r (State.pinfoldRestart s a1) := by
  unfold State.pinfoldRestart
  repeat' first
    | with_reducible assumption
    | (extract_lets +onlyGivenNames x
       first
       | (refine Keeps.cut (r := r) (x := x) ?_ ?_ <;> first | (intro _; clear_value x) | (unfold x; clear x))
       | clear_value x)
    | with_reducible apply State.warmState_keeps
    | with_reducible apply State.logBoot_keeps
    | with_reducible apply State.countBoot_keeps
    | with_reducible apply State.wr_keeps
    | with_reducible refine Keeps.upd ?_ rfl rfl rfl rfl rfl rfl rfl

theorem State.warmReset_keeps {r s : State} {a1} (h_s : Keeps r s) :
    Keeps r (State.warmReset s a1) := by
  unfold State.warmReset
  repeat' first
    | with_reducible assumption
    | intro _
    | (extract_lets +onlyGivenNames x
       first
       | (refine Keeps.cut (r := r) (x := x) ?_ ?_ <;> first | (intro _; clear_value x) | (unfold x; clear x))
       | clear_value x)
    | with_reducible apply State.warmState_keeps
    | with_reducible apply State.pinfoldRestart_keeps
    | with_reducible apply State.countBoot_keeps
    | with_reducible apply when_keeps
    | with_reducible apply State.wr_keeps
    | split
    | with_reducible refine Keeps.upd ?_ rfl rfl rfl rfl rfl rfl rfl

theorem State.faultInject_keeps {r s : State} {a1} (h_s : Keeps r s) :
    Keeps r (State.faultInject s a1).2 := by
  unfold State.faultInject
  repeat' first
    | with_reducible assumption
    | (extract_lets +onlyGivenNames x; clear_value x)
    | with_reducible apply State.raiseAt_keeps
    | split

theorem pathWrite_keeps {r s : State} {a0 a1} (h_s : Keeps r s) :
    KeepsP r (pathWrite a0 a1 s) := by
  unfold pathWrite
  repeat' first
    | with_reducible assumption
    | (extract_lets +onlyGivenNames x; clear_value x)
    | with_reducible apply State.releaseRequest_keeps
    | with_reducible apply only_keeps
    | with_reducible apply State.restoreEntry_keeps
    | with_reducible apply State.gtpLock_keeps
    | with_reducible apply State.ringRead_keeps
    | with_reducible apply State.lookupLine_keeps
    | with_reducible apply State.flushFold_keeps
    | with_reducible apply State.histClear_keeps
    | split
    | with_reducible apply KeepsP.none
    | with_reducible apply KeepsP.some

theorem State.enterPinfold_keeps {r s : State} {a1 a2 a3} (h_s : Keeps r s) :
    Keeps r (State.enterPinfold s a1 a2 a3) := by
  unfold State.enterPinfold
  repeat' first
    | with_reducible assumption
    | intro _
    | (extract_lets +onlyGivenNames x
       first
       | (refine Keeps.cut (r := r) (x := x) ?_ ?_ <;> first | (intro _; clear_value x) | (unfold x; clear x))
       | (have _ : Collector := x; unfold x; clear x)
       | clear_value x)
    | with_reducible apply when_keeps
    | with_reducible apply State.raise_keeps
    | with_reducible apply State.fabricStop_keeps
    | with_reducible apply State.slotsOff_keeps
    | with_reducible apply forEach_keeps
    | with_reducible apply State.moverSync_keeps
    | with_reducible apply State.govSync_keeps
    | with_reducible apply State.wr_keeps
    | with_reducible apply State.selfRefresh_keeps
    | with_reducible apply State.closeWhere_keeps
    | with_reducible apply State.logBoot_keeps
    | with_reducible apply State.alertEnd_keeps
    | split
    | with_reducible refine Keeps.upd ?_ rfl rfl rfl rfl rfl rfl rfl

theorem State.warmPin_keeps {r s : State} (h_s : Keeps r s) :
    Keeps r (State.warmPin s) := by
  unfold State.warmPin
  repeat' first
    | with_reducible assumption
    | (extract_lets +onlyGivenNames x; clear_value x)
    | with_reducible apply State.warmReset_keeps
    | split
    | with_reducible refine Keeps.upd ?_ rfl rfl rfl rfl rfl rfl rfl

theorem State.wakeRetry_keeps {r s : State} (h_s : Keeps r s) :
    Keeps r (State.wakeRetry s) := by
  unfold State.wakeRetry
  repeat' first
    | with_reducible assumption
    | (extract_lets +onlyGivenNames x
       first
       | (refine Keeps.cut (r := r) (x := x) ?_ ?_ <;> first | (intro _; clear_value x) | (unfold x; clear x))
       | clear_value x)
    | with_reducible apply State.railsDown_keeps
    | with_reducible apply State.raise_keeps
    | with_reducible apply State.bump_keeps
    | with_reducible apply State.bootAgain_keeps
    | with_reducible apply State.wakeRails_keeps
    | split
    | with_reducible refine Keeps.upd ?_ rfl rfl rfl rfl rfl rfl rfl

theorem State.testFault_keeps {r s : State} {a1 a2} (h_s : Keeps r s) :
    Keeps r (State.testFault s a1 a2) := by
  unfold State.testFault
  repeat' first
    | with_reducible assumption
    | with_reducible apply State.raiseAt_keeps

theorem State.croftTests_keeps {r s : State} {a1} (h_s : Keeps r s) :
    Keeps r (State.croftTests s a1).1 := by
  unfold State.croftTests
  repeat' first
    | with_reducible assumption
    | intro _
    | (extract_lets +onlyGivenNames x
       first
       | (refine Keeps.cut (r := r) (x := x) ?_ ?_ <;> first | (intro _; clear_value x) | (unfold x; clear x))
       | clear_value x)
    | with_reducible apply State.testRan_keeps
    | with_reducible apply forEach_keeps
    | with_reducible apply State.testFault_keeps
    | with_reducible apply State.fenceCore_keeps
    | with_reducible apply State.putThread_keeps
    | with_reducible apply State.wr_keeps
    | split
    | with_reducible refine Keeps.upd ?_ rfl rfl rfl rfl rfl rfl rfl

theorem State.pinfoldReaction_keeps {r s : State} (h_s : Keeps r s) :
    Keeps r (State.pinfoldReaction s) := by
  unfold State.pinfoldReaction
  repeat' first
    | with_reducible assumption
    | (extract_lets +onlyGivenNames x; clear_value x)
    | with_reducible apply State.enterPinfold_keeps
    | split
    | with_reducible refine Keeps.upd ?_ rfl rfl rfl rfl rfl rfl rfl

theorem State.runImage_keeps {r s : State} {a1} (h_s : Keeps r s) :
    Keeps r (State.runImage s a1) := by
  unfold State.runImage
  repeat' first
    | with_reducible assumption
    | (extract_lets +onlyGivenNames x
       first
       | (refine Keeps.cut (r := r) (x := x) ?_ ?_ <;> first | (intro _; clear_value x) | (unfold x; clear x))
       | clear_value x)
    | with_reducible apply State.testRan_keeps
    | with_reducible apply State.enterPinfold_keeps
    | split
    | with_reducible refine Keeps.upd ?_ rfl rfl rfl rfl rfl rfl rfl

theorem State.spdmAsk_keeps {r s : State} {a1 a2 a3 f} (h_s : Keeps r s) (h_f : ∀ x0, Keeps r x0 → Keeps r (f x0)) :
    Keeps r (State.spdmAsk s a1 a2 a3 f) := by
  unfold State.spdmAsk
  repeat' first
    | with_reducible assumption
    | (extract_lets +onlyGivenNames x; (refine Keeps.cut (r := r) (x := x) ?_ ?_ <;> first | (intro _; clear_value x) | (unfold x; clear x)))
    | with_reducible apply State.portViolation_keeps
    | with_reducible apply State.raise_keeps
    | with_reducible apply State.spdmError_keeps
    | with_reducible apply h_f
    | split

theorem State.spdmAlgorithms_keeps {r s : State} {a1 a2} (h_s : Keeps r s) :
    Keeps r (State.spdmAlgorithms s a1 a2) := by
  unfold State.spdmAlgorithms
  repeat' first
    | with_reducible assumption
    | intro _
    | (extract_lets +onlyGivenNames x; clear_value x)
    | with_reducible apply State.spdmAsk_keeps
    | with_reducible apply State.spdmSay_keeps
    | with_reducible apply State.putSpdm_keeps

theorem State.restartImage_keeps {r s : State} (h_s : Keeps r s) :
    Keeps r (State.restartImage s) := by
  unfold State.restartImage
  repeat' first
    | with_reducible assumption
    | (extract_lets +onlyGivenNames x
       first
       | (have _ := (x : _ → _ → State); unfold x; clear x)
       | clear_value x)
    | with_reducible apply State.testRan_keeps
    | with_reducible apply State.testFault_keeps
    | split
    | with_reducible refine Keeps.upd ?_ rfl rfl rfl rfl rfl rfl rfl

theorem State.ideFail_keeps {r s : State} {a1 a2} (h_s : Keeps r s) :
    Keeps r (State.ideFail s a1 a2) := by
  unfold State.ideFail
  repeat' first
    | with_reducible assumption
    | with_reducible apply State.raiseGraveD_keeps
    | with_reducible apply State.bump_keeps
    | with_reducible apply State.putIde_keeps
    | split

theorem State.spdmMeasurements_keeps {r s : State} {a1 a2} (h_s : Keeps r s) :
    Keeps r (State.spdmMeasurements s a1 a2) := by
  unfold State.spdmMeasurements
  repeat' first
    | with_reducible assumption
    | intro _
    | (extract_lets +onlyGivenNames x; clear_value x)
    | with_reducible apply State.spdmAsk_keeps
    | with_reducible apply State.emit_keeps
    | with_reducible apply State.tick_keeps
    | with_reducible apply State.spdmError_keeps
    | split

theorem State.f4Reaction_keeps {r s : State} (h_s : Keeps r s) :
    Keeps r (State.f4Reaction s) := by
  unfold State.f4Reaction
  repeat' first
    | with_reducible assumption
    | with_reducible apply State.pinfoldReaction_keeps
    | with_reducible apply State.wakeRails_keeps
    | split

theorem State.spdmHeartbeat_keeps {r s : State} {a1 a2} (h_s : Keeps r s) :
    Keeps r (State.spdmHeartbeat s a1 a2) := by
  unfold State.spdmHeartbeat
  repeat' first
    | with_reducible assumption
    | intro _
    | with_reducible apply State.spdmAsk_keeps
    | with_reducible apply State.spdmSay_keeps

theorem State.ideKm_keeps {r s : State} {a1 a2 a3 a4 a5 a6} (h_s : Keeps r s) :
    Keeps r (State.ideKm s a1 a2 a3 a4 a5 a6) := by
  unfold State.ideKm
  repeat' first
    | with_reducible assumption
    | (extract_lets +onlyGivenNames x
       first
       | (refine Keeps.cut (r := r) (x := x) ?_ ?_ <;> first | (intro _; clear_value x) | (unfold x; clear x))
       | clear_value x)
    | with_reducible apply State.emit_keeps
    | with_reducible apply State.portViolation_keeps
    | with_reducible apply State.putIde_keeps
    | split

theorem State.spdmKeyExchange_keeps {r s : State} {a1 a2} (h_s : Keeps r s) :
    Keeps r (State.spdmKeyExchange s a1 a2) := by
  unfold State.spdmKeyExchange
  repeat' first
    | with_reducible assumption
    | intro _
    | (extract_lets +onlyGivenNames x; clear_value x)
    | with_reducible apply State.spdmAsk_keeps
    | with_reducible apply State.spdmError_keeps
    | with_reducible apply State.spdmSay_keeps
    | with_reducible apply State.putSpdm_keeps
    | split

theorem State.spdmCertificate_keeps {r s : State} {a1 a2} (h_s : Keeps r s) :
    Keeps r (State.spdmCertificate s a1 a2) := by
  unfold State.spdmCertificate
  repeat' first
    | with_reducible assumption
    | intro _
    | with_reducible apply State.spdmAsk_keeps
    | with_reducible apply State.spdmSay_keeps
    | with_reducible apply State.spdmError_keeps
    | split

theorem State.spdmCapabilities_keeps {r s : State} {a1 a2} (h_s : Keeps r s) :
    Keeps r (State.spdmCapabilities s a1 a2) := by
  unfold State.spdmCapabilities
  repeat' first
    | with_reducible assumption
    | intro _
    | (extract_lets +onlyGivenNames x; clear_value x)
    | with_reducible apply State.spdmAsk_keeps
    | with_reducible apply State.spdmSay_keeps
    | with_reducible apply State.putSpdm_keeps

theorem State.spdmChallenge_keeps {r s : State} {a1 a2} (h_s : Keeps r s) :
    Keeps r (State.spdmChallenge s a1 a2) := by
  unfold State.spdmChallenge
  repeat' first
    | with_reducible assumption
    | intro _
    | with_reducible apply State.spdmAsk_keeps
    | with_reducible apply State.spdmSay_keeps
    | with_reducible apply State.spdmError_keeps
    | split

theorem State.spdmDigests_keeps {r s : State} {a1 a2} (h_s : Keeps r s) :
    Keeps r (State.spdmDigests s a1 a2) := by
  unfold State.spdmDigests
  repeat' first
    | with_reducible assumption
    | intro _
    | with_reducible apply State.spdmAsk_keeps
    | with_reducible apply State.spdmSay_keeps

theorem State.portPerstEnd_keeps {r s : State} {a1} (h_s : Keeps r s) :
    Keeps r (State.portPerstEnd s a1) := by
  unfold State.portPerstEnd
  repeat' first
    | with_reducible assumption
    | (extract_lets +onlyGivenNames x; clear_value x)
    | with_reducible apply State.startTraining_keeps
    | split
    | with_reducible refine Keeps.upd ?_ rfl rfl rfl rfl rfl rfl rfl

theorem State.padRelease_keeps {r s : State} (h_s : Keeps r s) :
    Keeps r (State.padRelease s) := by
  unfold State.padRelease
  repeat' first
    | with_reducible assumption
    | intro _
    | (extract_lets +onlyGivenNames x
       first
       | (refine Keeps.cut (r := r) (x := x) ?_ ?_ <;> first | (intro _; clear_value x) | (unfold x; clear x))
       | clear_value x)
    | with_reducible apply State.wr_keeps
    | with_reducible apply forEach_keeps
    | with_reducible apply State.perstRole_keeps
    | with_reducible apply State.startTraining_keeps
    | split
    | with_reducible refine Keeps.upd ?_ rfl rfl rfl rfl rfl rfl rfl

theorem State.replayTest_keeps {r s : State} {H} (h_H : Hooks.Keeps H) (h_s : Keeps r s) :
    Keeps r (State.replayTest H s) := by
  unfold State.replayTest
  repeat' first
    | with_reducible assumption
    | (extract_lets +onlyGivenNames x; clear_value x)
    | with_reducible apply State.replay_keeps
    | with_reducible apply State.wearLimit_keeps
    | with_reducible apply State.testRan_keeps
    | with_reducible apply State.testFault_keeps
    | with_reducible apply State.raise_keeps
    | split
    | (with_reducible refine KeepsO.elim (by with_reducible assumption) ?_)

theorem State.wakeComplete_keeps {r s : State} (h_s : Keeps r s) :
    Keeps r (State.wakeComplete s) := by
  unfold State.wakeComplete
  repeat' first
    | with_reducible assumption
    | (extract_lets +onlyGivenNames x
       first
       | (refine Keeps.cut (r := r) (x := x) ?_ ?_ <;> first | (intro _; clear_value x) | (unfold x; clear x))
       | clear_value x)
    | with_reducible apply State.wr_keeps
    | with_reducible apply State.selfRefresh_keeps
    | with_reducible apply State.padRelease_keeps
    | with_reducible apply State.warmReset_keeps
    | split
    | with_reducible refine Keeps.upd ?_ rfl rfl rfl rfl rfl rfl rfl

theorem State.spdmFinish_keeps {r s : State} {a1 a2} (h_s : Keeps r s) :
    Keeps r (State.spdmFinish s a1 a2) := by
  unfold State.spdmFinish
  repeat' first
    | with_reducible assumption
    | intro _
    | (extract_lets +onlyGivenNames x; clear_value x)
    | with_reducible apply State.spdmAsk_keeps
    | with_reducible apply State.spdmSay_keeps
    | with_reducible apply State.putSpdm_keeps

theorem State.uartBlock_keeps {r s : State} {a1 a2} (h_s : Keeps r s) :
    Keeps r (State.uartBlock s a1 a2) := by
  unfold State.uartBlock
  repeat' first
    | with_reducible assumption
    | (extract_lets +onlyGivenNames x
       first
       | (refine Keeps.cut (r := r) (x := x) ?_ ?_ <;> first | (intro _; clear_value x) | (unfold x; clear x))
       | clear_value x)
    | with_reducible apply State.emit_keeps
    | with_reducible apply State.runImage_keeps
    | split
    | with_reducible refine Keeps.upd ?_ rfl rfl rfl rfl rfl rfl rfl

theorem hurdleWrite_keeps {r s : State} {a0 a1} (h_s : Keeps r s) :
    KeepsP r (hurdleWrite a0 a1 s) := by
  unfold hurdleWrite
  repeat' first
    | with_reducible assumption
    | (extract_lets +onlyGivenNames x; clear_value x)
    | with_reducible apply State.faultAck_keeps
    | with_reducible apply State.faultInject_keeps
    | with_reducible apply only_keeps
    | with_reducible apply State.fallowRequest_keeps
    | with_reducible apply State.winter_keeps
    | with_reducible apply State.padRelease_keeps
    | split
    | with_reducible apply KeepsP.none
    | with_reducible apply KeepsP.some
    | with_reducible refine Keeps.upd ?_ rfl rfl rfl rfl rfl rfl rfl

theorem State.spdmKeyUpdate_keeps {r s : State} {a1 a2} (h_s : Keeps r s) :
    Keeps r (State.spdmKeyUpdate s a1 a2) := by
  unfold State.spdmKeyUpdate
  repeat' first
    | with_reducible assumption
    | intro _
    | (extract_lets +onlyGivenNames x; clear_value x)
    | with_reducible apply State.spdmAsk_keeps
    | with_reducible apply State.spdmSay_keeps
    | with_reducible apply State.putSpdm_keeps

theorem State.imageTest_keeps {r s : State} (h_s : Keeps r s) :
    Keeps r (State.imageTest s) := by
  unfold State.imageTest
  repeat' first
    | with_reducible assumption
    | (extract_lets +onlyGivenNames x
       first
       | (refine Keeps.cut (r := r) (x := x) ?_ ?_ <;> first | (intro _; clear_value x) | (unfold x; clear x))
       | clear_value x)
    | with_reducible apply State.enterUart_keeps
    | with_reducible apply State.runImage_keeps
    | with_reducible apply State.testFault_keeps
    | with_reducible apply State.testRan_keeps
    | with_reducible apply State.enterPinfold_keeps
    | split
    | with_reducible refine Keeps.upd ?_ rfl rfl rfl rfl rfl rfl rfl

theorem State.spdmEnd_keeps {r s : State} {a1 a2} (h_s : Keeps r s) :
    Keeps r (State.spdmEnd s a1 a2) := by
  unfold State.spdmEnd
  repeat' first
    | with_reducible assumption
    | intro _
    | (extract_lets +onlyGivenNames x; clear_value x)
    | with_reducible apply State.spdmAsk_keeps
    | with_reducible apply State.spdmSay_keeps
    | with_reducible apply State.putSpdm_keeps

theorem State.ready_keeps {r s : State} (h_s : Keeps r s) :
    Keeps r (State.ready s) := by
  unfold State.ready
  repeat' first
    | with_reducible assumption
    | intro _
    | (extract_lets +onlyGivenNames x
       first
       | (refine Keeps.cut (r := r) (x := x) ?_ ?_ <;> first | (intro _; clear_value x) | (unfold x; clear x))
       | clear_value x)
    | with_reducible apply State.tallyStart_keeps
    | with_reducible apply State.wr_keeps
    | with_reducible apply forEach_keeps
    | with_reducible apply State.slotApply_keeps
    | with_reducible apply State.startTraining_keeps
    | with_reducible apply State.logBoot_keeps
    | with_reducible apply State.alertEnd_keeps
    | split
    | with_reducible refine Keeps.upd ?_ rfl rfl rfl rfl rfl rfl rfl

theorem State.spdmVersion_keeps {r s : State} {a1 a2} (h_s : Keeps r s) :
    Keeps r (State.spdmVersion s a1 a2) := by
  unfold State.spdmVersion
  repeat' first
    | with_reducible assumption
    | intro _
    | with_reducible apply State.spdmAsk_keeps
    | with_reducible apply State.spdmSay_keeps
    | with_reducible apply State.putSpdm_keeps

theorem State.phaseA_keeps {r s : State} {a1} (h_s : Keeps r s) :
    Keeps r (State.phaseA s a1) := by
  unfold State.phaseA
  repeat' first
    | with_reducible assumption
    | with_reducible apply State.croftTests_keeps
    | with_reducible apply State.imageTest_keeps
    | with_reducible apply State.enterPinfold_keeps
    | split
    | (with_reducible refine Keeps.of_fst (by with_reducible assumption) ?_)

theorem State.phaseC_keeps {r s : State} {H} (h_H : Hooks.Keeps H) (h_s : Keeps r s) : Keeps r (State.phaseC H s) := by
  unfold State.phaseC
  have h0 : Keeps r (s.alignStep.replayTest H) := State.replayTest_keeps h_H (State.alignStep_keeps h_s)
  refine Keeps.ite (State.logBoot_keeps (Keeps.upd h0 rfl rfl rfl rfl rfl rfl rfl)) (Keeps.ite h_s ?_)
  extract_lets s2 s3 s4 s5 b s6
  have h3 : Keeps r s3 := Keeps.ite (State.layoutSync_keeps h0) (State.layoutApply_keeps h0)
  have h4 : Keeps r s4 := forEach_keeps (fun _ _ h => State.setQuadFence_keeps h) h3
  have h5 : Keeps r s5 := when_keeps (fun _ h => forEach_keeps (fun _ _ h => State.slotApply_keeps h) h) h4
  have h6 : Keeps r s6 := Keeps.upd h5 rfl rfl rfl rfl rfl rfl rfl
  exact Keeps.ite (State.enterPinfold_keeps h6) (Keeps.ite (State.enterPinfold_keeps h6) h6)

theorem laneWrite_keeps {r s : State} {a0 a1} (h_s : Keeps r s) :
    KeepsP r (laneWrite a0 a1 s) := by
  unfold laneWrite
  repeat' first
    | with_reducible assumption
    | (extract_lets +onlyGivenNames x; clear_value x)
    | with_reducible apply State.reeqWrite_keeps
    | with_reducible apply State.injectErrors_keeps
    | with_reducible apply State.prbsClear_keeps
    | with_reducible apply State.marginCtrl_keeps
    | with_reducible apply State.retrainWrite_keeps
    | with_reducible apply State.reenable_keeps
    | with_reducible apply State.ringRead_keeps
    | split
    | with_reducible apply KeepsP.none
    | with_reducible apply KeepsP.some

theorem State.heldMessages_keeps {r s : State} {H} (h_H : Hooks.Keeps H) (h_s : Keeps r s) :
    Keeps r (State.heldMessages H s) := by
  unfold State.heldMessages
  repeat' first
    | with_reducible assumption
    | intro _
    | (extract_lets +onlyGivenNames x
       first
       | (refine Keeps.cut (r := r) (x := x) ?_ ?_ <;> first | (intro _; clear_value x) | (unfold x; clear x))
       | (have _ : Croft := x; unfold x; clear x))
    | with_reducible apply forEach_keeps
    | with_reducible apply State.cicLevel_keeps
    | with_reducible apply crookReceive_keeps
    | split
    | with_reducible refine Keeps.upd ?_ rfl rfl rfl rfl rfl rfl rfl

theorem tenantApplied_keeps {r s s1 : State} {a1} (_h_s : Keeps r s) (h_s1 : Keeps r s1) :
    Keeps r (tenantApplied s a1 s1) := by
  unfold tenantApplied
  repeat' first
    | with_reducible assumption
    | intro _
    | (extract_lets +onlyGivenNames x; (refine Keeps.cut (r := r) (x := x) ?_ ?_ <;> first | (intro _; clear_value x) | (unfold x; clear x)))
    | with_reducible apply when_keeps
    | with_reducible apply State.histClear_keeps
    | with_reducible apply State.residencyApplied_keeps
    | with_reducible apply State.wr_keeps
    | with_reducible apply State.rbStart_keeps

theorem State.pllLock_keeps {r s : State} {a1} (h_s : Keeps r s) :
    Keeps r (State.pllLock s a1) := by
  unfold State.pllLock
  repeat' first
    | with_reducible assumption
    | (extract_lets +onlyGivenNames x; clear_value x)
    | with_reducible apply State.phaseA_keeps
    | split
    | with_reducible refine Keeps.upd ?_ rfl rfl rfl rfl rfl rfl rfl

theorem State.lessPhaseB_keeps {r s : State} {a1} (h_s : Keeps r s) : Keeps r (State.lessPhaseB s a1) := by
  unfold State.lessPhaseB
  refine Keeps.ite (Keeps.mapD (fun _ => State.setQuadFence_keeps h_s) h_s) (Keeps.ite (Keeps.ite (State.fenceEngine_keeps h_s)
    (State.fenceCluster_keeps h_s)) (Keeps.ite (State.setSlotCode_keeps ?_) ?_))
  · exact Keeps.upd h_s rfl rfl rfl rfl rfl rfl rfl
  · exact Keeps.upd h_s rfl rfl rfl rfl rfl rfl rfl

theorem State.groupTests_keeps {r s : State} {a1} (h_s : Keeps r s) :
    Keeps r (State.groupTests s a1) := by
  unfold State.groupTests
  repeat' first
    | with_reducible assumption
    | intro _
    | (extract_lets +onlyGivenNames x; (refine Keeps.cut (r := r) (x := x) ?_ ?_ <;> first | (intro _; clear_value x) | (unfold x; clear x)))
    | with_reducible apply forEach_keeps
    | with_reducible apply State.testRan_keeps
    | with_reducible apply State.testFault_keeps
    | with_reducible apply State.lessPhaseB_keeps
    | split

theorem tenantWrite_keeps {r s : State} {a0 a1 a2} (h_s : Keeps r s) :
    KeepsP r (tenantWrite a0 a1 a2 s) := by
  unfold tenantWrite
  repeat' first
    | with_reducible assumption
    | (extract_lets +onlyGivenNames x
       first
       | (have _ : Dict := x; unfold x; clear x)
       | clear_value x)
    | with_reducible apply State.zeroRetry_keeps
    | with_reducible apply State.hotpageFold_keeps
    | with_reducible apply State.loadCtrl_keeps
    | with_reducible apply State.loadChunk_keeps
    | with_reducible apply State.fenceWrite_keeps
    | with_reducible apply State.hvCtrl_keeps
    | split
    | with_reducible apply KeepsP.none
    | with_reducible apply KeepsP.some
    | dsimp -zeta only
    | with_reducible refine Keeps.upd ?_ rfl rfl rfl rfl rfl rfl rfl

theorem State.pinfoldTests_keeps {r s : State} {a1} (h_s : Keeps r s) :
    Keeps r (State.pinfoldTests s a1) := by
  unfold State.pinfoldTests
  repeat' first
    | with_reducible assumption
    | (extract_lets +onlyGivenNames x
       first
       | (refine Keeps.cut (r := r) (x := x) ?_ ?_ <;> first | (intro _; clear_value x) | (unfold x; clear x))
       | (have _ := (x : _ → _ → _ → _ → State); unfold x; clear x)
       | clear_value x)
    | with_reducible apply State.logBoot_keeps
    | with_reducible apply State.croftTests_keeps
    | with_reducible apply State.restartImage_keeps
    | with_reducible apply State.groupTests_keeps
    | split
    | (with_reducible refine Keeps.of_fst (by with_reducible assumption) ?_)
    | with_reducible refine Keeps.upd ?_ rfl rfl rfl rfl rfl rfl rfl

theorem writeHook_keeps {r s : State} {a0 a1 a2} (h_s : Keeps r s) : Keeps r (writeHook a0 a1 a2 s).2 := by
  unfold writeHook
  split
  · exact KeepsP.elim ‹_› (croftWrite_keeps h_s)
  · split
    · exact KeepsP.elim ‹_› (laneWrite_keeps h_s)
    · split
      · exact KeepsP.elim ‹_› (pathWrite_keeps h_s)
      · split
        · exact KeepsP.elim ‹_› (tenantWrite_keeps h_s)
        · exact KeepsP.getD (hurdleWrite_keeps h_s) h_s

theorem State.phaseB_keeps {r s : State} {a1} (h_s : Keeps r s) :
    Keeps r (State.phaseB s a1) := by
  unfold State.phaseB
  repeat' first
    | with_reducible assumption
    | (extract_lets +onlyGivenNames x
       first
       | (refine Keeps.cut (r := r) (x := x) ?_ ?_ <;> first | (intro _; clear_value x) | (unfold x; clear x))
       | clear_value x)
    | with_reducible apply State.pinfoldTests_keeps
    | with_reducible apply State.phaseA_keeps
    | with_reducible apply State.groupTests_keeps
    | with_reducible apply State.enterPinfold_keeps
    | with_reducible apply State.phaseBEnd_keeps
    | split
    | with_reducible refine Keeps.upd ?_ rfl rfl rfl rfl rfl rfl rfl

theorem State.tenantWrite_keeps {r s : State} {a1 a2 a3 a4} (h_s : Keeps r s) :
    Keeps r (State.tenantWrite s a1 a2 a3 a4) := by
  unfold State.tenantWrite
  repeat' first
    | with_reducible assumption
    | intro _
    | (extract_lets +onlyGivenNames x
       first
       | (refine Keeps.cut (r := r) (x := x) ?_ ?_ <;> first | (intro _; clear_value x) | (unfold x; clear x))
       | clear_value x)
    | with_reducible apply State.configWrite_keeps
    | with_reducible apply when_keeps
    | with_reducible apply State.initiateFlr_keeps
    | with_reducible apply State.onFcfg_keeps
    | with_reducible apply State.powerWrite_keeps
    | with_reducible apply State.putPf_keeps
    | with_reducible apply State.vfEnable_keeps
    | with_reducible apply State.majorSelect_keeps
    | split

theorem State.cfgWrite_keeps {r s : State} {a1 a2 a3 a4} (h_s : Keeps r s) :
    Keeps r (State.cfgWrite s a1 a2 a3 a4) := by
  unfold State.cfgWrite
  repeat' first
    | with_reducible assumption
    | (extract_lets +onlyGivenNames x; clear_value x)
    | with_reducible apply State.putAer_keeps
    | with_reducible apply State.putPort_keeps
    | with_reducible apply State.tenantWrite_keeps
    | split

theorem State.shapeApplied_keeps {r s s1 : State} {a2} (h_s : Keeps r s) (_h_s1 : Keeps r s1) :
    Keeps r (State.shapeApplied s s1 a2) := by
  unfold State.shapeApplied
  repeat' first
    | with_reducible assumption
    | (extract_lets +onlyGivenNames x
       first
       | (refine Keeps.cut (r := r) (x := x) ?_ ?_ <;> first | (intro _; clear_value x) | (unfold x; clear x))
       | clear_value x)
    | with_reducible apply State.wr_keeps
    | with_reducible apply State.twillDown_keeps
    | with_reducible apply State.portDown_keeps
    | with_reducible apply State.putMailbox_keeps
    | with_reducible apply State.portFuncReset_keeps
    | with_reducible apply State.putLink_keeps
    | with_reducible apply State.putPort_keeps
    | with_reducible apply State.perstRole_keeps
    | with_reducible apply State.closeWhere_keeps
    | split
    | with_reducible refine Keeps.upd ?_ rfl rfl rfl rfl rfl rfl rfl

theorem laneApplied_keeps {r s s1 : State} {a1} (h_s : Keeps r s) (h_s1 : Keeps r s1) :
    Keeps r (laneApplied s a1 s1) := by
  unfold laneApplied
  repeat' first
    | with_reducible assumption
    | intro _
    | (extract_lets +onlyGivenNames x
       first
       | (refine Keeps.cut (r := r) (x := x) ?_ ?_ <;> first | (intro _; clear_value x) | (unfold x; clear x))
       | clear_value x)
    | with_reducible apply forEach_keeps
    | with_reducible apply State.shapeApplied_keeps
    | with_reducible apply when_keeps
    | with_reducible apply State.startTraining_keeps
    | with_reducible apply State.twillDown_keeps
    | with_reducible apply State.testApplied_keeps
    | with_reducible apply State.loomSync_keeps
    | with_reducible apply State.holdLimit_keeps
    | with_reducible refine Keeps.upd ?_ rfl rfl rfl rfl rfl rfl rfl

theorem State.portReset_keeps {r s : State} {a1} (h_s : Keeps r s) :
    Keeps r (State.portReset s a1) := by
  unfold State.portReset
  repeat' first
    | with_reducible assumption
    | (extract_lets +onlyGivenNames x
       first
       | (refine Keeps.cut (r := r) (x := x) ?_ ?_ <;> first | (intro _; clear_value x) | (unfold x; clear x))
       | clear_value x)
    | with_reducible apply State.portDown_keeps
    | with_reducible apply State.putPort_keeps
    | with_reducible apply State.portFuncReset_keeps
    | split

theorem State.hotReset_keeps {r s : State} {a1} (h_s : Keeps r s) :
    Keeps r (State.hotReset s a1) := by
  unfold State.hotReset
  repeat' first
    | with_reducible assumption
    | with_reducible apply State.startTraining_keeps
    | with_reducible apply State.setLtssm_keeps
    | with_reducible apply State.portReset_keeps
    | split

theorem State.portPerst_keeps {r s : State} {a1} (h_s : Keeps r s) :
    Keeps r (State.portPerst s a1) := by
  unfold State.portPerst
  repeat' first
    | with_reducible assumption
    | (extract_lets +onlyGivenNames x
       first
       | (refine Keeps.cut (r := r) (x := x) ?_ ?_ <;> first | (intro _; clear_value x) | (unfold x; clear x))
       | clear_value x)
    | with_reducible apply State.setLtssm_keeps
    | with_reducible apply State.portReset_keeps
    | split
    | with_reducible refine Keeps.upd ?_ rfl rfl rfl rfl rfl rfl rfl

theorem State.foldApplied_keeps {r s s1 : State} {a2} (h_s : Keeps r s) (_h_s1 : Keeps r s1) :
    Keeps r (State.foldApplied s s1 a2) := by
  unfold State.foldApplied
  repeat' first
    | with_reducible assumption
    | intro _
    | (extract_lets +onlyGivenNames x
       first
       | (refine Keeps.cut (r := r) (x := x) ?_ ?_ <;> first | (intro _; clear_value x) | (unfold x; clear x))
       | clear_value x)
    | with_reducible apply when_keeps
    | with_reducible apply State.zeroBitmap_keeps
    | with_reducible apply State.thaw_keeps
    | split
    | with_reducible refine Keeps.upd ?_ rfl rfl rfl rfl rfl rfl rfl

theorem pathApplied_keeps {r s s1 : State} {a0 a2} (h_s : Keeps r s) (h_s1 : Keeps r s1) :
    Keeps r (pathApplied a0 s a2 s1) := by
  unfold pathApplied
  repeat' first
    | with_reducible assumption
    | intro _
    | (extract_lets +onlyGivenNames x; (refine Keeps.cut (r := r) (x := x) ?_ ?_ <;> first | (intro _; clear_value x) | (unfold x; clear x)))
    | with_reducible apply State.extentsApplied_keeps
    | with_reducible apply forEach_keeps
    | with_reducible apply State.foldApplied_keeps
    | with_reducible apply State.restoreEntry_keeps

theorem appliedWith_keeps {r s s1 : State} {a0 a2} (h_s : Keeps r s) (h_s1 : Keeps r s1) :
    Keeps r (appliedWith a0 s a2 s1) := by
  unfold appliedWith
  repeat' first
    | with_reducible assumption
    | with_reducible apply deviceApplied_keeps
    | with_reducible apply tenantApplied_keeps
    | with_reducible apply laneApplied_keeps
    | with_reducible apply pathApplied_keeps
    | with_reducible apply bucketsApplied_keeps

theorem appliedHook_keeps {r s s1 : State} {a1} (h_s : Keeps r s) (h_s1 : Keeps r s1) :
    Keeps r (appliedHook s a1 s1) := by
  unfold appliedHook
  repeat' first
    | with_reducible assumption
    | with_reducible apply appliedWith_keeps

theorem State.tlpArrives_keeps {r s : State} {a1 a2} (h_s : Keeps r s) :
    Keeps r (State.tlpArrives s a1 a2) := by
  unfold State.tlpArrives
  repeat' first
    | with_reducible assumption
    | with_reducible apply State.ioTlp_keeps
    | with_reducible apply State.emit_keeps
    | with_reducible apply State.count_keeps
    | with_reducible apply State.ioRefused_keeps
    | with_reducible apply State.cfgWrite_keeps
    | with_reducible apply State.barReadTlp_keeps
    | split

theorem hooks_keeps : Hooks.Keeps hooks :=
  ⟨fun h => writeHook_keeps h, fun h g => appliedHook_keeps h g, fun h => State.pfCause_keeps h⟩

end Sys2Proof.Machine
end

