-- ==== Sys2Proof/Laws/KeepsStep.lean ====
section
/-! SUPPORT. What every command keeps, for the operations of tick boundaries, reactions and events: one lemma for each operation, which says that
it keeps what `Keeps` speaks of. -/

namespace Sys2Proof.Machine

set_option Elab.async false

theorem onPoolVf_keeps {r s : State} {a0 a1 f} (h_f : ∀ x0 x1, Keeps r x1 → Keeps r (f x0 x1)) (h_s : Keeps r s) :
    Keeps r (onPoolVf a0 a1 f s) := by
  unfold onPoolVf
  repeat' first
    | with_reducible assumption
    | with_reducible apply h_f
    | split

theorem State.stampJob_keeps {r s : State} {a1} (h_s : Keeps r s) :
    Keeps r (State.stampJob s a1) := by
  unfold State.stampJob
  repeat' first
    | with_reducible assumption
    | (extract_lets +onlyGivenNames x; clear_value x)
    | split
    | with_reducible refine Keeps.upd ?_ rfl rfl rfl rfl rfl rfl rfl

theorem State.isolatedAdd_keeps {r s : State} {a1} (h_s : Keeps r s) :
    Keeps r (State.isolatedAdd s a1) := by
  unfold State.isolatedAdd
  repeat' first
    | with_reducible assumption
    | (extract_lets +onlyGivenNames x; (have _ : Collector := x; unfold x; clear x))
    | split
    | with_reducible refine Keeps.upd ?_ rfl rfl rfl rfl rfl rfl rfl

theorem State.cicGlobalWrite_keeps {r s : State} {a1} (h_s : Keeps r s) :
    Keeps r (State.cicGlobalWrite s a1) := by
  unfold State.cicGlobalWrite
  repeat' first
    | with_reducible assumption
    | (extract_lets +onlyGivenNames x; clear_value x)
    | with_reducible refine Keeps.upd ?_ rfl rfl rfl rfl rfl rfl rfl

theorem State.internalKeep_keeps {r s : State} {a1 a2} (h_s : Keeps r s) :
    Keeps r (State.internalKeep s a1 a2) := by
  unfold State.internalKeep
  repeat' first
    | with_reducible assumption
    | (extract_lets +onlyGivenNames x; clear_value x)
    | with_reducible refine Keeps.upd ?_ rfl rfl rfl rfl rfl rfl rfl

theorem State.resetBegin_keeps {r s : State} {a1} (h_s : Keeps r s) :
    Keeps r (State.resetBegin s a1) := by
  unfold State.resetBegin
  repeat' first
    | with_reducible assumption
    | (extract_lets +onlyGivenNames x; (have _ : Collector := x; unfold x; clear x))
    | split
    | with_reducible refine Keeps.upd ?_ rfl rfl rfl rfl rfl rfl rfl

theorem State.internalDrop_keeps {r s : State} {a1} (h_s : Keeps r s) :
    Keeps r (State.internalDrop s a1) := by
  unfold State.internalDrop
  repeat' first
    | with_reducible assumption
    | (extract_lets +onlyGivenNames x; clear_value x)
    | with_reducible apply State.releaseSync_keeps
    | with_reducible refine Keeps.upd ?_ rfl rfl rfl rfl rfl rfl rfl

theorem State.unfenceDrover_keeps {r s : State} (h_s : Keeps r s) :
    Keeps r (State.unfenceDrover s) := by
  unfold State.unfenceDrover
  repeat' first
    | with_reducible assumption
    | intro _
    | (extract_lets +onlyGivenNames x
       first
       | (refine Keeps.cut (r := r) (x := x) ?_ ?_ <;> first | (intro _; clear_value x) | (unfold x; clear x))
       | clear_value x)
    | with_reducible apply State.wro_keeps
    | with_reducible apply State.wr_keeps
    | with_reducible apply forEach_keeps
    | with_reducible apply State.wrBit_keeps
    | with_reducible apply State.wrBits_keeps
    | with_reducible apply State.cicUnfence_keeps
    | split

theorem State.droverForget_keeps {r s : State} (h_s : Keeps r s) :
    Keeps r (State.droverForget s) := by
  unfold State.droverForget
  repeat' first
    | with_reducible assumption
    | intro _
    | (extract_lets +onlyGivenNames x
       first
       | (refine Keeps.cut (r := r) (x := x) ?_ ?_ <;> first | (intro _; clear_value x) | (unfold x; clear x))
       | (have _ : Drv := x; unfold x; clear x))
    | with_reducible apply forEach_keeps
    | with_reducible apply State.wr_keeps
    | with_reducible apply when_keeps
    | with_reducible refine Keeps.upd ?_ rfl rfl rfl rfl rfl rfl rfl

theorem State.closeSessionsOf_keeps {r s : State} {a1} (h_s : Keeps r s) :
    Keeps r (State.closeSessionsOf s a1) := by
  unfold State.closeSessionsOf
  repeat' first
    | with_reducible assumption
    | intro _
    | with_reducible apply forEach_keeps
    | with_reducible apply State.closeSession_keeps

theorem State.mgmtPortFail_keeps {r s : State} {a1} (h_s : Keeps r s) :
    Keeps r (State.mgmtPortFail s a1) := by
  unfold State.mgmtPortFail
  repeat' first
    | with_reducible assumption
    | with_reducible apply State.closeWhere_keeps

theorem State.rebindDefer_keeps {r s : State} (h_s : Keeps r s) :
    Keeps r (State.rebindDefer s) := by
  unfold State.rebindDefer
  repeat' first
    | with_reducible assumption
    | (extract_lets +onlyGivenNames x; clear_value x)
    | with_reducible apply State.bump_keeps
    | split
    | with_reducible refine Keeps.upd ?_ rfl rfl rfl rfl rfl rfl rfl

theorem State.claimRead_keeps {r s : State} {a1} (h_s : Keeps r s) :
    Keeps r (State.claimRead s a1) := by
  unfold State.claimRead
  repeat' first
    | with_reducible assumption
    | (extract_lets +onlyGivenNames x; (refine Keeps.cut (r := r) (x := x.2) ?_ ?_ <;> first | (intro _; clear_value x) | (unfold x; clear x)))
    | with_reducible apply State.cicClaim_keeps
    | with_reducible apply State.emit_keeps
    | split

theorem State.grantJob_keeps {r s : State} {a1} (h_s : Keeps r s) :
    Keeps r (State.grantJob s a1) := by
  unfold State.grantJob
  repeat' first
    | with_reducible assumption
    | with_reducible apply State.govBoundary_keeps
    | with_reducible apply State.rebalance_keeps
    | split

theorem State.dllReplays_keeps {r s : State} (h_s : Keeps r s) :
    Keeps r (State.dllReplays s) := by
  unfold State.dllReplays
  repeat' first
    | with_reducible assumption
    | intro _
    | (extract_lets +onlyGivenNames x; clear_value x)
    | with_reducible apply forEach_keeps
    | with_reducible apply State.tick_keeps
    | with_reducible apply State.countN_keeps

theorem State.tallyJob_keeps {r s : State} {a1} (h_s : Keeps r s) :
    Keeps r (State.tallyJob s a1) := by
  unfold State.tallyJob
  repeat' first
    | with_reducible assumption
    | (extract_lets +onlyGivenNames x
       first
       | (refine Keeps.cut (r := r) (x := x) ?_ ?_ <;> first | (intro _; clear_value x) | (unfold x; clear x))
       | clear_value x)
    | with_reducible apply State.tallyCollect_keeps
    | with_reducible apply State.dllReplays_keeps
    | with_reducible apply State.boundarySeen_keeps
    | with_reducible apply State.meterTick_keeps
    | with_reducible apply State.engineTick_keeps
    | split
    | with_reducible refine Keeps.upd ?_ rfl rfl rfl rfl rfl rfl rfl

theorem State.mramWear_keeps {r s : State} (h_s : Keeps r s) :
    Keeps r (State.mramWear s) := by
  unfold State.mramWear
  repeat' first
    | with_reducible assumption
    | (extract_lets +onlyGivenNames x
       first
       | (have _ : Croft := x; unfold x; clear x)
       | (have _ := (x : _ → _ → State); unfold x; clear x))
    | with_reducible apply State.raise_keeps
    | with_reducible apply State.wr_keeps
    | split
    | with_reducible refine Keeps.upd ?_ rfl rfl rfl rfl rfl rfl rfl

theorem State.mgmtFault_keeps {r s : State} {a1} (h_s : Keeps r s) :
    Keeps r (State.mgmtFault s a1) := by
  unfold State.mgmtFault
  repeat' first
    | with_reducible assumption
    | with_reducible apply State.raise_keeps
    | with_reducible apply State.mgmtPortFail_keeps
    | split

theorem State.coreFault_keeps {r s : State} {a1} (h_s : Keeps r s) :
    Keeps r (State.coreFault s a1) := by
  unfold State.coreFault
  repeat' first
    | with_reducible assumption
    | with_reducible apply State.raise_keeps
    | with_reducible apply State.closeSessionsOf_keeps
    | with_reducible apply State.fenceCore_keeps
    | split

theorem State.refclkFault_keeps {r s : State} (h_s : Keeps r s) :
    Keeps r (State.refclkFault s) := by
  unfold State.refclkFault
  repeat' first
    | with_reducible assumption
    | with_reducible apply State.raise_keeps
    | split

theorem State.supplyFault_keeps {r s : State} {a1} (h_s : Keeps r s) :
    Keeps r (State.supplyFault s a1) := by
  unfold State.supplyFault
  repeat' first
    | with_reducible assumption
    | (extract_lets +onlyGivenNames x; clear_value x)
    | with_reducible apply State.raise_keeps
    | split
    | with_reducible refine Keeps.upd ?_ rfl rfl rfl rfl rfl rfl rfl

theorem State.internalRefuse_keeps {r s : State} {a1 a2} (h_s : Keeps r s) :
    Keeps r (State.internalRefuse s a1 a2) := by
  unfold State.internalRefuse
  repeat' first
    | with_reducible assumption
    | (extract_lets +onlyGivenNames x; (refine Keeps.cut (r := r) (x := x) ?_ ?_ <;> first | (intro _; clear_value x) | (unfold x; clear x)))
    | with_reducible apply State.internalDrop_keeps
    | with_reducible apply State.emit_keeps
    | with_reducible apply State.portViolation_keeps
    | split

theorem State.droverReset_keeps {r s : State} (h_s : Keeps r s) :
    Keeps r (State.droverReset s) := by
  unfold State.droverReset
  repeat' first
    | with_reducible assumption
    | intro _
    | (extract_lets +onlyGivenNames x; (refine Keeps.cut (r := r) (x := x) ?_ ?_ <;> first | (intro _; clear_value x) | (unfold x; clear x)))
    | with_reducible apply State.droverForget_keeps
    | with_reducible apply forEach_keeps
    | with_reducible apply State.wr_keeps
    | with_reducible apply State.resetBegin_keeps
    | with_reducible apply State.stopWhere_keeps

theorem State.trainWaiting_keeps {r s : State} (h_s : Keeps r s) :
    Keeps r (State.trainWaiting s) := by
  unfold State.trainWaiting
  repeat' first
    | with_reducible assumption
    | intro _
    | (extract_lets +onlyGivenNames x; clear_value x)
    | with_reducible apply forEach_keeps
    | with_reducible apply State.startTraining_keeps
    | with_reducible apply State.putPort_keeps

theorem State.qsampleEvent_keeps {r s : State} {a1} (h_s : Keeps r s) :
    Keeps r (State.qsampleEvent s a1) := by
  unfold State.qsampleEvent
  repeat' first
    | with_reducible assumption
    | (extract_lets +onlyGivenNames x
       first
       | (refine Keeps.cut (r := r) (x := x) ?_ ?_ <;> first | (intro _; clear_value x) | (unfold x; clear x))
       | clear_value x)
    | with_reducible apply State.qsample_keeps
    | with_reducible apply State.tick_keeps
    | with_reducible apply State.pdkOverrun_keeps
    | split
    | with_reducible refine Keeps.upd ?_ rfl rfl rfl rfl rfl rfl rfl

theorem State.elemReturn_keeps {r s : State} {a1} (h_s : Keeps r s) :
    Keeps r (State.elemReturn s a1) := by
  unfold State.elemReturn
  repeat' first
    | with_reducible assumption
    | intro _
    | (extract_lets +onlyGivenNames x
       first
       | (refine Keeps.cut (r := r) (x := x) ?_ ?_ <;> first | (intro _; clear_value x) | (unfold x; clear x))
       | (have _ : Collector := x; unfold x; clear x)
       | (have _ : Croft := x; unfold x; clear x))
    | with_reducible apply forEach_keeps
    | with_reducible apply State.startTraining_keeps
    | split
    | with_reducible refine Keeps.upd ?_ rfl rfl rfl rfl rfl rfl rfl

theorem State.jobOverrun_keeps {r s : State} {a1 a2} (h_s : Keeps r s) :
    Keeps r (State.jobOverrun s a1 a2) := by
  unfold State.jobOverrun
  repeat' first
    | with_reducible assumption
    | (extract_lets +onlyGivenNames x
       first
       | (refine Keeps.cut (r := r) (x := x) ?_ ?_ <;> first | (intro _; clear_value x) | (unfold x; clear x))
       | clear_value x)
    | with_reducible apply State.pdkOverrun_keeps
    | with_reducible apply State.raiseD_keeps
    | split
    | with_reducible refine Keeps.upd ?_ rfl rfl rfl rfl rfl rfl rfl

theorem State.illegal_keeps {r s : State} {a1 a2} (h_s : Keeps r s) :
    Keeps r (State.illegal s a1 a2) := by
  unfold State.illegal
  repeat' first
    | with_reducible assumption
    | intro _
    | (extract_lets +onlyGivenNames x
       first
       | clear_value x
       | (unfold x; clear x))
    | with_reducible apply State.instr_keeps
    | with_reducible apply State.exception_keeps
    | split

theorem State.tickJobs_keeps {r s : State} (h_s : Keeps r s) :
    Keeps r (State.tickJobs s) := by
  unfold State.tickJobs
  repeat' first
    | with_reducible assumption
    | (extract_lets +onlyGivenNames x
       first
       | (refine Keeps.cut (r := r) (x := x) ?_ ?_ <;> first | (intro _; clear_value x) | (unfold x; clear x))
       | clear_value x)
    | with_reducible apply State.grantJob_keeps
    | with_reducible apply State.stampJob_keeps
    | with_reducible apply State.faultWindowAdvance_keeps
    | with_reducible apply State.gtpFaults_keeps
    | with_reducible apply State.tallyJob_keeps
    | with_reducible apply State.trainWaiting_keeps
    | with_reducible apply State.moderationTick_keeps
    | with_reducible apply State.healthTick_keeps
    | with_reducible apply State.prbsTick_keeps
    | with_reducible apply State.scrubTick_keeps
    | with_reducible apply State.warmReset_keeps
    | split
    | with_reducible refine Keeps.upd ?_ rfl rfl rfl rfl rfl rfl rfl

theorem State.isolationReturn_keeps {r s : State} (h_s : Keeps r s) :
    Keeps r (State.isolationReturn s) := by
  unfold State.isolationReturn
  repeat' first
    | with_reducible assumption
    | intro _
    | with_reducible apply forEach_keeps
    | with_reducible apply State.elemReturn_keeps
    | split

theorem State.tickBoundary_keeps {r s : State} (h_s : Keeps r s) :
    Keeps r (State.tickBoundary s) := by
  unfold State.tickBoundary
  repeat' first
    | with_reducible assumption
    | (extract_lets +onlyGivenNames x; clear_value x)
    | with_reducible apply State.tickJobs_keeps
    | split
    | with_reducible refine Keeps.upd ?_ rfl rfl rfl rfl rfl rfl rfl

theorem State.cycle_keeps {r s : State} (h_s : Keeps r s) :
    Keeps r (State.cycle s) := by
  unfold State.cycle
  repeat' first
    | with_reducible assumption
    | (extract_lets +onlyGivenNames x
       first
       | (refine Keeps.cut (r := r) (x := x) ?_ ?_ <;> first | (intro _; clear_value x) | (unfold x; clear x))
       | clear_value x)
    | with_reducible apply State.tickJobs_keeps
    | split
    | with_reducible refine Keeps.upd ?_ rfl rfl rfl rfl rfl rfl rfl

theorem State.subsystemDone_keeps {r s : State} {a1 a2} (h_s : Keeps r s) :
    Keeps r (State.subsystemDone s a1 a2) := by
  unfold State.subsystemDone
  repeat' first
    | with_reducible assumption
    | intro _
    | (extract_lets +onlyGivenNames x
       first
       | (refine Keeps.cut (r := r) (x := x) ?_ ?_ <;> first | (intro _; clear_value x) | (unfold x; clear x))
       | (have _ : Collector := x; unfold x; clear x))
    | with_reducible apply forEach_keeps
    | with_reducible apply State.testFault_keeps
    | with_reducible apply State.lessPhaseB_keeps
    | with_reducible apply State.unfenceDrover_keeps
    | with_reducible apply State.enterPinfold_keeps
    | split
    | with_reducible refine Keeps.upd ?_ rfl rfl rfl rfl rfl rfl rfl

theorem State.tfbReset_keeps {r s : State} (h_s : Keeps r s) :
    Keeps r (State.tfbReset s) := by
  unfold State.tfbReset
  repeat' first
    | with_reducible assumption
    | intro _
    | (extract_lets +onlyGivenNames x; (refine Keeps.cut (r := r) (x := x) ?_ ?_ <;> first | (intro _; clear_value x) | (unfold x; clear x)))
    | with_reducible apply forEach_keeps
    | with_reducible apply State.wr_keeps
    | with_reducible apply State.resetBegin_keeps
    | with_reducible apply State.vfReset_keeps

theorem State.fmEffect_keeps {r s : State} {a1} (h_s : Keeps r s) :
    Keeps r (State.fmEffect s a1) := by
  unfold State.fmEffect
  repeat' first
    | with_reducible assumption
    | with_reducible apply State.startTraining_keeps
    | with_reducible apply State.setLtssm_keeps
    | with_reducible apply State.portDown_keeps
    | with_reducible apply State.aerLog_keeps
    | with_reducible apply State.emit_keeps
    | split

theorem State.internalDone_keeps {r s : State} {a1} (h_s : Keeps r s) :
    Keeps r (State.internalDone s a1) := by
  unfold State.internalDone
  repeat' first
    | with_reducible assumption
    | with_reducible apply State.emit_keeps
    | with_reducible apply State.fmEffect_keeps
    | with_reducible apply State.count_keeps
    | with_reducible apply State.bump_keeps
    | split

theorem State.subsystemReset_keeps {r s : State} {a1} (h_s : Keeps r s) :
    Keeps r (State.subsystemReset s a1) := by
  unfold State.subsystemReset
  repeat' first
    | with_reducible assumption
    | with_reducible apply State.droverReset_keeps
    | with_reducible apply State.tfbReset_keeps
    | split

theorem State.linkDownBy_keeps {r s : State} {a1 a2} (h_s : Keeps r s) :
    Keeps r (State.linkDownBy s a1 a2) := by
  unfold State.linkDownBy
  repeat' first
    | with_reducible assumption
    | with_reducible apply State.linkDownEvent_keeps
    | split

theorem State.slotLatch_keeps {r s : State} {a1} (h_s : Keeps r s) :
    Keeps r (State.slotLatch s a1) := by
  unfold State.slotLatch
  repeat' first
    | with_reducible assumption
    | (extract_lets +onlyGivenNames x; (refine Keeps.cut (r := r) (x := x) ?_ ?_ <;> first | (intro _; clear_value x) | (unfold x; clear x)))
    | with_reducible apply State.slotIrq_keeps
    | with_reducible apply State.setSlotCode_keeps
    | with_reducible apply State.slotGate_keeps
    | with_reducible apply State.perstLow_keeps
    | with_reducible apply State.linkDownEvent_keeps
    | split

theorem State.portIsolate_keeps {r s : State} {a1} (h_s : Keeps r s) :
    Keeps r (State.portIsolate s a1) := by
  unfold State.portIsolate
  repeat' first
    | with_reducible assumption
    | with_reducible apply State.twillDown_keeps
    | with_reducible apply State.setLtssm_keeps
    | with_reducible apply State.portDown_keeps
    | split

theorem State.isolate_keeps {r s : State} {a1} (h_s : Keeps r s) :
    Keeps r (State.isolate s a1) := by
  unfold State.isolate
  repeat' first
    | with_reducible assumption
    | intro _
    | (extract_lets +onlyGivenNames x
       first
       | (refine Keeps.cut (r := r) (x := x) ?_ ?_ <;> first | (intro _; clear_value x) | (unfold x; clear x))
       | (have _ : Croft := x; unfold x; clear x)
       | clear_value x)
    | with_reducible apply forEach_keeps
    | with_reducible apply State.portIsolate_keeps
    | with_reducible apply State.isolatedAdd_keeps
    | with_reducible apply State.stopWhere_keeps
    | with_reducible apply State.isolateCluster_keeps
    | with_reducible apply State.slotLatch_keeps
    | with_reducible apply State.fenceCore_keeps
    | with_reducible apply State.sliceFence_keeps
    | with_reducible apply State.mgmtPortFail_keeps
    | with_reducible apply State.vfReset_keeps
    | split
    | with_reducible refine Keeps.upd ?_ rfl rfl rfl rfl rfl rfl rfl

theorem State.reactNext_keeps {r s : State} (h_s : Keeps r s) :
    KeepsO r (State.reactNext s) := by
  unfold State.reactNext
  repeat' first
    | with_reducible assumption
    | (extract_lets +onlyGivenNames x
       first
       | (refine Keeps.cut (r := r) (x := x) ?_ ?_ <;> first | (intro _; clear_value x) | (unfold x; clear x))
       | (have _ : Collector := x; unfold x; clear x)
       | (have _ := (x : _ → State); unfold x; clear x)
       | clear_value x)
    | with_reducible apply State.f4Reaction_keeps
    | with_reducible apply State.warmReset_keeps
    | with_reducible apply State.isolate_keeps
    | with_reducible apply State.subsystemReset_keeps
    | split
    | with_reducible apply KeepsO.none
    | with_reducible apply KeepsO.some
    | with_reducible refine Keeps.upd ?_ rfl rfl rfl rfl rfl rfl rfl

theorem State.lostMsg_keeps {r s : State} {a1} (h_s : Keeps r s) :
    Keeps r (State.lostMsg s a1) := by
  unfold State.lostMsg
  repeat' first
    | with_reducible assumption
    | with_reducible apply State.writebackFailed_keeps
    | with_reducible apply State.snoopFailed_keeps
    | split

theorem State.follow_keeps {r s : State} (h_s : Keeps r s) :
    Keeps r (State.follow s) := by
  unfold State.follow
  repeat' first
    | with_reducible assumption
    | intro _
    | (extract_lets +onlyGivenNames x; (refine Keeps.cut (r := r) (x := x) ?_ ?_ <;> first | (intro _; clear_value x) | (unfold x; clear x)))
    | with_reducible apply State.writePathSweep_keeps
    | with_reducible apply State.laneSweep_keeps
    | with_reducible apply State.closeServed_keeps
    | with_reducible apply State.rbSync_keeps
    | with_reducible apply State.invalidateSync_keeps
    | with_reducible apply State.perstSync_keeps
    | with_reducible apply State.loseHomes_keeps
    | with_reducible apply forEach_keeps
    | with_reducible apply State.pmeSettle_keeps
    | split

theorem State.internalApply_keeps {r s s1 : State} {a2 a3} (h_s : Keeps r s) (h_s1 : Keeps r s1) :
    Keeps r (State.internalApply s s1 a2 a3) := by
  unfold State.internalApply
  repeat' first
    | with_reducible assumption
    | with_reducible apply appliedWith_keeps
    | with_reducible apply State.journalWrite_keeps

theorem State.rebindOwner_keeps {r s : State} (h_s : Keeps r s) :
    Keeps r (State.rebindOwner s) := by
  unfold State.rebindOwner
  repeat' first
    | with_reducible assumption
    | intro _
    | (extract_lets +onlyGivenNames x
       first
       | (refine Keeps.cut (r := r) (x := x) ?_ ?_ <;> first | (intro _; clear_value x) | (unfold x; clear x))
       | clear_value x)
    | with_reducible apply State.rebindDefer_keeps
    | with_reducible apply forEach_keeps
    | with_reducible apply State.bumpVersion_keeps
    | with_reducible apply State.wr_keeps
    | with_reducible apply State.rbFail_keeps
    | with_reducible apply State.rbSources_keeps
    | with_reducible apply State.internalApply_keeps
    | with_reducible apply State.setPhase_keeps
    | split
    | with_reducible refine Keeps.upd ?_ rfl rfl rfl rfl rfl rfl rfl

theorem mbxGo_keeps {r s : State} {a0} (h_s : Keeps r s) :
    Keeps r (mbxGo a0 s) := by
  unfold mbxGo
  repeat' first
    | with_reducible assumption
    | (extract_lets +onlyGivenNames x; clear_value x)
    | exact hooks_keeps
    | with_reducible apply crookReceive_keeps
    | with_reducible apply State.putMailbox_keeps
    | split

theorem State.internalOne_keeps {r s : State} {a1} (h_s : Keeps r s) :
    Keeps r (State.internalOne s a1) := by
  unfold State.internalOne
  repeat' first
    | with_reducible assumption
    | intro _
    | (extract_lets +onlyGivenNames x
       first
       | (refine Keeps.cut (r := r) (x := x) ?_ ?_ <;> first | (intro _; clear_value x) | (unfold x; clear x))
       | (have _ := (x : _ → _ → State); unfold x; clear x)
       | clear_value x)
    | exact hooks_keeps
    | with_reducible apply State.internalRefuse_keeps
    | with_reducible apply State.bump_keeps
    | with_reducible apply State.internalKeep_keeps
    | with_reducible apply when_keeps
    | with_reducible apply State.cicRaise_keeps
    | with_reducible apply State.internalDone_keeps
    | with_reducible apply State.internalDrop_keeps
    | with_reducible apply State.internalApply_keeps
    | with_reducible apply applyStaged_keeps
    | with_reducible apply validate_keeps
    | split
    | (with_reducible refine KeepsE.elim (by with_reducible assumption) ?_)

theorem writeObject_keeps {r s : State} {a0 a1 a2} (h_s : Keeps r s) :
    Keeps r (writeObject a0 a1 a2 s) := by
  unfold writeObject
  repeat' first
    | with_reducible assumption
    | exact hooks_keeps
    | with_reducible apply actionWrite_keeps

theorem State.eventWrite_keeps {r s : State} {a1 a2 a3 a4} (h_s : Keeps r s) :
    Keeps r (State.eventWrite s a1 a2 a3 a4) := by
  unfold State.eventWrite
  repeat' first
    | with_reducible assumption
    | intro _
    | with_reducible apply State.barWrite_keeps
    | with_reducible apply mbxGo_keeps
    | split

theorem crookEvent_keeps {r s : State} {a0 a1 a2 a3} (h_s : Keeps r s) :
    Keeps r (crookEvent a0 a1 a2 a3 s) := by
  unfold crookEvent
  repeat' first
    | with_reducible assumption
    | (extract_lets +onlyGivenNames x; clear_value x)
    | exact hooks_keeps
    | with_reducible apply mbxGo_keeps
    | with_reducible apply State.putMailbox_keeps
    | with_reducible apply crookReceive_keeps
    | split

theorem State.rebindRelease_keeps {r s : State} (h_s : Keeps r s) :
    Keeps r (State.rebindRelease s) := by
  unfold State.rebindRelease
  repeat' first
    | with_reducible assumption
    | (extract_lets +onlyGivenNames x; clear_value x)
    | with_reducible apply State.rebindDefer_keeps
    | with_reducible apply State.rbDone_keeps
    | with_reducible apply State.internalApply_keeps
    | with_reducible apply State.bumpVersion_keeps
    | with_reducible apply State.wr_keeps
    | split

theorem State.internalCommit_keeps {r s : State} (h_s : Keeps r s) :
    Keeps r (State.internalCommit s) := by
  unfold State.internalCommit
  repeat' first
    | with_reducible assumption
    | intro _
    | (extract_lets +onlyGivenNames x; clear_value x)
    | with_reducible apply forEach_keeps
    | with_reducible apply State.internalOne_keeps
    | split

theorem State.resume_keeps {r s : State} {a1} (h_s : Keeps r s) :
    Keeps r (State.resume s a1) := by
  unfold State.resume
  repeat' first
    | with_reducible assumption
    | with_reducible apply State.blwMemory_keeps
    | with_reducible apply State.blwRetag_keeps
    | with_reducible apply State.lostMsg_keeps
    | with_reducible apply State.fetchEnded_keeps
    | with_reducible apply State.atsFails_keeps
    | with_reducible apply State.arrivedMsg_keeps
    | with_reducible apply State.engAnswer_keeps
    | with_reducible apply State.runDone_keeps
    | with_reducible apply State.upgradeFailed_keeps
    | with_reducible apply State.reissue_keeps
    | split

theorem State.workNext_keeps {r s : State} (h_s : Keeps r s) :
    KeepsO r (State.workNext s) := by
  unfold State.workNext
  repeat' first
    | with_reducible assumption
    | (extract_lets +onlyGivenNames x
       first
       | (have _ : Drv := x; unfold x; clear x)
       | clear_value x)
    | with_reducible apply State.reactNext_keeps
    | with_reducible apply State.resume_keeps
    | with_reducible apply State.workEnded_keeps
    | with_reducible apply State.portFuncReset_keeps
    | with_reducible apply State.hostWaiting_keeps
    | with_reducible apply State.ioWaiting_keeps
    | with_reducible apply State.twillWaiting_keeps
    | split
    | with_reducible apply KeepsO.some
    | (with_reducible refine KeepsO.elim (by with_reducible assumption) ?_)
    | with_reducible refine Keeps.upd ?_ rfl rfl rfl rfl rfl rfl rfl

theorem State.drain_keeps {r s : State} (h_s : Keeps r s) :
    Keeps r (State.drain s) := by
  unfold State.drain
  repeat' first
    | with_reducible assumption
    | intro _
    | with_reducible apply State.workNext_keeps
    | with_reducible apply Keeps.iter
    | (with_reducible refine KeepsO.elim (by with_reducible assumption) ?_)

theorem settle_keeps {r s : State} (h_s : Keeps r s) :
    Keeps r (settle s) := by
  unfold settle
  repeat' first
    | with_reducible assumption
    | with_reducible apply State.drain_keeps
    | with_reducible apply State.follow_keeps

end Sys2Proof.Machine
end

