-- ==== Sys2Proof/Tests/Slice0.lean ====
section
/-! SUPPORT. Tests: states that meet the hypotheses of the statements, the checks of WellFormed, and the manual's worked examples. -/

namespace Sys2Proof.Tests

open Sys2Proof.Machine

set_option Elab.async false
set_option linter.unusedVariables false

/-- A part in operation: ready, its clock at 1,000 s, and session 1 open over I3C with every permission. -/
def up : State :=
  let s : State := { State.reset with
    boot := { step := .ready, sysReady := true, croftServes := true, refclkEn := true, vrEn := 7, vrPg := 7 }
    clk := { running := true, dtc := 10 ^ 12 }
    crf := { sessions := { opened := true, slot := 1 } :: List.replicate 7 {} } }
  s.wr (K.CRF_KEY_PERM 0) 127

/-- The part with an upstream port 0 whose link is up, and fold 1 with a window of it. -/
def hostUp : State :=
  ((((up.wr (K.PRT_ROLE 0) 1).wr (K.PRT_LINK_STATE 0) 1).wr (K.PRT_CXL_ENABLE 0) 7).wr (K.FLD_OWNER_PORT 1) 0 |>.wr (K.FLD_WINDOW_SIZE 1) (2 ^ 28)).putPort 0
    { cxl := true }

/-- The part with a downstream port 0 whose link is up. -/
def devUp : State := ((up.wr (K.PRT_ROLE 0) 2).wr (K.PRT_LINK_STATE 0) 1).wr (K.PRT_CXL_ENABLE 0) 7

/-- The part with a Twill port 0 in T.ACTIVE. -/
def twillUp : State :=
  ((up.wr (K.PRT_ROLE 0) 3).wr (K.TWL_STATE 0) 0x61).putLink 0
    { rxAdvH := List.replicate 8 100, rxAdvD := List.replicate 8 1000, txAdvH := List.replicate 8 100, txAdvD := List.replicate 8 1000 }

/-- The part with thread 0 issuing, its registers at 8 times their numbers. -/
def thrOf (t : Thread) : State := up.putThread 0 { t with busy := true, prog := 70, regs := (List.range 32).map (fun i => BitVec.ofNat 64 (8 * i)) }

def thr : State := thrOf {}

/-- The part with pool VF 0, the first VF of upstream port 0, in a state. -/
def vfUp (x : Vf) : State := (((hostUp.wr (K.TFB_PF_TOTAL_VFS 0) 1).wr (K.TFB_VF_FOLD 0) 1).putPf 0 { numVfs := 1 }).putVf 0 x

def ff : FFields := { rd := 1, ra := 2, rb := 3, rc := 4, space := 0, flags := 0 }

def msg : CrookMsg := { verMajor := 1, verMinor := 0, session := 1, sequence := 1, length := 0, status := 0, flags := 0, reserved := 0, body := [], tag := zeros 48, dest := 0x50 }

def spdmReq : SpdmReq := { malformed := false, session := 1, slot := 0, index := 1, algorithms := [], payload := [] }

/-- A Twill message of a class with its form. -/
def tw (tc : Nat) (ext : Bool) (dcnt : Nat) : TwillMsg :=
  { dst := 0, src := 0x500, tc := tc, cm := false, rs := false, ext := ext, opcode := 0, dcnt := dcnt, hops := 0, tag := 1, rseq := 0, status := 0, fold := 0, len := 0,
    addr := 0, word3 := 64, data := [], poisoned := false }

def hostReq : HostReq := { hpa := 0, length := 64, tag := 1, data := zeros 64, byteEn := 1, keepS := false, giveUp := false, poisoned := false, badFields := false }

def linkInfo : LinkInfo := { rate := 0, width := 4, cxl := false, flit256 := false, reversed := false, lds := 0, sscPresent := false }

def portResp : PortResp := { tag := 1, ok := true, poisoned := false, lengthOk := true, data := [] }

def twConfig : TwillConfig := { device := 5, version := 1, majors := 2, caps := 0, maxRate := 10, width := 2, aligned := 1, ack := false, lane := 0, minors := [] }

def rank : PtpRank := { priority1 := 1, clockClass := 6, accuracy := 0x20, variance := 0, priority2 := 1, grandmaster := 7, steps := 0 }

def ptp : PtpMsg :=
  { port := 0, udp := true, domain := 0, source := 7, twoStep := false, interval := 10 ^ 9, origin := 0, received := 0, sequence := 1, rank := rank }

def tlp : Tlp := { kind := .memRd, address := 0, length := 4, tag := 1, header := [], payload := [], flaw := .none, ld := 0 }

/-- The part in operation, at another boot step. -/
def bootAt (b : BootStep) : State := { up with boot.step := b }

/-- Thread 0 running a service program over a descriptor that moves 4096 bytes from 0 to 65536. -/
def svc (slot : Nat) (t : Thread) : State :=
  up.putThread 0 { t with busy := true, prog := slot, desc := leBytes 8 0 ++ leBytes 8 0 ++ leBytes 8 65536 ++ leBytes 8 4096 ++ leBytes 8 0 ++ zeros 24 }

/-- An operation of a thread. -/
def op : FabOp := { handle := 0, kind := 0, space := 0, remote := 0, len := 64 }

/-- The part with a session of the recovery key and a request of it. -/
def crookUp : State := { up with crf.sessions := { opened := true, slot := 0xFF } :: List.replicate 7 {} }

/-- The part with a near line, dirty or clean. -/
def lineUp (x : Line) : State := { hostUp with blw.lines := [x] }

/-- The part with one open transaction of Bellwether. -/
def txnUp (x : BlwTxn) : State := { hostUp with blw.txns := [x] }

/-- Port 0 with a record of its own. -/
def portWith (s : State) (x : Port) : State := s.putPort 0 x

/-- The Twill port with a record of its link. -/
def linkWith (f : TwillLink → TwillLink) : State := twillUp.putLink 0 (f (twillUp.link 0))

/-- One message in the Loom, in a place, from ingress 64 to egress 70. -/
def loomWith (p : Place) : State := { up with fab.loom.msgs := [{ id := 1, place := p, m := tw 7 false 0, ingress := 64, egress := 70, charge := .shared }] }

/-- A tracker of an engine operation sent to port 0. -/
def track : Tracker := { tag := 1, origin := .own, op := .read, len := 64, egress := 0, sentAt := some 0 }

/-- Slot channel 0 in a state. -/
def slotUp (v : Nat) (c : SlotCh) : State := (up.wr (K.HRD_SLOT_STATE 0) v).putChan 0 c

/-! ### Witnesses of the statements about steps, the dictionary and tables -/

/-- StepTakesTheFrontCommand: a state with a command at the front, and another behind it. -/
theorem witness_StepTakesTheFrontCommand :
    ({ up with pending := [.commitApply, .powerOn] } : State).pending = .commitApply :: [.powerOn] := by decide +kernel

/-- EmptyQueueRunsOneCycle: the clock stands at reset; in operation one cycle stays in its tick, and the next boundary is reached from the tick's end. -/
theorem witness_EmptyQueueRunsOneCycle :
    [State.reset.pending.isEmpty, !State.reset.clk.running, up.pending.isEmpty, up.clk.running, up.dtcAfter.1 / 1000 == up.clk.dtc / 1000,
      (
        let s : State := { up with clk.dtc := 10 ^ 12 + 999, clk.frac := 0 }
        s.pending.isEmpty && s.clk.running && s.dtcAfter.1 / 1000 != s.clk.dtc / 1000)].all id = true := by decide +kernel

/-- The invariant holds in operation, where values are stored, and not only at reset. -/
theorem witness_Inv : up.Inv := by
  refine ⟨?_, ?_, ?_, ?_, ?_, ?_, ?_⟩ <;> decide +kernel

/-- StepKeepsInvariant and StepKeepsQueueAndOutputs: a step from such a state answers a next state. -/
theorem witness_StepKeepsInvariant :
    (match step { up with pending := [.powerOn, .commitApply] } with
      | .next t => t.pending == [.commitApply]
      | _ => false) = true := by decide +kernel

/-- OnlyAPowerCycleClearsTheLatch: the latch is set, and a cold reset that keeps it answers a next state, as does a cycle. -/
theorem witness_OnlyAPowerCycleClearsTheLatch :
    (
      let s : State := { up with flt.latch := true }
      s.flt.latch && s.pending.isEmpty && decide (Instr.coldReset ≠ .powerOn) &&
      (match exec .coldReset s, step s with
        | .next a, .next b => a.flt.latch && b.flt.latch
        | _, _ => false)) = true := by decide +kernel

/-- BeginNumbersTransactions: session 1 without a transaction, and with one. -/
theorem witness_BeginNumbersTransactions :
    up.Inv ∧
    [msg.body.isEmpty, (up.session 1).slot != 0xFF, !up.booting, (up.session 1).txn.isNone,
      ((up.putSession 1 { up.session 1 with txn := some { number := 1, staged := [], lastMsg := 0 } }).session 1).txn.isSome].all id = true :=
  ⟨witness_Inv, by decide +kernel⟩

/-- Session 1 with a transaction that stages one value. -/
def staging (k v : Nat) : State :=
  up.putSession 1 { up.session 1 with txn := some { number := 1, staged := [{ key := k, value := wire k v, expect := 0xFFFFFFFF }], lastMsg := 0 } }

/-- CommitWithVAppliesNothing: a value that keeps the rules, one that breaks them (a decode in no region), and a subentry that the Pinfold state
bars. -/
theorem witness_CommitWithVAppliesNothing :
    [bit { msg with flags := 4 }.flags 2,
      (match (staging (K.PRT_ROLE 0) 0 |>.session 1).txn with
        | some t =>
          let s := staging (K.PRT_ROLE 0) 0
          (pinfoldBar s t).isNone && (pinfoldBar { s with boot.step := .pinfold } t).isSome &&
            (match validate hooks s 1 t with
              | .ok _ => true
              | .error _ => false)
        | none => false),
      (match (staging (K.FLD_WINDOW_SIZE 1) 12345 |>.session 1).txn with
        | some t =>
          (match validate hooks (staging (K.FLD_WINDOW_SIZE 1) 12345) 1 t with
            | .ok _ => false
            | .error k => k == K.FLD_WINDOW_SIZE 1)
        | none => false)].all id = true := by decide +kernel

/-- BucketLevelIsCappedAtTheBurst: fold 40's read bucket, below its burst after a refill, and at it. -/
theorem witness_BucketLevelIsCappedAtTheBurst :
    (
      let s := ((up.wr (K.PDK_READ_RATE 40) 30000).wr (K.PDK_READ_BURST 40) 1048576)
      let low : State := { s.putBucket 160 (-56) 1000 with fab.pdk.stamp := 1001 }
      let full : State := { s.putBucket 160 (-56) 1000 with fab.pdk.stamp := 2000 }
      decide ((s.bucketCfg 160).1 ≠ 0) && decide ((low.refillBucket 160).bucket 160 = (29944, 1001)) &&
        decide ((full.refillBucket 160).bucket 160 = (1048576, 2000))) = true := by decide +kernel

/-- A Gatepost entry of a session's write: its first octet, its limit page, and zeros. -/
def entryBytes (flags limit : Nat) : List Byte := patch (patch (zeros 32) 0 (leBytes 1 flags)) 24 (leBytes 8 limit)

/-- GatepostEntryRange: a limit below the base, a reserved bit, a staged entry of each kind, and an entry that is not valid. -/
theorem witness_GatepostEntryRange :
    (
      let low := patch (entryBytes 1 1) 16 (leBytes 8 2)
      let bad := entryBytes 0x80 0
      let s := up.putSession 1 { up.session 1 with txn := some { number := 1, staged := [{ key := K.GTP_REGION_ENTRY 7, value := low, expect := 0xFFFFFFFF }], lastMsg := 0 } }
      decide (low.length = 32) && decide (bad.length = 32) && decide (writeGate up 1 (K.GTP_REGION_ENTRY 7) false = Status.ok) &&
        decide (writeGate up 1 (K.GTP_REGION_ENTRY 7) true = Status.ok) && bit (field low 0 1) 0 && decide (field low 24 8 < field low 16 8) &&
        decide (bits (field bad 0 1) 7 5 ≠ 0) && !bit (field bad 0 1) 0 &&
        (match (s.session 1).txn with
          | some t => (pinfoldBar s t).isNone && t.staged.any (fun w => w.key == K.GTP_REGION_ENTRY 7)
          | none => false)) = true := by decide +kernel

/-- ClaimTakesTheHighestPriority: two sources of target 1 pend, the second of higher priority; another target has none. -/
theorem witness_ClaimTakesTheHighestPriority :
    (
      let s : State := { (up.wr (K.CRF_CIC_SRC_CFG 3) (2 ^ 31 + 4 * 2 ^ 20 + 2)).wr (K.CRF_CIC_SRC_CFG 5) (2 ^ 31 + 6 * 2 ^ 20 + 2) with
        cic.sources := [(3, { state := .pending }), (5, { state := .pending })] }
      decide (s.cicRequests 1 = [3, 5]) && decide (s.cicTop 1 = some 5) && decide (s.cicTop 0 = none)) = true := by decide +kernel

/-- RegisterInstructionFrame and LocalStoreFrame: a thread that may issue, and a store into its writable scratch slice. -/
theorem witness_RegisterInstructionFrame : thr.mayIssue (.thread 0) = true := by decide +kernel

theorem witness_LocalStoreFrame :
    (
      let t := thr.thread 0
      let a := (t.reg 2 + sext 0).toNat
      thr.mayIssue (.thread 0) && decide (a % 8 = 0) && decide (croftReg 0 a 8 = none) &&
        (match (thr.issued (.thread 0)).seg 0 a 8 with
          | some g => g.writable
          | none => false)) = true := by decide +kernel

/-! ### Witnesses of the statements about commands -/

/-- For each clause of PowerUpCommands that has hypotheses: operands and a state that meet them. -/
theorem witness_PowerUpCommands : [
  ( -- coldBoot
    let s : State := bootAt .reset
    let board : Board := { straps := 0, spread := [] }
    let testEn : Bool := false
    decide (s.boot.step = .reset)),
  ( -- refclkValid
    let s : State := bootAt .strapped
    decide (s.boot.step = .strapped)),
  ( -- vrPgRise
    let s : State := { bootAt .clocked with boot.vrPg := 3 }
    let rail : Nat := 2
    decide (rail < 3) &&
    decide (bit s.boot.vrEn rail = true) &&
    decide (bit s.boot.vrPg rail = false) &&
    decide ((rail = 2 ∧ s.boot.step = .clocked ∨ rail = 0 ∧ s.boot.step = .pllSupply ∨ rail = 1))),
  ( -- corePllLock
    let s : State := bootAt .coreSupply
    let fails : List TestFail := []
    decide (s.boot.step = .coreSupply)),
  ( -- corePllLock
    let s : State := { bootAt .pinfold with clk.running := false }
    let fails : List TestFail := []
    decide (s.boot.step = .pinfold) &&
    decide (s.clk.running = false)),
  ( -- selftestPhaseB
    let s : State := (bootAt .phaseA).wr K.HRD_SELFTEST_RAN 31
    let fails : List TestFail := []
    decide (s.boot.step = .phaseA) &&
    decide (bit s.boot.vrPg 1 = true) &&
    decide (bit (s.rd K.HRD_SELFTEST_RAN) 4 = true) &&
    decide (s.inPinfold = false)),
  ( -- selftestPhaseB
    let s : State := { bootAt .pinfold with boot.testsDue := true }
    let fails : List TestFail := []
    decide (s.inPinfold = true) &&
    decide (s.boot.testsDue = true) &&
    decide (s.clk.running = true)),
  ( -- sysReady
    let s : State := { bootAt .replayed with boot.boundary := 0 }
    decide (s.boot.step = .replayed) &&
    decide (s.boot.boundary < s.now)),
  ( -- uartRecoveryBlock
    let s : State := bootAt .uartRecovery
    let b : List Byte := []
    let crc : Nat := 0
    decide (s.boot.step = .uartRecovery))].all id = true := by
  decide +kernel

/-- For each clause of ResetPinCommands that has hypotheses: operands and a state that meet them. -/
theorem witness_ResetPinCommands : [
  ( -- warmReset
    let s : State := up
    decide (s.pwr.sleep = .awake)),
  ( -- hrdWarmReset
    let s : State := up
    let n : Nat := 1
    let value : Nat := 0x7A3C
    decide (carried K.HRD_WARM_RESET value = 0x7A3C) &&
    decide (s.mayWrite n K.HRD_WARM_RESET (wire K.HRD_WARM_RESET value))),
  ( -- pinfoldUartReport
    let s : State := bootAt .bothyPinfold
    decide (s.boot.step = .bothyPinfold)),
  ( -- portPerstN
    let s : State := hostUp
    let p : Nat := 0
    decide (s.pfExists p = true) &&
    decide (s.rd K.HRD_PADS_HELD = 0) &&
    decide (s.inPinfold = false) &&
    decide ((s.port p).newRole = false)),
  ( -- perstRelease
    let s : State := { devUp with slots.perst := [(0, 0)], boot.lanesIdle := false }
    let p : Nat := 0
    decide (p < 64) &&
    (match s.slots.perst.find? (fun e => e.1 == p) with
    | some e => (
    decide (s.role p = 2) &&
    decide (s.perstReady p = true) &&
    decide (e.2 + 100000000 ≤ s.clk.dtc) &&
    decide (s.rd K.HRD_PADS_HELD = 0))
    | _ => false)),
  ( -- hotReset
    let s : State := devUp
    let p : Nat := 0
    decide (p < 64) &&
    decide (s.role p ≠ 0) &&
    decide (s.role p ≠ 3) &&
    decide (s.linkUp p = true)),
  ( -- perstDeassert
    let s : State := { hostUp with boot.perstIn := [0] }
    let p : Nat := 0
    decide (s.boot.perstIn.contains p = true) &&
    decide (s.rd K.HRD_PADS_HELD = 0)),
  ( -- subsystemResetDone
    let s : State := { up with flt.resets := [9] }
    let n : Nat := 9
    let fails : List TestFail := []
    decide (s.flt.resets.contains n = true))].all id = true := by
  decide +kernel

/-- For each clause of FirmwareUpdateCommands that has hypotheses: operands and a state that meet them. -/
theorem witness_FirmwareUpdateCommands : [
  ( -- fwStart
    let s : State := up
    let n : Nat := 1
    decide (s.mayWrite n K.CRF_FW_CTRL (wire K.CRF_FW_CTRL 1)) &&
    (match s.fwCtrl 1 with
    | (st, e) => (decide (st = Status.ok)))),
  ( -- crfFwChunk
    let s : State := up.wr K.CRF_FW_STATUS 1
    let n : Nat := 1
    let chunk : List Byte := zeros 1024
    decide (s.mayWrite n K.CRF_FW_CHUNK chunk) &&
    (match s.fwChunk chunk with
    | (st, e) => (decide (st = Status.ok)))),
  ( -- fwFinish
    let s : State := up.wr K.CRF_FW_STATUS 1
    let n : Nat := 1
    decide (s.mayWrite n K.CRF_FW_CTRL (wire K.CRF_FW_CTRL 2)) &&
    (match s.fwCtrl 2 with
    | (st, e) => (decide (st = Status.ok)))),
  ( -- fwVerifyDone
    let s : State := up.wr K.CRF_FW_STATUS 2
    decide (s.rd K.CRF_FW_STATUS = 2)),
  ( -- fwActivate
    let s : State := up.wr K.CRF_FW_STATUS 3
    let n : Nat := 1
    decide (s.mayWrite n K.CRF_FW_CTRL (wire K.CRF_FW_CTRL 3)) &&
    (match s.fwCtrl 3 with
    | (st, e) => (decide (st = Status.ok)))),
  ( -- fwAbort
    let s : State := up.wr K.CRF_FW_STATUS 1
    let n : Nat := 1
    decide (s.mayWrite n K.CRF_FW_CTRL (wire K.CRF_FW_CTRL 4)) &&
    (match s.fwCtrl 4 with
    | (st, e) => (decide (st = Status.ok)))),
  ( -- crfFactoryReset
    let s : State := up
    let n : Nat := 1
    let value : Nat := 0x5AFE
    decide (carried K.CRF_FACTORY_RESET value = 0x5AFE) &&
    decide (s.mayWrite n K.CRF_FACTORY_RESET (wire K.CRF_FACTORY_RESET value)))].all id = true := by
  decide +kernel

/-- For each clause of InterruptControllerCommands that has hypotheses: operands and a state that meet them. -/
theorem witness_InterruptControllerCommands : [
  ( -- externalLineChange
    let s : State := up
    let line : Nat := 0
    let level : Bool := false
    let held : Nat := 10 ^ 9
    decide (line < 7) &&
    decide (s.rd (K.CRF_CIC_FILTER line) ≤ held)),
  ( -- cicClaim
    let s : State := up
    let t : Nat := 0
    decide (t < 20)),
  ( -- cicComplete
    let s : State := { up with cic.sources := [(3, { state := .active, owner := 1 })] }
    let t : Nat := 1
    let value : BitVec 32 := 3
    let i := value.toNat % 2048
    decide (t < 20) &&
    decide ((s.cicGet i).state = .active ∨ (s.cicGet i).state = .activePending) &&
    decide ((s.cicGet i).owner = t))].all id = true := by
  decide +kernel

/-- For each clause of TallyCommands that has hypotheses: operands and a state that meet them. -/
theorem witness_TallyCommands : [
  ( -- tallyOverflow
    let s : State := up
    let counter : Nat := 0
    let n : Nat := 0
    decide (counter < 1024) &&
    decide (s.tallyLive counter + n < 2 ^ 48)),
  ( -- tallyOverflow
    let s : State := up
    let counter : Nat := 0
    let n : Nat := 2 ^ 48
    decide (counter < 1024) &&
    let v := s.tallyLive counter + n
    decide (2 ^ 48 ≤ v) &&
    decide (s.rd (K.CRF_TALLY_RELOAD counter) < 2 ^ 48) &&
    decide (v - 2 ^ 48 < 2 ^ 48 - s.rd (K.CRF_TALLY_RELOAD counter))),
  ( -- crfTallyOvfClear
    let s : State := up
    let n : Nat := 1
    let counter : Nat := 0
    decide (s.mayWrite n K.CRF_TALLY_OVF_CLEAR (wire K.CRF_TALLY_OVF_CLEAR counter)))].all id = true := by
  decide +kernel

/-- For each clause of TimeCommands that has hypotheses: operands and a state that meet them. -/
theorem witness_TimeCommands : [
  ( -- sync
    let s : State := { up.wr K.HRD_TIME_SOURCE 1 |>.wr K.HRD_PTP_PORTS 3 with clk.servo.announced := [(0, 7, rank)] }
    let m : PtpMsg := ptp
    decide (s.ptpHeard m = true) &&
    decide (s.bestMaster = some (m.port, m.source))),
  ( -- followUp
    let s : State := { ({ up.wr K.HRD_TIME_SOURCE 1 |>.wr K.HRD_PTP_PORTS 3 with clk.servo.announced := [(0, 7, rank)] }) with clk.servo.waiting := some ptp }
    let m : PtpMsg := ptp
    decide (s.ptpHeard m = true) &&
    (match s.clk.servo.waiting with
    | some w => (
    decide (w.port = m.port) &&
    decide (w.source = m.source) &&
    decide (w.sequence = m.sequence))
    | _ => false)),
  ( -- delayResp
    let s : State := { ({ up.wr K.HRD_TIME_SOURCE 1 |>.wr K.HRD_PTP_PORTS 3 with clk.servo.announced := [(0, 7, rank)] }) with clk.servo.lastOrigin := some 5 }
    let m : PtpMsg := ptp
    decide (s.ptpHeard m = true) &&
    decide (s.bestMaster = some (m.port, m.source)) &&
    (match s.clk.servo.lastOrigin with
    | some o => (true)
    | _ => false)),
  ( -- announce
    let s : State := { up.wr K.HRD_TIME_SOURCE 1 |>.wr K.HRD_PTP_PORTS 3 with clk.servo.announced := [(0, 7, rank)] }
    let m : PtpMsg := ptp
    decide (s.ptpHeard m = true)),
  ( -- ptpHoldover
    let s : State := up.wr K.HRD_TIME_STATUS 1
    decide (s.locked = true) &&
    decide (s.clk.servo.lastSync + 3 * s.clk.servo.interval ≤ s.clk.dtc) &&
    decide (bit (s.rd K.HRD_TIME_STATUS) 1 = false)),
  ( -- ptpUnlock
    let s : State := up.wr K.HRD_TIME_STATUS 2
    decide (bit (s.rd K.HRD_TIME_STATUS) 1 = true) &&
    decide (s.clk.servo.holdoverAt + s.rd K.HRD_PTP_HOLDOVER ≤ s.clk.dtc)),
  ( -- tsPpsIn
    let s : State := up.wr K.HRD_TIME_SOURCE 2
    let error : Int := 5
    decide (s.rd K.HRD_TIME_SOURCE = 2) &&
    decide (s.clk.running = true) &&
    decide (s.rd K.HRD_PADS_HELD ≠ 1)),
  ( -- tsPpsOut
    let s : State := up.wr K.HRD_PPS_OUT_ENABLE 1
    let t := ((s.clk.dtc : Int) + s.timeOffset) % 10 ^ 9
    decide (s.rd K.HRD_PPS_OUT_ENABLE = 1) &&
    decide (s.clk.running = true) &&
    decide (s.rd K.HRD_PADS_HELD = 0) &&
    decide ((t ≤ 4 ∨ 10 ^ 9 - 4 ≤ t)))].all id = true := by
  decide +kernel

/-- For each clause of CommonsCommands that has hypotheses: operands and a state that meet them. -/
theorem witness_CommonsCommands : [
  ( -- scrubBurst
    let s : State := { up.wr K.CMN_SCRUB_ENABLE 1 with gov.grants := [(80, 2)] }
    let findings : List (Nat × EccKind) := []
    decide (2 ≤ s.granted 80) &&
    decide (s.cmn.burstEnd.isSome = false) &&
    decide (s.rd K.CMN_SCRUB_ENABLE ≠ 0)),
  ( -- scrubBurstEnd
    let s : State := { up with cmn.burstEnd := some 5 }
    decide (s.cmn.burstEnd.isNone = false)),
  ( -- cmnScrubBehind
    let s : State := { up.wr K.CMN_SCRUB_ENABLE 1 |>.wr K.CMN_SCRUB_PERIOD 1 with clk.dtc := 10 ^ 15 }
    let left := (cmnSize - s.rd K.CMN_SCRUB_POSITION) / 16
    decide (s.cmn.behindTold = false) &&
    decide (s.rd K.CMN_SCRUB_ENABLE ≠ 0) &&
    decide (s.cmn.passStart + s.rd K.CMN_SCRUB_PERIOD < s.clk.dtc + left)),
  ( -- cmnTemp
    let s : State := up
    let c : Nat := 0
    let code : Nat := 0
    let out : Bool := false
    decide (c < 32)),
  ( -- cmnChannel
    let s : State := up
    let c : Nat := 0
    decide (c < 32))].all id = true := by
  decide +kernel

/-- For each clause of CrookRequests that has hypotheses: operands and a state that meet them. -/
theorem witness_CrookRequests : [
  ( -- read
    let s : State := crookUp
    let tr : Transport := .i3c
    let src : Nat := 0
    let m : CrookMsg := msg
    decide (s.hears tr src 0x02 m = true) &&
    decide ((s.submitted tr 0x02 m).asks tr src 0x02 m = true)),
  ( -- write
    let s : State := crookUp
    let tr : Transport := .i3c
    let src : Nat := 0
    let m : CrookMsg := msg
    decide (s.hears tr src 0x03 m = true) &&
    decide ((s.submitted tr 0x03 m).asks tr src 0x03 m = true)),
  ( -- blockRead
    let s : State := crookUp
    let tr : Transport := .i3c
    let src : Nat := 0
    let m : CrookMsg := msg
    decide (s.hears tr src 0x04 m = true) &&
    decide ((s.submitted tr 0x04 m).asks tr src 0x04 m = true)),
  ( -- blockWrite
    let s : State := crookUp
    let tr : Transport := .i3c
    let src : Nat := 0
    let m : CrookMsg := msg
    decide (s.hears tr src 0x05 m = true) &&
    decide ((s.submitted tr 0x05 m).asks tr src 0x05 m = true)),
  ( -- beginTxn
    let s : State := crookUp
    let tr : Transport := .i3c
    let src : Nat := 0
    let m : CrookMsg := msg
    decide (s.hears tr src 0x06 m = true) &&
    decide ((s.submitted tr 0x06 m).asks tr src 0x06 m = true)),
  ( -- subscribe
    let s : State := crookUp
    let tr : Transport := .i3c
    let src : Nat := 0
    let m : CrookMsg := msg
    decide (s.hears tr src 0x09 m = true) &&
    decide ((s.submitted tr 0x09 m).asks tr src 0x09 m = true)),
  ( -- commit
    let s : State := crookUp
    let tr : Transport := .i3c
    let src : Nat := 0
    let m : CrookMsg := msg
    decide (s.hears tr src 0x07 m = true) &&
    decide ((s.submitted tr 0x07 m).asks tr src 0x07 m = true)),
  ( -- rollback
    let s : State := crookUp
    let tr : Transport := .i3c
    let src : Nat := 0
    let m : CrookMsg := msg
    decide (s.hears tr src 0x08 m = true) &&
    decide ((s.submitted tr 0x08 m).asks tr src 0x08 m = true))].all id = true := by
  decide +kernel

/-- For each clause of CrookSessionCommands that has hypotheses: operands and a state that meet them. -/
theorem witness_CrookSessionCommands : [
  ( -- hello
    let s : State := up
    let tr : Transport := .i3c
    let src : Nat := 0
    let m : CrookMsg := msg
    decide (s.hears tr src 0x01 m = true)),
  ( -- commitApply
    let s : State := up
    decide (s.ticking = true)),
  ( -- commitTimeout
    let s : State := { up with crf.sessions := [{ opened := true, slot := 1, waiting := some ({ sequence := 1, arrived := 0, request := [], epochCounted := true, journalCounted := true, rollback := none } : WaitCommit) }] }
    let session : Nat := 1
    decide (1 ≤ session) &&
    decide (session ≤ 8) &&
    (match (s.session session).waiting with
    | some w => (
    decide (w.arrived + s.rd K.CRF_COMMIT_TIMEOUT ≤ s.clk.dtc))
    | _ => false)),
  ( -- notify
    let s : State := up
    decide (s.ticking = true)),
  ( -- crfAuth
    let s : State := up
    let n : Nat := 0
    decide (s.boot.croftServes = true)),
  ( -- sessionIdleTimeout
    let s : State := up
    let session : Nat := 1
    decide (1 ≤ session) &&
    decide (session ≤ 8) &&
    decide ((s.session session).opened = true) &&
    decide ((s.session session).lastMsg + s.rd K.CRF_SESSION_IDLE ≤ s.clk.dtc)),
  ( -- txnIdleTimeout
    let s : State := { up with crf.sessions := [{ opened := true, slot := 1, txn := some { number := 1, staged := [], lastMsg := 0 } }] }
    let session : Nat := 1
    decide (1 ≤ session) &&
    decide (session ≤ 8) &&
    (match (s.session session).txn with
    | some t => (
    decide ((s.session session).waiting = none) &&
    decide (t.lastMsg + s.rd K.CRF_TXN_IDLE ≤ s.clk.dtc))
    | _ => false)),
  ( -- pfMbxGo
    let s : State := hostUp
    let port : Nat := 0
    decide (s.pfExists port = true) &&
    let x := s.mailbox port
    decide (bit x.ctrl 1 = false) &&
    decide (bit x.ctrl 2 = false) &&
    decide (s.serves (.mbx port) = true)),
  ( -- pfMbxRspRelease
    let s : State := hostUp
    let p : Nat := 0
    decide (s.pfExists p = true)),
  ( -- pfMbxNtfRelease
    let s : State := hostUp
    let p : Nat := 0
    decide (s.pfExists p = true)),
  ( -- crfMramWear
    let s : State := { up with mram.passes := 10 ^ 12 }
    decide (s.rd K.CRF_MRAM_PASS_LIMIT ≤ s.mram.passes) &&
    decide (s.crf.wearReported < 2)),
  ( -- crfMramWear
    let s : State := { up with mram.passes := 800000000 }
    decide (s.mram.passes < s.rd K.CRF_MRAM_PASS_LIMIT) &&
    decide (800000000 ≤ s.mram.passes) &&
    decide (s.crf.wearReported = 0)),
  ( -- barRegisterWrite
    let s : State := up
    let f : Func := .pf 0
    let offset : Nat := 0
    let size : Nat := 4
    let value : Nat := 0
    decide (barFits offset size = true) &&
    decide (size = 4)),
  ( -- barRegisterWrite
    let s : State := up
    let f : Func := .pf 0
    let offset : Nat := 0
    let size : Nat := 8
    let value : Nat := 0
    decide (barFits offset size = true) &&
    decide (size ≠ 4))].all id = true := by
  decide +kernel

/-- For each clause of KeyPermissionAndPointerWrites that has hypotheses: operands and a state that meet them. -/
theorem witness_KeyPermissionAndPointerWrites : [
  ( -- crfKeySlot
    let s : State := up
    let n : Nat := 1
    let slot : Nat := 2
    let key : List Byte := zeros 48
    decide (1 ≤ slot) &&
    decide (slot ≤ 8) &&
    decide (s.mayWrite n (K.CRF_KEY_SLOT (slot - 1)) key)),
  ( -- crfKeyLock
    let s : State := up
    let n : Nat := 1
    let mask : Nat := 0
    decide (s.mayWrite n K.CRF_KEY_LOCK (wire K.CRF_KEY_LOCK mask))),
  ( -- crfTransportEnable
    let s : State := up
    let n : Nat := 1
    let value : Nat := 7
    decide (bit (carried K.CRF_TRANSPORT_ENABLE value) (transportNum (s.session n).transport) = true) &&
    decide (s.mayWrite n K.CRF_TRANSPORT_ENABLE (wire K.CRF_TRANSPORT_ENABLE value))),
  ( -- gtpViolationRead
    let s : State := up
    let n : Nat := 1
    let value : Nat := 0
    decide (s.mayWrite n K.GTP_VIOLATION_READ (wire K.GTP_VIOLATION_READ value)) &&
    (match s.ringRead K.GTP_VIOLATION_READ K.GTP_VIOLATION_WRITE 1024 (carried K.GTP_VIOLATION_READ value) with
    | (st, e) => (decide (st = Status.ok)))),
  ( -- lomSampleRead
    let s : State := up.wr (K.CMN_CARVE_ACTIVE 4) (2 ^ 30)
    let n : Nat := 1
    let value : Nat := 0
    decide (s.mayWrite n K.LOM_SAMPLE_READ (wire K.LOM_SAMPLE_READ value)) &&
    (match s.ringRead K.LOM_SAMPLE_READ K.LOM_SAMPLE_WRITE s.sampleSlots (carried K.LOM_SAMPLE_READ value) with
    | (st, e) => (decide (st = Status.ok)))),
  ( -- pdkQsampleRead
    let s : State := up.wr (K.CMN_CARVE_ACTIVE 4) (2 ^ 30)
    let n : Nat := 1
    let value : Nat := 0
    decide (s.mayWrite n K.PDK_QSAMPLE_READ (wire K.PDK_QSAMPLE_READ value)) &&
    (match s.ringRead K.PDK_QSAMPLE_READ K.PDK_QSAMPLE_WRITE s.qsampleSlots (carried K.PDK_QSAMPLE_READ value) with
    | (st, e) => (decide (st = Status.ok)))),
  ( -- pdkTallyRead
    let s : State := up.wr K.PDK_TALLY_SLOTS 4
    let n : Nat := 1
    let value : Nat := 0
    decide (s.mayWrite n K.PDK_TALLY_READ (wire K.PDK_TALLY_READ value)) &&
    (match s.ringRead K.PDK_TALLY_READ K.PDK_TALLY_WRITE (s.rd K.PDK_TALLY_SLOTS) (carried K.PDK_TALLY_READ value) with
    | (st, e) => (decide (st = Status.ok))))].all id = true := by
  decide +kernel

/-- For each clause of ProgramCommands that has hypotheses: operands and a state that meet them. -/
theorem witness_ProgramCommands : [
  ( -- dispatch
    let s : State := (vfUp { state := 1, descs := [{ id := 1, sq := 0, here := true, bytes := [1] ++ zeros 23 ++ leBytes 8 64 ++ zeros 32 }] })
    (match s.turn s.tfb.dispatchPtr (fun v => s.vfDispatches v && (List.range 4).any (s.sqDispatches v)) with
    | some v => (
    (match (rotFind (s.sqDispatches v) 4 (s.vf v).dispPtr).bind (s.headDesc v) with
    | some d => (
    decide (s.descFault v d.bytes = none) &&
    (match s.placeFor v d.bytes with
    | some w => (true)
    | _ => false))
    | _ => false))
    | _ => false)),
  ( -- loadStart
    let s : State := up
    let n : Nat := 1
    decide (s.mayWrite n K.DRV_LOAD_CTRL (wire K.DRV_LOAD_CTRL 1)) &&
    (match s.loadCtrl (s.perm n) 1 with
    | (st, e) => (decide (st = Status.ok)))),
  ( -- drvLoadChunk
    let s : State := { up with drv.load := some { slot := 0, image := [], verifying := false } }
    let n : Nat := 1
    let chunk : List Byte := zeros 1024
    decide (s.mayWrite n K.DRV_LOAD_CHUNK chunk) &&
    (match s.loadChunk chunk with
    | (st, e) => (decide (st = Status.ok)))),
  ( -- loadFinish
    let s : State := { up with drv.load := some { slot := 0, image := [], verifying := false } }
    let n : Nat := 1
    decide (s.mayWrite n K.DRV_LOAD_CTRL (wire K.DRV_LOAD_CTRL 2)) &&
    (match s.loadCtrl (s.perm n) 2 with
    | (st, e) => (decide (st = Status.ok)))),
  ( -- loadVerifyDone
    let s : State := { up with drv.load := some { slot := 1, image := [], verifying := true } }
    (match s.drv.load with
    | some l => (
    decide (l.verifying = true))
    | _ => false)),
  ( -- loadAbort
    let s : State := { up with drv.load := some { slot := 0, image := [], verifying := false } }
    let n : Nat := 1
    decide (s.mayWrite n K.DRV_LOAD_CTRL (wire K.DRV_LOAD_CTRL 3)) &&
    (match s.loadCtrl (s.perm n) 3 with
    | (st, e) => (decide (st = Status.ok)))),
  ( -- loadUnload
    let s : State := up.wr (K.DRV_PROG_STATE 0) 2
    let n : Nat := 1
    decide (s.mayWrite n K.DRV_LOAD_CTRL (wire K.DRV_LOAD_CTRL 4)) &&
    (match s.loadCtrl (s.perm n) 4 with
    | (st, e) => (decide (st = Status.ok)))),
  ( -- unloadComplete
    let s : State := { up with drv.unloading := [(3, 0)] }
    let slot : Nat := 3
    (match s.drv.unloading.find? (fun e => e.1 == slot) with
    | some e => (
    decide (e.2 < s.now) &&
    decide (s.drv.threads.any (fun t => t.1 < 512 && t.2.busy && t.2.prog == slot) = false))
    | _ => false)),
  ( -- drvProgKeyLock
    let s : State := up
    let n : Nat := 1
    let mask : Nat := 0
    decide (s.mayWrite n K.DRV_PROG_KEY_LOCK (wire K.DRV_PROG_KEY_LOCK mask)))].all id = true := by
  decide +kernel

/-- For each clause of EngineManagementCommands that has hypotheses: operands and a state that meet them. -/
theorem witness_EngineManagementCommands : [
  ( -- zeroRelease
    let s : State := { up with fab.fold.zeroing := [(7, 1, 0, 0)] }
    let e : Nat := 7
    let ok : Bool := false
    (match s.fab.fold.zeroing.find? (fun z => z.1 == e) with
    | some z => (true)
    | _ => false)),
  ( -- drvZeroRetry
    let s : State := { up with drv.zeroFailed := [0] }
    let n : Nat := 1
    let extent : Nat := 0
    decide (s.mayWrite n K.DRV_ZERO_RETRY (wire K.DRV_ZERO_RETRY extent)) &&
    (match s.zeroRetry (carried K.DRV_ZERO_RETRY extent) with
    | (st, e) => (decide (st = Status.ok)))),
  ( -- drvHotpageFold
    let s : State := up
    let n : Nat := 1
    let fold : Nat := 0
    decide (s.mayWrite n K.DRV_HOTPAGE_FOLD (wire K.DRV_HOTPAGE_FOLD fold)) &&
    (match s.hotpageFold (carried K.DRV_HOTPAGE_FOLD fold) with
    | (st, e) => (decide (st = Status.ok)))),
  ( -- hotpagePublish
    let s : State := up.wr K.DRV_HOTPAGE_FOLD 1
    decide (s.rd K.DRV_HOTPAGE_FOLD ≠ 0) &&
    decide (s.tallyInterval ≠ s.drv.hotAt)),
  ( -- drvEngineFence
    let s : State := up
    let n : Nat := 1
    let engine : Nat := 0
    let value : Nat := 1
    decide (engine < 128) &&
    decide (carried (K.DRV_ENGINE_FENCE engine) value = 1) &&
    decide (s.mayWrite n (K.DRV_ENGINE_FENCE engine) (wire (K.DRV_ENGINE_FENCE engine) value))),
  ( -- drvEngine
    let s : State := up
    let e : Nat := 0
    decide (e < 128)),
  ( -- drvCluster
    let s : State := up
    let c : Nat := 0
    decide (c < 16)),
  ( -- drvSramEcc
    let s : State := up
    let c : Nat := 0
    let k : EccKind := .corrected
    let place : SramPlace := .slice 0
    let there := match place with
    | .slice u => clusterOf u == c
    | .segment slot fold => slot < 64 && fold < 1024 && s.segLive (segBase c slot fold)
    decide (c < 16) &&
    decide (there = true)),
  ( -- clusterRetestDone
    let s : State := { up with flt.retest := [0] }
    let c : Nat := 0
    let pass : Bool := false
    decide (s.flt.retest.contains c = true))].all id = true := by
  decide +kernel

/-- For each clause of ServiceDescriptors that has hypotheses: operands and a state that meet them. -/
theorem witness_ServiceDescriptors : [
  ( -- copy
    let s : State := up.putThread 0 { busy := true, prog := 65, desc := zeros 24 ++ leBytes 8 4096 ++ zeros 32 }
    let x : ExecUnit := .thread 0
    let u := unitNum x
    let t := s.thread u
    let d := t.desc
    decide (unitExists x = true) &&
    decide (t.ready = true) &&
    decide (t.prog = 65) &&
    decide (s.noTracker false = false) &&
    decide (t.step = 0) &&
    decide (descSrcSpace d = descDstSpace d) &&
    decide (descSrc d < descDst d + descLen d) &&
    decide (descDst d < descSrc d + descLen d)),
  ( -- copy
    let s : State := up.putThread 0 { busy := true, prog := 65, desc := zeros 16 ++ leBytes 8 (2 ^ 40) ++ leBytes 8 (2 ^ 27) ++ zeros 32 }
    let x : ExecUnit := .thread 0
    let u := unitNum x
    let t := s.thread u
    let d := t.desc
    decide (unitExists x = true) &&
    decide (t.ready = true) &&
    decide (t.prog = 65) &&
    decide (s.noTracker false = false) &&
    decide (t.step = 0) &&
    decide (¬(descSrcSpace d = descDstSpace d ∧ descSrc d < descDst d + descLen d ∧ descDst d < descSrc d + descLen d)) &&
    decide (64 * 2 ^ 20 < descLen d)),
  ( -- copy
    let s : State := svc 65 {}
    let x : ExecUnit := .thread 0
    let u := unitNum x
    let t := s.thread u
    let d := t.desc
    decide (unitExists x = true) &&
    decide (t.ready = true) &&
    decide (t.prog = 65) &&
    decide (s.noTracker false = false) &&
    decide (t.step = 0) &&
    decide (¬(descSrcSpace d = descDstSpace d ∧ descSrc d < descDst d + descLen d ∧ descDst d < descSrc d + descLen d)) &&
    decide (descLen d ≤ 64 * 2 ^ 20)),
  ( -- copy
    let s : State := svc 65 { step := 1 }
    let x : ExecUnit := .thread 0
    let u := unitNum x
    let t := s.thread u
    decide (unitExists x = true) &&
    decide (t.ready = true) &&
    decide (t.prog = 65) &&
    decide (s.noTracker false = false) &&
    decide (t.step = 1)),
  ( -- copy
    let s : State := svc 65 { step := 2, ops := [{ op with result := some 0 }] }
    let x : ExecUnit := .thread 0
    let u := unitNum x
    let t := s.thread u
    decide (unitExists x = true) &&
    decide (t.ready = true) &&
    decide (t.prog = 65) &&
    decide (s.noTracker false = false) &&
    decide (t.step = 2) &&
    decide (t.ops.all (·.isDone) = true)),
  ( -- fill
    let s : State := svc 66 {}
    let x : ExecUnit := .thread 0
    let u := unitNum x
    let t := s.thread u
    decide (unitExists x = true) &&
    decide (t.ready = true) &&
    decide (t.prog = 66) &&
    decide (s.noTracker false = false) &&
    decide (t.step = 0)),
  ( -- fill
    let s : State := svc 66 { step := 2, ops := [{ op with result := some 0 }] }
    let x : ExecUnit := .thread 0
    let u := unitNum x
    let t := s.thread u
    decide (unitExists x = true) &&
    decide (t.ready = true) &&
    decide (t.prog = 66) &&
    decide (s.noTracker false = false) &&
    decide (t.step = 2) &&
    decide (t.ops.all (·.isDone) = true)),
  ( -- zero
    let s : State := svc 67 {}
    let x : ExecUnit := .thread 0
    let u := unitNum x
    let t := s.thread u
    decide (unitExists x = true) &&
    decide (t.ready = true) &&
    decide (t.prog = 67) &&
    decide (s.noTracker false = false) &&
    decide (t.step = 0)),
  ( -- zero
    let s : State := svc 67 { step := 2, ops := [{ op with result := some 0 }] }
    let x : ExecUnit := .thread 0
    let u := unitNum x
    let t := s.thread u
    decide (unitExists x = true) &&
    decide (t.ready = true) &&
    decide (t.prog = 67) &&
    decide (s.noTracker false = false) &&
    decide (t.step = 2) &&
    decide (t.ops.all (·.isDone) = true)),
  ( -- crc32cDescriptor
    let s : State := svc 68 {}
    let x : ExecUnit := .thread 0
    let u := unitNum x
    let t := s.thread u
    decide (unitExists x = true) &&
    decide (t.ready = true) &&
    decide (t.prog = 68) &&
    decide (s.noTracker false = false) &&
    decide (t.ops = [])),
  ( -- crc32cDescriptor
    let s : State := svc 68 { ops := [{ op with result := some 0 }] }
    let x : ExecUnit := .thread 0
    let u := unitNum x
    let t := s.thread u
    let d := t.desc
    decide (unitExists x = true) &&
    decide (t.ready = true) &&
    decide (t.prog = 68) &&
    decide (s.noTracker false = false) &&
    (match t.ops with
    | o :: r => (
    decide (o.result = some 0) &&
    decide (s.segBad u (.scratch (16384 * u)) = false) &&
    decide (descLen d ≤ 8192 * (t.step + 1)))
    | _ => false)),
  ( -- compare
    let s : State := svc 69 {}
    let x : ExecUnit := .thread 0
    let u := unitNum x
    let t := s.thread u
    decide (unitExists x = true) &&
    decide (t.ready = true) &&
    decide (t.prog = 69) &&
    decide (s.noTracker false = false) &&
    decide (t.ops = [])),
  ( -- compare
    let s : State := svc 69 { ops := [{ op with result := some 0 }, { op with handle := 1, result := some 0 }] }
    let x : ExecUnit := .thread 0
    let u := unitNum x
    let t := s.thread u
    let d := t.desc
    decide (unitExists x = true) &&
    decide (t.ready = true) &&
    decide (t.prog = 69) &&
    decide (s.noTracker false = false) &&
    decide (t.ops.isEmpty = false) &&
    decide (t.ops.all (·.isDone) = true) &&
    decide (t.ops.find? (fun o => o.result.getD 0 % 256 != 0) = none) &&
    decide (s.segBad u (.scratch (16384 * u)) = false) &&
    decide (descLen d ≤ 4096 * (t.step + 1)))].all id = true := by
  decide +kernel

/-- For each clause of RegisterOperations that has hypotheses: operands and a state that meet them. -/
theorem witness_RegisterOperations : [
  ( -- add
    let s : State := thr
    let x : ExecUnit := .thread 0
    let rd : Reg := 1
    let ra : Reg := 2
    let rb : Reg := 3
    decide (s.mayIssue x = true)),
  ( -- sub
    let s : State := thr
    let x : ExecUnit := .thread 0
    let rd : Reg := 1
    let ra : Reg := 2
    let rb : Reg := 3
    decide (s.mayIssue x = true)),
  ( -- and
    let s : State := thr
    let x : ExecUnit := .thread 0
    let rd : Reg := 1
    let ra : Reg := 2
    let rb : Reg := 3
    decide (s.mayIssue x = true)),
  ( -- or
    let s : State := thr
    let x : ExecUnit := .thread 0
    let rd : Reg := 1
    let ra : Reg := 2
    let rb : Reg := 3
    decide (s.mayIssue x = true)),
  ( -- xor
    let s : State := thr
    let x : ExecUnit := .thread 0
    let rd : Reg := 1
    let ra : Reg := 2
    let rb : Reg := 3
    decide (s.mayIssue x = true)),
  ( -- sll
    let s : State := thr
    let x : ExecUnit := .thread 0
    let rd : Reg := 1
    let ra : Reg := 2
    let rb : Reg := 3
    decide (s.mayIssue x = true)),
  ( -- srl
    let s : State := thr
    let x : ExecUnit := .thread 0
    let rd : Reg := 1
    let ra : Reg := 2
    let rb : Reg := 3
    decide (s.mayIssue x = true)),
  ( -- sra
    let s : State := thr
    let x : ExecUnit := .thread 0
    let rd : Reg := 1
    let ra : Reg := 2
    let rb : Reg := 3
    decide (s.mayIssue x = true)),
  ( -- slt
    let s : State := thr
    let x : ExecUnit := .thread 0
    let rd : Reg := 1
    let ra : Reg := 2
    let rb : Reg := 3
    decide (s.mayIssue x = true)),
  ( -- sltu
    let s : State := thr
    let x : ExecUnit := .thread 0
    let rd : Reg := 1
    let ra : Reg := 2
    let rb : Reg := 3
    decide (s.mayIssue x = true)),
  ( -- mul
    let s : State := thr
    let x : ExecUnit := .thread 0
    let rd : Reg := 1
    let ra : Reg := 2
    let rb : Reg := 3
    decide (s.mayIssue x = true)),
  ( -- mulhu
    let s : State := thr
    let x : ExecUnit := .thread 0
    let rd : Reg := 1
    let ra : Reg := 2
    let rb : Reg := 3
    decide (s.mayIssue x = true)),
  ( -- divu
    let s : State := thr
    let x : ExecUnit := .thread 0
    let rd : Reg := 1
    let ra : Reg := 2
    let rb : Reg := 3
    decide (s.mayIssue x = true)),
  ( -- remu
    let s : State := thr
    let x : ExecUnit := .thread 0
    let rd : Reg := 1
    let ra : Reg := 2
    let rb : Reg := 3
    decide (s.mayIssue x = true)),
  ( -- min
    let s : State := thr
    let x : ExecUnit := .thread 0
    let rd : Reg := 1
    let ra : Reg := 2
    let rb : Reg := 3
    decide (s.mayIssue x = true)),
  ( -- max
    let s : State := thr
    let x : ExecUnit := .thread 0
    let rd : Reg := 1
    let ra : Reg := 2
    let rb : Reg := 3
    decide (s.mayIssue x = true)),
  ( -- minu
    let s : State := thr
    let x : ExecUnit := .thread 0
    let rd : Reg := 1
    let ra : Reg := 2
    let rb : Reg := 3
    decide (s.mayIssue x = true)),
  ( -- maxu
    let s : State := thr
    let x : ExecUnit := .thread 0
    let rd : Reg := 1
    let ra : Reg := 2
    let rb : Reg := 3
    decide (s.mayIssue x = true)),
  ( -- clz
    let s : State := thr
    let x : ExecUnit := .thread 0
    let rd : Reg := 1
    let ra : Reg := 2
    let rb : Reg := 0
    decide (s.mayIssue x = true) &&
    decide (rb = 0)),
  ( -- popc
    let s : State := thr
    let x : ExecUnit := .thread 0
    let rd : Reg := 1
    let ra : Reg := 2
    let rb : Reg := 0
    decide (s.mayIssue x = true) &&
    decide (rb = 0)),
  ( -- bswap
    let s : State := thr
    let x : ExecUnit := .thread 0
    let rd : Reg := 1
    let ra : Reg := 2
    let rb : Reg := 0
    decide (s.mayIssue x = true) &&
    decide (rb = 0)),
  ( -- crc32c
    let s : State := thr
    let x : ExecUnit := .thread 0
    let rd : Reg := 1
    let ra : Reg := 2
    let rb : Reg := 3
    decide (s.mayIssue x = true))].all id = true := by
  decide +kernel

/-- For each clause of ImmediateOperations that has hypotheses: operands and a state that meet them. -/
theorem witness_ImmediateOperations : [
  ( -- addi
    let s : State := thr
    let x : ExecUnit := .thread 0
    let rd : Reg := 1
    let ra : Reg := 2
    let imm : BitVec 16 := 4
    decide (s.mayIssue x = true)),
  ( -- andi
    let s : State := thr
    let x : ExecUnit := .thread 0
    let rd : Reg := 1
    let ra : Reg := 2
    let imm : BitVec 16 := 4
    decide (s.mayIssue x = true)),
  ( -- ori
    let s : State := thr
    let x : ExecUnit := .thread 0
    let rd : Reg := 1
    let ra : Reg := 2
    let imm : BitVec 16 := 4
    decide (s.mayIssue x = true)),
  ( -- xori
    let s : State := thr
    let x : ExecUnit := .thread 0
    let rd : Reg := 1
    let ra : Reg := 2
    let imm : BitVec 16 := 4
    decide (s.mayIssue x = true)),
  ( -- slli
    let s : State := thr
    let x : ExecUnit := .thread 0
    let rd : Reg := 1
    let ra : Reg := 2
    let imm : BitVec 16 := 4
    decide (s.mayIssue x = true) &&
    decide (imm.toNat < 64)),
  ( -- srli
    let s : State := thr
    let x : ExecUnit := .thread 0
    let rd : Reg := 1
    let ra : Reg := 2
    let imm : BitVec 16 := 4
    decide (s.mayIssue x = true) &&
    decide (imm.toNat < 64)),
  ( -- srai
    let s : State := thr
    let x : ExecUnit := .thread 0
    let rd : Reg := 1
    let ra : Reg := 2
    let imm : BitVec 16 := 4
    decide (s.mayIssue x = true) &&
    decide (imm.toNat < 64)),
  ( -- slti
    let s : State := thr
    let x : ExecUnit := .thread 0
    let rd : Reg := 1
    let ra : Reg := 2
    let imm : BitVec 16 := 4
    decide (s.mayIssue x = true)),
  ( -- sltiu
    let s : State := thr
    let x : ExecUnit := .thread 0
    let rd : Reg := 1
    let ra : Reg := 2
    let imm : BitVec 16 := 4
    decide (s.mayIssue x = true)),
  ( -- lui
    let s : State := thr
    let x : ExecUnit := .thread 0
    let rd : Reg := 1
    let ra : Reg := 2
    let imm : BitVec 16 := 4
    decide (s.mayIssue x = true)),
  ( -- shlori
    let s : State := thr
    let x : ExecUnit := .thread 0
    let rd : Reg := 1
    let ra : Reg := 2
    let imm : BitVec 16 := 4
    decide (s.mayIssue x = true))].all id = true := by
  decide +kernel

/-- For each clause of LocalMemoryInstructions that has hypotheses: operands and a state that meet them. -/
theorem witness_LocalMemoryInstructions : [
  ( -- ld8
    let s : State := thr
    let x : ExecUnit := .thread 0
    let rt : Reg := 1
    let ra : Reg := 2
    let off : BitVec 16 := 4
    let t := s.issuer x
    let u := unitNum x
    let a := (t.reg ra + sext off).toNat
    decide (s.mayIssue x = true) &&
    decide (a % 1 = 0) &&
    (match (s.issued x).seg u a 1 with
    | some g => (
    decide ((s.issued x).segBad u g = false))
    | _ => false)),
  ( -- ld16
    let s : State := thr
    let x : ExecUnit := .thread 0
    let rt : Reg := 1
    let ra : Reg := 2
    let off : BitVec 16 := 4
    let t := s.issuer x
    let u := unitNum x
    let a := (t.reg ra + sext off).toNat
    decide (s.mayIssue x = true) &&
    decide (a % 2 = 0) &&
    (match (s.issued x).seg u a 2 with
    | some g => (
    decide ((s.issued x).segBad u g = false))
    | _ => false)),
  ( -- ld32
    let s : State := thr
    let x : ExecUnit := .thread 0
    let rt : Reg := 1
    let ra : Reg := 2
    let off : BitVec 16 := 4
    let t := s.issuer x
    let u := unitNum x
    let a := (t.reg ra + sext off).toNat
    decide (s.mayIssue x = true) &&
    decide (a % 4 = 0) &&
    decide (croftReg u a 4 = none) &&
    (match (s.issued x).seg u a 4 with
    | some g => (
    decide ((s.issued x).segBad u g = false))
    | _ => false)),
  ( -- ld64
    let s : State := thr
    let x : ExecUnit := .thread 0
    let rt : Reg := 1
    let ra : Reg := 2
    let off : BitVec 16 := 0
    let t := s.issuer x
    let u := unitNum x
    let a := (t.reg ra + sext off).toNat
    decide (s.mayIssue x = true) &&
    decide (a % 8 = 0) &&
    (match (s.issued x).seg u a 8 with
    | some g => (
    decide ((s.issued x).segBad u g = false))
    | _ => false)),
  ( -- lds8
    let s : State := thr
    let x : ExecUnit := .thread 0
    let rt : Reg := 1
    let ra : Reg := 2
    let off : BitVec 16 := 4
    let t := s.issuer x
    let u := unitNum x
    let a := (t.reg ra + sext off).toNat
    decide (s.mayIssue x = true) &&
    decide (a % 1 = 0) &&
    (match (s.issued x).seg u a 1 with
    | some g => (
    decide ((s.issued x).segBad u g = false))
    | _ => false)),
  ( -- lds16
    let s : State := thr
    let x : ExecUnit := .thread 0
    let rt : Reg := 1
    let ra : Reg := 2
    let off : BitVec 16 := 4
    let t := s.issuer x
    let u := unitNum x
    let a := (t.reg ra + sext off).toNat
    decide (s.mayIssue x = true) &&
    decide (a % 2 = 0) &&
    (match (s.issued x).seg u a 2 with
    | some g => (
    decide ((s.issued x).segBad u g = false))
    | _ => false)),
  ( -- lds32
    let s : State := thr
    let x : ExecUnit := .thread 0
    let rt : Reg := 1
    let ra : Reg := 2
    let off : BitVec 16 := 4
    let t := s.issuer x
    let u := unitNum x
    let a := (t.reg ra + sext off).toNat
    decide (s.mayIssue x = true) &&
    decide (a % 4 = 0) &&
    decide (croftReg u a 4 = none) &&
    (match (s.issued x).seg u a 4 with
    | some g => (
    decide ((s.issued x).segBad u g = false))
    | _ => false)),
  ( -- st8
    let s : State := thr
    let x : ExecUnit := .thread 0
    let rt : Reg := 1
    let ra : Reg := 2
    let off : BitVec 16 := 4
    let t := s.issuer x
    let u := unitNum x
    let a := (t.reg ra + sext off).toNat
    decide (s.mayIssue x = true) &&
    decide (a % 1 = 0) &&
    (match (s.issued x).seg u a 1 with
    | some g => (
    decide (g.writable = true))
    | _ => false)),
  ( -- st16
    let s : State := thr
    let x : ExecUnit := .thread 0
    let rt : Reg := 1
    let ra : Reg := 2
    let off : BitVec 16 := 4
    let t := s.issuer x
    let u := unitNum x
    let a := (t.reg ra + sext off).toNat
    decide (s.mayIssue x = true) &&
    decide (a % 2 = 0) &&
    (match (s.issued x).seg u a 2 with
    | some g => (
    decide (g.writable = true))
    | _ => false)),
  ( -- st32
    let s : State := thr
    let x : ExecUnit := .thread 0
    let rt : Reg := 1
    let ra : Reg := 2
    let off : BitVec 16 := 4
    let t := s.issuer x
    let u := unitNum x
    let a := (t.reg ra + sext off).toNat
    decide (s.mayIssue x = true) &&
    decide (a % 4 = 0) &&
    decide (croftReg u a 4 = none) &&
    (match (s.issued x).seg u a 4 with
    | some g => (
    decide (g.writable = true))
    | _ => false)),
  ( -- st64
    let s : State := thr
    let x : ExecUnit := .thread 0
    let rt : Reg := 1
    let ra : Reg := 2
    let off : BitVec 16 := 0
    let t := s.issuer x
    let u := unitNum x
    let a := (t.reg ra + sext off).toNat
    decide (s.mayIssue x = true) &&
    decide (a % 8 = 0) &&
    (match (s.issued x).seg u a 8 with
    | some g => (
    decide (g.writable = true))
    | _ => false)),
  ( -- ld32
    let s : State := up.putThread 512 { busy := true, regs := List.replicate 32 0x10000004 }
    let x : ExecUnit := .croft 0
    let rt : Reg := 1
    let ra : Reg := 2
    let off : BitVec 16 := 0
    let t := s.issuer x
    let u := unitNum x
    let a := (t.reg ra + sext off).toNat
    decide (s.mayIssue x = true) &&
    decide (a % 4 = 0) &&
    (match croftReg u a 4 with
    | some o => (
    (match (s.issued x).cicRead (u - 512) o with
    | some (v, e) => (true)
    | _ => false))
    | _ => false)),
  ( -- lds32
    let s : State := up.putThread 512 { busy := true, regs := List.replicate 32 0x10000004 }
    let x : ExecUnit := .croft 0
    let rt : Reg := 1
    let ra : Reg := 2
    let off : BitVec 16 := 0
    let t := s.issuer x
    let u := unitNum x
    let a := (t.reg ra + sext off).toNat
    decide (s.mayIssue x = true) &&
    decide (a % 4 = 0) &&
    (match croftReg u a 4 with
    | some o => (
    (match (s.issued x).cicRead (u - 512) o with
    | some (v, e) => (true)
    | _ => false))
    | _ => false)),
  ( -- st32
    let s : State := up.putThread 512 { busy := true, regs := List.replicate 32 0x10000004 }
    let x : ExecUnit := .croft 0
    let rt : Reg := 1
    let ra : Reg := 2
    let off : BitVec 16 := 0
    let t := s.issuer x
    let u := unitNum x
    let a := (t.reg ra + sext off).toNat
    decide (s.mayIssue x = true) &&
    decide (a % 4 = 0) &&
    (match croftReg u a 4 with
    | some o => (
    (match (s.issued x).cicWrite (u - 512) o (t.num rt % 2 ^ 32) with
    | some e => (true)
    | _ => false))
    | _ => false)),
  ( -- latom
    let s : State := up.putThread 512 { busy := true, regs := List.replicate 32 0x2000000 }
    let x : ExecUnit := .croft 0
    let rd : Reg := 1
    let ra : Reg := 2
    let rb : Reg := 3
    let size8 : Bool := true
    let func : BitVec 6 := 1
    let t := s.issuer x
    let u := unitNum x
    let n := if size8 then 8 else 4
    decide (s.mayIssue x = true) &&
    decide (1 ≤ func.toNat) &&
    decide (func.toNat ≤ 10) &&
    decide (t.num ra % n = 0) &&
    (match (s.issued x).seg u (t.num ra) n with
    | some (.data k) => (
    decide ((s.issued x).segBad u (.data k) = false))
    | _ => false))].all id = true := by
  decide +kernel

/-- For each clause of ControlInstructions that has hypotheses: operands and a state that meet them. -/
theorem witness_ControlInstructions : [
  ( -- beq
    let s : State := thr
    let x : ExecUnit := .thread 0
    let ra : Reg := 2
    let rb : Reg := 3
    let offset : BitVec 16 := 4
    decide (s.mayIssue x = true)),
  ( -- bne
    let s : State := thr
    let x : ExecUnit := .thread 0
    let ra : Reg := 2
    let rb : Reg := 3
    let offset : BitVec 16 := 4
    decide (s.mayIssue x = true)),
  ( -- blt
    let s : State := thr
    let x : ExecUnit := .thread 0
    let ra : Reg := 2
    let rb : Reg := 3
    let offset : BitVec 16 := 4
    decide (s.mayIssue x = true)),
  ( -- bge
    let s : State := thr
    let x : ExecUnit := .thread 0
    let ra : Reg := 2
    let rb : Reg := 3
    let offset : BitVec 16 := 4
    decide (s.mayIssue x = true)),
  ( -- bltu
    let s : State := thr
    let x : ExecUnit := .thread 0
    let ra : Reg := 2
    let rb : Reg := 3
    let offset : BitVec 16 := 4
    decide (s.mayIssue x = true)),
  ( -- bgeu
    let s : State := thr
    let x : ExecUnit := .thread 0
    let ra : Reg := 2
    let rb : Reg := 3
    let offset : BitVec 16 := 4
    decide (s.mayIssue x = true)),
  ( -- jal
    let s : State := thr
    let x : ExecUnit := .thread 0
    let rd : Reg := 1
    let offset : BitVec 21 := 4
    decide (s.mayIssue x = true)),
  ( -- jalr
    let s : State := thr
    let x : ExecUnit := .thread 0
    let rd : Reg := 1
    let ra : Reg := 2
    let imm : BitVec 16 := 4
    decide (s.mayIssue x = true)),
  ( -- csrr
    let s : State := thr
    let x : ExecUnit := .thread 0
    let rd : Reg := 1
    let ra : Reg := 2
    let imm : BitVec 16 := 4
    let t := s.issuer x
    decide (s.mayIssue x = true) &&
    (match (s.issued x).csr (unitNum x) t imm.toNat with
    | some v => (
    decide (¬(unitNum x < 512 ∧ (imm.toNat = 0x020 ∨ imm.toNat = 0x021))))
    | _ => false)),
  ( -- csrw
    let s : State := thr
    let x : ExecUnit := .thread 0
    let rd : Reg := 1
    let ra : Reg := 0
    let imm : BitVec 16 := 5
    let t := s.issuer x
    decide (s.mayIssue x = true) &&
    decide (imm.toNat % 4096 = 0x005) &&
    decide (t.num ra ≤ 1)),
  ( -- csrw
    let s : State := thr
    let x : ExecUnit := .thread 0
    let rd : Reg := 1
    let ra : Reg := 2
    let imm : BitVec 16 := 8
    let t := s.issuer x
    decide (s.mayIssue x = true) &&
    decide (imm.toNat % 4096 = 0x008) &&
    decide (t.num ra < 2 ^ 17)),
  ( -- csrw
    let s : State := up.putThread 512 { busy := true }
    let x : ExecUnit := .croft 0
    let rd : Reg := 1
    let ra : Reg := 2
    let imm : BitVec 16 := 1
    let t := s.issuer x
    decide (s.mayIssue x = true) &&
    decide (imm.toNat % 4096 = 0x001) &&
    decide (512 ≤ unitNum x) &&
    decide (t.num ra ≤ 1023)),
  ( -- wait
    let s : State := thr
    let x : ExecUnit := .thread 0
    let rd : Reg := 1
    let ra : Reg := 2
    let imm : BitVec 16 := 4
    let t := s.issuer x
    let mask := t.num ra % 8
    decide (s.mayIssue x = true) &&
    decide (mask = 0)),
  ( -- wait
    let s : State := up.putThread 0 { busy := true, prog := 70, regs := List.replicate 32 1, completed := true }
    let x : ExecUnit := .thread 0
    let rd : Reg := 1
    let ra : Reg := 2
    let imm : BitVec 16 := 0
    let t := s.issuer x
    let mask := t.num ra % 8
    decide (s.mayIssue x = true) &&
    decide (¬(bit mask 2 = true ∧ imm = 0)) &&
    decide (bit mask 0 = true) &&
    decide (t.completed = true)),
  ( -- wait
    let s : State := up.putThread 0 { busy := true, prog := 70, regs := List.replicate 32 1 }
    let x : ExecUnit := .thread 0
    let rd : Reg := 1
    let ra : Reg := 2
    let imm : BitVec 16 := 0
    let t := s.issuer x
    let mask := t.num ra % 8
    decide (s.mayIssue x = true) &&
    decide (mask ≠ 0) &&
    decide (¬(bit mask 2 = true ∧ imm = 0)) &&
    decide (¬(bit mask 0 = true ∧ t.completed = true))),
  ( -- waitWake
    let s : State := up.putThread 0 { busy := true, sleep := .wait 1 1 0 0, completed := true }
    let x : ExecUnit := .thread 0
    let u := unitNum x
    let t := s.thread u
    decide (unitExists x = true) &&
    (match t.sleep with
    | .wait rd mask since ticks => (
    decide ((s.waitConds t since ticks).land mask ≠ 0))
    | _ => false)),
  ( -- halt
    let s : State := thr
    let x : ExecUnit := .thread 0
    decide (s.mayIssue x = true)),
  ( -- trap
    let s : State := thr
    let x : ExecUnit := .thread 0
    decide (s.mayIssue x = true)),
  ( -- yield
    let s : State := thr
    let x : ExecUnit := .thread 0
    decide (s.mayIssue x = true)),
  ( -- eret
    let s : State := up.putThread 512 { busy := true }
    let x : ExecUnit := .croft 0
    decide (s.mayIssue x = true) &&
    decide (512 ≤ unitNum x)),
  ( -- timeLimit
    let s : State := { up with clk.dtc := 10 ^ 15 }.putThread 0 { busy := true, prog := 0 }
    let x : ExecUnit := .thread 0
    let u := unitNum x
    let t := s.thread u
    decide (unitExists x = true) &&
    decide (u < 512) &&
    decide (t.busy = true) &&
    decide (t.draining.isSome = false) &&
    decide (t.startAt + s.timeLimit t ≤ s.clk.dtc)),
  ( -- illegalEncoding
    let s : State := thr
    let x : ExecUnit := .thread 0
    let word : BitVec 32 := 0xFFFFFFFF
    decide (s.mayIssue x = true) &&
    decide (listedWord word.toNat = false)),
  ( -- yield
    let s : State := { up with drv.images := [(0, zeros 5 ++ [1] ++ zeros 10 ++ [8, 0, 0, 0] ++ zeros 250)] }.putThread 0 { busy := true, prog := 0, pc := 8 }
    let x : ExecUnit := .thread 0
    let u := unitNum x
    let t := s.thread u
    decide (unitExists x = true) &&
    decide (t.ready = true) &&
    decide (u < 512) &&
    decide (t.prog < 64) &&
    decide (t.pc % 4 ≠ 0 ∨ s.codeSize t.prog ≤ t.pc)),
  ( -- yield
    let s : State := { up with drv.images := [(0, zeros 5 ++ [1] ++ zeros 10 ++ [8, 0, 0, 0] ++ zeros 250)] }.putThread 0 { busy := true, prog := 0, pc := 4 }
    let x : ExecUnit := .thread 0
    let u := unitNum x
    let t := s.thread u
    let major := s.header t.prog 5 1
    decide (unitExists x = true) &&
    decide (t.ready = true) &&
    decide (u < 512) &&
    decide (t.prog < 64) &&
    decide (major < 3) &&
    decide (t.pc % 4 = 0) &&
    decide (t.pc < s.codeSize t.prog))].all id = true := by
  decide +kernel

/-- For each clause of FabricInstructions that has hypotheses: operands and a state that meet them. -/
theorem witness_FabricInstructions : [
  ( -- frd
    let s : State := up.putThread 0 { busy := true, prog := 70, fold := 1, regs := (List.range 32).map (fun i => BitVec.ofNat 64 (64 * i)) }
    let x : ExecUnit := .thread 0
    let f : FFields := ff
    let t := s.issuer x
    let u := unitNum x
    decide (s.noTracker false = false) &&
    decide (s.mayIssue x = true) &&
    decide (f.flags.toNat % 4 ≠ 3) &&
    decide (f.flags.toNat < 8) &&
    decide (bits (t.num f.rc) 47 32 = 0) &&
    decide (f.space.toNat = 2 ∨ bits (t.num f.rc) 63 48 = 0) &&
    decide ((s.issued x).spaceBad u f.space.toNat = false) &&
    let len := t.num f.rc % 2 ^ 32
    decide (1 ≤ len) &&
    decide (len ≤ 8192) &&
    (match (s.issued x).seg u (t.num f.rb) len with
    | some g => (
    decide (g.writable = true))
    | _ => false)),
  ( -- fwr
    let s : State := up.putThread 0 { busy := true, prog := 70, fold := 1, regs := (List.range 32).map (fun i => BitVec.ofNat 64 (64 * i)) }
    let x : ExecUnit := .thread 0
    let f : FFields := ff
    let t := s.issuer x
    let u := unitNum x
    decide (s.noTracker false = false) &&
    decide (s.mayIssue x = true) &&
    decide (f.flags.toNat % 4 ≠ 3) &&
    decide (f.flags.toNat < 8) &&
    decide (bits (t.num f.rc) 47 32 = 0) &&
    decide (f.space.toNat = 2 ∨ bits (t.num f.rc) 63 48 = 0) &&
    decide ((s.issued x).spaceBad u f.space.toNat = false) &&
    let len := t.num f.rc % 2 ^ 32
    decide (1 ≤ len) &&
    decide (len ≤ 8192) &&
    (match (s.issued x).seg u (t.num f.rb) len with
    | some g => (
    decide ((s.issued x).segBad u g = false))
    | _ => false)),
  ( -- fatom32
    let s : State := up.putThread 0 { busy := true, prog := 70, fold := 1, regs := (List.range 32).map (fun i => BitVec.ofNat 64 (64 * i)) }
    let x : ExecUnit := .thread 0
    let f : FFields := { ff with flags := 1, rc := 0 }
    let t := s.issuer x
    let u := unitNum x
    decide (s.noTracker false = false) &&
    decide (s.mayIssue x = true) &&
    decide (1 ≤ f.flags.toNat) &&
    decide (f.flags.toNat ≤ 10) &&
    decide (f.flags.toNat = 6 ∨ f.rc = 0) &&
    decide ((s.issued x).spaceBad u f.space.toNat = false) &&
    decide (t.num f.ra % 4 = 0) &&
    decide (¬(f.space.toNat = 1 ∧ f.flags.toNat ≠ 1 ∧ f.flags.toNat ≠ 5 ∧ f.flags.toNat ≠ 6))),
  ( -- fatom64
    let s : State := up.putThread 0 { busy := true, prog := 70, fold := 1, regs := (List.range 32).map (fun i => BitVec.ofNat 64 (64 * i)) }
    let x : ExecUnit := .thread 0
    let f : FFields := { ff with flags := 1, rc := 0 }
    let t := s.issuer x
    let u := unitNum x
    decide (s.noTracker false = false) &&
    decide (s.mayIssue x = true) &&
    decide (1 ≤ f.flags.toNat) &&
    decide (f.flags.toNat ≤ 10) &&
    decide (f.flags.toNat = 6 ∨ f.rc = 0) &&
    decide ((s.issued x).spaceBad u f.space.toNat = false) &&
    decide (t.num f.ra % 8 = 0) &&
    decide (¬(f.space.toNat = 1 ∧ f.flags.toNat ≠ 1 ∧ f.flags.toNat ≠ 5 ∧ f.flags.toNat ≠ 6))),
  ( -- moveCopy
    let s : State := up.putThread 0 { busy := true, prog := 70, fold := 1, regs := (List.range 32).map (fun i => BitVec.ofNat 64 (64 * i)) }
    let x : ExecUnit := .thread 0
    let f : FFields := { ff with ra := 20, rb := 1, rc := 2 }
    let t := s.issuer x
    let u := unitNum x
    decide (s.noTracker false = false) &&
    decide (s.mayIssue x = true) &&
    decide (f.flags.toNat / 4 = 0) &&
    decide ((s.issued x).spaceBad u f.space.toNat = false) &&
    decide ((s.issued x).spaceBad u (f.flags.toNat % 4) = false) &&
    decide (¬(f.flags.toNat % 4 = 2 ∧ bit t.moveSrc 16 = false ∧ f.space.toNat ≠ 2)) &&
    let len := t.num f.rc % 2 ^ 40
    decide (1 ≤ len) &&
    let feid := bits (t.num f.rc) 63 48
    let srcFeid := if bit t.moveSrc 16 then t.moveSrc % 65536 else feid
    decide (¬(f.space.toNat = f.flags.toNat % 4 ∧ (f.space.toNat ≠ 2 ∨ feid = srcFeid) ∧ t.num f.ra < t.num f.rb + len ∧ t.num f.rb < t.num f.ra + len))),
  ( -- moveFill
    let s : State := up.putThread 0 { busy := true, prog := 70, fold := 1, regs := (List.range 32).map (fun i => BitVec.ofNat 64 (64 * i)) }
    let x : ExecUnit := .thread 0
    let f : FFields := { ff with flags := 4 }
    let t := s.issuer x
    let u := unitNum x
    decide (s.noTracker false = false) &&
    decide (s.mayIssue x = true) &&
    decide (f.flags.toNat / 4 = 1) &&
    decide (f.flags.toNat % 4 = 0) &&
    decide ((s.issued x).spaceBad u f.space.toNat = false) &&
    let len := t.num f.rc % 2 ^ 40
    decide (1 ≤ len)),
  ( -- moveZero
    let s : State := up.putThread 0 { busy := true, prog := 70, fold := 1, regs := (List.range 32).map (fun i => BitVec.ofNat 64 (64 * i)) }
    let x : ExecUnit := .thread 0
    let f : FFields := { ff with flags := 8 }
    let t := s.issuer x
    let u := unitNum x
    decide (s.noTracker false = false) &&
    decide (s.mayIssue x = true) &&
    decide (f.flags.toNat / 4 = 2) &&
    decide (f.flags.toNat % 4 = 0) &&
    decide ((s.issued x).spaceBad u f.space.toNat = false) &&
    let len := t.num f.rc % 2 ^ 40
    decide (1 ≤ len)),
  ( -- moveLocal
    let s : State := up.putThread 0 { busy := true, prog := 70, fold := 1, regs := (List.range 32).map (fun i => BitVec.ofNat 64 (64 * i)) }
    let x : ExecUnit := .thread 0
    let f : FFields := { ff with flags := 12 }
    let t := s.issuer x
    let u := unitNum x
    decide (s.noTracker false = false) &&
    decide (s.mayIssue x = true) &&
    decide (f.flags.toNat / 4 = 3) &&
    decide (f.flags.toNat % 4 = 0) &&
    decide ((s.issued x).spaceBad u f.space.toNat = false) &&
    let len := t.num f.rc % 2 ^ 40
    decide (1 ≤ len) &&
    decide (len ≤ 16384) &&
    (match (s.issued x).seg u (t.num f.rb) len with
    | some g => (
    decide ((s.issued x).segBad u g = false))
    | _ => false)),
  ( -- moveChunkComplete
    let s : State := up.putThread 0 { busy := true, prog := 70, ops := [{ op with kind := 3, writing := true }] }
    let x : ExecUnit := .thread 0
    let h : Nat := 0
    let status : Nat := 0
    let u := unitNum x
    let t := s.thread u
    (match t.op h with
    | some o => (
    decide (unitExists x = true) &&
    decide (t.draining.isSome = false) &&
    decide (o.isDone = false) &&
    decide (o.held = false) &&
    decide (o.open_.isEmpty = true) &&
    decide (o.kind = 3) &&
    decide (o.status = status) &&
    decide (¬(status = 0 ∧ !o.writing)))
    | _ => false)),
  ( -- fabricOpComplete
    let s : State := up.putThread 0 { busy := true, prog := 70, ops := [op] }
    let x : ExecUnit := .thread 0
    let h : Nat := 0
    let u := unitNum x
    let t := s.thread u
    (match t.op h with
    | some o => (
    decide (unitExists x = true) &&
    decide (t.draining.isSome = false) &&
    decide (o.isDone = false) &&
    decide (o.held = false) &&
    decide (o.open_.isEmpty = true) &&
    decide (o.kind ≠ 3))
    | _ => false)),
  ( -- fwaith
    let s : State := up.putThread 0 { busy := true, prog := 70, ops := [{ op with result := some 0 }] }
    let x : ExecUnit := .thread 0
    let f : FFields := ff
    let t := s.issuer x
    decide (s.mayIssue x = true) &&
    decide (t.num f.ra < 64) &&
    (match t.op (t.num f.ra) with
    | some o => (
    (match o.result with
    | some r => (true)
    | _ => false))
    | _ => false)),
  ( -- fwaith
    let s : State := up.putThread 0 { busy := true, prog := 70, ops := [op] }
    let x : ExecUnit := .thread 0
    let f : FFields := ff
    let t := s.issuer x
    decide (s.mayIssue x = true) &&
    decide (t.num f.ra < 64) &&
    (match t.op (t.num f.ra) with
    | some o => (
    decide (o.result = none))
    | _ => false)),
  ( -- fpoll
    let s : State := up.putThread 0 { busy := true, prog := 70, regs := List.replicate 32 0xFF }
    let x : ExecUnit := .thread 0
    let f : FFields := ff
    let t := s.issuer x
    decide (s.mayIssue x = true) &&
    decide (t.num f.ra = 0xFF)),
  ( -- fpoll
    let s : State := up.putThread 0 { busy := true, prog := 70, ops := [{ op with result := some 0 }] }
    let x : ExecUnit := .thread 0
    let f : FFields := ff
    let t := s.issuer x
    decide (s.mayIssue x = true) &&
    decide (t.num f.ra < 64) &&
    (match t.op (t.num f.ra) with
    | some o => (
    (match o.result with
    | some r => (true)
    | _ => false))
    | _ => false)),
  ( -- fpoll
    let s : State := up.putThread 0 { busy := true, prog := 70, ops := [op] }
    let x : ExecUnit := .thread 0
    let f : FFields := ff
    let t := s.issuer x
    decide (s.mayIssue x = true) &&
    decide (t.num f.ra < 64) &&
    (match t.op (t.num f.ra) with
    | some o => (
    decide (o.result = none))
    | _ => false)),
  ( -- ffence
    let s : State := thr
    let x : ExecUnit := .thread 0
    let f : FFields := ff
    let t := s.issuer x
    decide (s.mayIssue x = true) &&
    decide (t.ops.all (·.isDone) = true)),
  ( -- ffence
    let s : State := up.putThread 0 { busy := true, prog := 70, ops := [op] }
    let x : ExecUnit := .thread 0
    let f : FFields := ff
    let t := s.issuer x
    decide (s.mayIssue x = true) &&
    decide (t.ops.all (·.isDone) = false)),
  ( -- leave
    let s : State := up.putThread 0 { busy := true, prog := 70 }
    let x : ExecUnit := .thread 0
    let f : FFields := ff
    let t := s.issuer x
    let u := unitNum x
    decide (s.mayIssue x = true) &&
    decide (min 7 (t.num f.ra) = 0 ∨ 512 ≤ u)),
  ( -- leave
    let s : State := thr
    let x : ExecUnit := .thread 0
    let f : FFields := ff
    let t := s.issuer x
    let u := unitNum x
    decide (s.mayIssue x = true) &&
    decide (min 7 (t.num f.ra) ≠ 0) &&
    decide (u < 512)),
  ( -- leaveGrant
    let s : State := { up with gov.answers := [{ requester := 0, given := 1 }] }.putThread 0 { busy := true, sleep := .leave 1 }
    let x : ExecUnit := .thread 0
    let u := unitNum x
    (match (s.thread u).sleep with
    | .leave rd => (
    (match s.leaveAnswer u with
    | some a => (
    decide (u < 512))
    | _ => false))
    | _ => false))].all id = true := by
  decide +kernel

/-- For each clause of FaultCommands that has hypotheses: operands and a state that meet them. -/
theorem witness_FaultCommands : [
  ( -- hrdFaultAck
    let s : State := up
    let n : Nat := 1
    let seq : Nat := 0
    decide (s.mayWrite n K.HRD_FAULT_ACK (wire K.HRD_FAULT_ACK seq)) &&
    (match s.faultAck (carried K.HRD_FAULT_ACK seq) with
    | (st, e) => (decide (st = Status.ok)))),
  ( -- hrdFaultInject
    let s : State := up
    let n : Nat := 1
    let value : Nat := 0x20002002
    decide (s.mayWrite n K.HRD_FAULT_INJECT (wire K.HRD_FAULT_INJECT value)) &&
    (match s.faultInject (carried K.HRD_FAULT_INJECT value) with
    | (st, e) => (decide (st = Status.ok)))),
  ( -- isolationReturn
    let s : State := up
    decide (s.flt.ackTick < s.now) &&
    decide (s.isReady = true)),
  ( -- bothyWindowAdvance
    let s : State := State.reset
    decide (s.clk.running = false)),
  ( -- crfCore
    let s : State := up
    let c : Nat := 0
    decide (c < 4) &&
    decide (bit s.boot.fencedCores c = false) &&
    decide (s.boot.croftServes = true)),
  ( -- crfMgmtPort
    let s : State := up
    let p : Nat := 0
    decide (p < 2))].all id = true := by
  decide +kernel

/-- For each clause of FoldAndGatepostCommands that has hypotheses: operands and a state that meet them. -/
theorem witness_FoldAndGatepostCommands : [
  ( -- fldReleaseRequest
    let s : State := up.wro (K.FLD_EXTENT_ENTRY 5) ([1] ++ zeros 15)
    let n : Nat := 1
    let extent : Nat := 5
    decide (¬(s.rbActive = true ∧ (s.extent (carried K.FLD_RELEASE_REQUEST extent)).fold = s.rbFold)) &&
    decide (s.mayWrite n K.FLD_RELEASE_REQUEST (wire K.FLD_RELEASE_REQUEST extent)) &&
    (match s.releaseRequest (carried K.FLD_RELEASE_REQUEST extent) with
    | (st, e) => (decide (st = Status.ok)))),
  ( -- releaseCapacityPost
    let s : State := up
    decide (s.ticking = true)),
  ( -- internalCommit
    let s : State := up
    decide (s.isReady = true)),
  ( -- fldExtentEcc
    let s : State := up
    let f : Nat := 0
    let e : Nat := 0
    decide (f < 1024)),
  ( -- fldDirtyWrite
    let s : State := up
    let f : Nat := 0
    decide (f < 1024)),
  ( -- gtpLockRequest
    let s : State := up
    let n : Nat := 1
    let entry : Nat := 0
    decide (s.mayWrite n K.GTP_LOCK_REQUEST (wire K.GTP_LOCK_REQUEST entry)) &&
    (match s.gtpLock (carried K.GTP_LOCK_REQUEST entry) with
    | (st, e) => (decide (st = Status.ok)))),
  ( -- gtpTableEcc
    let s : State := up
    let e : Nat := 0
    let k : EccKind := .corrected
    decide (e < 4096))].all id = true := by
  decide +kernel

/-- For each clause of HostRequests that has hypotheses: operands and a state that meet them. -/
theorem witness_HostRequests : [
  ( -- memrdSnpdata
    let s : State := hostUp
    let port : Nat := 0
    let r : HostReq := hostReq
    decide (s.takesRequest port r = true)),
  ( -- memrdSnpinv
    let s : State := hostUp
    let port : Nat := 0
    let r : HostReq := hostReq
    decide (s.takesRequest port r = true)),
  ( -- meminv
    let s : State := hostUp
    let port : Nat := 0
    let r : HostReq := hostReq
    decide (s.takesRequest port r = true)),
  ( -- memrdSnpcur
    let s : State := hostUp
    let port : Nat := 0
    let r : HostReq := hostReq
    decide (s.takesRequest port r = true)),
  ( -- memwr
    let s : State := hostUp
    let port : Nat := 0
    let r : HostReq := hostReq
    decide (s.takesRequest port r = true)),
  ( -- memwrptl
    let s : State := hostUp
    let port : Nat := 0
    let r : HostReq := hostReq
    decide (s.takesRequest port r = true)),
  ( -- memclnevct
    let s : State := hostUp
    let port : Nat := 0
    let r : HostReq := hostReq
    decide (s.takesRequest port r = true))].all id = true := by
  decide +kernel

/-- For each clause of BackInvalidateCommands that has hypotheses: operands and a state that meet them. -/
theorem witness_BackInvalidateCommands : [
  ( -- birspi
    let s : State := txnUp { target := 0x100, line := 1, req := .recall, hosts := [(0, 2, 0)] }
    let port : Nat := 0
    let a : BiAnswer := { target := 0x100, dpa := 64, dirty := false, data := [] }
    let l := a.dpa / 64
    decide (port < 64) &&
    (match s.waitingOn port a.target l with
    | some x => (true)
    | _ => false)),
  ( -- birsps
    let s : State := txnUp { target := 0x100, line := 1, req := .recall, hosts := [(0, 2, 0)] }
    let port : Nat := 0
    let a : BiAnswer := { target := 0x100, dpa := 64, dirty := false, data := [] }
    let l := a.dpa / 64
    decide (port < 64) &&
    (match s.waitingOn port a.target l with
    | some x => (
    let kind := ((x.hosts.find? (fun h => h.1 == port)).map (·.2.1)).getD 0
    decide (kind ≠ 0))
    | _ => false)),
  ( -- birspe
    let s : State := txnUp { target := 0x100, line := 1, req := .recall, hosts := [(0, 2, 0)] }
    let port : Nat := 0
    let a : BiAnswer := { target := 0x100, dpa := 64, dirty := false, data := [] }
    let l := a.dpa / 64
    decide (port < 64) &&
    (match s.waitingOn port a.target l with
    | some x => (
    let kind := ((x.hosts.find? (fun h => h.1 == port)).map (·.2.1)).getD 0
    decide (kind ≠ 0) &&
    decide (kind ≠ 1))
    | _ => false)),
  ( -- biconflict
    let s : State := txnUp { target := 0x100, line := 1, req := .recall, hosts := [(0, 2, 0)] }
    let p : Nat := 0
    let t : Nat := 0x100
    let a : Nat := 64
    (match s.waitingOn p t (a / 64) with
    | some y1 => (true)
    | _ => false)),
  ( -- blwBisnpTimeout
    let s : State := txnUp { target := 0x100, line := 1, req := .recall, hosts := [(0, 2, 0)] }
    let p : Nat := 0
    let t : Nat := 0x100
    let a : Nat := 64
    (match s.waitingOn p t (a / 64) with
    | some x => (
    decide (s.linkUp p = true) &&
    decide ((x.hosts.any (fun h => h.1 == p && decide (h.2.2 + s.rd K.BLW_BISNP_TIMEOUT ≤ s.clk.dtc))) = true))
    | _ => false)),
  ( -- bisnp
    let s : State := devUp.wr (K.PRT_LD_FEID 0 0) 5
    let p : Nat := 0
    let ld : Nat := 0
    let a : Nat := 0
    decide (p < 64) &&
    decide (s.role p = 2) &&
    decide (ld < 16) &&
    decide (s.rd (K.PRT_LD_FEID p ld) ≠ 0))].all id = true := by
  decide +kernel

/-- For each clause of CoherenceMessagesOverTwill that has hypotheses: operands and a state that meet them. -/
theorem witness_CoherenceMessagesOverTwill : [
  ( -- rdShared
    let s : State := twillUp
    let port : Nat := 0
    let m : TwillMsg := tw 4 true 0
    decide (s.takesMsg port (twillRow m 4 0x40) = true)),
  ( -- rdOwn
    let s : State := twillUp
    let port : Nat := 0
    let m : TwillMsg := tw 4 true 0
    decide (s.takesMsg port (twillRow m 4 0x41) = true)),
  ( -- upgrade
    let s : State := twillUp
    let port : Nat := 0
    let m : TwillMsg := tw 4 true 0
    decide (s.takesMsg port (twillRow m 4 0x42) = true)),
  ( -- rdCur
    let s : State := twillUp
    let port : Nat := 0
    let m : TwillMsg := tw 4 true 0
    decide (s.takesMsg port (twillRow m 4 0x43) = true)),
  ( -- wrInv
    let s : State := twillUp
    let port : Nat := 0
    let m : TwillMsg := tw 4 true 1
    decide (s.takesMsg port (twillRow m 4 0x44) = true)),
  ( -- wrInvPartial
    let s : State := twillUp
    let port : Nat := 0
    let m : TwillMsg := tw 4 true 1
    decide (s.takesMsg port (twillRow m 4 0x45) = true)),
  ( -- atomicCoh
    let s : State := twillUp
    let port : Nat := 0
    let m : TwillMsg := tw 4 true 1
    decide (s.takesMsg port (twillRow m 4 0x46) = true)),
  ( -- evict
    let s : State := twillUp
    let port : Nat := 0
    let m : TwillMsg := tw 4 true 0
    decide (s.takesMsg port (twillRow m 4 0x47) = true)),
  ( -- fwdShared
    let s : State := twillUp
    let port : Nat := 0
    let m : TwillMsg := tw 1 true 0
    decide (s.takesMsg port (twillRow m 1 0x01) = true)),
  ( -- fwdOwn
    let s : State := twillUp
    let port : Nat := 0
    let m : TwillMsg := tw 1 true 0
    decide (s.takesMsg port (twillRow m 1 0x02) = true)),
  ( -- snpInv
    let s : State := twillUp
    let port : Nat := 0
    let m : TwillMsg := tw 1 true 0
    decide (s.takesMsg port (twillRow m 1 0x03) = true)),
  ( -- snpData
    let s : State := twillUp
    let port : Nat := 0
    let m : TwillMsg := tw 1 true 0
    decide (s.takesMsg port (twillRow m 1 0x04) = true)),
  ( -- snpCur
    let s : State := twillUp
    let port : Nat := 0
    let m : TwillMsg := tw 1 true 0
    decide (s.takesMsg port (twillRow m 1 0x05) = true)),
  ( -- dataS
    let s : State := twillUp
    let port : Nat := 0
    let m : TwillMsg := tw 3 false 1
    decide (s.takesMsg port (twillRow m 3 0x40) = true)),
  ( -- dataF
    let s : State := twillUp
    let port : Nat := 0
    let m : TwillMsg := tw 3 false 1
    decide (s.takesMsg port (twillRow m 3 0x41) = true)),
  ( -- dataE
    let s : State := twillUp
    let port : Nat := 0
    let m : TwillMsg := tw 3 false 1
    decide (s.takesMsg port (twillRow m 3 0x42) = true)),
  ( -- dataM
    let s : State := twillUp
    let port : Nat := 0
    let m : TwillMsg := tw 3 false 1
    decide (s.takesMsg port (twillRow m 3 0x43) = true)),
  ( -- dataCur
    let s : State := twillUp
    let port : Nat := 0
    let m : TwillMsg := tw 3 false 1
    decide (s.takesMsg port (twillRow m 3 0x44) = true)),
  ( -- wbM
    let s : State := twillUp
    let port : Nat := 0
    let m : TwillMsg := tw 3 true 1
    decide (s.takesMsg port (twillRow m 3 0x48) = true)),
  ( -- snpDataI
    let s : State := twillUp
    let port : Nat := 0
    let m : TwillMsg := tw 3 false 1
    decide (s.takesMsg port (twillRow m 3 0x49) = true)),
  ( -- snpDataS
    let s : State := twillUp
    let port : Nat := 0
    let m : TwillMsg := tw 3 false 1
    decide (s.takesMsg port (twillRow m 3 0x4A) = true)),
  ( -- snpDataKeep
    let s : State := twillUp
    let port : Nat := 0
    let m : TwillMsg := tw 3 false 1
    decide (s.takesMsg port (twillRow m 3 0x4B) = true)),
  ( -- bwCmp
    let s : State := twillUp
    let port : Nat := 0
    let m : TwillMsg := tw 2 false 0
    decide (s.takesMsg port (twillRow m 2 0x40) = true)),
  ( -- gntOwn
    let s : State := twillUp
    let port : Nat := 0
    let m : TwillMsg := tw 2 false 0
    decide (s.takesMsg port (twillRow m 2 0x41) = true)),
  ( -- snpI
    let s : State := twillUp
    let port : Nat := 0
    let m : TwillMsg := tw 2 false 0
    decide (s.takesMsg port (twillRow m 2 0x42) = true)),
  ( -- snpS
    let s : State := twillUp
    let port : Nat := 0
    let m : TwillMsg := tw 2 false 0
    decide (s.takesMsg port (twillRow m 2 0x43) = true)),
  ( -- snpIWb
    let s : State := twillUp
    let port : Nat := 0
    let m : TwillMsg := tw 2 false 0
    decide (s.takesMsg port (twillRow m 2 0x44) = true)),
  ( -- fwdDone
    let s : State := twillUp
    let port : Nat := 0
    let m : TwillMsg := tw 2 false 0
    decide (s.takesMsg port (twillRow m 2 0x45) = true)),
  ( -- fwdMissS
    let s : State := twillUp
    let port : Nat := 0
    let m : TwillMsg := tw 2 false 0
    decide (s.takesMsg port (twillRow m 2 0x46) = true)),
  ( -- fwdMissI
    let s : State := twillUp
    let port : Nat := 0
    let m : TwillMsg := tw 2 false 0
    decide (s.takesMsg port (twillRow m 2 0x47) = true))].all id = true := by
  decide +kernel

/-- For each clause of DirectoryCommands that has hypotheses: operands and a state that meet them. -/
theorem witness_DirectoryCommands : [
  ( -- retrySlotAllocate
    let s : State := { hostUp with blw.retry := [(0, .request 1, 0x100, 1)] }
    let bank : Nat := 0
    let dev : Bool := false
    (match s.blw.retry.find? (fun r => r.1 == 2 * bank + b2n dev) with
    | some r => (
    decide (s.slotsFull = false) &&
    decide ((allocates s r.2.1 && (s.allocate r.2.2.1 r.2.2.2 r.2.1.ofHost).isNone) = false))
    | _ => false)),
  ( -- conflictQueueProcess
    let s : State := txnUp { target := 0x100, line := 1, req := .recall, waiting := true }
    let t : Nat := 0x100
    let a : Nat := 64
    (match s.txnOf t (a / 64) with
    | some x => (
    decide (x.waiting = true) &&
    decide (s.blw.retry.any (fun r => r.2.2.1 == t && r.2.2.2 == a / 64) = false))
    | _ => false)),
  ( -- wbMReissue
    let s : State := lineUp { target := 0x500, line := 1, held := true, dirty := true }
    let target : Nat := 0x500
    let dpa : Nat := 64
    (match s.lineEntry target (dpa / 64) with
    | some e => (
    decide (e.held = true) &&
    decide (e.dirty = true) &&
    decide (s.homed target = false))
    | _ => false)),
  ( -- blwLookupLine
    let s : State := up
    let n : Nat := 1
    let target : Nat := 0
    let dpa : Nat := 0
    decide (s.mayWrite n K.BLW_LOOKUP_LINE (leBytes 2 target ++ leBytes 8 dpa))),
  ( -- blwFlushFold
    let s : State := hostUp
    let n : Nat := 1
    let fold : Nat := 1
    decide (s.mayWrite n K.BLW_FLUSH_FOLD (wire K.BLW_FLUSH_FOLD fold)) &&
    (match s.flushFold (carried K.BLW_FLUSH_FOLD fold) with
    | (st, e) => (decide (st = Status.ok)))),
  ( -- bulkFlushGrant
    let s : State := { hostUp with blw.flushes := [({ kind := 0, port := 0, fold := 0, running := false, since := 0 } : BulkFlush)], gov.grants := [(81, 4)] }
    decide (4 * ((s.blw.flushes.filter (·.running)).length + 1) ≤ s.granted 81) &&
    (match s.blw.flushes.find? (fun f => !f.running) with
    | some f => (true)
    | _ => false)),
  ( -- flushEnd
    let s : State := { hostUp with blw.flushes := [{ ({ kind := 0, port := 0, fold := 0, running := false, since := 0 } : BulkFlush) with running := true }] }
    (match s.blw.flushes.find? (fun f => f.running && !flushOpen s f) with
    | some f => (true)
    | _ => false)),
  ( -- blwSetEcc
    let s : State := up
    let bank : Nat := 0
    let set : Nat := 0
    let k : EccKind := .corrected
    let both : Bool := false
    decide (bank < 16) &&
    decide (set < 16384)),
  ( -- setRebuildTimeout
    let s : State := { hostUp with blw.flushes := [{ ({ kind := 0, port := 0, fold := 0, running := false, since := 0 } : BulkFlush) with running := true, kind := 2 }] }
    let bank : Nat := 0
    let set : Nat := 0
    (match s.blw.flushes.find? (fun f => f.kind == 2 && f.running && f.port == bank && f.fold == set) with
    | some f => (
    decide (f.since + 200000 ≤ s.clk.dtc))
    | _ => false)),
  ( -- blwNearEcc
    let s : State := lineUp { target := 0x100, line := 1, near := some (zeros 64), dirty := true }
    let target : Nat := 0x100
    let dpa : Nat := 64
    (match s.lineEntry target (dpa / 64) with
    | some e => (
    decide (e.near.isSome = true) &&
    decide (e.dirty = true))
    | _ => false)),
  ( -- blwNearEcc
    let s : State := lineUp { target := 0x100, line := 1, near := some (zeros 64), dirty := false }
    let target : Nat := 0x100
    let dpa : Nat := 64
    (match s.lineEntry target (dpa / 64) with
    | some e => (
    decide (e.near.isSome = true) &&
    decide (e.dirty = false))
    | _ => false))].all id = true := by
  decide +kernel

/-- For each clause of LaneReferenceCommands that has hypotheses: operands and a state that meet them. -/
theorem witness_LaneReferenceCommands : [
  ( -- selRefclkLoss
    let s : State := up
    let g : Nat := 0
    let c1 : Nat := 0
    let c2 : Nat := 0
    decide (g < 16) &&
    decide (refInRange c1 = false) &&
    decide (refInRange c2 = false) &&
    decide (s.sel.lost.contains g = false)),
  ( -- selRefclkRestore
    let s : State := { up with sel.lost := [0] }
    let g : Nat := 0
    let ref : RefMeasure := { count := 1020, spread := false }
    decide (g < 16) &&
    let c := ref.count
    decide (refInRange c = true) &&
    decide (s.sel.lost.contains g = true)),
  ( -- selPllUnlock
    let s : State := up.wr (K.SEL_QUAD_STATE 0) 1
    let q : Nat := 0
    decide (q < 64) &&
    decide (s.sel.lost.contains (q / 4) = false) &&
    decide (bit (s.rd (K.SEL_QUAD_STATE q)) 0 = true)),
  ( -- pllRelock
    let s : State := { up with sel.quads := [(0, { relocking := true })] }
    let q : Nat := 0
    let locked : Bool := false
    decide (q < 64) &&
    let x := s.selQuad q
    decide (x.relocking = true)),
  ( -- selReeq
    let s : State := up
    let n : Nat := 1
    let quad : Nat := 0
    let value : Nat := 1
    decide (quad < 64) &&
    decide (carried (K.SEL_REEQ quad) value = 1) &&
    decide (s.mayWrite n (K.SEL_REEQ quad) (wire (K.SEL_REEQ quad) value))),
  ( -- partnerEqualization
    let s : State := devUp
    let partner : PartnerEq := { port := 0, requests := [] }
    decide (partner.port < 64) &&
    let p := partner.port
    decide (s.sel.reeqs.any (fun r => r.port == p) = false) &&
    decide (s.linkUp p = true)),
  ( -- reeqGrant
    let s : State := { devUp with sel.reeqs := [{ port := 0, own := true, since := 0, running := false }], gov.answers := [{ requester := 16, given := 1 }] }
    let p : Nat := 0
    decide (p < 64) &&
    decide ((s.sel.reeqs.any (fun r => r.port == p && !r.running)) = true) &&
    decide ((s.gov.answers.any (fun a => a.requester == 16 + p && a.given != 0)) = true)),
  ( -- reeqGrantTimeout
    let s : State := { devUp with sel.reeqs := [{ port := 0, own := false, since := 0, running := false }] }
    let p : Nat := 0
    decide (p < 64) &&
    (match s.sel.reeqs.find? (fun r => r.port == p && !r.running) with
    | some r => (
    decide (r.own = false) &&
    decide (r.since + 2 ≤ s.now))
    | _ => false)),
  ( -- reeqEnd
    let s : State := { devUp with sel.reeqs := [{ port := 0, own := false, since := 0, running := true }] }
    let p : Nat := 0
    decide (p < 64) &&
    decide (s.reequalising p = true)),
  ( -- alignmentMarker
    let s : State := twillUp
    let p : Nat := 0
    let lane : Nat := 0
    let am : Option (BitVec 128) := some (BitVec.ofNat 128 (amSync * 2 ^ 80 + amCrc (amSync * 2 ^ 80)))
    let skew : Nat := 0
    decide (p < 64) &&
    decide (s.role p = 3) &&
    decide (lane < 4 * (s.portQuads p).length) &&
    (match (am.map BitVec.toNat).bind (readAm (s.rd (K.SEL_QUAD_RATE p) - 8)) with
    | some (inv, x) => (true)
    | _ => false)),
  ( -- alignmentMarker
    let s : State := twillUp
    let p : Nat := 0
    let lane : Nat := 0
    let am : Option (BitVec 128) := none
    let skew : Nat := 0
    decide (p < 64) &&
    decide (s.role p = 3) &&
    decide (lane < 4 * (s.portQuads p).length) &&
    decide ((am.map BitVec.toNat).bind (readAm (s.rd (K.SEL_QUAD_RATE p) - 8)) = none)),
  ( -- skipBlock
    let s : State := twillUp
    let p : Nat := 0
    let fill : Nat := 0
    decide (p < 64) &&
    decide (s.role p = 3))].all id = true := by
  decide +kernel

/-- For each clause of LaneTestCommands that has hypotheses: operands and a state that meet them. -/
theorem witness_LaneTestCommands : [
  ( -- selElasticErrors
    let s : State := up
    let q : Nat := 0
    decide (q < 64)),
  ( -- losAssert
    let s : State := up
    let lane : Nat := 0
    decide (lane < 256) &&
    let q := lane / 4
    decide (bit (s.rd (K.SEL_QUAD_STATE q)) (8 + lane % 4) = false)),
  ( -- losRelease
    let s : State := up
    let lane : Nat := 0
    decide (lane < 256)),
  ( -- selInject
    let s : State := up
    let n : Nat := 1
    let quad : Nat := 0
    let mask : Nat := 0
    decide (quad < 64) &&
    decide (s.mayWrite n (K.SEL_INJECT quad) (wire (K.SEL_INJECT quad) mask))),
  ( -- selPrbsClear
    let s : State := up
    let n : Nat := 1
    let quad : Nat := 0
    let mask : Nat := 0
    decide (quad < 64) &&
    decide (s.mayWrite n (K.SEL_PRBS_CLEAR quad) (wire (K.SEL_PRBS_CLEAR quad) mask))),
  ( -- marginRunStart
    let s : State := up
    let n : Nat := 1
    let quad : Nat := 0
    let ctrl : BitVec 32 := 0x80000014
    decide (quad < 64) &&
    let c := carried (K.SEL_MARGIN_CTRL quad) ctrl.toNat
    decide (bit c 31 = true) &&
    decide (marginFits c = true) &&
    let x := s.selQuad quad
    decide (x.run = none) &&
    decide (x.runWaits = none) &&
    decide (s.sel.partner.contains (4 * quad + marginLane c) = false) &&
    decide (s.mayWrite n (K.SEL_MARGIN_CTRL quad) (wire (K.SEL_MARGIN_CTRL quad) ctrl.toNat))),
  ( -- marginRunDone
    let s : State := { up with sel.quads := [(0, { run := some (2 ^ 31) })] }
    let q : Nat := 0
    let errors : Nat := 0
    decide (q < 64) &&
    (match (s.selQuad q).run with
    | some c => (true)
    | _ => false)),
  ( -- partnerMarginCommand
    let s : State := devUp
    let lane : Nat := 0
    let command : MarginCommand := { kind := 3, payload := 5 }
    decide (lane < 256) &&
    let kind := command.kind
    let q := lane / 4
    let r := s.role (s.portOfQuad q)
    decide ((1 ≤ kind ∧ kind ≤ 4)) &&
    decide ((r = 1 ∨ r = 2)) &&
    decide (s.linkUp (s.portOfQuad q) = true)),
  ( -- checkerLock
    let s : State := (up.wr (K.SEL_TEST_MODE 0) 4).wr (K.SEL_QUAD_RATE 0) 10
    let lane : Nat := 0
    let rx : List Bool := List.replicate 128 true
    decide (lane < 256) &&
    let q := lane / 4
    decide (s.checkerOn q = true)),
  ( -- checkerLockLoss
    let s : State := up.wr (K.SEL_PRBS_LOCK 0) 1
    let lane : Nat := 0
    let n : Nat := 0
    let errors : Nat := 0
    decide (lane < 256) &&
    let q := lane / 4
    decide (bit (s.rd (K.SEL_PRBS_LOCK q)) (lane % 4) = true))].all id = true := by
  decide +kernel

/-- For each clause of LoomCommands that has hypotheses: operands and a state that meet them. -/
theorem witness_LoomCommands : [
  ( -- onChipReserveWait
    let s : State := loomWith .source
    let g : Nat := 64
    decide (g < 81) &&
    (match (s.fab.loom.msgs.filter (fun x => x.place == .source && x.ingress == g)).find? (fun x => s.chargeFor x != .reserve || !s.reserveFull x) with
    | some x => (true)
    | _ => false)),
  ( -- messageStart
    let s : State := loomWith .queue
    let g : Nat := 70
    let c : Nat := 7
    decide (g < 81) &&
    decide (c < 8) &&
    decide ((s.matched true).done.any (fun a => a.gang == g && a.cls == c && a.idx == 0) = true)),
  ( -- messageTransmit
    let s : State := loomWith .staged
    let g : Nat := 70
    let c : Nat := 7
    let f : Finding := .clean
    decide (g < 81) &&
    decide (c < 8) &&
    (match s.queueOf .staged g c with
    | x :: y1 => (
    decide (x.written = true) &&
    let twill := g < 64 && s.role g == 3
    let n := ceilDiv ((headerBytes x.m).length + 64 * (twillForm x).dcnt) 232
    decide ((twill && (!s.linkUp g || bit (s.rd (K.TWL_STATE g)) 3 || decide (1024 < (s.link g).replay.length + n))) = false) &&
    decide ((g < 64 && !s.linkUp g) = false))
    | _ => false)),
  ( -- lomReseqSkip
    let s : State := { up with fab.loom.flows := [(flowKey 0 0 0, { expected := 0, gapAt := some 0, usedAt := 0 })] }
    let src : Nat := 0
    let ep : Nat := 0
    let c : Nat := 0
    (match s.flowAt (flowKey src ep c) with
    | some f => (
    (match f.gapAt with
    | some a => (
    decide (a + s.rd K.LOM_RESEQ_SKIP ≤ s.clk.dtc))
    | _ => false))
    | _ => false)),
  ( -- flowIdle
    let s : State := { up with fab.loom.flows := [(flowKey 0 0 0, { expected := 0, gapAt := none, usedAt := 0 })] }
    let src : Nat := 0
    let ep : Nat := 0
    let c : Nat := 0
    let k := flowKey src ep c
    (match s.flowAt k with
    | some f => (
    decide ((s.heldOf k).isEmpty = true) &&
    decide (f.usedAt + 1000000 ≤ s.clk.dtc))
    | _ => false)),
  ( -- refill
    let s : State := loomWith .store
    let g : Nat := 70
    decide (g < 81) &&
    decide (s.refillTurn = some g) &&
    (match s.refillHead g with
    | some x => (true)
    | _ => false)),
  ( -- sampleCapture
    let s : State := { up with fab.loom.captures := [(0, 1, zeros 64)] }
    let n : Nat := 0
    decide (n < 64) &&
    (match s.fab.loom.captures with
    | e :: rest => (
    decide (e.1 = n) &&
    decide (s.fab.loom.msgs.any (fun x => x.id == e.2.1 && !x.written) = false))
    | _ => false)),
  ( -- lomSlice
    let s : State := up
    let n : Nat := 0
    decide (n < 8) &&
    decide (bit (s.rd K.LOM_SLICES_FENCED) n = false))].all id = true := by
  decide +kernel

/-- For each clause of SpdmCommands that has hypotheses: operands and a state that meet them. -/
theorem witness_SpdmCommands : [
  ( -- getVersion
    let s : State := up
    let ch : MgmtChannel := .i3c
    let r : SpdmReq := spdmReq
    decide (s.channelUp ch = true) &&
    decide (r.malformed = false)),
  ( -- getCapabilities
    let s : State := up.putSpdm .i3c { version := true }
    let ch : MgmtChannel := .i3c
    let r : SpdmReq := spdmReq
    decide (s.channelUp ch = true) &&
    decide (r.malformed = false) &&
    decide ((s.spdm ch).version = true)),
  ( -- negotiateAlgorithms
    let s : State := up.putSpdm .i3c { capabilities := true }
    let ch : MgmtChannel := .i3c
    let r : SpdmReq := spdmReq
    decide (s.channelUp ch = true) &&
    decide (r.malformed = false) &&
    decide ((s.spdm ch).capabilities = true)),
  ( -- getDigests
    let s : State := up.putSpdm .i3c { algorithms := true }
    let ch : MgmtChannel := .i3c
    let r : SpdmReq := spdmReq
    decide (s.channelUp ch = true) &&
    decide (r.malformed = false) &&
    decide ((s.spdm ch).algorithms = true)),
  ( -- getCertificate
    let s : State := up.putSpdm .i3c { algorithms := true }
    let ch : MgmtChannel := .i3c
    let r : SpdmReq := spdmReq
    decide (s.channelUp ch = true) &&
    decide (r.malformed = false) &&
    decide ((s.spdm ch).algorithms = true) &&
    decide (r.slot = 0)),
  ( -- challenge
    let s : State := up.putSpdm .i3c { algorithms := true }
    let ch : MgmtChannel := .i3c
    let r : SpdmReq := spdmReq
    decide (s.channelUp ch = true) &&
    decide (r.malformed = false) &&
    decide ((s.spdm ch).algorithms = true) &&
    decide (r.slot = 0)),
  ( -- getMeasurements
    let s : State := up.putSpdm .i3c { algorithms := true }
    let ch : MgmtChannel := .i3c
    let r : SpdmReq := spdmReq
    decide (s.channelUp ch = true) &&
    decide (r.malformed = false) &&
    decide ((s.spdm ch).algorithms = true) &&
    decide ((r.index ≤ 4 ∨ r.index = 0xFF))),
  ( -- keyExchange
    let s : State := up.putSpdm .i3c { algorithms := true }
    let ch : MgmtChannel := .i3c
    let r : SpdmReq := spdmReq
    decide (s.channelUp ch = true) &&
    decide (r.malformed = false) &&
    decide ((s.spdm ch).algorithms = true) &&
    let x := s.spdm ch
    decide (r.slot = 0) &&
    decide ((ch = .i3c ∨ x.sessions.length < 4)) &&
    (match ((List.range (x.sessions.length + 1)).map (· + 1)).find? (fun n => !(x.sessions.any (fun y => y.num == n))) with
    | some n => (true)
    | _ => false)),
  ( -- finish
    let s : State := up.putSpdm .i3c { sessions := [{ num := 1, established := false, updates := 0 }] }
    let ch : MgmtChannel := .i3c
    let r : SpdmReq := spdmReq
    decide (s.channelUp ch = true) &&
    decide (r.malformed = false) &&
    decide ((s.spdm ch).sessions.any (fun y => y.num == r.session && !y.established) = true)),
  ( -- heartbeat
    let s : State := up.putSpdm .i3c { sessions := [{ num := 1, established := true, updates := 0 }] }
    let ch : MgmtChannel := .i3c
    let r : SpdmReq := spdmReq
    decide (s.channelUp ch = true) &&
    decide (r.malformed = false) &&
    decide ((s.spdm ch).live r.session = true)),
  ( -- keyUpdate
    let s : State := up.putSpdm .i3c { sessions := [{ num := 1, established := true, updates := 0 }] }
    let ch : MgmtChannel := .i3c
    let r : SpdmReq := spdmReq
    decide (s.channelUp ch = true) &&
    decide (r.malformed = false) &&
    decide ((s.spdm ch).live r.session = true)),
  ( -- endSession
    let s : State := up.putSpdm .i3c { sessions := [{ num := 1, established := true, updates := 0 }] }
    let ch : MgmtChannel := .i3c
    let r : SpdmReq := spdmReq
    decide (s.channelUp ch = true) &&
    decide (r.malformed = false) &&
    decide ((s.spdm ch).live r.session = true))].all id = true := by
  decide +kernel

/-- For each clause of ManagementCommands that has hypotheses: operands and a state that meet them. -/
theorem witness_ManagementCommands : [
  ( -- fmApiCommand
    let s : State := up
    let ch : MgmtChannel := .i3c
    let command : FmCommand := { kind := .bindVppb, writes := [] }
    decide (s.channelUp ch = true)),
  ( -- ideKm
    let s : State := devUp
    let p : Nat := 0
    let session : Nat := 0
    let go : Bool := false
    let half : IdeHalf := { stream := 0, tx := false }
    let inSequence : Bool := true
    let stream := half.stream
    let tx := half.tx
    decide (p < 64) &&
    decide ((s.role p = 1 ∨ s.role p = 2)) &&
    decide (s.linkUp p = true) &&
    decide (inSequence = true) &&
    decide (stream ≤ 1) &&
    decide ((stream = 1 → s.rd (K.PRT_IDE_MODE p) ≠ 0)) &&
    decide ((s.role p = 2 ∨ (s.spdm (.vdm p)).live session = true)) &&
    decide ((go = true → s.ideState p stream tx = 1))),
  ( -- prtIdeFail
    let s : State := devUp.putIde 0 0 false 2
    let p : Nat := 0
    let stream : Nat := 0
    decide (p < 64) &&
    decide (stream ≤ 1) &&
    decide (s.ideState p stream false = 2))].all id = true := by
  decide +kernel

/-- For each clause of VfMigrationCommands that has hypotheses: operands and a state that meet them. -/
theorem witness_VfMigrationCommands : [
  ( -- freeze
    let s : State := (vfUp { state := 1 })
    let p : Nat := 0
    let i : Nat := 1
    (match s.entryVf p i with
    | some v => (
    decide ((s.vf v).state = 1))
    | _ => false)),
  ( -- freezeDone
    let s : State := (vfUp { state := 2 })
    let p : Nat := 0
    let i : Nat := 1
    (match s.poolVf p i with
    | some v => (
    let x := s.vf v
    decide (x.state = 2) &&
    decide (x.running.isEmpty = true) &&
    decide (x.descs.any (fun d => !d.here) = false) &&
    decide (s.funcWrites (.vf p i) = false))
    | _ => false)),
  ( -- save
    let s : State := (vfUp { state := 3, imageLen := 2 ^ 20 }).wro (K.GTP_REGION_ENTRY 0) ([0x1F, 0, 2] ++ zeros 21 ++ [255, 255, 255, 255, 15, 0, 0, 0])
    let p : Nat := 0
    let i : Nat := 1
    (match s.entryVf p i with
    | some v => (
    decide ((s.vf v).state = 3) &&
    let s1 := s.cicRaise (0x300 + v)
    let x := s1.vf v
    let b := s1.vfImage p i v
    decide (b.length ≤ x.imageLen) &&
    decide (s1.linkUp p = true) &&
    decide (s1.tfbDenied (s1.tfbWho v) p x.imageAddr b.length permWrite = none))
    | _ => false)),
  ( -- saveDone
    let s : State := (vfUp { state := 4 })
    let p : Nat := 0
    let i : Nat := 1
    let status : Nat := 0
    (match s.poolVf p i with
    | some v => (
    decide ((s.vf v).state = 4) &&
    decide (s.funcWrites (.vf p i) = false))
    | _ => false)),
  ( -- restore
    let s : State := (vfUp { state := 1 }).wro (K.GTP_REGION_ENTRY 0) ([0x1F, 0, 2] ++ zeros 21 ++ [255, 255, 255, 255, 15, 0, 0, 0])
    let p : Nat := 0
    let i : Nat := 1
    (match s.entryVf p i with
    | some v => (
    decide ((s.vf v).state = 1) &&
    decide (s.vfFold v ≠ 0) &&
    decide ((s.vf v).inflight = 0) &&
    decide ((s.vf v).sqs.all (fun q => !q.enable) = true) &&
    decide ((s.vf v).cqs.all (fun q => !q.enable) = true) &&
    let s1 := s.cicRaise (0x300 + v)
    let x := s1.vf v
    decide (s1.linkUp p = true) &&
    decide (s1.tfbDenied (s1.tfbWho v) p x.imageAddr (max 1 x.imageLen) permRead = none) &&
    decide (s1.noTracker false = false))
    | _ => false)),
  ( -- restoreDone
    let s : State := ((vfUp { state := 5 }).hostFetch (.vf 0 1) 1 none 0 0)
    let p : Nat := 0
    let i : Nat := 1
    let status : Nat := 0
    let b : List Byte := []
    (match s.poolVf p i with
    | some v => (
    (match s.fetchTracker (.vf p i) true with
    | some (t, u) => (
    let s1 := s.releaseTracker t
    decide ((s1.vf v).state = 5))
    | _ => false))
    | _ => false)),
  ( -- resume
    let s : State := (vfUp { state := 3 })
    let p : Nat := 0
    let i : Nat := 1
    (match s.entryVf p i with
    | some v => (
    decide ((s.vf v).state = 3))
    | _ => false))].all id = true := by
  decide +kernel

/-- For each clause of RebindAndHarvestCommands that has hypotheses: operands and a state that meet them. -/
theorem witness_RebindAndHarvestCommands : [
  ( -- rebindOwnerChange
    let s : State := up.wr K.MIG_RB_STATE (2 * 2 ^ 28) |>.wr K.MIG_RB_FOLD 1 |>.wr K.CRF_PERSIST_ENABLE 0
    decide (s.rbActive = true) &&
    decide (s.rbPhase = 2) &&
    decide (s.mig.phaseAt < s.now * 1000)),
  ( -- rebindRelease
    let s : State := up.wr K.MIG_RB_STATE (4 * 2 ^ 28) |>.wr K.MIG_RB_FOLD 1 |>.wr K.CRF_PERSIST_ENABLE 0
    decide (s.rbActive = true) &&
    decide (s.rbPhase = 4) &&
    decide (s.mig.phaseAt ≤ s.now * 1000)),
  ( -- harvestStart
    let s : State := hostUp.wr K.MIG_HV_FOLD 1 |>.wr K.MIG_HV_LENGTH 64
    let session : Nat := 1
    let f := s.rd K.MIG_HV_FOLD
    let o := s.rd K.MIG_HV_OFFSET
    let n := s.rd K.MIG_HV_LENGTH
    decide (s.mig.harvest = none) &&
    decide (s.foldInUse f = true) &&
    decide (f ≠ 0) &&
    decide (o % 64 = 0) &&
    decide (n % 64 = 0) &&
    decide (n ≠ 0) &&
    decide (o + n ≤ s.bitmapSize f) &&
    decide (s.rd K.MIG_HV_ADDR % 64 = 0) &&
    decide (s.pfExists s.hvPort = true) &&
    decide (s.zeroingWaits f = false) &&
    decide (s.mayWrite session K.MIG_HV_CTRL (wire K.MIG_HV_CTRL 1))),
  ( -- harvestStop
    let s : State := up
    let n : Nat := 1
    decide (s.mayWrite n K.MIG_HV_CTRL (wire K.MIG_HV_CTRL 2))),
  ( -- harvestDone
    let s : State := { up with mig.harvest := some { fold := 1, port := 0, addr := 0, offset := 0, len := 64, since := 0 } }
    let status : Nat := 0
    (match s.mig.harvest with
    | some h => (true)
    | _ => false))].all id = true := by
  decide +kernel

/-- For each clause of LinkCommands that has hypotheses: operands and a state that meet them. -/
theorem witness_LinkCommands : [
  ( -- linkUp
    let s : State := { (devUp.wr (K.PRT_LINK_STATE 0) 0).wr (K.SEL_QUAD_STATE 0) 1 with boot.lanesIdle := false }
    let p : Nat := 0
    let i : LinkInfo := linkInfo
    decide (p < 64)),
  ( -- linkDown
    let s : State := devUp
    let p : Nat := 0
    let fatal : Bool := false
    decide (p < 64) &&
    decide ((fatal && !(s.role p == 2 && s.rd (K.PRT_DPC_ENABLE p) == 1)) = false) &&
    decide (s.role p ≠ 3) &&
    decide (s.linkUp p = true)),
  ( -- dpcRelease
    let s : State := hostUp.wr (K.PRT_LINK_STATE 0) 4
    let p : Nat := 0
    decide (p < 64) &&
    decide (bit (s.rd (K.PRT_LINK_STATE p)) 2 = true) &&
    decide (¬((s.boundTo p).isNone ∧ s.clk.dtc < (s.port p).downAt + 10000))),
  ( -- pmeTurnOff
    let s : State := hostUp
    let p : Nat := 0
    decide (p < 64) &&
    decide (s.pfExists p = true) &&
    decide (s.linkUp p = true)),
  ( -- pmeToAck
    let s : State := portWith hostUp { pmeSince := some 0 }
    let p : Nat := 0
    decide (p < 64) &&
    decide ((s.port p).pmeSince.isSome = true)),
  ( -- pmeToAckTimeout
    let s : State := portWith hostUp { pmeSince := some 0 }
    let p : Nat := 0
    decide (p < 64) &&
    (match (s.port p).pmeSince with
    | some t => (
    decide (t + 10000000 ≤ s.clk.dtc))
    | _ => false)),
  ( -- powerControllerControl
    let s : State := devUp.wr (K.PRT_SLOT 0) 3 |>.wr (K.PRT_ROLE 1) 1 |>.wr (K.PRT_VPPB_BIND 1 0) 0
    let p : Nat := 0
    let on : Bool := false
    decide (p < 64) &&
    let n := s.rd (K.PRT_SLOT p)
    decide (s.role p = 2) &&
    decide (n < 16) &&
    decide ((s.boundTo p).isNone = false)),
  ( -- prtController
    let s : State := up
    let p : Nat := 0
    decide (p < 64)),
  ( -- aspmL1Entry
    let s : State := devUp.wr (K.PRT_LINK_STATE 0) 0x130001
    let p : Nat := 0
    decide (p < 64) &&
    decide (s.role p ≠ 0) &&
    decide (s.role p ≠ 3) &&
    decide (s.linkUp p = true) &&
    decide (bits (s.rd (K.PRT_LINK_STATE p)) 23 16 = 0x13)),
  ( -- l1ExitComplete
    let s : State := devUp.wr (K.PRT_LINK_STATE 0) 0x140001
    let p : Nat := 0
    decide (p < 64) &&
    decide (s.inL1 p = true)),
  ( -- updateFc
    let s : State := devUp
    let p : Nat := 0
    let ch : Nat := 0
    let hdr : Nat := 0
    let data : Nat := 0
    decide (p < 64) &&
    decide (s.role p ≠ 3) &&
    decide (s.linkUp p = true))].all id = true := by
  decide +kernel

/-- For each clause of PortTransactionCommands that has hypotheses: operands and a state that meet them. -/
theorem witness_PortTransactionCommands : [
  ( -- trackerTimeout
    let s : State := { devUp with fab.trackers := [track] }
    let p : Nat := 0
    let tag : Nat := 1
    decide (p < 64) &&
    (match s.tracker tag with
    | some t => (
    (match t.sentAt with
    | some at_ => (
    decide (t.egress = p) &&
    decide (¬(s.role p = 3 ∧ !t.stale)) &&
    decide (at_ + s.rd (K.PRT_TRACKER_TIMEOUT p) ≤ s.clk.dtc))
    | _ => false))
    | _ => false)),
  ( -- portResponse
    let s : State := devUp
    let p : Nat := 0
    let r : PortResp := portResp
    decide (p < 64) &&
    decide (s.role p ≠ 3) &&
    decide (s.linkUp p = true) &&
    decide (s.insecure p = false)),
  ( -- cxlIoTlp
    let s : State := devUp
    let p : Nat := 0
    let t : Tlp := tlp
    decide (p < 64)),
  ( -- hdmDecoderCommit
    let s : State := hostUp
    let p : Nat := 0
    let n : Nat := 0
    let d : HdmDecoder := { base := 0, size := 2 ^ 28, dpa := 0, ways := 1, granularity := 256, position := 0 }
    decide (p < 64) &&
    decide (s.pfExists p = true) &&
    decide (s.linkUp p = true) &&
    decide ((s.port p).cxl = true) &&
    decide (n < 8) &&
    decide (d.size ≠ 0) &&
    decide (d.size % 2 ^ 28 = 0) &&
    decide (d.base % 2 ^ 28 = 0) &&
    decide ([1, 2, 4, 8].contains d.ways = true) &&
    decide ([256, 512, 1024, 2048, 4096, 8192, 16384].contains d.granularity = true) &&
    decide (d.position < d.ways)),
  ( -- cxlCacheMessage
    let s : State := ((devUp.wr (K.PRT_ROLE 1) 1 |>.wr (K.PRT_VPPB_BIND 1 0) 0).wr (K.PRT_LINK_STATE 1) 1).putPort 0 { cacheDevice := true }
    let p : Nat := 0
    let message : CacheMsg := { vppb := 0, payload := [] }
    let vppb := message.vppb
    decide (p < 64) &&
    decide (s.role p ≠ 0) &&
    decide (s.role p ≠ 3) &&
    decide (s.linkUp p = true) &&
    decide (s.insecure p = false) &&
    let q := if s.role p = 2 then ((s.boundTo p).map (·.1)).getD 64 else if 2 ≤ vppb ∧ vppb ≤ 7 then s.rd (K.PRT_VPPB_BIND p (vppb - 2)) else 64
    let device := if s.role p = 2 then p else q
    decide (q < 64) &&
    decide ((s.port device).cacheDevice = true) &&
    decide (bit (s.rd (K.PRT_CXL_ENABLE p)) 2 = true) &&
    decide (s.linkUp q = true) &&
    decide (s.insecure q = false)),
  ( -- debugMasterAccess
    let s : State := up.wro (K.GTP_REGION_ENTRY 0) ([0x1F, 0, 2] ++ zeros 21 ++ [255, 255, 255, 255, 15, 0, 0, 0])
    let write : Bool := false
    let target : Nat := 0
    let a : Nat := 0
    let len : Nat := 4
    let data : List Byte := []
    let n := if write then data.length else len
    let who : Initiator := { debug := true, device := s.device }
    let need := if write then permWrite else permRead
    decide (n ≠ 0) &&
    decide (s.inPinfold = false) &&
    decide (s.rd K.HRD_PADS_HELD = 0) &&
    decide (s.gtpDenied who target a n need = none)),
  ( -- debugMasterAccess
    let s : State := up
    let write : Bool := false
    let target : Nat := 0
    let a : Nat := 0
    let len : Nat := 4
    let data : List Byte := []
    let n := if write then data.length else len
    let who : Initiator := { debug := true, device := s.device }
    let need := if write then permWrite else permRead
    decide (n ≠ 0) &&
    decide (s.inPinfold = false) &&
    decide (s.rd K.HRD_PADS_HELD = 0) &&
    (match s.gtpDenied who target a n need with
    | some d => (true)
    | _ => false))].all id = true := by
  decide +kernel

/-- For each clause of DynamicCapacityCommands that has hypotheses: operands and a state that meet them. -/
theorem witness_DynamicCapacityCommands : [
  ( -- addCapacityResponse
    let s : State := hostUp
    let p : Nat := 0
    let accepted : List Nat := []
    decide (p < 64) &&
    decide (s.role p = 1)),
  ( -- prtDcResponse
    let s : State := portWith hostUp { log := [{ handle := 1, kind := 0, extent := 0, dpa := 0, length := 64, tag := 1, more := false }] }
    let p : Nat := 0
    let e : Nat := 0
    decide (p < 64) &&
    let x := s.port p
    let due := fun (r : DcRecord) => r.kind == 0 && !r.answered && !r.late && r.extent == e
    && decide (max r.at_ s.boot.upTick + s.rd (K.PRT_DC_RESPONSE_TIMEOUT p) ≤ s.clk.dtc)
    decide (x.log.any due = true)),
  ( -- releaseDynamicCapacity
    let s : State := hostUp.wro (K.FLD_EXTENT_ENTRY 5) ([1] ++ zeros 15)
    let p : Nat := 0
    let e : Nat := 5
    decide (e < 131072) &&
    decide (p < 64) &&
    decide (s.role p = 1) &&
    let x := s.extent e
    decide (x.fold ≠ 0) &&
    decide (s.rd (K.FLD_OWNER_PORT x.fold) = p) &&
    decide (s.releaseAnswered e = false)),
  ( -- clearEventRecords
    let s : State := up
    let p : Nat := 0
    let handles : List Nat := []
    decide (p < 64)),
  ( -- deviceDcAdd
    let s : State := devUp
    let p : Nat := 0
    let ld : Nat := 0
    let base : Nat := 0
    let size : Nat := 0
    decide (p < 64) &&
    decide (s.role p = 2) &&
    decide (s.linkUp p = true) &&
    decide (ld < 16)),
  ( -- deviceForcedRemoval
    let s : State := devUp
    let p : Nat := 0
    let ld : Nat := 0
    let base : Nat := 0
    let size : Nat := 0
    decide (p < 64) &&
    decide (s.role p = 2))].all id = true := by
  decide +kernel

/-- For each clause of ThrottleCommands that has hypotheses: operands and a state that meet them. -/
theorem witness_ThrottleCommands : [
  ( -- pwrBrakeRelease
    let s : State := { up with gov.brake := true }
    decide (s.gov.brake = true)),
  ( -- hrdRegion
    let s : State := up
    let r : RegionSample := { region := 1, quantity := 0, value := 1000000 }
    decide (regionOver r = true) &&
    decide (r.region ≠ 0) &&
    decide (r.region ≤ 12) &&
    decide (s.gov.throttled.contains (r.region, r.quantity) = false)),
  ( -- regionThrottleRelease
    let s : State := up
    let region : Nat := 1
    decide (region ≠ 0) &&
    decide (region ≤ 12)),
  ( -- hrdThermal
    let s : State := up
    let sensor : Nat := 0
    let temp : Int := 0
    decide (sensor < 32) &&
    decide (bit s.boot.sensorsOut sensor = false)),
  ( -- budgetStepdown
    let s : State := { up with gov.thermal := true }
    let temp : Int := 1200
    decide (s.gov.thermal = true) &&
    decide (s.throttleAt - 50 < temp)),
  ( -- thermalRelease
    let s : State := { up with gov.thermal := true }
    let temp : Int := 0
    decide (s.gov.thermal = true) &&
    decide (temp ≤ s.throttleAt - 50)),
  ( -- hrdThermalCritical
    let s : State := up
    let sensor : Nat := 0
    let temp : Int := 1150
    decide (1150 ≤ temp) &&
    decide (sensor < 32) &&
    decide (bit s.boot.sensorsOut sensor = false)),
  ( -- hrdRefclkLoss
    let s : State := up
    decide (s.boot.refclkEn = true) &&
    decide (s.boot.step ≠ .reset) &&
    decide (s.boot.step ≠ .strapped)),
  ( -- hrdSupply
    let s : State := up
    let rail : Nat := 0
    decide (rail < 3) &&
    decide (bit s.boot.vrEn rail = true) &&
    decide (bit s.boot.vrPg rail = true))].all id = true := by
  decide +kernel

/-- For each clause of SleepCommands that has hypotheses: operands and a state that meet them. -/
theorem witness_SleepCommands : [
  ( -- fallowRequest
    let s : State := up
    let n : Nat := 1
    decide (s.mayWrite n K.HRD_PSTATE_REQUEST (wire K.HRD_PSTATE_REQUEST 2))),
  ( -- fallowGate
    let s : State := { up.wr K.HRD_FALLOW_SET 1 with pwr.fallowAsked := true }
    let r : Nat := 0
    decide (r < 19) &&
    decide (s.isReady = true) &&
    decide (s.pwr.fallowAsked = true) &&
    decide (bit (s.rd K.HRD_FALLOW_SET) r = true) &&
    decide (bit (s.rd K.HRD_FALLOWED) r = false) &&
    decide (s.fallowReady r = true)),
  ( -- fallowWake
    let s : State := up.wr K.HRD_FALLOWED 1
    let r : Nat := 0
    decide (r < 19) &&
    decide (bit (s.rd K.HRD_FALLOWED) r = true) &&
    decide ((!bit (s.rd K.HRD_FALLOW_SET) r ∨ s.fallowNeed = some r ∨ (16 ≤ r ∧ !(s.cicRequests (r - 15)).isEmpty)))),
  ( -- winteringRequest
    let s : State := up
    let n : Nat := 1
    decide (s.winterOk = true) &&
    decide (s.mayWrite n K.HRD_PSTATE_REQUEST (wire K.HRD_PSTATE_REQUEST 3))),
  ( -- wakeTimer
    let s : State := { up.wr K.HRD_WAKE_ENABLE 4 |>.wr K.HRD_WAKE_TIMER 1 with pwr.sleep := .asleep, clk.bothy := 5 }
    let cause := 3
    decide (s.pwr.sleep = .asleep) &&
    decide (s.wakeSource cause = true)),
  ( -- wakeEvent
    let s : State := { up.wr K.HRD_WAKE_ENABLE 4 |>.wr K.HRD_WAKE_TIMER 1 with pwr.sleep := .asleep, clk.bothy := 5 }
    let cause : Nat := 3
    decide (s.pwr.sleep = .asleep) &&
    decide (s.wakeSource cause = true)),
  ( -- wakeRetry
    let s : State := { up with pwr.sleep := .waking }
    let booting := s.boot.step == .strapped || s.boot.step == .clocked || s.boot.step == .pllSupply || s.boot.step == .coreSupply
    || ((s.boot.step == .phaseA || s.boot.step == .uartRecovery) && !bit s.boot.vrPg 1)
    decide (¬(s.pwr.sleep ≠ .waking ∧ !booting))),
  ( -- wakeComplete
    let s : State := { up with pwr.sleep := .waking, boot.boundary := 0 }
    decide (s.pwr.sleep = .waking) &&
    decide (s.boot.boundary < s.now)),
  ( -- hrdPadRelease
    let s : State := up
    let n : Nat := 1
    let value : Nat := 1
    decide (carried K.HRD_PAD_RELEASE value = 1) &&
    decide (s.mayWrite n K.HRD_PAD_RELEASE (wire K.HRD_PAD_RELEASE value)))].all id = true := by
  decide +kernel

/-- For each clause of SlotCommands that has hypotheses: operands and a state that meet them. -/
theorem witness_SlotCommands : [
  ( -- slotGrantRequest
    let s : State := slotUp 1 {}
    let n : Nat := 0
    decide (n < 16) &&
    decide (s.slotCode n = 1) &&
    decide ((s.chan n).asked = false) &&
    decide (bit (s.rd (K.HRD_SLOT_STATE n)) 5 = false)),
  ( -- slotGrant
    let s : State := { slotUp 1 {} with gov.grants := [(82, 1)] }
    let n : Nat := 0
    decide (n < 16) &&
    decide (s.slotCode n = 1) &&
    decide (s.granted (82 + n) ≠ 0)),
  ( -- slotOn
    let s : State := slotUp 2 {}
    let n : Nat := 0
    let vout : Nat := 12000
    let vin : Nat := 12000
    decide (n < 16) &&
    decide (s.slotCode n = 2) &&
    decide (vin ≤ vout + 200)),
  ( -- powerGoodAssert
    let s : State := slotUp 3 {}
    let n : Nat := 0
    decide (n < 16) &&
    let c := s.chan n
    decide (s.slotLive n = true) &&
    decide (bit (s.rd (K.HRD_SLOT_STATE n)) 4 = false) &&
    decide (bit (s.rd (K.HRD_SLOT_STATE n)) 7 = false) &&
    decide (c.timerEnd + 1000000 ≤ s.clk.dtc)),
  ( -- powerGoodRelease
    let s : State := slotUp 0x13 {}
    let n : Nat := 0
    let vout : Nat := 5
    decide (n < 16) &&
    decide (vout < 10800) &&
    decide (bit (s.rd (K.HRD_SLOT_STATE n)) 7 = false) &&
    decide (bit (s.rd (K.HRD_SLOT_STATE n)) 4 = true)),
  ( -- currentLimit
    let s : State := slotUp 3 {}
    let n : Nat := 0
    let current : Nat := 10 ^ 9
    decide (n < 16) &&
    decide (s.slotLive n = true) &&
    decide (s.rd (K.HRD_SLOT_ILIMIT n) ≤ current) &&
    decide (bit (s.rd (K.HRD_SLOT_STATE n)) 7 = false)),
  ( -- faultTimerExpiry
    let s : State := slotUp 0x83 {}
    let n : Nat := 0
    decide (n < 16) &&
    decide (s.slotLive n = true) &&
    decide (bit (s.rd (K.HRD_SLOT_STATE n)) 7 = true) &&
    decide ((s.chan n).timerAt + s.rd (K.HRD_SLOT_FAULT_TIME n) ≤ s.clk.dtc)),
  ( -- shortCircuit
    let s : State := slotUp 3 {}
    let n : Nat := 0
    let sense : Nat := 10 ^ 9
    decide (n < 16) &&
    decide (s.slotLive n = true) &&
    decide (4 * s.rd (K.HRD_SLOT_ILIMIT n) ≤ sense)),
  ( -- fetOvertemp
    let s : State := slotUp 3 {}
    let n : Nat := 0
    let modelled : Int := 1500
    let therm : Int := 0
    decide (n < 16) &&
    let on := s.rd (K.HRD_SLOT_THERM_ENABLE n) = 1 ∧ therm = 1500
    decide (s.slotLive n = true) &&
    decide (¬(modelled < 1500 ∧ ¬on))),
  ( -- thermistorOutOfRange
    let s : State := (slotUp 3 {}).wr (K.HRD_SLOT_THERM_ENABLE 0) 1
    let n : Nat := 0
    let reading : Int := 2000
    decide (n < 16) &&
    decide (s.rd (K.HRD_SLOT_THERM_ENABLE n) = 1) &&
    decide (¬(-400 ≤ reading ∧ reading ≤ 1500))),
  ( -- rampTimeout
    let s : State := slotUp 2 {}
    let n : Nat := 0
    decide (n < 16) &&
    let limit := 24000 * 1000000 / max 1 (s.rd (K.HRD_SLOT_DVDT n)) + s.rd (K.HRD_SLOT_FAULT_TIME n)
    decide (s.slotCode n = 2) &&
    decide (bit (s.rd (K.HRD_SLOT_STATE n)) 4 = false) &&
    decide ((s.chan n).rampAt + limit ≤ s.clk.dtc)),
  ( -- hrdSlotFet
    let s : State := slotUp 0 {}
    let n : Nat := 0
    let vout : Nat := 1001
    let held : Nat := 5000001
    decide (n < 16) &&
    decide (s.slotLive n = false) &&
    decide (1000 < vout) &&
    decide (5000000 < held) &&
    decide ((s.chan n).offAt + s.rd (K.HRD_SLOT_FET_BLANK n) ≤ s.clk.dtc)),
  ( -- pwrfailAssert
    let s : State := up
    let n : Nat := 0
    let vin : Nat := 0
    decide (n < 16) &&
    decide (vin < 10500) &&
    decide (bit (s.rd (K.HRD_SLOT_STATE n)) 5 = false)),
  ( -- pwrfailRelease
    let s : State := slotUp 0x20 {}
    let n : Nat := 0
    let vin : Nat := 12000
    decide (n < 16) &&
    decide (10700 < vin) &&
    decide (bit (s.rd (K.HRD_SLOT_STATE n)) 5 = true)),
  ( -- slotGateOff
    let s : State := slotUp 4 { stopAt := some 0 }
    let n : Nat := 0
    decide (n < 16) &&
    (match (s.chan n).stopAt with
    | some t => (
    decide (s.slotCode n = 4) &&
    decide (t + 100000 ≤ s.clk.dtc))
    | _ => false)),
  ( -- faultTimerStop
    let s : State := slotUp 0x83 {}
    let n : Nat := 0
    decide (n < 16) &&
    decide (bit (s.rd (K.HRD_SLOT_STATE n)) 7 = true))].all id = true := by
  decide +kernel

/-- For each clause of QueueRegisterCommands that has hypotheses: operands and a state that meet them. -/
theorem witness_QueueRegisterCommands : [
  ( -- vfSqTail
    let s : State := (vfUp { state := 1, sqs := [{ enable := true }] })
    let p : Nat := 0
    let i : Nat := 1
    let q : Nat := 0
    let value : Nat := 3
    (match s.poolVf p i with
    | some v => (
    decide (q < 4) &&
    decide (s.vfBells v = true) &&
    let t := value % 65536
    let sq := (s.vf v).sqs.getD q {}
    let n := queueEntries sq.size
    decide (sq.enable = true) &&
    decide (t < n) &&
    decide ((t + n - sq.tail) % n + (sq.tail + n - sq.head) % n < n))
    | _ => false)),
  ( -- vfCqHead
    let s : State := (vfUp { state := 1, cqs := [{ enable := true, tail := 5 }] })
    let p : Nat := 0
    let i : Nat := 1
    let q : Nat := 0
    let value : Nat := 3
    (match s.poolVf p i with
    | some v => (
    decide (q < 4) &&
    decide (s.vfBells v = true) &&
    let h := value % 65536
    let c := (s.vf v).cqs.getD q {}
    let n := queueEntries c.size
    decide (c.enable = true) &&
    decide (h < n) &&
    decide ((h + n - c.head) % n ≤ (c.tail + n - c.head) % n))
    | _ => false)),
  ( -- sqEnable
    let s : State := (vfUp { state := 1, cqs := [{ enable := true }] })
    let p : Nat := 0
    let i : Nat := 1
    let q : Nat := 0
    (match s.poolVf p i with
    | some v => (
    decide (q < 4) &&
    decide (s.vfOpen v = true) &&
    decide (s.flt.isolated.contains (elemVf v) = false) &&
    let x := s.vf v
    let sq := x.sqs.getD q {}
    decide ((sq.enable = false ∨ sq.stopped = true)) &&
    decide (sq.err = false) &&
    decide (s.sqActive v q = false) &&
    decide ((x.cqs.getD (bits sq.size 9 8) {}).enable = true))
    | _ => false)),
  ( -- sqDisable
    let s : State := (vfUp { state := 1 })
    let p : Nat := 0
    let i : Nat := 1
    let q : Nat := 0
    (match s.poolVf p i with
    | some v => (
    decide (q < 4) &&
    decide (s.vfOpen v = true))
    | _ => false)),
  ( -- cqEnable
    let s : State := (vfUp { state := 1 })
    let p : Nat := 0
    let i : Nat := 1
    let q : Nat := 0
    let value : Nat := 0
    (match s.poolVf p i with
    | some v => (
    decide (q < 4) &&
    decide (s.vfOpen v = true) &&
    decide (s.flt.isolated.contains (elemVf v) = false))
    | _ => false)),
  ( -- cqDisable
    let s : State := (vfUp { state := 1 })
    let p : Nat := 0
    let i : Nat := 1
    let q : Nat := 0
    let value : Nat := 0
    (match s.poolVf p i with
    | some v => (
    decide (q < 4) &&
    decide (s.vfOpen v = true))
    | _ => false)),
  ( -- vfErr
    let s : State := (vfUp { state := 1 })
    let p : Nat := 0
    let i : Nat := 1
    let value : Nat := 0
    (match s.poolVf p i with
    | some v => (
    decide (s.vfOpen v = true))
    | _ => false)),
  ( -- pfIntCause
    let s : State := hostUp
    let p : Nat := 0
    let value : Nat := 0
    decide (s.pfExists p = true)),
  ( -- pfVfEvent
    let s : State := up
    let p : Nat := 0
    let off : Nat := 0x100
    let size : Nat := 0
    let value : Nat := 0
    decide (0x100 ≤ off) &&
    decide (off < 0x120)),
  ( -- msixUnmask
    let s : State := hostUp
    let f : Func := .pf 0
    let n : Nat := 0
    decide (s.hasFunc f = true) &&
    decide (n < (funcVectors f)))].all id = true := by
  decide +kernel

/-- For each clause of DescriptorCommands that has hypotheses: operands and a state that meet them. -/
theorem witness_DescriptorCommands : [
  ( -- descriptorFetch
    let s : State := (vfUp { state := 1, cfg := { busMaster := true }, sqs := [{ enable := true, tail := 1 }], cqs := [{ enable := true }] })
    decide (s.awaiting < 16384) &&
    decide (s.noTracker false = false) &&
    (match s.turn s.tfb.fetchPtr (fun v => s.vfFetches v && (List.range 4).any (fun q => (s.vf v).sqFetches q)) with
    | some v => (true)
    | _ => false)),
  ( -- nop
    let s : State := (vfUp { state := 1, descs := [{ id := 1, sq := 0, here := true, bytes := [0] ++ zeros 63 }] })
    let v : Nat := 0
    let q : Nat := 0
    decide (v < 1024) &&
    decide (q < 4) &&
    decide (s.vfDispatches v = true) &&
    (match s.headDesc v q with
    | some d => (
    decide (field d.bytes 0 1 = 0) &&
    decide ((s.descFault v d.bytes).isSome = false))
    | _ => false)),
  ( -- run
    let s : State := (vfUp { state := 1, descs := [{ id := 1, sq := 0, here := true, bytes := [6] ++ zeros 3 ++ [1] ++ zeros 59 }] })
    let v : Nat := 0
    let q : Nat := 0
    decide (v < 1024) &&
    decide (q < 4) &&
    decide (s.vfDispatches v = true) &&
    (match s.headDesc v q with
    | some d => (
    decide (field d.bytes 0 1 = 6) &&
    decide ((s.descFault v d.bytes).isSome = false))
    | _ => false)),
  ( -- fence
    let s : State := (vfUp { state := 1, descs := [{ id := 1, sq := 0, here := true, bytes := [7] ++ zeros 63 }] })
    let v : Nat := 0
    let q : Nat := 0
    decide (v < 1024) &&
    decide (q < 4) &&
    decide (s.vfDispatches v = true) &&
    (match s.headDesc v q with
    | some d => (
    decide (field d.bytes 0 1 = 7) &&
    decide ((s.descFault v d.bytes).isSome = false) &&
    decide ((s.vf v).running.any (fun r => r.2 == q) = false))
    | _ => false)),
  ( -- tfbCplWrite
    let s : State := (vfUp { state := 1, cqs := [{ enable := true }] })
    let v : Nat := 0
    let q : Nat := 0
    decide (v < 1024) &&
    decide (q < 4) &&
    decide (((s.vf v).cqs.getD q {}).enable = true)),
  ( -- cqModTimer
    let s : State := (vfUp { state := 1, cqs := [{ timer := some 0 }] })
    let v : Nat := 0
    let q : Nat := 0
    decide (v < 1024) &&
    decide (q < 4) &&
    decide (((s.vf v).cqs.getD q {}).timer = some 0)),
  ( -- tfbQueueEcc
    let s : State := up
    let v : Nat := 0
    let k : EccKind := .corrected
    decide (v < 1024))].all id = true := by
  decide +kernel

/-- For each clause of FunctionCommands that has hypotheses: operands and a state that meet them. -/
theorem witness_FunctionCommands : [
  ( -- vfEnable
    let s : State := hostUp
    let p : Nat := 0
    let on : Bool := false
    decide (s.pfExists p = true)),
  ( -- majorSelect
    let s : State := hostUp
    let p : Nat := 0
    let value : Nat := 0
    let m := value % 256
    decide (s.pfExists p = true) &&
    decide ((s.pf p).vfEnable = false) &&
    decide (m ≤ 3)),
  ( -- initiateFlr
    let s : State := hostUp
    let f : Func := .pf 0
    decide (s.hasFunc f = true)),
  ( -- flrComplete
    let s : State := (vfUp { state := 6 })
    let v : Nat := 0
    let x := s.vf v
    let left := s.vfTrackers v
    decide (x.state = 6) &&
    decide ((!left.isEmpty && s.clk.dtc < x.resetAt + 100000) = false)),
  ( -- d3hotEntry
    let s : State := hostUp
    let f : Func := .pf 0
    decide (s.hasFunc f = true)),
  ( -- d0Return
    let s : State := hostUp
    let f : Func := .pf 0
    decide (s.hasFunc f = true)),
  ( -- translationCompletion
    let s : State := hostUp
    let f : Func := .pf 0
    let a : Nat := 0
    let t : Nat := 0
    let granted : Bool := false
    decide (s.atsTracker f (a / s.atsUnit f) = none)),
  ( -- translationCompletion
    let s : State := { hostUp with fab.trackers := [{ track with origin := .ats (.pf 0) 0 }] }
    let f : Func := .pf 0
    let a : Nat := 0
    let t : Nat := 0
    let granted : Bool := false
    let page := a / s.atsUnit f
    (match s.atsTracker f page with
    | some k => (
    decide ((s.releaseTracker k).tfb.waits.any (fun w => w.f == f && w.addr / s.atsUnit f == page) = false))
    | _ => false)),
  ( -- translationCompletion
    let s : State := { hostUp with fab.trackers := [{ track with origin := .ats (.pf 0) 0 }], tfb.waits := [{ f := .pf 0, kind := 0, addr := 0 }] }
    let f : Func := .pf 0
    let a : Nat := 0
    let t : Nat := 0
    let granted : Bool := false
    let page := a / s.atsUnit f
    (match s.atsTracker f page with
    | some k => (
    decide ((s.releaseTracker k).tfb.waits.any (fun w => w.f == f && w.addr / s.atsUnit f == page) = true) &&
    decide (granted = false))
    | _ => false)),
  ( -- translationCompletion
    let s : State := { hostUp with fab.trackers := [{ track with origin := .ats (.pf 0) 0 }], tfb.waits := [{ f := .pf 0, kind := 0, addr := 0 }] }
    let f : Func := .pf 0
    let a : Nat := 0
    let t : Nat := 0
    let granted : Bool := true
    let u := s.atsUnit f
    let page := a / u
    let here := fun (w : AtsWait) => w.f == f && w.addr / u == page
    (match s.atsTracker f page with
    | some k => (
    let s1 := s.releaseTracker k
    decide (s1.tfb.waits.any here = true) &&
    decide (granted = true))
    | _ => false)),
  ( -- invalidateRequest
    let s : State := hostUp
    let f : Func := .pf 0
    let a : Nat := 0
    let size : Nat := 0
    decide (s.hasFunc f = true)),
  ( -- configurationWrite
    let s : State := hostUp
    let f : Func := .pf 0
    let c : CfgChange := .busMaster true
    decide (s.hasFunc f = true))].all id = true := by
  decide +kernel

/-- For each clause of TickCommands that has hypotheses: operands and a state that meet them. -/
theorem witness_TickCommands : [
  ( -- tickBoundary
    let s : State := up
    decide (s.clk.running = true)),
  ( -- tickJobOverrun
    let s : State := up
    let job : Nat := 1
    let late : Nat := 0
    decide (job ≠ 0) &&
    decide (job ≤ 6) &&
    decide (s.ticking = true)),
  ( -- laneEvaluate
    let s : State := up
    let g : Nat := 0
    decide (g < 81)),
  ( -- tallyBlock
    let s : State := up
    decide (s.ticking = true) &&
    decide (s.tallyDue = true) &&
    decide (s.fab.pdk.startAt < s.now * 1000) &&
    decide (s.isReady = true)),
  ( -- pdkHistClear
    let s : State := up
    let n : Nat := 1
    let value : Nat := 0
    let x := carried K.PDK_HIST_CLEAR value
    decide (x ≤ 1023) &&
    decide (s.mayWrite n K.PDK_HIST_CLEAR (wire K.PDK_HIST_CLEAR value))),
  ( -- pdkHistClear
    let s : State := up
    let n : Nat := 1
    let value : Nat := 0xFFFF
    decide (carried K.PDK_HIST_CLEAR value = 0xFFFF) &&
    decide (s.mayWrite n K.PDK_HIST_CLEAR (wire K.PDK_HIST_CLEAR value))),
  ( -- pdkBucketEcc
    let s : State := up
    let f : Nat := 0
    let b : Nat := 0
    let k : EccKind := .corrected
    decide (f < 1024) &&
    decide (b < 6) &&
    decide (¬(4 ≤ b ∧ 64 ≤ f))),
  ( -- pdkMeterEcc
    let s : State := up
    let f : Nat := 0
    let n : Nat := 0
    let k : EccKind := .corrected
    let both : Bool := false
    decide (f < 1024) &&
    decide (n < 7))].all id = true := by
  decide +kernel

/-- For each clause of TwillFlitCommands that has hypotheses: operands and a state that meet them. -/
theorem witness_TwillFlitCommands : [
  ( -- dataFlit
    let s : State := twillUp
    let p : Nat := 0
    let f : List Byte := []
    decide (s.isTwill p = true) &&
    decide (s.linkUp p = true)),
  ( -- ctrlFlit
    let s : State := twillUp
    let p : Nat := 0
    let f : List Byte := []
    decide (s.isTwill p = true) &&
    decide (s.twillState p ≠ 0)),
  ( -- ack
    let s : State := linkWith (fun l => { l with seq := 5, replay := [(4, [])] })
    let p : Nat := 0
    let nak : Bool := false
    let n : Nat := 4
    decide (s.isTwill p = true) &&
    decide (s.linkUp p = true) &&
    let l := s.link p
    let base := (l.seq + 8192 - l.replay.length - 1) % 4096
    let d := (n + 4096 - base) % 4096
    decide (d ≤ l.replay.length)),
  ( -- credit
    let s : State := twillUp
    let p : Nat := 0
    let words : List Nat := []
    decide (s.isTwill p = true) &&
    decide (s.linkUp p = true)),
  ( -- config
    let s : State := twillUp
    let p : Nat := 0
    let c : TwillConfig := twConfig
    decide (s.isTwill p = true)),
  ( -- initMsg
    let s : State := twillUp.wr (K.TWL_STATE 0) 0x50
    let p : Nat := 0
    let ack : Bool := false
    let hdr : List Nat := List.replicate 8 100
    let data : List Nat := List.replicate 8 1000
    decide (s.isTwill p = true) &&
    decide (s.twillState p = 5) &&
    decide ((List.range 8).any (fun c => decide (hdr.getD c 0 < (creditMin c).1) || decide (data.getD c 0 < (creditMin c).2)) = false)),
  ( -- eq
    let s : State := twillUp
    let p : Nat := 0
    let lane : Nat := 0
    let kind : Nat := 0
    let preset : Nat := 0
    let coeffs : List Int := []
    let _result : Nat := 0
    decide (s.isTwill p = true)),
  ( -- retrain
    let s : State := twillUp
    let p : Nat := 0
    let width : Nat := 0
    let eq : Bool := false
    let answer : Bool := false
    let device : Nat := 0
    decide (s.isTwill p = true) &&
    decide (s.linkUp p = true) &&
    decide ((s.link p).retrain = none) &&
    decide (answer = false)),
  ( -- retrain
    let s : State := linkWith (fun l => { l with retrain := some { width := 0, eq := false, own := true, answered := false, since := 1, equalising := false } })
    let p : Nat := 0
    let width : Nat := 0
    let eq : Bool := false
    let answer : Bool := false
    let device : Nat := 0
    decide (s.isTwill p = true) &&
    decide (s.linkUp p = true) &&
    (match (s.link p).retrain with
    | some r => (
    decide (r.answered = false))
    | _ => false))].all id = true := by
  decide +kernel

/-- For each clause of TwillTimerCommands that has hypotheses: operands and a state that meet them. -/
theorem witness_TwillTimerCommands : [
  ( -- ackTimer
    let s : State := linkWith (fun l => { l with unacked := 1 })
    let p : Nat := 0
    decide (s.isTwill p = true) &&
    decide (s.linkUp p = true) &&
    decide ((s.link p).unacked ≠ 0) &&
    decide ((s.link p).unackedAt + 128 ≤ s.clk.dtc)),
  ( -- creditTimer
    let s : State := twillUp
    let p : Nat := 0
    decide (s.isTwill p = true) &&
    decide (s.linkUp p = true) &&
    let l := s.link p
    let due := match l.creditAt with
    | some a => decide (a + 128 ≤ s.clk.dtc)
    | none => false
    decide ((due || decide (l.creditSent + 1000 ≤ s.clk.dtc)) = true)),
  ( -- twlReplayTimer
    let s : State := linkWith (fun l => { l with replay := [(0, [])] })
    let p : Nat := 0
    decide (s.isTwill p = true) &&
    decide (s.linkUp p = true) &&
    decide ((s.link p).replay.isEmpty = false) &&
    decide ((s.link p).ackedAt + s.rd (K.TWL_REPLAY_TIMER p) ≤ s.clk.dtc)),
  ( -- twlLinkDown
    let s : State := twillUp
    let p : Nat := 0
    decide (s.isTwill p = true) &&
    decide (s.linkUp p = true)),
  ( -- trainingTimeout
    let s : State := twillUp.wr (K.TWL_STATE 0) 0x50
    let p : Nat := 0
    decide (s.isTwill p = true) &&
    let st := s.twillState p
    decide (st ≠ 0) &&
    decide (st < 6) &&
    let limit := if st = 1 ∨ st = 3 then 2000000 else if st = 4 then 8000000 else 1000000
    decide ((s.link p).stateAt + limit ≤ s.clk.dtc)),
  ( -- trainingRestart
    let s : State := (linkWith (fun l => { l with restartAt := some 5 })).wr (K.TWL_STATE 0) 0
    let p : Nat := 0
    decide (s.isTwill p = true) &&
    decide (s.twillState p = 0) &&
    (match (s.link p).restartAt with
    | some a => (
    decide (a ≤ s.clk.dtc))
    | _ => false)),
  ( -- twlRetrain
    let s : State := twillUp
    let n : Nat := 1
    let port : Nat := 0
    let value : Nat := 15
    decide (port < 64) &&
    let r := carried (K.TWL_RETRAIN port) value
    decide (r < 32) &&
    decide ((r % 16 = 15 ∨ r % 16 ≤ log2w (4 * (s.portQuads port).length))) &&
    decide (s.role port = 3) &&
    decide (s.linkUp port = true) &&
    decide ((s.link port).retrain = none) &&
    decide (s.mayWrite n (K.TWL_RETRAIN port) (wire (K.TWL_RETRAIN port) value))),
  ( -- replayBufferEmpty
    let s : State := linkWith (fun l => { l with retrain := some { width := 0, eq := false, own := true, answered := true, since := 1, equalising := false } })
    let p : Nat := 0
    decide (s.isTwill p = true) &&
    decide ((s.link p).replay.isEmpty = true) &&
    (match (s.link p).retrain with
    | some r => (
    decide (r.answered = true) &&
    decide (r.equalising = false))
    | _ => false)),
  ( -- retrainHoldTimeout
    let s : State := linkWith (fun l => { l with retrain := some { width := 0, eq := false, own := true, answered := true, since := 1, equalising := false } })
    let p : Nat := 0
    decide (s.isTwill p = true) &&
    (match (s.link p).retrain with
    | some r => (
    decide (r.answered = true) &&
    decide (r.since + 10000000 < s.clk.dtc))
    | _ => false)),
  ( -- twlReenable
    let s : State := twillUp.wr (K.TWL_STATE 0) 2
    let n : Nat := 1
    let port : Nat := 0
    let value : Nat := 1
    decide (port < 64) &&
    decide (carried (K.TWL_REENABLE port) value = 1) &&
    decide (bit (s.rd (K.TWL_STATE port)) 1 = true) &&
    decide (s.mayWrite n (K.TWL_REENABLE port) (wire (K.TWL_REENABLE port) value))),
  ( -- twlTrackerTimeout
    let s : State := { twillUp with fab.trackers := [track] }
    let device : Nat := s.device
    let tag : Nat := 1
    decide (device = s.device) &&
    (match s.tracker tag with
    | some t => (
    decide (t.egress < 64) &&
    decide (s.role t.egress = 3) &&
    decide (t.stale = false) &&
    (match t.sentAt with
    | some a => (
    let hold := ((s.link t.egress).retrain.map (fun r => if r.since = 0 then 0 else s.clk.dtc - r.since)).getD 0
    decide (a + s.rd (K.TWL_TRACKER_TIMEOUT t.egress) + hold ≤ s.clk.dtc))
    | _ => false))
    | _ => false))].all id = true := by
  decide +kernel

/-- For each clause of TransactionsOverTwill that has hypotheses: operands and a state that meet them. -/
theorem witness_TransactionsOverTwill : [
  ( -- mgmtReq
    let s : State := twillUp
    let port : Nat := 0
    let m : TwillMsg := tw 0 false 0
    decide (s.takesMsg port (twillRow m 0 0x01) = true)),
  ( -- mgmtRsp
    let s : State := twillUp
    let port : Nat := 0
    let m : TwillMsg := tw 0 false 0
    decide (s.takesMsg port (twillRow m 0 0x02) = true)),
  ( -- cmp
    let s : State := twillUp
    let port : Nat := 0
    let m : TwillMsg := tw 2 false 0
    decide (s.takesMsg port (twillRow m 2 0x01) = true)),
  ( -- ioCpl
    let s : State := twillUp
    let port : Nat := 0
    let m : TwillMsg := tw 2 false 0
    decide (s.takesMsg port (twillRow m 2 0x02) = true)),
  ( -- data
    let s : State := twillUp
    let port : Nat := 0
    let m : TwillMsg := tw 3 false 1
    decide (s.takesMsg port (twillRow m 3 0x01) = true)),
  ( -- ioCpld
    let s : State := twillUp
    let port : Nat := 0
    let m : TwillMsg := tw 3 false 1
    decide (s.takesMsg port (twillRow m 3 0x02) = true)),
  ( -- memRd
    let s : State := twillUp
    let port : Nat := 0
    let m : TwillMsg := tw 4 true 0
    decide (s.takesMsg port (twillRow m 4 0x01) = true)),
  ( -- memWr
    let s : State := twillUp
    let port : Nat := 0
    let m : TwillMsg := tw 4 true 1
    decide (s.takesMsg port (twillRow m 4 0x02) = true)),
  ( -- memWrPartial
    let s : State := twillUp
    let port : Nat := 0
    let m : TwillMsg := tw 4 true 1
    decide (s.takesMsg port (twillRow m 4 0x03) = true)),
  ( -- atomic
    let s : State := twillUp
    let port : Nat := 0
    let m : TwillMsg := tw 4 true 1
    decide (s.takesMsg port (twillRow m 4 0x04) = true)),
  ( -- io
    let s : State := twillUp
    let port : Nat := 0
    let m : TwillMsg := tw 5 false 1
    decide (s.takesMsg port (twillRow m 5 0x01) = true)),
  ( -- bulkRd
    let s : State := twillUp
    let port : Nat := 0
    let m : TwillMsg := tw 6 true 0
    let x := twillRow m (if m.tc = 7 then 7 else 6) 0x01
    decide (s.takesMsg port x = true)),
  ( -- bulkWr
    let s : State := twillUp
    let port : Nat := 0
    let m : TwillMsg := tw 6 true 1
    let x := twillRow m (if m.tc = 7 then 7 else 6) 0x02
    decide (s.takesMsg port x = true))].all id = true := by
  decide +kernel

/-! ### Ill-formed commands are refused, one for each check -/

/-- A command for each kind of operand that the part does not have. -/
theorem test_wf_refuses : [
    Instr.linkDown 64 false, .hello (.udp 2) 0 msg, .barRegisterWrite (.vf 0 0) 0 0 0, .add (.croft 4) 1 2 3, .add (.thread 512) 1 2 3,
    .drvSramEcc 0 .corrected (.segment 64 0), .drvSramEcc 0 .corrected (.segment 0 1024), .drvSramEcc 0 .corrected (.slice 512),
    .hello .i3c 0 { msg with sequence := 2 ^ 32 }, .commitTimeout 0, .commitTimeout 9, .crfKeySlot 1 9 [], .coldBoot { straps := 0, spread := [16] } false, .vrPgRise 3,
    .selRefclkLoss 16 0 0, .selPllUnlock 64, .partnerEqualization { port := 0, requests := [{ lane := 16, preset := none, coeffs := (0, 0, 0) }] }, .alignmentMarker 0 16 none 0,
    .losAssert 256, .prtDcResponse 0 131072, .fmApiCommand (.vdm 64) { kind := .portState 0, writes := [] }, .fmApiCommand .i3c { kind := .portState 64, writes := [] },
    .retrain 0 0 false false 64, .onChipReserveWait 81, .messageStart 0 8, .sampleCapture 8, .lomSlice 8,
    .memrdSnpdata 0 { hostReq with tag := 65536 }, .biconflict 0 65536 0, .retrySlotAllocate 16 false, .blwSetEcc 0 16384 .corrected false, .tickJobOverrun 7 0,
    .drvEngineFence 1 128 0, .drvCluster 16, .vfSqTail 0 1 4 0, .descriptorFetched 1024 0 [], .cmnTemp 32 0 false, .externalLineChange 7 true 0, .cicClaim 20,
    .tallyOverflow 1024 0, .regionThrottleRelease 0, .regionThrottleRelease 13, .hrdThermal 32 0, .slotGrantRequest 16, .hdmDecoderCommit 0 8 { base := 0, size := 0, dpa := 0, ways := 1, granularity := 256, position := 0 },
    .updateFc 0 8 0 0, .subsystemResetDone 7 [], .mgmtReq 0 { tw 0 false 0 with dst := 65536 }].all (fun c => !c.wf) = true := by decide +kernel

/-- Commands at the ends of the ranges are well-formed. -/
theorem test_wf_accepts : [
    Instr.linkDown 63 false, .hello (.udp 1) 0 msg, .barRegisterWrite (.vf 63 1) 0 0 0, .add (.croft 3) 1 2 3, .add (.thread 511) 1 2 3, .commitTimeout 8,
    .losAssert 255, .cicClaim 19, .regionThrottleRelease 12, .subsystemResetDone 9 [], .mgmtReq 0 (tw 0 false 0)].all (fun c => c.wf) = true := by
  decide +kernel

/-! ### The manual's worked examples, and test vectors of the standards that it names -/

/-- Where subentries lie: the examples that end chapters 05 (L070), 07 (P24), 08 (Commons gang, TFB), 09 (device 9) and 12 (fold 40, P44). -/
theorem test_keys :
    [K.SEL_PRBS_ERRORS 17 2 == key 0x2046 0x0A, K.SEL_MARGIN_RESULT 17 2 == key 0x2047 0x04, K.TWL_TRACKER_TIMEOUT 24 == key 0x2861 0x04,
      K.LOM_INGRESS_RESERVE 64 == key 0x3140 1, K.LOM_INGRESS_RESERVE 78 == key 0x314E 1, K.FLD_DEVICE_ROUTE 9 == key 0x4C10 0x0A,
      K.PDK_READ_RATE 40 == key 0x6028 1, K.PDK_METER_CAPACITY 40 == key 0x6028 0x11, K.PDK_HIST_BIN 40 15 == key 0x6028 0x23,
      K.PDK_PORT_READ_RATE 44 == key 0x643C 1].all id = true := by decide

/-- The SKIP example of chapter 05: fills of 99, 102, 105, 91, 94 and 97 UI lose 2, 2, 3, 2, 2 and 2 units. -/
theorem test_skip_adjust : [99, 102, 105, 91, 94, 97].map skipAdjust = [2, 2, 3, 2, 2, 2] := by decide

/-- The extent of the decode example in chapter 09: fold 12, 1 GiB, target 0x0301, offset 1 GiB, base 24 GiB. -/
theorem test_extent :
    extentOf 5001 ([0x0C, 0, 2, 0, 1, 3, 0, 0, 4, 0, 0, 0, 0x60, 0, 0, 0] : List Byte) =
      { num := 5001, fold := 12, size := 2 ^ 30, target := 0x0301, offset := 2 ^ 30, base := 24 * 2 ^ 30 } := by decide

/-- The host address of that example, by decoder 0 of P08. -/
theorem test_hdm :
    hdmDecode { base := 0x200000000000, size := 2 ^ 43, dpa := 0, ways := 1, granularity := 256, position := 0 } 0x201040001040 =
      some 0x1040001040 := by decide

/-- RFC 3720's check value of CRC-32C (R335, R174 name the polynomial). -/
theorem test_crc32c : crc32c (([0x31, 0x32, 0x33, 0x34, 0x35, 0x36, 0x37, 0x38, 0x39] : List Byte)) = 0xE3069283 := by decide +kernel

/-- FIPS 180-4's digest of "abc" (R47). -/
theorem test_sha384 : beNat (sha384 [0x61, 0x62, 0x63]) =
    0xCB00753F45A35E8BB5A03D699AC65007272C32AB0EDED1631A8B605A43FF5BED8086072BA1E7CC2358BAECA134C825A7 := by decide +kernel

/-- R334, R335: words written out from the formats: FRD g5, g6, g7, g8 in the EXTENT space with CLASS 1 and HALT (the manual's examples),
SUB g3, g1, g2, BNE g1, g2, -1, JAL g31, 16, LATOM of 8 bytes with code 1, and words that no row lists. -/
theorem test_engine_words :
    (
      let x : ExecUnit := .thread 0
      [engineWord x 0xC0A63A01 == some (.frd x { rd := 5, ra := 6, rb := 7, rc := 8, space := 0, flags := 1 }),
        engineWord x 0xFC000000 == some (.halt x),
        engineWord x (3 * 2 ^ 21 + 1 * 2 ^ 16 + 2 * 2 ^ 11 + 1) == some (.sub x 3 1 2),
        engineWord x (0x21 * 2 ^ 26 + 1 * 2 ^ 21 + 2 * 2 ^ 16 + 0xFFFF) == some (.bne x 1 2 0xFFFF),
        engineWord x (0x26 * 2 ^ 26 + 31 * 2 ^ 21 + 16) == some (.jal x 31 16),
        engineWord x (0x1D * 2 ^ 26 + 4 * 2 ^ 21 + 5 * 2 ^ 16 + 6 * 2 ^ 11 + 2 ^ 6 + 1) == some (.latom x 4 5 6 true 1),
        engineWord x (0x0C * 2 ^ 26) == none, engineWord x (2 ^ 10 + 1) == none, engineWord x 0xFC000003 == none].all id) = true := by decide +kernel

/-- R335: an addition wraps, a division by 0 answers all ones, and g0 takes no write. -/
theorem test_register_operations :
    (
      let s := thrOf { regs := [] }
      let of := fun (i : Instr) (r : Reg) => match exec i s with
        | .next t => (t.thread 0).reg r
        | _ => 0
      [of (.addi (.thread 0) 1 2 0xFFFF) 1 == 15, of (.divu (.thread 0) 1 2 0) 1 == BitVec.allOnes 64, of (.addi (.thread 0) 0 2 1) 0 == 0].all id) =
      true := by decide +kernel

/-- R172, R174: a message's header reads back as it was written, with an odd value in every field. -/
theorem test_header :
    (
      let m : TwillMsg := { tw 4 true 1 with
    dst := 0x0901, src := 0x0305, cm := true, rs := true, opcode := 2, hops := 3, tag := 0x1234, rseq := 0x55AA, status := 9, fold := 0x2A5
    len := 1000, addr := 0x600001040, word3 := 64, data := zeros 64 }
      parseMsg (headerBytes m ++ m.data) == m) = true := by decide +kernel

/-- R12: a byte of Commons that nothing has written reads 0 and a written one reads back; writing 0 removes its entry. -/
theorem test_commons :
    [up.memGet 5 == 0, (up.memWrite 4 [1, 2]).memGet 5 == 2, (up.memWrite 4 [1, 2]).cmn.cells.length == 2,
      ((up.memWrite 4 [1, 2]).memWrite 4 [0, 0]).cmn.cells.isEmpty].all id = true := by decide +kernel

end Sys2Proof.Tests
end

section
/-! SUPPORT. The scope of the model: every command completes, and what the part holds right after reset. -/

namespace Sys2Proof.Machine

/-! ### Every command completes -/

/-- Each arm of exec settles the effect of its command (log entry 10), which is the state itself where a precondition does not hold (log
entry 1); no arm faults or refuses (log entry 87). -/
theorem exec_settles (c : Instr) (s : State) : ∃ e, exec c s = .next (settle e) := by
  cases c <;> exact ⟨_, rfl⟩

/-- Settles O3: the state that exec answers is the settled effect of the command. -/
theorem everyCommandCompletes : Obligations.EveryCommandCompletes := by
  intro c s
  obtain ⟨e, he⟩ := exec_settles c s
  exact ⟨settle e, he⟩

/-! ### The state after reset -/

/-- A table that lists nothing reads as its default. -/
@[simp] theorem Sparse.get_nil {α : Type} (d : Nat → α) (k : Nat) : Sparse.get d [] k = d k := rfl

@[simp] theorem State.rd_reset (k : Nat) : State.reset.rd k = dfltNum k := Sparse.get_nil dfltNum k

@[simp] theorem State.rdo_reset (k : Nat) : State.reset.rdo k = dfltOct k := Sparse.get_nil dfltOct k

@[simp] theorem State.version_reset (k : Nat) : State.reset.version k = 0 := Sparse.get_nil (fun _ => 0) k

@[simp] theorem State.memGet_reset (a : Nat) : State.reset.memGet a = memDefault a := Sparse.get_nil memDefault a

/-- Settles O5: the tables of the reset state list nothing, so every key reads its default; the queue, what was sent, the boot step and the
clock are fields that `State.reset` leaves at their defaults (log entries 3, 4, 5, 9, 64 and 88). -/
theorem resetLeavesDefaults : Obligations.ResetLeavesDefaults := by
  have tables (k : Nat) : State.reset.rd k = dfltNum k ∧ State.reset.rdo k = dfltOct k ∧ State.reset.version k = 0 :=
    ⟨State.rd_reset k, State.rdo_reset k, State.version_reset k⟩
  exact ⟨tables, State.memGet_reset, rfl, rfl, rfl, rfl⟩

end Sys2Proof.Machine
end

section
/-! SUPPORT. How a clause of the statements follows: exec settles the operation of the row, and the operation is the effect that the clause names
where the clause's conditions turn its guard away. -/

namespace Sys2Proof.Machine

/-- A command whose operation answers the effect `e`. -/
theorem Gives.of_effect {c : Instr} {s a e : State} (hexec : exec c s = .next (settle a)) (he : a = e) : Gives c s e :=
  gives_of (he ▸ hexec)

/-- An operation that runs under a condition has its effect where the condition holds. -/
theorem when_of_true {b : Bool} (hb : b = true) (f : State → State) (s : State) : when b f s = f s := if_pos hb

/-- A command of a port that exists (R20), whose operation answers the effect `e`. -/
theorem Gives.of_portEffect {c : Instr} {s e : State} {f : State → State} {p : Nat}
    (hexec : exec c s = .next (settle (when (decide (p < 64)) f s))) (hp : p < 64) (he : f s = e) : Gives c s e :=
  .of_effect hexec ((when_of_true (decide_eq_true hp) f s).trans he)

/-- A write of a session to a subentry, where the session may make it and the chapter's effect of it is `e` (R40, R60, R71). -/
theorem Gives.of_write {c : Instr} {s e : State} {n k v : Nat} (hexec : exec c s = .next (settle (writeObject n k v s)))
    (hw : s.mayWrite n k (wire k v)) (he : writeHook n k (wire k v) s = (Status.ok, e)) : Gives c s (s.written n k (wire k v) e) :=
  .of_effect hexec (actionWrite_of_mayWrite hw he)

/-! ### Which chapter takes an immediate write -/

theorem writeHook_hrdFaultAck (n : Nat) (v : List Byte) (s : State) : writeHook n K.HRD_FAULT_ACK v s = s.faultAck (leNat v) := rfl

theorem writeHook_hrdFaultInject (n : Nat) (v : List Byte) (s : State) : writeHook n K.HRD_FAULT_INJECT v s = s.faultInject (leNat v) := rfl

theorem writeHook_pdkHistClear (n : Nat) (v : List Byte) (s : State) : writeHook n K.PDK_HIST_CLEAR v s = s.histClear (leNat v) := rfl

end Sys2Proof.Machine
end

section
/-! SUPPORT. The cycle of the device time counter on an empty queue (R29, R465; log entry 2). -/

namespace Sys2Proof.Machine

theorem step_of_pending_nil {s : State} (h : s.pending = []) : step s = .next (settle s.cycle) := by
  unfold step
  rw [h]

/-- A stopped DTC does not move. -/
theorem State.cycle_of_stopped {s : State} (h : s.clk.running = false) : s.cycle = s := if_pos (by simp [h])

/-- A running DTC moves on, and the tick jobs run where the microsecond changes. -/
theorem State.cycle_of_running {s : State} (h : s.clk.running = true) :
    let s1 : State := { s with clk := { s.clk with dtc := s.dtcAfter.1, frac := s.dtcAfter.2 } }
    s.cycle = if s.dtcAfter.1 / 1000 = s.clk.dtc / 1000 then s1 else s1.tickJobs := if_neg (by simp [h])

/-- Settles O2: the queue is empty, and the cycle goes by whether the DTC runs and whether it reaches a boundary. -/
theorem emptyQueueRunsOneCycle : Obligations.EmptyQueueRunsOneCycle := by
  intro s hq
  refine ⟨step_of_pending_nil hq, State.cycle_of_stopped, fun hrun hsame => ?_, fun hrun hnew => ?_⟩
  · exact (State.cycle_of_running hrun).trans (if_pos hsame)
  · exact (State.cycle_of_running hrun).trans (if_neg hnew)

end Sys2Proof.Machine
end

section
/-! SUPPORT. The commands of the fault collector and of the units that fail (R36, R448, R453, R460, R462). -/

namespace Sys2Proof.Machine

theorem State.isolationReturn_of_acked {s : State} (hack : s.flt.ackTick < s.now) (hready : s.isReady = true) :
    s.isolationReturn = forEach (s.flt.isolated.filter (fun el => s.openRelated 2 el == 0)) State.elemReturn s :=
  if_neg (by simp [hready, hack])

theorem State.bothyWindow_of_stopped {s : State} (h : s.clk.running = false) :
    s.bothyWindow = State.windowTick { s with clk := { s.clk with bothy := boundaryAfter s.clk.bothy } } :=
  if_neg (by simp [h])

theorem State.coreFault_of_served {s : State} {c : Nat} (hc : c < 4) (hfenced : bit s.boot.fencedCores c = false)
    (hserves : s.boot.croftServes = true) : s.coreFault c = ((s.fenceCore c).closeSessionsOf c).raise F.CRF_CORE (elem 10 c) :=
  if_neg (by simp [hc, hfenced, hserves])

theorem State.mgmtFault_of_lt {s : State} {p : Nat} (hp : p < 2) : s.mgmtFault p = (s.mgmtPortFail p).raise F.CRF_MGMT_PORT (elem 13 p) :=
  if_neg (Nat.not_le.2 hp)

/-- Settles O35: the two writes reach Hurdle's objects, and each unit's event passes its guard. -/
theorem faultCommands : Obligations.FaultCommands := by
  refine ⟨?ack, ?inject, ?isolationReturn, ?window, ?core, ?mgmtPort⟩
  case ack =>
    intro s n seq hw e he
    exact .of_write rfl hw ((writeHook_hrdFaultAck _ _ _).trans he)
  case inject =>
    intro s n value hw e he
    exact .of_write rfl hw ((writeHook_hrdFaultInject _ _ _).trans he)
  case isolationReturn =>
    intro s hack hready
    exact .of_effect rfl (State.isolationReturn_of_acked hack hready)
  case window =>
    intro s hstopped
    exact .of_effect rfl (State.bothyWindow_of_stopped hstopped)
  case core =>
    intro s c hc hfenced hserves
    exact .of_effect rfl (State.coreFault_of_served hc hfenced hserves)
  case mgmtPort =>
    intro s p hp
    exact .of_effect rfl (State.mgmtFault_of_lt hp)

end Sys2Proof.Machine
end

section
/-! SUPPORT. The commands of PCIe and CXL links (R36, R100, R145, R160, R162, R205, R386). -/

namespace Sys2Proof.Machine

section
variable {s : State} {p : Nat}

theorem State.linkDownBy_of_up {fatal : Bool} (hp : p < 64) (hdpc : (fatal && !(s.role p == 2 && s.rd (K.PRT_DPC_ENABLE p) == 1)) = false)
    (hrole : s.role p ≠ 3) (hup : s.linkUp p = true) :
    s.linkDownBy p fatal = when (s.role p == 2) (·.aerLog p 5 []) ((s.portDown p).triggerDpc p) :=
  calc s.linkDownBy p fatal
    _ = s.linkDownEvent p := if_neg (ne_true_of_eq_false hdpc)
    _ = _ := if_neg (by simp [hp, hrole, hup])

theorem State.dpcRelease_of_contained (hp : p < 64) (hdpc : bit (s.rd (K.PRT_LINK_STATE p)) 2 = true)
    (hlong : ¬((s.boundTo p).isNone ∧ s.clk.dtc < (s.port p).downAt + 10000)) :
    s.dpcRelease p = ((s.wrBit (K.PRT_LINK_STATE p) 2 false).setLtssm p 0x00).startTraining p :=
  if_neg (not_or.2 ⟨Nat.not_le.2 hp, not_or.2 ⟨by simp [hdpc], hlong⟩⟩)

theorem State.pmeTurnOff_of_up (hpf : s.pfExists p = true) (hup : s.linkUp p = true) :
    s.pmeTurnOff p = (s.putPort p { s.port p with pmeSince := some s.clk.dtc }).pmeSettle p :=
  if_neg (by simp [hpf, hup])

theorem State.pmeToAck_of_waiting (hwait : (s.port p).pmeSince.isSome = true) :
    s.pmeToAck p = when (s.linkUp p) (·.setLtssm p 0x16) (s.pmeDone p) := if_pos hwait

theorem State.pmeTimeout_of_expired {t : Nat} (hwait : (s.port p).pmeSince = some t) (hlate : t + 10000000 ≤ s.clk.dtc) :
    s.pmeTimeout p = s.pmeDone p := by
  unfold State.pmeTimeout
  rw [hwait]
  exact if_neg (Nat.not_lt.2 hlate)

theorem State.controllerFault_of_lt (hp : p < 64) : s.controllerFault p = s.raise F.PRT_CONTROLLER (elemPort p) := if_neg (Nat.not_le.2 hp)

theorem State.l1Enter_of_l0 (hp : p < 64) (hoff : s.role p ≠ 0) (hrole : s.role p ≠ 3) (hup : s.linkUp p = true)
    (hl0 : bits (s.rd (K.PRT_LINK_STATE p)) 23 16 = 0x13) : s.l1Enter p = s.setLtssm p 0x15 :=
  if_neg (by simp [hp, hoff, hrole, hup, hl0])

end

/-- Settles O48: each event of a link passes its guard; LINK_UP's clause names both outcomes of the guard (a fatal LINK_DOWN without DPC is log
entry 45). -/
theorem linkCommands : Obligations.LinkCommands := by
  refine ⟨?up, ?down, ?dpcRelease, ?pmeTurnOff, ?pmeToAck, ?pmeTimeout, ?powerControl, ?controller, ?l1Entry, ?l1Exit, ?updateFc⟩
  case up =>
    intro s p i hp
    exact .of_portEffect rfl hp rfl
  case down =>
    intro s p fatal hp hdpc hrole hup
    exact .of_portEffect rfl hp (State.linkDownBy_of_up hp hdpc hrole hup)
  case dpcRelease =>
    intro s p hp hdpc hlong
    exact .of_portEffect rfl hp (State.dpcRelease_of_contained hp hdpc hlong)
  case pmeTurnOff =>
    intro s p hp hpf hup
    exact .of_portEffect rfl hp (State.pmeTurnOff_of_up hpf hup)
  case pmeToAck =>
    intro s p hp hwait
    exact .of_portEffect rfl hp (State.pmeToAck_of_waiting hwait)
  case pmeTimeout =>
    intro s p hp t hwait hlate
    exact .of_portEffect rfl hp (State.pmeTimeout_of_expired hwait hlate)
  case powerControl =>
    intro s p on hp n hrole hslot hbound
    have hgo : ¬(64 ≤ p ∨ s.role p ≠ 2 ∨ 16 ≤ n ∨ (s.boundTo p).isNone) := by simp [hp, hrole, Nat.not_le.2 hslot, hbound]
    exact .of_portEffect rfl hp (if_neg hgo)
  case controller =>
    intro s p hp
    exact .of_effect rfl (State.controllerFault_of_lt hp)
  case l1Entry =>
    intro s p hp hoff hrole hup hl0
    exact .of_effect rfl (State.l1Enter_of_l0 hp hoff hrole hup hl0)
  case l1Exit =>
    intro s p hp hl1
    exact .of_portEffect rfl hp (if_neg (by simp [hp, hl1]))
  case updateFc =>
    intro s p ch hdr data hp hrole hup
    exact .of_portEffect rfl hp (if_neg (by simp [hp, hrole, hup]))

end Sys2Proof.Machine
end

section
/-! SUPPORT. The transactions of ports (R20, R150, R159, R226, R232, R261). -/

namespace Sys2Proof.Machine

section
variable {s : State} {p : Nat}

theorem State.portResponse_of_up {r : PortResp} (hp : p < 64) (hrole : s.role p ≠ 3) (hup : s.linkUp p = true) (hsec : s.insecure p = false) :
    s.portResponse p r = s.answered p r.tag r.ok r.poisoned r.lengthOk r.data [] :=
  if_neg (by simp [hp, hrole, hup, hsec])

/-- A decoder whose fields are in order is committed (R226). -/
theorem State.hdmCommit_of_sound {n : Nat} {d : HdmDecoder} (hpf : s.pfExists p = true) (hup : s.linkUp p = true) (hcxl : (s.port p).cxl = true)
    (hn : n < 8) (hsize : d.size ≠ 0) (hsizeUnit : d.size % 2 ^ 28 = 0) (hbase : d.base % 2 ^ 28 = 0)
    (hways : [1, 2, 4, 8].contains d.ways = true) (hgran : [256, 512, 1024, 2048, 4096, 8192, 16384].contains d.granularity = true)
    (hpos : d.position < d.ways) : s.hdmCommit p n d = s.putPort p { s.port p with hdm := Sparse.insert n d (s.port p).hdm } := by
  refine if_neg ?_
  rw [hpf, hup, hcxl, hsizeUnit, hbase, hways, hgran]
  simp [hn, hsize, hpos]

end

/-- Settles O49: each transaction passes its guards; a debug access is cut into pieces or refused by Gatepost's answer (log entry 124). -/
theorem portTransactionCommands : Obligations.PortTransactionCommands := by
  refine ⟨?timeout, ?response, ?tlp, ?decoder, ?cache, ?debugAllowed, ?debugDenied⟩
  case timeout =>
    intro s p tag hp t htracker at_ hsent hegress hrole hlate
    refine .of_portEffect rfl hp ?_
    unfold State.trackerTimeout
    rw [htracker]
    dsimp only
    rw [hsent]
    exact if_neg (not_or.2 ⟨not_not_intro hegress, not_or.2 ⟨hrole, Nat.not_lt.2 hlate⟩⟩)
  case response =>
    intro s p r hp hrole hup hsec
    exact .of_portEffect rfl hp (State.portResponse_of_up hp hrole hup hsec)
  case tlp =>
    intro s p t hp
    exact .of_portEffect rfl hp rfl
  case decoder =>
    intro s p n d hp hpf hup hcxl hn hsize hsizeUnit hbase hways hgran hpos
    exact .of_portEffect rfl hp (State.hdmCommit_of_sound hpf hup hcxl hn hsize hsizeUnit hbase hways hgran hpos)
  case cache =>
    intro s p message vppb payload hp hoff hrole hup hsec q device hq hdevice hcxl hqup hqsec
    refine .of_portEffect rfl hp ?_
    have hlink : ¬(64 ≤ p ∨ s.role p = 0 ∨ s.role p = 3 ∨ !s.linkUp p ∨ s.insecure p) := by simp [hp, hoff, hrole, hup, hsec]
    have hprotocol : ¬(64 ≤ q ∨ !(s.port device).cacheDevice ∨ !bit (s.rd (K.PRT_CXL_ENABLE p)) 2) := by
      simp [Nat.not_le.2 hq, hdevice, hcxl]
    have hegress : ¬(!s.linkUp q ∨ s.insecure q) := by simp [hqup, hqsec]
    exact (if_neg hlink).trans ((if_neg hprotocol).trans (if_neg hegress))
  case debugAllowed =>
    intro s write target a len data n who need hn hpinfold hpads hgtp
    have hgo : ¬(n = 0 ∨ s.inPinfold ∨ s.rd K.HRD_PADS_HELD ≠ 0) := by simp [hn, hpinfold, hpads]
    refine .of_effect rfl ((if_neg hgo).trans ?_)
    rw [hgtp]
  case debugDenied =>
    intro s write target a len data n who need kind hn hpinfold hpads d hgtp
    have hgo : ¬(n = 0 ∨ s.inPinfold ∨ s.rd K.HRD_PADS_HELD ≠ 0) := by simp [hn, hpinfold, hpads]
    refine .of_effect rfl ((if_neg hgo).trans ?_)
    rw [hgtp]

end Sys2Proof.Machine
end

section
/-! SUPPORT. The commands of the governor: brake, regions, temperatures, supplies and the power reading (R37, R446, R471 to R476). -/

namespace Sys2Proof.Machine

section
variable {s : State}

theorem State.brakeOff_of_braked (hbrake : s.gov.brake = true) : s.brakeOff = { s with gov := { s.gov with brakeLifted := true } } := if_pos hbrake

theorem State.regionSample_of_over {r : RegionSample} (hover : regionOver r = true) (hzero : r.region ≠ 0) (hregion : r.region ≤ 12)
    (hnew : s.gov.throttled.contains (r.region, r.quantity) = false) :
    s.regionSample r = ({ s with gov := { s.gov with throttled := (r.region, r.quantity) :: s.gov.throttled } }.wrBit K.HRD_THROTTLE_STATE
      (3 + r.region) true).raise F.HRD_REGION (elemSub r.region) := by
  refine if_neg ?_
  rw [hnew]
  simp [hover, hzero, hregion]

theorem State.thermalCritical_of_sensor {sensor : Nat} {temp : Int} (htemp : 1150 ≤ temp) (hsensor : sensor < 32)
    (hin : bit s.boot.sensorsOut sensor = false) :
    s.thermalCritical sensor temp = (s.wr (K.HRD_TEMP sensor) (ofInt 32 temp)).raise F.HRD_THERMAL_CRITICAL elemDevice :=
  if_pos ⟨htemp, hsensor, by simp [hin]⟩

theorem State.refclkFault_of_clocked (hen : s.boot.refclkEn = true) (hreset : s.boot.step ≠ .reset) (hstrapped : s.boot.step ≠ .strapped) :
    s.refclkFault = s.raise F.HRD_REFCLK_LOSS elemDevice :=
  if_neg (by simp [hen, hreset, hstrapped])

theorem State.supplyFault_of_good {rail : Nat} (hrail : rail < 3) (hen : bit s.boot.vrEn rail = true) (hpg : bit s.boot.vrPg rail = true) :
    s.supplyFault rail = State.raise { s with boot := { s.boot with vrPg := putBit s.boot.vrPg rail false } } F.HRD_SUPPLY elemDevice :=
  if_neg (by simp [hrail, hen, hpg])

end

/-- Settles O51: the brake, the power reading and the base update have no guard; every other event passes its own (log entries 20, 38 and 118). -/
theorem throttleCommands : Obligations.ThrottleCommands := by
  refine ⟨?brake, ?brakeRelease, ?region, ?regionRelease, ?thermal, ?stepdown, ?thermalRelease, ?critical, ?refclk, ?supply, ?poll, ?base⟩
  case brake =>
    intro s
    exact .of_effect rfl rfl
  case brakeRelease =>
    intro s hbrake
    exact .of_effect rfl (State.brakeOff_of_braked hbrake)
  case region =>
    intro s r hover hzero hregion hnew
    exact .of_effect rfl (State.regionSample_of_over hover hzero hregion hnew)
  case regionRelease =>
    intro s region hzero hregion
    exact .of_effect rfl (if_neg (by simp [hzero, hregion]))
  case thermal =>
    intro s sensor temp hsensor hin
    exact .of_effect rfl (if_neg (by simp [hsensor, hin]))
  case stepdown =>
    intro s temp hthermal htemp
    exact .of_effect rfl (if_pos ⟨hthermal, htemp⟩)
  case thermalRelease =>
    intro s temp hthermal htemp
    exact .of_effect rfl (if_pos ⟨hthermal, htemp⟩)
  case critical =>
    intro s sensor temp htemp hsensor hin
    exact .of_effect rfl (State.thermalCritical_of_sensor htemp hsensor hin)
  case refclk =>
    intro s hen hreset hstrapped
    exact .of_effect rfl (State.refclkFault_of_clocked hen hreset hstrapped)
  case supply =>
    intro s rail hrail hen hpg
    exact .of_effect rfl (State.supplyFault_of_good hrail hen hpg)
  case poll =>
    intro s powers
    exact .of_effect rfl rfl
  case base =>
    intro s
    exact .of_effect rfl rfl

end Sys2Proof.Machine
end

section
/-! SUPPORT. The commands of the system tick and of Paddock's tables (R29, R31, R311, R314, R316, R320, R323). -/

namespace Sys2Proof.Machine

section
variable {s : State}

theorem State.tickBoundary_of_running (hrun : s.clk.running = true) :
    s.tickBoundary = State.tickJobs { s with clk := { s.clk with dtc := boundaryAfter s.clk.dtc, frac := 0 } } :=
  if_neg (by simp [hrun])

/-- One fold's histogram is cleared bin by bin (R316). -/
theorem State.histClear_of_fold {x : Nat} (hx : x ≤ 1023) :
    s.histClear x = (Status.ok, forEach (List.range 16) (fun s k => s.wr (K.PDK_HIST_BIN x k) 0) s) := if_pos hx

/-- Every fold's histogram is cleared at once (R316). -/
theorem State.histClear_all :
    s.histClear 0xFFFF = (Status.ok, { s with dict := { s.dict with nums := s.dict.nums.filter (fun e =>
      !(0x6000 ≤ keyIdx e.1 && keyIdx e.1 < 0x6400 && 0x14 ≤ keySub e.1 && keySub e.1 ≤ 0x23)) } }) := rfl

end

/-- Settles O57: each event of the tick passes its guard, and a clearing write reaches Paddock's histograms (log entries 12, 61 and 147). -/
theorem tickCommands : Obligations.TickCommands := by
  refine ⟨?boundary, ?overrun, ?lane, ?qsample, ?tally, ?histFold, ?histAll, ?bucket, ?meter⟩
  case boundary =>
    intro s hrun
    exact .of_effect rfl (State.tickBoundary_of_running hrun)
  case overrun =>
    intro s job late hzero hjob htick
    exact .of_effect rfl (if_neg (by simp [hzero, hjob, htick]))
  case lane =>
    intro s g hg
    exact .of_effect rfl (when_of_true (decide_eq_true hg) _ s)
  case qsample =>
    intro s overrun
    exact .of_effect rfl rfl
  case tally =>
    intro s htick hdue hstart hready
    refine .of_effect rfl ((when_of_true htick _ s).trans (if_neg ?_))
    simp [hdue, Nat.not_le.2 hstart, hready]
  case histFold =>
    intro s n value x hx hw
    exact .of_write rfl hw ((writeHook_pdkHistClear _ _ _).trans (State.histClear_of_fold hx))
  case histAll =>
    intro s n value hx hw
    refine .of_write rfl hw ((writeHook_pdkHistClear _ _ _).trans ?_)
    exact (congrArg s.histClear hx).trans State.histClear_all
  case bucket =>
    intro s f b k hf hb hport
    exact .of_effect rfl (if_neg (not_or.2 ⟨Nat.not_le.2 hf, not_or.2 ⟨Nat.not_le.2 hb, hport⟩⟩))
  case meter =>
    intro s f n k both hf hn
    exact .of_effect rfl (if_neg (by simp [hf, hn]))

end Sys2Proof.Machine
end

section
/-! SUPPORT. What every step keeps: each command but POWER_ON has an effect that keeps what `Keeps` speaks of, settling it keeps that too, and
POWER_ON keeps all but the latch. -/

namespace Sys2Proof.Machine

/-! ### Each command -/

/-- The effect that exec settles keeps what `Keeps` speaks of: each command's effect is one operation, and each operation has its law. -/
theorem exec_effect_keeps (s : State) (c : Instr) (hc : c ≠ .powerOn) : ∃ e, exec c s = .next (settle e) ∧ Keeps s e := by
  cases c with
  | powerOn => exact absurd rfl hc
  -- Power-up, resets, self-test and firmware update
  | brownOut => exact ⟨_, rfl, State.brownOut_keeps (.refl s)⟩
  | coldReset => exact ⟨_, rfl, State.coldReset_keeps (.refl s)⟩
  | coldBoot => exact ⟨_, rfl, State.coldBoot_keeps (.refl s)⟩
  | refclkValid => exact ⟨_, rfl, State.refclkValid_keeps (.refl s)⟩
  | vrPgRise => exact ⟨_, rfl, State.railUp_keeps (.refl s)⟩
  | corePllLock => exact ⟨_, rfl, State.pllLock_keeps (.refl s)⟩
  | selftestPhaseB => exact ⟨_, rfl, State.phaseB_keeps (.refl s)⟩
  | selftestPhaseC => exact ⟨_, rfl, State.phaseC_keeps hooks_keeps (.refl s)⟩
  | sysReady => exact ⟨_, rfl, State.ready_keeps (.refl s)⟩
  | uartRecoveryBlock => exact ⟨_, rfl, State.uartBlock_keeps (.refl s)⟩
  | warmReset => exact ⟨_, rfl, State.warmPin_keeps (.refl s)⟩
  | hrdWarmReset | fwStart | fwFinish | fwActivate | fwAbort | crfTallyOvfClear | crfKeyLock | crfFactoryReset | crfTransportEnable |
    gtpViolationRead | lomSampleRead | pdkQsampleRead | pdkTallyRead | loadStart | loadFinish | loadAbort | loadUnload | drvZeroRetry |
    drvHotpageFold | drvProgKeyLock | hrdFaultAck | hrdFaultInject | fldReleaseRequest | gtpLockRequest | blwFlushFold | harvestStart |
    harvestStop | fallowRequest | winteringRequest | hrdPadRelease | pdkHistClear =>
    exact ⟨_, rfl, writeObject_keeps (.refl s)⟩
  | pinfoldUartReport => exact ⟨_, rfl, State.uartReport_keeps (.refl s)⟩
  | crfFwChunk | drvLoadChunk | blwLookupLine => exact ⟨_, rfl, actionWrite_keeps hooks_keeps (.refl s)⟩
  | fwVerifyDone => exact ⟨_, rfl, State.fwVerified_keeps (.refl s)⟩
  | portPerstN => exact ⟨_, rfl, State.portPerst_keeps (.refl s)⟩
  | perstRelease => exact ⟨_, rfl, when_keeps (fun _ => State.perstDeassert_keeps) (.refl s)⟩
  | hotReset => exact ⟨_, rfl, State.hotReset_keeps (.refl s)⟩
  | perstDeassert => exact ⟨_, rfl, State.portPerstEnd_keeps (.refl s)⟩
  | subsystemResetDone => exact ⟨_, rfl, State.subsystemDone_keeps (.refl s)⟩
  -- The interrupt controller and Tally
  | externalLineChange => exact ⟨_, rfl, State.externalLine_keeps (.refl s)⟩
  | cicClaim => exact ⟨_, rfl, State.claimRead_keeps (.refl s)⟩
  | cicComplete => exact ⟨_, rfl, when_keeps (fun _ => State.cicComplete_keeps) (.refl s)⟩
  | cicGlobal => exact ⟨_, rfl, State.cicGlobalWrite_keeps (.refl s)⟩
  | tallyOverflow => exact ⟨_, rfl, when_keeps (fun _ => State.tallyAdd_keeps) (.refl s)⟩
  -- Time and clocks
  | sync => exact ⟨_, rfl, State.ptpSync_keeps (.refl s)⟩
  | delayResp => exact ⟨_, rfl, State.ptpDelay_keeps (.refl s)⟩
  | announce => exact ⟨_, rfl, State.ptpAnnounce_keeps (.refl s)⟩
  | ptpHoldover => exact ⟨_, rfl, State.ptpHoldover_keeps (.refl s)⟩
  | ptpUnlock => exact ⟨_, rfl, State.ptpUnlock_keeps (.refl s)⟩
  | tsPpsIn => exact ⟨_, rfl, State.ppsIn_keeps (.refl s)⟩
  | tsPpsOut => exact ⟨_, rfl, State.ppsOut_keeps (.refl s)⟩
  | followUp => exact ⟨_, rfl, State.ptpFollowUp_keeps (.refl s)⟩
  -- Commons
  | scrubBurst => exact ⟨_, rfl, State.scrubBurst_keeps (.refl s)⟩
  | scrubBurstEnd => exact ⟨_, rfl, State.scrubEnd_keeps (.refl s)⟩
  | cmnScrubBehind => exact ⟨_, rfl, State.scrubBehind_keeps (.refl s)⟩
  | cmnTemp => exact ⟨_, rfl, State.cmnTemp_keeps (.refl s)⟩
  | cmnChannel => exact ⟨_, rfl, State.cmnChannel_keeps (.refl s)⟩
  -- Crook messages, sessions and mailboxes
  | hello | read | write | blockRead | blockWrite | beginTxn | commit | rollback | subscribe => exact ⟨_, rfl, crookEvent_keeps (.refl s)⟩
  | commitApply => exact ⟨_, rfl, when_keeps (fun _ => commitApplyAll_keeps hooks_keeps) (.refl s)⟩
  | commitTimeout => exact ⟨_, rfl, when_keeps (fun _ => commitTimeout_keeps hooks_keeps) (.refl s)⟩
  | notify => exact ⟨_, rfl, when_keeps (fun _ => notifyAll_keeps hooks_keeps) (.refl s)⟩
  | crfAuth => exact ⟨_, rfl, when_keeps (fun _ => State.badMessage_keeps) (.refl s)⟩
  | sessionIdleTimeout => exact ⟨_, rfl, sessionIdle_keeps (.refl s)⟩
  | txnIdleTimeout => exact ⟨_, rfl, when_keeps (fun _ => txnIdle_keeps) (.refl s)⟩
  | pfMbxGo => exact ⟨_, rfl, when_keeps (fun _ => mbxGo_keeps) (.refl s)⟩
  | pfMbxRspRelease | pfMbxNtfRelease => exact ⟨_, rfl, when_keeps (fun _ => State.mbxRelease_keeps) (.refl s)⟩
  | crfKeySlot => exact ⟨_, rfl, when_keeps (fun _ => actionWrite_keeps hooks_keeps) (.refl s)⟩
  | crfMramWear => exact ⟨_, rfl, State.mramWear_keeps (.refl s)⟩
  | barRegisterWrite => exact ⟨_, rfl, State.barWrite_keeps (.refl s) fun _ _ => mbxGo_keeps⟩
  -- Drover
  | dispatch => exact ⟨_, rfl, State.dispatch_keeps (.refl s)⟩
  | loadVerifyDone => exact ⟨_, rfl, State.loadVerified_keeps (.refl s)⟩
  | unloadComplete => exact ⟨_, rfl, State.unloadDone_keeps (.refl s)⟩
  | zeroRelease => exact ⟨_, rfl, State.zeroRelease_keeps (.refl s)⟩
  | hotpagePublish => exact ⟨_, rfl, State.hotpagePublish_keeps (.refl s)⟩
  | drvEngineFence | selReeq | selInject | selPrbsClear | marginRunStart | twlRetrain | twlReenable =>
    exact ⟨_, rfl, when_keeps (fun _ => writeObject_keeps) (.refl s)⟩
  | drvEngine => exact ⟨_, rfl, State.engineFault_keeps (.refl s)⟩
  | drvCluster => exact ⟨_, rfl, State.clusterFault_keeps (.refl s)⟩
  | drvSramEcc => exact ⟨_, rfl, State.sramEcc_keeps (.refl s)⟩
  | copy | fill | zero => exact ⟨_, rfl, State.serviceMove_keeps (.refl s)⟩
  | crc32cDescriptor => exact ⟨_, rfl, State.serviceCrc_keeps (.refl s)⟩
  | compare => exact ⟨_, rfl, State.serviceCompare_keeps (.refl s)⟩
  | clusterRetestDone => exact ⟨_, rfl, State.clusterRetest_keeps (.refl s)⟩
  -- Engine instructions
  | add | sub | and | or | xor | sll | srl | sra | slt | sltu | mul | mulhu | divu | remu | min | max | minu | maxu | crc32c | addi | andi | ori |
    xori | slti | sltiu | lui | shlori =>
    exact ⟨_, rfl, State.alu_keeps (.refl s)⟩
  | clz | popc | bswap | slli | srli | srai => exact ⟨_, rfl, State.aluIf_keeps (.refl s)⟩
  | ld8 | ld16 | ld32 | ld64 | lds8 | lds16 | lds32 => exact ⟨_, rfl, State.load_keeps (.refl s)⟩
  | st8 | st16 | st32 | st64 => exact ⟨_, rfl, State.store_keeps (.refl s)⟩
  | latom => exact ⟨_, rfl, State.latom_keeps (.refl s)⟩
  | beq | bne | blt | bge | bltu | bgeu => exact ⟨_, rfl, State.branch_keeps (.refl s)⟩
  | jal => exact ⟨_, rfl, State.jal_keeps (.refl s)⟩
  | jalr => exact ⟨_, rfl, State.jalr_keeps (.refl s)⟩
  | frd | fwr => exact ⟨_, rfl, State.fabricOp_keeps (.refl s)⟩
  | fatom32 | fatom64 => exact ⟨_, rfl, State.fatom_keeps (.refl s)⟩
  | moveCopy | moveFill | moveZero | moveLocal => exact ⟨_, rfl, State.move_keeps (.refl s)⟩
  | moveChunkComplete => exact ⟨_, rfl, State.chunkComplete_keeps (.refl s)⟩
  | fabricOpComplete => exact ⟨_, rfl, State.opComplete_keeps (.refl s)⟩
  | fwaith => exact ⟨_, rfl, State.fwaith_keeps (.refl s)⟩
  | fpoll => exact ⟨_, rfl, State.fpoll_keeps (.refl s)⟩
  | ffence => exact ⟨_, rfl, State.ffence_keeps (.refl s)⟩
  | leave => exact ⟨_, rfl, State.leave_keeps (.refl s)⟩
  | leaveGrant => exact ⟨_, rfl, State.leaveGrant_keeps (.refl s)⟩
  | csrr => exact ⟨_, rfl, State.csrr_keeps (.refl s)⟩
  | csrw => exact ⟨_, rfl, State.csrw_keeps (.refl s)⟩
  | wait => exact ⟨_, rfl, State.wait_keeps (.refl s)⟩
  | waitWake => exact ⟨_, rfl, State.waitWake_keeps (.refl s)⟩
  | halt => exact ⟨_, rfl, State.halt_keeps (.refl s)⟩
  | trap => exact ⟨_, rfl, State.instr_keeps (.refl s) fun _ _ _ => State.exception_keeps⟩
  | yield => exact ⟨_, rfl, State.instr_keeps (.refl s) fun _ _ _ => State.putThread_keeps⟩
  | eret => exact ⟨_, rfl, State.eret_keeps (.refl s)⟩
  | timeLimit => exact ⟨_, rfl, State.timeLimitHit_keeps (.refl s)⟩
  | illegalEncoding => exact ⟨_, rfl, State.illegal_keeps (.refl s)⟩
  -- The fault collector
  | isolationReturn => exact ⟨_, rfl, State.isolationReturn_keeps (.refl s)⟩
  | bothyWindowAdvance => exact ⟨_, rfl, State.bothyWindow_keeps (.refl s)⟩
  | crfCore => exact ⟨_, rfl, State.coreFault_keeps (.refl s)⟩
  | crfMgmtPort => exact ⟨_, rfl, State.mgmtFault_keeps (.refl s)⟩
  -- Fold and Gatepost
  | releaseCapacityPost => exact ⟨_, rfl, when_keeps (fun _ => State.releasePost_keeps) (.refl s)⟩
  | internalCommit => exact ⟨_, rfl, State.internalCommit_keeps (.refl s)⟩
  | fldExtentEcc => exact ⟨_, rfl, State.extentEcc_keeps (.refl s)⟩
  | fldRouteEcc => exact ⟨_, rfl, State.routeEcc_keeps (.refl s)⟩
  | fldTableEcc => exact ⟨_, rfl, State.tableEcc_keeps (.refl s)⟩
  | fldDirtyWrite => exact ⟨_, rfl, State.dirtyFail_keeps (.refl s)⟩
  | tableRestore => exact ⟨_, rfl, State.restoreEntry_keeps (.refl s)⟩
  | gtpTableEcc => exact ⟨_, rfl, State.gtpEcc_keeps (.refl s)⟩
  -- Host requests and Bellwether's messages
  | memrdSnpdata | memrdSnpinv | meminv | memrdSnpcur | memwr | memwrptl | memclnevct => exact ⟨_, rfl, State.hostRequest_keeps (.refl s)⟩
  | birspi | birsps | birspe => exact ⟨_, rfl, State.hostAnswer_keeps (.refl s)⟩
  | biconflict => exact ⟨_, rfl, State.biConflict_keeps (.refl s)⟩
  | blwBisnpTimeout => exact ⟨_, rfl, State.bisnpTimeout_keeps (.refl s)⟩
  | bisnp => exact ⟨_, rfl, State.deviceBisnp_keeps (.refl s)⟩
  | rdShared | rdOwn | upgrade | rdCur | wrInv | wrInvPartial | atomicCoh | evict | dataS | dataF | dataE | dataM | dataCur | wbM | snpDataI |
    snpDataS | snpDataKeep | bwCmp | gntOwn | snpI | snpS | snpIWb | fwdDone | fwdMissS | fwdMissI | fwdShared | fwdOwn | snpInv | snpData |
    snpCur | mgmtReq | mgmtRsp | cmp | ioCpl | data | ioCpld | memRd | memWr | memWrPartial | atomic | io | bulkRd | bulkWr =>
    exact ⟨_, rfl, when_keeps (fun _ => State.rowMessage_keeps) (.refl s)⟩
  | retrySlotAllocate => exact ⟨_, rfl, State.retryNext_keeps (.refl s)⟩
  | conflictQueueProcess => exact ⟨_, rfl, State.conflictNext_keeps (.refl s)⟩
  | wbMReissue => exact ⟨_, rfl, State.wbReissue_keeps (.refl s)⟩
  | bulkFlushGrant => exact ⟨_, rfl, State.flushGrant_keeps (.refl s)⟩
  | flushEnd => exact ⟨_, rfl, State.flushEnd_keeps (.refl s)⟩
  | blwSetEcc => exact ⟨_, rfl, State.setEcc_keeps (.refl s)⟩
  | setRebuildTimeout => exact ⟨_, rfl, State.rebuildTimeout_keeps (.refl s)⟩
  | blwNearEcc => exact ⟨_, rfl, State.nearEcc_keeps (.refl s)⟩
  -- Reference clocks, quads and lanes
  | selRefclkLoss => exact ⟨_, rfl, when_keeps (fun _ => State.refLoss_keeps) (.refl s)⟩
  | selRefclkRestore => exact ⟨_, rfl, when_keeps (fun _ => State.refRestore_keeps) (.refl s)⟩
  | selPllUnlock => exact ⟨_, rfl, when_keeps (fun _ => State.pllUnlock_keeps) (.refl s)⟩
  | pllRelock => exact ⟨_, rfl, when_keeps (fun _ => State.pllRelock_keeps) (.refl s)⟩
  | partnerEqualization => exact ⟨_, rfl, when_keeps (fun _ => State.reeqAsk_keeps) (.refl s)⟩
  | reeqGrant => exact ⟨_, rfl, when_keeps (fun _ => State.reeqGrant_keeps) (.refl s)⟩
  | reeqGrantTimeout => exact ⟨_, rfl, when_keeps (fun _ h => State.retrainAfterEq_keeps (State.reeqTimeout_keeps h)) (.refl s)⟩
  | reeqEnd => exact ⟨_, rfl, when_keeps (fun _ h => State.retrainAfterEq_keeps (State.reeqEnd_keeps h)) (.refl s)⟩
  | alignmentMarker => exact ⟨_, rfl, when_keeps (fun _ h => State.trainAligned_keeps (State.alignmentMarker_keeps h)) (.refl s)⟩
  | skipBlock => exact ⟨_, rfl, when_keeps (fun _ => State.skipBlock_keeps) (.refl s)⟩
  | selElasticErrors => exact ⟨_, rfl, when_keeps (fun _ => State.elasticError_keeps) (.refl s)⟩
  | losAssert => exact ⟨_, rfl, when_keeps (fun _ => State.losAssert_keeps) (.refl s)⟩
  | losRelease => exact ⟨_, rfl, when_keeps (fun _ => State.losRelease_keeps) (.refl s)⟩
  | marginRunDone => exact ⟨_, rfl, when_keeps (fun _ => State.marginDone_keeps) (.refl s)⟩
  | partnerMarginCommand => exact ⟨_, rfl, when_keeps (fun _ => State.partnerMargin_keeps) (.refl s)⟩
  | checkerLock => exact ⟨_, rfl, when_keeps (fun _ => State.checkerLock_keeps) (.refl s)⟩
  | checkerLockLoss => exact ⟨_, rfl, when_keeps (fun _ => State.checkerLoss_keeps) (.refl s)⟩
  -- Loom
  | onChipReserveWait => exact ⟨_, rfl, when_keeps (fun _ => State.reserveWait_keeps) (.refl s)⟩
  | messageStart => exact ⟨_, rfl, when_keeps (fun _ => State.messageStart_keeps) (.refl s)⟩
  | messageTransmit => exact ⟨_, rfl, when_keeps (fun _ => State.messageTransmit_keeps) (.refl s)⟩
  | lomReseqSkip => exact ⟨_, rfl, State.gapSkip_keeps (.refl s)⟩
  | flowIdle => exact ⟨_, rfl, State.flowIdle_keeps (.refl s)⟩
  | refill => exact ⟨_, rfl, when_keeps (fun _ => State.refill_keeps) (.refl s)⟩
  | sampleCapture => exact ⟨_, rfl, when_keeps (fun _ => State.captureWrite_keeps) (.refl s)⟩
  | lomSlice => exact ⟨_, rfl, State.sliceFail_keeps (.refl s)⟩
  -- The management function
  | fmApiCommand => exact ⟨_, rfl, State.fmApi_keeps (.refl s)⟩
  | getVersion => exact ⟨_, rfl, State.spdmVersion_keeps (.refl s)⟩
  | getCapabilities => exact ⟨_, rfl, State.spdmCapabilities_keeps (.refl s)⟩
  | negotiateAlgorithms => exact ⟨_, rfl, State.spdmAlgorithms_keeps (.refl s)⟩
  | getDigests => exact ⟨_, rfl, State.spdmDigests_keeps (.refl s)⟩
  | getCertificate => exact ⟨_, rfl, State.spdmCertificate_keeps (.refl s)⟩
  | challenge => exact ⟨_, rfl, State.spdmChallenge_keeps (.refl s)⟩
  | getMeasurements => exact ⟨_, rfl, State.spdmMeasurements_keeps (.refl s)⟩
  | keyExchange => exact ⟨_, rfl, State.spdmKeyExchange_keeps (.refl s)⟩
  | finish => exact ⟨_, rfl, State.spdmFinish_keeps (.refl s)⟩
  | heartbeat => exact ⟨_, rfl, State.spdmHeartbeat_keeps (.refl s)⟩
  | keyUpdate => exact ⟨_, rfl, State.spdmKeyUpdate_keeps (.refl s)⟩
  | endSession => exact ⟨_, rfl, State.spdmEnd_keeps (.refl s)⟩
  | ideKm => exact ⟨_, rfl, when_keeps (fun _ => State.ideKm_keeps) (.refl s)⟩
  | prtIdeFail => exact ⟨_, rfl, when_keeps (fun _ => State.ideFail_keeps) (.refl s)⟩
  -- Migration
  | freeze => exact ⟨_, rfl, State.vfFreeze_keeps (.refl s)⟩
  | freezeDone => exact ⟨_, rfl, State.freezeDone_keeps (.refl s)⟩
  | save => exact ⟨_, rfl, State.vfSave_keeps (.refl s)⟩
  | saveDone => exact ⟨_, rfl, State.saveDone_keeps (.refl s)⟩
  | restore => exact ⟨_, rfl, State.vfRestore_keeps (.refl s)⟩
  | restoreDone => exact ⟨_, rfl, State.restoreDone_keeps (.refl s)⟩
  | resume => exact ⟨_, rfl, State.vfResume_keeps (.refl s)⟩
  | rebindOwnerChange => exact ⟨_, rfl, State.rebindOwner_keeps (.refl s)⟩
  | rebindRelease => exact ⟨_, rfl, State.rebindRelease_keeps (.refl s)⟩
  | harvestDone => exact ⟨_, rfl, State.hvDone_keeps (.refl s)⟩
  -- Ports and their partners
  | linkUp => exact ⟨_, rfl, when_keeps (fun _ => State.linkUpEvent_keeps) (.refl s)⟩
  | linkDown => exact ⟨_, rfl, when_keeps (fun _ => State.linkDownBy_keeps) (.refl s)⟩
  | dpcRelease => exact ⟨_, rfl, when_keeps (fun _ => State.dpcRelease_keeps) (.refl s)⟩
  | trackerTimeout => exact ⟨_, rfl, when_keeps (fun _ => State.trackerTimeout_keeps) (.refl s)⟩
  | portResponse => exact ⟨_, rfl, when_keeps (fun _ => State.portResponse_keeps) (.refl s)⟩
  | cxlIoTlp => exact ⟨_, rfl, when_keeps (fun _ => State.tlpArrives_keeps) (.refl s)⟩
  | pmeTurnOff => exact ⟨_, rfl, when_keeps (fun _ => State.pmeTurnOff_keeps) (.refl s)⟩
  | pmeToAck => exact ⟨_, rfl, when_keeps (fun _ => State.pmeToAck_keeps) (.refl s)⟩
  | pmeToAckTimeout => exact ⟨_, rfl, when_keeps (fun _ => State.pmeTimeout_keeps) (.refl s)⟩
  | powerControllerControl => exact ⟨_, rfl, when_keeps (fun _ => State.powerControl_keeps) (.refl s)⟩
  | addCapacityResponse => exact ⟨_, rfl, when_keeps (fun _ => State.addResponse_keeps) (.refl s)⟩
  | prtDcResponse => exact ⟨_, rfl, when_keeps (fun _ => State.dcLate_keeps) (.refl s)⟩
  | releaseDynamicCapacity => exact ⟨_, rfl, when_keeps (fun _ => State.hostRelease_keeps) (.refl s)⟩
  | clearEventRecords => exact ⟨_, rfl, when_keeps (fun _ => State.clearEvents_keeps) (.refl s)⟩
  | deviceDcAdd => exact ⟨_, rfl, when_keeps (fun _ => State.deviceAdd_keeps) (.refl s)⟩
  | deviceForcedRemoval => exact ⟨_, rfl, when_keeps (fun _ => State.deviceRemove_keeps) (.refl s)⟩
  | prtController => exact ⟨_, rfl, State.controllerFault_keeps (.refl s)⟩
  | aspmL1Entry => exact ⟨_, rfl, State.l1Enter_keeps (.refl s)⟩
  | l1ExitComplete => exact ⟨_, rfl, when_keeps (fun _ => State.l1Exit_keeps) (.refl s)⟩
  | hdmDecoderCommit => exact ⟨_, rfl, when_keeps (fun _ => State.hdmCommit_keeps) (.refl s)⟩
  | cxlCacheMessage => exact ⟨_, rfl, when_keeps (fun _ => State.cxlCache_keeps) (.refl s)⟩
  | updateFc => exact ⟨_, rfl, when_keeps (fun _ => State.updateFc_keeps) (.refl s)⟩
  | debugMasterAccess => exact ⟨_, rfl, State.debugAccess_keeps (.refl s)⟩
  -- Power, temperature and power states
  | pwrBrakeN => exact ⟨_, rfl, State.scrubBraked_keeps (State.brakeOn_keeps (.refl s))⟩
  | pwrBrakeRelease => exact ⟨_, rfl, State.brakeOff_keeps (.refl s)⟩
  | hrdRegion => exact ⟨_, rfl, State.regionSample_keeps (.refl s)⟩
  | regionThrottleRelease => exact ⟨_, rfl, State.regionRelease_keeps (.refl s)⟩
  | hrdThermal => exact ⟨_, rfl, State.thermal_keeps (.refl s)⟩
  | budgetStepdown => exact ⟨_, rfl, State.stepdown_keeps (.refl s)⟩
  | thermalRelease => exact ⟨_, rfl, State.thermalRelease_keeps (.refl s)⟩
  | hrdThermalCritical => exact ⟨_, rfl, State.thermalCritical_keeps (.refl s)⟩
  | hrdRefclkLoss => exact ⟨_, rfl, State.refclkFault_keeps (.refl s)⟩
  | hrdSupply => exact ⟨_, rfl, State.supplyFault_keeps (.refl s)⟩
  | pmbusPoll => exact ⟨_, rfl, State.pmbusPoll_keeps (.refl s)⟩
  | governorBaseUpdate => exact ⟨_, rfl, State.baseUpdate_keeps (.refl s)⟩
  | fallowGate => exact ⟨_, rfl, State.fallowGate_keeps (.refl s)⟩
  | fallowWake => exact ⟨_, rfl, State.fallowWake_keeps (.refl s)⟩
  | wakeTimer | wakeEvent => exact ⟨_, rfl, State.wakeEvent_keeps (.refl s)⟩
  | wakeRetry => exact ⟨_, rfl, State.wakeRetry_keeps (.refl s)⟩
  | wakeComplete => exact ⟨_, rfl, State.heldMessages_keeps hooks_keeps (State.wakeComplete_keeps (.refl s))⟩
  -- Slot channels
  | slotGrantRequest => exact ⟨_, rfl, when_keeps (fun _ => State.slotAsk_keeps) (.refl s)⟩
  | slotGrant => exact ⟨_, rfl, when_keeps (fun _ => State.slotGrant_keeps) (.refl s)⟩
  | slotOn => exact ⟨_, rfl, when_keeps (fun _ => State.slotOn_keeps) (.refl s)⟩
  | powerGoodAssert => exact ⟨_, rfl, when_keeps (fun _ => State.pgAssert_keeps) (.refl s)⟩
  | powerGoodRelease => exact ⟨_, rfl, when_keeps (fun _ => State.pgRelease_keeps) (.refl s)⟩
  | currentLimit => exact ⟨_, rfl, when_keeps (fun _ => State.currentLimit_keeps) (.refl s)⟩
  | faultTimerExpiry => exact ⟨_, rfl, when_keeps (fun _ => State.timerExpiry_keeps) (.refl s)⟩
  | shortCircuit => exact ⟨_, rfl, when_keeps (fun _ => State.shortCircuit_keeps) (.refl s)⟩
  | fetOvertemp => exact ⟨_, rfl, when_keeps (fun _ => State.fetOvertemp_keeps) (.refl s)⟩
  | thermistorOutOfRange => exact ⟨_, rfl, when_keeps (fun _ => State.thermistorOut_keeps) (.refl s)⟩
  | rampTimeout => exact ⟨_, rfl, when_keeps (fun _ => State.rampTimeout_keeps) (.refl s)⟩
  | hrdSlotFet => exact ⟨_, rfl, when_keeps (fun _ => State.slotFet_keeps) (.refl s)⟩
  | pwrfailAssert => exact ⟨_, rfl, when_keeps (fun _ => State.pwrfail_keeps) (.refl s)⟩
  | pwrfailRelease => exact ⟨_, rfl, when_keeps (fun _ => State.pwrfailEnd_keeps) (.refl s)⟩
  | slotGateOff => exact ⟨_, rfl, when_keeps (fun _ => State.slotGateOff_keeps) (.refl s)⟩
  | faultTimerStop => exact ⟨_, rfl, when_keeps (fun _ => State.timerStop_keeps) (.refl s)⟩
  -- The Tenant Function Block
  | vfSqTail => exact ⟨_, rfl, onPoolVf_keeps (fun _ _ => State.sqTail_keeps) (.refl s)⟩
  | vfCqHead => exact ⟨_, rfl, onPoolVf_keeps (fun _ _ => State.cqHead_keeps) (.refl s)⟩
  | sqEnable => exact ⟨_, rfl, onPoolVf_keeps (fun _ _ => State.sqEnable_keeps) (.refl s)⟩
  | sqDisable => exact ⟨_, rfl, onPoolVf_keeps (fun _ _ => State.sqDisable_keeps) (.refl s)⟩
  | cqEnable => exact ⟨_, rfl, onPoolVf_keeps (fun _ _ => State.cqEnable_keeps) (.refl s)⟩
  | cqDisable => exact ⟨_, rfl, onPoolVf_keeps (fun _ _ => State.cqDisable_keeps) (.refl s)⟩
  | vfErr => exact ⟨_, rfl, onPoolVf_keeps (fun _ _ => State.vfErrWrite_keeps) (.refl s)⟩
  | pfIntCause => exact ⟨_, rfl, State.pfIntCause_keeps (.refl s)⟩
  | pfVfEvent => exact ⟨_, rfl, State.eventWrite_keeps (.refl s)⟩
  | msixUnmask => exact ⟨_, rfl, when_keeps (fun _ => State.msixUnmask_keeps) (.refl s)⟩
  | descriptorFetch => exact ⟨_, rfl, State.descriptorFetch_keeps (.refl s)⟩
  | descriptorFetched => exact ⟨_, rfl, State.descriptorFetched_keeps (.refl s)⟩
  | nop => exact ⟨_, rfl, State.nopDesc_keeps (.refl s)⟩
  | run => exact ⟨_, rfl, State.runDesc_keeps (.refl s)⟩
  | fence => exact ⟨_, rfl, State.fenceDesc_keeps (.refl s)⟩
  | tfbCplWrite => exact ⟨_, rfl, State.cplWriteFail_keeps (.refl s)⟩
  | cqModTimer => exact ⟨_, rfl, State.cqModTimer_keeps (.refl s)⟩
  | vfEnable => exact ⟨_, rfl, State.vfEnable_keeps (.refl s)⟩
  | majorSelect => exact ⟨_, rfl, State.majorSelect_keeps (.refl s)⟩
  | initiateFlr => exact ⟨_, rfl, when_keeps (fun _ => State.initiateFlr_keeps) (.refl s)⟩
  | flrComplete => exact ⟨_, rfl, State.flrComplete_keeps (.refl s)⟩
  | d3hotEntry | d0Return => exact ⟨_, rfl, when_keeps (fun _ => State.powerWrite_keeps) (.refl s)⟩
  | translationCompletion => exact ⟨_, rfl, State.translationDone_keeps (.refl s)⟩
  | invalidateRequest => exact ⟨_, rfl, when_keeps (fun _ => State.invalidate_keeps) (.refl s)⟩
  | tfbQueueEcc => exact ⟨_, rfl, State.queueEcc_keeps (.refl s)⟩
  | configurationWrite => exact ⟨_, rfl, when_keeps (fun _ => State.configWrite_keeps) (.refl s)⟩
  -- Tick boundaries and Paddock
  | tickBoundary => exact ⟨_, rfl, State.tickBoundary_keeps (.refl s)⟩
  | tickJobOverrun => exact ⟨_, rfl, State.jobOverrun_keeps (.refl s)⟩
  | laneEvaluate => exact ⟨_, rfl, when_keeps (fun _ => State.laneEvaluate_keeps) (.refl s)⟩
  | qsampleCapture => exact ⟨_, rfl, State.qsampleEvent_keeps (.refl s)⟩
  | tallyBlock => exact ⟨_, rfl, when_keeps (fun _ => State.tallyBlock_keeps) (.refl s)⟩
  | pdkBucketEcc => exact ⟨_, rfl, State.bucketEcc_keeps (.refl s)⟩
  | pdkMeterEcc => exact ⟨_, rfl, State.meterEcc_keeps (.refl s)⟩
  -- Twill links and messages
  | dataFlit => exact ⟨_, rfl, when_keeps (fun _ => State.dataFlitRx_keeps) (.refl s)⟩
  | ctrlFlit => exact ⟨_, rfl, when_keeps (fun _ => State.ctrlFlitRx_keeps) (.refl s)⟩
  | ack => exact ⟨_, rfl, when_keeps (fun _ => State.ackRx_keeps) (.refl s)⟩
  | credit => exact ⟨_, rfl, when_keeps (fun _ => State.creditRx_keeps) (.refl s)⟩
  | config => exact ⟨_, rfl, when_keeps (fun _ => State.configRx_keeps) (.refl s)⟩
  | initMsg => exact ⟨_, rfl, when_keeps (fun _ => State.initRx_keeps) (.refl s)⟩
  | eq => exact ⟨_, rfl, when_keeps (fun _ => State.eqRx_keeps) (.refl s)⟩
  | retrain => exact ⟨_, rfl, when_keeps (fun _ => State.retrainRx_keeps) (.refl s)⟩
  | ackTimer => exact ⟨_, rfl, when_keeps (fun _ => State.ackTimer_keeps) (.refl s)⟩
  | creditTimer => exact ⟨_, rfl, when_keeps (fun _ => State.creditTimer_keeps) (.refl s)⟩
  | twlReplayTimer => exact ⟨_, rfl, when_keeps (fun _ => State.replayTimer_keeps) (.refl s)⟩
  | twlLinkDown => exact ⟨_, rfl, when_keeps (fun _ => State.healthDown_keeps) (.refl s)⟩
  | trainingTimeout => exact ⟨_, rfl, when_keeps (fun _ => State.trainingTimeout_keeps) (.refl s)⟩
  | trainingRestart => exact ⟨_, rfl, when_keeps (fun _ => State.trainingRestart_keeps) (.refl s)⟩
  | replayBufferEmpty => exact ⟨_, rfl, when_keeps (fun _ => State.replayEmpty_keeps) (.refl s)⟩
  | retrainHoldTimeout => exact ⟨_, rfl, when_keeps (fun _ => State.holdTimeout_keeps) (.refl s)⟩
  | twlTrackerTimeout => exact ⟨_, rfl, State.twillTrackerTimeout_keeps (.refl s)⟩

theorem exec_keeps {s t : State} {c : Instr} (hc : c ≠ .powerOn) (h : exec c s = .next t) : Keeps s t := by
  obtain ⟨e, he, k⟩ := exec_effect_keeps s c hc
  obtain rfl := Host.Outcome.next.inj (he.symm.trans h)
  exact settle_keeps k

/-! ### POWER_ON -/

/-- The state with the F4 latch cleared: what a step with any command keeps, it keeps from here. -/
def State.unlatched (s : State) : State := { s with flt := { s.flt with latch := false } }

theorem State.inv_unlatched {s : State} (i : s.Inv) : s.unlatched.Inv :=
  ⟨i.nums, i.octs, i.vers, i.cells, i.scratch, i.segs, i.sessions⟩

theorem State.unlatched_keeps (s : State) : Keeps s.unlatched s :=
  ⟨rfl, List.prefix_rfl, Nat.le_refl _, fun h => (nomatch h), fun i => ⟨i.nums, i.octs, i.vers, i.cells, i.scratch, i.segs, i.sessions⟩⟩

/-- A power cycle clears the latch and leaves empty tables (R97). -/
theorem State.powerOn_keeps (s : State) : Keeps s.unlatched s.powerOn := by
  unfold State.powerOn State.coldState
  extract_lets s0 latch m s1
  have h0 : Keeps s s0 := State.slotsOff_keeps (.refl s)
  have h1 : Keeps s.unlatched s1 :=
    ⟨h0.queue, h0.sent, h0.fresh, fun h => (nomatch h), fun _ => ⟨rfl, rfl, rfl, rfl, rfl, rfl, rfl⟩⟩
  clear_value s1
  exact State.govSync_keeps (State.wr_keeps (State.wearLimit_keeps h1))

theorem exec_keeps_unlatched {s t : State} {c : Instr} (h : exec c s = .next t) : Keeps s.unlatched t := by
  by_cases hc : c = .powerOn
  · subst hc
    obtain rfl := Host.Outcome.next.inj h
    exact settle_keeps s.powerOn_keeps
  · exact s.unlatched_keeps.trans (exec_keeps hc h)

/-! ### A step -/

theorem step_of_pending_cons {s : State} {c : Instr} {q : List Instr} (h : s.pending = c :: q) : step s = exec c (s.withQueue q) := by
  unfold step
  rw [h]

/-- A step keeps what `Keeps` speaks of, from the state without the front of its queue and without its latch. -/
theorem step_keeps {s t : State} (h : step s = .next t) : Keeps (s.withQueue s.pending.tail).unlatched t := by
  cases hq : s.pending with
  | nil =>
    obtain rfl := Host.Outcome.next.inj ((step_of_pending_nil hq).symm.trans h)
    have hs : s.withQueue [] = s := by rw [← hq]; rfl
    rw [List.tail_nil, hs]
    exact settle_keeps (State.cycle_keeps s.unlatched_keeps)
  | cons c q =>
    exact exec_keeps_unlatched ((step_of_pending_cons hq).symm.trans h)

/-- Settles O1: the step's match on the queue takes its front. -/
theorem stepTakesTheFrontCommand : Obligations.StepTakesTheFrontCommand := fun _ _ _ hq => step_of_pending_cons hq

/-- Settles O4: every table of the reset state is empty. -/
theorem resetInvariant : Obligations.ResetInvariant := ⟨rfl, rfl, rfl, rfl, rfl, rfl, rfl⟩

/-- Settles O6: neither the queue nor the latch is among the tables, and the step keeps these. -/
theorem stepKeepsInvariant : Obligations.StepKeepsInvariant := by
  intro s t hi hstep
  have hq : (s.withQueue s.pending.tail).Inv := ⟨hi.nums, hi.octs, hi.vers, hi.cells, hi.scratch, hi.segs, hi.sessions⟩
  exact (step_keeps hstep).inv (State.inv_unlatched hq)

/-- Settles O7: queue, outputs and open values are of what a step keeps (log entries 8, 9 and 88). -/
theorem stepKeepsQueueAndOutputs : Obligations.StepKeepsQueueAndOutputs := by
  intro s t hstep
  obtain ⟨hqueue, hsent, hfresh, -, -⟩ := step_keeps hstep
  exact ⟨hqueue, hsent, hfresh⟩

end Sys2Proof.Machine
end

section
/-! SUPPORT. The dictionary, and the requests BEGIN and COMMIT (R38, R40, R42, R61, R64, R66, R408). -/

namespace Sys2Proof.Machine

/-! ### Reading after writing -/

/-- Settles O14: each store is a write of one key, and a run of octets is one write after another. -/
theorem storedValuesReadBack : Obligations.StoredValuesReadBack :=
  ⟨fun s k v j => s.rd_wr k v j, fun s k j v => s.rdo_wro k v j, fun s k j => s.version_bumpVersion k j,
    fun s a l b => State.memGet_memWrite l s a b⟩

/-! ### Sessions -/

section
variable {s : State} {n k : Nat}

theorem State.session_putSession_same (x : Session) (h : n - 1 < s.crf.sessions.length) : (s.putSession n x).session n = x := by
  simp [State.session, State.putSession, h]

theorem State.session_putSession_of_ne (x : Session) (hn : 1 ≤ n) (hk : 1 ≤ k) (h : k ≠ n) : (s.putSession n x).session k = s.session k := by
  have hne : n - 1 ≠ k - 1 := by omega
  simp [State.session, State.putSession, List.getElem?_set_ne hne]

/-! ### BEGIN -/

/-- The state after a BEGIN of session `n` that opens a transaction (R61). -/
def State.begun (s : State) (n : Nat) : State :=
  State.putTxn { s with crf := { s.crf with txnCount := s.crf.txnCount + 1 } } n
    (some { number := s.crf.txnCount + 1, staged := [], lastMsg := s.clk.dtc })

theorem doBegin_of_open {m : CrookMsg} (hbody : m.body = []) (hslot : (s.session n).slot ≠ 0xFF) (hboot : s.booting = false)
    (hopen : (s.session n).txn.isSome = true) : doBegin s n m = (Status.txnOpen, [], s) := by
  simp [doBegin, hbody, hslot, hboot, hopen]

theorem doBegin_of_none {m : CrookMsg} (hbody : m.body = []) (hslot : (s.session n).slot ≠ 0xFF) (hboot : s.booting = false)
    (hnone : (s.session n).txn = none) : doBegin s n m = (Status.ok, leBytes 4 (s.crf.txnCount + 1), s.begun n) := by
  simp [doBegin, hbody, hslot, hboot, hnone, State.begun]

theorem State.session_begun_txn (h : n - 1 < s.crf.sessions.length) :
    ((s.begun n).session n).txn = some { number := s.crf.txnCount + 1, staged := [], lastMsg := s.clk.dtc } :=
  congrArg Session.txn (State.session_putSession_same _ h)

theorem State.session_begun_of_ne (hn : 1 ≤ n) (hk : 1 ≤ k) (h : k ≠ n) : (s.begun n).session k = s.session k :=
  State.session_putSession_of_ne _ hn hk h

/-! ### COMMIT with the V flag -/

variable {m : CrookMsg} {t : Txn} (hbody : m.body = []) (htxn : (s.session n).txn = some t)
include hbody htxn

theorem doCommit_of_barred (H : Hooks) (req : List Byte) (hbar : pinfoldBar s t = some k) :
    doCommit H s n m req = (some (Status.pinfold, commitBody 0 0 (ordinalOf t k) k), s) := by
  simp [doCommit, hbody, htxn, hbar]

theorem doCommit_of_invalid (H : Hooks) (req : List Byte) (hbar : pinfoldBar s t = none) (hinvalid : validate H s n t = .error k) :
    doCommit H s n m req = (some (Status.range, commitBody 0 0 (ordinalOf t k) k), s) := by
  simp [doCommit, hbody, htxn, hbar, hinvalid]

theorem doCommit_of_valid_v (H : Hooks) (req : List Byte) {u : State} (hflag : bit m.flags 2 = true) (hbar : pinfoldBar s t = none)
    (hvalid : validate H s n t = .ok u) : doCommit H s n m req = (some (Status.ok, commitBody 0 0 0 0), s) := by
  simp [doCommit, hbody, htxn, hbar, hvalid, hflag]

end

/-- Settles O9: a BEGIN that opens a transaction counts it in the number that every session's BEGIN starts from. -/
theorem beginNumbersTransactions : Obligations.BeginNumbersTransactions := by
  refine ⟨rfl, fun s n m hinv hn hn8 hbody hslot hboot => ⟨doBegin_of_open hbody hslot hboot, fun hnone => ?_⟩⟩
  have hlen : n - 1 < s.crf.sessions.length := by rw [hinv.sessions]; omega
  rw [doBegin_of_none hbody hslot hboot hnone]
  exact ⟨rfl, rfl, rfl, State.session_begun_txn hlen, fun k hk _ hne => State.session_begun_of_ne hn hk hne⟩

/-- Settles O10: the Pinfold bar comes first, then what validation answers; none of the three outcomes changes the state (log entry 15). -/
theorem commitWithVAppliesNothing : Obligations.CommitWithVAppliesNothing := by
  intro s n m req t hbody hflag htxn
  refine ⟨fun k hbar => ?barred, fun hbar u hvalid => ?valid, fun hbar k hinvalid => ?invalid⟩
  case barred => exact doCommit_of_barred hbody htxn hooks req hbar
  case valid => exact doCommit_of_valid_v hbody htxn hooks req hflag hbar hvalid
  case invalid => exact doCommit_of_invalid hbody htxn hooks req hbar hinvalid

end Sys2Proof.Machine
end

section
/-! SUPPORT. The immediate writes to the objects of Croft and to the read pointers of rings (R41, R51, R53, R56, R60, R76, R77, R113, R514). -/

namespace Sys2Proof.Machine

/-- A write of octets to a subentry, where the session may make it and the chapter's effect of it is `e` (R40, R60, R71). -/
theorem Gives.of_octets {c : Instr} {s e : State} {n k : Nat} {v : List Byte} (hexec : exec c s = .next (settle (actionWrite hooks n k v s)))
    (hw : s.mayWrite n k v) (he : writeHook n k v s = (Status.ok, e)) : Gives c s (s.written n k v e) :=
  .of_effect hexec (actionWrite_of_mayWrite hw he)

/-! ### Which chapter takes the write -/

section
variable (n : Nat) (v : List Byte) (s : State)

theorem writeHook_crfFwCtrl : writeHook n K.CRF_FW_CTRL v s = s.fwCtrl (leNat v) := rfl

theorem writeHook_crfFwChunk : writeHook n K.CRF_FW_CHUNK v s = s.fwChunk v := rfl

theorem writeHook_crfFactoryReset :
    writeHook n K.CRF_FACTORY_RESET v s = only (leNat v == 0x5AFE) { s with mram := { s.mram with factoryReset := true } } := rfl

theorem writeHook_crfKeySlot {slot : Nat} (h1 : 1 ≤ slot) (h8 : slot ≤ 8) :
    writeHook n (K.CRF_KEY_SLOT (slot - 1)) v s = (Status.ok, s.keyWrite slot v) := by
  have hidx : keyIdx (K.CRF_KEY_SLOT (slot - 1)) = 0x1001 := by simp only [keyIdx, K.CRF_KEY_SLOT, key]; omega
  have hsub : keySub (K.CRF_KEY_SLOT (slot - 1)) = slot := by simp only [keySub, K.CRF_KEY_SLOT, key]; omega
  simp only [writeHook, croftWrite, hidx, hsub, if_true]

theorem writeHook_crfKeyLock :
    writeHook n K.CRF_KEY_LOCK v s = (Status.ok, { s with dict := { s.dict with keyLock := s.dict.keyLock.lor (leNat v) } }) := rfl

/-- A session may not clear its own transport (R77). -/
theorem writeHook_crfTransportEnable (hown : bit (leNat v) (transportNum (s.session n).transport) = true) :
    writeHook n K.CRF_TRANSPORT_ENABLE v s = (Status.ok, s.transportWrite (leNat v)) := by
  have hkeeps : ¬(n ≠ 0 ∧ (s.session n).opened ∧ !bit (leNat v) (transportNum (s.session n).transport)) := by simp [hown]
  exact if_neg hkeeps

theorem writeHook_gtpViolationRead :
    writeHook n K.GTP_VIOLATION_READ v s = s.ringRead K.GTP_VIOLATION_READ K.GTP_VIOLATION_WRITE 1024 (leNat v) := rfl

theorem writeHook_lomSampleRead :
    writeHook n K.LOM_SAMPLE_READ v s = s.ringRead K.LOM_SAMPLE_READ K.LOM_SAMPLE_WRITE s.sampleSlots (leNat v) := rfl

theorem writeHook_pdkQsampleRead :
    writeHook n K.PDK_QSAMPLE_READ v s = s.ringRead K.PDK_QSAMPLE_READ K.PDK_QSAMPLE_WRITE s.qsampleSlots (leNat v) := rfl

theorem writeHook_pdkTallyRead :
    writeHook n K.PDK_TALLY_READ v s = s.ringRead K.PDK_TALLY_READ K.PDK_TALLY_WRITE (s.rd K.PDK_TALLY_SLOTS) (leNat v) := rfl

end

/-! ### Firmware update -/

/-- A number that CRF_FW_CTRL carries whole does there what the update's chapter says (R113). -/
theorem Gives.of_fwCtrl {c : Instr} {s e : State} {n v : Nat} (hexec : exec c s = .next (settle (writeObject n K.CRF_FW_CTRL v s)))
    (hv : carried K.CRF_FW_CTRL v = v) (hw : s.mayWrite n K.CRF_FW_CTRL (wire K.CRF_FW_CTRL v)) (he : s.fwCtrl v = (Status.ok, e)) :
    Gives c s (s.written n K.CRF_FW_CTRL (wire K.CRF_FW_CTRL v) e) :=
  .of_write hexec hw ((writeHook_crfFwCtrl n _ s).trans ((congrArg s.fwCtrl hv).trans he))

theorem State.fwVerified_of_received {s : State} (h : s.rd K.CRF_FW_STATUS = 2) :
    s.fwVerified = if bootable s.inactive then (s.wr K.CRF_FW_STATUS 3).wr K.CRF_FW_STAGED_VERSION (Config.imageVersion s.inactive % 2 ^ 32)
      else s.wr K.CRF_FW_STATUS 5 := if_neg (not_not_intro h)

/-- Settles O19: the four numbers of CRF_FW_CTRL are carried whole, the two other writes reach their object, and an image under verification passes
the guard of its event. -/
theorem firmwareUpdateCommands : Obligations.FirmwareUpdateCommands := by
  refine ⟨?start, ?chunk, ?finish, ?verified, ?activate, ?abort, ?factoryReset⟩
  case start =>
    intro s n hw e he
    exact .of_fwCtrl rfl (by decide) hw he
  case chunk =>
    intro s n chunk hw e he
    exact .of_octets rfl hw ((writeHook_crfFwChunk n chunk s).trans he)
  case finish =>
    intro s n hw e he
    exact .of_fwCtrl rfl (by decide) hw he
  case verified =>
    intro s hstatus
    exact .of_effect rfl (State.fwVerified_of_received hstatus)
  case activate =>
    intro s n hw e he
    exact .of_fwCtrl rfl (by decide) hw he
  case abort =>
    intro s n hw e he
    exact .of_fwCtrl rfl (by decide) hw he
  case factoryReset =>
    intro s n value hvalue hw
    exact .of_write rfl hw ((writeHook_crfFactoryReset n _ s).trans (if_pos (beq_iff_eq.2 hvalue)))

/-! ### Keys, transports and read pointers -/

/-- Settles O26: each write reaches its object; a key's subentry names its slot, and the session's own transport stays enabled. -/
theorem keyPermissionAndPointerWrites : Obligations.KeyPermissionAndPointerWrites := by
  refine ⟨?key, ?lock, ?transport, ?violation, ?sample, ?qsample, ?tally⟩
  case key =>
    intro s n slot key h1 h8 hw
    have hexec : exec (.crfKeySlot n slot key) s = .next (settle (actionWrite hooks n (K.CRF_KEY_SLOT (slot - 1)) key s)) :=
      congrArg (fun e => Host.Outcome.next (settle e)) (when_of_true (decide_eq_true ⟨h1, h8⟩) _ s)
    exact .of_octets hexec hw (writeHook_crfKeySlot n key s h1 h8)
  case lock =>
    intro s n mask hw
    exact .of_write rfl hw (writeHook_crfKeyLock n _ s)
  case transport =>
    intro s n value hown hw
    exact .of_write rfl hw (writeHook_crfTransportEnable n _ s hown)
  case violation =>
    intro s n value hw e he
    exact .of_write rfl hw ((writeHook_gtpViolationRead n _ s).trans he)
  case sample =>
    intro s n value hw e he
    exact .of_write rfl hw ((writeHook_lomSampleRead n _ s).trans he)
  case qsample =>
    intro s n value hw e he
    exact .of_write rfl hw ((writeHook_pdkQsampleRead n _ s).trans he)
  case tally =>
    intro s n value hw e he
    exact .of_write rfl hw ((writeHook_pdkTallyRead n _ s).trans he)

end Sys2Proof.Machine
end

section
/-! SUPPORT. Crook messages, sessions and mailboxes (R46, R52 to R56, R60 to R70, R74, R361). -/

namespace Sys2Proof.Machine

/-! ### Requests of an open session -/

section
variable {s : State} {tr : Transport} {src op : Nat} {m : CrookMsg}

theorem State.submitted_pwr : (s.submitted tr op m).pwr = s.pwr := by cases tr <;> rfl

/-- An open session lies in the table, so that a write to it is read back. -/
theorem State.session_lt_of_opened {n : Nat} (h : (s.session n).opened = true) : n - 1 < s.crf.sessions.length := by
  refine Nat.lt_of_not_le fun hge => ?_
  have hdefault : s.session n = {} := by
    rw [State.session, List.getD_eq_getElem?_getD, List.getElem?_eq_none hge, Option.getD_none]
  rw [hdefault] at h
  exact Bool.noConfusion h

/-- What the new request of a session finds there (R55, R56, R68). -/
theorem State.session_atRequest (h : (s.session m.session).opened = true) :
    ((s.atRequest tr m).session m.session).slot = (s.session m.session).slot ∧
    ((s.atRequest tr m).session m.session).transport = (s.session m.session).transport := by
  have hcount : (s.count 0xB001 (transportNum tr)).crf = s.crf := countN_crf s _ _ 1
  have hsession : (s.count 0xB001 (transportNum tr)).session m.session = s.session m.session := by simp only [State.session, hcount]
  have hlen : m.session - 1 < (s.count 0xB001 (transportNum tr)).crf.sessions.length := hcount ▸ State.session_lt_of_opened h
  unfold State.atRequest
  extract_lets s1 x
  rw [State.session_putSession_same _ hlen, ← hsession]
  exact ⟨rfl, rfl⟩

/-- The checks of a session's request that come before its handler (R58, R69): what follows where its form is refused, where its permission is, and
where neither is. -/
def checkedRequest (s : State) (op : Nat) (m : CrookMsg) (unsupported barred handled : State) : State :=
  if op < 2 ∨ 9 < op ∨ m.reserved ≠ 0 ∨ m.flags.land (opFlags op) ≠ m.flags then unsupported
  else if (s.session m.session).slot ≠ 0xFF ∧ !bit (s.perm m.session) (transportBit (s.session m.session).transport) then barred
  else handled

/-- A new request of an open session passes them. -/
theorem checkedRequest_of_asks (h : s.asks tr src op m = true) (h2 : 2 ≤ op) (h9 : op ≤ 9) (unsupported barred handled : State) :
    checkedRequest (s.atRequest tr m) op m unsupported barred handled = handled := by
  simp only [State.asks, Bool.and_eq_true, decide_eq_true_eq, beq_iff_eq, Bool.or_eq_true, Session.heardOn] at h
  obtain ⟨⟨⟨⟨⟨⟨⟨⟨⟨-, hopened⟩, ⟨htransport, -⟩, -⟩, -⟩, -⟩, -⟩, -⟩, hreserved⟩, hflags⟩, hmay⟩ := h
  obtain ⟨hslot, htr⟩ := State.session_atRequest (tr := tr) hopened
  refine (if_neg ?form).trans (if_neg ?permission)
  case form => exact not_or.2 ⟨Nat.not_lt.2 h2, not_or.2 ⟨Nat.not_lt.2 h9, not_or.2 ⟨not_not_intro hreserved, not_not_intro hflags⟩⟩⟩
  case permission =>
    rintro ⟨hkey, hbit⟩
    rw [hslot] at hkey
    rw [htr, htransport, hmay.resolve_left hkey] at hbit
    exact absurd hbit (by decide)

/-- A message that Croft hears, of an opcode other than HELLO's, and that is a new request of an open session, is handled (R54, R55). -/
theorem Gives.of_request {c : Instr} {unsupported barred e : State} (hexec : exec c s = .next (settle (crookEvent tr src op m s)))
    (hhears : s.hears tr src op m = true) (hasks : (s.submitted tr op m).asks tr src op m = true) (h2 : 2 ≤ op) (h9 : op ≤ 9)
    (he : let t := (s.submitted tr op m).atRequest tr m
      execute hooks t m.session op m (msgBytes op m) = checkedRequest t op m unsupported barred e) : Gives c s e := by
  refine .of_effect hexec ?_
  rw [crookEvent_of_hears hhears]
  simp only [State.hears, Bool.and_eq_true, beq_iff_eq] at hhears
  obtain ⟨⟨⟨⟨-, hserves⟩, haddressed⟩, hawake⟩, hlength⟩ := hhears
  have hsleep : (s.submitted tr op m).pwr.sleep = .awake := (congrArg Power.sleep State.submitted_pwr).trans hawake
  rw [crookReceive_of_asks hasks hserves haddressed hsleep hlength (by omega)]
  exact he.trans (checkedRequest_of_asks hasks h2 h9 unsupported barred e)

end

/-- Settles O24: Croft hears the message, the request passes the checks, and its opcode names the handler, in each clause by unfolding `execute` at
the opcode (log entries 14, 23, 25 and 145). -/
theorem crookRequests : Obligations.CrookRequests := by
  refine ⟨?read, ?write, ?blockRead, ?blockWrite, ?begin, ?subscribe, ?commit, ?rollback⟩
  all_goals
    intro s tr src m hhears hasks
    exact .of_request rfl hhears hasks (by decide) (by decide) rfl

/-! ### Sessions, waiting commits and mailboxes -/

section
variable {s : State} {n p : Nat}

/-- A HELLO that Croft hears (R52). -/
theorem crookEvent_hello {tr : Transport} {src : Nat} {m : CrookMsg} (h : s.hears tr src 1 m = true) :
    crookEvent tr src 1 m s = crookHello hooks (s.submitted tr 1 m) tr src m := by
  refine (crookEvent_of_hears h).trans ?_
  simp only [State.hears, Bool.and_eq_true, beq_iff_eq] at h
  obtain ⟨⟨⟨⟨-, hserves⟩, haddressed⟩, hawake⟩, hlength⟩ := h
  simp [crookReceive, hserves, haddressed, hlength, State.submitted_pwr, hawake]

theorem commitTimeout_of_late {w : WaitCommit} (hwait : (s.session n).waiting = some w)
    (hlate : w.arrived + s.rd K.CRF_COMMIT_TIMEOUT ≤ s.clk.dtc) :
    commitTimeout hooks n s = endCommit hooks (s.bump K.CRF_COMMIT_TIMEOUTS) n Status.timeout (commitBody 0 0 0 0) := by
  unfold commitTimeout
  rw [hwait]
  exact if_pos hlate

theorem sessionIdle_of_idle (h1 : 1 ≤ n) (h8 : n ≤ 8) (hopened : (s.session n).opened = true)
    (hidle : (s.session n).lastMsg + s.rd K.CRF_SESSION_IDLE ≤ s.clk.dtc) : sessionIdle n s = s.putSession n {} :=
  if_pos ⟨h1, h8, hopened, hidle⟩

theorem txnIdle_of_idle {t : Txn} (htxn : (s.session n).txn = some t) (hwait : (s.session n).waiting = none)
    (hidle : t.lastMsg + s.rd K.CRF_TXN_IDLE ≤ s.clk.dtc) : txnIdle n s = s.putSession n { s.session n with txn := none } := by
  unfold txnIdle
  simp only [htxn, hwait]
  exact if_pos hidle

theorem mbxGo_of_free (hbusy : bit (s.mailbox p).ctrl 1 = false) (hready : bit (s.mailbox p).ctrl 2 = false)
    (hserves : s.serves (.mbx p) = true) :
    let x := s.mailbox p
    let b := fit x.reqLen x.req
    mbxGo p s =
      crookReceive hooks (.mbx p) 0 (field b 3 1) (mbxMsg b) (s.putMailbox p { x with ctrl := putBit (putBit x.ctrl 1 true) 3 false }) :=
  if_neg (by simp [hbusy, hready, hserves])

theorem State.mramWear_of_limit (hlimit : s.rd K.CRF_MRAM_PASS_LIMIT ≤ s.mram.passes) (htold : s.crf.wearReported < 2) :
    s.mramWear = State.raise { s.wr K.CRF_PERSIST_ENABLE 0 with crf := { (s.wr K.CRF_PERSIST_ENABLE 0).crf with wearReported := 2 } }
      F.CRF_MRAM_WEAR (elemSub 11) := if_pos ⟨hlimit, htold⟩

theorem State.mramWear_of_warning (hbelow : s.mram.passes < s.rd K.CRF_MRAM_PASS_LIMIT) (hwarning : 800000000 ≤ s.mram.passes)
    (htold : s.crf.wearReported = 0) :
    s.mramWear = State.raise { s with crf := { s.crf with wearReported := 1 } } F.CRF_MRAM_WEAR (elemSub 11) :=
  (if_neg fun h => Nat.not_le.2 hbelow h.1).trans (if_pos ⟨hwarning, htold⟩)

end

section
variable {s : State} {f : Func} {offset size value : Nat} {go : Nat → State → State} (hfits : barFits offset size = true)
include hfits

theorem State.barWrite_of_dword (hsize : size = 4) : s.barWrite go f offset size value = s.barDword go f offset (value % 2 ^ 32) :=
  (if_neg (by simp [hfits])).trans (if_pos hsize)

theorem State.barWrite_of_qword (hsize : size ≠ 4) :
    s.barWrite go f offset size value = (s.barDword go f offset (bits value 31 0)).barDword go f (offset + 4) (bits value 63 32) :=
  (if_neg (by simp [hfits])).trans (if_neg hsize)

end

/-- A command of one of the eight sessions (R51), whose operation answers the effect `e`. -/
theorem Gives.of_sessionEffect {c : Instr} {s e : State} {f : State → State} {n : Nat}
    (hexec : exec c s = .next (settle (when (decide (1 ≤ n ∧ n ≤ 8)) f s))) (h1 : 1 ≤ n) (h8 : n ≤ 8) (he : f s = e) : Gives c s e :=
  .of_effect hexec ((when_of_true (decide_eq_true ⟨h1, h8⟩) f s).trans he)

/-- Settles O25: each event finds what it waits for, and each write to a mailbox or a BAR register its function (log entries 21 and 110). -/
theorem crookSessionCommands : Obligations.CrookSessionCommands := by
  refine ⟨?hello, ?apply, ?timeout, ?notify, ?auth, ?sessionIdle, ?txnIdle, ?go, ?rspRelease, ?ntfRelease, ?wearLimit, ?wearWarning, ?dword,
    ?qword⟩
  case hello =>
    intro s tr src m hhears
    exact .of_effect rfl (crookEvent_hello hhears)
  case apply =>
    intro s htick
    exact .of_effect rfl (when_of_true htick _ s)
  case timeout =>
    intro s n h1 h8 w hwait hlate
    exact .of_sessionEffect rfl h1 h8 (commitTimeout_of_late hwait hlate)
  case notify =>
    intro s htick
    exact .of_effect rfl (when_of_true htick _ s)
  case auth =>
    intro s n hserves
    exact .of_effect rfl (when_of_true hserves _ s)
  case sessionIdle =>
    intro s n h1 h8 hopened hidle
    exact .of_effect rfl (sessionIdle_of_idle h1 h8 hopened hidle)
  case txnIdle =>
    intro s n h1 h8 t htxn hwait hidle
    exact .of_sessionEffect rfl h1 h8 (txnIdle_of_idle htxn hwait hidle)
  case go =>
    intro s p hpf x hbusy hready hserves b
    exact .of_effect rfl ((when_of_true hpf _ s).trans (mbxGo_of_free hbusy hready hserves))
  case rspRelease =>
    intro s p hpf
    exact .of_effect rfl (when_of_true hpf _ s)
  case ntfRelease =>
    intro s p hpf
    exact .of_effect rfl (when_of_true hpf _ s)
  case wearLimit =>
    intro s hlimit htold
    exact .of_effect rfl (State.mramWear_of_limit hlimit htold)
  case wearWarning =>
    intro s hbelow hwarning htold
    exact .of_effect rfl (State.mramWear_of_warning hbelow hwarning htold)
  case dword =>
    intro s f offset size value hfits hsize
    exact .of_effect rfl (State.barWrite_of_dword hfits hsize)
  case qword =>
    intro s f offset size value hfits hsize
    exact .of_effect rfl (State.barWrite_of_qword hfits hsize)

end Sys2Proof.Machine
end

section
/-! SUPPORT. The steps of the boot: supplies, clocks, self-tests and SYS_READY (R83, R84, R91, R93, R97, R99, R100, R103 to R105). -/

namespace Sys2Proof.Machine

section
variable {s : State}

theorem State.refclkValid_of_strapped (h : s.boot.step = .strapped) :
    s.refclkValid = { s with boot := { s.boot with step := .clocked, vrEn := putBit s.boot.vrEn 2 true } } := if_neg (not_not_intro h)

/-! ### Power-good of a rail (R91) -/

section
variable {rail : Nat} (hrail : rail < 3) (hen : bit s.boot.vrEn rail = true) (hpg : bit s.boot.vrPg rail = false)
include hrail hen hpg

/-- An enabled rail that was not good is marked good, and the boot step says what follows. -/
theorem State.railUp_of_enabled :
    let b : Boot := { s.boot with vrPg := putBit s.boot.vrPg rail true }
    s.railUp rail =
      if rail = 2 ∧ s.boot.step = .clocked then { s with boot := { b with step := .pllSupply, vrEn := putBit b.vrEn 0 true } }
      else if rail = 0 ∧ s.boot.step = .pllSupply then { s with boot := { b with step := .coreSupply, vrEn := putBit b.vrEn 1 true } }
      else if rail = 1 then { s with boot := b }
      else s :=
  if_neg (by simp [hrail, hen, hpg])

/-- A rail whose turn has come enables the next one; the lane supplies have no turn and no successor. -/
theorem State.railUp_of_turn (hturn : rail = 2 ∧ s.boot.step = .clocked ∨ rail = 0 ∧ s.boot.step = .pllSupply ∨ rail = 1) :
    let b : Boot := { s.boot with vrPg := putBit s.boot.vrPg rail true }
    s.railUp rail =
      if rail = 2 then { s with boot := { b with step := .pllSupply, vrEn := putBit b.vrEn 0 true } }
      else if rail = 0 then { s with boot := { b with step := .coreSupply, vrEn := putBit b.vrEn 1 true } }
      else { s with boot := b } := by
  rw [State.railUp_of_enabled hrail hen hpg]
  obtain ⟨rfl, hstep⟩ | ⟨rfl, hstep⟩ | rfl := hturn
  · exact if_pos ⟨rfl, hstep⟩
  · exact (if_neg fun h => absurd h.1 (by decide)).trans (if_pos ⟨rfl, hstep⟩)
  · rfl

end

/-! ### CORE_PLL_LOCK (R99, R112) -/

variable {fails : List TestFail}

theorem State.pllLock_of_coreSupply (h : s.boot.step = .coreSupply) :
    s.pllLock fails = State.phaseA { s with clk := { running := true }, boot := { s.boot with step := .phaseA } } fails :=
  (if_neg (by simp [h])).trans (if_neg (not_not_intro h))

theorem State.pllLock_of_pinfold (h : s.boot.step = .pinfold) (hstopped : s.clk.running = false) :
    s.pllLock fails = { s with clk := { running := true } } := if_pos ⟨h, by simp [hstopped]⟩

/-! ### Phase B (R97, R103, R104) -/

/-- In the Pinfold state the tests that a warm reset left due are run (R114; log entry 108). -/
theorem State.phaseB_of_testsDue (hpinfold : s.inPinfold = true) (hdue : s.boot.testsDue = true) (hrunning : s.clk.running = true) :
    s.phaseB fails = s.pinfoldTests fails := if_pos (by simp [hpinfold, hdue, hrunning])

end

/-- Settles O17: each event of the boot finds the step that it ends (log entries 30, 35, 39 and 108). -/
theorem powerUpCommands : Obligations.PowerUpCommands := by
  refine ⟨?powerOn, ?brownOut, ?coldReset, ?coldBoot, ?refclk, ?rail, ?pll, ?pllPinfold, ?phaseB, ?pinfoldTests, ?phaseC, ?ready, ?uart⟩
  case powerOn =>
    intro s
    exact .of_effect rfl rfl
  case brownOut =>
    intro s
    exact .of_effect rfl rfl
  case coldReset =>
    intro s
    exact .of_effect rfl rfl
  case coldBoot =>
    intro s board testEn straps spread hstep s1
    exact .of_effect rfl (if_neg (not_not_intro hstep))
  case refclk =>
    intro s hstep
    exact .of_effect rfl (State.refclkValid_of_strapped hstep)
  case rail =>
    intro s rail hrail hen hpg b hturn
    exact .of_effect rfl (State.railUp_of_turn hrail hen hpg hturn)
  case pll =>
    intro s fails hstep
    exact .of_effect rfl (State.pllLock_of_coreSupply hstep)
  case pllPinfold =>
    intro s fails hstep hstopped
    exact .of_effect rfl (State.pllLock_of_pinfold hstep hstopped)
  case phaseB =>
    intro s fails hstep hrail hran hout mine s1 s2
    have hnotDue : ¬(s.inPinfold && s.boot.testsDue && s.clk.running) = true := by simp [hout]
    have hmeets : ¬(s.boot.step ≠ .phaseA ∨ !bit s.boot.vrPg 1) := by simp [hstep, hrail]
    refine .of_effect rfl ((if_neg hnotDue).trans ((if_neg hmeets).trans ?_))
    rw [if_pos hran]
    exact if_neg (not_not_intro hstep)
  case pinfoldTests =>
    intro s fails hpinfold hdue hrunning
    exact .of_effect rfl (State.phaseB_of_testsDue hpinfold hdue hrunning)
  case phaseC =>
    intro s H
    exact .of_effect rfl rfl
  case ready =>
    intro s hstep hboundary s1 s2 s3 s4
    exact .of_effect rfl (if_neg (not_or.2 ⟨not_not_intro hstep, Nat.not_le.2 hboundary⟩))
  case uart =>
    intro s b crc hstep
    exact .of_effect rfl (if_neg (not_not_intro hstep))

end Sys2Proof.Machine
end

section
/-! SUPPORT. The reset pins, and the resets of a port and of a subsystem (R86, R87, R94, R96, R98, R110, R161, R449). -/

namespace Sys2Proof.Machine

theorem writeHook_hrdWarmReset (n : Nat) (v : List Byte) (s : State) :
    writeHook n K.HRD_WARM_RESET v s = only (leNat v == 0x7A3C) { s with boot := { s.boot with warmRequest := true } } := rfl

section
variable {s : State} {p : Nat}

theorem State.warmPin_of_awake (h : s.pwr.sleep = .awake) : s.warmPin = s.warmReset 3 := if_pos h

theorem State.portPerst_of_heard (hpf : s.pfExists p = true) (hpads : s.rd K.HRD_PADS_HELD = 0) (hout : s.inPinfold = false)
    (hrole : (s.port p).newRole = false) :
    let s1 : State := { s with boot := { s.boot with perstIn := p :: s.boot.perstIn.filter (· != p) } }
    s.portPerst p = (s1.portReset p).setLtssm p 0x00 := if_neg (by simp [hpf, hpads, hout, hrole])

/-- A downstream port's 100 ms are over (R87). -/
theorem State.perstDeassert_of_due {e : Nat × Nat} (hwait : s.slots.perst.find? (fun e => e.1 == p) = some e) (hrole : s.role p = 2)
    (hready : s.perstReady p = true) (hlate : e.2 + 100000000 ≤ s.clk.dtc) (hpads : s.rd K.HRD_PADS_HELD = 0) :
    let s1 := s.perstFree p
    s.perstDeassert p = State.emit { s1 with boot := { s1.boot with perstHigh := p :: s1.boot.perstHigh } } (.perstPin p true) := by
  unfold State.perstDeassert
  rw [hwait]
  exact if_neg (by simp [hrole, hready, Nat.not_lt.2 hlate, hpads])

theorem State.hotReset_of_up (hp : p < 64) (hoff : s.role p ≠ 0) (htwill : s.role p ≠ 3) (hup : s.linkUp p = true) :
    s.hotReset p = ((s.portReset p).setLtssm p 0x1B).startTraining p := if_neg (by simp [hp, hoff, htwill, hup])

theorem State.portPerstEnd_of_low (hlow : s.boot.perstIn.contains p = true) (hpads : s.rd K.HRD_PADS_HELD = 0) :
    s.portPerstEnd p = State.startTraining { s with boot := { s.boot with perstIn := s.boot.perstIn.filter (· != p) } } p :=
  if_neg (not_or.2 ⟨by rw [hlow]; decide, not_not_intro hpads⟩)

end

/-- Settles O18: each pin and each port or subsystem passes the guard of its event; the write to HRD_WARM_RESET reaches Hurdle's object with the
number that it answers to (log entries 35 and 36). -/
theorem resetPinCommands : Obligations.ResetPinCommands := by
  refine ⟨?warmReset, ?hrdWarmReset, ?report, ?portPerst, ?perstRelease, ?hotReset, ?perstDeassert, ?subsystem⟩
  case warmReset =>
    intro s hawake
    exact .of_effect rfl (State.warmPin_of_awake hawake)
  case hrdWarmReset =>
    intro s n value hvalue hw
    exact .of_write rfl hw ((writeHook_hrdWarmReset n _ s).trans (if_pos (beq_iff_eq.2 hvalue)))
  case report =>
    intro s hstep d
    exact .of_effect rfl (if_neg (not_not_intro hstep))
  case portPerst =>
    intro s p hpf hpads hout hrole s1
    exact .of_effect rfl (State.portPerst_of_heard hpf hpads hout hrole)
  case perstRelease =>
    intro s p hp e hwait hrole hready hlate hpads s1
    exact .of_portEffect rfl hp (State.perstDeassert_of_due hwait hrole hready hlate hpads)
  case hotReset =>
    intro s p hp hoff htwill hup
    exact .of_effect rfl (State.hotReset_of_up hp hoff htwill hup)
  case perstDeassert =>
    intro s p hlow hpads
    exact .of_effect rfl (State.portPerstEnd_of_low hlow hpads)
  case subsystem =>
    intro s n fails hreset s1
    exact .of_effect rfl (if_neg (by rw [hreset]; decide))

end Sys2Proof.Machine
end

section
/-! SUPPORT. The F4 latch (R97, R114, R450): an F4 event sets it, commands keep it, and a cold reset leaves it clear exactly where power was lost. -/

namespace Sys2Proof.Machine

section
variable (s : State)

/-! ### What leaves the collector as it is -/

@[simp] theorem State.cicLevel_flt (i : Nat) (b : Bool) : (s.cicLevel i b).flt = s.flt := by
  unfold State.cicLevel
  split
  case isTrue => rfl
  case isFalse =>
    dsimp only
    split
    case isTrue edge =>
      split
      · split <;> rfl
      · rfl
    case isFalse level => split <;> rfl

@[simp] theorem State.govSync_flt : s.govSync.flt = s.flt := State.cicLevel_flt _ _ _

@[simp] theorem State.wearLimit_flt : s.wearLimit.flt = s.flt := by
  unfold State.wearLimit
  split <;> rfl

@[simp] theorem State.rbReset_flt (old : State) : (s.rbReset old).flt = s.flt := by
  unfold State.rbReset
  split <;> rfl

/-! ### Setting and clearing -/

/-- The reaction to class 4 sets the latch before it looks at the state. -/
theorem State.react_f4_latch (src el : Nat) : (s.react src el 4).flt.latch = true := rfl

/-- What a cold reset, a brown-out or a power cycle leaves of the latch. -/
theorem State.coldState_latch (cause : Nat) (power cells : Bool) :
    (s.coldState cause power cells).flt.latch = (s.slotsOff.flt.latch && !power) := by
  unfold State.coldState
  cases power <;> simp [when]

theorem State.powerOn_latch : s.powerOn.flt.latch = false :=
  (s.coldState_latch 0 true false).trans (Bool.and_false _)

end

/-- On an empty queue a step is one settled cycle, which keeps the latch and whatever else `Keeps` speaks of. -/
theorem step_keeps_of_pending_nil {s t : State} (hq : s.pending = []) (h : step s = .next t) : Keeps s t := by
  obtain rfl := Host.Outcome.next.inj ((step_of_pending_nil hq).symm.trans h)
  exact settle_keeps (State.cycle_keeps (.refl s))

/-- Settles O8: the latch is of what every command but POWER_ON and every step on an empty queue keeps; the reaction to class 4 sets it, and the power
cycle's loss of power clears it. -/
theorem onlyAPowerCycleClearsTheLatch : Obligations.OnlyAPowerCycleClearsTheLatch := by
  refine ⟨?sets, ?command, ?empty, ?clears⟩
  case sets =>
    intro s src el
    exact s.react_f4_latch src el
  case command =>
    intro s t c hc hlatch hexec
    exact (exec_keeps hc hexec).latch hlatch
  case empty =>
    intro s t hq hlatch hstep
    exact (step_keeps_of_pending_nil hq hstep).latch hlatch
  case clears =>
    intro s
    exact s.powerOn_latch

end Sys2Proof.Machine
end

section
/-! SUPPORT. The immediate writes to the objects of quads (R124, R135, R136, R139): which chapter takes them, and what it answers. -/

namespace Sys2Proof.Machine

/-! ### Keys -/

section
variable {i j : Nat} (hj : j < 256)
include hj

@[simp] theorem keyIdx_key : keyIdx (key i j) = i := by simp only [keyIdx, key]; omega

@[simp] theorem keySub_key : keySub (key i j) = j := by simp only [keySub, key]; omega

end

/-! ### Which chapter takes the write -/

section
variable (n : Nat) (v : List Byte) (s : State)

/-- Croft has no object among those of the quads. -/
theorem croftWrite_of_quadIdx {k : Nat} (hlo : 0x2000 ≤ keyIdx k) (hhi : keyIdx k < 0x2100) : croftWrite n k v s = none := by
  have hslot : keyIdx k ≠ 0x1001 := by omega
  have hne {l : Nat} (hl : keyIdx l < 0x2000 ∨ 0x2100 ≤ keyIdx l) : k ≠ l := by
    rintro rfl
    omega
  unfold croftWrite
  rw [if_neg hslot, if_neg (hne (by decide)), if_neg (hne (by decide)), if_neg (hne (by decide)), if_neg (hne (by decide)),
    if_neg (hne (by decide)), if_neg (hne (by decide)), if_neg (hne (by decide)), if_neg (hne (by decide))]

variable {i j q : Nat} (hplace : 0x2000 ≤ i ∧ i < 0x2004 ∧ j < 256) (hq : q < 64)
include hplace hq

/-- Of the objects of a quad, which fill four indices, four take immediate writes. -/
theorem laneWrite_quadKey : laneWrite (key (i + 4 * q) j) v s =
    if j = 11 ∧ i = 0x2001 then some (s.reeqWrite q (leNat v))
    else if j = 6 ∧ i = 0x2002 then some (Status.ok, s.injectErrors q (leNat v))
    else if j = 16 ∧ i = 0x2002 then some (Status.ok, s.prbsClear q (leNat v))
    else if j = 1 ∧ i = 0x2003 then some (s.marginCtrl q (leNat v))
    else none := by
  obtain ⟨hlo, hhi, hj⟩ := hplace
  have hquad : (i + 4 * q - 0x2000) / 4 = q := by omega
  have hidx (r : Nat) (hr : r < 4) : i % 4 = r ↔ i = 0x2000 + r := by omega
  have hin (t : Nat) : inIdx 0x2000 0x2100 [t] (key (i + 4 * q) j) = true ↔ j = t := by
    simp [inIdx, hj, show 0x2000 ≤ i + 4 * q by omega, show i + 4 * q < 0x2100 by omega]
  have hout (t : Nat) : inIdx 0x2800 0x2900 [t] (key (i + 4 * q) j) = false := by
    simp [inIdx, hj, show ¬ 0x2800 ≤ i + 4 * q by omega]
  have hsample : key (i + 4 * q) j ≠ K.LOM_SAMPLE_READ := by simp only [key, K.LOM_SAMPLE_READ]; omega
  simp [laneWrite, hj, hquad, hidx, hin, hout, hsample]

/-- The write of a quad's object is the one that the chapter of the lanes makes. -/
theorem writeHook_of_laneWrite {r : Nat × State} (h : laneWrite (key (i + 4 * q) j) v s = some r) :
    writeHook n (key (i + 4 * q) j) v s = r := by
  obtain ⟨hlo, hhi, hj⟩ := hplace
  have hcroft : croftWrite n (key (i + 4 * q) j) v s = none := by
    apply croftWrite_of_quadIdx <;> rw [keyIdx_key hj] <;> omega
  simp only [writeHook, hcroft, h]

end

section
variable (n : Nat) (v : List Byte) (s : State) {q : Nat} (hq : q < 64)
include hq

theorem writeHook_selReeq : writeHook n (K.SEL_REEQ q) v s = s.reeqWrite q (leNat v) :=
  writeHook_of_laneWrite n v s (by decide) hq (laneWrite_quadKey v s (by decide) hq)

theorem writeHook_selInject : writeHook n (K.SEL_INJECT q) v s = (Status.ok, s.injectErrors q (leNat v)) :=
  writeHook_of_laneWrite n v s (by decide) hq (laneWrite_quadKey v s (by decide) hq)

theorem writeHook_selPrbsClear : writeHook n (K.SEL_PRBS_CLEAR q) v s = (Status.ok, s.prbsClear q (leNat v)) :=
  writeHook_of_laneWrite n v s (by decide) hq (laneWrite_quadKey v s (by decide) hq)

theorem writeHook_selMarginCtrl : writeHook n (K.SEL_MARGIN_CTRL q) v s = s.marginCtrl q (leNat v) :=
  writeHook_of_laneWrite n v s (by decide) hq (laneWrite_quadKey v s (by decide) hq)

end

/-! ### How a clause follows -/

/-- A command of a unit that exists (R20), whose operation answers the effect `e`. -/
theorem Gives.of_guarded {c : Instr} {s e : State} {f : State → State} {guard : Prop} [Decidable guard]
    (hexec : exec c s = .next (settle (when (decide guard) f s))) (hguard : guard) (he : f s = e) : Gives c s e :=
  .of_effect hexec ((when_of_true (decide_eq_true hguard) f s).trans he)

/-- A write of a session to an object of a unit that exists, where the session may make it and the chapter's effect of it is `e`. -/
theorem Gives.of_guardedWrite {c : Instr} {s e : State} {n k v : Nat} {guard : Prop} [Decidable guard]
    (hexec : exec c s = .next (settle (when (decide guard) (writeObject n k v) s))) (hguard : guard) (hw : s.mayWrite n k (wire k v))
    (he : writeHook n k (wire k v) s = (Status.ok, e)) : Gives c s (s.written n k (wire k v) e) :=
  .of_guarded hexec hguard (actionWrite_of_mayWrite hw he)

end Sys2Proof.Machine
end

section
/-! SUPPORT. Reference clocks, PLLs, re-equalisation and the framing of Twill lanes (R119, R120, R124, R128, R129). -/

namespace Sys2Proof.Machine

/-- A write of 1 to SEL_REEQ asks for a planned retrain on a Twill port (R191) and for a grant on any other (R124). -/
theorem State.reeqWrite_one (s : State) (q : Nat) : s.reeqWrite q 1 =
    (Status.ok, if s.role (s.portOfQuad q) = 3 then (s.retrainWrite (s.portOfQuad q) 0x1F).2 else s.reeqAsk (s.portOfQuad q) true []) := by
  by_cases hrole : s.role (s.portOfQuad q) = 3 <;> simp [State.reeqWrite, hrole, Status.ok]

/-- Settles O41: each event of a group, a quad or a port passes its guard, a write of 1 reaches SEL_REEQ, and a marker is read or counts as missing
(log entries 39 and 121). -/
theorem laneReferenceCommands : Obligations.LaneReferenceCommands := by
  refine ⟨?refLoss, ?refRestore, ?pllUnlock, ?pllRelock, ?reeq, ?partner, ?grant, ?grantTimeout, ?reeqEnd, ?marker, ?noMarker, ?skip⟩
  case refLoss =>
    intro s g c1 c2 hg hc1 hc2 hvalid s1 s2 quads s3 ports
    refine .of_guarded rfl hg (if_neg ?_)
    rw [hc1, hc2, hvalid]
    simp [hg]
  case refRestore =>
    intro s g ref hg c spread hc hlost s0 s1 s2 quads s3
    refine .of_guarded rfl hg (if_neg ?_)
    rw [hc, hlost]
    simp [hg]
  case pllUnlock =>
    intro s q hq hvalid hlocked x times s1 s2 s3
    refine .of_guarded rfl hq (if_neg ?_)
    rw [hvalid, hlocked]
    simp [hq]
  case pllRelock =>
    intro s q locked hq x hrelocking s1
    refine .of_guarded rfl hq (if_neg ?_)
    rw [hrelocking]
    simp [hq]
  case reeq =>
    intro s n q value hq hone hw
    exact .of_guardedWrite rfl hq hw ((writeHook_selReeq n _ s hq).trans ((congrArg (s.reeqWrite q) hone).trans (s.reeqWrite_one q)))
  case partner =>
    intro s partner hp p own l hnone hup s1
    exact .of_guarded rfl hp (if_neg (by rw [hnone, hup]; decide))
  case grant =>
    intro s p hp hwaits hgiven s1 asked
    exact .of_guarded rfl hp (if_neg (by rw [hwaits, hgiven]; decide))
  case grantTimeout =>
    intro s p hp r hwaits hpartner hlate s1
    refine .of_guarded rfl hp (congrArg (State.retrainAfterEq · p) ?_)
    unfold State.reeqTimeout
    rw [hwaits]
    exact if_neg (by simp [hpartner, hlate])
  case reeqEnd =>
    intro s p hp hruns s1
    exact .of_guarded rfl hp (congrArg (State.retrainAfterEq · p) (if_neg (by simp [hruns])))
  case marker =>
    intro s p lane am skew hp hrole hlane inv x ham a q lanes ok a1
    refine .of_guarded rfl hp (congrArg (State.trainAligned · p) ((if_neg (by simp [hrole, hlane])).trans ?_))
    rw [ham]
  case noMarker =>
    intro s p lane am skew hp hrole hlane ham n s1
    refine .of_guarded rfl hp (congrArg (State.trainAligned · p) ((if_neg (by simp [hrole, hlane])).trans ?_))
    rw [ham]
  case skip =>
    intro s p fill hp hrole k s1
    exact .of_guarded rfl hp (if_neg (not_not_intro hrole))

end Sys2Proof.Machine
end

section
/-! SUPPORT. Elastic buffers, detectors, injection, checkers and margin runs (R130, R131, R135, R136, R139, R140). -/

namespace Sys2Proof.Machine

/-- A word in range with START set, on a quad and a lane that are not margined, starts a run, which waits while the port equalises (R139, R140). -/
theorem State.marginCtrl_of_free {s : State} {q c : Nat} (hstart : bit c 31 = true) (hfits : marginFits c = true) (hrun : (s.selQuad q).run = none)
    (hwaits : (s.selQuad q).runWaits = none) (hpartner : s.sel.partner.contains (4 * q + marginLane c) = false) :
    s.marginCtrl q c = (Status.ok,
      if s.equalising (s.portOfQuad q) then s.putSelQuad q { s.selQuad q with runWaits := some c } else s.marginBegin q c) := by
  have hfree : ¬((s.selQuad q).run.isSome ∨ (s.selQuad q).runWaits.isSome ∨ s.sel.partner.contains (4 * q + marginLane c)) := by
    rw [hrun, hwaits, hpartner]
    decide
  calc s.marginCtrl q c
    _ = if !marginFits c then (1, s) else _ := if_neg (by simp [hstart])
    _ = _ := (if_neg (by simp [hfits])).trans (if_neg hfree)
    _ = _ := (apply_ite (Prod.mk Status.ok) _ _ _).symm

/-- Settles O42: each event of a quad or a lane passes its guard, and each write reaches the quad's object (log entries 120 and 121). -/
theorem laneTestCommands : Obligations.LaneTestCommands := by
  refine ⟨?elastic, ?los, ?losRelease, ?inject, ?clear, ?runStart, ?runDone, ?partner, ?lock, ?lockLoss⟩
  case elastic =>
    intro s q hq
    exact .of_guarded rfl hq (if_neg (Nat.not_le.2 hq))
  case los =>
    intro s lane hlane q hpresent s1 p
    exact .of_guarded rfl hlane (if_neg (not_or.2 ⟨Nat.not_le.2 hlane, ne_true_of_eq_false hpresent⟩))
  case losRelease =>
    intro s lane hlane
    exact .of_guarded rfl hlane (if_neg (Nat.not_le.2 hlane))
  case inject =>
    intro s n q mask hq hw
    exact .of_guardedWrite rfl hq hw (writeHook_selInject n _ s hq)
  case clear =>
    intro s n q mask hq hw
    exact .of_guardedWrite rfl hq hw (writeHook_selPrbsClear n _ s hq)
  case runStart =>
    intro s n q ctrl hq c hstart hfits x hrun hwaits hpartner e hw
    exact .of_guardedWrite rfl hq hw ((writeHook_selMarginCtrl n _ s hq).trans (State.marginCtrl_of_free hstart hfits hrun hwaits hpartner))
  case runDone =>
    intro s q errors hq c hrun
    refine .of_guarded rfl hq ?_
    unfold State.marginDone
    rw [hrun]
  case partner =>
    intro s lane command hlane kind payload q r hkind hrole hup s1 others now s2
    refine .of_guarded rfl hlane (if_neg ?_)
    exact not_or.2 ⟨Nat.not_le.2 hlane, not_or.2 ⟨not_not_intro hkind, not_or.2 ⟨not_not_intro hrole, by rw [hup]; decide⟩⟩⟩
  case lock =>
    intro s lane rx hlane q hon b heard s1 s2
    exact .of_guarded rfl hlane (if_neg (not_or.2 ⟨Nat.not_le.2 hlane, by rw [hon]; decide⟩))
  case lockLoss =>
    intro s lane n errors hlane q hlocked b injected wrong s1
    exact .of_guarded rfl hlane (if_neg (not_or.2 ⟨Nat.not_le.2 hlane, by rw [hlocked]; decide⟩))

end Sys2Proof.Machine
end

section
/-! SUPPORT. SPDM requests on a management channel (R156; the response codes and the fresh start of GET_VERSION are log entry 44, the form of a
measurement block is log entry 123). -/

namespace Sys2Proof.Machine

section
variable {s : State} {ch : MgmtChannel} {r : SpdmReq} {need : Spdm → Bool} {go : State → State}

/-- A well-formed request of a channel that answers, in the part of the negotiation that admits it, is carried out. -/
theorem State.spdmAsk_of_admitted (hup : s.channelUp ch = true) (hform : r.malformed = false) (hneed : need (s.spdm ch) = true) :
    s.spdmAsk ch r need go = go s :=
  calc s.spdmAsk ch r need go
    _ = if r.malformed then _ else _ := if_neg (by simp [hup])
    _ = if !need (s.spdm ch) then _ else _ := if_neg (ne_true_of_eq_false hform)
    _ = go s := if_neg (by simp [hneed])

theorem Gives.of_spdm {c : Instr} {e : State} (hexec : exec c s = .next (settle (s.spdmAsk ch r need go))) (hup : s.channelUp ch = true)
    (hform : r.malformed = false) (hneed : need (s.spdm ch) = true) (he : go s = e) : Gives c s e :=
  .of_effect hexec ((State.spdmAsk_of_admitted hup hform hneed).trans he)

/-- KEY_EXCHANGE takes the lowest free number for its session, while an upstream port has fewer than 4. -/
theorem State.spdmKeyExchange_of_room {n : Nat} (hup : s.channelUp ch = true) (hform : r.malformed = false)
    (halgorithms : (s.spdm ch).algorithms = true) (hslot : r.slot = 0) (hroom : ch = .i3c ∨ (s.spdm ch).sessions.length < 4)
    (hfree : ((List.range ((s.spdm ch).sessions.length + 1)).map (· + 1)).find? (fun n => !((s.spdm ch).sessions.any (fun y => y.num == n)))
      = some n) :
    s.spdmKeyExchange ch r = (s.putSpdm ch { s.spdm ch with
      sessions := (s.spdm ch).sessions ++ [{ num := n, established := false, updates := 0 }] }).spdmSay ch 0x64 := by
  refine (State.spdmAsk_of_admitted hup hform halgorithms).trans ((if_neg (not_not_intro hslot)).trans ((if_neg ?room).trans ?number))
  case room =>
    cases ch with
    | i3c => exact Bool.false_ne_true
    | vdm p => simpa using hroom
  case number =>
    rw [hfree]
    rfl

end

/-- Settles O44: each request is admitted; GET_CERTIFICATE, CHALLENGE, GET_MEASUREMENTS and KEY_EXCHANGE also name what exists (log entries 44 and
123). -/
theorem spdmCommands : Obligations.SpdmCommands := by
  refine ⟨?version, ?capabilities, ?algorithms, ?digests, ?certificate, ?challenge, ?measurements, ?keyExchange, ?finish, ?heartbeat,
    ?keyUpdate, ?endSession⟩
  case version =>
    intro s ch r hup hform
    exact .of_spdm rfl hup hform rfl rfl
  case capabilities =>
    intro s ch r hup hform hversion
    exact .of_spdm rfl hup hform hversion rfl
  case algorithms =>
    intro s ch r hup hform hcapabilities
    exact .of_spdm rfl hup hform hcapabilities rfl
  case digests =>
    intro s ch r hup hform halgorithms
    exact .of_spdm rfl hup hform halgorithms rfl
  case certificate =>
    intro s ch r hup hform halgorithms hslot
    exact .of_spdm rfl hup hform halgorithms (if_pos hslot)
  case challenge =>
    intro s ch r hup hform halgorithms hslot
    exact .of_spdm rfl hup hform halgorithms (if_pos hslot)
  case measurements =>
    intro s ch r hup hform halgorithms hindex blocks
    exact .of_spdm rfl hup hform halgorithms (if_pos hindex)
  case keyExchange =>
    intro s ch r hup hform halgorithms x hslot hroom n hfree
    exact .of_effect rfl (State.spdmKeyExchange_of_room hup hform halgorithms hslot hroom hfree)
  case finish =>
    intro s ch r hup hform hbegun x
    exact .of_spdm rfl hup hform hbegun rfl
  case heartbeat =>
    intro s ch r hup hform hlive
    exact .of_spdm rfl hup hform hlive rfl
  case keyUpdate =>
    intro s ch r hup hform hlive x
    exact .of_spdm rfl hup hform hlive rfl
  case endSession =>
    intro s ch r hup hform hlive x
    exact .of_spdm rfl hup hform hlive rfl

end Sys2Proof.Machine
end

section
/-! SUPPORT. The FM API and IDE key management (R155, R157, R158; codes, layouts and the value 0xFFFFFFFF are log entry 27, the IDE state shown and
the cleared direction log entry 112). -/

namespace Sys2Proof.Machine

section
variable {s : State} {p stream : Nat}

/-- A message in sequence, of a port or of a session that may send it, for a stream in use: its keys are taken, and GO finds keys to start. -/
theorem State.ideKm_of_inSequence {session : Nat} {go tx : Bool} (hp : p < 64) (hrole : s.role p = 1 ∨ s.role p = 2) (hup : s.linkUp p = true)
    (hstream : stream ≤ 1) (hmode : stream = 1 → s.rd (K.PRT_IDE_MODE p) ≠ 0)
    (hsender : s.role p = 2 ∨ (s.spdm (.vdm p)).live session = true) (hgo : go = true → s.ideState p stream tx = 1) :
    s.ideKm p session go stream tx true =
      ((if s.ideStream p stream = 3 then s.putIde p stream (!tx) 0 else s).putIde p stream tx (if go then 2 else 1)).emit (.ideKm p 0) := by
  have hport : ¬(64 ≤ p ∨ ¬(s.role p = 1 ∨ s.role p = 2) ∨ !s.linkUp p) := by simp [hp, hrole, hup]
  have hused : ¬(stream = 1 ∧ s.rd (K.PRT_IDE_MODE p) = 0) := fun h => hmode h.1 h.2
  have hok : (true && stream ≤ 1 && (s.role p == 2 || (s.spdm (.vdm p)).live session)
      && (if go then s.ideState p stream tx == 1 else true)) = true := by
    cases go with
    | false => simp [hstream, hsender]
    | true => simp [hstream, hsender, hgo rfl]
  exact (if_neg hport).trans ((if_neg hused).trans (if_neg (by rw [hok]; decide)))

theorem State.ideFail_of_secure (hp : p < 64) (hstream : stream ≤ 1) (hsecure : s.ideState p stream false = 2) :
    s.ideFail p stream = ((s.putIde p stream false 3).bump (K.PRT_VIOLATIONS p)).raiseGraveD F.PRT_IDE_FAIL (elemPort p)
      (s.rd (K.PRT_LINK_STATE p)) 0 0 :=
  if_neg (by simp [hp, hstream, hsecure])

end

/-- Settles O45: the channel answers, the message is in sequence, and the stream that fails is secure (log entries 27 and 112). -/
theorem managementCommands : Obligations.ManagementCommands := by
  refine ⟨?fmApi, ?ideKm, ?ideFail⟩
  case fmApi =>
    intro s ch command k w hup
    exact .of_effect rfl (if_neg (by simp [hup]))
  case ideKm =>
    intro s p session go half inSequence stream tx hp hrole hup hsequence hstream hmode hsender hgo s1
    subst hsequence
    exact .of_portEffect rfl hp (State.ideKm_of_inSequence hp hrole hup hstream hmode hsender hgo)
  case ideFail =>
    intro s p stream hp hstream hsecure
    exact .of_portEffect rfl hp (State.ideFail_of_secure hp hstream hsecure)

end Sys2Proof.Machine
end

section
/-! SUPPORT. Dynamic capacity of hosts and of devices (R153, R154, R238; answer 1 with a violation for an extent no longer offered is log
entry 47). -/

namespace Sys2Proof.Machine

/-- Settles O50: each port has the role of its command, the late offer is due, and the extent that a host releases is its own and not released
already (log entry 47). -/
theorem dynamicCapacityCommands : Obligations.DynamicCapacityCommands := by
  refine ⟨?response, ?late, ?release, ?clear, ?add, ?removal⟩
  case response =>
    intro s p accepted hp hrole x offered bad s1 s2
    exact .of_portEffect rfl hp (if_neg (by simp [hp, hrole]))
  case late =>
    intro s p e hp x due hdue
    exact .of_portEffect rfl hp (if_neg (not_or.2 ⟨Nat.not_le.2 hp, by rw [hdue]; decide⟩))
  case release =>
    intro s p e he hp hrole x hbound howner hanswered asked s1
    have hport : ¬(64 ≤ p ∨ s.role p ≠ 1) := by simp [hp, hrole]
    have howned : ¬(x.fold = 0 ∨ s.rd (K.FLD_OWNER_PORT x.fold) ≠ p ∨ s.releaseAnswered e) := by simp [hbound, howner, hanswered]
    exact .of_guarded rfl he ((if_neg hport).trans (if_neg howned))
  case clear =>
    intro s p handles hp x
    exact .of_portEffect rfl hp (if_neg (Nat.not_le.2 hp))
  case add =>
    intro s p ld base size hp hrole hup hld x c
    exact .of_portEffect rfl hp (if_neg (by simp [hp, hrole, hup, hld]))
  case removal =>
    intro s p ld base size hp hrole x
    exact .of_portEffect rfl hp (if_neg (by simp [hp, hrole]))

end Sys2Proof.Machine
end

section
/-! SUPPORT. Twill ports (R172 to R194): what a command of a Twill port asks of it, and which chapter takes the immediate writes to its objects. -/

namespace Sys2Proof.Machine

/-! ### How a clause follows -/

theorem State.isTwill_iff {s : State} {p : Nat} : s.isTwill p = true ↔ p < 64 ∧ s.role p = 3 := by simp [State.isTwill]

/-- A command of a Twill port, whose operation answers the effect `e` on a port of that role. -/
theorem Gives.of_twill {c : Instr} {s e : State} {f : State → State} {p : Nat}
    (hexec : exec c s = .next (settle (when (s.isTwill p) f s))) (htwill : s.isTwill p = true) (he : p < 64 → s.role p = 3 → f s = e) :
    Gives c s e := by
  obtain ⟨hp, hrole⟩ := State.isTwill_iff.1 htwill
  exact .of_effect hexec ((when_of_true htwill f s).trans (he hp hrole))

/-- A message of a row of the transaction table (R172), where the link of its port takes it. -/
theorem Gives.of_row {c : Instr} {s : State} {p tc op : Nat} {m : TwillMsg}
    (hexec : exec c s = .next (settle (when (s.isTwill p) (·.rowMessage p m tc op) s))) (htakes : s.takesMsg p (twillRow m tc op) = true) :
    Gives c s (s.receives p (twillRow m tc op)) := by
  have htwill : s.isTwill p = true := by
    simp only [State.takesMsg, Bool.and_eq_true] at htakes
    obtain ⟨⟨⟨⟨⟨⟨hport, -⟩, -⟩, -⟩, -⟩, -⟩, -⟩ := htakes
    simpa only [State.isTwill, Bool.and_eq_true] using hport
  exact .of_twill hexec htwill fun _ _ => rowMessage_of_takes htakes

/-! ### Which chapter takes the write -/

section
variable (n : Nat) (v : List Byte) (s : State)

/-- Croft's objects lie below the indices of the units that pass data, and above them. -/
theorem croftWrite_of_unitIdx {k : Nat} (hlo : 0x2000 ≤ keyIdx k) (hhi : keyIdx k < 0x9000) : croftWrite n k v s = none := by
  have hslot : keyIdx k ≠ 0x1001 := by omega
  have hne {l : Nat} (hl : keyIdx l < 0x2000 ∨ 0x9000 ≤ keyIdx l) : k ≠ l := by
    rintro rfl
    omega
  unfold croftWrite
  rw [if_neg hslot]
  iterate 8 rw [if_neg (hne (by decide))]

variable {j p : Nat} (hj : j < 256) (hp : p < 64)
include hj hp

/-- Of the objects at the first index of a Twill port, two take immediate writes (R194). -/
theorem laneWrite_twillKey : laneWrite (key (0x2800 + 4 * p) j) v s =
    if j = 6 then some (s.retrainWrite p (leNat v)) else if j = 7 then some (s.reenable p (leNat v)) else none := by
  have hfirst : (0x2800 + 4 * p) % 4 = 0 := by omega
  have hin (t : Nat) : inIdx 0x2800 0x2900 [t] (key (0x2800 + 4 * p) j) = true ↔ j = t := by
    simp [inIdx, hj, show 0x2800 + 4 * p < 0x2900 by omega]
  have hout (t : Nat) : inIdx 0x2000 0x2100 [t] (key (0x2800 + 4 * p) j) = false := by
    simp [inIdx, hj, show ¬ 0x2800 + 4 * p < 0x2100 by omega]
  have hsample : key (0x2800 + 4 * p) j ≠ K.LOM_SAMPLE_READ := by simp only [key, K.LOM_SAMPLE_READ]; omega
  simp [laneWrite, hj, hfirst, hin, hout, hsample]

theorem writeHook_of_twillWrite {r : Nat × State} (h : laneWrite (key (0x2800 + 4 * p) j) v s = some r) :
    writeHook n (key (0x2800 + 4 * p) j) v s = r := by
  have hcroft : croftWrite n (key (0x2800 + 4 * p) j) v s = none := by
    apply croftWrite_of_unitIdx <;> rw [keyIdx_key hj] <;> omega
  simp only [writeHook, hcroft, h]

end

section
variable (n : Nat) (v : List Byte) (s : State) {p : Nat} (hp : p < 64)
include hp

theorem writeHook_twlRetrain : writeHook n (K.TWL_RETRAIN p) v s = s.retrainWrite p (leNat v) :=
  writeHook_of_twillWrite n v s (by decide) hp (laneWrite_twillKey v s (by decide) hp)

theorem writeHook_twlReenable : writeHook n (K.TWL_REENABLE p) v s = s.reenable p (leNat v) :=
  writeHook_of_twillWrite n v s (by decide) hp (laneWrite_twillKey v s (by decide) hp)

end

end Sys2Proof.Machine
end

section
/-! SUPPORT. The messages of the transaction table over a Twill link (R172, R173, R185, R336). -/

namespace Sys2Proof.Machine

/-- Settles O60: each command is a row of the table with its class and opcode, and the link takes it. -/
theorem transactionsOverTwill : Obligations.TransactionsOverTwill := by
  refine ⟨?mgmtReq, ?mgmtRsp, ?cmp, ?ioCpl, ?data, ?ioCpld, ?memRd, ?memWr, ?memWrPartial, ?atomic, ?io, ?bulkRd, ?bulkWr⟩ <;>
    exact fun s port m htakes => .of_row rfl htakes

end Sys2Proof.Machine
end

section
/-! SUPPORT. Flits, control messages and retraining on a Twill link (R175, R177 to R179, R188 to R193). -/

namespace Sys2Proof.Machine

section
variable {s : State} {p : Nat} (hp : p < 64) (hrole : s.role p = 3)
include hp hrole

/-- An ACK of a flit that the replay buffer holds, or of the one before them, drops the flits that it covers (R178). -/
theorem State.ackRx_of_inRange {nak : Bool} {n : Nat} (hup : s.linkUp p = true) :
    let l := s.link p
    let base := (l.seq + 8192 - l.replay.length - 1) % 4096
    let d := (n + 4096 - base) % 4096
    d ≤ l.replay.length →
    s.ackRx p nak n =
      let s1 := s.putLink p { l with replay := l.replay.drop d, ackedAt := if d = 0 then l.ackedAt else s.clk.dtc }
      if nak ∧ !(s1.link p).replay.isEmpty then s1.replayAll p else s1 := by
  intro l base d hrange
  exact (if_neg (by simp [hp, hrole, hup])).trans (if_neg (Nat.not_lt.2 hrange))

/-- INIT in T.INIT, with every class advertised at its minimum or above (R175). -/
theorem State.initRx_of_sound {ack : Bool} {hdr data : List Nat} (hstate : s.twillState p = 5)
    (hcredits : (List.range 8).any (fun c => decide (hdr.getD c 0 < (creditMin c).1) || decide (data.getD c 0 < (creditMin c).2)) = false) :
    s.initRx p ack hdr data =
      let s0 := if (s.link p).initSent then s else s.enterInit p
      let l := s0.link p
      let s1 := s0.putLink p { l with txAdvH := hdr, txAdvD := data, initAck := true }
      let s2 := if l.initAck then s1 else
        s1.sendCtrl p 4 6 ([1] ++ zeros 2 ++ l.rxAdvH.flatMap (leBytes 2) ++ l.rxAdvD.flatMap (leBytes 2))
      if ack then s2.enterActive p else s2 := by
  have hport : ¬(64 ≤ p ∨ s.role p ≠ 3) := by simp [hp, hrole]
  have hactive : ¬s.twillState p = 6 := by rw [hstate]; decide
  exact (if_neg hport).trans ((if_neg hactive).trans ((if_neg (not_not_intro hstate)).trans (if_neg (ne_true_of_eq_false hcredits))))

variable {width device : Nat} {eq : Bool} (hup : s.linkUp p = true)
include hup

/-- A request while no retrain is planned is answered, and the hold begins (R191). -/
theorem State.retrainRx_of_idle (hidle : (s.link p).retrain = none) :
    s.retrainRx p width eq false device = (s.sendRetrain p width eq true).retrainHold p width eq false := by
  refine (if_neg (by simp [hp, hrole, hup])).trans ?_
  dsimp only
  rw [hidle]
  exact if_neg Bool.false_ne_true

/-- While this side's own request is unanswered, an answer begins the hold, and of two requests that collide the lower device number's leads
(R191, R192). -/
theorem State.retrainRx_of_asked {answer : Bool} {r : Retrain} (hasked : (s.link p).retrain = some r) (hopen : r.answered = false) :
    s.retrainRx p width eq answer device =
      if answer then s.retrainHold p (min r.width width) (r.eq || eq) true
      else if s.device < device then
        s.putLink p { s.link p with retrain := some { r with width := min r.width width, eq := r.eq || eq } }
      else (s.sendRetrain p (min r.width width) (r.eq || eq) true).retrainHold p (min r.width width) (r.eq || eq) false := by
  refine (if_neg (by simp [hp, hrole, hup])).trans ?_
  dsimp only
  rw [hasked]
  exact if_neg (ne_true_of_eq_false hopen)

end

/-- Settles O58: each flit and message of a Twill port passes its guards; DATA_FLIT, CONFIG and EQ have no other, and of colliding RETRAIN messages
the lower device number's leads (R192). -/
theorem twillFlitCommands : Obligations.TwillFlitCommands := by
  refine ⟨?dataFlit, ?ctrlFlit, ?ack, ?credit, ?config, ?init, ?eq, ?retrain, ?collision⟩
  case dataFlit =>
    intro s p f htwill hup
    exact .of_twill rfl htwill fun _ _ => rfl
  case ctrlFlit =>
    intro s p f htwill hon
    exact .of_twill rfl htwill fun hp hrole => if_neg (by simp [hp, hrole, hon])
  case ack =>
    intro s p nak n htwill hup l base d hrange
    exact .of_twill rfl htwill fun hp hrole => State.ackRx_of_inRange hp hrole hup hrange
  case credit =>
    intro s p words htwill hup
    exact .of_twill rfl htwill fun hp hrole => if_neg (by simp [hp, hrole, hup])
  case config =>
    intro s p c htwill
    exact .of_twill rfl htwill fun _ _ => rfl
  case init =>
    intro s p ack hdr data htwill hstate hcredits
    exact .of_twill rfl htwill fun hp hrole => State.initRx_of_sound hp hrole hstate hcredits
  case eq =>
    intro s p lane kind preset coeffs result htwill
    exact .of_twill rfl htwill fun _ _ => rfl
  case retrain =>
    intro s p width eq answer device htwill hup hidle hrequest
    subst hrequest
    exact .of_twill rfl htwill fun hp hrole => State.retrainRx_of_idle hp hrole hup hidle
  case collision =>
    intro s p width eq answer device htwill hup r hasked hopen
    exact .of_twill rfl htwill fun hp hrole => State.retrainRx_of_asked hp hrole hup hasked hopen

end Sys2Proof.Machine
end

section
/-! SUPPORT. The timers of a Twill link, its training, its retraining and its trackers (R177, R178, R180, R181, R184, R188, R191). -/

namespace Sys2Proof.Machine

section
variable {s : State} {p : Nat}

/-! ### Timers, training and holds -/

section
variable (hp : p < 64) (hrole : s.role p = 3)
include hp hrole

theorem State.ackTimer_of_due (hup : s.linkUp p = true) (hunacked : (s.link p).unacked ≠ 0) (hdue : (s.link p).unackedAt + 128 ≤ s.clk.dtc) :
    s.ackTimer p = s.sendAck p false :=
  if_neg (by simp [hp, hrole, hup, hunacked, hdue])

theorem State.replayTimer_of_due (hup : s.linkUp p = true) (hheld : (s.link p).replay.isEmpty = false)
    (hdue : (s.link p).ackedAt + s.rd (K.TWL_REPLAY_TIMER p) ≤ s.clk.dtc) : s.replayTimer p = s.replayAll p := by
  refine if_neg ?_
  rw [hup, hheld]
  simp [hp, hrole, hdue]

theorem State.trainingRestart_of_due {a : Nat} (hoff : s.twillState p = 0) (hrestart : (s.link p).restartAt = some a) (hdue : a ≤ s.clk.dtc) :
    s.trainingRestart p = s.startTraining p := by
  refine (if_neg (by simp [hp, hrole, hoff])).trans ?_
  rw [hrestart]
  exact if_pos hdue

/-- The buffers have emptied in the hold of a retrain that does not equalise yet: T.EQ under grants, or the switch (R191). -/
theorem State.replayEmpty_of_held {r : Retrain} (hempty : (s.link p).replay.isEmpty = true) (hheld : (s.link p).retrain = some r)
    (hanswered : r.answered = true) (hnew : r.equalising = false) :
    s.replayEmpty p =
      if r.eq then
        let s1 := s.putLink p { s.link p with retrain := some { r with equalising := true }, eqDone := 0, stateAt := s.clk.dtc }
        ((s1.wrBits (K.TWL_STATE p) 7 4 4).switchMarker p).reeqAsk p r.own []
      else s.retrainDone p := by
  have hguard : ¬(64 ≤ p ∨ s.role p ≠ 3 ∨ !(s.link p).replay.isEmpty) := by
    rw [hempty]
    simp [hp, hrole]
  refine (if_neg hguard).trans ?_
  rw [hheld]
  exact if_neg (by simp [hanswered, hnew])

theorem State.holdTimeout_of_late {r : Retrain} (hheld : (s.link p).retrain = some r) (hanswered : r.answered = true)
    (hlate : r.since + 10000000 < s.clk.dtc) :
    s.holdTimeout p = ((s.wrBit (K.TWL_STATE p) 3 false).twillDown p).startTraining p := by
  refine (if_neg (by simp [hp, hrole])).trans ?_
  rw [hheld]
  exact if_pos ⟨hanswered, hlate⟩

/-- A write of TWL_RETRAIN on a link that is up and plans no retrain, with a width that the port's quads have (R191, R194). -/
theorem State.retrainWrite_of_idle {v : Nat} (hv : v < 32) (hwidth : v % 16 = 15 ∨ v % 16 ≤ log2w (4 * (s.portQuads p).length))
    (hup : s.linkUp p = true) (hidle : (s.link p).retrain = none) :
    s.retrainWrite p v = (Status.ok, (s.putLink p { s.link p with
      retrain := some { width := s.retrainWidth p (v % 16), eq := bit v 4, own := true, answered := false, since := 0, equalising := false } }).sendRetrain
      p (s.retrainWidth p (v % 16)) (bit v 4) false) := by
  have hrange : ¬(64 ≤ p ∨ 32 ≤ v) := not_or.2 ⟨Nat.not_le.2 hp, Nat.not_le.2 hv⟩
  have hfits : ¬(v % 16 ≠ 15 ∧ log2w (4 * (s.portQuads p).length) < v % 16) := fun ⟨hother, hwide⟩ =>
    hwidth.elim hother (Nat.not_le.2 hwide)
  have hgo : ¬(s.role p ≠ 3 ∨ !s.linkUp p ∨ (s.link p).retrain.isSome) := by simp [hrole, hup, hidle]
  exact (if_neg hrange).trans ((if_neg hfits).trans (if_neg hgo))

end

/-- A write of 1 to TWL_REENABLE on a port that its health limits disabled (R181). -/
theorem State.reenable_of_disabled (hp : p < 64) (hdisabled : bit (s.rd (K.TWL_STATE p)) 1 = true) :
    s.reenable p 1 = (Status.ok, (s.wrBit (K.TWL_STATE p) 1 false).startTraining p) :=
  (if_neg (by simp [hp])).trans (if_neg (by simp [hdisabled]))

/-! ### Trackers -/

/-- A tracker of this device that left on a Twill port has outlived that port's timeout and the hold of a planned retrain (R184). -/
theorem State.twillTrackerTimeout_of_late {tag a : Nat} {t : Tracker} (htracker : s.tracker tag = some t) (hegress : t.egress < 64)
    (hrole : s.role t.egress = 3) (hstale : t.stale = false) (hsent : t.sentAt = some a)
    (hlate : a + s.rd (K.TWL_TRACKER_TIMEOUT t.egress)
      + ((s.link t.egress).retrain.map (fun r => if r.since = 0 then 0 else s.clk.dtc - r.since)).getD 0 ≤ s.clk.dtc) :
    s.twillTrackerTimeout s.device tag =
      (when t.isHostWrite (·.bump (K.PRT_POSTED_DROPPED (t.who.port.getD 0))) s).completeError t 7 := by
  refine (if_pos rfl).trans ?_
  rw [htracker]
  refine if_pos ?_
  simp only [hsent, hegress, hrole, hstale, hlate, decide_true, BEq.rfl, Bool.not_false, Bool.and_self]

end

/-- Settles O59: each timer is due and each event passes its guards, and the two writes reach the port's objects. -/
theorem twillTimerCommands : Obligations.TwillTimerCommands := by
  refine ⟨?ackTimer, ?creditTimer, ?replayTimer, ?linkDown, ?trainingTimeout, ?restart, ?retrain, ?replayEmpty, ?holdTimeout, ?reenable, ?tracker⟩
  case ackTimer =>
    intro s p htwill hup hunacked hdue
    exact .of_twill rfl htwill fun hp hrole => State.ackTimer_of_due hp hrole hup hunacked hdue
  case creditTimer =>
    intro s p htwill hup l due hdue
    exact .of_twill rfl htwill fun hp hrole => (if_neg (by simp [hp, hrole, hup])).trans (if_pos hdue)
  case replayTimer =>
    intro s p htwill hup hheld hdue
    exact .of_twill rfl htwill fun hp hrole => State.replayTimer_of_due hp hrole hup hheld hdue
  case linkDown =>
    intro s p htwill hup s1 x downs s2
    exact .of_twill rfl htwill fun _ _ => if_neg (by simp [hup])
  case trainingTimeout =>
    intro s p htwill st hon htraining limit hlate
    refine .of_twill rfl htwill fun hp hrole => ?_
    have hguard : ¬(64 ≤ p ∨ s.role p ≠ 3 ∨ st = 0 ∨ 6 ≤ st) := by simp [hp, hrole, hon, htraining]
    exact (if_neg hguard).trans (if_neg (Nat.not_lt.2 hlate))
  case restart =>
    intro s p htwill hoff a hrestart hdue
    exact .of_twill rfl htwill fun hp hrole => State.trainingRestart_of_due hp hrole hoff hrestart hdue
  case retrain =>
    intro s n p value hp r hr hwidth hrole hup hidle hw
    exact .of_guardedWrite rfl hp hw ((writeHook_twlRetrain n _ s hp).trans (State.retrainWrite_of_idle hp hrole hr hwidth hup hidle))
  case replayEmpty =>
    intro s p htwill hempty r hheld hanswered hnew
    exact .of_twill rfl htwill fun hp hrole => State.replayEmpty_of_held hp hrole hempty hheld hanswered hnew
  case holdTimeout =>
    intro s p htwill r hheld hanswered hlate
    exact .of_twill rfl htwill fun hp hrole => State.holdTimeout_of_late hp hrole hheld hanswered hlate
  case reenable =>
    intro s n p value hp hone hdisabled hw
    refine .of_guardedWrite rfl hp hw ((writeHook_twlReenable n _ s hp).trans ?_)
    exact (congrArg (s.reenable p) hone).trans (State.reenable_of_disabled hp hdisabled)
  case tracker =>
    intro s device tag hdevice t htracker hegress hrole hstale a hsent hold hlate
    subst hdevice
    exact .of_effect rfl (State.twillTrackerTimeout_of_late htracker hegress hrole hstale hsent hlate)

end Sys2Proof.Machine
end

section
/-! SUPPORT. Messages through Loom: the sources, the scheduler, the egresses, the resequencer, the store, the samplers and the slices (R201, R205, R214,
R216, R219, R221). -/

namespace Sys2Proof.Machine

section
variable {s : State}

/-- A cell time that matches the head of queue (g, c) goes by, and the started messages cross in those after it (log entry 91). -/
theorem State.messageStart_of_matched {g c : Nat} (hmatched : (s.matched true).done.any (fun a => a.gang == g && a.cls == c && a.idx == 0) = true) :
    s.messageStart g c = (s.cellTime true).crossOn (s.fab.loom.msgs.foldl (fun n x => n + x.cells) 0) :=
  if_neg (by simp only [hmatched, Bool.not_true, Bool.false_eq_true, not_false_eq_true])

theorem State.gapSkip_of_due {src ep c a : Nat} {f : Flow} (hflow : s.flowAt (flowKey src ep c) = some f) (hgap : f.gapAt = some a)
    (hdue : a + s.rd K.LOM_RESEQ_SKIP ≤ s.clk.dtc) : s.gapSkip src ep c = s.reseqSkip (flowKey src ep c) := by
  unfold State.gapSkip
  simp only [hflow, hgap]
  exact if_pos hdue

theorem State.flowIdle_of_unused {src ep c : Nat} {f : Flow} (hflow : s.flowAt (flowKey src ep c) = some f)
    (hempty : (s.heldOf (flowKey src ep c)).isEmpty = true) (hunused : f.usedAt + 1000000 ≤ s.clk.dtc) :
    s.flowIdle src ep c =
      { s with fab := { s.fab with loom := { s.fab.loom with flows := Sparse.erase (flowKey src ep c) s.fab.loom.flows } } } := by
  unfold State.flowIdle
  simp only [hflow]
  exact if_pos ⟨hempty, hunused⟩

theorem State.sliceFail_of_whole {n : Nat} (hn : n < 8) (hwhole : bit (s.rd K.LOM_SLICES_FENCED) n = false) :
    s.sliceFail n = (s.sliceFence n).raise F.LOM_SLICE (elem 11 n) :=
  if_neg (not_or.2 ⟨Nat.not_le.2 hn, ne_true_of_eq_false hwhole⟩)

end

/-- Settles O43: each command finds the message, flow, record or slice that it acts on, and passes the guards of its operation.  The cell times after
MESSAGE_START are of the same command (log entry 91), and SAMPLE_CAPTURE takes the oldest record first (log entry 55). -/
theorem loomCommands : Obligations.LoomCommands := by
  refine ⟨?reserveWait, ?start, ?transmit, ?reseqSkip, ?flowIdle, ?refill, ?capture, ?slice⟩
  case reserveWait =>
    intro s g hg x hfound ch a x1 s1
    refine .of_guarded rfl hg ?_
    unfold State.reserveWait
    rewrite [hfound]
    rfl
  case start =>
    intro s g c hg hc hmatched
    exact .of_guarded rfl ⟨hg, hc⟩ (State.messageStart_of_matched hmatched)
  case transmit =>
    intro s g c f hg hc x rest hstaged hwritten twill n hready hup r s1
    refine .of_guarded rfl ⟨hg, hc⟩ ?_
    unfold State.messageTransmit
    rw [hstaged]
    have hstarted : ¬(!x.written) = true := by simp [hwritten]
    exact (if_neg hstarted).trans ((if_neg (ne_true_of_eq_false hready)).trans (if_neg (ne_true_of_eq_false hup)))
  case reseqSkip =>
    intro s src ep c f hflow a hgap hdue
    exact .of_effect rfl (State.gapSkip_of_due hflow hgap hdue)
  case flowIdle =>
    intro s src ep c k f hflow hempty hunused
    exact .of_effect rfl (State.flowIdle_of_unused hflow hempty hunused)
  case refill =>
    intro s g hg hturn x hhead parts
    refine .of_guarded rfl hg ((if_neg (not_not_intro hturn)).trans ?_)
    rewrite [hhead]
    rfl
  case capture =>
    intro s n hn e rest hcaptures hsampler hwritten s0 w a i
    refine .of_guarded rfl hn ?_
    unfold State.captureWrite
    rw [hcaptures]
    exact if_neg (not_or.2 ⟨not_not_intro hsampler, ne_true_of_eq_false hwritten⟩)
  case slice =>
    intro s n hn hwhole
    exact .of_effect rfl (State.sliceFail_of_whole hn hwhole)

end Sys2Proof.Machine
end

section
/-! SUPPORT. Folds and Gatepost: capacity requests, internal commits, errors of the tables and locks (R238, R239, R246, R259, R264). -/

namespace Sys2Proof.Machine

section
variable {s : State}

/-! ### Which chapter takes the write -/

/-- A capacity request reaches Fold, except for an extent of a fold that a rebind moves. -/
theorem writeHook_fldReleaseRequest (n : Nat) (v : List Byte) (hfree : ¬(s.rbActive = true ∧ (s.extent (leNat v)).fold = s.rbFold)) :
    writeHook n K.FLD_RELEASE_REQUEST v s = s.releaseRequest (leNat v) := if_neg hfree

theorem writeHook_gtpLockRequest (n : Nat) (v : List Byte) (s : State) : writeHook n K.GTP_LOCK_REQUEST v s = s.gtpLock (leNat v) := rfl

/-! ### Errors of tables -/

theorem State.extentEcc_of_lt {f : Nat} (e : Nat) (hf : f < 1024) :
    s.extentEcc f e =
      (State.raiseD { s with fab := { s.fab with fold := { s.fab.fold with damaged := K.FLD_EXTENT_ENTRY e :: s.fab.fold.damaged } } }
        F.FLD_EXTENT_ECC (elem 6 f) e 0 0).cicRaise 0x112 := if_neg (Nat.not_le.2 hf)

theorem State.dirtyFail_of_lt {f : Nat} (hf : f < 1024) : s.dirtyFail f = (s.raise F.FLD_DIRTY_WRITE (elem 6 f)).cicRaise 0x114 :=
  if_neg (Nat.not_le.2 hf)

/-- A corrected error of a region entry is counted (R264). -/
theorem State.gtpEcc_corrected {e : Nat} (he : e < 4096) :
    s.gtpEcc e .corrected = ((s.bump K.GTP_TABLE_ECC_CORRECTED).raiseD F.GTP_TABLE_ECC (elemSub 5) e 0 0).cicRaise 0x118 :=
  if_neg (Nat.not_le.2 he)

/-- An entry with an uncorrectable error denies until it is restored (R264). -/
theorem State.gtpEcc_uncorrectable {e : Nat} (he : e < 4096) :
    s.gtpEcc e .uncorrectable =
      (State.raiseGraveD { s with fab := { s.fab with fold := { s.fab.fold with gtpDamaged := e :: s.fab.fold.gtpDamaged } } }
        F.GTP_TABLE_ECC (elemSub 5) e 0 0).cicRaise 0x118 := if_neg (Nat.not_le.2 he)

end

/-- Settles O36: the two writes reach Fold and Gatepost, and each event is of a tick, a ready part, a fold or an entry that exists.  FLD_ROUTE_ECC,
FLD_TABLE_ECC and TABLE_RESTORE have no guard. -/
theorem foldAndGatepostCommands : Obligations.FoldAndGatepostCommands := by
  refine ⟨?request, ?post, ?commit, ?extentEcc, ?routeEcc, ?tableEcc, ?dirtyWrite, ?restore, ?lock, ?gtpEcc⟩
  case request =>
    intro s n extent hfree hw e he
    exact .of_write rfl hw ((writeHook_fldReleaseRequest n _ hfree).trans he)
  case post =>
    intro s hticking due
    exact .of_effect rfl (when_of_true hticking _ s)
  case commit =>
    intro s isFm hready
    exact .of_effect rfl (if_neg (by simp [hready]))
  case extentEcc =>
    intro s f e hf s1
    exact .of_effect rfl (State.extentEcc_of_lt e hf)
  case routeEcc =>
    intro s idx sub s1
    exact gives_of rfl
  case tableEcc =>
    intro s idx sub
    exact gives_of rfl
  case dirtyWrite =>
    intro s f hf
    exact .of_effect rfl (State.dirtyFail_of_lt hf)
  case restore =>
    intro s idx sub k
    exact gives_of rfl
  case lock =>
    intro s n entry hw e he
    exact .of_write rfl hw ((writeHook_gtpLockRequest n _ s).trans he)
  case gtpEcc =>
    intro s e k he
    cases k with
    | corrected => exact .of_effect rfl (State.gtpEcc_corrected he)
    | uncorrectable => exact .of_effect rfl (State.gtpEcc_uncorrectable he)

end Sys2Proof.Machine
end

section
/-! SUPPORT. Gatepost: a staged entry that is locked before its COMMIT (R49, R64, R252, R259). -/

namespace Sys2Proof.Machine

section
variable {H : Hooks} {n : Nat} {s : State}

/-- Validation passes over a staged write whose entry has been locked since it was staged: its version has moved, and the version check at the
commit point answers CONFLICT (R259, log entry 15). -/
theorem applyStaged_cons_of_locked {w : Staged} (r : List Staged) (hlocked : s.lockedKey w.key = true)
    (hmoved : w.expect ≠ s.version w.key) : applyStaged H n (w :: r) s = applyStaged H n r s := by
  rw [applyStaged, if_pos hlocked, if_neg hmoved]

theorem validate_of_applied {t : Txn} {u : State} (happlied : applyStaged H n t.staged s = .ok u)
    (hrules : (H.rules s u (t.staged.map (·.key))).find? (fun r => !r.holds) = none) : validate H s n t = .ok u := by
  simp only [validate, happlied, hrules]

end

/-! ### The counterexample: staged, then locked -/

/-- A region entry with VALID set, base page 2 and limit page 1. -/
def limitBelowBase : List Byte := [1] ++ zeros 15 ++ leBytes 8 2 ++ leBytes 8 1

/-- The staged write of that entry as entry 7, with the version that an entry never written has (R62). -/
def stagedEntry : Staged := { key := K.GTP_REGION_ENTRY 7, value := limitBelowBase, expect := 0 }

def stagedEntryTxn : Txn := { number := 1, staged := [stagedEntry], lastMsg := 0 }

/-- A part in operation whose session 1 has every permission and the transaction open. -/
def entryStaged : State :=
  State.wr { State.reset with
    boot := { step := .ready, sysReady := true, croftServes := true, refclkEn := true, vrEn := 7, vrPg := 7 }
    clk := { running := true, dtc := 10 ^ 12 }
    crf := { sessions := { opened := true, slot := 1, txn := some stagedEntryTxn } :: List.replicate 7 {} } } (K.CRF_KEY_PERM 0) 127

/-- What session 1's write of 7 to GTP_LOCK_REQUEST answers. -/
def lockAnswer : Nat × State := writeNow hooks entryStaged 1 K.GTP_LOCK_REQUEST 0xFFFFFFFF (leBytes 2 7)

/-- The part after that write (R259). -/
def entryLocked : State := lockAnswer.2

/-- A COMMIT of session 1 with the V flag. -/
def validatingCommit : CrookMsg :=
  { verMajor := 3, verMinor := 1, session := 1, sequence := 1, length := 0, status := 0, flags := 4, reserved := 0, body := [], tag := [] }

/-- The session may stage the entry: its limit below its base is no fault of a reserved field or of the length, so only COMMIT looks at it (R62). -/
theorem stagedEntry_passes_staging :
    writeGate entryStaged 1 stagedEntry.key true = Status.ok ∧ valueCheck stagedEntry.key stagedEntry.value = Status.ok := by decide +kernel

theorem entryStaged_version : entryStaged.version stagedEntry.key = stagedEntry.expect := by decide +kernel

theorem lockAnswer_ok : lockAnswer.1 = Status.ok := by decide +kernel

theorem entryLocked_txn : (entryLocked.session 1).txn = some stagedEntryTxn := by decide +kernel

theorem entryLocked_lockedKey : entryLocked.lockedKey stagedEntry.key = true := by decide +kernel

/-- The lock advanced the version that the staged write recorded (R259). -/
theorem entryLocked_version : entryLocked.version stagedEntry.key = stagedEntry.expect + 1 := by decide +kernel

/-- The rules look at the value that entry 7 holds, not at the staged one. -/
theorem entryLocked_rules : (commitRules entryLocked entryLocked [stagedEntry.key]).find? (fun r => !r.holds) = none := by
  have hall : (commitRules entryLocked entryLocked [stagedEntry.key]).all (·.holds) = true := by decide +kernel
  simpa using hall

theorem validate_entryLocked : validate hooks entryLocked 1 stagedEntryTxn = .ok entryLocked := by
  have hmoved : stagedEntry.expect ≠ entryLocked.version stagedEntry.key := by rw [entryLocked_version]; omega
  exact validate_of_applied (applyStaged_cons_of_locked [] entryLocked_lockedKey hmoved) entryLocked_rules

/-- Refutes O12: the clause on COMMIT fails.  A session stages entry 7 with its limit below its base, and the entry is locked before the COMMIT;
validation passes over the staged write, so a COMMIT with the V flag answers OK and not RANGE. -/
theorem not_gatepostEntryRange : ¬ Obligations.GatepostEntryRange := by
  rintro ⟨-, -, hcommit, -⟩
  have hbar : pinfoldBar entryLocked stagedEntryTxn = none := by decide +kernel
  obtain ⟨b, hrange⟩ := hcommit entryLocked 1 7 validatingCommit [] stagedEntryTxn stagedEntry (by decide) rfl entryLocked_txn hbar
    (List.mem_singleton.2 rfl) rfl (by decide) (by decide)
  have hok := doCommit_of_valid_v (m := validatingCommit) rfl entryLocked_txn hooks [] (by decide) hbar validate_entryLocked
  rw [hok] at hrange
  have hstatus : Status.ok = Status.range := (Prod.mk.inj (Option.some.inj (Prod.mk.inj hrange).1)).1
  exact absurd hstatus (by decide)

end Sys2Proof.Machine
end

section
/-! SUPPORT. Requests of hosts and answers to back-invalidates (R20, R163, R277, R278, R301). -/

namespace Sys2Proof.Machine

section
variable {s : State} {p : Nat}

/-- A request in order on an upstream CXL link is taken, or waits behind those that wait (R20, R277). -/
theorem State.hostRequest_of_takes {r : HostReq} (op : ReqOp) (h : s.takesRequest p r = true) :
    let s1 := s.requested p r op
    s.hostRequest p r op =
      if s1.noTracker true || !s1.fab.waitHost.isEmpty then { s1 with fab := { s1.fab with waitHost := s1.fab.waitHost ++ [(p, r, op)] } }
      else s1.hostTake p r op := by
  simp only [State.takesRequest, Bool.and_eq_true, decide_eq_true_eq, beq_iff_eq, Bool.not_eq_true'] at h
  obtain ⟨⟨⟨⟨⟨⟨hp, hrole⟩, hup⟩, hsec⟩, hcxl⟩, hmem⟩, hfields⟩ := h
  have hlink : ¬(64 ≤ p ∨ s.role p ≠ 1 ∨ !s.linkUp p ∨ s.insecure p ∨ !(s.port p).cxl ∨ !bit (s.rd (K.PRT_CXL_ENABLE p)) 1) := by
    simp [Nat.not_le.2 hp, hrole, hup, hsec, hcxl, hmem]
  exact (if_neg hlink).trans ((if_neg (ne_true_of_eq_false hfields)).trans (ite_congr (Bool.or_eq_true _ _).symm (fun _ => rfl) (fun _ => rfl)))

/-- A host's answer to an open back-invalidate of the line. -/
theorem State.hostAnswer_of_waiting {a : BiAnswer} {x : BlwTxn} (said : Nat) (hp : p < 64) (hwait : s.waitingOn p a.target (a.dpa / 64) = some x) :
    let kind := ((x.hosts.find? (fun h => h.1 == p)).map (·.2.1)).getD 0
    let keeps := if kind = 0 then 0 else if kind = 1 then min said 1 else said
    ¬((kind = 0 ∧ said ≠ 0) ∨ (kind = 1 ∧ said = 2)) →
    s.hostAnswer p a said =
      (s.onLine a.target (a.dpa / 64) (fun e =>
        if keeps = 0 then { e with hvec := e.hvec.filter (· != p), owned := e.owned && e.hvec.any (· != p) }
        else if keeps = 1 then { e with owned := false } else e)).progress
          { x with hosts := x.hosts.filter (fun h => h.1 != p), data := if a.dirty then some (fit 64 a.data) else x.data } := by
  intro kind keeps hallowed
  refine (if_neg (Nat.not_le.2 hp)).trans ?_
  rw [hwait]
  dsimp only
  rw [decide_eq_false hallowed]
  rfl

theorem State.bisnpTimeout_of_late {t a : Nat} {x : BlwTxn} (hwait : s.waitingOn p t (a / 64) = some x) (hup : s.linkUp p = true)
    (hlate : (x.hosts.any (fun h => h.1 == p && decide (h.2.2 + s.rd K.BLW_BISNP_TIMEOUT ≤ s.clk.dtc))) = true) :
    s.bisnpTimeout p t a = ((s.bump (K.PRT_VIOLATIONS p)).raise F.BLW_BISNP_TIMEOUT (elemPort p)).cicRaise 0x124 := by
  unfold State.bisnpTimeout
  rw [hwait]
  refine if_neg ?_
  rw [hup, hlate]
  decide

end

/-- Settles O37: the seven commands are one operation, which passes its guards. -/
theorem hostRequests : Obligations.HostRequests := by
  refine ⟨?snpData, ?snpInv, ?inv, ?snpCur, ?wr, ?wrPtl, ?clnEvct⟩ <;>
    exact fun s port r htakes => .of_effect rfl (State.hostRequest_of_takes _ htakes)

/-- Settles O38: each answer, conflict or timeout finds the transaction of the line that waits for the port, and a device's request its port and LD. -/
theorem backInvalidateCommands : Obligations.BackInvalidateCommands := by
  refine ⟨?invalid, ?shared, ?kept, ?conflict, ?timeout, ?device⟩
  case invalid =>
    intro s p a l hp x hwait s1
    have hsaid := State.hostAnswer_of_waiting 0 hp hwait
    refine .of_effect rfl ((hsaid ?allowed).trans ?keepsNone)
    case allowed => simp
    case keepsNone => simp only [Nat.zero_min, ite_self, if_true, s1, l]
  case shared =>
    intro s p a l hp x hwait kind hkind s1
    refine .of_effect rfl ((State.hostAnswer_of_waiting 1 hp hwait ?allowed).trans ?keepsShared)
    case allowed => exact not_or.2 ⟨fun h => hkind h.1, by simp⟩
    case keepsShared =>
      have hkeeps : (if kind = 0 then 0 else if kind = 1 then min 1 1 else 1) = 1 := by simp [hkind]
      rw [hkeeps]
      rfl
  case kept =>
    intro s p a l hp x hwait kind hkind hkind1 s1
    refine .of_effect rfl ((State.hostAnswer_of_waiting 2 hp hwait ?allowed).trans ?keepsAll)
    case allowed => exact not_or.2 ⟨fun h => hkind h.1, fun h => hkind1 h.1⟩
    case keepsAll =>
      have hkeeps : (if kind = 0 then 0 else if kind = 1 then min 2 1 else 2) = 2 := by simp [hkind, hkind1]
      rw [hkeeps]
      rfl
  case conflict =>
    intro s p t a x hwait
    refine .of_effect rfl ?_
    unfold State.biConflict
    rw [hwait]
  case timeout =>
    intro s p t a x hwait hup hlate
    exact .of_effect rfl (State.bisnpTimeout_of_late hwait hup hlate)
  case device =>
    intro s p ld a hp hrole hld hbound
    exact .of_effect rfl (if_neg (by simp [hp, hrole, hld, hbound]))

end Sys2Proof.Machine
end

section
/-! SUPPORT. Bellwether's messages over Twill links, and its directory (R273, R276, R282 to R292, R297 to R300). -/

namespace Sys2Proof.Machine

/-- Settles O39: each command is a row of the message table with its class and opcode, and the link takes it. -/
theorem coherenceMessagesOverTwill : Obligations.CoherenceMessagesOverTwill := by
  refine ⟨?rdShared, ?rdOwn, ?upgrade, ?rdCur, ?wrInv, ?wrInvPartial, ?atomicCoh, ?evict, ?fwdShared, ?fwdOwn, ?snpInv, ?snpData, ?snpCur, ?dataS,
    ?dataF, ?dataE, ?dataM, ?dataCur, ?wbM, ?snpDataI, ?snpDataS, ?snpDataKeep, ?bwCmp, ?gntOwn, ?snpI, ?snpS, ?snpIWb, ?fwdDone, ?fwdMissS,
    ?fwdMissI⟩ <;>
    exact fun s port m htakes => .of_row rfl htakes

/-! ### Which chapter takes the write -/

theorem writeHook_blwLookupLine (n : Nat) (v : List Byte) (s : State) :
    writeHook n K.BLW_LOOKUP_LINE v s = (Status.ok, s.lookupLine (field v 0 2) (field v 2 8)) := rfl

theorem writeHook_blwFlushFold (n : Nat) (v : List Byte) (s : State) : writeHook n K.BLW_FLUSH_FOLD v s = s.flushFold (leNat v) := rfl

section
variable {s : State} {t a : Nat}

theorem State.conflictNext_of_waiting {x : BlwTxn} (htxn : s.txnOf t (a / 64) = some x) (hwaits : x.waiting = true)
    (hfirst : s.blw.retry.any (fun r => r.2.2.1 == t && r.2.2.2 == a / 64) = false) :
    s.conflictNext t a =
      let s1 : State := { s with blw := { s.blw with txns := s.blw.txns.filter (fun y => !sameTxn x y) } }
      match x.queue with
      | [] => s1
      | r :: q => s1.work t (a / 64) r q := by
  unfold State.conflictNext
  rw [htxn]
  refine if_neg ?_
  rw [hwaits, hfirst]
  decide

/-- A request in a retry slot that finds room leaves its slot: it opens its line's transaction, takes over that of the queue, or joins the queue. -/
theorem State.retryNext_of_room {bank : Nat} {dev : Bool} {r : Nat × BlwReq × Nat × Nat}
    (hfound : s.blw.retry.find? (fun r => r.1 == 2 * bank + b2n dev) = some r) (hslots : s.slotsFull = false)
    (hroom : (allocates s r.2.1 && (s.allocate r.2.2.1 r.2.2.2 r.2.1.ofHost).isNone) = false) :
    let s1 := State.retryTurn { s with blw := { s.blw with retry := s.blw.retry.erase r } } bank (2 * bank + b2n dev)
    let begins := fun (u : State) (q : List BlwReq) =>
      if allocates u r.2.1 = false then u.openTxn r.2.2.1 r.2.2.2 r.2.1 q
      else match u.allocate r.2.2.1 r.2.2.2 r.2.1.ofHost with
        | none => s
        | some v => v.openTxn r.2.2.1 r.2.2.2 r.2.1 q
    s.retryNext bank dev =
      match s1.txnOf r.2.2.1 r.2.2.2 with
      | some y =>
        if y.waiting then begins { s1 with blw := { s1.blw with txns := s1.blw.txns.filter (fun z => !sameTxn y z) } } y.queue
        else s1.putTxn_ { y with queue := y.queue ++ [r.2.1] }
      | none => begins s1 [] := by
  unfold State.retryNext
  dsimp only
  rw [hfound]
  refine (if_neg (by rw [hslots, hroom]; decide)).trans ?_
  simp only [Bool.not_eq_true'] <;> rfl

end

/-- Settles O40: each event finds the entry, transaction or flush that it acts on, and each write reaches Bellwether's object.  A bulk flush takes
its lines at its grant and ends by a command (log entry 63). -/
theorem directoryCommands : Obligations.DirectoryCommands := by
  refine ⟨?retry, ?conflict, ?reissue, ?lookup, ?flushFold, ?grant, ?flushEnd, ?setEcc, ?rebuild, ?nearDirty, ?nearClean⟩
  case retry =>
    intro s bank dev r hfound hslots hroom s1 begins
    exact .of_effect rfl (State.retryNext_of_room hfound hslots hroom)
  case conflict =>
    intro s t a x htxn hwaits hfirst
    exact .of_effect rfl (State.conflictNext_of_waiting htxn hwaits hfirst)
  case reissue =>
    intro s t a e hentry hheld hdirty haway
    refine .of_effect rfl ?_
    unfold State.wbReissue
    rw [hentry]
    exact if_pos ⟨hheld, hdirty, by simp [haway]⟩
  case lookup =>
    intro s n t a hw
    exact .of_octets rfl hw (writeHook_blwLookupLine n _ s)
  case flushFold =>
    intro s n fold hw e he
    exact .of_write rfl hw ((writeHook_blwFlushFold n _ s).trans he)
  case grant =>
    intro s hgranted f hfound g s1
    refine .of_effect rfl ((if_neg (Nat.not_lt.2 hgranted)).trans ?_)
    rewrite [hfound]
    rfl
  case flushEnd =>
    intro s f hfound s1 s3
    refine .of_effect rfl ?_
    unfold State.flushEnd
    rewrite [hfound]
    rfl
  case setEcc =>
    intro s bank set k both hbank hset
    have hin : ¬(16 ≤ bank ∨ 16384 ≤ set) := not_or.2 ⟨Nat.not_le.2 hbank, Nat.not_le.2 hset⟩
    cases k with
    | corrected => exact .of_effect rfl (if_neg hin)
    | uncorrectable => exact .of_effect rfl (if_neg hin)
  case rebuild =>
    intro s bank set f hfound hlate mine s1 late
    refine .of_effect rfl ?_
    unfold State.rebuildTimeout
    rw [hfound]
    exact if_neg (Nat.not_lt.2 hlate)
  case nearDirty =>
    intro s t a e hentry hnear hdirty
    refine .of_effect rfl ?_
    unfold State.nearEcc
    rw [hentry]
    exact (if_neg (by simp [Option.isSome_iff_ne_none.1 hnear])).trans (if_pos hdirty)
  case nearClean =>
    intro s t a e hentry hnear hclean
    refine .of_effect rfl ?_
    unfold State.nearEcc
    rw [hentry]
    exact (if_neg (by simp [Option.isSome_iff_ne_none.1 hnear])).trans (if_neg (ne_true_of_eq_false hclean))

end Sys2Proof.Machine
end

section
/-! SUPPORT. How an instruction of an engine or a Croft core follows: the unit issues it, and it has its effect on the issued state (R326, R335,
R337). -/

namespace Sys2Proof.Machine

/-- An instruction that a unit may issue (R326), with its effect on the issued state. -/
theorem Gives.of_instr {c : Instr} {s e : State} {x : ExecUnit} {f : Nat → Thread → State → State}
    (hexec : exec c s = .next (settle (s.instr x f))) (hissue : s.mayIssue x = true) (he : f (unitNum x) (s.issuer x) (s.issued x) = e) :
    Gives c s e := .of_effect hexec ((instr_of_mayIssue hissue).trans he)

/-- An instruction that puts a result into `rd` (R335). -/
theorem Gives.of_alu {c : Instr} {s : State} {x : ExecUnit} {rd : Reg} {v : BitVec 64} (f : Thread → BitVec 64)
    (hexec : exec c s = .next (settle (s.alu x rd f))) (hissue : s.mayIssue x = true) (hv : f (s.issuer x) = v) : Gives c s (s.gets x rd v) :=
  .of_effect hexec ((alu_of_mayIssue hissue).trans (congrArg (s.gets x rd) hv))

/-- As above, where its reserved fields are 0. -/
theorem Gives.of_aluIf {c : Instr} {s : State} {x : ExecUnit} {rd : Reg} {v : BitVec 64} {ok : Bool} (f : Thread → BitVec 64)
    (hexec : exec c s = .next (settle (s.aluIf x ok rd f))) (hissue : s.mayIssue x = true) (hok : ok = true) (hv : f (s.issuer x) = v) :
    Gives c s (s.gets x rd v) :=
  .of_effect hexec ((aluIf_of_mayIssue hissue hok).trans (congrArg (s.gets x rd) hv))

/-- Settles O30: each row is an operation that the unit issues; CLZ, POPC and BSWAP have a reserved field. -/
theorem registerOperations : Obligations.RegisterOperations := by
  refine ⟨?add, ?sub, ?and, ?or, ?xor, ?sll, ?srl, ?sra, ?slt, ?sltu, ?mul, ?mulhu, ?divu, ?remu, ?min, ?max, ?minu, ?maxu, ?clz, ?popc, ?bswap,
    ?crc32c⟩
  case clz | popc | bswap =>
    intro s x rd ra rb t hissue hrb
    exact .of_aluIf _ rfl hissue (beq_iff_eq.2 hrb) rfl
  all_goals
    intro s x rd ra rb t hissue
    exact .of_alu _ rfl hissue rfl

/-- Settles O31: each row is an operation that the unit issues; a shift's immediate is below 64. -/
theorem immediateOperations : Obligations.ImmediateOperations := by
  refine ⟨?addi, ?andi, ?ori, ?xori, ?slli, ?srli, ?srai, ?slti, ?sltiu, ?lui, ?shlori⟩
  case slli | srli | srai =>
    intro s x rd ra imm t hissue himm
    exact .of_aluIf _ rfl hissue (decide_eq_true himm) rfl
  case lui =>
    intro s x rd ra imm hissue
    exact .of_alu _ rfl hissue rfl
  all_goals
    intro s x rd ra imm t hissue
    exact .of_alu _ rfl hissue rfl

end Sys2Proof.Machine
end

section
/-! SUPPORT. Local memory of engines and Croft cores (R331 to R333, R437). -/

namespace Sys2Proof.Machine

/-- A Croft core reads and writes the interrupt controller by words (R437). -/
theorem croftReg_of_ne {n : Nat} (u a : Nat) (h : n ≠ 4) : croftReg u a n = none := if_neg fun hreg => h hreg.2.1

section
variable {s : State} {x : ExecUnit} {rt ra : Reg} {off : BitVec 16} {n : Nat} (hissue : s.mayIssue x = true)
  (halign : ((s.issuer x).reg ra + sext off).toNat % n = 0)
include hissue halign

theorem State.load_of_seg {g : Seg} (signed : Bool) (hcroft : croftReg (unitNum x) ((s.issuer x).reg ra + sext off).toNat n = none)
    (hseg : (s.issued x).seg (unitNum x) ((s.issuer x).reg ra + sext off).toNat n = some g) (hgood : (s.issued x).segBad (unitNum x) g = false) :
    let v := leNat ((s.issued x).segRead (unitNum x) g n)
    s.load x rt ra off n signed = s.gets x rt (if signed then BitVec.ofInt 64 (sint (8 * n) v) else BitVec.ofNat 64 v) := by
  refine (instr_of_mayIssue hissue).trans ((if_neg (not_not_intro halign)).trans ?_)
  rw [hcroft, hseg]
  exact if_neg (ne_true_of_eq_false hgood)

/-- A Croft core reads a register of the interrupt controller (R437). -/
theorem State.load_of_croftReg {o v : Nat} {e : State} (signed : Bool)
    (hcroft : croftReg (unitNum x) ((s.issuer x).reg ra + sext off).toNat n = some o)
    (hread : (s.issued x).cicRead (unitNum x - 512) o = some (v, e)) :
    s.load x rt ra off n signed = e.putThread (unitNum x)
      (((s.issuer x).set rt (if signed then BitVec.ofInt 64 (sint (8 * n) v) else BitVec.ofNat 64 v)).next) := by
  refine (instr_of_mayIssue hissue).trans ((if_neg (not_not_intro halign)).trans ?_)
  rw [hcroft]
  dsimp only
  rw [hread]
  rfl

theorem State.store_of_seg {g : Seg} (hcroft : croftReg (unitNum x) ((s.issuer x).reg ra + sext off).toNat n = none)
    (hseg : (s.issued x).seg (unitNum x) ((s.issuer x).reg ra + sext off).toNat n = some g) (hwritable : g.writable = true) :
    s.store x rt ra off n =
      ((s.issued x).segWrite g (leBytes n ((s.issuer x).num rt))).putThread (unitNum x) (s.issuer x).next := by
  refine (instr_of_mayIssue hissue).trans ((if_neg (not_not_intro halign)).trans ?_)
  rw [hcroft, hseg]
  exact if_neg (by rw [hwritable]; decide)

/-- A Croft core writes a register of the interrupt controller (R437). -/
theorem State.store_of_croftReg {o : Nat} {e : State}
    (hcroft : croftReg (unitNum x) ((s.issuer x).reg ra + sext off).toNat n = some o)
    (hwrite : (s.issued x).cicWrite (unitNum x - 512) o ((s.issuer x).num rt % 2 ^ 32) = some e) :
    s.store x rt ra off n = e.putThread (unitNum x) (s.issuer x).next := by
  refine (instr_of_mayIssue hissue).trans ((if_neg (not_not_intro halign)).trans ?_)
  rw [hcroft]
  dsimp only
  rw [hwrite]
  rfl

end

/-- Settles O32: the address is aligned, and it lies in a segment or, for a Croft core's words, in the window of the interrupt controller (R437; log
entry 113). -/
theorem localMemoryInstructions : Obligations.LocalMemoryInstructions := by
  refine ⟨?ld8, ?ld16, ?ld32, ?ld64, ?lds8, ?lds16, ?lds32, ?st8, ?st16, ?st32, ?st64, ?ld32Croft, ?lds32Croft, ?st32Croft, ?latom⟩
  case ld8 | ld16 | ld64 =>
    intro s x rt ra off t u a hissue halign g hseg hgood v
    exact .of_effect rfl (State.load_of_seg hissue halign false (croftReg_of_ne _ _ (by decide)) hseg hgood)
  case lds8 | lds16 =>
    intro s x rt ra off t u a hissue halign g hseg hgood v
    exact .of_effect rfl (State.load_of_seg hissue halign true (croftReg_of_ne _ _ (by decide)) hseg hgood)
  case ld32 =>
    intro s x rt ra off t u a hissue halign hcroft g hseg hgood v
    exact .of_effect rfl (State.load_of_seg hissue halign false hcroft hseg hgood)
  case lds32 =>
    intro s x rt ra off t u a hissue halign hcroft g hseg hgood v
    exact .of_effect rfl (State.load_of_seg hissue halign true hcroft hseg hgood)
  case st8 | st16 | st64 =>
    intro s x rt ra off t u a hissue halign g hseg hwritable
    exact .of_effect rfl (State.store_of_seg hissue halign (croftReg_of_ne _ _ (by decide)) hseg hwritable)
  case st32 =>
    intro s x rt ra off t u a hissue halign hcroft g hseg hwritable
    exact .of_effect rfl (State.store_of_seg hissue halign hcroft hseg hwritable)
  case ld32Croft =>
    intro s x rt ra off t u a hissue halign o hcroft v e hread
    exact .of_effect rfl (State.load_of_croftReg hissue halign false hcroft hread)
  case lds32Croft =>
    intro s x rt ra off t u a hissue halign o hcroft v e hread
    exact .of_effect rfl (State.load_of_croftReg hissue halign true hcroft hread)
  case st32Croft =>
    intro s x rt ra off t u a hissue halign o hcroft e hwrite
    exact .of_effect rfl (State.store_of_croftReg hissue halign hcroft hwrite)
  case latom =>
    intro s x rd ra rb size8 func t u n hissue hlo hhi halign k hseg hgood old
    have hfunc : ¬(func.toNat = 0 ∨ 10 < func.toNat) := not_or.2 ⟨Nat.ne_of_gt hlo, Nat.not_lt.2 hhi⟩
    refine .of_instr rfl hissue ((if_neg hfunc).trans ((if_neg (not_not_intro halign)).trans ?_))
    rw [hseg]
    exact if_neg (ne_true_of_eq_false hgood)

end Sys2Proof.Machine
end

section
/-! SUPPORT. Branches, jumps, control registers, waits and exceptions of engines and Croft cores (R329, R335, R337, R346, R348 to R351, R358). -/

namespace Sys2Proof.Machine

section
variable {s : State} {x : ExecUnit} (hexists : unitExists x = true)
include hexists

theorem State.timeLimitHit_of_late (hengine : unitNum x < 512) (hbusy : (s.thread (unitNum x)).busy = true)
    (hruns : (s.thread (unitNum x)).draining.isSome = false)
    (hlate : (s.thread (unitNum x)).startAt + s.timeLimit (s.thread (unitNum x)) ≤ s.clk.dtc) :
    s.timeLimitHit x = s.exception (unitNum x) X.TIME_LIMIT :=
  if_neg (by simp [hexists, hengine, hbusy, Option.isSome_eq_false_iff.1 hruns, hlate])

/-- A condition that the WAIT enables ends it (R346). -/
theorem State.waitWake_of_holds {rd mask since ticks : Nat} (hsleep : (s.thread (unitNum x)).sleep = .wait rd mask since ticks)
    (hholds : (s.waitConds (s.thread (unitNum x)) since ticks).land mask ≠ 0) :
    s.waitWake x = s.wake (unitNum x) (fun t =>
      { t.setNum rd ((s.waitConds (s.thread (unitNum x)) since ticks).land mask) with completed := false }) := by
  unfold State.waitWake
  dsimp only
  rw [hsleep]
  exact if_neg (not_or.2 ⟨by simp [hexists], fun h => hholds h.1⟩)

variable (hready : (s.thread (unitNum x)).ready = true)
include hready

/-- A pc that is no word of the program's code (R348). -/
theorem State.instr_of_pcOut (f : Nat → Thread → State → State) (hengine : unitNum x < 512) (hprog : (s.thread (unitNum x)).prog < 64)
    (hout : (s.thread (unitNum x)).pc % 4 ≠ 0 ∨ s.codeSize (s.thread (unitNum x)).prog ≤ (s.thread (unitNum x)).pc) :
    s.instr x f = s.exception (unitNum x) X.PC_RANGE :=
  (if_neg (by simp [hexists, hready])).trans (if_pos ⟨hengine, hprog, hout⟩)

variable (hcode : ¬(unitNum x < 512 ∧ (s.thread (unitNum x)).prog < 64 ∧
  ((s.thread (unitNum x)).pc % 4 ≠ 0 ∨ s.codeSize (s.thread (unitNum x)).prog ≤ (s.thread (unitNum x)).pc)))
include hcode

/-- An instruction that the program's ABI does not have (R351). -/
theorem State.instr_of_laterWord (f : Nat → Thread → State → State) (hlater : s.laterWord (unitNum x) = true) :
    s.instr x f = s.exception (unitNum x) X.ILLEGAL :=
  (if_neg (by simp [hexists, hready])).trans ((if_neg hcode).trans (if_pos hlater))

theorem State.mayIssue_of_inCode (hlisted : s.laterWord (unitNum x) = false) : s.mayIssue x = true := by
  have hpc : (decide (unitNum x < 512) && decide ((s.thread (unitNum x)).prog < 64) &&
      ((s.thread (unitNum x)).pc % 4 != 0 || decide (s.codeSize (s.thread (unitNum x)).prog ≤ (s.thread (unitNum x)).pc))) = false := by
    rw [← Bool.not_eq_true]
    simpa [and_assoc] using hcode
  simp only [State.mayIssue, hexists, hready, hpc, hlisted, Bool.not_false, Bool.and_true]

end

/-- Settles O33: the unit issues the instruction, and its operands are in order; an event of a thread finds it late or its condition true.  WAIT with
bit 2 and IMM 0 is log entry 69, entering a mode log entry 114, and words added after an ABI log entry 117. -/
theorem controlInstructions : Obligations.ControlInstructions := by
  refine ⟨?beq, ?bne, ?blt, ?bge, ?bltu, ?bgeu, ?jal, ?jalr, ?csrr, ?moveClass, ?moveSrc, ?fold, ?waitNone, ?waitOver, ?wait, ?waitWake, ?halt,
    ?trap, ?yield, ?eret, ?timeLimit, ?illegal, ?pcOut, ?laterWord⟩
  case beq =>
    intro s x ra rb offset t hissue
    exact .of_instr rfl hissue (congrArg (s.goesOn x) (ite_congr (propext beq_iff_eq) (fun _ => rfl) (fun _ => rfl)))
  case bne =>
    intro s x ra rb offset t hissue
    exact .of_instr rfl hissue (congrArg (s.goesOn x) (ite_congr (propext bne_iff_ne) (fun _ => rfl) (fun _ => rfl)))
  case blt | bltu =>
    intro s x ra rb offset t hissue
    exact .of_instr rfl hissue rfl
  case bge | bgeu =>
    intro s x ra rb offset t hissue
    exact .of_instr rfl hissue (congrArg (s.goesOn x) (ite_congr (Bool.not_eq_true' _) (fun _ => rfl) (fun _ => rfl)))
  case jal =>
    intro s x rd offset t hissue
    exact .of_instr rfl hissue rfl
  case jalr =>
    intro s x rd ra imm t hissue
    exact .of_instr rfl hissue rfl
  case csrr =>
    intro s x rd ra imm t hissue v hcsr hopen
    refine .of_instr rfl hissue ?_
    rw [hcsr]
    exact if_neg hopen
  case moveClass =>
    intro s x rd ra imm t hissue hcsr hvalue
    refine .of_instr rfl hissue ?_
    dsimp only
    rw [hcsr]
    exact if_neg (Nat.not_lt.2 hvalue)
  case moveSrc =>
    intro s x rd ra imm t hissue hcsr hvalue
    refine .of_instr rfl hissue ?_
    dsimp only
    rw [hcsr]
    exact if_neg (Nat.not_le.2 hvalue)
  case fold =>
    intro s x rd ra imm t hissue hcsr hcroft hvalue
    refine .of_instr rfl hissue ?_
    dsimp only
    rw [hcsr]
    exact (if_neg (Nat.not_lt.2 hcroft)).trans (if_neg (Nat.not_lt.2 hvalue))
  case waitNone =>
    intro s x rd ra imm t mask hissue hmask
    exact .of_instr rfl hissue (if_pos hmask)
  case waitOver =>
    intro s x rd ra imm t mask hissue hticks hbit hcompleted
    have hmask : mask ≠ 0 := fun h => by rw [h] at hbit; exact absurd hbit (by decide)
    exact .of_instr rfl hissue ((if_neg hmask).trans ((if_neg hticks).trans (if_pos ⟨hbit, hcompleted⟩)))
  case wait =>
    intro s x rd ra imm t mask hissue hmask hticks hopen s1
    exact .of_instr rfl hissue ((if_neg hmask).trans ((if_neg hticks).trans (if_neg hopen)))
  case waitWake =>
    intro s x u t hexists rd mask since ticks hsleep hholds
    exact .of_effect rfl (State.waitWake_of_holds hexists hsleep hholds)
  case halt =>
    intro s x t hissue
    exact .of_instr rfl hissue rfl
  case trap =>
    intro s x hissue
    exact .of_instr rfl hissue rfl
  case yield =>
    intro s x hissue
    exact .of_instr rfl hissue rfl
  case eret =>
    intro s x t hissue hcroft
    exact .of_instr rfl hissue (if_neg (Nat.not_lt.2 hcroft))
  case timeLimit =>
    intro s x u t hexists hengine hbusy hruns hlate
    exact .of_effect rfl (State.timeLimitHit_of_late hexists hengine hbusy hruns hlate)
  case illegal =>
    intro s x word hissue hunlisted
    have hword : ¬(listedWord word.toNat &&
        !(decide (bits word.toNat 31 26 = 0x3C ∨ bits word.toNat 31 26 = 0x3D) &&
          (s.csr (unitNum x) (s.thread (unitNum x)) (bits word.toNat 11 0)).isNone)) = true := by
      rw [hunlisted, Bool.false_and]
      decide
    exact .of_effect rfl ((if_neg hword).trans (instr_of_mayIssue hissue))
  case pcOut =>
    intro s x u t hexists hready hengine hprog hout
    exact .of_effect rfl (State.instr_of_pcOut hexists hready _ hengine hprog hout)
  case laterWord =>
    intro s x u t major hexists hready hengine hprog hmajor halign hin
    have hcode : ¬(u < 512 ∧ t.prog < 64 ∧ (t.pc % 4 ≠ 0 ∨ s.codeSize t.prog ≤ t.pc)) := fun h =>
      h.2.2.elim (fun hpc => hpc halign) (fun hpc => Nat.not_le.2 hin hpc)
    have hword : s.laterWord u = Config.addedAfter major (field (s.image t.prog) (256 + t.pc) 4) := by
      have hold : decide (u < 512 ∧ t.prog < 64 ∧ major < 3) = true := decide_eq_true ⟨hengine, hprog, hmajor⟩
      exact (congrArg (· && _) hold).trans (Bool.true_and _)
    cases hlater : Config.addedAfter major (field (s.image t.prog) (256 + t.pc) 4) with
    | true => exact .of_effect rfl (State.instr_of_laterWord hexists hready hcode _ (hword.trans hlater))
    | false => exact .of_instr rfl (State.mayIssue_of_inCode hexists hready hcode (hword.trans hlater)) rfl

end Sys2Proof.Machine
end

section
/-! SUPPORT. Fabric instructions: reads, writes, atomics, MOVEs and their completion, handles, fences and leave (R338 to R344). -/

namespace Sys2Proof.Machine

section
variable {s : State} {x : ExecUnit} {f : FFields}

/-! ### Instructions that start operations -/

/-- The operation that FRD and FWR start: a read, or a write with its data (R339). -/
def fabricOpOf (s : State) (x : ExecUnit) (f : FFields) (write : Bool) (g : Seg) : FabOp :=
  let t := s.issuer x
  let len := t.num f.rc % 2 ^ 32
  { handle := 0, kind := b2n write, space := f.space.toNat, remote := t.num f.ra, feid := bits (t.num f.rc) 63 48
    cls := classOf (f.flags.toNat % 4), len := len, local_ := t.num f.rb
    data := if write then (s.issued x).segRead (unitNum x) g len else [] }

/-- FRD and FWR whose fields are in order, and whose local range lies in a segment that takes or gives the data (R338, R339). -/
theorem State.fabricOp_of_sound {g : Seg} {write : Bool} (htracker : s.noTracker false = false) (hissue : s.mayIssue x = true)
    (hcls : f.flags.toNat % 4 ≠ 3) (hflags : f.flags.toNat < 8) (hreserved : bits ((s.issuer x).num f.rc) 47 32 = 0)
    (hfeid : f.space.toNat = 2 ∨ bits ((s.issuer x).num f.rc) 63 48 = 0)
    (hspace : (s.issued x).spaceBad (unitNum x) f.space.toNat = false) (hlo : 1 ≤ (s.issuer x).num f.rc % 2 ^ 32)
    (hhi : (s.issuer x).num f.rc % 2 ^ 32 ≤ 8192)
    (hseg : (s.issued x).seg (unitNum x) ((s.issuer x).num f.rb) ((s.issuer x).num f.rc % 2 ^ 32) = some g)
    (htakes : (!write && !g.writable) = false) (hgives : (write && (s.issued x).segBad (unitNum x) g) = false) :
    s.fabricOp x f write = (s.issued x).opStart (unitNum x) f.rd (fabricOpOf s x f write g) (bit f.flags.toNat 2) := by
  have hform : ¬(f.flags.toNat % 4 = 3 ∨ 8 ≤ f.flags.toNat ∨ bits ((s.issuer x).num f.rc) 47 32 ≠ 0 ∨
      (f.space.toNat ≠ 2 ∧ bits ((s.issuer x).num f.rc) 63 48 ≠ 0)) :=
    not_or.2 ⟨hcls, not_or.2 ⟨Nat.not_le.2 hflags, not_or.2 ⟨not_not_intro hreserved, fun h => hfeid.elim h.1 h.2⟩⟩⟩
  have hlen : ¬((s.issuer x).num f.rc % 2 ^ 32 = 0 ∨ 8192 < (s.issuer x).num f.rc % 2 ^ 32) :=
    not_or.2 ⟨Nat.ne_of_gt hlo, Nat.not_lt.2 hhi⟩
  refine (if_neg (ne_true_of_eq_false htracker)).trans ((instr_of_mayIssue hissue).trans ?_)
  refine (if_neg hform).trans ((if_neg (ne_true_of_eq_false hspace)).trans ((if_neg hlen).trans ?_))
  rewrite [hseg]
  exact (if_neg (ne_true_of_eq_false htakes)).trans (if_neg (ne_true_of_eq_false hgives))

/-- The operation of a FATOM (R340). -/
def fatomOf (t : Thread) (f : FFields) (n : Nat) : FabOp :=
  { handle := 64, kind := 2, space := f.space.toNat, remote := t.num f.ra, len := n, data := leBytes 8 (t.num f.rb), code := f.flags.toNat
    feid := if f.space.toNat = 2 then bits (t.num f.rc) 63 48 else 0, cmp := t.num f.rc }

/-- A FATOM whose fields are in order, with an aligned address and a code that its space takes (R338, R340). -/
theorem State.fatom_of_sound {n : Nat} (htracker : s.noTracker false = false) (hissue : s.mayIssue x = true) (hlo : 1 ≤ f.flags.toNat)
    (hhi : f.flags.toNat ≤ 10) (hcompare : f.flags.toNat = 6 ∨ f.rc = 0) (hspace : (s.issued x).spaceBad (unitNum x) f.space.toNat = false)
    (halign : (s.issuer x).num f.ra % n = 0)
    (hhost : ¬(f.space.toNat = 1 ∧ f.flags.toNat ≠ 1 ∧ f.flags.toNat ≠ 5 ∧ f.flags.toNat ≠ 6)) :
    s.fatom x f n = ((s.goesOn x { (s.issuer x).next with ops := (s.issuer x).ops ++ [fatomOf (s.issuer x) f n] }).sleep (unitNum x)
      (.atom f.rd.toNat)).opIssue (unitNum x) 64 := by
  have hform : ¬(f.flags.toNat = 0 ∨ 10 < f.flags.toNat ∨ (f.flags.toNat ≠ 6 ∧ f.rc ≠ 0)) :=
    not_or.2 ⟨Nat.ne_of_gt hlo, not_or.2 ⟨Nat.not_lt.2 hhi, fun h => hcompare.elim h.1 h.2⟩⟩
  refine (if_neg (ne_true_of_eq_false htracker)).trans ((instr_of_mayIssue hissue).trans ?_)
  exact (if_neg hform).trans ((if_neg (ne_true_of_eq_false hspace)).trans ((if_neg (not_not_intro halign)).trans (if_neg hhost)))

/-- The FEID of a MOVE's source: that of MOVESRC where it is valid, else that of the destination (R343). -/
def moveSrcFeid (t : Thread) (f : FFields) : Nat := if bit t.moveSrc 16 then t.moveSrc % 65536 else bits (t.num f.rc) 63 48

/-- The operation of a MOVE (R343). -/
def moveOf (t : Thread) (f : FFields) (kind : Nat) : FabOp :=
  { handle := 0, kind := 3, mkind := kind, space := f.space.toNat, remote := t.num f.ra, feid := bits (t.num f.rc) 63 48, cls := 6 + t.moveClass
    len := t.num f.rc % 2 ^ 40, srcSpace := f.flags.toNat % 4, src := t.num f.rb, srcFeid := moveSrcFeid t f }

/-- A MOVE whose checks pass: the form of its kind, its spaces, its length, the local range of kind 3, and no overlap of kind 0 (R343). -/
theorem State.move_of_sound {kind : Nat} (htracker : s.noTracker false = false) (hissue : s.mayIssue x = true)
    (hform : ¬(f.flags.toNat / 4 ≠ kind ∨ (kind ≠ 0 ∧ f.flags.toNat % 4 ≠ 0)))
    (hspace : (s.issued x).spaceBad (unitNum x) f.space.toNat = false)
    (hcopy : kind = 0 → (s.issued x).spaceBad (unitNum x) (f.flags.toNat % 4) = false ∧
      ¬(f.flags.toNat % 4 = 2 ∧ bit (s.issuer x).moveSrc 16 = false ∧ f.space.toNat ≠ 2))
    (hlo : 1 ≤ (s.issuer x).num f.rc % 2 ^ 40) (hhi : kind = 3 → (s.issuer x).num f.rc % 2 ^ 40 ≤ 16384)
    (hlocal : kind = 3 → ∃ g, (s.issued x).seg (unitNum x) ((s.issuer x).num f.rb) ((s.issuer x).num f.rc % 2 ^ 40) = some g ∧
      (s.issued x).segBad (unitNum x) g = false)
    (hapart : ¬(kind = 0 ∧ f.space.toNat = f.flags.toNat % 4 ∧
      (f.space.toNat ≠ 2 ∨ bits ((s.issuer x).num f.rc) 63 48 = moveSrcFeid (s.issuer x) f) ∧
      (s.issuer x).num f.ra < (s.issuer x).num f.rb + (s.issuer x).num f.rc % 2 ^ 40 ∧
      (s.issuer x).num f.rb < (s.issuer x).num f.ra + (s.issuer x).num f.rc % 2 ^ 40)) :
    s.move x f kind = (s.issued x).opStart (unitNum x) f.rd (moveOf (s.issuer x) f kind) false := by
  have hspaces : ¬((s.issued x).spaceBad (unitNum x) f.space.toNat = true ∨
      (kind = 0 ∧ (s.issued x).spaceBad (unitNum x) (f.flags.toNat % 4) = true) ∨
      (kind = 0 ∧ f.flags.toNat % 4 = 2 ∧ (!bit (s.issuer x).moveSrc 16) = true ∧ f.space.toNat ≠ 2)) := by
    refine not_or.2 ⟨ne_true_of_eq_false hspace, not_or.2 ⟨fun h => ne_true_of_eq_false (hcopy h.1).1 h.2, fun h => ?_⟩⟩
    obtain ⟨hkind, hsrc, hvalid, hdst⟩ := h
    exact (hcopy hkind).2 ⟨hsrc, by simpa using hvalid, hdst⟩
  have hlen : ¬((s.issuer x).num f.rc % 2 ^ 40 = 0 ∨ (if kind = 3 then 16384 else 2 ^ 40) < (s.issuer x).num f.rc % 2 ^ 40) :=
    not_or.2 ⟨Nat.ne_of_gt hlo, Nat.not_lt.2 (by split <;> omega)⟩
  have hrange : ¬(kind = 3 ∧
      ((s.issued x).seg (unitNum x) ((s.issuer x).num f.rb) ((s.issuer x).num f.rc % 2 ^ 40)).isNone = true) := by
    rintro ⟨hkind, hnone⟩
    obtain ⟨g, hseg, -⟩ := hlocal hkind
    rw [hseg] at hnone
    exact Bool.noConfusion hnone
  have hgood : ¬(kind = 3 ∧ ((s.issued x).seg (unitNum x) ((s.issuer x).num f.rb) ((s.issuer x).num f.rc % 2 ^ 40)).any
      ((s.issued x).segBad (unitNum x)) = true) := by
    rintro ⟨hkind, hany⟩
    obtain ⟨g, hseg, hbad⟩ := hlocal hkind
    rw [hseg] at hany
    exact ne_true_of_eq_false hbad hany
  refine (if_neg (ne_true_of_eq_false htracker)).trans ((instr_of_mayIssue hissue).trans ?_)
  exact (if_neg hform).trans ((if_neg hspaces).trans ((if_neg hlen).trans ((if_neg hrange).trans ((if_neg hgood).trans (if_neg hapart)))))

/-! ### Completion -/

section
variable {h : Nat} {o : FabOp} (hop : (s.thread (unitNum x)).op h = some o) (hexists : unitExists x = true)
  (hruns : (s.thread (unitNum x)).draining.isSome = false) (hopen : o.isDone = false) (hfree : o.held = false) (hempty : o.open_.isEmpty = true)
include hop hexists hruns hopen hfree hempty

/-- The messages of a MOVE's chunk are answered, and `status` is the operation's (R343). -/
theorem State.chunkComplete_of_answered {status : Nat} (hkind : o.kind = 3) (hstatus : o.status = status) (hwrote : ¬(status = 0 ∧ !o.writing)) :
    s.chunkComplete x h status =
      if status ≠ 0 then s.opDone (unitNum x) h status o.done
      else
        let n := o.chunk
        let s1 := if 512 ≤ unitNum x then s else
          (s.add (K.DRV_MOVER_BYTES (clusterOf (unitNum x))) n).countN 0x8002 (clusterOf (unitNum x)) (ceilDiv n 64)
        let s2 := s1.onThread (unitNum x) (·.putOp { o with done := o.done + n, writing := false, got := [] })
        if o.done + n = o.len then s2.opDone (unitNum x) h 0 o.len
        else if s.noTracker false then s
        else s2.opIssue (unitNum x) h := by
  have hgo : ¬((!unitExists x) = true ∨ (s.thread (unitNum x)).draining.isSome = true ∨ o.isDone = true ∨ o.held = true ∨
      (!o.open_.isEmpty) = true ∨ o.kind ≠ 3 ∨ o.status ≠ status ∨ (status = 0 ∧ (!o.writing) = true)) := by
    rw [hexists, hruns, hopen, hfree, hempty]
    simpa [hkind, hstatus] using hwrote
  unfold State.chunkComplete
  dsimp only
  rewrite [hop]
  exact if_neg hgo

end

/-- The governor's answer reaches an engine's thread that sleeps in LEAVE (R344). -/
theorem State.leaveGrant_of_answered {rd : Nat} {a : GovAnswer} (hsleep : (s.thread (unitNum x)).sleep = .leave rd)
    (hanswer : s.leaveAnswer (unitNum x) = some a) (hengine : unitNum x < 512) :
    s.leaveGrant x = ({ s with gov := { s.gov with answers := s.gov.answers.erase a } } : State).wake (unitNum x)
      (fun t => { t.setNum rd a.given with leave := a.given }) := by
  unfold State.leaveGrant
  dsimp only
  rewrite [hsleep, hanswer]
  exact if_neg (Nat.not_le.2 hengine)

end

/-- Settles O34: the instruction issues, and its fields pass the checks; an operation that completes has every message answered.  LEAVE as the least of 7
and its operand and FFENCE's count are log entry 69, the FEID of a FATOM's rc log entry 72. -/
theorem fabricInstructions : Obligations.FabricInstructions := by
  refine ⟨?frd, ?fwr, ?fatom32, ?fatom64, ?moveCopy, ?moveFill, ?moveZero, ?moveLocal, ?chunk, ?complete, ?fwaithDone, ?fwaithOpen, ?fpollAtom,
    ?fpollDone, ?fpollOpen, ?ffenceDone, ?ffenceOpen, ?leaveNone, ?leave, ?grant⟩
  case frd =>
    intro s x f t u htracker hissue hcls hflags hreserved hfeid hspace len hlo hhi g hseg hwritable
    exact .of_effect rfl (State.fabricOp_of_sound htracker hissue hcls hflags hreserved hfeid hspace hlo hhi hseg (by simp [hwritable]) rfl)
  case fwr =>
    intro s x f t u htracker hissue hcls hflags hreserved hfeid hspace len hlo hhi g hseg hgood
    exact .of_effect rfl (State.fabricOp_of_sound htracker hissue hcls hflags hreserved hfeid hspace hlo hhi hseg rfl hgood)
  case fatom32 | fatom64 =>
    intro s x f t u htracker hissue hlo hhi hcompare hspace halign hhost o
    exact .of_effect rfl (State.fatom_of_sound htracker hissue hlo hhi hcompare hspace halign hhost)
  case moveCopy =>
    intro s x f t u htracker hissue hkind hspace hsrc hfeid len hlo feid srcFeid hapart
    refine .of_effect rfl (State.move_of_sound htracker hissue (by simp [hkind]) hspace (fun _ => ⟨hsrc, hfeid⟩) hlo nofun nofun ?_)
    exact fun h => hapart h.2
  case moveFill | moveZero =>
    intro s x f t u htracker hissue hkind hsrc hspace len hlo feid srcFeid
    exact .of_effect rfl (State.move_of_sound htracker hissue (by simp [hkind, hsrc]) hspace nofun hlo nofun nofun nofun)
  case moveLocal =>
    intro s x f t u htracker hissue hkind hsrc hspace len hlo hhi g hseg hgood feid srcFeid
    exact .of_effect rfl (State.move_of_sound htracker hissue (by simp [hkind, hsrc]) hspace nofun hlo (fun _ => hhi) (fun _ => ⟨g, hseg, hgood⟩) nofun)
  case chunk =>
    intro s x h status u t o hop hexists hruns hopen hfree hempty hkind hstatus hwrote
    exact .of_effect rfl (State.chunkComplete_of_answered hop hexists hruns hopen hfree hempty hkind hstatus hwrote)
  case complete =>
    intro s x h u t o hop hexists hruns hopen hfree hempty hkind st
    have hgo : ¬((!unitExists x) = true ∨ t.draining.isSome = true ∨ o.isDone = true ∨ o.held = true ∨ (!o.open_.isEmpty) = true ∨
        o.kind = 3) := by
      rw [hexists, hruns, hopen, hfree, hempty]
      simpa using hkind
    refine .of_effect rfl ?_
    unfold State.opComplete
    dsimp only
    rewrite [hop]
    refine (if_neg hgo).trans ?_
    -- What the thread sleeps for after an atomic is the same on both sides; without its form the two sides agree by their definitions.
    generalize (State.thread (State.opDone _ _ _ _ _) _).sleep = w
    rfl
  case fwaithDone =>
    intro s x f t hissue hhandle o hop r hresult
    refine .of_instr rfl hissue ?_
    dsimp only
    rewrite [if_pos hhandle, hop]
    dsimp only
    rewrite [hresult]
    rfl
  case fwaithOpen =>
    intro s x f t u hissue hhandle o hop hresult
    refine .of_instr rfl hissue ?_
    dsimp only
    rewrite [if_pos hhandle, hop]
    dsimp only
    rewrite [hresult]
    rfl
  case fpollAtom =>
    intro s x f t hissue hatom
    exact .of_instr rfl hissue (if_pos hatom)
  case fpollDone =>
    intro s x f t hissue hhandle o hop r hresult
    have hne : t.num f.ra ≠ 0xFF := by omega
    refine .of_instr rfl hissue ((if_neg hne).trans ?_)
    rewrite [if_pos hhandle, hop]
    dsimp only
    rewrite [hresult]
    rfl
  case fpollOpen =>
    intro s x f t hissue hhandle o hop hresult
    have hne : t.num f.ra ≠ 0xFF := by omega
    refine .of_instr rfl hissue ((if_neg hne).trans ?_)
    rewrite [if_pos hhandle, hop]
    dsimp only
    rewrite [hresult]
    rfl
  case ffenceDone =>
    intro s x f t hissue hdone
    exact .of_instr rfl hissue (if_pos hdone)
  case ffenceOpen =>
    intro s x f t u hissue hopen
    exact .of_instr rfl hissue (if_neg (ne_true_of_eq_false hopen))
  case leaveNone =>
    intro s x f t u hissue hnone
    exact .of_instr rfl hissue (if_pos hnone)
  case leave =>
    intro s x f t u hissue hsteps hengine
    exact .of_instr rfl hissue (if_neg (not_or.2 ⟨hsteps, Nat.not_le.2 hengine⟩))
  case grant =>
    intro s x u rd hsleep a hanswer hengine
    exact .of_effect rfl (State.leaveGrant_of_answered hsleep hanswer hengine)

end Sys2Proof.Machine
end

section
/-! SUPPORT. The service programs COPY, FILL, ZERO, CRC32C and COMPARE (R355, R375). -/

namespace Sys2Proof.Machine

section
variable {s : State} {x : ExecUnit} {prog : Nat} (hexists : unitExists x = true) (hready : (s.thread (unitNum x)).ready = true)
  (hprog : (s.thread (unitNum x)).prog = 64 + prog) (htracker : s.noTracker false = false)
include hexists hready hprog htracker

/-- A thread that runs a service program takes its next step where a tracker is free (R25, R355). -/
theorem State.serviceSteps :
    ¬((!unitExists x) = true ∨ (!(s.thread (unitNum x)).ready) = true ∨ (s.thread (unitNum x)).prog ≠ 64 + prog ∨ s.noTracker false = true) := by
  simp [hexists, hready, hprog, htracker]

/-! ### COPY, FILL and ZERO -/

section
variable {kind : Nat}

/-- The first step: an overlapping copy ends, a copy above 64 MiB asks for leave, and any other range is one MOVE. -/
theorem State.serviceMove_of_start (hstep : (s.thread (unitNum x)).step = 0) :
    let u := unitNum x
    let d := (s.thread u).desc
    s.serviceMove x prog kind =
      if kind = 0 ∧ descSrcSpace d = descDstSpace d ∧ descSrc d < descDst d + descLen d ∧ descDst d < descSrc d + descLen d then
        s.serviceEnd u 11 0
      else if kind = 0 ∧ 64 * 2 ^ 20 < descLen d then
        ((s.onThread u (fun t => { t with step := 1 })).sleep u (.leave 0)).govRequest (clusterOf u) 7 u
      else ((s.onThread u (fun t => { t with step := 2 })).serviceOp u (descMove d kind 0 (descLen d))).serviceAwait u := by
  refine (if_neg (State.serviceSteps hexists hready hprog htracker)).trans ?_
  dsimp only
  rewrite [hstep]
  rfl

/-- With its leave a long copy issues its eight MOVEs. -/
theorem State.serviceMove_of_leave (hstep : (s.thread (unitNum x)).step = 1) :
    let u := unitNum x
    let d := (s.thread u).desc
    s.serviceMove x prog kind =
      (forEach (List.range 8) (fun s i =>
        s.serviceOp u (descMove d kind (descLen d * i / 8) (descLen d * (i + 1) / 8 - descLen d * i / 8)))
        (s.onThread u (fun t => { t with step := 2 }))).serviceAwait u := by
  refine (if_neg (State.serviceSteps hexists hready hprog htracker)).trans ?_
  dsimp only
  rewrite [hstep]
  rfl

/-- The program ends with what its MOVEs amount to. -/
theorem State.serviceMove_of_done (hstep : (s.thread (unitNum x)).step = 2) (hdone : (s.thread (unitNum x)).ops.all (·.isDone) = true) :
    let r := movesResult (s.thread (unitNum x)).ops
    s.serviceMove x prog kind = s.serviceEnd (unitNum x) r.1 r.2 := by
  refine (if_neg (State.serviceSteps hexists hready hprog htracker)).trans ?_
  dsimp only
  rewrite [hstep]
  exact if_pos hdone

end

end

section
variable {s : State} {x : ExecUnit} (hexists : unitExists x = true) (hready : (s.thread (unitNum x)).ready = true)
  (htracker : s.noTracker false = false)
include hexists hready htracker

/-! ### CRC32C -/

theorem State.serviceCrc_of_start (hprog : (s.thread (unitNum x)).prog = 68) (hops : (s.thread (unitNum x)).ops = []) :
    let u := unitNum x
    let t := s.thread u
    let d := t.desc
    s.serviceCrc x =
      ((s.onThread u (fun t => { t with acc := descArg d % 2 ^ 32 })).serviceOp u
        (serviceRead (descSrcSpace d) (descSrc d + 8192 * t.step) 0 (min 8192 (descLen d - 8192 * t.step)))).serviceAwait u := by
  refine (if_neg (State.serviceSteps hexists hready hprog htracker)).trans ?_
  dsimp only
  rewrite [hops]
  rfl

/-- The last piece has been read. -/
theorem State.serviceCrc_of_last {o : FabOp} {r : List FabOp} (hprog : (s.thread (unitNum x)).prog = 68)
    (hops : (s.thread (unitNum x)).ops = o :: r) (hresult : o.result = some 0)
    (hgood : s.segBad (unitNum x) (.scratch (16384 * unitNum x)) = false)
    (hlast : descLen (s.thread (unitNum x)).desc ≤ 8192 * ((s.thread (unitNum x)).step + 1)) :
    let u := unitNum x
    let t := s.thread u
    s.serviceCrc x = s.serviceEnd u 0 ((s.segRead u (.scratch (16384 * u)) (min 8192 (descLen t.desc - 8192 * t.step))).foldl
      (fun c b => crcByte 0x82F63B78 8 (c.xor b.toNat)) t.acc) := by
  refine (if_neg (State.serviceSteps hexists hready hprog htracker)).trans ?_
  dsimp only
  rewrite [hops]
  dsimp only
  rewrite [hresult]
  exact (if_neg (by decide)).trans ((if_neg (ne_true_of_eq_false hgood)).trans (if_pos hlast))

/-! ### COMPARE -/

theorem State.serviceCompare_of_start (hprog : (s.thread (unitNum x)).prog = 69) (hops : (s.thread (unitNum x)).ops = []) :
    let u := unitNum x
    let t := s.thread u
    let d := t.desc
    let n := min 4096 (descLen d - 4096 * t.step)
    s.serviceCompare x =
      ((s.serviceOp u (serviceRead (descSrcSpace d) (descSrc d + 4096 * t.step) 0 n)).serviceOp u
        (serviceRead (descDstSpace d) (descDst d + 4096 * t.step) 0x1000 n)).serviceAwait u :=
  (if_neg (State.serviceSteps hexists hready hprog htracker)).trans (if_pos (List.isEmpty_iff.2 hops))

/-- Both pieces have been read, and the compared ranges end with them. -/
theorem State.serviceCompare_of_last (hprog : (s.thread (unitNum x)).prog = 69) (hops : (s.thread (unitNum x)).ops.isEmpty = false)
    (hdone : (s.thread (unitNum x)).ops.all (·.isDone) = true)
    (hsound : (s.thread (unitNum x)).ops.find? (fun o => o.result.getD 0 % 256 != 0) = none)
    (hgood : s.segBad (unitNum x) (.scratch (16384 * unitNum x)) = false)
    (hlast : descLen (s.thread (unitNum x)).desc ≤ 4096 * ((s.thread (unitNum x)).step + 1)) :
    let u := unitNum x
    let t := s.thread u
    let n := min 4096 (descLen t.desc - 4096 * t.step)
    let a := s.segRead u (.scratch (16384 * u)) n
    let b := s.segRead u (.scratch (16384 * u + 0x1000)) n
    s.serviceCompare x = match (List.range n).find? (fun i => a.getD i 0 != b.getD i 0) with
      | some i => s.serviceEnd u 0 (4096 * t.step + i)
      | none => s.serviceEnd u 0 (2 ^ 64 - 1) := by
  have hall : ¬(!(s.thread (unitNum x)).ops.all (·.isDone)) = true := by simp only [hdone, Bool.not_true, Bool.false_eq_true, not_false_eq_true]
  refine (if_neg (State.serviceSteps hexists hready hprog htracker)).trans ((if_neg (ne_true_of_eq_false hops)).trans ((if_neg hall).trans ?_))
  rewrite [hsound]
  refine (if_neg (ne_true_of_eq_false hgood)).trans ?_
  dsimp only
  rewrite [if_pos hlast]
  rfl

end

/-- Settles O29: the thread runs the program of its command, and its step and operations say which piece is next (log entries 71 and 72). -/
theorem serviceDescriptors : Obligations.ServiceDescriptors := by
  refine ⟨?copyOverlap, ?copyLong, ?copy, ?copyLeave, ?copyDone, ?fill, ?fillDone, ?zero, ?zeroDone, ?crc, ?crcLast, ?compare, ?compareLast⟩
  case copyOverlap =>
    intro s x u t d hexists hready hprog htracker hstep hspace hsrc hdst
    exact .of_effect rfl ((State.serviceMove_of_start hexists hready hprog htracker hstep).trans (if_pos ⟨rfl, hspace, hsrc, hdst⟩))
  case copyLong =>
    intro s x u t d hexists hready hprog htracker hstep hapart hlong
    refine .of_effect rfl ((State.serviceMove_of_start hexists hready hprog htracker hstep).trans ?_)
    exact (if_neg fun h => hapart h.2).trans (if_pos ⟨rfl, hlong⟩)
  case copy =>
    intro s x u t d hexists hready hprog htracker hstep hapart hshort
    refine .of_effect rfl ((State.serviceMove_of_start hexists hready hprog htracker hstep).trans ?_)
    exact (if_neg fun h => hapart h.2).trans (if_neg fun h => Nat.not_lt.2 hshort h.2)
  case copyLeave =>
    intro s x u t d hexists hready hprog htracker hstep
    exact .of_effect rfl (State.serviceMove_of_leave hexists hready hprog htracker hstep)
  case copyDone | fillDone | zeroDone =>
    intro s x u t hexists hready hprog htracker hstep hdone
    exact .of_effect rfl (State.serviceMove_of_done hexists hready hprog htracker hstep hdone)
  case fill | zero =>
    intro s x u t d hexists hready hprog htracker hstep
    refine .of_effect rfl ((State.serviceMove_of_start hexists hready hprog htracker hstep).trans ?_)
    exact (if_neg fun h => absurd h.1 (by decide)).trans (if_neg fun h => absurd h.1 (by decide))
  case crc =>
    intro s x u t d hexists hready hprog htracker hops s1
    exact .of_effect rfl (State.serviceCrc_of_start hexists hready htracker hprog hops)
  case crcLast =>
    intro s x u t d hexists hready hprog htracker o r hops hresult hgood hlast piece
    exact .of_effect rfl (State.serviceCrc_of_last hexists hready htracker hprog hops hresult hgood hlast)
  case compare =>
    intro s x u t d hexists hready hprog htracker hops n
    exact .of_effect rfl (State.serviceCompare_of_start hexists hready htracker hprog hops)
  case compareLast =>
    intro s x u t d hexists hready hprog htracker hops hdone hsound hgood hlast n a b
    exact .of_effect rfl (State.serviceCompare_of_last hexists hready htracker hprog hops hdone hsound hgood hlast)

end Sys2Proof.Machine
end

section
/-! SUPPORT. The frames of register instructions and of local stores (R325, R326, R331, R332, R335, R337). -/

namespace Sys2Proof.Machine

/-! ### Counting Tally events -/

/-- `t` is `s` but for numeric values of the dictionary, the interrupt controller and Tally: what counting events writes (R428, R438, R441). -/
def State.CountsTo (s t : State) : Prop :=
  ∃ nums cic tally, t = { s with dict := { s.dict with nums := nums }, cic := cic, tally := tally }

theorem State.CountsTo.refl (s : State) : s.CountsTo s := ⟨_, _, _, rfl⟩

theorem State.CountsTo.trans {s t u : State} (hst : s.CountsTo t) (htu : t.CountsTo u) : s.CountsTo u := by
  obtain ⟨_, _, _, rfl⟩ := hst
  obtain ⟨_, _, _, rfl⟩ := htu
  exact ⟨_, _, _, rfl⟩

theorem State.countsTo_cicLevel (s : State) (i : Nat) (b : Bool) : s.CountsTo (s.cicLevel i b) := by
  unfold State.cicLevel
  dsimp only
  repeat' split
  all_goals exact ⟨_, _, _, rfl⟩

theorem State.countsTo_tallyAdd (s : State) (k n : Nat) : s.CountsTo (s.tallyAdd k n) := by
  unfold State.tallyAdd
  extract_lets v span times s1 b
  have hput : s.CountsTo s1 := ⟨_, _, _, rfl⟩
  have hlevel : s.CountsTo ((s1.wrBit (K.CRF_TALLY_OVF b) (k % 16) true).cicTally b) :=
    hput.trans (State.CountsTo.trans ⟨_, _, _, rfl⟩ (State.countsTo_cicLevel _ _ _))
  unfold when
  repeat' split
  · exact ⟨_, _, _, rfl⟩
  · exact hput.trans ⟨_, _, _, rfl⟩
  · exact hlevel.trans ⟨_, _, _, rfl⟩
  · exact hlevel

theorem State.countsTo_countN (s : State) (code inst n : Nat) : s.CountsTo (s.countN code inst n) := by
  unfold State.countN forEach
  generalize s.tallySelected.filter _ = l
  induction l generalizing s with
  | nil => exact .refl s
  | cons e l ih => exact (s.countsTo_tallyAdd e.1 n).trans (ih (s.tallyAdd e.1 n))

/-! ### Registers and threads -/

theorem Thread.reg_zero (t : Thread) : t.reg 0 = 0 := if_pos rfl

theorem Thread.reg_set_of_ne {r rd : Reg} (t : Thread) (v : BitVec 64) (h : r ≠ rd) : (t.set rd v).reg r = t.reg r := by
  have hne : rd.toNat ≠ r.toNat := fun hr => h (BitVec.eq_of_toNat_eq hr.symm)
  unfold Thread.set
  split
  · rfl
  · simp [Thread.reg, List.getElem?_set_ne hne]

theorem Thread.set_pc (t : Thread) (rd : Reg) (v : BitVec 64) : (t.set rd v).pc = t.pc := by
  unfold Thread.set
  split <;> rfl

theorem Thread.set_cycles (t : Thread) (rd : Reg) (v : BitVec 64) : (t.set rd v).cycles = t.cycles := by
  unfold Thread.set
  split <;> rfl

theorem State.thread_putThread (s : State) (u : Nat) (t : Thread) (v : Nat) : (s.putThread u t).thread v = if v = u then t else s.thread v :=
  Sparse.get_set _ _ _ _ _

theorem State.thread_putThread_same (s : State) (u : Nat) (t : Thread) : (s.putThread u t).thread u = t :=
  (s.thread_putThread u t u).trans (if_pos rfl)

theorem State.thread_putThread_of_ne {u v : Nat} (s : State) (t : Thread) (h : v ≠ u) : (s.putThread u t).thread v = s.thread v :=
  (s.thread_putThread u t v).trans (if_neg h)

/-! ### The issued state -/

section
variable (s : State) (x : ExecUnit)

/-- Issuing counts the cycle of the thread, and for an engine the instruction (R337, R440). -/
theorem State.countsTo_issued : (s.putThread (unitNum x) (s.issuer x)).CountsTo (s.issued x) := by
  unfold State.issued
  split
  · exact State.countsTo_countN _ _ _ 1
  · exact .refl _

theorem State.drv_issued : (s.issued x).drv = (s.putThread (unitNum x) (s.issuer x)).drv := by
  obtain ⟨_, _, _, h⟩ := s.countsTo_issued x
  rw [h]

theorem State.memGet_issued (a : Nat) : (s.issued x).memGet a = s.memGet a := by
  obtain ⟨_, _, _, h⟩ := s.countsTo_issued x
  rw [h]
  rfl

theorem State.thread_issued_of_ne {u : Nat} (h : u ≠ unitNum x) : (s.issued x).thread u = s.thread u := by
  rw [State.thread, s.drv_issued x]
  exact s.thread_putThread_of_ne _ h

end

/-! ### The register instructions -/

/-- Each is an operation of the unit on its registers. -/
theorem exec_registerInstruction {x : ExecUnit} {rd ra rb : Reg} {imm : BitVec 16} {i : Instr} (s : State)
    (hi : i ∈ [Instr.add x rd ra rb, .sub x rd ra rb, .and x rd ra rb, .or x rd ra rb, .xor x rd ra rb, .sll x rd ra rb, .srl x rd ra rb,
      .sra x rd ra rb, .slt x rd ra rb, .sltu x rd ra rb, .mul x rd ra rb, .mulhu x rd ra rb, .divu x rd ra rb, .remu x rd ra rb,
      .min x rd ra rb, .max x rd ra rb, .minu x rd ra rb, .maxu x rd ra rb, .crc32c x rd ra rb, .addi x rd ra imm, .andi x rd ra imm,
      .ori x rd ra imm, .xori x rd ra imm, .slti x rd ra imm, .sltiu x rd ra imm, .lui x rd ra imm, .shlori x rd ra imm]) :
    ∃ v, exec i s = .next (settle (s.alu x rd v)) := by
  iterate 27
    rcases hi with _ | ⟨_, hi⟩
    · exact ⟨_, rfl⟩
  cases hi

/-- What a result in `rd` leaves outside the issuing thread. -/
theorem State.gets_frame (s : State) (x : ExecUnit) (rd : Reg) (v : BitVec 64) :
    let e := s.gets x rd v
    (∀ a, e.memGet a = s.memGet a) ∧ e.drv.scratch = s.drv.scratch ∧ e.drv.segs = s.drv.segs ∧ (∀ k, e.rdo k = s.rdo k) ∧ e.crf = s.crf ∧
      e.fab = s.fab ∧ e.blw = s.blw ∧ e.tfb = s.tfb ∧ e.boot = s.boot ∧ e.flt = s.flt := by
  obtain ⟨_, _, _, h⟩ := s.countsTo_issued x
  unfold State.gets
  rw [h]
  exact ⟨fun _ => rfl, rfl, rfl, fun _ => rfl, rfl, rfl, rfl, rfl, rfl, rfl⟩

/-- Settles O15: issuing counts the cycle and Tally's events, and the instruction puts its result into `rd` and goes on. -/
theorem registerInstructionFrame : Obligations.RegisterInstructionFrame := by
  intro s x rd ra rb imm i hi hissue
  obtain ⟨f, hexec⟩ := exec_registerInstruction s hi
  have hthread : (s.gets x rd (f (s.issuer x))).thread (unitNum x) = ((s.issuer x).set rd (f (s.issuer x))).next :=
    State.thread_putThread_same _ _ _
  refine ⟨s.gets x rd (f (s.issuer x)), by rw [hexec, alu_of_mayIssue hissue], fun r hr => ?regs, ?zero, ?pc, ?cycles, fun u hu => ?threads,
    s.gets_frame x rd _⟩
  case regs => rw [hthread]; exact Thread.reg_set_of_ne (s.issuer x) _ hr
  case zero => exact Thread.reg_zero _
  case pc => rw [hthread]; exact congrArg (· + 4) (Thread.set_pc (s.issuer x) rd _)
  case cycles => rw [hthread]; exact Thread.set_cycles (s.issuer x) rd _
  case threads => exact (State.thread_putThread_of_ne _ _ hu).trans (s.thread_issued_of_ne x hu)

/-! ### Local stores -/

/-- The octets that a write of sparse memory stores, and no others. -/
theorem get_cellsPut (d : List Byte) (l : List Host.Cell) (k b : Nat) :
    Sparse.get memDefault (cellsPut l k d) b = if k ≤ b ∧ b < k + d.length then d.getD (b - k) 0 else Sparse.get memDefault l b := by
  induction d generalizing l k with
  | nil => exact (if_neg (by simp)).symm
  | cons c d ih =>
    have hset : Sparse.get memDefault (Sparse.set memDefault l k c) b = if b = k then c else Sparse.get memDefault l b :=
      Sparse.get_set _ _ _ _ _
    rw [cellsPut, ih, hset]
    obtain hb | rfl | hb := Nat.lt_trichotomy b k
    · rw [if_neg (by omega), if_neg (by omega), if_neg (by omega)]
    · rw [if_neg (by omega), if_pos rfl, if_pos (by simp), Nat.sub_self, List.getD_cons_zero]
    · obtain ⟨j, rfl⟩ := Nat.exists_eq_add_of_lt hb
      have hj : k + j + 1 - k = j + 1 := by omega
      have hj' : k + j + 1 - (k + 1) = j := by omega
      rw [hj, hj', List.getD_cons_succ, if_neg (by omega : ¬k + j + 1 = k), List.length_cons]
      exact ite_congr (propext (by omega)) (fun _ => rfl) (fun _ => rfl)

theorem length_leBytes (n v : Nat) : (leBytes n v).length = n := by
  induction n generalizing v with
  | zero => rfl
  | succ n ih => exact congrArg (· + 1) (ih _)

theorem getD_leBytes {n i : Nat} (v : Nat) (h : i < n) : (leBytes n v).getD i 0 = BitVec.ofNat 8 (v / 256 ^ i) := by
  induction n generalizing v i with
  | zero => omega
  | succ n ih =>
    cases i with
    | zero => simp [leBytes]
    | succ i =>
      rw [leBytes, List.getD_cons_succ, ih _ (by omega), Nat.div_div_eq_div_mul, Nat.pow_succ']

/-- The octets of a stored number in sparse memory. -/
theorem get_cellsPut_leBytes (n v : Nat) (l : List Host.Cell) (k b : Nat) :
    Sparse.get memDefault (cellsPut l k (leBytes n v)) b =
      if k ≤ b ∧ b < k + n then BitVec.ofNat 8 (v / 256 ^ (b - k)) else Sparse.get memDefault l b := by
  rw [get_cellsPut, length_leBytes]
  split
  · exact getD_leBytes v (by omega)
  · rfl

section
variable (s : State) (g : Seg) (d : List Byte)

theorem State.segWrite_thread (u : Nat) : (s.segWrite g d).thread u = s.thread u := by cases g <;> rfl

theorem State.segWrite_memGet (a : Nat) : (s.segWrite g d).memGet a = s.memGet a := by cases g <;> rfl

end

/-- Each local store is one operation of its width. -/
theorem exec_localStore {x : ExecUnit} {rt ra : Reg} {off : BitVec 16} {i : Instr} {n : Nat} (s : State)
    (hi : (i, n) ∈ [(Instr.st8 x rt ra off, 1), (.st16 x rt ra off, 2), (.st32 x rt ra off, 4), (.st64 x rt ra off, 8)]) :
    exec i s = .next (settle (s.store x rt ra off n)) := by
  simp only [List.mem_cons, List.not_mem_nil, or_false, Prod.mk.injEq] at hi
  obtain ⟨rfl, rfl⟩ | ⟨rfl, rfl⟩ | ⟨rfl, rfl⟩ | ⟨rfl, rfl⟩ := hi <;> rfl

/-- Settles O16: the store writes its octets to the segment on the issued state, whose memory is that of the state before. -/
theorem localStoreFrame : Obligations.LocalStoreFrame := by
  intro s x rt ra off i n hi t a hissue halign hcroft g hseg hwritable
  have heffect := State.store_of_seg (rt := rt) hissue halign hcroft hseg hwritable
  refine ⟨_, (exec_localStore s hi).trans (congrArg (fun e => Host.Outcome.next (settle e)) heffect), ?_⟩
  have hscratch : (s.issued x).drv.scratch = s.drv.scratch := by rw [s.drv_issued x]; rfl
  have hsegs : (s.issued x).drv.segs = s.drv.segs := by rw [s.drv_issued x]; rfl
  refine ⟨fun b => ?scratch, fun b => ?segs, ?commons, fun r => ?regs, ?pc, fun u hu => ?threads⟩
  case scratch =>
    cases g with
    | scratch k => exact (get_cellsPut_leBytes n _ _ k b).trans (by rw [hscratch]; rfl)
    | const o => exact congrArg (Sparse.get memDefault · b) hscratch
    | data k => exact congrArg (Sparse.get memDefault · b) hscratch
  case segs =>
    cases g with
    | scratch k => exact congrArg (Sparse.get memDefault · b) hsegs
    | const o => exact congrArg (Sparse.get memDefault · b) hsegs
    | data k => exact (get_cellsPut_leBytes n _ _ k b).trans (by rw [hsegs]; rfl)
  case commons => exact fun b => (State.segWrite_memGet _ _ _ b).trans (s.memGet_issued x b)
  case regs => exact congrArg (·.reg r) (State.thread_putThread_same _ _ _)
  case pc => exact congrArg (·.pc) (State.thread_putThread_same _ _ _)
  case threads =>
    exact (State.thread_putThread_of_ne _ _ hu).trans ((State.segWrite_thread _ _ _ u).trans (s.thread_issued_of_ne x hu))

end Sys2Proof.Machine
end

section
/-! SUPPORT. Token buckets of Paddock (R305 to R308). -/

namespace Sys2Proof.Machine

/-- A bucket's level and stamp, as its table gives them. -/
theorem State.bucket_eq_get (s : State) (b : Nat) : s.bucket b = Sparse.get (fun _ => (0, 0)) s.fab.pdk.buckets b := by
  unfold State.bucket
  generalize s.fab.pdk.buckets = l
  induction l with
  | nil => rfl
  | cons e l ih =>
    by_cases he : e.1 = b
    · simp [Sparse.get, he]
    · simpa [Sparse.get, he] using ih

theorem State.bucket_putBucket (s : State) (b : Nat) (level : Int) (stamp : Nat) : (s.putBucket b level stamp).bucket b = (level, stamp) := by
  rw [State.bucket_eq_get]
  exact (Sparse.get_insert _ _ _ _ _).trans (if_pos rfl)

/-- A shaped bucket is brought up to the stamp in force. -/
theorem State.bucket_refillBucket {s : State} {b : Nat} (hshaped : (s.bucketCfg b).1 ≠ 0) :
    (s.refillBucket b).bucket b =
      (min ((s.bucket b).1 + ((s.bucketCfg b).1 : Int) * ((s.fab.pdk.stamp : Int) - ((s.bucket b).2 : Int))) ((s.bucketCfg b).2 : Int),
        s.fab.pdk.stamp) :=
  (congrArg (State.bucket · b) (if_neg hshaped)).trans (s.bucket_putBucket b _ _)

/-- Settles O11: the new level is the lesser of the refilled level and the burst. -/
theorem bucketLevelIsCappedAtTheBurst : Obligations.BucketLevelIsCappedAtTheBurst := by
  intro s b rate burst v r hshaped
  have hr : r = (min (v.1 + (rate : Int) * ((s.fab.pdk.stamp : Int) - (v.2 : Int))) (burst : Int), s.fab.pdk.stamp) :=
    State.bucket_refillBucket hshaped
  rw [hr]
  exact ⟨Int.min_le_right _ _, rfl, fun hfull => Int.min_eq_right hfull, fun hbelow => Int.min_eq_left hbelow⟩

end Sys2Proof.Machine
end

section
/-! SUPPORT. The interrupt controller: which source is named, and its commands (R427, R430 to R434). -/

namespace Sys2Proof.Machine

/-! ### The greatest of a list, and the nearest -/

/-- A fold of `max` is a bound of its list, and it is reached there unless it is where the fold starts. -/
theorem foldl_max_spec (f : Nat → Nat) (l : List Nat) (m : Nat) :
    m ≤ l.foldl (fun m i => max m (f i)) m ∧ (∀ j ∈ l, f j ≤ l.foldl (fun m i => max m (f i)) m) ∧
      (l.foldl (fun m i => max m (f i)) m = m ∨ ∃ j ∈ l, f j = l.foldl (fun m i => max m (f i)) m) := by
  induction l generalizing m with
  | nil => exact ⟨Nat.le_refl m, nofun, .inl rfl⟩
  | cons a l ih =>
    obtain ⟨hstart, hbound, hreached⟩ := ih (max m (f a))
    rw [List.foldl_cons]
    refine ⟨Nat.le_trans (Nat.le_max_left _ _) hstart, ?bound, ?reached⟩
    case bound =>
      rintro j (_ | ⟨_, hj⟩)
      · exact Nat.le_trans (Nat.le_max_right _ _) hstart
      · exact hbound j hj
    case reached =>
      obtain heq | ⟨j, hj, hval⟩ := hreached
      · obtain hm | hm := Nat.le_total (f a) m
        · exact .inl (heq.trans (Nat.max_eq_left hm))
        · exact .inr ⟨a, List.mem_cons_self, (heq.trans (Nat.max_eq_right hm)).symm⟩
      · exact .inr ⟨j, List.mem_cons_of_mem a hj, hval⟩

/-- The nearer of two sources by a distance; the first one where they are as near. -/
def nearer (dist : Nat → Nat) : Option Nat → Nat → Option Nat
  | none, i => some i
  | some j, i => if dist i < dist j then some i else some j

section
variable (dist : Nat → Nat)

theorem foldl_nearer_some (l : List Nat) (j : Nat) :
    ∃ i, l.foldl (nearer dist) (some j) = some i ∧ (i = j ∨ i ∈ l) ∧ dist i ≤ dist j ∧ ∀ k ∈ l, dist i ≤ dist k := by
  induction l generalizing j with
  | nil => exact ⟨j, rfl, .inl rfl, Nat.le_refl _, nofun⟩
  | cons a l ih =>
    rw [List.foldl_cons]
    by_cases hnear : dist a < dist j
    · obtain ⟨i, hi, hmem, ha, hl⟩ := ih a
      refine ⟨i, by rwa [nearer, if_pos hnear], .inr ?_, by omega, List.forall_mem_cons.2 ⟨ha, hl⟩⟩
      exact List.mem_cons.2 hmem
    · obtain ⟨i, hi, hmem, hj, hl⟩ := ih j
      refine ⟨i, by rwa [nearer, if_neg hnear], hmem.imp_right (List.mem_cons_of_mem a), hj, List.forall_mem_cons.2 ⟨by omega, hl⟩⟩

/-- A list with an element has a nearest one. -/
theorem foldl_nearer_none {l : List Nat} (h : l ≠ []) :
    ∃ i, l.foldl (nearer dist) none = some i ∧ i ∈ l ∧ ∀ k ∈ l, dist i ≤ dist k := by
  cases l with
  | nil => exact absurd rfl h
  | cons a l =>
    obtain ⟨i, hi, hmem, ha, hl⟩ := foldl_nearer_some dist l a
    exact ⟨i, hi, List.mem_cons.2 hmem, List.forall_mem_cons.2 ⟨ha, hl⟩⟩

end

/-! ### The source that CIC_TOP names -/

/-- The priority of a source. -/
def State.cicPriority (s : State) (i : Nat) : Nat := bits (s.rd (K.CRF_CIC_SRC_CFG i)) 23 20

/-- The highest priority of a target's eligible sources. -/
def State.cicHighest (s : State) (t : Nat) : Nat := (s.cicRequests t).foldl (fun m i => max m (s.cicPriority i)) 0

/-- The eligible sources of the highest priority. -/
def State.cicLeaders (s : State) (t : Nat) : List Nat := (s.cicRequests t).filter (fun i => s.cicPriority i == s.cicHighest t)

/-- How far a source lies after the target's pointer. -/
def State.cicDistance (s : State) (t i : Nat) : Nat := (i + 2048 - s.cicPointer t) % 2048

section
variable {s : State} {t i : Nat}

/-- CIC_TOP names the nearest of the leaders. -/
theorem State.cicTop_eq_nearest : s.cicTop t = (s.cicLeaders t).foldl (nearer (s.cicDistance t)) none := by
  unfold State.cicTop
  refine congrArg (List.foldl · none (s.cicLeaders t)) ?_
  funext b i
  cases b <;> rfl

theorem State.cicPriority_le_highest {j : Nat} (h : j ∈ s.cicRequests t) : s.cicPriority j ≤ s.cicHighest t :=
  (foldl_max_spec s.cicPriority (s.cicRequests t) 0).2.1 j h

theorem State.mem_cicLeaders {j : Nat} : j ∈ s.cicLeaders t ↔ j ∈ s.cicRequests t ∧ s.cicPriority j = s.cicHighest t := by
  simp [State.cicLeaders]

/-- Where a source is eligible, one of them has the highest priority. -/
theorem State.cicLeaders_ne_nil (h : s.cicRequests t ≠ []) : s.cicLeaders t ≠ [] := by
  obtain ⟨a, ha⟩ := List.exists_mem_of_ne_nil _ h
  obtain ⟨-, -, hzero | ⟨j, hj, hval⟩⟩ := foldl_max_spec s.cicPriority (s.cicRequests t) 0
  · have hle := State.cicPriority_le_highest ha
    have hlow : s.cicHighest t = 0 := hzero
    exact List.ne_nil_of_mem (State.mem_cicLeaders.2 ⟨ha, by omega⟩)
  · exact List.ne_nil_of_mem (State.mem_cicLeaders.2 ⟨hj, hval⟩)

/-- The named source leads, and no other leader is nearer. -/
theorem State.cicTop_spec (h : s.cicTop t = some i) : i ∈ s.cicLeaders t ∧ ∀ j ∈ s.cicLeaders t, s.cicDistance t i ≤ s.cicDistance t j := by
  rw [State.cicTop_eq_nearest] at h
  have hne : s.cicLeaders t ≠ [] := fun hnil => by
    rw [hnil] at h
    exact nomatch h
  obtain ⟨k, hk, hmem, hnear⟩ := foldl_nearer_none (s.cicDistance t) hne
  obtain rfl : k = i := Option.some.inj (hk.symm.trans h)
  exact ⟨hmem, hnear⟩

theorem State.cicTop_of_requests (h : s.cicRequests t ≠ []) : ∃ i, s.cicTop t = some i := by
  obtain ⟨i, hi, -, -⟩ := foldl_nearer_none (s.cicDistance t) (State.cicLeaders_ne_nil h)
  exact ⟨i, State.cicTop_eq_nearest.trans hi⟩

/-- The state after a claim of source `i` (R431). -/
def State.cicClaimed (s : State) (t i : Nat) : State :=
  let s1 := s.cicPut i { s.cicGet i with state := .active, owner := t }
  State.bump { s1 with cic := { s1.cic with pointers := Sparse.set (fun _ => 0) s1.cic.pointers t ((i + 1) % 2048) } } K.CRF_CIC_CLAIMS

theorem State.cicClaim_of_top (h : s.cicTop t = some i) : s.cicClaim t = (s.cicWord i, s.cicClaimed t i) := by
  rw [State.cicClaim, h]
  rfl

theorem State.cicGet_cicPut (s : State) (i : Nat) (c : CicSource) : (s.cicPut i c).cicGet i = c :=
  (Sparse.get_set _ _ _ _ _).trans (if_pos rfl)

theorem State.cicGet_cicClaimed : (s.cicClaimed t i).cicGet i = { s.cicGet i with state := .active, owner := t } :=
  State.cicGet_cicPut s i { s.cicGet i with state := .active, owner := t }

theorem State.cicPointer_cicClaimed : (s.cicClaimed t i).cicPointer t = (i + 1) % 2048 := (Sparse.get_set _ _ _ _ _).trans (if_pos rfl)

end

/-- Settles O13: CIC_TOP names the nearest of the eligible sources of highest priority, and a claim takes that source. -/
theorem claimTakesTheHighestPriority : Obligations.ClaimTakesTheHighestPriority := by
  refine ⟨fun s t i htop => ?named, fun s t h => State.cicTop_of_requests h, fun s t i htop => ?claimed, fun s t htop => ?none⟩
  case named =>
    obtain ⟨hleads, hnear⟩ := State.cicTop_spec htop
    obtain ⟨hrequests, hpriority⟩ := State.mem_cicLeaders.1 hleads
    refine ⟨(List.mem_filter.1 hrequests).2, fun j hj =>
      ⟨Nat.le_trans (State.cicPriority_le_highest hj) (Nat.le_of_eq hpriority.symm), fun hsame => ?_⟩⟩
    exact hnear j (State.mem_cicLeaders.2 ⟨hj, hsame.trans hpriority⟩)
  case claimed =>
    rw [State.cicClaim_of_top htop]
    exact ⟨rfl, congrArg (·.state) State.cicGet_cicClaimed, congrArg (·.owner) State.cicGet_cicClaimed, State.cicPointer_cicClaimed⟩
  case none => rw [State.cicClaim, htop]

/-- Settles O20: the line has held its level, the target and the source exist, and the source is active and the target's; the write to CIC_GLOBAL has no
guard.  What COMPLETE withdraws of an internal level is log entry 11. -/
theorem interruptControllerCommands : Obligations.InterruptControllerCommands := by
  refine ⟨?line, ?claim, ?complete, ?global⟩
  case line =>
    intro s line level held hline hheld i asserted was s1
    exact .of_effect rfl (if_neg (not_or.2 ⟨Nat.not_le.2 hline, Nat.not_lt.2 hheld⟩))
  case claim =>
    intro s t ht r
    exact .of_effect rfl (if_neg (Nat.not_le.2 ht))
  case complete =>
    intro s t value i ht hactive howner
    exact .of_guarded rfl ht (if_pos ⟨hactive, howner⟩)
  case global =>
    intro s value v
    exact gives_of rfl

end Sys2Proof.Machine
end

section
/-! SUPPORT. Tally counters (R438, R441, R443). -/

namespace Sys2Proof.Machine

theorem writeHook_crfTallyOvfClear (n : Nat) (v : List Byte) (s : State) :
    writeHook n K.CRF_TALLY_OVF_CLEAR v s = (Status.ok, s.tallyOvfClear (leNat v)) := rfl

/-- A counter that passes 2^48 - 1 once goes on from its reload value, and its flag is set or counted (R441). -/
theorem State.tallyAdd_of_overflow {s : State} {k n : Nat} (hover : 2 ^ 48 ≤ s.tallyLive k + n) (hreload : s.rd (K.CRF_TALLY_RELOAD k) < 2 ^ 48)
    (honce : s.tallyLive k + n - 2 ^ 48 < 2 ^ 48 - s.rd (K.CRF_TALLY_RELOAD k)) :
    let s1 := s.tallyPut k (s.rd (K.CRF_TALLY_RELOAD k) + (s.tallyLive k + n - 2 ^ 48))
    s.tallyAdd k n =
      if bit (s.rd (K.CRF_TALLY_OVF (k / 16))) (k % 16) then s1.bump K.CRF_TALLY_OVERFLOWS
      else (s1.wrBit (K.CRF_TALLY_OVF (k / 16)) (k % 16) true).cicTally (k / 16) := by
  have hspan : max 1 (2 ^ 48 - s.rd (K.CRF_TALLY_RELOAD k)) = 2 ^ 48 - s.rd (K.CRF_TALLY_RELOAD k) := by omega
  have htimes : (s.tallyLive k + n - 2 ^ 48) / (2 ^ 48 - s.rd (K.CRF_TALLY_RELOAD k)) + 1 = 1 := by rw [Nat.div_eq_of_lt honce]
  have hvalue : s.tallyLive k + n - 1 * (2 ^ 48 - s.rd (K.CRF_TALLY_RELOAD k)) =
      s.rd (K.CRF_TALLY_RELOAD k) + (s.tallyLive k + n - 2 ^ 48) := by omega
  refine (if_neg (Nat.not_lt.2 hover)).trans ?_
  rw [hspan, htimes, hvalue]
  rfl

/-- Settles O21: the counter exists, and its sum says whether it overflows; the write reaches the collector of overflows. -/
theorem tallyCommands : Obligations.TallyCommands := by
  refine ⟨?below, ?passes, ?clear⟩
  case below =>
    intro s counter n hcounter hbelow
    exact .of_guarded rfl hcounter (if_pos hbelow)
  case passes =>
    intro s counter n hcounter v hover hreload honce s1
    exact .of_guarded rfl hcounter (State.tallyAdd_of_overflow hover hreload honce)
  case clear =>
    intro s n counter hw
    exact .of_write rfl hw (writeHook_crfTallyOvfClear n _ s)

end Sys2Proof.Machine
end

section
/-! SUPPORT. Programs, engines and hot pages of Drover (R106, R327, R353, R356 to R360, R448). -/

namespace Sys2Proof.Machine

/-! ### Which chapter takes the write -/

section
variable (n : Nat) (v : List Byte) (s : State)

theorem writeHook_drvLoadCtrl : writeHook n K.DRV_LOAD_CTRL v s = s.loadCtrl (s.perm n) (leNat v) := rfl

theorem writeHook_drvLoadChunk : writeHook n K.DRV_LOAD_CHUNK v s = s.loadChunk v := rfl

theorem writeHook_drvProgKeyLock :
    writeHook n K.DRV_PROG_KEY_LOCK v s =
      (Status.ok, { s with dict := { s.dict with progKeyLock := s.dict.progKeyLock.lor (leNat v) } }) := rfl

theorem writeHook_drvZeroRetry : writeHook n K.DRV_ZERO_RETRY v s = s.zeroRetry (leNat v) := rfl

theorem writeHook_drvHotpageFold : writeHook n K.DRV_HOTPAGE_FOLD v s = s.hotpageFold (leNat v) := rfl

section
variable {k : Nat} (hlo : 0x7300 ≤ keyIdx k) (hhi : keyIdx k < 0x7380)
include hlo hhi

/-- No lane, port or switch object lies among the engines'. -/
theorem laneWrite_of_engineIdx : laneWrite k v s = none := by
  have hout {lo hi : Nat} (sub : Nat) (h : hi ≤ 0x7300) : ¬(inIdx lo hi [sub] k = true) := by
    simp only [inIdx, Bool.and_eq_true, decide_eq_true_eq]
    omega
  have hsample : k ≠ K.LOM_SAMPLE_READ := by
    rintro rfl
    exact absurd hlo (by decide)
  unfold laneWrite
  iterate 6 rw [if_neg fun h => hout _ (by decide) h.1]
  rw [if_neg hsample]

/-- No object of the data path lies among the engines'. -/
theorem pathWrite_of_engineIdx : pathWrite k v s = none := by
  have hentry : ¬(inIdx 0x5000 0x5020 [] k = true) := by
    simp only [inIdx, Bool.and_eq_true, decide_eq_true_eq]
    omega
  have hne {l : Nat} (hl : keyIdx l < 0x7300) : k ≠ l := by
    rintro rfl
    omega
  unfold pathWrite
  rw [if_neg (hne (by decide)), if_neg hentry]
  iterate 7 rw [if_neg (hne (by decide))]

end

/-- 1 in an engine's DRV_ENGINE_FENCE fences it (R360). -/
theorem writeHook_drvEngineFence {engine : Nat} (hengine : engine < 128) :
    writeHook n (K.DRV_ENGINE_FENCE engine) v s = s.fenceWrite engine (leNat v) := by
  have hidx : keyIdx (K.DRV_ENGINE_FENCE engine) = 0x7300 + engine := keyIdx_key (by decide)
  have hsub : keySub (K.DRV_ENGINE_FENCE engine) = 3 := keySub_key (by decide)
  have hin : inIdx 0x7300 0x7380 [3] (K.DRV_ENGINE_FENCE engine) = true := by
    simp only [inIdx, hidx, hsub, Bool.and_eq_true, decide_eq_true_eq]
    exact ⟨⟨by omega, by omega⟩, rfl⟩
  have hne {l : Nat} (hl : keyIdx l < 0x7300) : K.DRV_ENGINE_FENCE engine ≠ l := fun h => by
    rw [← h, hidx] at hl
    omega
  have hcroft := croftWrite_of_unitIdx n v s (k := K.DRV_ENGINE_FENCE engine) (by omega) (by omega)
  have hlane := laneWrite_of_engineIdx v s (k := K.DRV_ENGINE_FENCE engine) (by omega) (by omega)
  have hpath := pathWrite_of_engineIdx v s (k := K.DRV_ENGINE_FENCE engine) (by omega) (by omega)
  have htenant : tenantWrite n (K.DRV_ENGINE_FENCE engine) v s = some (s.fenceWrite engine (leNat v)) := by
    unfold tenantWrite
    iterate 5 rw [if_neg (hne (by decide))]
    rw [if_pos hin, hidx, Nat.add_sub_cancel_left]
  simp only [writeHook, hcroft, hlane, hpath, htenant]

end

/-- A number that DRV_LOAD_CTRL carries whole does there what Drover's chapter says (R353). -/
theorem Gives.of_loadCtrl {c : Instr} {s e : State} {n v : Nat} (hexec : exec c s = .next (settle (writeObject n K.DRV_LOAD_CTRL v s)))
    (hv : carried K.DRV_LOAD_CTRL v = v) (hw : s.mayWrite n K.DRV_LOAD_CTRL (wire K.DRV_LOAD_CTRL v))
    (he : s.loadCtrl (s.perm n) v = (Status.ok, e)) : Gives c s (s.written n K.DRV_LOAD_CTRL (wire K.DRV_LOAD_CTRL v) e) :=
  .of_write hexec hw ((writeHook_drvLoadCtrl n _ s).trans ((congrArg (s.loadCtrl (s.perm n)) hv).trans he))

/-! ### Programs -/

section
variable {s : State}

/-- The descriptor whose turn it is goes to the thread that takes it (R327). -/
theorem State.dispatch_of_place {v : Nat} {d : Desc} {w : Nat × Nat × Nat}
    (hturn : s.turn s.tfb.dispatchPtr (fun v => s.vfDispatches v && (List.range 4).any (s.sqDispatches v)) = some v)
    (hdesc : (rotFind (s.sqDispatches v) 4 (s.vf v).dispPtr).bind (s.headDesc v) = some d) (hsound : s.descFault v d.bytes = none)
    (hplace : s.placeFor v d.bytes = some w) : s.dispatch = s.dispatchDesc v d w := by
  simp only [State.dispatch, hturn, hdesc, hsound, hplace]

/-- An image under verification fills its slot, or leaves it empty and is recorded (R353; its place in Commons is log entry 140). -/
theorem State.loadVerified_of_verifying {l : Load} (hload : s.drv.load = some l) (hverifying : l.verifying = true) :
    let s0 : State := { s with drv := { s.drv with load := none } }
    s.loadVerified =
      if imageOk l.image && s.imageSigned l.image then
        let i := l.image.take (imageLength l.image)
        let s0 := (s0.cmnWrite (s0.carveAt 6 + 2 ^ 20 * l.slot) i allBytes).2
        let s1 : State := { s0 with drv := { s0.drv with images := Sparse.insert l.slot i s0.drv.images } }
        (((((s1.wr (K.DRV_PROG_STATE l.slot) 1).wr (K.DRV_PROG_ID l.slot) (field i 8 4)).wr (K.DRV_PROG_VERSION l.slot) (field i 12 4)).wr
          (K.DRV_PROG_ABI l.slot) (field i 4 2)).wro (K.DRV_PROG_HASH l.slot) (sha384 i)).wr K.DRV_LOAD_STATUS 3
      else (s0.wr K.DRV_LOAD_STATUS 5).raise F.DRV_LOAD (elemSub 8) := by
  unfold State.loadVerified
  rewrite [hload]
  exact if_neg (by rw [hverifying]; decide)

/-- A slot whose threads have stopped becomes empty at a later boundary (R353). -/
theorem State.unloadDone_of_stopped {slot : Nat} {e : Nat × Nat} (hunloading : s.drv.unloading.find? (fun e => e.1 == slot) = some e)
    (hlater : e.2 < s.now) (hidle : s.drv.threads.any (fun t => t.1 < 512 && t.2.busy && t.2.prog == slot) = false) :
    let s1 : State := { s with drv := { s.drv with unloading := s.drv.unloading.erase e, images := Sparse.erase slot s.drv.images } }
    s.unloadDone slot =
      ((((((s1.wr (K.DRV_PROG_STATE slot) 0).wr (K.DRV_PROG_ID slot) 0).wr (K.DRV_PROG_VERSION slot) 0).wr (K.DRV_PROG_ABI slot) 0).wro
        (K.DRV_PROG_HASH slot) (zeros 48)).wr (K.DRV_PROG_CLUSTERS slot) 0 |>.wro (K.DRV_PROG_FOLDS slot) (zeros 128)).residencyApplied := by
  unfold State.unloadDone
  rewrite [hunloading]
  exact if_neg (not_or.2 ⟨Nat.not_le.2 hlater, ne_true_of_eq_false hidle⟩)

end

/-- Settles O27: the descriptor finds its thread, the numbers of DRV_LOAD_CTRL are carried whole, the other writes reach Drover's objects, and an image or a
slot is where its event finds it.  An image's place in Commons is log entry 140. -/
theorem programCommands : Obligations.ProgramCommands := by
  refine ⟨?dispatch, ?start, ?chunk, ?finish, ?verified, ?abort, ?unload, ?unloaded, ?keyLock⟩
  case dispatch =>
    intro s v hturn d hdesc hsound w hplace
    exact .of_effect rfl (State.dispatch_of_place hturn hdesc hsound hplace)
  case start | finish | abort | unload =>
    intro s n hw e he
    exact .of_loadCtrl rfl (by decide) hw he
  case chunk =>
    intro s n chunk hw e he
    exact .of_octets rfl hw ((writeHook_drvLoadChunk n chunk s).trans he)
  case verified =>
    intro s l hload hverifying s0
    exact .of_effect rfl (State.loadVerified_of_verifying hload hverifying)
  case unloaded =>
    intro s slot e hunloading hlater hidle s1
    exact .of_effect rfl (State.unloadDone_of_stopped hunloading hlater hidle)
  case keyLock =>
    intro s n mask hw
    exact .of_write rfl hw (writeHook_drvProgKeyLock n _ s)

/-! ### Engines, hot pages and zeroing -/

section
variable {s : State}

theorem State.hotpagePublish_of_due (hfold : s.rd K.DRV_HOTPAGE_FOLD ≠ 0) (hdue : s.tallyInterval ≠ s.drv.hotAt) :
    let top := (sortBy (fun (e : Nat × Nat) => 2 ^ 32 - sat 32 e.2) s.drv.hot).take 256
    let tab := top.flatMap (fun e => leBytes 2 (e.1 / 2 ^ 52) ++ [0, 0] ++ leBytes 4 (sat 32 e.2) ++ leBytes 8 (e.1 % 2 ^ 52))
    s.hotpagePublish = ({ s with drv := { s.drv with hot := [], hotAt := s.tallyInterval } } : State).wro K.DRV_HOTPAGE_TABLE (fit 4096 tab) :=
  if_neg (not_or.2 ⟨hfold, hdue⟩)

theorem State.clusterRetest_of_waiting {c : Nat} {pass : Bool} (hwaits : s.flt.retest.contains c = true) :
    let s1 : State := { s with flt := { s.flt with retest := s.flt.retest.filter (· != c) } }
    s.clusterRetest c pass =
      if pass then ((s1.wrBit (K.DRV_CLUSTER_STATE c) 2 false).wrBit (K.DRV_CLUSTER_STATE c) 0 true).cicUnfence (4 + c)
      else (s1.fenceCluster c).raiseD F.HRD_SELFTEST (elem 8 c) 9 0 0 := if_neg (by rw [hwaits]; decide)

end

/-- Settles O28: each write reaches Drover's object, and each event an engine, a cluster or a place of memory that exists; ZERO_RELEASE names its operation
(log entry 139). -/
theorem engineManagementCommands : Obligations.EngineManagementCommands := by
  refine ⟨?zeroRelease, ?zeroRetry, ?hotpageFold, ?publish, ?fence, ?engine, ?cluster, ?sram, ?retest⟩
  case zeroRelease =>
    intro s e ok z _
    exact gives_of rfl
  case zeroRetry =>
    intro s n extent hw e he
    exact .of_write rfl hw ((writeHook_drvZeroRetry n _ s).trans he)
  case hotpageFold =>
    intro s n fold hw e he
    exact .of_write rfl hw ((writeHook_drvHotpageFold n _ s).trans he)
  case publish =>
    intro s hfold hdue top tab
    exact .of_effect rfl (State.hotpagePublish_of_due hfold hdue)
  case fence =>
    intro s n engine value hengine hone hw
    exact .of_guardedWrite rfl hengine hw ((writeHook_drvEngineFence n _ s hengine).trans (if_pos hone))
  case engine =>
    intro s e he
    exact .of_effect rfl (if_neg (Nat.not_le.2 he))
  case cluster =>
    intro s c hc
    exact .of_effect rfl (if_neg (Nat.not_le.2 hc))
  case sram =>
    intro s c k place there hc hthere
    have hgo : ¬(16 ≤ c ∨ (!there) = true) := not_or.2 ⟨Nat.not_le.2 hc, by rw [hthere]; decide⟩
    cases k with
    | corrected => exact .of_effect rfl (if_neg hgo)
    | uncorrectable => exact .of_effect rfl (if_neg hgo)
  case retest =>
    intro s c pass hwaits s1
    exact .of_effect rfl (State.clusterRetest_of_waiting hwaits)

end Sys2Proof.Machine
end

section
/-! SUPPORT. Device time and Commons (R410, R414, R466, R467, R472). -/

namespace Sys2Proof.Machine

section
variable {s : State} {m : PtpMsg}

/-- A Follow_Up of the Sync that waits moves the servo with the arrival of that Sync (R466). -/
theorem State.ptpFollowUp_of_waiting {w : PtpMsg} (hheard : s.ptpHeard m = true) (hwaits : s.clk.servo.waiting = some w) (hport : w.port = m.port)
    (hsource : w.source = m.source) (hseq : w.sequence = m.sequence) :
    s.ptpFollowUp m = s.servoUpdate w.port w.interval m.origin w.received := by
  simp only [State.ptpFollowUp, hheard, Bool.not_true, Bool.false_eq_true, if_false, hwaits]
  exact if_pos ⟨hport, hsource, hseq⟩

/-- A Delay_Resp of the best master gives the delay, where a Sync came before it (R466). -/
theorem State.ptpDelay_of_lastOrigin {o : Nat} (hheard : s.ptpHeard m = true) (hbest : s.bestMaster = some (m.port, m.source))
    (horigin : s.clk.servo.lastOrigin = some o) :
    s.ptpDelay m =
      { s with clk := { s.clk with servo := { s.clk.servo with
        delay := (((s.clk.servo.lastReceived : Int) - o) + ((m.received : Int) - m.origin)) / 2 } } } := by
  refine (if_neg (by simp [hheard, hbest])).trans ?_
  rewrite [horigin]
  rfl

end

/-- Settles O22: each message is heard, and from the best master or of the Sync that waits where its clause says so; the rest is the guard of each event. -/
theorem timeCommands : Obligations.TimeCommands := by
  refine ⟨?sync, ?followUp, ?delayResp, ?announce, ?holdover, ?unlock, ?ppsIn, ?ppsOut⟩
  case sync =>
    intro s m hheard hbest s1
    exact .of_effect rfl (if_neg (by simp [hheard, hbest]))
  case followUp =>
    intro s m hheard w hwaits hport hsource hseq
    exact .of_effect rfl (State.ptpFollowUp_of_waiting hheard hwaits hport hsource hseq)
  case delayResp =>
    intro s m hheard hbest o horigin d
    exact .of_effect rfl (State.ptpDelay_of_lastOrigin hheard hbest horigin)
  case announce =>
    intro s m hheard
    exact .of_effect rfl (if_neg (by simp [hheard]))
  case holdover =>
    intro s hlocked hlate hfirst
    exact .of_effect rfl (if_pos ⟨hlocked, hlate, by rw [hfirst]; rfl⟩)
  case unlock =>
    intro s hholdover hlate
    exact .of_effect rfl (if_pos ⟨hholdover, hlate⟩)
  case ppsIn =>
    intro s error hsource hrunning hpads
    exact .of_effect rfl (if_neg (by simp [hsource, hrunning, hpads]))
  case ppsOut =>
    intro s t henable hrunning hpads hedge
    exact .of_effect rfl (if_pos ⟨henable, hrunning, hpads, hedge⟩)

/-- Settles O23: each burst and report meets its guard, and a channel's number is below 32 (log entry 118 for the findings of a burst). -/
theorem commonsCommands : Obligations.CommonsCommands := by
  refine ⟨?burst, ?burstEnd, ?behind, ?temp, ?channel⟩
  case burst =>
    intro s findings hgranted hidle henable p s1
    exact .of_effect rfl (if_neg (not_or.2 ⟨Nat.not_lt.2 hgranted, not_or.2 ⟨ne_true_of_eq_false hidle, henable⟩⟩))
  case burstEnd =>
    intro s hbusy
    exact .of_effect rfl (if_neg (ne_true_of_eq_false hbusy))
  case behind =>
    intro s left hfirst henable hlate s1
    exact .of_effect rfl (if_neg (not_or.2 ⟨ne_true_of_eq_false hfirst, not_or.2 ⟨henable, Nat.not_le.2 hlate⟩⟩))
  case temp =>
    intro s c code out hc s1 hot others s2 s3
    exact .of_effect rfl (if_neg (Nat.not_le.2 hc))
  case channel =>
    intro s c hc
    exact .of_effect rfl (if_neg (Nat.not_le.2 hc))

end Sys2Proof.Machine
end

section
/-! SUPPORT. Sleep and the slot channels (R478 to R482, R487 to R498). -/

namespace Sys2Proof.Machine

/-! ### Which chapter takes the write -/

section
variable (n : Nat) (v : List Byte) (s : State)

theorem writeHook_hrdPstateRequest :
    writeHook n K.HRD_PSTATE_REQUEST v s = if leNat v = 2 then (Status.ok, s.fallowRequest) else s.winter := rfl

theorem writeHook_hrdPadRelease :
    writeHook n K.HRD_PAD_RELEASE v s = if leNat v = 1 then (Status.ok, s.padRelease) else (Status.range, s) := rfl

end

/-! ### Sleep -/

section
variable {s : State}

/-- With the P2 mode bits written and WAIT executed, the regions of the fallow set may be gated (R346, R478; log entry 114). -/
theorem State.fallowRequest_eq : s.fallowRequest = { s with pwr := { s.pwr with mode := 2, fallowAsked := true } } := by
  unfold State.fallowRequest State.enterMode
  exact if_pos rfl

/-- A region of the fallow set that meets its condition is gated (R478). -/
theorem State.fallowGate_of_ready {r : Nat} (hr : r < 19) (hready : s.isReady = true) (hasked : s.pwr.fallowAsked = true)
    (hset : bit (s.rd K.HRD_FALLOW_SET) r = true) (hawake : bit (s.rd K.HRD_FALLOWED) r = false) (hcond : s.fallowReady r = true) :
    s.fallowGate r = (s.wrBit K.HRD_FALLOWED r true).fallowSync := if_neg (by simp [hr, hready, hasked, hset, hawake, hcond])

/-- A gated region wakes where its bit was cleared, a descriptor needs it, or an interrupt is due to it (R478). -/
theorem State.fallowWake_of_need {r : Nat} (hr : r < 19) (hgated : bit (s.rd K.HRD_FALLOWED) r = true)
    (hneed : !bit (s.rd K.HRD_FALLOW_SET) r ∨ s.fallowNeed = some r ∨ (16 ≤ r ∧ !(s.cicRequests (r - 15)).isEmpty)) :
    s.fallowWake r = (s.wrBit K.HRD_FALLOWED r false).fallowSync := (if_neg (by simp [hr, hgated])).trans (if_pos hneed)

/-- A wake source of a sleeping device raises the rails, and is recorded as the cause (R481). -/
theorem State.wakeEvent_of_source {cause : Nat} (hasleep : s.pwr.sleep = .asleep) (hsource : s.wakeSource cause = true) :
    s.wakeEvent cause = (State.wakeRails { s with pwr := { s.pwr with attempt := 1 } }).wr K.HRD_WAKE_CAUSE cause :=
  if_neg (by simp [hasleep, hsource])

end

/-- Settles O52: the two numbers of HRD_PSTATE_REQUEST take their branches, each region and wake source meets its guard, and WAKE_COMPLETE names its
operation (log entries 107 and 114). -/
theorem sleepCommands : Obligations.SleepCommands := by
  refine ⟨?fallowRequest, ?gate, ?wake, ?wintering, ?timer, ?event, ?retry, ?complete, ?padRelease⟩
  case fallowRequest =>
    intro s n hw
    exact .of_write rfl hw ((writeHook_hrdPstateRequest n _ s).trans
      ((if_pos (by decide)).trans (congrArg (Prod.mk Status.ok) State.fallowRequest_eq)))
  case gate =>
    intro s r hr hready hasked hset hawake hcond
    exact .of_effect rfl (State.fallowGate_of_ready hr hready hasked hset hawake hcond)
  case wake =>
    intro s r hr hgated hneed
    exact .of_effect rfl (State.fallowWake_of_need hr hgated hneed)
  case wintering =>
    intro s n hok s1 hw
    exact .of_write rfl hw ((writeHook_hrdPstateRequest n _ s).trans ((if_neg (by decide)).trans (if_neg (by simp [hok]))))
  case timer =>
    intro s cause hasleep hsource
    exact .of_effect rfl (State.wakeEvent_of_source hasleep hsource)
  case event =>
    intro s cause hasleep hsource
    exact .of_effect rfl (State.wakeEvent_of_source hasleep hsource)
  case retry =>
    intro s booting hraises n
    exact .of_effect rfl (if_neg hraises)
  case complete =>
    intro s _ _
    exact gives_of rfl
  case padRelease =>
    intro s n value hone hw
    exact .of_write rfl hw ((writeHook_hrdPadRelease n _ s).trans (if_pos hone))

/-! ### Slot channels -/

section
variable {s : State} {n : Nat}

/-- 100 µs after PORT_PERST_N fell the gate goes off (R498). -/
theorem State.slotGateOff_of_due {t : Nat} (hn : n < 16) (hstop : (s.chan n).stopAt = some t) (hcode : s.slotCode n = 4) (hdue : t + 100000 ≤ s.clk.dtc) :
    s.slotGateOff n = (s.slotGate n).setSlotCode n 0 := by
  unfold State.slotGateOff
  rewrite [hstop]
  exact if_neg (by simp [hn, hcode, hdue])

end

/-- Settles O53: the channel exists, and each event finds the state, the measurement and the time that it asks for. -/
theorem slotCommands : Obligations.SlotCommands := by
  refine ⟨?ask, ?grant, ?on, ?pgAssert, ?pgRelease, ?currentLimit, ?expiry, ?short, ?overtemp, ?thermistor, ?rampTimeout, ?fet, ?pwrfail, ?pwrfailEnd,
    ?gateOff, ?timerStop⟩
  case ask =>
    intro s n hn hcode hasked hpower
    exact .of_guarded rfl hn (if_neg (by simp [hn, hcode, hasked, hpower]))
  case grant =>
    intro s n hn hcode hgranted s1 s2
    exact .of_guarded rfl hn (if_neg (by simp [hn, hcode, hgranted]))
  case on =>
    intro s n vout vin hn hcode hvin
    exact .of_guarded rfl hn (if_neg (by simp [hn, hcode, hvin]))
  case pgAssert =>
    intro s n hn c hlive hoff hidle hheld
    exact .of_guarded rfl hn (if_neg (by simp [hn, hlive, hoff, hidle, c, hheld]))
  case pgRelease =>
    intro s n vout hn hvout hidle hon
    exact .of_guarded rfl hn (if_neg (by simp [hn, hvout, hidle, hon]))
  case currentLimit =>
    intro s n current hn hlive hlimit hidle
    exact .of_guarded rfl hn (if_neg (by simp [hn, hlive, hlimit, hidle]))
  case expiry =>
    intro s n hn hlive hruns hdue
    exact .of_guarded rfl hn (if_neg (by simp [hn, hlive, hruns, hdue]))
  case short =>
    intro s n sense hn hlive hsense
    exact .of_guarded rfl hn (if_neg (by simp [hn, hlive, hsense]))
  case overtemp =>
    intro s n modelled therm hn on hlive hhot
    exact .of_guarded rfl hn (if_neg (not_or.2 ⟨Nat.not_le.2 hn, not_or.2 ⟨by simp [hlive], hhot⟩⟩))
  case thermistor =>
    intro s n reading hn henable hrange
    exact .of_guarded rfl hn (if_neg (not_or.2 ⟨Nat.not_le.2 hn, not_or.2 ⟨not_not_intro henable, hrange⟩⟩))
  case rampTimeout =>
    intro s n hn limit hcode hoff hdue
    exact .of_guarded rfl hn (if_neg (by simp [hn, hcode, hoff, limit, hdue]))
  case fet =>
    intro s n vout held hn hdead hvout hheld hblank
    exact .of_guarded rfl hn (if_neg (by simp [hn, hdead, hvout, hheld, hblank]))
  case pwrfail =>
    intro s n vin hn hvin hgood
    exact .of_guarded rfl hn (if_neg (by simp [hn, hvin, hgood]))
  case pwrfailEnd =>
    intro s n vin hn hvin hfailed
    exact .of_guarded rfl hn (if_neg (by simp [hn, hvin, hfailed]))
  case gateOff =>
    intro s n hn t hstop hcode hdue
    exact .of_guarded rfl hn (State.slotGateOff_of_due hn hstop hcode hdue)
  case timerStop =>
    intro s n hn hruns
    exact .of_guarded rfl hn (if_neg (by simp [hn, hruns]))

end Sys2Proof.Machine
end

section
/-! SUPPORT. Migration of functions, rebinding and the dirty bitmap's harvest (R393, R394, R397, R399, R404, R405). -/

namespace Sys2Proof.Machine

/-! ### The commands of PF_VFC_CMD -/

section
variable {s : State} {p i v : Nat}

/-- A command that the function's state accepts raises the function's interrupt source and takes its effect (R393). -/
theorem State.vfCommand_of_accepted {accepts : Vf → Bool} {go : Nat → State → State} (hentry : s.entryVf p i = some v)
    (hidle : (s.vf v).state = 1 ∨ (s.vf v).state = 3) (haccepts : accepts (s.vf v) = true) :
    s.vfCommand p i accepts go = go v (s.cicRaise (0x300 + v)) := by
  have hbusy : ¬((s.vf v).state = 2 ∨ (s.vf v).state = 4 ∨ (s.vf v).state = 5) := by omega
  unfold State.vfCommand
  rewrite [hentry]
  exact (if_neg hbusy).trans (if_pos haccepts)

/-- A frozen function whose descriptors have ended and whose writes have left is saved from (R393). -/
theorem State.freezeDone_of_idle (hpool : s.poolVf p i = some v) (hstate : (s.vf v).state = 2) (hrunning : (s.vf v).running.isEmpty = true)
    (hfetched : (s.vf v).descs.any (fun d => !d.here) = false) (hwritten : s.funcWrites (.vf p i) = false) :
    s.freezeDone p i = s.vfcEnd v 3 1 := by
  unfold State.freezeDone
  rewrite [hpool]
  exact if_neg (by simp only [hstate, hrunning, hfetched, hwritten]; decide)

/-- The image goes out to the host where it fits its buffer, the link is up and the IOMMU admits it (R393, R396). -/
theorem State.vfSave_of_admitted (hentry : s.entryVf p i = some v) (hstate : (s.vf v).state = 3)
    (hfits : ((s.cicRaise (0x300 + v)).vfImage p i v).length ≤ ((s.cicRaise (0x300 + v)).vf v).imageLen)
    (hup : (s.cicRaise (0x300 + v)).linkUp p = true)
    (hadmit : (s.cicRaise (0x300 + v)).tfbDenied ((s.cicRaise (0x300 + v)).tfbWho v) p ((s.cicRaise (0x300 + v)).vf v).imageAddr
      ((s.cicRaise (0x300 + v)).vfImage p i v).length permWrite = none) :
    let s1 := s.cicRaise (0x300 + v)
    s.vfSave p i =
      (s1.onVf v (fun x => { x with state := 4 })).hostSend (.vf p i)
        (.hostWrite p (s1.routingId (.vf p i)) (s1.vf v).imageAddr (s1.vfImage p i v)) := by
  refine (State.vfCommand_of_accepted hentry (.inr hstate) (by rw [hstate]; rfl)).trans ?_
  refine (if_neg (Nat.not_lt.2 hfits)).trans ((if_neg (by rw [hup]; decide)).trans ?_)
  rewrite [hadmit]
  rfl

/-- The host writes of a function that saves have left. -/
theorem State.saveDone_of_written {status : Nat} (hpool : s.poolVf p i = some v) (hstate : (s.vf v).state = 4)
    (hwritten : s.funcWrites (.vf p i) = false) : s.saveDone p i status = s.vfcEnd v 3 (if status = 0 then 1 else 4) := by
  unfold State.saveDone
  rewrite [hpool]
  exact if_neg (by simp only [hstate, hwritten]; decide)

/-- A bound function whose queues are disabled and whose operations have ended takes RESTORE, and its image is fetched (R393). -/
theorem State.vfRestore_of_admitted (hentry : s.entryVf p i = some v) (hstate : (s.vf v).state = 1) (hbound : s.vfFold v ≠ 0)
    (hidle : (s.vf v).inflight = 0) (hsqs : (s.vf v).sqs.all (fun q => !q.enable) = true) (hcqs : (s.vf v).cqs.all (fun q => !q.enable) = true)
    (hup : (s.cicRaise (0x300 + v)).linkUp p = true)
    (hadmit : (s.cicRaise (0x300 + v)).tfbDenied ((s.cicRaise (0x300 + v)).tfbWho v) p ((s.cicRaise (0x300 + v)).vf v).imageAddr
      (max 1 ((s.cicRaise (0x300 + v)).vf v).imageLen) permRead = none)
    (htracker : (s.cicRaise (0x300 + v)).noTracker false = false) :
    let s1 := s.cicRaise (0x300 + v)
    s.vfRestore p i = (s1.onVf v (fun x => { x with state := 5 })).hostFetch (.vf p i) v none (s1.vf v).imageAddr (s1.vf v).imageLen := by
  have haccepts : ((s.vf v).state == 1 && (s.vfFold v != 0) && (s.vf v).inflight == 0 && (s.vf v).sqs.all (fun q => !q.enable)
      && (s.vf v).cqs.all (fun q => !q.enable)) = true := by simp [hstate, hbound, hidle, hsqs, hcqs]
  unfold State.vfRestore
  rewrite [hentry]
  refine (State.vfCommand_of_accepted hentry (.inl hstate) haccepts).trans ((if_neg (by rw [hup]; decide)).trans ?_)
  rewrite [hadmit]
  exact if_neg (ne_true_of_eq_false htracker)

/-- The fetched image of a function that restores is checked and loaded, or the function is as it was (R397). -/
theorem State.restoreDone_of_fetched {status : Nat} {b : List Byte} {t : Tracker} {u : Option Nat} (hpool : s.poolVf p i = some v)
    (hfetch : s.fetchTracker (.vf p i) true = some (t, u)) (hstate : ((s.releaseTracker t).vf v).state = 5) :
    let s1 := s.releaseTracker t
    s.restoreDone p i status b =
      if status ≠ 0 then s1.vfcEnd v 1 4 else if s1.imageValid p v b then (s1.imageLoad v b).vfcEnd v 3 1 else s1.vfcEnd v 1 3 := by
  unfold State.restoreDone
  rewrite [hpool]
  dsimp only
  rewrite [hfetch]
  exact if_neg (not_not_intro hstate)

end

/-- Settles O46: each command finds its function in a state that accepts it, and each end the function whose command runs; images lie at untranslated
addresses (log entries 77 and 140). -/
theorem vfMigrationCommands : Obligations.VfMigrationCommands := by
  refine ⟨?freeze, ?freezeDone, ?save, ?saveDone, ?restore, ?restoreDone, ?resume⟩
  case freeze =>
    intro s p i v hentry hstate
    exact .of_effect rfl (State.vfCommand_of_accepted hentry (.inl hstate) (by rw [hstate]; rfl))
  case freezeDone =>
    intro s p i v hpool x hstate hrunning hfetched hwritten
    exact .of_effect rfl (State.freezeDone_of_idle hpool hstate hrunning hfetched hwritten)
  case save =>
    intro s p i v hentry hstate s1 x b hfits hup hadmit
    exact .of_effect rfl (State.vfSave_of_admitted hentry hstate hfits hup hadmit)
  case saveDone =>
    intro s p i status v hpool hstate hwritten
    exact .of_effect rfl (State.saveDone_of_written hpool hstate hwritten)
  case restore =>
    intro s p i v hentry hstate hbound hidle hsqs hcqs s1 x hup hadmit htracker
    exact .of_effect rfl (State.vfRestore_of_admitted hentry hstate hbound hidle hsqs hcqs hup hadmit htracker)
  case restoreDone =>
    intro s p i status b v hpool t u hfetch s1 hstate
    exact .of_effect rfl (State.restoreDone_of_fetched hpool hfetch hstate)
  case resume =>
    intro s p i v hentry hstate
    exact .of_effect rfl (State.vfCommand_of_accepted hentry (.inr hstate) (by rw [hstate]; rfl))

/-! ### Rebinding and the harvest -/

section
variable {s : State}

theorem writeHook_migHvCtrl (n : Nat) (v : List Byte) (s : State) : writeHook n K.MIG_HV_CTRL v s = s.hvCtrl (leNat v) := rfl

/-- A harvest starts over a range of a fold's bitmap that lies in it, toward a port whose PF exists (R404). -/
theorem State.hvStart_of_range (hidle : s.mig.harvest = none) (hfold : s.foldInUse (s.rd K.MIG_HV_FOLD) = true) (htenant : s.rd K.MIG_HV_FOLD ≠ 0)
    (hoff : s.rd K.MIG_HV_OFFSET % 64 = 0) (hlen : s.rd K.MIG_HV_LENGTH % 64 = 0) (hsome : s.rd K.MIG_HV_LENGTH ≠ 0)
    (hrange : s.rd K.MIG_HV_OFFSET + s.rd K.MIG_HV_LENGTH ≤ s.bitmapSize (s.rd K.MIG_HV_FOLD)) (haddr : s.rd K.MIG_HV_ADDR % 64 = 0)
    (hport : s.pfExists s.hvPort = true) (hzero : s.zeroingWaits (s.rd K.MIG_HV_FOLD) = false) :
    let h : Harvest := { fold := s.rd K.MIG_HV_FOLD, port := s.hvPort, addr := s.rd K.MIG_HV_ADDR, offset := s.rd K.MIG_HV_OFFSET,
                         len := s.rd K.MIG_HV_LENGTH, since := s.clk.dtc }
    s.hvStart =
      (Status.ok, (((({ s with mig := { s.mig with harvest := some h } } : State).wr K.MIG_HV_STATE (1 * 2 ^ 30)).wr K.MIG_HV_PAGES 0).wr
        K.MIG_HV_BYTES 0)) :=
  if_neg (by simp [hidle, hfold, htenant, hoff, hlen, hsome, hrange, haddr, hport, hzero])

/-- A harvest that runs stops after the line in progress (R405; log entry 66). -/
theorem State.hvStop_eq :
    s.hvStop =
      (Status.ok, match s.mig.harvest with
        | none => s
        | some h => s.tick.hvCopy h (s.hvReached h + 1) 2 0) := by
  unfold State.hvStop
  cases s.mig.harvest <;> rfl

theorem State.hvDone_of_harvest {status : Nat} {h : Harvest} (hruns : s.mig.harvest = some h) :
    s.hvDone status = if status = 0 then s.hvCopy h (h.len / 64) 2 0 else s.tick.hvCopy h (s.hvReached h) 3 (status % 256) := by
  unfold State.hvDone
  rewrite [hruns]
  rfl

end

/-- Settles O47: a rebind is at its phase and its time, and the harvest's control finds or makes a harvest (log entry 66). -/
theorem rebindAndHarvestCommands : Obligations.RebindAndHarvestCommands := by
  refine ⟨?owner, ?release, ?start, ?stop, ?done⟩
  case owner =>
    intro s l hactive hphase hdue
    exact .of_effect rfl (if_neg (by simp [hactive, hphase, hdue]))
  case release =>
    intro s k v l hactive hphase hdue
    exact .of_effect rfl (if_neg (by simp [hactive, hphase, hdue]))
  case start =>
    intro s n f o len hidle hfold htenant hoff hlen hsome hrange haddr hport hzero h hw
    exact .of_write rfl hw ((writeHook_migHvCtrl n _ s).trans
      ((if_pos (by decide)).trans (State.hvStart_of_range hidle hfold htenant hoff hlen hsome hrange haddr hport hzero)))
  case stop =>
    intro s n hw
    exact .of_write rfl hw ((writeHook_migHvCtrl n _ s).trans ((if_neg (by decide)).trans ((if_pos (by decide)).trans State.hvStop_eq)))
  case done =>
    intro s status h hruns
    exact .of_effect rfl (State.hvDone_of_harvest hruns)

end Sys2Proof.Machine
end

section
/-! SUPPORT. The queues and the registers of tenant functions (R362, R365 to R391). -/

namespace Sys2Proof.Machine

/-! ### Queue registers -/

section
variable {s : State} {p i v q value : Nat}

theorem onPoolVf_of_poolVf (hpool : s.poolVf p i = some v) (f : Nat → State → State) : onPoolVf p i f s = f v s := by
  unfold onPoolVf
  rewrite [hpool]
  rfl

/-- A command on the registers of an enabled VF, whose operation answers the effect `e`. -/
theorem Gives.of_poolVf {c : Instr} {e : State} {f : Nat → State → State} (hexec : exec c s = .next (settle (onPoolVf p i f s)))
    (hpool : s.poolVf p i = some v) (he : f v s = e) : Gives c s e := .of_effect hexec ((onPoolVf_of_poolVf hpool f).trans he)

/-- A tail inside an enabled queue that does not pass its head is taken (R372). -/
theorem State.sqTail_of_inRange (hq : q < 4) (hbells : s.vfBells v = true) :
    let t := value % 65536
    let sq := (s.vf v).sqs.getD q {}
    let n := queueEntries sq.size
    sq.enable = true → t < n → (t + n - sq.tail) % n + (sq.tail + n - sq.head) % n < n →
    s.sqTail v q value = s.onVf v (fun x => { x with sqs := x.sqs.set q { sq with tail := t } }) := by
  intro t sq n henable ht hroom
  refine (if_neg (by simp [hq, hbells])).trans ((if_neg (ne_true_of_eq_false (congrArg (!·) henable))).trans (if_neg ?_))
  exact not_or.2 ⟨Nat.not_le.2 ht, Nat.not_le.2 hroom⟩

/-- A head inside an enabled completion queue that does not pass its tail is taken (R372). -/
theorem State.cqHead_of_inRange (hq : q < 4) (hbells : s.vfBells v = true) :
    let h := value % 65536
    let c := (s.vf v).cqs.getD q {}
    let n := queueEntries c.size
    c.enable = true → h < n → (h + n - c.head) % n ≤ (c.tail + n - c.head) % n →
    s.cqHead v q value = s.onVf v (fun x => { x with cqs := x.cqs.set q { c with head := h } }) := by
  intro h c n henable hh hroom
  refine (if_neg (by simp [hq, hbells])).trans ((if_neg (ne_true_of_eq_false (congrArg (!·) henable))).trans (if_neg ?_))
  exact not_or.2 ⟨Nat.not_le.2 hh, Nat.not_lt.2 hroom⟩

/-- A submission queue of an open VF starts where it is disabled or stopped and its completion queue is enabled (R373). -/
theorem State.sqEnable_of_stopped (hq : q < 4) (hopen : s.vfOpen v = true) (hfree : s.flt.isolated.contains (elemVf v) = false) :
    let x := s.vf v
    let sq := x.sqs.getD q {}
    (sq.enable = false ∨ sq.stopped = true) → sq.err = false → s.sqActive v q = false → (x.cqs.getD (bits sq.size 9 8) {}).enable = true →
    s.sqEnable v q = s.putVf v { x with sqs := x.sqs.set q { sq with enable := true, stopped := false, head := 0, tail := 0, bad := false } } := by
  intro x sq hidle herr hactive hcq
  have hidle' : (sq.enable && !sq.stopped) = false := by rcases hidle with h | h <;> simp [h]
  refine (if_neg ?_).trans (if_neg ?_)
  · simp only [not_or, Nat.not_le, hq, hopen, hfree]
    decide
  · exact not_or.2 ⟨ne_true_of_eq_false hidle', not_or.2 ⟨ne_true_of_eq_false herr, not_or.2 ⟨ne_true_of_eq_false hactive, by rw [hcq]; decide⟩⟩⟩

end

/-- Settles O54: the function is enabled and open, the queue below 4, and what is written is in range; PF_VF_EVENT names the BAR's operation. -/
theorem queueRegisterCommands : Obligations.QueueRegisterCommands := by
  refine ⟨?sqTail, ?cqHead, ?sqEnable, ?sqDisable, ?cqEnable, ?cqDisable, ?vfErr, ?intCause, ?event, ?unmask⟩
  case sqTail =>
    intro s p i q value v hpool hq hbells t sq n henable ht hroom
    exact .of_poolVf rfl hpool (State.sqTail_of_inRange hq hbells henable ht hroom)
  case cqHead =>
    intro s p i q value v hpool hq hbells h c n henable hh hroom
    exact .of_poolVf rfl hpool (State.cqHead_of_inRange hq hbells henable hh hroom)
  case sqEnable =>
    intro s p i q v hpool hq hopen hfree x sq hidle herr hactive hcq
    exact .of_poolVf rfl hpool (State.sqEnable_of_stopped hq hopen hfree hidle herr hactive hcq)
  case sqDisable =>
    intro s p i q v hpool hq hopen s1
    exact .of_poolVf rfl hpool (if_neg (by simp [hq, hopen]))
  case cqEnable =>
    intro s p i q value v hpool hq hopen hfree w x c irq c1 c2
    refine .of_poolVf rfl hpool (if_neg ?_)
    simp only [not_or, Nat.not_le, hq, hopen, hfree]
    decide
  case cqDisable =>
    intro s p i q value v hpool hq hopen w x c irq c1 named
    exact .of_poolVf rfl hpool (if_neg (by simp [hq, hopen]))
  case vfErr =>
    intro s p i value v hpool hopen
    exact .of_poolVf rfl hpool (if_neg (by simp [hopen]))
  case intCause =>
    intro s p value hpf
    exact .of_effect rfl (if_neg (by simp [hpf]))
  case event =>
    intro s p off size value hlo hhi
    exact .of_effect rfl (if_neg (not_or.2 ⟨Nat.not_lt.2 hlo, Nat.not_le.2 hhi⟩))
  case unmask =>
    intro s f n hf hn t
    exact .of_effect rfl ((when_of_true hf _ s).trans (if_neg (Nat.not_le.2 hn)))

/-! ### Descriptors -/

section
variable {s : State} {v q : Nat} {d : Desc}

/-- A queue of a VF that dispatches passes the guard that NOP, RUN and FENCE share. -/
theorem State.guard_of_dispatches (hv : v < 1024) (hq : q < 4) (hgo : s.vfDispatches v = true) :
    ¬(1024 ≤ v ∨ 4 ≤ q ∨ (!s.vfDispatches v) = true) := by simp [hv, hq, hgo]

theorem State.nopDesc_of_head (hv : v < 1024) (hq : q < 4) (hgo : s.vfDispatches v = true) (hhead : s.headDesc v q = some d)
    (hop : field d.bytes 0 1 = 0) (hsound : (s.descFault v d.bytes).isSome = false) : s.nopDesc v q = s.descEnd v d 0 0 := by
  refine (if_neg (State.guard_of_dispatches hv hq hgo)).trans ?_
  rewrite [hhead]
  exact if_neg (not_or.2 ⟨not_not_intro hop, ne_true_of_eq_false hsound⟩)

/-- A RUN descriptor names a program that its function may run, or ends; it waits where no thread is free (R378). -/
theorem State.runDesc_of_head (hv : v < 1024) (hq : q < 4) (hgo : s.vfDispatches v = true) (hhead : s.headDesc v q = some d)
    (hop : field d.bytes 0 1 = 6) (hsound : (s.descFault v d.bytes).isSome = false) :
    s.runDesc v q =
      if (s.runSlot v d.bytes).isNone then s.descEnd v d 0x13 0
      else match s.placeFor v d.bytes with
        | some w => s.dispatchDesc v d w
        | none => s := by
  refine (if_neg (State.guard_of_dispatches hv hq hgo)).trans ?_
  rewrite [hhead]
  exact (if_neg (not_or.2 ⟨not_not_intro hop, ne_true_of_eq_false hsound⟩)).trans rfl

/-- A FENCE at the head of its queue ends once nothing of the queue runs, and tells whether one before it failed (R377). -/
theorem State.fenceDesc_of_head (hv : v < 1024) (hq : q < 4) (hgo : s.vfDispatches v = true) (hhead : s.headDesc v q = some d)
    (hop : field d.bytes 0 1 = 7) (hsound : (s.descFault v d.bytes).isSome = false) (hdone : (s.vf v).running.any (fun r => r.2 == q) = false) :
    s.fenceDesc v q =
      (s.descEnd v d 0 (b2n ((s.vf v).sqs.getD q {}).bad)).onVf v
        (fun x => { x with sqs := x.sqs.set q { x.sqs.getD q {} with bad := false } }) := by
  refine (if_neg (State.guard_of_dispatches hv hq hgo)).trans ?_
  rewrite [hhead]
  exact if_neg (not_or.2 ⟨not_not_intro hop, not_or.2 ⟨ne_true_of_eq_false hsound, ne_true_of_eq_false hdone⟩⟩)

theorem State.queueEcc_of_vf {k : EccKind} (hv : v < 1024) :
    s.queueEcc v k =
      match k with
      | .corrected => s.raise F.TFB_QUEUE_ECC (elemVf v)
      | .uncorrectable =>
        let s1 := s.abortDescs v (fun _ => true)
        let s2 := forEach (List.range 4) (fun s q => if ((s.vf v).sqs.getD q {}).enable then s.queueStop v q true 6 else s) s1
        let s3 := forEach (List.range 4) (fun s q => if ((s.vf v).cqs.getD q {}).enable then s.queueStop v q false 6 else s) s2
        s3.raiseGrave F.TFB_QUEUE_ECC (elemVf v) := by
  refine (if_neg (Nat.not_le.2 hv)).trans ?_
  cases k <;> rfl

end

/-- Settles O55: a descriptor of its kind is at the head of a queue that dispatches, and the other events name a queue or a VF that exists;
DESCRIPTOR_FETCH and DESCRIPTOR_FETCHED name their operations. -/
theorem descriptorCommands : Obligations.DescriptorCommands := by
  refine ⟨?fetch, ?fetched, ?nop, ?run, ?fence, ?cplWrite, ?modTimer, ?ecc⟩
  case fetch =>
    intro s _ _ v _
    exact gives_of rfl
  case fetched =>
    intro s v status bytes
    exact gives_of rfl
  case nop =>
    intro s v q hv hq hgo d hhead hop hsound
    exact .of_effect rfl (State.nopDesc_of_head hv hq hgo hhead hop hsound)
  case run =>
    intro s v q hv hq hgo d hhead hop hsound
    exact .of_effect rfl (State.runDesc_of_head hv hq hgo hhead hop hsound)
  case fence =>
    intro s v q hv hq hgo d hhead hop hsound hdone bad
    exact .of_effect rfl (State.fenceDesc_of_head hv hq hgo hhead hop hsound hdone)
  case cplWrite =>
    intro s v q hv hq henable
    refine .of_effect rfl (if_neg ?_)
    simp only [not_or, Nat.not_le, hv, hq, henable]
    decide
  case modTimer =>
    intro s v q hv hq htimer
    exact .of_effect rfl (if_neg (not_or.2 ⟨Nat.not_le.2 hv, not_or.2 ⟨Nat.not_le.2 hq, not_not_intro htimer⟩⟩))
  case ecc =>
    intro s v k hv
    exact .of_effect rfl (State.queueEcc_of_vf hv)

/-! ### Functions -/

section
variable {s : State} {f : Func} {a t : Nat} {k : Tracker} {granted : Bool}

/-- A command on a function that exists, whose operation answers the effect `e`. -/
theorem Gives.of_function {c : Instr} {e : State} {g : State → State} (hexec : exec c s = .next (settle (when (s.hasFunc f) g s)))
    (hf : s.hasFunc f = true) (he : g s = e) : Gives c s e := .of_effect hexec ((when_of_true hf g s).trans he)

/-- A translation that no request awaits is late (R159). -/
theorem State.translationDone_of_noTracker (htracker : s.atsTracker f (a / s.atsUnit f) = none) :
    s.translationDone f a t granted = s.lateResponse (funcPort f) [] := by
  simp only [State.translationDone, htracker]

/-- A translation that no access waits for any longer only releases its tracker. -/
theorem State.translationDone_of_noWait (htracker : s.atsTracker f (a / s.atsUnit f) = some k)
    (hwaits : (s.releaseTracker k).tfb.waits.any (fun w => w.f == f && w.addr / s.atsUnit f == a / s.atsUnit f) = false) :
    s.translationDone f a t granted = s.releaseTracker k := by
  simp only [State.translationDone, htracker, hwaits, Bool.not_false, if_true]

/-- The accesses that wait for a page fail where the host grants none (R389). -/
theorem State.translationDone_of_refused (htracker : s.atsTracker f (a / s.atsUnit f) = some k)
    (hwaits : (s.releaseTracker k).tfb.waits.any (fun w => w.f == f && w.addr / s.atsUnit f == a / s.atsUnit f) = true) :
    s.translationDone f a t false = (s.releaseTracker k).atsFails f (a / s.atsUnit f) := by
  simp only [State.translationDone, htracker, hwaits, Bool.not_true, Bool.not_false, Bool.false_eq_true, if_false, if_true]

end

/-- Settles O56: the function exists, its reset is due, or its translation finds the tracker and the accesses that its clause names (log entry 77 for the
entry that a full cache gives up). -/
theorem functionCommands : Obligations.FunctionCommands := by
  refine ⟨?vfEnable, ?majorSelect, ?initiateFlr, ?flrComplete, ?d3hot, ?d0, ?late, ?noWait, ?refused, ?granted, ?invalidate, ?configWrite⟩
  case vfEnable =>
    intro s p on hpf x
    exact .of_effect rfl (if_neg (by simp [hpf]))
  case majorSelect =>
    intro s p value m hpf hoff hm
    exact .of_effect rfl (if_neg (not_or.2 ⟨by simp [hpf], not_or.2 ⟨ne_true_of_eq_false hoff, Nat.not_lt.2 hm⟩⟩))
  case initiateFlr =>
    intro s f hf
    exact .of_function rfl hf rfl
  case flrComplete =>
    intro s v x left hstate hdue s1 s2 on s3 s4
    exact .of_effect rfl (if_neg (not_or.2 ⟨not_not_intro hstate, ne_true_of_eq_false hdue⟩))
  case d3hot =>
    intro s f hf on
    exact .of_function rfl hf rfl
  case d0 =>
    intro s f hf on
    exact .of_function rfl hf rfl
  case late =>
    intro s f a t granted htracker
    exact .of_effect rfl (State.translationDone_of_noTracker htracker)
  case noWait =>
    intro s f a t granted page k htracker hwaits
    exact .of_effect rfl (State.translationDone_of_noWait htracker hwaits)
  case refused =>
    intro s f a t granted page k htracker hwaits hrefused
    subst hrefused
    exact .of_effect rfl (State.translationDone_of_refused htracker hwaits)
  case granted =>
    intro s f a t granted u page here k htracker s1 hwaits hgranted kept mine left s2 s3 s4
    subst hgranted
    refine .of_effect rfl ?_
    unfold State.translationDone
    extract_lets
    rewrite [htracker]
    exact (if_neg (by rw [hwaits]; decide)).trans (if_neg (by decide))
  case invalidate =>
    intro s f a size hf u hit pages
    exact .of_function rfl hf rfl
  case configWrite =>
    intro s f c hf
    exact .of_function rfl hf rfl

end Sys2Proof.Machine
end
